-- ==== Sys2Proof/Word.lean ====
section
/-! DEFINITION. The word types of the HX96 model. -/

namespace Sys2Proof

/-- A 32-bit register word. -/
abbrev Word := BitVec 32

/-- One byte of a message, an image or a memory. -/
abbrev Byte := BitVec 8

end Sys2Proof
end

