-- ==== Sys2Proof/Syntax.lean ====
section
/-! DEFINITION. The commands of the HX96 as a block: one constructor per row of spec/opcode_table.json. An operand is what
the sender states (an address, a value, an argument of the command word) or what the outside world showed the HX96
when the event happened (bytes that a flash device returned, levels of pins, which unit failed). -/

namespace Sys2Proof

/-- What the two planes showed for one 64-byte line of a read stream: a failed check in plane A or B (MAC, hot-tier word
or byte parity, R191), the first byte at which two passing lines differ, an uncorrectable hot-tier word that was
refilled from its DRAM line (R157), and a line that had not arrived at the latency bound (R193). `line` counts lines of the stream from its first byte's line. -/
structure LineObs where
  line : Nat
  failA : Bool
  failB : Bool
  diff : Option Nat
  hotA : Bool
  hotB : Bool
  lateA : Bool
  lateB : Bool
  deriving DecidableEq, Repr

/-- One host frame at a SPI-NOR or xSPI channel port, from the fall of CS# to its rise (R181, R182, R203). `opcode` is the
instruction byte, none where the frame starts with its address under continuous read. `phase` says where CS# rose: 0 in
the instruction or address, 1 in the wait cycles, 2 in the data or after the last phase; `whole` says that it rose on a
byte boundary (a byte pair in 8D). `din` are the data bytes received, `dout` the number clocked out; `shortAt` is the
first byte that was not in the transmit register when due (R189). `lines` are the planes' faults, counted from the first line that the
frame reads, and `decDiffer` says that the planes' decision words differed (R235). `hold` gives the byte times of the data phase for which
HOLD# was low: the first and their number (R184). `recheck` are the planes' faults in the other lines of the blocks that a write-through
touches, counted from the device's first line (R153). -/
structure Frame where
  ch : Nat
  opcode : Option Nat
  addr : Nat
  modeBits : Nat
  din : List Byte
  dout : Nat
  phase : Nat
  whole : Bool
  wpLow : Bool
  shortAt : Option Nat
  lines : List LineObs
  decDiffer : Bool
  hold : Nat × Nat := (0, 0)
  recheck : List LineObs := []
  deriving DecidableEq, Repr

/-- What reading a root configuration flash copy showed (R64, R65): SFDP readable, the device size it reports, the
directory, the manifests and images, and the check in progress when a read failed or took more than 30 ms. -/
structure CopyImage where
  sfdpOk : Bool
  devSize : Nat
  dir : List Byte
  fwMan : List Byte
  fwImg : List Byte
  cfgMan : List Byte
  cfgImg : List Byte
  timeoutAt : Option Nat
  deriving DecidableEq, Repr

/-- What one burst of the load engine brought on an F-bus (R130 to R134): a tree chunk of the entries of `level` from entry
`first`, or leaves from leaf `first`; the bytes; the lanes whose hash a second lane contradicted; the bytes of the
second read where R134 made one; and the leaves or groups, counted from the burst's first, in which a lane met a poisoned word of the
read-ahead buffer (R276). -/
structure Burst where
  fb : Nat
  tree : Bool
  level : Nat
  first : Nat
  data : List Byte
  badLanes : List Nat
  reread : List Byte
  poison : List Nat := []
  deriving DecidableEq, Repr


/-- What discovery read of one flash device (R249): entry index; whether anything answered at step 2; the SFDP signature; the
JEDEC ID; the density and the smallest erase unit as powers of two; the other erase types offered; whether the xSPI table
and an 8D sequence are there; the page size as a power of two; erase suspend; and the taps that passed in step 5. -/
structure DevObs where
  dev : Nat
  answered : Bool
  signature : Bool
  jedec : List Byte
  density : Nat
  erase : Nat
  types : List Nat
  xspi : Bool
  sw8d : Bool
  page : Nat
  suspendOk : Bool
  taps : List Nat
  deriving DecidableEq, Repr

/-- Who makes an access to the Kiosk (R338, R339): TRANSPORT 1 PCIe BAR, 2 I3C, 3 SMBus or 4 MCTP, the PORT in the numbering
of the Tenant Binding Table, and the requester ID or EID. -/
structure Access where
  transport : Nat
  port : Nat
  source : Nat
  deriving DecidableEq, Repr

/-- Where an MCTP message came from (R338, R354): 0 PCIe, 1 to 8 I3C port + 1, 9 eSPI OOB; and the source EID. -/
structure Origin where
  port : Nat
  eid : Nat
  deriving DecidableEq, Repr

/-- One MCTP packet as received (R349, R352): its transport, the eSPI channel or 0xFF, destination and source EID, tag and tag
owner, start and end of message, packet sequence number, its bytes, and whether an integrity check failed (R351). -/
structure Packet where
  port : Nat
  ch : Nat
  dest : Nat
  src : Nat
  tag : Nat
  owner : Bool
  som : Bool
  eom : Bool
  seq : Nat
  data : List Byte
  bad : Bool
  deriving DecidableEq, Repr

/-- ERROR codes of DSP0274 for requests that break that standard (R357, R359). -/
inductive SpdmErr where
  | invalidRequest | unexpectedRequest | unsupportedRequest | sessionLimitExceeded | sessionRequired | versionMismatch
  | requestTooLarge | responseTooLarge | largeResponse | other (n : Nat)
  deriving DecidableEq, Repr

/-- Completion codes of DSP0267 that the update commands answer with (R368, R369). -/
inductive PldmErr where
  | alreadyInUpdateMode
  | unableToInitiateUpdate
  | retryRequestUpdate
  | notInUpdateMode
  | invalidStateForCommand
  deriving DecidableEq, Repr

/-- The commands and events of the HX96. -/
inductive Instr where
  /-- REGISTER_WRITE (R4): A write to a register field that has no row of its own acts on each field by its access code. -/
  | registerWrite (addr value width requester : Nat)
  /-- DEBUG_READ (R6): A read with the debug attribute returns the value an ordinary read would give and changes no state. -/
  | debugRead (addr : Nat)
  /-- BUS_ACCESS_FAULT (R7): A misaligned, wrong-width, out-of-map or boot-ROM-write access has no effect and raises a bus access fault. -/
  | busAccessFault (addr width : Nat) (write : Bool)
  /-- MAIN_POWER_GOOD (R48): The rising edge of SYS_PWRGD with supplies valid ends reset and starts the start sequence in ASSEMBLY. -/
  | mainPowerGood (testen : Bool) (banks : List Nat)
  /-- PWRGD_FALL (R48): SYS_PWRGD low for at least 1 µs places the device in reset at once. -/
  | pwrgdFall
  /-- SUPPLY_MONITOR_DROP (R58): A VDD, VDD_SRAM or VDDIO_SYB monitor dropping out causes a device reset at once. -/
  | supplyMonitorDrop (supply : Nat)
  /-- MAIN_POWER_LOSS (R89): Loss of VDD, VDD_SRAM or VDDIO_SYB moves the device into DORMANT. -/
  | mainPowerLoss (supply : Nat)
  /-- SYS_RST_N_ASSERT (R49): A low level on SYS_RST_N of 1 µs or longer requests a device reset and holds the device in reset. -/
  | sysRstNAssert
  /-- SYS_RST_N_RELEASE (R61): SYS_RST_N rising ends the reset and starts the start sequence timed from that moment. -/
  | sysRstNRelease (testen : Bool)
  /-- RSTPIN_STUCK_TIMEOUT (R83): SYS_RST_N still low 10 s after its fall sets RSTPIN_STUCK and PIN_IGNORED and leaves reset. -/
  | rstpinStuckTimeout (testen : Bool)
  /-- PIN_IGNORED_CLEAR (R83): After SYS_RST_N has been high without a break for 100 ms, PIN_IGNORED clears. -/
  | pinIgnoredClear
  /-- DEFERRED_DEVICE_RESET (R59): A device reset requested during an atomic window takes effect when the window closes. -/
  | deferredDeviceReset (testen : Bool)
  /-- PLL_LOCK (R61): A PLL locks to its reference and the divided clocks run from the active PLL. -/
  | pllLock (pll : Nat)
  /-- OTP_SENSE_DONE (R61): The OTP is sensed, trims and repair records are applied and SPARE_STAT.VALID is set. -/
  | otpSenseDone (corrected : List (Nat × Nat)) (unreadable : List Nat)
  /-- ROM_START (R61): TCM is filled and pair 0 fetches its first instruction from the boot ROM. -/
  | romStart (bad : List Nat)
  /-- COPY_READ_DONE (R65): Reading and checking of a root configuration flash copy ends with a pass or a failing check. -/
  | copyReadDone (img : CopyImage)
  /-- ROM_RECOVERY_IMAGE (R70): An image of class 254 or 255 received in ROM recovery is verified, written to copy B and followed by a device reset. -/
  | romRecoveryImage (cls : Nat) (manifest image : List Byte)
  /-- HANDOVER (R77): The ROM derives layers 0 and 1, sets its locks, writes the handover block and enters firmware. -/
  | handover
  /-- TRAINING_DONE (R78): An LPDDR5X training attempt ends with pass, fail or capacity mismatch. -/
  | trainingDone (iface : Nat) (pass : Bool) (cap : Nat)
  /-- ASSEMBLY_END (R82): With configuration applied, locks set and a plane SERVING, the device enters GATHER or LOCKDOWN. -/
  | assemblyEnd (badLanes : List Nat) (badFe : List (Nat × Nat)) (levels : Nat)
  /-- LEDGER_REPLAY_DONE (R450): The replay ends with an outcome that starts, completes or refuses the ledger. -/
  | ledgerReplayDone (h0 h1 : List Byte)
  /-- DEV_RESET (R85): SYSCTL_BOOT_CTL.DEV_RESET with the right KEY starts a device reset. -/
  | devReset (word : Nat) (testen : Bool)
  /-- BV_RESTART (R58): SYSCTL_BOOT_CTL.BV_RESTART with the right KEY starts a Belvedere restart. -/
  | bvRestart (word : Nat)
  /-- WDT_KICK (R60): A write of SYSCTL_WDT_KICK with KEY 0xC3D2 restarts the watchdog count; any other key is journalled. -/
  | wdtKick (word : Nat)
  /-- WDT_EXPIRY (R60): The Belvedere watchdog reaching its period starts a Belvedere restart and sets BV_WDT. -/
  | wdtExpiry
  /-- FAILOVER (R26): A lockstep or TCM failure of pair 0 makes pair 1 take over within 200 µs. -/
  | failover
  /-- REFERENCE_LOST (R28): A reference monitor declares its reference lost and the selector may switch to the other PLL. -/
  | referenceLost (ref : Nat)
  /-- PLL_UNLOCK (R28): A PLL loses lock and, if active, the divided clocks switch or enter holdover. -/
  | pllUnlock (pll : Nat)
  /-- SWITCH_REQ (R28): A write of SWITCH_REQ moves the divided clocks to the other PLL if it is locked. -/
  | switchReq
  /-- PLANE_ISOLATION (R23): A plane fault isolates the plane hitlessly, sets SIMPLEX and raises the plane interrupt. -/
  | planeIsolation (plane cause : Nat)
  /-- REBUILD_A (R25): A write of REBUILD_A starts a rebuild of Plane A or is refused. -/
  | rebuildA (word : Nat)
  /-- REBUILD_B (R25): A write of REBUILD_B starts a rebuild of Plane B or is refused. -/
  | rebuildB (word : Nat)
  /-- REBUILD_DONE (R25): A rebuild copy ends and the plane returns to SERVING at a transaction boundary. -/
  | rebuildDone (plane : Nat)
  /-- RETRAIN_0 (R86): A retrain command for interface 0 starts training or is refused. -/
  | retrain0 (word : Nat)
  /-- RETRAIN_1 (R86): A retrain command for interface 1 starts training or is refused. -/
  | retrain1 (word : Nat)
  /-- BANK_CLASS_CHANGE (R57): A bank in use changing class has its outputs floated and inputs frozen within 1 µs. -/
  | bankClassChange (bank cls : Nat)
  /-- BANK_RESUME (R57): A bank matching its declared voltage again for 1 ms resumes and its channels restart. -/
  | bankResume (bank : Nat)
  /-- PE_PERST_N_CHANGE (R46): PE_PERST_N asserted takes the PCIe link down and discards its reassembly contexts. -/
  | pePerstNChange (level : Bool)
  /-- HOLD (R115): GATE HOLD takes a RELEASED or VERIFYING domain to HELD. -/
  | gateHold (dom : Nat)
  /-- RELEASE (R115): GATE RELEASE moves a HELD or QUARANTINED domain to VERIFYING. -/
  | gateRelease (dom : Nat)
  /-- RESET_CYCLE (R115): GATE RESET_CYCLE starts a reset cycle of a RELEASED domain. -/
  | resetCycle (dom : Nat)
  /-- RECOVER (R115): GATE RECOVER starts recovery of a PARKED domain with a Nursery source. -/
  | recover (dom : Nat)
  /-- QUARANTINE (R115): GATE QUARANTINE moves a domain to QUARANTINED. -/
  | quarantine (dom : Nat)
  /-- ENTER_LOCKDOWN (R115): GATE ENTER_LOCKDOWN with the mode generation triggers LOCKDOWN with LD_CAUSE 0x04. -/
  | enterLockdown (dom : Nat)
  /-- HOLD_STEP (R109): After its delay, the POWER_EN lines of the next lower step are deasserted. -/
  | holdStep (dom : Nat)
  /-- DOMAIN_PASS (R138): The load engine reports that every leaf of every region of a domain was admitted. -/
  | domainPass (dom : Nat)
  /-- RELEASE_DELAY_EXPIRY (R96): RELEASE_DELAY after the latest predecessor release expires and the waiting domain may be released. -/
  | releaseDelayExpiry (dom : Nat)
  /-- RELEASE_STEP (R108): After its STEP_DELAY, and power-good settle where needed, a release step drives its lines. -/
  | releaseStep (dom : Nat)
  /-- PG_TIMEOUT (R108): A power-good wait exceeding 1,000 ms runs the hold sequence and sets PG_TIMEOUT. -/
  | pgTimeout (dom : Nat)
  /-- PCL_INPUT_CHANGE (R107): An input PCL takes a new value after holding it for FILTER µs. -/
  | pclInputChange (pcl : Nat) (level : Bool)
  /-- RST_PULSE_END (R111): The reset-cycle pulse ends and the release sequence reruns from the first RESET_OUT step. -/
  | rstPulseEnd (dom : Nat)
  /-- RSTREQ_STUCK (R112): A reset request held for RSTREQ_LIMIT ends the pulse and is ignored. -/
  | rstreqStuck (pcl : Nat)
  /-- RSTREQ_IGNORED_CLEAR (R112): A reset request line deasserted for 100 ms without a break is honoured again. -/
  | rstreqIgnoredClear (pcl : Nat)
  /-- MANIFEST_READ_DONE (R126): The load engine finishes reading a manifest and checks its structure. -/
  | manifestReadDone (dom : Nat) (bytes : List Byte)
  /-- MAN_READY (R128): The next undecided manifest is delivered to the TCM buffer once the previous one is decided. -/
  | manReady
  /-- ACCEPT (R142): Firmware accepts the buffered manifest; checks 7 and 8 begin and the extents are created. -/
  | accept (dom : Nat)
  /-- REJECT (R142): Firmware rejects the buffered manifest with a failure code. -/
  | reject (dom code : Nat)
  /-- REVERIFY (R141): A REVERIFY job reads and checks every region of a RELEASED domain. -/
  | reverify (dom : Nat)
  /-- LOADER_ABORT (R142): LOADER ABORT ends a REVERIFY job with ABORTED. -/
  | loaderAbort (dom : Nat)
  /-- LOAD_BURST_DONE (R130): A data or tree burst arrives and its chunks and leaves are hashed and admitted or failed. -/
  | loadBurstDone (b : Burst)
  /-- BURST_TIMEOUT (R132): A burst not completed in time is retried, failing with TIMEOUT after three retries. -/
  | burstTimeout (dom fb : Nat)
  /-- REVERIFY_DONE (R141): A REVERIFY job ends after reading its last region. -/
  | reverifyDone (dom : Nat)
  /-- STAGE_ALLOC (R175): A staging object is allocated with its own epoch. -/
  | stageAlloc
  /-- STAGE_WRITE (R175): A span is copied from TCM into a staging object in both planes. -/
  | stageWrite (handle : Nat)
  /-- STAGE_HASH (R175): The Merkle root of a staged span is computed into ORANGERY_DIGESTi. -/
  | stageHash (handle : Nat)
  /-- STAGE_FREE (R175): A staging object is freed and its epoch retired. -/
  | stageFree (handle : Nat)
  /-- REVOKE (R175): A domain's extents take new epochs and its manifest goes out of force. -/
  | revoke (dom : Nat)
  /-- ORANGERY_ABORT (R175): ORANGERY ABORT ends a running STAGE_WRITE or STAGE_HASH. -/
  | orangeryAbort
  /-- ORANGERY_CMD_DONE (R175): A running ORANGERY command ends and raises CMD_DONE. -/
  | orangeryCmdDone
  /-- REFETCH_DONE (R160): A refetched leaf is hashed and, on a match, rewritten in every SERVING plane. -/
  | refetchDone (dom region leaf : Nat) (data reread : List Byte)
  /-- LOST_LEAF_REFETCH (R161): With the lost-leaf table full, a failing leaf is refetched again at most once per second. -/
  | lostLeafRefetch (dom region leaf : Nat) (data reread : List Byte)
  /-- REKEY_START (R154): A queued re-encryption of a saturated region starts with a new epoch. -/
  | rekeyStart
  /-- REKEY_DONE (R154): The re-encryption walk passes the region's last block. -/
  | rekeyDone
  /-- LEDGER_APPEND_DONE (R166): A WRITE entry is programmed and read back, releasing the physical operation. -/
  | ledgerAppendDone (typ : Nat) (ok : Bool) (code : Nat) (differ : Bool)
  /-- LEDGER_SWITCH_RETRY (R168): A failed ledger switch is repeated from step 1 once per second. -/
  | ledgerSwitchRetry
  /-- RV_LEAF (R172): The re-verifier reads, hashes and compares one leaf, setting DIVERGED on a mismatch. -/
  | rvLeaf (dom region leaf : Nat) (data reread : List Byte) (badA badB : Bool)
  /-- READ (R230): A host READ frame is decoded, matched per block and served from the shadow, hot tier or fill. -/
  | read (f : Frame)
  /-- PROGRAM (R232): A host PROGRAM frame is executed under its region action. -/
  | program (f : Frame)
  /-- ERASE_SECTOR (R232): A host sector erase frame is executed under its region action. -/
  | eraseSector (f : Frame)
  /-- ERASE_CHIP (R223): A host chip erase frame is executed under GLOBAL_ACT nibble 3. -/
  | eraseChip (f : Frame)
  /-- WRITE_ENABLE (R238): A write-enable frame sets WEL. -/
  | writeEnable (f : Frame)
  /-- WRITE_DISABLE (R238): A write-disable frame clears WEL. -/
  | writeDisable (f : Frame)
  /-- READ_STATUS (R238): A status read returns emulated register ARG repeatedly. -/
  | readStatus (f : Frame)
  /-- WRITE_STATUS (R238): A status write sets emulated registers under WMASK and sets WIP for T_WRSR. -/
  | writeStatus (f : Frame)
  /-- READ_ID (R238): An ID read returns JEDEC_ID then zeros. -/
  | readId (f : Frame)
  /-- READ_SFDP (R185): An SFDP read returns the program's SFDP image, 0xFF beyond its end. -/
  | readSfdp (f : Frame)
  /-- SUSPEND (R196): A suspend frame while WIP is set sets SUSPENDED after the emulated latency. -/
  | suspend (f : Frame)
  /-- RESUME (R196): A resume frame clears SUSPENDED and sets WIP again. -/
  | resume (f : Frame)
  /-- RESET_ENABLE (R239): A reset-enable frame arms a following reset frame. -/
  | resetEnable (f : Frame)
  /-- RESET (R205): A software reset frame resets the emulated device. -/
  | flashReset (f : Frame)
  /-- MODE_ADDR4_SET (R239): MODE sub-operation 0x01 sets ADDR4. -/
  | modeAddr4Set (f : Frame)
  /-- MODE_ADDR4_CLEAR (R239): MODE sub-operation 0x02 clears ADDR4. -/
  | modeAddr4Clear (f : Frame)
  /-- MODE_QPI_SET (R239): MODE sub-operation 0x03 sets QPI. -/
  | modeQpiSet (f : Frame)
  /-- MODE_QPI_CLEAR (R239): MODE sub-operation 0x04 clears QPI. -/
  | modeQpiClear (f : Frame)
  /-- MODE_OCTAL_8D_SET (R239): MODE sub-operation 0x05 sets OCTAL_8D. -/
  | modeOctal8dSet (f : Frame)
  /-- MODE_OCTAL_8D_CLEAR (R239): MODE sub-operation 0x06 clears OCTAL_8D. -/
  | modeOctal8dClear (f : Frame)
  /-- MODE_FAIL_CLEAR (R239): MODE sub-operation 0x07 clears PFAIL and EFAIL. -/
  | modeFailClear (f : Frame)
  /-- INVALID (R219): A frame decoded as INVALID is ignored and counted. -/
  | invalidFrame (f : Frame)
  /-- LINE_LATE (R193): At the latency bound with one PASS line, that line is delivered without compare and LATE counted. -/
  | lineLate (ch plane : Nat)
  /-- LATE_LINE_ARRIVAL (R193): A plane's late line is checked against what was delivered and repaired if it differs. -/
  | lateLineArrival (ch plane dom region off : Nat) (bad : Bool)
  /-- ALERT_PULSE_END (R202): In pulse mode CHn_ALERT_N deasserts 2 µs after the latest cause. -/
  | alertPulseEnd (ch : Nat)
  /-- ALERT_CLEAR (R212): CHn_ALERT_CTL.CLEAR deasserts the alert and clears CAUSE. -/
  | alertClear (ch word : Nat)
  /-- WIP_CLEAR (R194): WIP clears at the later of the emulated minimum and the completion point. -/
  | wipClear (ch : Nat)
  /-- FE_TAKEOVER (R179): A front-end parity failure makes the other instance take over at the next SCK edge. -/
  | feTakeover (ch : Nat)
  /-- CHN_RST_N_PULSE (R205): CHn_RST_N low for 200 ns or longer resets the emulated device. -/
  | chnRstNPulse (ch : Nat)
  /-- ESPI_FLASH_READ (R208): A PUT_FLASH_NP read request is answered with DEFER and fetched. -/
  | espiFlashRead (ch tag addr len : Nat) (lines : List LineObs) (decDiffer : Bool)
  /-- ESPI_FLASH_WRITE (R208): A PUT_FLASH_NP write request is answered with DEFER and executed. -/
  | espiFlashWrite (ch tag addr : Nat) (data : List Byte) (lines recheck : List LineObs) (decDiffer : Bool)
  /-- ESPI_FLASH_ERASE (R208): A PUT_FLASH_NP erase request is answered with DEFER and executed. -/
  | espiFlashErase (ch tag addr size : Nat) (recheck : List LineObs) (decDiffer : Bool)
  /-- ESPI_COMPLETION_READY (R208): A deferred flash completion becomes ready and is signalled through the alert. -/
  | espiCompletionReady (ch tag : Nat)
  /-- GET_FLASH_C (R208): The controller collects a ready flash completion, split into 64-byte parts. -/
  | getFlashC (ch : Nat)
  /-- SET_CONFIGURATION (R207): The eSPI controller sets frequency, I/O mode, alert pin, maximum read request size and channel enables. -/
  | setConfiguration (ch freq io readMax : Nat) (alertPin flashEn oobEn : Bool)
  /-- ESPI_PROTOCOL_ERROR (R210): A bad CRC, unknown opcode or duplicate tag is answered NO_RESPONSE and sets PROT_ERR. -/
  | espiProtocolError (ch : Nat)
  /-- ESPI_RESET (R210): An eSPI reset resets the emulated device and discards uncollected completions. -/
  | espiReset (ch : Nat)
  /-- LOAD (R240): Trellis LOAD copies and checks a program into a channel's pending slot. -/
  | load (ch len : Nat)
  /-- LOAD_DONE (R240): A Trellis LOAD completes with LOADED or EMPTY and raises CMD_DONE. -/
  | loadDone (ch : Nat)
  /-- ACTIVATE (R241): ACTIVATE puts every LOADED channel of a domain into SWAP_PENDING. -/
  | activate (ch : Nat)
  /-- DISCARD (R244): DISCARD empties a LOADED pending slot. -/
  | discard (ch : Nat)
  /-- SWAP (R242): A SWAP_PENDING channel flips its active bank at its next transaction boundary. -/
  | swap (ch : Nat)
  /-- APPLY_MAP (R249): APPLY_MAP copies the F-bus map and starts discovery on every used bus. -/
  | applyMap (len : Nat)
  /-- DISCOVERY_DONE (R249): Discovery completes, devices are trained or FAILED and partitions assessed. -/
  | discoveryDone (devs : List DevObs)
  /-- REDISCOVER (R263): REDISCOVER reruns discovery steps on a FAILED device. -/
  | rediscover (dev : Nat)
  /-- TRIM_TRACK (R251): A tracked device's tap is re-checked at TAP ± 2 and moved, clamped or retrained. -/
  | trimTrack (dev : Nat) (below above : Bool) (taps : List Nat)
  /-- TRIM_WRITE (R251): A write to FBUS_FBb_TRIM narrows the trim bounds or is rejected and journalled. -/
  | trimWrite (bus word : Nat)
  /-- BUSY_POLL (R253): The scheduler polls a busy device's status every 5 µs. -/
  | busyPoll (dev : Nat) (busy erasing : Bool)
  /-- FLASH_OP_TIMEOUT (R253): A physical operation past twice its SFDP maximum fails with TIMEOUT and the device is reset. -/
  | flashOpTimeout (dev addr : Nat) (taps : List Nat)
  /-- FLASH_OP_DONE (R256): A physical program or erase completes and is read back, ending or failing the frame. -/
  | flashOpDone (dev : Nat) (ok : Bool) (addr : Nat)
  /-- RECOVERY_BURST_DONE (R259): A pair of source and Nursery bursts is compared unit by unit. -/
  | recoveryBurstDone (dom : Nat) (src nur : List Byte) (fail : Nat) (bad : Option (Nat × Nat)) (badEnt : Option Nat)
  /-- RECOVERY_DONE (R261): A recovery job ends and the domain enters VERIFYING, PARKED or QUARANTINED. -/
  | recoveryDone (dom : Nat)
  /-- FILL (R270): MEMINT FILL writes every word of a class with a pattern. -/
  | fill (cls : Nat)
  /-- FILL_DONE (R270): A FILL ends and sets the class's INIT bit. -/
  | fillDone (cls : Nat)
  /-- MARK_INIT (R282): MARK_INIT sets a class's INIT bit. -/
  | markInit (cls : Nat)
  /-- RETIRE_ROW (R282): RETIRE_ROW retires an SRAM row onto a spare. -/
  | retireRow
  /-- COMMIT_REPAIR (R280): COMMIT_REPAIR writes OTP records for uncommitted SRAM remaps. -/
  | commitRepair
  /-- APPLY_BOUNDS (R281): APPLY_BOUNDS copies and checks the scrub bounds section. -/
  | applyBounds
  /-- MEMINT_ABORT (R282): MEMINT ABORT ends a running FILL. -/
  | memintAbort (cls : Nat)
  /-- FLIP_ARM (R271): A write of MEMINT_FLIP_SEL.ARM arms the flip mask for the selected word. -/
  | flipArm (word : Nat)
  /-- FLIP_APPLY (R271): The armed mask is XORed into the word at its next write or read and recorded. -/
  | flipApply (kind bit : Nat)
  /-- SCRUB_ROW (R273): A macro's scrubber reads one row in an idle cycle. -/
  | scrubRow (cls blk row word kind bit : Nat) (func : Bool)
  /-- DRAM_SCRUB_LINE (R274): The DRAM scrubber reads a live line and its MAC and repairs a failure. -/
  | dramScrubLine (what dom region off : Nat) (failA failB : Bool)
  /-- SWEEP_END (R275): At the end of a sweep the period P adapts and is clamped to its bounds. -/
  | sweepEnd (cls : Nat)
  /-- SCRUB_OVERRUN (R275): A sweep that cannot finish within P raises SCRUB_OVERRUN. -/
  | scrubOverrun (cls : Nat)
  /-- BUCKET_LEAK (R272): A class bucket loses one every LEAK_MS. -/
  | bucketLeak (cls : Nat)
  /-- GENERATE (R300): GENERATE creates a key from DRBG output into a slot. -/
  | generate (dst : Nat)
  /-- DERIVE (R298): DERIVE derives a key from a source slot into a destination slot. -/
  | derive (dst src : Nat)
  /-- DERIVE_SEALED (R298): DERIVE_SEALED derives from the sealing value of a given firmware version. -/
  | deriveSealed (dst : Nat)
  /-- LOAD_WK (R294): LOAD_WK loads a slot's payload into an engine's working-key register and takes a lease. -/
  | loadWk (src engine : Nat)
  /-- CLEAR_WK (R294): CLEAR_WK clears an engine's working-key register and releases its lease. -/
  | clearWk (engine : Nat)
  /-- ERASE (R305): ERASE empties a writable slot and its vault copies. -/
  | erase (dst : Nat)
  /-- LOCK_SLOT (R305): LOCK_SLOT write-locks a VALID slot. -/
  | lockSlot (dst : Nat)
  /-- CERTIFY (R302): CERTIFY signs a TBSCertificate carrying the key-origin extension with KS0. -/
  | certify (src : Nat)
  /-- PUBLIC (R300): PUBLIC writes a slot's public key to TCM. -/
  | publicKey (src : Nat)
  /-- DERIVE_L2 (R299): DERIVE_L2 derives KS3 and writes and freezes the configuration measurement. -/
  | deriveL2
  /-- KS3_AUTO_DERIVE (R299): KS3 not derived 150 ms after a restart handover is derived by the HX96. -/
  | ks3AutoDerive
  /-- PROVISION_VAULT (R303): PROVISION_VAULT writes a fresh root secret to the vault. -/
  | provisionVault
  /-- KEYS_ABORT (R305): KEYS ABORT ends a running or waiting key command. -/
  | keysAbort
  /-- REWRITE_RELEASE (R295): A rewrite waiting on a lease proceeds when the last lease is released. -/
  | rewriteRelease
  /-- KEYS_CMD_DONE (R305): A key command that took time completes and raises CMD_DONE. -/
  | keysCmdDone
  /-- ENG_START (R308): START begins an engine operation described by a TCM descriptor. -/
  | engStart (b e : Nat)
  /-- ENG_ABORT (R319): Engine ABORT ends a running firmware operation with ABORTED. -/
  | engAbort (b e : Nat)
  /-- ENG_DONE (R308): An engine operation ends, writes output and STATUS and raises DONE. -/
  | engDone (e obs : Nat)
  /-- KM_ENGINE_TAKE (R317): The key manager takes an engine once no firmware operation runs on it. -/
  | kmEngineTake (e : Nat)
  /-- SOURCE_STARTUP_PASS (R325): A noise source's start-up test passes and it returns to its state. -/
  | sourceStartupPass (src : Nat) (bits : List Bool)
  /-- HEALTH_FAIL (R325): A health test fails on a source, sending it to RETEST or FAILED. -/
  | healthFail (src : Nat) (bits : List Bool)
  /-- SEED_READY (R328): The conditioner completes a 384-bit seed. -/
  | seedReady (bits : List (List Bool))
  /-- DRBG_READY (R331): The DRBG instantiates after its known-answer tests and becomes READY. -/
  | drbgReady (kat : Bool)
  /-- DRBG_GENERATE (R332): The DRBG produces one item into the queue. -/
  | drbgGenerate
  /-- RNG_FLUSH (R334): FLUSH discards queued items and firmware's partial item. -/
  | rngFlush
  /-- RESEED (R336): RESEED reseeds the DRBG at the next item boundary. -/
  | reseed
  /-- RAW_MODE (R335): RAW_MODE places a source in raw-sample mode. -/
  | rawMode (src : Nat)
  /-- TEST_PATTERN (R335): TEST_PATTERN feeds a pattern into a source's health tests. -/
  | testPattern (src : Nat)
  /-- STOP_TEST (R335): STOP_TEST ends raw or pattern mode and retests the source. -/
  | stopTest
  /-- RNG_DATA_READ (R333): A read of RNG_DATA takes an item or returns its next word. -/
  | rngDataRead
  /-- RNG_RAW_READ (R335): A read of RNG_RAW returns 32 raw bits or sets RAW_EMPTY. -/
  | rngRawRead (arrived : List Bool)
  /-- INTERNAL_RNG_REQUEST (R332): An internal consumer takes an item, waiting up to 10 µs. -/
  | internalRngRequest
  /-- KIOSK_STATE (R343): Kiosk STATE returns the domain's state and flags. -/
  | kioskState (acc : Access) (tn dom arg : Nat)
  /-- KIOSK_HOLD (R343): Kiosk HOLD acts as GATE HOLD for the tenant's domain. -/
  | kioskHold (acc : Access) (tn dom arg : Nat)
  /-- KIOSK_RESET_CYCLE (R343): Kiosk RESET_CYCLE acts as GATE RESET_CYCLE. -/
  | kioskResetCycle (acc : Access) (tn dom arg : Nat)
  /-- SERVICE (R345): A SERVICE request becomes pending for firmware. -/
  | service (acc : Access) (tn op dom arg : Nat)
  /-- REPLY_PLACE (R342): A reply is placed into TN_RSP once RSP_FULL is clear. -/
  | replyPlace (tn : Nat)
  /-- TN_RSP_READ (R342): A read of TN_RSP returns the reply and clears RSP_FULL. -/
  | tnRspRead (acc : Access) (tn : Nat)
  /-- UNBOUND (R339): An access matching no table entry is ignored and counted. -/
  | unbound (acc : Access) (tn : Nat) (write : Bool)
  /-- TN_DB_IN_WRITE (R348): The bound source sets tenant doorbell bits. -/
  | tnDbInWrite (acc : Access) (tn bits : Nat)
  /-- KIOSK_TAKE_READ (R345): A read of KIOSK_TAKE takes the next pending tenant by weighted fair share. -/
  | kioskTakeRead
  /-- KIOSK_REPLY_WRITE (R345): Firmware answers the selected tenant's taken request. -/
  | kioskReplyWrite (word : Nat)
  /-- KIOSK_DB_OUT_WRITE (R348): Firmware sets the selected tenant's outgoing doorbell bits. -/
  | kioskDbOutWrite (bits : Nat)
  /-- APPLY_TBT (R364): APPLY_TBT checks and applies the Tenant Binding Table. -/
  | applyTbt (len : Nat)
  /-- TAKEN_REQUEST_TIMEOUT (R347): A taken request unanswered for 1 s is answered TIMEOUT. -/
  | takenRequestTimeout (tn : Nat)
  /-- PENDING_REQUEST_TIMEOUT (R347): A request pending untaken for 2 s is withdrawn with BUSY_RETRY. -/
  | pendingRequestTimeout (tn : Nat)
  /-- SMBUS_BLOCK_WRITE (R341): A Block Write under code 0x4B writes a Kiosk register. -/
  | smbusBlockWrite (port tn off value : Nat) (pecOk : Bool)
  /-- SMBUS_PROCESS_CALL (R341): A Block Write-Block Read Process Call reads a Kiosk register. -/
  | smbusProcessCall (port tn off : Nat)
  /-- APPLY_SETTINGS (R365): APPLY_SETTINGS checks the transport settings and brings up ports. -/
  | applySettings
  /-- SEND (R365): SEND fragments and transmits a firmware message. -/
  | send
  /-- MCTP_PACKET (R352): An MCTP packet is received and added to its reassembly context. -/
  | mctpPacket (p : Packet)
  /-- REASSEMBLY_TIMEOUT (R352): No packet within REASM_MS discards the message. -/
  | reassemblyTimeout (port src tag : Nat) (owner : Bool)
  /-- RX_SLOT_FREE (R354): Firmware advancing TAIL frees a slot and waiting messages enter the ring. -/
  | rxSlotFree (tail : Nat)
  /-- SMB_TIMEOUT (R351): SCL held low for 25 ms releases the port. -/
  | smbTimeout (port : Nat)
  /-- ARBITRATION_RETRY (R351): After lost arbitration the message is retried after a random delay or abandoned. -/
  | arbitrationRetry
  /-- SET_ENDPOINT_ID (R349): MCTP Set Endpoint ID sets the EID on a transport. -/
  | setEndpointId (org : Origin) (eid : Nat)
  /-- GET_ENDPOINT_ID (R349): MCTP Get Endpoint ID returns the EID. -/
  | getEndpointId (org : Origin)
  /-- GET_ENDPOINT_UUID (R349): MCTP Get Endpoint UUID returns the UUID. -/
  | getEndpointUuid (org : Origin)
  /-- GET_MCTP_VERSION_SUPPORT (R349): MCTP Get MCTP Version Support is answered. -/
  | getMctpVersionSupport (org : Origin) (typ : Nat)
  /-- GET_MESSAGE_TYPE_SUPPORT (R349): MCTP Get Message Type Support is answered. -/
  | getMessageTypeSupport (org : Origin)
  /-- GET_VENDOR_DEFINED_MSG_SUPPORT (R349): MCTP Get Vendor Defined Message Support is answered. -/
  | getVendorDefinedMsgSupport (org : Origin) (sel : Nat)
  /-- PREPARE_FOR_ENDPOINT_DISCOVERY (R349): MCTP Prepare for Endpoint Discovery is answered. -/
  | prepareForEndpointDiscovery (org : Origin)
  /-- ENDPOINT_DISCOVERY (R349): MCTP Endpoint Discovery is answered on PCIe. -/
  | endpointDiscovery (org : Origin)
  /-- UNSUPPORTED_CONTROL_CMD (R349): Any other MCTP control command is answered ERROR_UNSUPPORTED_CMD. -/
  | unsupportedControlCmd (org : Origin)
  /-- VENDOR_KIOSK (R355): Vendor KIOSK carries a Kiosk request over MCTP. -/
  | vendorKiosk (org : Origin) (tn word gen : Nat)
  /-- GET_NONCE (R355): GET_NONCE issues a fresh nonce to the tenant. -/
  | getNonce (org : Origin)
  /-- GET_OUTCOME (R355): GET_OUTCOME returns the tenant's last non-OK outcome. -/
  | getOutcome (org : Origin)
  /-- OWNER_RELEASE (R356): OWNER_CMD 0x01 authorises release of a QUARANTINED domain. -/
  | ownerRelease (org : Origin) (payload : List Byte)
  /-- OWNER_PROVISION_VAULT (R356): OWNER_CMD 0x02 authorises PROVISION_VAULT. -/
  | ownerProvisionVault (org : Origin) (payload : List Byte)
  /-- OWNER_ENTER_LOCKDOWN (R356): OWNER_CMD 0x03 authorises ENTER_LOCKDOWN. -/
  | ownerEnterLockdown (org : Origin) (payload : List Byte)
  /-- OWNER_LOCK_SET (R356): OWNER_CMD 0x04 authorises setting the owner update lock. -/
  | ownerLockSet (org : Origin) (payload : List Byte)
  /-- OWNER_LOCK_CLEAR (R356): OWNER_CMD 0x05 authorises clearing the owner update lock. -/
  | ownerLockClear (org : Origin) (payload : List Byte)
  /-- OWNER_RETURN_TOKEN (R385): OWNER_CMD 0x06 carries a return token. -/
  | ownerReturnToken (org : Origin) (payload : List Byte)
  /-- OWNER_SCRAP (R385): OWNER_CMD 0x07 carries a scrap authorisation. -/
  | ownerScrap (org : Origin) (payload : List Byte)
  /-- GET_VERSION (R357): SPDM GET_VERSION negotiates version 1.3 or 1.2. -/
  | getVersion (org : Origin) (brk : Option SpdmErr)
  /-- GET_CAPABILITIES (R357): SPDM GET_CAPABILITIES reports the fixed capabilities. -/
  | getCapabilities (org : Origin) (version dts : Nat) (brk : Option SpdmErr)
  /-- NEGOTIATE_ALGORITHMS (R357): SPDM NEGOTIATE_ALGORITHMS offers the fixed algorithms. -/
  | negotiateAlgorithms (org : Origin) (brk : Option SpdmErr)
  /-- GET_DIGESTS (R358): SPDM GET_DIGESTS returns the slot 0 chain digest. -/
  | getDigests (org : Origin) (brk : Option SpdmErr)
  /-- GET_CERTIFICATE (R358): SPDM GET_CERTIFICATE returns the slot 0 chain. -/
  | getCertificate (org : Origin) (off len : Nat) (brk : Option SpdmErr)
  /-- CHALLENGE (R358): SPDM CHALLENGE is answered signed with KS3. -/
  | challenge (org : Origin) (transcript : List Byte) (brk : Option SpdmErr)
  /-- GET_MEASUREMENTS (R360): SPDM GET_MEASUREMENTS reports the measurement blocks. -/
  | getMeasurements (org : Origin) (index : Nat) (signed : Bool) (transcript : List Byte) (brk : Option SpdmErr)
  /-- KEY_EXCHANGE (R358): SPDM KEY_EXCHANGE opens a session or is refused at the session limit. -/
  | keyExchange (org : Origin) (peer transcript : List Byte) (brk : Option SpdmErr)
  /-- FINISH (R358): SPDM FINISH completes session establishment. -/
  | finish (org : Origin) (id : Nat) (transcript : List Byte) (brk : Option SpdmErr)
  /-- HEARTBEAT (R358): SPDM HEARTBEAT keeps a session alive. -/
  | heartbeat (org : Origin) (id : Nat) (brk : Option SpdmErr)
  /-- HEARTBEAT_EXPIRY (R358): Twice HBEAT without a message ends the session and wipes its secrets. -/
  | heartbeatExpiry (id : Nat)
  /-- KEY_UPDATE (R357): SPDM KEY_UPDATE updates session keys. -/
  | keyUpdate (org : Origin) (id : Nat) (brk : Option SpdmErr)
  /-- END_SESSION (R358): SPDM END_SESSION ends a session and wipes its secrets. -/
  | endSession (org : Origin) (id : Nat) (brk : Option SpdmErr)
  /-- RESPOND_IF_READY (R357): SPDM RESPOND_IF_READY is answered. -/
  | respondIfReady (org : Origin) (brk : Option SpdmErr)
  /-- CHUNK_SEND (R357): SPDM CHUNK_SEND carries a request chunk. -/
  | chunkSend (org : Origin) (data : List Byte) (last : Bool) (brk : Option SpdmErr)
  /-- CHUNK_GET (R360): SPDM CHUNK_GET returns a response chunk. -/
  | chunkGet (org : Origin) (brk : Option SpdmErr)
  /-- VENDOR_DEFINED_REQUEST (R355): SPDM VENDOR_DEFINED_REQUEST carries a vendor command. -/
  | vendorDefinedRequest (org : Origin) (data : List Byte) (brk : Option SpdmErr)
  /-- SPDM_UNSUPPORTED_REQUEST (R357): An unsupported SPDM request is answered ERROR UnsupportedRequest. -/
  | spdmUnsupportedRequest (org : Origin)
  /-- GET_TID (R362): PLDM GetTID is answered. -/
  | getTid (org : Origin)
  /-- GET_PLDM_VERSION (R362): PLDM GetPLDMVersion is answered. -/
  | getPldmVersion (org : Origin) (typ : Nat)
  /-- GET_PLDM_TYPES (R362): PLDM GetPLDMTypes is answered. -/
  | getPldmTypes (org : Origin)
  /-- GET_PLDM_COMMANDS (R362): PLDM GetPLDMCommands is answered. -/
  | getPldmCommands (org : Origin) (typ : Nat)
  /-- QUERY_DEVICE_IDENTIFIERS (R368): PLDM QueryDeviceIdentifiers is answered. -/
  | queryDeviceIdentifiers (org : Origin)
  /-- GET_FIRMWARE_PARAMETERS (R366): PLDM GetFirmwareParameters reports the offered components. -/
  | getFirmwareParameters (org : Origin)
  /-- REQUEST_UPDATE (R370): PLDM RequestUpdate opens the device-wide update session or is refused. -/
  | requestUpdate (org : Origin)
  /-- PASS_COMPONENT_TABLE (R368): PLDM PassComponentTable is answered. -/
  | passComponentTable (org : Origin) (last : Bool)
  /-- UPDATE_COMPONENT (R370): PLDM UpdateComponent starts transfer of a component or is refused. -/
  | updateComponent (org : Origin) (comp size svn : Nat)
  /-- ACTIVATE_FIRMWARE (R368): PLDM ActivateFirmware requests activation, reporting class 255 as pending. -/
  | activateFirmware (org : Origin)
  /-- GET_STATUS (R368): PLDM GetStatus reports the update state. -/
  | getStatus (org : Origin)
  /-- CANCEL_UPDATE_COMPONENT (R368): PLDM CancelUpdateComponent cancels the component transfer. -/
  | cancelUpdateComponent (org : Origin)
  /-- CANCEL_UPDATE (R368): PLDM CancelUpdate ends the update session. -/
  | cancelUpdate (org : Origin)
  /-- UPD_WRITE (R373): UPD_WRITE writes a staged component to physical flash, manifest or directory last. -/
  | updWrite (handle comp : Nat)
  /-- UPD_SETTLE (R375): UPD_SETTLE copies copy T over the other copy, directory last. -/
  | updSettle
  /-- UPD_JOB_DONE (R380): A write or settle job ends and raises JOB_DONE or JOB_FAIL. -/
  | updJobDone (units : Nat) (fail : Option (Nat × Nat)) (src : Option CopyImage)
  /-- UPD_SWAP (R374): UPD_SWAP holds, revokes, replays and releases a domain onto its new manifest. -/
  | updSwap (comp : Nat) (h0 h1 : List Byte)
  /-- UPD_ACTIVATE_BV (R375): UPD_ACTIVATE_BV starts a Belvedere restart from copy T and sets PAUSE. -/
  | updActivateBv
  /-- PAUSE_EXPIRY (R375): The management pause clears by itself at its time limit. -/
  | pauseExpiry
  /-- COMMIT_SVN (R377): COMMIT_SVN writes a security-version record to OTP. -/
  | commitSvn (cls : Nat)
  /-- UPD_RESUME (R380): RESUME clears the management pause. -/
  | updResume
  /-- UPD_OWNER_LOCK (R378): UPD_OWNER_LOCK sets or clears the owner update lock. -/
  | updOwnerLock
  /-- UPD_ABORT (R380): Update ABORT ends a write or settle job after the erase unit in progress. -/
  | updAbort
  /-- LCS_TO_FACTORY (R384): A debugger write of FACTORY to LCS_REQUEST in BLANK is accepted. -/
  | lcsToFactory (debugger : Bool)
  /-- LCS_TO_OWNED (R384): A write of OWNED to LCS_REQUEST in FACTORY is accepted or refused. -/
  | lcsToOwned (debugger : Bool)
  /-- LCS_TO_RETURNED (R386): A write of RETURNED with ARMED set zeroes the key manager's vault bytes. -/
  | lcsToReturned (debugger : Bool)
  /-- LCS_TO_SCRAP (R387): A write of SCRAP starts the unstoppable SCRAP wipe. -/
  | lcsToScrap (debugger : Bool)
  /-- LCS_PROGRAMMED (R384): Programming of the three life-cycle copies ends. -/
  | lcsProgrammed
  /-- LCS_ARM (R385): A write of LCS_ARM with KEY 0x52E7 and RETURN sets ARMED. -/
  | lcsArm (word : Nat)
  /-- ARMED_EXPIRY (R385): ARMED clears 1 s after it was set. -/
  | armedExpiry
  /-- SCRAP_WIPE_DONE (R387): The SCRAP wipe of DRAM and SRAM ends and a device reset follows. -/
  | scrapWipeDone (testen : Bool)
  /-- TOKEN_LOAD (R392): The debugger shifts a token into the token buffer through the TAP. -/
  | tokenLoad (token : List Byte)
  /-- NONCE_REQ (R392): DEBUG_CMD.NONCE_REQ draws a new DEBUG_NONCE from the DRBG. -/
  | nonceReq (debugger : Bool)
  /-- TOKEN_CLEAR (R390): DEBUG_CMD.TOKEN_CLEAR empties the token buffer. -/
  | tokenClear (debugger : Bool)
  /-- HALT_REQ (R394): DEBUG_CMD.HALT_REQ requests a halt of Belvedere at L2 or L3. -/
  | haltReq (debugger : Bool)
  /-- HALT (R394): A requested halt takes effect, at the latest when the atomic window closes. -/
  | halt
  /-- DEBUG_WRITE (R390): A debugger write is performed or refused according to the debug level. -/
  | debugWrite (addr value : Nat)
  /-- SCAN_ENTRY (R390): Entering scan at L3 zeroes every SRAM and key-manager register. -/
  | scanEntry
  /-- SCAN_EXIT (R390): Leaving scan forces a device reset. -/
  | scanExit (testen : Bool)
  /-- RAIL_TO_VBAT (R395): VDD_AON falling below 1.62 V switches the Lodge rail to VBAT. -/
  | railToVbat
  /-- RAIL_TO_VDD_AON (R395): VDD_AON above 1.62 V for 1 ms switches the Lodge rail back. -/
  | railToVddAon
  /-- MESH_BURST (R401): Every MESH_PERIOD the mesh, case, transit and glitch latch are sampled. -/
  | meshBurst (one both : Nat) (reads : List Nat) (glitch : Bool)
  /-- SENSOR_SAMPLE (R401): Every SENSOR_PERIOD temperature and VBAT are measured. -/
  | sensorSample (temps mvs : List Nat)
  /-- APPLY_RULES (R411): APPLY_RULES checks and retains the Lodge rule table. -/
  | applyRules (len : Nat)
  /-- SET_RTC (R411): SET_RTC sets the RTC seconds. -/
  | setRtc
  /-- EVT_ACK (R409): EVT_ACK clears WAKE_PEND. -/
  | evtAck (n : Nat)
  /-- CLEAR_FIRED (R411): CLEAR_FIRED clears a rule's FIRED bit and samples. -/
  | clearFired (r : Nat)
  /-- JOURNAL_START (R429): START enters the START record followed by the pre-boot records. -/
  | journalStart
  /-- JOURNAL_FLUSH (R429): FLUSH flushes unflushed records to the log now. -/
  | journalFlush
  /-- JOURNAL_WRITE (R425): WRITE enters a firmware record into the intake FIFO. -/
  | journalWrite
  /-- JOURNAL_VERIFY (R429): VERIFY recomputes the chain over a run of held records. -/
  | journalVerify (count : Nat)
  /-- JOURNAL_DRAIN (R424): The chaining engine drains one record into the ring or overflow every 0.5 µs. -/
  | journalDrain
  /-- LOG_FLUSH (R428): Once 4 records wait or FLUSH_MS passes, records are programmed to the log partition. -/
  | logFlush (written : List Bool) (count : Nat) (ok : Bool)
  /-- TEMP_SAMPLE (R446): Every 1 ms the hottest sensor is reported and WARN set at WARN_AT. -/
  | tempSample (temps : List Nat)
  /-- BELVEDERE_RESUME (R394): A halted Belvedere runs again, unfreezing the watchdog and the Kiosk SERVICE timers and ending the BUSY_RETRY answers to new SERVICE requests. -/
  | belvedereResume
  /-- PCIE_LINK_CHANGE (R445): The PCIe link finishes training and comes up, or goes down, changing LINK_UP and raising LINK_CHG. -/
  | pcieLinkChange (up : Bool) (gen width : Nat)
  /-- REKEY_BLOCK_PASSED (R154): The re-encryption walk pointer passes a block, moving its reads to E′ and releasing any write held on that block under step 5. -/
  | rekeyBlockPassed
  /-- COMMIT_REPAIR_DONE (R280): COMMIT_REPAIR finishes programming its OTP repair records, clears COMMIT_BUSY and UNCOMMITTED, and raises CMD_DONE. -/
  | commitRepairDone (bad : List Nat)
  /-- COMMIT_SVN_DONE (R377): The security-version record write ends and the class minimum takes its new value. -/
  | commitSvnDone (bad : Bool)
  /-- REDISCOVER_DONE (R263): Rediscovery of a FAILED device ends within 3 ms, its partitions are reassessed under R250, and CMD_DONE is raised. -/
  | rediscoverDone (obs : DevObs)
  /-- JOURNAL_VERIFY_DONE (R429): VERIFY finishes recomputing the chain over its records and reports OK or VERIFY_FAIL with the failing offset. -/
  | journalVerifyDone
  /-- SEND_DONE (R365): A SEND ends with OK once its last packet has left, or with TIMEOUT under R351, and raises CMD_DONE. -/
  | sendDone (ok : Bool)
  /-- VBAT_BROWNOUT (R395): While the Lodge runs on VBAT and VBAT falls below 2.0 V, the Lodge stops sampling; below 1.6 V the vault is lost. -/
  | vbatBrownout (mv : Nat)
  /-- VBAT_BROWNOUT_END (R395): VBAT rising back to 2.0 V or above restarts Lodge sampling. -/
  | vbatBrownoutEnd
  deriving DecidableEq, Repr

end Sys2Proof
end

