-- ==== Sys2Proof/Decode.lean ====
section
/-! DEFINITION. Decoding of the opcode table's words. No row of spec/opcode_table.json gives bits: a command of the HX96 is an access
or an event, and no word spells one. -/

namespace Sys2Proof

/-- The command that a word of `nbits` bits spells: none does. -/
def decodeTableWord (_nbits _w : Nat) : Option Instr := none

end Sys2Proof
end

