-- ==== Sys2Proof/Config.lean ====
section
/-! DEFINITION. What the model leaves uninterpreted: the published cryptographic functions that spec/ names
without restating (SHA-384 and SHA-3, HMAC, AES-CMAC, KMAC, ML-DSA, ML-KEM and LMS), the identifiers and
contents that spec/ does not list, and the free values. Every one is opaque: no proof can see a value of it. -/

namespace Sys2Proof.Config

/-- SHA-384 of a byte string, first digest byte most significant. -/
opaque sha384 : List Byte → BitVec 384

/-- HMAC-SHA-384 of a message under a key. -/
opaque hmac384 : List Byte → List Byte → BitVec 384

/-- The slot tag of R287: KMAC256 with customisation string HX96-KS and output length 64 bits, of a message under KT. -/
opaque slotTag : List Byte → List Byte → BitVec 64

/-- AES-CMAC of a message under a 256-bit key (R149, R165). -/
opaque aesCmac : List Byte → List Byte → BitVec 128

/-- XTS-AES-256 encryption of one data unit per IEEE 1619: K1, K2, the 16 tweak bytes, the 64 bytes of the unit (R148). -/
opaque xtsAes : List Byte → List Byte → List Byte → List Byte → List Byte

/-- How a ledger-table entry's domain, region, leaf, SEQ and open flag (1 for open), and its MROOT, OLD and NEW one after the other, lie in its 128 bytes, which spec/ does not
give (R167). -/
opaque tableEntry : List Nat → List Byte → List Byte

/-- Which 1 MiB unit of which staging object lies in a unit of the staging area: the objects' handles and sizes, the unit. spec/ gives no
placement (R170). -/
opaque stagePlace : List (Nat × Nat) → Nat → Option (Nat × Nat)

/-- The extent and the 64 bytes that a line of the node store holds, of the verified nodes by key; spec/ gives no layout (R130, R144). -/
opaque nodeLine : List (Nat × List Byte) → Nat → Option (Nat × List Byte)

/-- Which of the retained entries lies at a place of the retained area, of their number and the place (R167). -/
opaque retainedPlace : Nat → Nat → Option Nat

/-- Which of the overflow's records, by SEQ, lies in a line of the journal overflow (R427). -/
opaque overflowPlace : List Nat → Nat → Option Nat

/-- A word of a plane's table RAM holds part of a channel's program in a bank: which words those are is free (R216, R271; log entry 157). -/
opaque tableWord : Nat → Nat → Nat → Bool

/-- ML-DSA-87 verification: public key, context, message, signature (FIPS 204). -/
opaque mldsaVerify : List Byte → List Byte → List Byte → List Byte → Bool

/-- The ML-KEM-1024 encapsulation key of a 64-byte seed (FIPS 203). -/
opaque kemPublic : List Byte → List Byte

/-- The output bytes of MLKEM1024_DECAPS, SHA3_384, SHAKE256 and KMAC256, by operation code: working key, input, output
length (R314). -/
opaque engineResult : Nat → List Byte → List Byte → Nat → List Byte

/-- LMS (HSS with L = 1) verification: public key, message, signature. -/
opaque lmsVerify : List Byte → List Byte → List Byte → Bool

/-- One SHA-384 compression of a 1,024-bit block from the initial hash value (FIPS 180-4, R328): the 48 bytes of the seed. -/
opaque sha384Block : List Bool → BitVec 384

/-- CTR_DRBG with AES-256 per SP 800-90A (R329), its state K and V as 48 bytes: instantiated from a seed and a personalisation string,
reseeded, the item that a generate call outputs, and the state it leaves. -/
opaque drbgInstantiate : List Byte → List Byte → List Byte
opaque drbgReseed : List Byte → List Byte → List Byte
opaque drbgOutput : List Byte → BitVec 384
opaque drbgNext : List Byte → List Byte

/-- The event identifier that a hardware record carries within its class: class and the number of the rule that enters
it. spec/ fixes only 0x0000 START and 0xFFFF LOST (R422). -/
opaque eventId : Nat → Nat → BitVec 16

/-- A fresh free value, indexed by the free-value counter of the state. -/
opaque freeValue : Nat → BitVec 64

/-- The vendor key entries that the ROM holds (R67, R123): KEY_ID, revoked flag and digest. -/
opaque vendorKeys : List (Nat × Bool × BitVec 384)

/-- The vendor's JEDEC manufacturer code in the TAP's IDCODE register (R51). -/
opaque jedecCode : BitVec 11

/-- The boot ROM's contents, byte by byte (R30). -/
opaque romByte : Nat → Byte

/-- A retry-after time in milliseconds that the HX96 states with a BUSY_RETRY for which no rule fixes the time; the
model holds it to 1 to 65,535 (R14). -/
opaque retryAfter : Nat → Nat

/-- What a word of a journal record that reads as POISONED shows in JOURNAL_RD_DATA (R276): SEQ and word. -/
opaque poisonedRecord : Nat → Nat → BitVec 32

/-- The UUID of the endpoint, which spec/ does not give (R349). -/
opaque endpointUuid : BitVec 128

/-- The version bytes that Get MCTP Version Support and Get PLDM Version return for a type, which spec/ does not give. -/
opaque typeVersion : Nat → BitVec 32

/-- The certificate chain of slot 0 over the public keys of KS0, KS1 and KS3 (R358): spec/ fixes the order of the certificates, not
their bytes. -/
opaque certChain : List Byte → List Byte → List Byte → List Byte

/-- The transcript that a response to a request received in chunks signs (R358), which no operand of CHUNK_SEND brings: by running index
and request. -/
opaque spdmTranscript : Nat → List Byte → List Byte

/-- What the TAP's registers beyond R51's hold, by instruction: the spec names their use at L1 to L3 and no layout (R388). -/
opaque tapRegister : Nat → BitVec 32

/-- The terminus ID that GetTID returns (R362). -/
opaque pldmTid : BitVec 8

end Sys2Proof.Config
end

