-- ==== Sys2Proof/Machine/Bits.lean ====
section
/-! DEFINITION. The byte orders of R3 and the bit fields of numbers. -/

namespace Sys2Proof

/-- The number that a byte string spells, first byte least significant (R3). -/
def leNat : List Byte → Nat
  | [] => 0
  | b :: bs => b.toNat + 256 * leNat bs

/-- The first `n` bytes of a number, least significant first (R3). -/
def leBytes : Nat → Nat → List Byte
  | 0, _ => []
  | n + 1, v => BitVec.ofNat 8 v :: leBytes n (v / 256)

/-- The first `n` bytes of a number, most significant first, for fields of published standards (R3). -/
def beBytes (n v : Nat) : List Byte := (leBytes n v).reverse

/-- The number that a byte string spells, first byte most significant. -/
def beNat (bs : List Byte) : Nat := leNat bs.reverse

/-- `n` bytes of a byte string from offset `off`; bytes past its end read as zero. -/
def slice : List Byte → Nat → Nat → List Byte
  | bs, off, n =>
    let t := (bs.drop off).take n
    t ++ List.replicate (n - t.length) 0

/-- The little-endian number in the `n` bytes at offset `off`. -/
def fieldAt (bs : List Byte) (off n : Nat) : Nat := leNat (slice bs off n)

/-- Every byte of the `n` bytes at offset `off` is zero. -/
def zeroAt (bs : List Byte) (off n : Nat) : Bool := (slice bs off n).all (· == 0)

/-- The bytes of an ASCII label. -/
def ascii (s : String) : List Byte := s.toList.map fun c => BitVec.ofNat 8 c.toNat

/-- `wid` bits of a number from bit `lo` up. -/
def bitsAt (v lo wid : Nat) : Nat := (v >>> lo) % 2 ^ wid

/-- `v` with its `wid` bits from bit `lo` up replaced by the low bits of `x`. -/
def setBits (v lo wid x : Nat) : Nat :=
  (v % 2 ^ lo) ||| ((x % 2 ^ wid) <<< lo) ||| ((v >>> (lo + wid)) <<< (lo + wid))

end Sys2Proof
end

