-- ==== Sys2Proof/Machine/Curve.lean ====
section
/-! DEFINITION. The NIST curves P-256 and P-384 and ECDSA per FIPS 186-5, which R310 and R313 name, and the modular
arithmetic of R310. Points are affine; none is the point at infinity. The constants are those of the published standard. -/

namespace Sys2Proof.Machine

/-- A curve y² = x³ − 3x + b over the integers mod p, with base point and prime order n; `size` is its byte length. -/
structure Curve where
  p : Nat
  b : Nat
  gx : Nat
  gy : Nat
  n : Nat
  size : Nat
  deriving DecidableEq, Repr

def p256 : Curve :=
  { p := 0xffffffff00000001000000000000000000000000ffffffffffffffffffffffff
    b := 0x5ac635d8aa3a93e7b3ebbd55769886bc651d06b0cc53b0f63bce3c3e27d2604b
    gx := 0x6b17d1f2e12c4247f8bce6e563a440f277037d812deb33a0f4a13945d898c296
    gy := 0x4fe342e2fe1a7f9b8ee7eb4a7c0f9e162bce33576b315ececbb6406837bf51f5
    n := 0xffffffff00000000ffffffffffffffffbce6faada7179e84f3b9cac2fc632551
    size := 32 }

def p384 : Curve :=
  { p := 0xfffffffffffffffffffffffffffffffffffffffffffffffffffffffffffffffeffffffff0000000000000000ffffffff
    b := 0xb3312fa7e23ee7e4988e056be3f82d19181d9c6efe8141120314088f5013875ac656398d8a2ed19d2a85c8edd3ec2aef
    gx := 0xaa87ca22be8b05378eb1c71ef320ad746e1d3b628ba79b9859f741e082542a385502f25dbf55296c3a545e3872760ab7
    gy := 0x3617de4a96262c6f5d9e98bf9292dc29f8f41dbd289a147ce9da3113b5f0b8c00a60b1ce1d7e819d7a431d7c90ea0e5f
    n := 0xffffffffffffffffffffffffffffffffffffffffffffffffc7634d81f4372ddf581a0db248b0a77aecec196accc52973
    size := 48 }

/-! ### Modular arithmetic -/

/-- base^e mod m over the low `bits` bits of e, least significant first; `acc` holds the product so far. -/
def modPow (m : Nat) : Nat → Nat → Nat → Nat → Nat
  | 0, _, _, acc => acc
  | bits + 1, base, e, acc =>
    modPow m bits (base * base % m) (e / 2) (if e % 2 = 1 then acc * base % m else acc)

/-- The extended Euclidean steps on (r, r') with the coefficients (t, t') of the first argument. -/
def euclid : Nat → Int → Int → Int → Int → Int × Int
  | 0, r, _, t, _ => (r, t)
  | fuel + 1, r, r', t, t' => if r' = 0 then (r, t) else euclid fuel r' (r % r') t' (t - r / r' * t')

/-- The inverse of a mod m; none when a is not invertible. `bits` bounds the bit length of m. -/
def modInv (bits m a : Nat) : Option Nat :=
  let (g, t) := euclid (2 * bits + 2) m (a % m) 0 1
  if g = 1 then some (t % m).toNat else none

/-! ### Points; none is infinity -/

abbrev Point := Option (Nat × Nat)

/-- Bits of a curve's field and order. -/
def Curve.bits (c : Curve) : Nat := 8 * c.size

/-- Coordinates below p, on the curve (R313). -/
def Curve.onCurve (c : Curve) (x y : Nat) : Bool :=
  x < c.p && y < c.p && y * y % c.p = (x * x * x + (c.p - 3) * x + c.b) % c.p

/-- The point through slope `l` from two points. -/
def Curve.third (c : Curve) (l x1 y1 x2 : Nat) : Point :=
  let x3 := (l * l + 2 * c.p - x1 - x2) % c.p
  some (x3, (l * (x1 + c.p - x3) + c.p - y1) % c.p)

/-- The sum of two points. -/
def Curve.add (c : Curve) : Point → Point → Point
  | none, q => q
  | q, none => q
  | some (x1, y1), some (x2, y2) =>
    if x1 = x2 then
      if y1 = y2 && y1 ≠ 0 then
        match modInv c.bits c.p (2 * y1) with
        | some i => c.third ((3 * x1 * x1 + c.p - 3) * i % c.p) x1 y1 x2
        | none => none
      else none
    else
      match modInv c.bits c.p (x2 + c.p - x1) with
      | some i => c.third ((y2 + c.p - y1) * i % c.p) x1 y1 x2
      | none => none

/-- Scalar multiplication over the low `bits` bits of k. -/
def Curve.mulBits (c : Curve) : Nat → Nat → Point → Point → Point
  | 0, _, _, acc => acc
  | bits + 1, k, q, acc =>
    if k = 0 then acc else c.mulBits bits (k / 2) (c.add q q) (if k % 2 = 1 then c.add acc q else acc)

/-- Scalar multiplication by a scalar of up to 448 bits: one of P-256 may be a working key of 48 bytes (R310). -/
@[irreducible] def Curve.mul (c : Curve) (k : Nat) (q : Point) : Point := c.mulBits 448 k q none

/-- The base point. -/
def Curve.base (c : Curve) : Point := some (c.gx, c.gy)

/-- SEC1 uncompressed form (R307). -/
def Curve.encode (c : Curve) : Point → List Byte
  | some (x, y) => (4 : Byte) :: (beBytes c.size x ++ beBytes c.size y)
  | none => List.replicate (2 * c.size + 1) 0

/-- The point of a SEC1 uncompressed encoding that passes POINT_CHECK (R313). -/
def Curve.decode (c : Curve) (bs : List Byte) : Point :=
  let x := beNat (slice bs 1 c.size)
  let y := beNat (slice bs (1 + c.size) c.size)
  if slice bs 0 1 = [4] && c.onCurve x y then some (x, y) else none

/-! ### ECDSA (FIPS 186-5) -/

/-- A scalar lies in [1, n − 1]. -/
def Curve.scalarOk (c : Curve) (k : Nat) : Bool := 0 < k && k < c.n

/-- Verification of r ‖ s over a hash value taken as given (R310, R313). -/
@[irreducible] def ecdsaVerify (c : Curve) (pk hash sig : List Byte) : Bool :=
  let r := beNat (slice sig 0 c.size)
  let sv := beNat (slice sig c.size c.size)
  match c.decode pk, modInv c.bits c.n sv with
  | some q, some w =>
    if c.scalarOk r && c.scalarOk sv then
      let z := beNat hash
      match c.add (c.mul (z * w % c.n) c.base) (c.mul (r * w % c.n) (some q)) with
      | some (x, _) => x % c.n = r
      | none => false
    else false
  | _, _ => false

/-- The signature r ‖ s by scalar d over a hash value with nonce k; none when r or s would be 0 (R313). -/
@[irreducible] def ecdsaSign (c : Curve) (d : Nat) (hash : List Byte) (k : Nat) : Option (List Byte) :=
  match c.mul k c.base, modInv c.bits c.n k with
  | some (x, _), some i =>
    let r := x % c.n
    let sv := i * (beNat hash + r * d) % c.n
    if r = 0 || sv = 0 then none else some (beBytes c.size r ++ beBytes c.size sv)
  | _, _ => none

/-- A scalar drawn from an integer: (c mod (n − 1)) + 1 (R288, R300). -/
def Curve.scalar (c : Curve) (v : Nat) : Nat := v % (c.n - 1) + 1

end Sys2Proof.Machine
end

