-- ==== Sys2Proof/Machine/Manifest.lean ====
section
/-! DEFINITION. Hista manifests (R117 to R123) and their Merkle trees (R124, R125), read from bytes. -/

namespace Sys2Proof.Machine

/-- One region descriptor (R119). -/
structure Region where
  channel : Nat
  policy : Nat
  flags : Nat
  chanOff : Nat
  length : Nat
  shadowOff : Nat
  srcPart : Nat
  nurPart : Nat
  srcOff : Nat
  nurOff : Nat
  root : List Byte
  deriving DecidableEq, Repr

/-- The region's policy is WRITABLE. -/
def Region.writable (r : Region) : Bool := r.policy = 1
/-- The region asks for hot-tier space. -/
def Region.pin (r : Region) : Bool := r.flags.testBit 0
/-- A Nursery source is present. -/
def Region.nursery (r : Region) : Bool := r.flags.testBit 1
/-- Leaves of the region. -/
def Region.leaves (r : Region) : Nat := r.length / 4096

/-- The signature block of R121: the second algorithm, the key block with its two public keys, the two signatures and
the length of the signed part after SIG_OFF. -/
structure SigBlock where
  sig2Alg : Nat
  keyBlk : List Byte
  pk1 : List Byte
  pk2 : List Byte
  sig1 : List Byte
  sig2 : List Byte
  signedLen : Nat
  totalLen : Nat
  deriving DecidableEq, Repr

/-- A manifest that obeys R118, R119 and R121. -/
structure Manifest where
  domain : Nat
  svn : Nat
  keyId : Nat
  totalLen : Nat
  channels : Nat
  tag : Nat
  regions : List Region
  sig : SigBlock
  digest : List Byte
  keyDigest : List Byte
  deriving DecidableEq, Repr

/-- SHA-384 as bytes. -/
def shaBytes (m : List Byte) : List Byte := beBytes 48 (Config.sha384 m).toNat

/-- The LMS type and the LM-OTS type of an HSS public key with L = 1 are supported (R122): LMS_SHA256_M32_H10 to _H20
are types 6 to 8, LMOTS_SHA256_N32_W4 and _W8 types 3 and 4, big-endian after the level count. -/
def lmsTypesOk (pk : List Byte) : Bool :=
  beNat (slice pk 0 4) = 1 && [6, 7, 8].contains (beNat (slice pk 4 4))
    && [3, 4].contains (beNat (slice pk 8 4))

/-- The exact length of an HSS signature with L = 1 for the types in a public key (SP 800-208): level count, index, LM-OTS
signature of 67 (W4) or 34 (W8) hash values, type and path. -/
def lmsSigLen (pk : List Byte) : Nat :=
  let chains := if beNat (slice pk 8 4) = 3 then 67 else 34
  let height := 5 * (beNat (slice pk 4 4) - 4)
  4 + 4 + (4 + 32 + 32 * chains) + 4 + 32 * height

/-- The LM-OTS and LMS types that an HSS signature carries itself are supported (R122, R314): they stand behind the level count and the index,
and behind the hash values of the LM-OTS signature, whose length follows from the key's type (SP 800-208). -/
def lmsSigOk (pk sig : List Byte) : Bool :=
  let chains := if beNat (slice pk 8 4) = 3 then 67 else 34
  [3, 4].contains (beNat (slice sig 8 4)) && [6, 7, 8].contains (beNat (slice sig (44 + 32 * chains) 4))

/-- The signature block at offset `off` of a byte string (R121), for the given second algorithm. -/
def parseSigBlock (bs : List Byte) (off alg : Nat) : Option SigBlock :=
  let keyLen := fieldAt bs off 2
  let sig1Len := fieldAt bs (off + 2) 2
  let sig2Len := fieldAt bs (off + 4) 2
  let pk2Len := fieldAt bs (off + 10) 2
  let pk2 := slice bs (off + 112) pk2Len
  let ok := (alg = 1 || alg = 2)
    && keyLen = 104 + pk2Len && sig1Len = 96 && zeroAt bs (off + 6) 2
    && fieldAt bs (off + 8) 1 = alg && zeroAt bs (off + 9) 1 && zeroAt bs (off + 109) 3
    && pk2Len = (if alg = 1 then 2592 else 60)
    && fieldAt bs (off + 12) 1 = 4
    && (if alg = 1 then sig2Len = 4627 else sig2Len = lmsSigLen pk2 && lmsTypesOk pk2 && lmsSigOk pk2 (slice bs (off + 8 + keyLen + 96) sig2Len))
    && off + 8 + keyLen + 96 + sig2Len ≤ bs.length
  if ok then
    some { sig2Alg := alg, keyBlk := slice bs (off + 8) keyLen, pk1 := slice bs (off + 12) 97, pk2
           sig1 := slice bs (off + 8 + keyLen) 96, sig2 := slice bs (off + 8 + keyLen + 96) sig2Len
           signedLen := off + 8 + keyLen, totalLen := off + 8 + keyLen + 96 + sig2Len }
  else none

/-- Both signatures verify over a digest (R122). -/
def SigBlock.verify (g : SigBlock) (d : List Byte) : Bool :=
  ecdsaVerify p384 g.pk1 d g.sig1
    && (if g.sig2Alg = 1 then Config.mldsaVerify g.pk2 [] d g.sig2 else Config.lmsVerify g.pk2 d g.sig2)

/-- The region descriptor at offset `off`; `image` marks classes 254 and 255. -/
def parseRegion (bs : List Byte) (off : Nat) (image : Bool) : Option Region :=
  let r : Region :=
    { channel := fieldAt bs off 1, policy := fieldAt bs (off + 1) 1, flags := fieldAt bs (off + 2) 1
      chanOff := fieldAt bs (off + 4) 4, length := fieldAt bs (off + 8) 4
      shadowOff := fieldAt bs (off + 12) 4, srcPart := fieldAt bs (off + 16) 2
      nurPart := fieldAt bs (off + 18) 2, srcOff := fieldAt bs (off + 20) 4
      nurOff := fieldAt bs (off + 24) 4, root := slice bs (off + 32) 48 }
  let common := zeroAt bs (off + 3) 1 && zeroAt bs (off + 28) 4 && zeroAt bs (off + 80) 16
    && 4096 ≤ r.length && r.length ≤ 536870912 && r.length % 4096 = 0
  let ok :=
    if image then
      r.channel = 0xFF && r.srcPart = 0xFFFF && r.nurPart = 0xFFFF && r.policy = 0 && r.flags = 0
        && r.chanOff = 0 && r.shadowOff = 0 && r.srcOff = 0 && r.nurOff = 0
    else
      r.channel < 96 && r.policy ≤ 1 && r.flags < 4 && r.chanOff % 4096 = 0 && r.shadowOff % 4096 = 0
        && r.srcOff % 4096 = 0
        && (if r.nursery then r.nurOff % 4096 = 0 else r.nurPart = 0xFFFF && r.nurOff = 0)
  if common && ok then some r else none

/-- Two half-open ranges meet. -/
def overlap (a n b m : Nat) : Bool := a < b + m && b < a + n

/-- No two of the regions overlap in the shadow range, and none on one channel in the emulated device (R120). -/
def regionsDisjoint : List Region → Bool
  | [] => true
  | r :: t => t.all (fun q => !overlap r.shadowOff r.length q.shadowOff q.length
      && !(r.channel = q.channel && overlap r.chanOff r.length q.chanOff q.length)) && regionsDisjoint t

/-- Every element answers, or none. -/
def allSome {α : Type} : List (Option α) → Option (List α)
  | [] => some []
  | some a :: t => (allSome t).map (a :: ·)
  | none :: _ => none

/-- A manifest read from its bytes: R118, R119, R121 and the overlap rules of R120. -/
def parseManifest (bs : List Byte) : Option Manifest :=
  let dom := fieldAt bs 8 1
  let image := dom = 254 || dom = 255
  let count := fieldAt bs 9 1
  let sigOff := fieldAt bs 28 4
  let hdr := slice bs 0 4 = [0x48, 0x53, 0x54, 0x41] && fieldAt bs 4 2 = 1 && fieldAt bs 6 2 = 64
    && (dom < 48 || image) && 1 ≤ count && count ≤ 64 && (!image || count = 1)
    && fieldAt bs 10 1 = 12 && fieldAt bs 11 1 = 8 && fieldAt bs 12 1 = 1
    && zeroAt bs 14 2 && zeroAt bs 48 16 && fieldAt bs 24 4 ≤ 65536
    && sigOff = 64 + 96 * count && (!image || zeroAt bs 32 12) && 64 ≤ bs.length
  if !hdr then none
  else
    match parseSigBlock bs sigOff (fieldAt bs 13 1),
        allSome ((List.range count).map fun r => parseRegion bs (64 + 96 * r) image) with
    | some g, some rs =>
      if g.totalLen = fieldAt bs 24 4 && regionsDisjoint rs then
        some { domain := dom, svn := fieldAt bs 16 4, keyId := fieldAt bs 20 4, totalLen := fieldAt bs 24 4
               channels := fieldAt bs 32 12, tag := fieldAt bs 44 4, regions := rs, sig := g
               digest := shaBytes (bs.take g.signedLen), keyDigest := shaBytes g.keyBlk }
      else none
    | _, _ => none

/-- The hash of one leaf (R124). -/
def leafHash (leaf : List Byte) : List Byte := shaBytes (0x00 :: leaf)

/-- The hash of a node over the concatenation of its `c` children (R124). -/
def nodeHash (c : Nat) (children : List Byte) : List Byte := shaBytes (0x01 :: BitVec.ofNat 8 c :: children)

/-- The next level up of a list of node hashes, in groups of up to eight; `fuel` bounds the number of groups. -/
def nextLevel : Nat → List (List Byte) → List (List Byte)
  | 0, _ => []
  | fuel + 1, l =>
    if l.isEmpty then []
    else nodeHash (min 8 l.length) (l.take 8).flatten :: nextLevel fuel (l.drop 8)

/-- The root above a level: at least one node level is built (R124). -/
def rootOf : Nat → List (List Byte) → List Byte
  | 0, l => l.headD []
  | fuel + 1, l =>
    let n := nextLevel l.length l
    if n.length ≤ 1 then n.headD [] else rootOf fuel n

/-- A byte string cut into pieces of 4,096 bytes. -/
def cutLeaves : Nat → List Byte → List (List Byte)
  | 0, _ => []
  | n + 1, bs => slice bs 0 4096 :: cutLeaves n (bs.drop 4096)

/-- The Merkle root of a region held as bytes (R124). -/
def regionRoot (bs : List Byte) : List Byte :=
  rootOf 16 ((cutLeaves ((bs.length + 4095) / 4096) bs).map leafHash)

/-- Entries of the levels of a tree of `n` leaves, level 0 first, the root's level last; `fuel` bounds the height. -/
def levelSizes : Nat → Nat → List Nat
  | 0, n => [n]
  | fuel + 1, n => if n ≤ 1 then [n] else n :: levelSizes fuel ((n + 7) / 8)

/-- The levels above the leaves exist even for one leaf (R124): level 0, then the rest up to the root. -/
def treeLevels (n : Nat) : List Nat := n :: levelSizes 8 ((n + 7) / 8)

/-- A length rounded up to a multiple of 4,096. -/
def pad4096 (n : Nat) : Nat := (n + 4095) / 4096 * 4096

/-- Length of the stored tree image of a region of `n` leaves: levels L − 1 down to 0, each padded (R125). -/
def treeLen (n : Nat) : Nat := ((treeLevels n).dropLast.map fun k => pad4096 (48 * k)).foldl (· + ·) 0

/-- A partition as the bounds of R120 need it: its length. The ranges of source and Nursery lie inside (R120). -/
def regionInParts (partLen : Nat → Option Nat) (r : Region) : Bool :=
  let need := r.length + treeLen r.leaves
  (match partLen r.srcPart with | some l => decide (r.srcOff + need ≤ l) | none => false)
    && (!r.nursery || match partLen r.nurPart with | some l => decide (r.nurOff + need ≤ l) | none => false)

/-- One key entry of R123. -/
structure KeyEntry where
  keyId : Nat
  digest : List Byte
  revoked : Bool
  deriving DecidableEq, Repr

end Sys2Proof.Machine
end

