-- ==== Sys2Proof/Machine/Sparse.lean ====
section
/-! DEFINITION. Sparse tables: sorted lists of (key, value) pairs in one canonical form. A table has a default
for every key; a key that is not listed has its default, and no listed value equals the default of its key. -/

namespace Sys2Proof.Machine

/-- The value at key `k` of a table whose unlisted keys have the value `d k`. -/
def Sparse.get {α : Type} (d : Nat → α) : List (Nat × α) → Nat → α
  | [], k => d k
  | p :: t, k => if k = p.1 then p.2 else Sparse.get d t k

/-- Insertion in key order, replacing an entry of the same key. -/
def Sparse.ins {α : Type} : List (Nat × α) → Nat → α → List (Nat × α)
  | [], k, v => [(k, v)]
  | p :: t, k, v =>
    if k < p.1 then (k, v) :: p :: t
    else if k = p.1 then (k, v) :: t
    else p :: Sparse.ins t k v

/-- Removal of a key. -/
def Sparse.del {α : Type} : List (Nat × α) → Nat → List (Nat × α)
  | [], _ => []
  | p :: t, k => if p.1 = k then Sparse.del t k else p :: Sparse.del t k

/-- The table with `v` at key `k`: writing the default removes the entry. -/
def Sparse.put {α : Type} [DecidableEq α] (d : Nat → α) (t : List (Nat × α)) (k : Nat) (v : α) :
    List (Nat × α) :=
  if v = d k then Sparse.del t k else Sparse.ins t k v

/-- Every key above `b`, strictly rising, no value equal to its default. -/
def Sparse.wfAbove {α : Type} [DecidableEq α] (d : Nat → α) : Option Nat → List (Nat × α) → Bool
  | _, [] => true
  | b, p :: t => (match b with | none => true | some x => decide (x < p.1)) && !decide (p.2 = d p.1)
      && Sparse.wfAbove d (some p.1) t

/-- The canonical form: strictly rising keys, no entry at its default. -/
def Sparse.wf {α : Type} [DecidableEq α] (d : Nat → α) (t : List (Nat × α)) : Bool :=
  Sparse.wfAbove d none t

/-- The table with every key that satisfies `p` returned to its default. -/
def Sparse.clear {α : Type} (p : Nat → Bool) (t : List (Nat × α)) : List (Nat × α) :=
  t.filter fun e => !p e.1

end Sys2Proof.Machine
end

