-- ==== Sys2Proof/Machine/Regs.lean ====
section
/-! DEFINITION. The register map of the HX96, as data read off the field tables of the chapters of spec/: for
every register its Belvedere address, and for every field its place and access code (R4). Registers of
an array take their index. The Kiosk BAR registers TN_* of tenant n stand at 0x1_0000_0000 + 32n, outside the
32-bit Belvedere map, since the BAR is a PCIe window and not part of that map (R30, R338). -/

namespace Sys2Proof.Machine

/-- A field of a register: the register address, the lowest bit and the width. -/
structure Fld where
  addr : Nat
  lo : Nat
  wid : Nat
  deriving DecidableEq, Repr

/-- The access codes of R4; RSV fields are those the map does not list. -/
inductive Acc where
  | ro | rw | rwl | w1c | w1s | wo | rc
  deriving DecidableEq, Repr

/-- One field of the map: lowest bit, width, access code. -/
structure FldRow where
  lo : Nat
  wid : Nat
  acc : Acc
  deriving DecidableEq, Repr

/-- One register or register array of the map: `count` registers, `stride` bytes apart, from `base`. -/
structure RegRow where
  base : Nat
  stride : Nat
  count : Nat
  flds : List FldRow
  deriving DecidableEq, Repr


/-! ### SYSCTL: base 0x40000000 -/
/-- SYSCTL_ID (01_architecture.md). -/
def SYSCTL_ID : Nat := 0x40000000
def SYSCTL_ID_PART : Fld := ⟨SYSCTL_ID, 16, 16⟩
def SYSCTL_ID_DIE_MAJOR : Fld := ⟨SYSCTL_ID, 12, 4⟩
def SYSCTL_ID_DIE_MINOR : Fld := ⟨SYSCTL_ID, 8, 4⟩
def SYSCTL_ID_GRADE : Fld := ⟨SYSCTL_ID, 4, 4⟩
def SYSCTL_ID_DRAM_CAP : Fld := ⟨SYSCTL_ID, 0, 4⟩
/-- SYSCTL_MODE (04_domains_and_device_modes.md). -/
def SYSCTL_MODE : Nat := 0x40000004
def SYSCTL_MODE_JOBS : Fld := ⟨SYSCTL_MODE, 16, 8⟩
def SYSCTL_MODE_LD_CAUSE : Fld := ⟨SYSCTL_MODE, 8, 8⟩
def SYSCTL_MODE_MODE : Fld := ⟨SYSCTL_MODE, 0, 3⟩
/-- SYSCTL_RSTCAUSE (03_power_up_and_boot_chain.md). -/
def SYSCTL_RSTCAUSE : Nat := 0x40000008
def SYSCTL_RSTCAUSE_PIN_IGNORED : Fld := ⟨SYSCTL_RSTCAUSE, 9, 1⟩
def SYSCTL_RSTCAUSE_RSTPIN_STUCK : Fld := ⟨SYSCTL_RSTCAUSE, 8, 1⟩
def SYSCTL_RSTCAUSE_BV_WDT : Fld := ⟨SYSCTL_RSTCAUSE, 6, 1⟩
def SYSCTL_RSTCAUSE_BV_RESTART : Fld := ⟨SYSCTL_RSTCAUSE, 5, 1⟩
def SYSCTL_RSTCAUSE_SW_DEV : Fld := ⟨SYSCTL_RSTCAUSE, 4, 1⟩
def SYSCTL_RSTCAUSE_PIN : Fld := ⟨SYSCTL_RSTCAUSE, 3, 1⟩
def SYSCTL_RSTCAUSE_MONITOR : Fld := ⟨SYSCTL_RSTCAUSE, 2, 1⟩
def SYSCTL_RSTCAUSE_PWRGD : Fld := ⟨SYSCTL_RSTCAUSE, 1, 1⟩
def SYSCTL_RSTCAUSE_POR : Fld := ⟨SYSCTL_RSTCAUSE, 0, 1⟩
/-- SYSCTL_MODE_GEN (04_domains_and_device_modes.md). -/
def SYSCTL_MODE_GEN : Nat := 0x4000000C
def SYSCTL_MODE_GEN_GEN : Fld := ⟨SYSCTL_MODE_GEN, 0, 32⟩
/-- SYSCTL_CLKSEL (01_architecture.md). -/
def SYSCTL_CLKSEL : Nat := 0x40000010
def SYSCTL_CLKSEL_SWITCH_REQ : Fld := ⟨SYSCTL_CLKSEL, 3, 1⟩
def SYSCTL_CLKSEL_PLL_PREF : Fld := ⟨SYSCTL_CLKSEL, 2, 1⟩
def SYSCTL_CLKSEL_AUTO_SWITCH : Fld := ⟨SYSCTL_CLKSEL, 1, 1⟩
def SYSCTL_CLKSEL_REF_B_EN : Fld := ⟨SYSCTL_CLKSEL, 0, 1⟩
/-- SYSCTL_CLKSTAT (01_architecture.md). -/
def SYSCTL_CLKSTAT : Nat := 0x40000014
def SYSCTL_CLKSTAT_HOLDOVER : Fld := ⟨SYSCTL_CLKSTAT, 5, 1⟩
def SYSCTL_CLKSTAT_ACTIVE_PLL : Fld := ⟨SYSCTL_CLKSTAT, 4, 1⟩
def SYSCTL_CLKSTAT_PLL1_LOCK : Fld := ⟨SYSCTL_CLKSTAT, 3, 1⟩
def SYSCTL_CLKSTAT_PLL0_LOCK : Fld := ⟨SYSCTL_CLKSTAT, 2, 1⟩
def SYSCTL_CLKSTAT_REFB_OK : Fld := ⟨SYSCTL_CLKSTAT, 1, 1⟩
def SYSCTL_CLKSTAT_REFA_OK : Fld := ⟨SYSCTL_CLKSTAT, 0, 1⟩
/-- SYSCTL_CLKEVT (01_architecture.md). -/
def SYSCTL_CLKEVT : Nat := 0x40000018
def SYSCTL_CLKEVT_HOLDOVER_ENTERED : Fld := ⟨SYSCTL_CLKEVT, 5, 1⟩
def SYSCTL_CLKEVT_SWITCHED : Fld := ⟨SYSCTL_CLKEVT, 4, 1⟩
def SYSCTL_CLKEVT_PLL1_UNLOCK : Fld := ⟨SYSCTL_CLKEVT, 3, 1⟩
def SYSCTL_CLKEVT_PLL0_UNLOCK : Fld := ⟨SYSCTL_CLKEVT, 2, 1⟩
def SYSCTL_CLKEVT_REFB_LOST : Fld := ⟨SYSCTL_CLKEVT, 1, 1⟩
def SYSCTL_CLKEVT_REFA_LOST : Fld := ⟨SYSCTL_CLKEVT, 0, 1⟩
/-- SYSCTL_SPARE_STAT (01_architecture.md). -/
def SYSCTL_SPARE_STAT : Nat := 0x40000020
def SYSCTL_SPARE_STAT_OTP_SPARE : Fld := ⟨SYSCTL_SPARE_STAT, 24, 8⟩
def SYSCTL_SPARE_STAT_SRAM_SPARE_MIN : Fld := ⟨SYSCTL_SPARE_STAT, 16, 8⟩
def SYSCTL_SPARE_STAT_VALID : Fld := ⟨SYSCTL_SPARE_STAT, 15, 1⟩
def SYSCTL_SPARE_STAT_BV_STANDBY : Fld := ⟨SYSCTL_SPARE_STAT, 14, 1⟩
def SYSCTL_SPARE_STAT_PLL_SPARE : Fld := ⟨SYSCTL_SPARE_STAT, 13, 1⟩
def SYSCTL_SPARE_STAT_MESH_SPARE : Fld := ⟨SYSCTL_SPARE_STAT, 8, 4⟩
def SYSCTL_SPARE_STAT_NOISE_SPARE : Fld := ⟨SYSCTL_SPARE_STAT, 4, 4⟩
def SYSCTL_SPARE_STAT_HASH_SPARE : Fld := ⟨SYSCTL_SPARE_STAT, 0, 4⟩
/-- SYSCTL_SPARE_EVT (01_architecture.md). -/
def SYSCTL_SPARE_EVT : Nat := 0x40000024
def SYSCTL_SPARE_EVT_SPARE_LOW : Fld := ⟨SYSCTL_SPARE_EVT, 8, 1⟩
def SYSCTL_SPARE_EVT_FE_USED : Fld := ⟨SYSCTL_SPARE_EVT, 7, 1⟩
def SYSCTL_SPARE_EVT_PLL_USED : Fld := ⟨SYSCTL_SPARE_EVT, 6, 1⟩
def SYSCTL_SPARE_EVT_BV_FAILOVER : Fld := ⟨SYSCTL_SPARE_EVT, 5, 1⟩
def SYSCTL_SPARE_EVT_OTP_USED : Fld := ⟨SYSCTL_SPARE_EVT, 4, 1⟩
def SYSCTL_SPARE_EVT_SRAM_USED : Fld := ⟨SYSCTL_SPARE_EVT, 3, 1⟩
def SYSCTL_SPARE_EVT_MESH_USED : Fld := ⟨SYSCTL_SPARE_EVT, 2, 1⟩
def SYSCTL_SPARE_EVT_NOISE_USED : Fld := ⟨SYSCTL_SPARE_EVT, 1, 1⟩
def SYSCTL_SPARE_EVT_HASH_USED : Fld := ⟨SYSCTL_SPARE_EVT, 0, 1⟩
/-- SYSCTL_PLANE_STAT (01_architecture.md). -/
def SYSCTL_PLANE_STAT : Nat := 0x40000028
def SYSCTL_PLANE_STAT_LAST_STATUS : Fld := ⟨SYSCTL_PLANE_STAT, 16, 8⟩
def SYSCTL_PLANE_STAT_PLANE_IRQ : Fld := ⟨SYSCTL_PLANE_STAT, 5, 1⟩
def SYSCTL_PLANE_STAT_SIMPLEX : Fld := ⟨SYSCTL_PLANE_STAT, 4, 1⟩
def SYSCTL_PLANE_STAT_PLANE_B_STATE : Fld := ⟨SYSCTL_PLANE_STAT, 2, 2⟩
def SYSCTL_PLANE_STAT_PLANE_A_STATE : Fld := ⟨SYSCTL_PLANE_STAT, 0, 2⟩
/-- SYSCTL_PLANE_CTL (01_architecture.md). -/
def SYSCTL_PLANE_CTL : Nat := 0x4000002C
def SYSCTL_PLANE_CTL_REBUILD_B : Fld := ⟨SYSCTL_PLANE_CTL, 1, 1⟩
def SYSCTL_PLANE_CTL_REBUILD_A : Fld := ⟨SYSCTL_PLANE_CTL, 0, 1⟩
/-- SYSCTL_LOCK (01_architecture.md). -/
def SYSCTL_LOCK : Nat := 0x40000030
def SYSCTL_LOCK_LOCK_VIOL : Fld := ⟨SYSCTL_LOCK, 1, 1⟩
def SYSCTL_LOCK_LOCK : Fld := ⟨SYSCTL_LOCK, 0, 1⟩
/-- SYSCTL_BANK_V0 (02_balls_and_signals.md). -/
def SYSCTL_BANK_V0 : Nat := 0x40000040
def SYSCTL_BANK_V0_CHB_V : Fld := ⟨SYSCTL_BANK_V0, 0, 24⟩
def SYSCTL_BANK_V0_FBB_V : Fld := ⟨SYSCTL_BANK_V0, 24, 8⟩
/-- SYSCTL_BANK_V1 (02_balls_and_signals.md). -/
def SYSCTL_BANK_V1 : Nat := 0x40000044
def SYSCTL_BANK_V1_SYB_V : Fld := ⟨SYSCTL_BANK_V1, 14, 2⟩
def SYSCTL_BANK_V1_MGB_V : Fld := ⟨SYSCTL_BANK_V1, 12, 2⟩
def SYSCTL_BANK_V1_PCB_V : Fld := ⟨SYSCTL_BANK_V1, 0, 12⟩
/-- SYSCTL_BANK_ERR (02_balls_and_signals.md). -/
def SYSCTL_BANK_ERR : Nat := 0x40000048
def SYSCTL_BANK_ERR_MISMATCH : Fld := ⟨SYSCTL_BANK_ERR, 0, 24⟩
/-- SYSCTL_BANK_EVT (02_balls_and_signals.md). -/
def SYSCTL_BANK_EVT : Nat := 0x4000004C
def SYSCTL_BANK_EVT_CHANGED : Fld := ⟨SYSCTL_BANK_EVT, 0, 24⟩
/-- SYSCTL_PIN_STAT (02_balls_and_signals.md). -/
def SYSCTL_PIN_STAT : Nat := 0x40000050
def SYSCTL_PIN_STAT_FAULT_OUT : Fld := ⟨SYSCTL_PIN_STAT, 3, 1⟩
def SYSCTL_PIN_STAT_TESTEN_LVL : Fld := ⟨SYSCTL_PIN_STAT, 2, 1⟩
def SYSCTL_PIN_STAT_PERST_LVL : Fld := ⟨SYSCTL_PIN_STAT, 1, 1⟩
def SYSCTL_PIN_STAT_PWRGD_LVL : Fld := ⟨SYSCTL_PIN_STAT, 0, 1⟩
/-- SYSCTL_BOOT_STAT (03_power_up_and_boot_chain.md). -/
def SYSCTL_BOOT_STAT : Nat := 0x40000060
def SYSCTL_BOOT_STAT_CHECK_IDX : Fld := ⟨SYSCTL_BOOT_STAT, 24, 8⟩
def SYSCTL_BOOT_STAT_TESTEN_SEEN : Fld := ⟨SYSCTL_BOOT_STAT, 21, 1⟩
def SYSCTL_BOOT_STAT_CHECKER_FAIL : Fld := ⟨SYSCTL_BOOT_STAT, 20, 1⟩
def SYSCTL_BOOT_STAT_ROM_RECOVERY : Fld := ⟨SYSCTL_BOOT_STAT, 19, 1⟩
def SYSCTL_BOOT_STAT_VAULT_LOST : Fld := ⟨SYSCTL_BOOT_STAT, 18, 1⟩
def SYSCTL_BOOT_STAT_COPY_USED : Fld := ⟨SYSCTL_BOOT_STAT, 17, 1⟩
def SYSCTL_BOOT_STAT_B_READ : Fld := ⟨SYSCTL_BOOT_STAT, 16, 1⟩
def SYSCTL_BOOT_STAT_B_STATUS : Fld := ⟨SYSCTL_BOOT_STAT, 8, 8⟩
def SYSCTL_BOOT_STAT_A_STATUS : Fld := ⟨SYSCTL_BOOT_STAT, 0, 8⟩
/-- SYSCTL_BOOT_CTL (03_power_up_and_boot_chain.md). -/
def SYSCTL_BOOT_CTL : Nat := 0x40000064
def SYSCTL_BOOT_CTL_KEY : Fld := ⟨SYSCTL_BOOT_CTL, 16, 16⟩
def SYSCTL_BOOT_CTL_RESTART_COPY : Fld := ⟨SYSCTL_BOOT_CTL, 2, 1⟩
def SYSCTL_BOOT_CTL_BV_RESTART : Fld := ⟨SYSCTL_BOOT_CTL, 1, 1⟩
def SYSCTL_BOOT_CTL_DEV_RESET : Fld := ⟨SYSCTL_BOOT_CTL, 0, 1⟩
/-- SYSCTL_BOOT_TIME (03_power_up_and_boot_chain.md). -/
def SYSCTL_BOOT_TIME : Nat := 0x40000068
def SYSCTL_BOOT_TIME_ASSEMBLY_T : Fld := ⟨SYSCTL_BOOT_TIME, 16, 16⟩
def SYSCTL_BOOT_TIME_HANDOVER_T : Fld := ⟨SYSCTL_BOOT_TIME, 0, 16⟩
/-- SYSCTL_TRAIN_STAT (03_power_up_and_boot_chain.md). -/
def SYSCTL_TRAIN_STAT : Nat := 0x4000006C
def SYSCTL_TRAIN_STAT_LAST_STATUS : Fld := ⟨SYSCTL_TRAIN_STAT, 24, 8⟩
def SYSCTL_TRAIN_STAT_RETRAIN_1 : Fld := ⟨SYSCTL_TRAIN_STAT, 17, 1⟩
def SYSCTL_TRAIN_STAT_RETRAIN_0 : Fld := ⟨SYSCTL_TRAIN_STAT, 16, 1⟩
def SYSCTL_TRAIN_STAT_IF1_ATTEMPTS : Fld := ⟨SYSCTL_TRAIN_STAT, 8, 4⟩
def SYSCTL_TRAIN_STAT_IF0_ATTEMPTS : Fld := ⟨SYSCTL_TRAIN_STAT, 4, 4⟩
def SYSCTL_TRAIN_STAT_IF1_RESULT : Fld := ⟨SYSCTL_TRAIN_STAT, 2, 2⟩
def SYSCTL_TRAIN_STAT_IF0_RESULT : Fld := ⟨SYSCTL_TRAIN_STAT, 0, 2⟩
/-- SYSCTL_FW_SVN (03_power_up_and_boot_chain.md). -/
def SYSCTL_FW_SVN : Nat := 0x40000070
def SYSCTL_FW_SVN_FW_SVN : Fld := ⟨SYSCTL_FW_SVN, 0, 32⟩
/-- SYSCTL_CFG_SVN (03_power_up_and_boot_chain.md). -/
def SYSCTL_CFG_SVN : Nat := 0x40000074
def SYSCTL_CFG_SVN_CFG_SVN : Fld := ⟨SYSCTL_CFG_SVN, 0, 32⟩
/-- SYSCTL_SVN_MIN (03_power_up_and_boot_chain.md). -/
def SYSCTL_SVN_MIN : Nat := 0x40000078
def SYSCTL_SVN_MIN_CFG_MIN : Fld := ⟨SYSCTL_SVN_MIN, 8, 8⟩
def SYSCTL_SVN_MIN_FW_MIN : Fld := ⟨SYSCTL_SVN_MIN, 0, 8⟩
/-- SYSCTL_FAULT (18_contention_faults_abort.md). -/
def SYSCTL_FAULT : Nat := 0x40000080
def SYSCTL_FAULT_UNIT : Fld := ⟨SYSCTL_FAULT, 16, 16⟩
def SYSCTL_FAULT_LATCHED : Fld := ⟨SYSCTL_FAULT, 8, 1⟩
def SYSCTL_FAULT_CAUSE : Fld := ⟨SYSCTL_FAULT, 0, 8⟩
/-- SYSCTL_TEMP (19_electrical_timing_package.md). -/
def SYSCTL_TEMP : Nat := 0x40000090
def SYSCTL_TEMP_TEMP : Fld := ⟨SYSCTL_TEMP, 24, 8⟩
def SYSCTL_TEMP_PEAK : Fld := ⟨SYSCTL_TEMP, 16, 8⟩
def SYSCTL_TEMP_WARN_AT : Fld := ⟨SYSCTL_TEMP, 8, 8⟩
def SYSCTL_TEMP_WARN_IE : Fld := ⟨SYSCTL_TEMP, 2, 1⟩
def SYSCTL_TEMP_WARN : Fld := ⟨SYSCTL_TEMP, 1, 1⟩
def SYSCTL_TEMP_VALID : Fld := ⟨SYSCTL_TEMP, 0, 1⟩
/-- SYSCTL_WDT_CTL (03_power_up_and_boot_chain.md). -/
def SYSCTL_WDT_CTL : Nat := 0x400000A0
def SYSCTL_WDT_CTL_EN : Fld := ⟨SYSCTL_WDT_CTL, 16, 1⟩
def SYSCTL_WDT_CTL_PERIOD_MS : Fld := ⟨SYSCTL_WDT_CTL, 0, 16⟩
/-- SYSCTL_WDT_KICK (03_power_up_and_boot_chain.md). -/
def SYSCTL_WDT_KICK : Nat := 0x400000A4
def SYSCTL_WDT_KICK_KEY : Fld := ⟨SYSCTL_WDT_KICK, 16, 16⟩
def SYSCTL_WDT_KICK_REMAIN_MS : Fld := ⟨SYSCTL_WDT_KICK, 0, 16⟩
/-- SYSCTL_MEAS_FWi (03_power_up_and_boot_chain.md). -/
def SYSCTL_MEAS_FW (i : Nat) : Nat := 0x40000100 + 4 * i
def SYSCTL_MEAS_FW_ROOT (i : Nat) : Fld := ⟨(SYSCTL_MEAS_FW i), 0, 32⟩
/-- SYSCTL_MEAS_CFGi (03_power_up_and_boot_chain.md). -/
def SYSCTL_MEAS_CFG (i : Nat) : Nat := 0x40000130 + 4 * i
def SYSCTL_MEAS_CFG_ROOT (i : Nat) : Fld := ⟨(SYSCTL_MEAS_CFG i), 0, 32⟩

/-! ### LCS: base 0x40010000 -/
/-- LCS_STAT (16_life_cycle_and_debug.md). -/
def LCS_STAT : Nat := 0x40010000
def LCS_STAT_PENDING : Fld := ⟨LCS_STAT, 9, 1⟩
def LCS_STAT_ARMED : Fld := ⟨LCS_STAT, 8, 1⟩
def LCS_STAT_AGREE : Fld := ⟨LCS_STAT, 4, 3⟩
def LCS_STAT_TORN : Fld := ⟨LCS_STAT, 3, 1⟩
def LCS_STAT_STATE : Fld := ⟨LCS_STAT, 0, 3⟩
/-- LCS_REQUEST (16_life_cycle_and_debug.md). -/
def LCS_REQUEST : Nat := 0x40010004
def LCS_REQUEST_TARGET : Fld := ⟨LCS_REQUEST, 0, 3⟩
/-- LCS_ARM (16_life_cycle_and_debug.md). -/
def LCS_ARM : Nat := 0x40010008
def LCS_ARM_KEY : Fld := ⟨LCS_ARM, 16, 16⟩
def LCS_ARM_RETURN : Fld := ⟨LCS_ARM, 0, 1⟩
/-- LCS_REQ_STAT (16_life_cycle_and_debug.md). -/
def LCS_REQ_STAT : Nat := 0x4001000C
def LCS_REQ_STAT_BUSY : Fld := ⟨LCS_REQ_STAT, 16, 1⟩
def LCS_REQ_STAT_LAST_TARGET : Fld := ⟨LCS_REQ_STAT, 8, 3⟩
def LCS_REQ_STAT_LAST_STATUS : Fld := ⟨LCS_REQ_STAT, 0, 8⟩
/-- LCS_CODE_LO (16_life_cycle_and_debug.md). -/
def LCS_CODE_LO : Nat := 0x40010010
def LCS_CODE_LO_CODE : Fld := ⟨LCS_CODE_LO, 0, 32⟩
/-- LCS_CODE_HI (16_life_cycle_and_debug.md). -/
def LCS_CODE_HI : Nat := 0x40010014
def LCS_CODE_HI_CODE : Fld := ⟨LCS_CODE_HI, 0, 32⟩
/-- LCS_EVT (16_life_cycle_and_debug.md). -/
def LCS_EVT : Nat := 0x40010018
def LCS_EVT_PROGRAMMED : Fld := ⟨LCS_EVT, 2, 1⟩
def LCS_EVT_REFUSED : Fld := ⟨LCS_EVT, 1, 1⟩
def LCS_EVT_ACCEPTED : Fld := ⟨LCS_EVT, 0, 1⟩
/-- LCS_IRQ_EN (16_life_cycle_and_debug.md). -/
def LCS_IRQ_EN : Nat := 0x4001001C
def LCS_IRQ_EN_PROGRAMMED : Fld := ⟨LCS_IRQ_EN, 2, 1⟩
def LCS_IRQ_EN_REFUSED : Fld := ⟨LCS_IRQ_EN, 1, 1⟩
def LCS_IRQ_EN_ACCEPTED : Fld := ⟨LCS_IRQ_EN, 0, 1⟩

/-! ### KEYS: base 0x40020000 -/
/-- KEYS_STAT (11_key_store_and_derivation.md). -/
def KEYS_STAT : Nat := 0x40020000
def KEYS_STAT_PERSIST_USED : Fld := ⟨KEYS_STAT, 24, 8⟩
def KEYS_STAT_PERSIST_LOST : Fld := ⟨KEYS_STAT, 6, 1⟩
def KEYS_STAT_ZEROISED : Fld := ⟨KEYS_STAT, 5, 1⟩
def KEYS_STAT_SEALED : Fld := ⟨KEYS_STAT, 4, 1⟩
def KEYS_STAT_L2_DONE : Fld := ⟨KEYS_STAT, 3, 1⟩
def KEYS_STAT_L0_VALID : Fld := ⟨KEYS_STAT, 2, 1⟩
def KEYS_STAT_PENDING : Fld := ⟨KEYS_STAT, 1, 1⟩
def KEYS_STAT_CMD_BUSY : Fld := ⟨KEYS_STAT, 0, 1⟩
/-- KEYS_CMD (11_key_store_and_derivation.md). -/
def KEYS_CMD : Nat := 0x40020010
def KEYS_CMD_DST : Fld := ⟨KEYS_CMD, 24, 8⟩
def KEYS_CMD_SRC : Fld := ⟨KEYS_CMD, 16, 8⟩
def KEYS_CMD_ENGINE : Fld := ⟨KEYS_CMD, 8, 8⟩
def KEYS_CMD_OP : Fld := ⟨KEYS_CMD, 0, 8⟩
/-- KEYS_CMD_ARG0 (11_key_store_and_derivation.md). -/
def KEYS_CMD_ARG0 : Nat := 0x40020014
def KEYS_CMD_ARG0_ARG : Fld := ⟨KEYS_CMD_ARG0, 0, 32⟩
/-- KEYS_CMD_ARG1 (11_key_store_and_derivation.md). -/
def KEYS_CMD_ARG1 : Nat := 0x40020018
def KEYS_CMD_ARG1_ARG : Fld := ⟨KEYS_CMD_ARG1, 0, 32⟩
/-- KEYS_CMD_ARG2 (11_key_store_and_derivation.md). -/
def KEYS_CMD_ARG2 : Nat := 0x4002001C
def KEYS_CMD_ARG2_ARG : Fld := ⟨KEYS_CMD_ARG2, 0, 32⟩
/-- KEYS_CMD_ARG3 (11_key_store_and_derivation.md). -/
def KEYS_CMD_ARG3 : Nat := 0x40020020
def KEYS_CMD_ARG3_ARG : Fld := ⟨KEYS_CMD_ARG3, 0, 32⟩
/-- KEYS_CMD_STAT (11_key_store_and_derivation.md). -/
def KEYS_CMD_STAT : Nat := 0x40020024
def KEYS_CMD_STAT_RESULT : Fld := ⟨KEYS_CMD_STAT, 16, 16⟩
def KEYS_CMD_STAT_LAST_OP : Fld := ⟨KEYS_CMD_STAT, 8, 8⟩
def KEYS_CMD_STAT_LAST_STATUS : Fld := ⟨KEYS_CMD_STAT, 0, 8⟩
/-- KEYS_EVT (11_key_store_and_derivation.md). -/
def KEYS_EVT : Nat := 0x40020028
def KEYS_EVT_ZEROISED : Fld := ⟨KEYS_EVT, 5, 1⟩
def KEYS_EVT_SEALED : Fld := ⟨KEYS_EVT, 4, 1⟩
def KEYS_EVT_REVOKED : Fld := ⟨KEYS_EVT, 3, 1⟩
def KEYS_EVT_AMBIGUOUS : Fld := ⟨KEYS_EVT, 2, 1⟩
def KEYS_EVT_KEY_BAD_EVT : Fld := ⟨KEYS_EVT, 1, 1⟩
def KEYS_EVT_CMD_DONE : Fld := ⟨KEYS_EVT, 0, 1⟩
/-- KEYS_IRQ_EN (11_key_store_and_derivation.md). -/
def KEYS_IRQ_EN : Nat := 0x4002002C
def KEYS_IRQ_EN_ZEROISED : Fld := ⟨KEYS_IRQ_EN, 5, 1⟩
def KEYS_IRQ_EN_SEALED : Fld := ⟨KEYS_IRQ_EN, 4, 1⟩
def KEYS_IRQ_EN_REVOKED : Fld := ⟨KEYS_IRQ_EN, 3, 1⟩
def KEYS_IRQ_EN_AMBIGUOUS : Fld := ⟨KEYS_IRQ_EN, 2, 1⟩
def KEYS_IRQ_EN_KEY_BAD_EVT : Fld := ⟨KEYS_IRQ_EN, 1, 1⟩
def KEYS_IRQ_EN_CMD_DONE : Fld := ⟨KEYS_IRQ_EN, 0, 1⟩
/-- KEYS_SLOT_SEL (11_key_store_and_derivation.md). -/
def KEYS_SLOT_SEL : Nat := 0x40020030
def KEYS_SLOT_SEL_SLOT : Fld := ⟨KEYS_SLOT_SEL, 0, 6⟩
/-- KEYS_SLOT_INFO (11_key_store_and_derivation.md). -/
def KEYS_SLOT_INFO : Nat := 0x40020034
def KEYS_SLOT_INFO_LEASES : Fld := ⟨KEYS_SLOT_INFO, 12, 4⟩
def KEYS_SLOT_INFO_WLOCK : Fld := ⟨KEYS_SLOT_INFO, 11, 1⟩
def KEYS_SLOT_INFO_PENDING : Fld := ⟨KEYS_SLOT_INFO, 10, 1⟩
def KEYS_SLOT_INFO_COPY1_VALID : Fld := ⟨KEYS_SLOT_INFO, 9, 1⟩
def KEYS_SLOT_INFO_COPY0_VALID : Fld := ⟨KEYS_SLOT_INFO, 8, 1⟩
def KEYS_SLOT_INFO_STATE : Fld := ⟨KEYS_SLOT_INFO, 0, 3⟩
/-- KEYS_SLOT_META_LO (11_key_store_and_derivation.md). -/
def KEYS_SLOT_META_LO : Nat := 0x40020038
def KEYS_SLOT_META_LO_META : Fld := ⟨KEYS_SLOT_META_LO, 0, 32⟩
/-- KEYS_SLOT_META_HI (11_key_store_and_derivation.md). -/
def KEYS_SLOT_META_HI : Nat := 0x4002003C
def KEYS_SLOT_META_HI_KEY_ID : Fld := ⟨KEYS_SLOT_META_HI, 0, 32⟩
/-- KEYS_WK (11_key_store_and_derivation.md). -/
def KEYS_WK : Nat := 0x40020040
def KEYS_WK_HMAC : Fld := ⟨KEYS_WK, 24, 8⟩
def KEYS_WK_SHA3 : Fld := ⟨KEYS_WK, 16, 8⟩
def KEYS_WK_LATT : Fld := ⟨KEYS_WK, 8, 8⟩
def KEYS_WK_LIU : Fld := ⟨KEYS_WK, 0, 8⟩
/-- KEYS_BAD_LO (11_key_store_and_derivation.md). -/
def KEYS_BAD_LO : Nat := 0x40020048
def KEYS_BAD_LO_BAD : Fld := ⟨KEYS_BAD_LO, 0, 32⟩
/-- KEYS_BAD_HI (11_key_store_and_derivation.md). -/
def KEYS_BAD_HI : Nat := 0x4002004C
def KEYS_BAD_HI_BAD : Fld := ⟨KEYS_BAD_HI, 0, 32⟩

/-! ### ENG: base 0x40030000 -/
/-- ENG_STAT (12_arithmetic_engines.md). -/
def ENG_STAT (e : Nat) : Nat := 0x40030000 + 0x10000 * e
def ENG_STAT_CLEARING (e : Nat) : Fld := ⟨(ENG_STAT e), 12, 1⟩
def ENG_STAT_WK_LOADED (e : Nat) : Fld := ⟨(ENG_STAT e), 8, 4⟩
def ENG_STAT_KM_HOLD (e : Nat) : Fld := ⟨(ENG_STAT e), 4, 4⟩
def ENG_STAT_BUSY (e : Nat) : Fld := ⟨(ENG_STAT e), 0, 4⟩
/-- ENG_CMD_ADDR (12_arithmetic_engines.md). -/
def ENG_CMD_ADDR (e : Nat) : Nat := 0x40030004 + 0x10000 * e
def ENG_CMD_ADDR_ADDR (e : Nat) : Fld := ⟨(ENG_CMD_ADDR e), 0, 32⟩
/-- ENG_CMD (12_arithmetic_engines.md). -/
def ENG_CMD (e : Nat) : Nat := 0x40030008 + 0x10000 * e
def ENG_CMD_ENGINE (e : Nat) : Fld := ⟨(ENG_CMD e), 8, 8⟩
def ENG_CMD_OP (e : Nat) : Fld := ⟨(ENG_CMD e), 0, 8⟩
/-- ENG_CMD_STAT (12_arithmetic_engines.md). -/
def ENG_CMD_STAT (e : Nat) : Nat := 0x4003000C + 0x10000 * e
def ENG_CMD_STAT_RESULT (e : Nat) : Fld := ⟨(ENG_CMD_STAT e), 16, 16⟩
def ENG_CMD_STAT_LAST_ENGINE (e : Nat) : Fld := ⟨(ENG_CMD_STAT e), 8, 4⟩
def ENG_CMD_STAT_LAST_STATUS (e : Nat) : Fld := ⟨(ENG_CMD_STAT e), 0, 8⟩
/-- ENG_DONE (12_arithmetic_engines.md). -/
def ENG_DONE (e : Nat) : Nat := 0x40030010 + 0x10000 * e
def ENG_DONE_ENGINE (e : Nat) : Fld := ⟨(ENG_DONE e), 16, 4⟩
def ENG_DONE_OP (e : Nat) : Fld := ⟨(ENG_DONE e), 8, 8⟩
def ENG_DONE_STATUS (e : Nat) : Fld := ⟨(ENG_DONE e), 0, 8⟩
/-- ENG_EVT (12_arithmetic_engines.md). -/
def ENG_EVT (e : Nat) : Nat := 0x40030014 + 0x10000 * e
def ENG_EVT_SAT (e : Nat) : Fld := ⟨(ENG_EVT e), 6, 1⟩
def ENG_EVT_REVOKED (e : Nat) : Fld := ⟨(ENG_EVT e), 5, 1⟩
def ENG_EVT_FAULT (e : Nat) : Fld := ⟨(ENG_EVT e), 4, 1⟩
def ENG_EVT_DONE (e : Nat) : Fld := ⟨(ENG_EVT e), 0, 4⟩
/-- ENG_IRQ_EN (12_arithmetic_engines.md). -/
def ENG_IRQ_EN (e : Nat) : Nat := 0x40030018 + 0x10000 * e
def ENG_IRQ_EN_SAT (e : Nat) : Fld := ⟨(ENG_IRQ_EN e), 6, 1⟩
def ENG_IRQ_EN_REVOKED (e : Nat) : Fld := ⟨(ENG_IRQ_EN e), 5, 1⟩
def ENG_IRQ_EN_FAULT (e : Nat) : Fld := ⟨(ENG_IRQ_EN e), 4, 1⟩
def ENG_IRQ_EN_DONE (e : Nat) : Fld := ⟨(ENG_IRQ_EN e), 0, 4⟩
/-- ENG_OPS_LO (12_arithmetic_engines.md). -/
def ENG_OPS_LO (e : Nat) : Nat := 0x40030020 + 0x10000 * e
def ENG_OPS_LO_COUNT_LO (e : Nat) : Fld := ⟨(ENG_OPS_LO e), 0, 32⟩
/-- ENG_OPS_HI (12_arithmetic_engines.md). -/
def ENG_OPS_HI (e : Nat) : Nat := 0x40030024 + 0x10000 * e
def ENG_OPS_HI_SAT (e : Nat) : Fld := ⟨(ENG_OPS_HI e), 31, 1⟩
def ENG_OPS_HI_COUNT_HI (e : Nat) : Fld := ⟨(ENG_OPS_HI e), 0, 16⟩
/-- ENG_FAULT_LO (12_arithmetic_engines.md). -/
def ENG_FAULT_LO (e : Nat) : Nat := 0x40030028 + 0x10000 * e
def ENG_FAULT_LO_COUNT_LO (e : Nat) : Fld := ⟨(ENG_FAULT_LO e), 0, 32⟩
/-- ENG_FAULT_HI (12_arithmetic_engines.md). -/
def ENG_FAULT_HI (e : Nat) : Nat := 0x4003002C + 0x10000 * e
def ENG_FAULT_HI_SAT (e : Nat) : Fld := ⟨(ENG_FAULT_HI e), 31, 1⟩
def ENG_FAULT_HI_COUNT_HI (e : Nat) : Fld := ⟨(ENG_FAULT_HI e), 0, 16⟩

/-! ### RNG: base 0x40050000 -/
/-- RNG_CTRL (13_random_numbers.md). -/
def RNG_CTRL : Nat := 0x40050000
def RNG_CTRL_LOCK_VIOL : Fld := ⟨RNG_CTRL, 1, 1⟩
def RNG_CTRL_LOCK : Fld := ⟨RNG_CTRL, 0, 1⟩
/-- RNG_STAT (13_random_numbers.md). -/
def RNG_STAT : Nat := 0x40050004
def RNG_STAT_QUEUE : Fld := ⟨RNG_STAT, 8, 7⟩
def RNG_STAT_SEED_BUF : Fld := ⟨RNG_STAT, 4, 1⟩
def RNG_STAT_CONDITIONING : Fld := ⟨RNG_STAT, 3, 1⟩
def RNG_STAT_KAT_FAIL : Fld := ⟨RNG_STAT, 2, 1⟩
def RNG_STAT_DRBG : Fld := ⟨RNG_STAT, 0, 2⟩
/-- RNG_CFG (13_random_numbers.md). -/
def RNG_CFG : Nat := 0x40050008
def RNG_CFG_FW_RESERVE : Fld := ⟨RNG_CFG, 8, 6⟩
def RNG_CFG_MIN_ACTIVE : Fld := ⟨RNG_CFG, 4, 2⟩
def RNG_CFG_SRC_ALLOW : Fld := ⟨RNG_CFG, 0, 4⟩
/-- RNG_RESEED (13_random_numbers.md). -/
def RNG_RESEED : Nat := 0x4005000C
def RNG_RESEED_STRETCH_MUL : Fld := ⟨RNG_RESEED, 16, 4⟩
def RNG_RESEED_RESEED_INT : Fld := ⟨RNG_RESEED, 0, 13⟩
/-- RNG_CMD (13_random_numbers.md). -/
def RNG_CMD : Nat := 0x40050010
def RNG_CMD_SRC : Fld := ⟨RNG_CMD, 8, 2⟩
def RNG_CMD_OP : Fld := ⟨RNG_CMD, 0, 8⟩
/-- RNG_CMD_ARG (13_random_numbers.md). -/
def RNG_CMD_ARG : Nat := 0x40050014
def RNG_CMD_ARG_PATTERN : Fld := ⟨RNG_CMD_ARG, 0, 32⟩
/-- RNG_CMD_STAT (13_random_numbers.md). -/
def RNG_CMD_STAT : Nat := 0x40050018
def RNG_CMD_STAT_LAST_OP : Fld := ⟨RNG_CMD_STAT, 8, 8⟩
def RNG_CMD_STAT_LAST_STATUS : Fld := ⟨RNG_CMD_STAT, 0, 8⟩
/-- RNG_EVT (13_random_numbers.md). -/
def RNG_EVT : Nat := 0x4005001C
def RNG_EVT_SAT : Fld := ⟨RNG_EVT, 7, 1⟩
def RNG_EVT_TP_TRIP : Fld := ⟨RNG_EVT, 6, 1⟩
def RNG_EVT_STRETCH : Fld := ⟨RNG_EVT, 5, 1⟩
def RNG_EVT_SEL_CLAMP : Fld := ⟨RNG_EVT, 4, 1⟩
def RNG_EVT_RETIRED : Fld := ⟨RNG_EVT, 3, 1⟩
def RNG_EVT_HEALTH_FAIL : Fld := ⟨RNG_EVT, 2, 1⟩
def RNG_EVT_ALARM : Fld := ⟨RNG_EVT, 1, 1⟩
def RNG_EVT_FLUSHED_EVT : Fld := ⟨RNG_EVT, 0, 1⟩
/-- RNG_IRQ_EN (13_random_numbers.md). -/
def RNG_IRQ_EN : Nat := 0x40050020
def RNG_IRQ_EN_SAT : Fld := ⟨RNG_IRQ_EN, 7, 1⟩
def RNG_IRQ_EN_TP_TRIP : Fld := ⟨RNG_IRQ_EN, 6, 1⟩
def RNG_IRQ_EN_STRETCH : Fld := ⟨RNG_IRQ_EN, 5, 1⟩
def RNG_IRQ_EN_SEL_CLAMP : Fld := ⟨RNG_IRQ_EN, 4, 1⟩
def RNG_IRQ_EN_RETIRED : Fld := ⟨RNG_IRQ_EN, 3, 1⟩
def RNG_IRQ_EN_HEALTH_FAIL : Fld := ⟨RNG_IRQ_EN, 2, 1⟩
def RNG_IRQ_EN_ALARM : Fld := ⟨RNG_IRQ_EN, 1, 1⟩
def RNG_IRQ_EN_FLUSHED_EVT : Fld := ⟨RNG_IRQ_EN, 0, 1⟩
/-- RNG_OUT_STAT (13_random_numbers.md). -/
def RNG_OUT_STAT : Nat := 0x40050024
def RNG_OUT_STAT_STATUS : Fld := ⟨RNG_OUT_STAT, 24, 8⟩
def RNG_OUT_STAT_RAW_EMPTY : Fld := ⟨RNG_OUT_STAT, 12, 1⟩
def RNG_OUT_STAT_FLUSHED : Fld := ⟨RNG_OUT_STAT, 11, 1⟩
def RNG_OUT_STAT_WORD : Fld := ⟨RNG_OUT_STAT, 4, 4⟩
/-- RNG_DATA (13_random_numbers.md). -/
def RNG_DATA : Nat := 0x40050028
def RNG_DATA_WORD : Fld := ⟨RNG_DATA, 0, 32⟩
/-- RNG_RAW (13_random_numbers.md). -/
def RNG_RAW : Nat := 0x4005002C
def RNG_RAW_BITS : Fld := ⟨RNG_RAW, 0, 32⟩
/-- RNG_SRC_STAT (13_random_numbers.md). -/
def RNG_SRC_STAT : Nat := 0x40050030
def RNG_SRC_STAT_STATE  (k : Nat) : Fld := ⟨RNG_SRC_STAT, 5 + 8 * k, 3⟩
def RNG_SRC_STAT_FAILS  (k : Nat) : Fld := ⟨RNG_SRC_STAT, 3 + 8 * k, 2⟩
def RNG_SRC_STAT_RAW_LOST  (k : Nat) : Fld := ⟨RNG_SRC_STAT, 2 + 8 * k, 1⟩
/-- RNG_RESEEDS_LO (13_random_numbers.md). -/
def RNG_RESEEDS_LO : Nat := 0x40050040
def RNG_RESEEDS_LO_COUNT_LO : Fld := ⟨RNG_RESEEDS_LO, 0, 32⟩
/-- RNG_RESEEDS_HI (13_random_numbers.md). -/
def RNG_RESEEDS_HI : Nat := 0x40050044
def RNG_RESEEDS_HI_SAT : Fld := ⟨RNG_RESEEDS_HI, 31, 1⟩
def RNG_RESEEDS_HI_COUNT_HI : Fld := ⟨RNG_RESEEDS_HI, 0, 16⟩
/-- RNG_HEALTH_LO (13_random_numbers.md). -/
def RNG_HEALTH_LO : Nat := 0x40050048
def RNG_HEALTH_LO_COUNT_LO : Fld := ⟨RNG_HEALTH_LO, 0, 32⟩
/-- RNG_HEALTH_HI (13_random_numbers.md). -/
def RNG_HEALTH_HI : Nat := 0x4005004C
def RNG_HEALTH_HI_SAT : Fld := ⟨RNG_HEALTH_HI, 31, 1⟩
def RNG_HEALTH_HI_COUNT_HI : Fld := ⟨RNG_HEALTH_HI, 0, 16⟩
/-- RNG_CLAMP_LO (13_random_numbers.md). -/
def RNG_CLAMP_LO : Nat := 0x40050050
def RNG_CLAMP_LO_COUNT_LO : Fld := ⟨RNG_CLAMP_LO, 0, 32⟩
/-- RNG_CLAMP_HI (13_random_numbers.md). -/
def RNG_CLAMP_HI : Nat := 0x40050054
def RNG_CLAMP_HI_SAT : Fld := ⟨RNG_CLAMP_HI, 31, 1⟩
def RNG_CLAMP_HI_COUNT_HI : Fld := ⟨RNG_CLAMP_HI, 0, 16⟩

/-! ### MEMINT: base 0x40060000 -/
/-- MEMINT_CTRL (10_memory_integrity.md). -/
def MEMINT_CTRL : Nat := 0x40060000
def MEMINT_CTRL_LOCK_VIOL : Fld := ⟨MEMINT_CTRL, 1, 1⟩
def MEMINT_CTRL_LOCK : Fld := ⟨MEMINT_CTRL, 0, 1⟩
/-- MEMINT_STAT (10_memory_integrity.md). -/
def MEMINT_STAT : Nat := 0x40060004
def MEMINT_STAT_UNCOMMITTED : Fld := ⟨MEMINT_STAT, 24, 8⟩
def MEMINT_STAT_BOUNDS_APPLIED : Fld := ⟨MEMINT_STAT, 19, 1⟩
def MEMINT_STAT_COMMIT_BUSY : Fld := ⟨MEMINT_STAT, 18, 1⟩
def MEMINT_STAT_REMAP_BUSY : Fld := ⟨MEMINT_STAT, 17, 1⟩
def MEMINT_STAT_FILL_BUSY : Fld := ⟨MEMINT_STAT, 16, 1⟩
def MEMINT_STAT_INIT : Fld := ⟨MEMINT_STAT, 0, 14⟩
/-- MEMINT_CMD (10_memory_integrity.md). -/
def MEMINT_CMD : Nat := 0x40060010
def MEMINT_CMD_CLASS : Fld := ⟨MEMINT_CMD, 8, 8⟩
def MEMINT_CMD_OP : Fld := ⟨MEMINT_CMD, 0, 8⟩
/-- MEMINT_CMD_ARG0 (10_memory_integrity.md). -/
def MEMINT_CMD_ARG0 : Nat := 0x40060014
def MEMINT_CMD_ARG0_ARG : Fld := ⟨MEMINT_CMD_ARG0, 0, 32⟩
/-- MEMINT_CMD_ARG1 (10_memory_integrity.md). -/
def MEMINT_CMD_ARG1 : Nat := 0x40060018
def MEMINT_CMD_ARG1_ARG : Fld := ⟨MEMINT_CMD_ARG1, 0, 32⟩
/-- MEMINT_CMD_STAT (10_memory_integrity.md). -/
def MEMINT_CMD_STAT : Nat := 0x4006001C
def MEMINT_CMD_STAT_RESULT : Fld := ⟨MEMINT_CMD_STAT, 16, 16⟩
def MEMINT_CMD_STAT_LAST_OP : Fld := ⟨MEMINT_CMD_STAT, 8, 8⟩
def MEMINT_CMD_STAT_LAST_STATUS : Fld := ⟨MEMINT_CMD_STAT, 0, 8⟩
/-- MEMINT_EVT (10_memory_integrity.md). -/
def MEMINT_EVT : Nat := 0x40060020
def MEMINT_EVT_SAT : Fld := ⟨MEMINT_EVT, 8, 1⟩
def MEMINT_EVT_OTP_REMAP : Fld := ⟨MEMINT_EVT, 7, 1⟩
def MEMINT_EVT_SCRUB_OVERRUN : Fld := ⟨MEMINT_EVT, 6, 1⟩
def MEMINT_EVT_SCRUB_CLAMP : Fld := ⟨MEMINT_EVT, 5, 1⟩
def MEMINT_EVT_SPARE_OUT : Fld := ⟨MEMINT_EVT, 4, 1⟩
def MEMINT_EVT_REMAP : Fld := ⟨MEMINT_EVT, 3, 1⟩
def MEMINT_EVT_UE : Fld := ⟨MEMINT_EVT, 2, 1⟩
def MEMINT_EVT_CE_STORM : Fld := ⟨MEMINT_EVT, 1, 1⟩
def MEMINT_EVT_CMD_DONE : Fld := ⟨MEMINT_EVT, 0, 1⟩
/-- MEMINT_IRQ_EN (10_memory_integrity.md). -/
def MEMINT_IRQ_EN : Nat := 0x40060024
def MEMINT_IRQ_EN_SAT : Fld := ⟨MEMINT_IRQ_EN, 8, 1⟩
def MEMINT_IRQ_EN_OTP_REMAP : Fld := ⟨MEMINT_IRQ_EN, 7, 1⟩
def MEMINT_IRQ_EN_SCRUB_OVERRUN : Fld := ⟨MEMINT_IRQ_EN, 6, 1⟩
def MEMINT_IRQ_EN_SCRUB_CLAMP : Fld := ⟨MEMINT_IRQ_EN, 5, 1⟩
def MEMINT_IRQ_EN_SPARE_OUT : Fld := ⟨MEMINT_IRQ_EN, 4, 1⟩
def MEMINT_IRQ_EN_REMAP : Fld := ⟨MEMINT_IRQ_EN, 3, 1⟩
def MEMINT_IRQ_EN_UE : Fld := ⟨MEMINT_IRQ_EN, 2, 1⟩
def MEMINT_IRQ_EN_CE_STORM : Fld := ⟨MEMINT_IRQ_EN, 1, 1⟩
def MEMINT_IRQ_EN_CMD_DONE : Fld := ⟨MEMINT_IRQ_EN, 0, 1⟩
/-- MEMINT_FLIP_SEL (10_memory_integrity.md). -/
def MEMINT_FLIP_SEL : Nat := 0x40060030
def MEMINT_FLIP_SEL_ARMED : Fld := ⟨MEMINT_FLIP_SEL, 9, 1⟩
def MEMINT_FLIP_SEL_ARM : Fld := ⟨MEMINT_FLIP_SEL, 8, 1⟩
def MEMINT_FLIP_SEL_PLANE : Fld := ⟨MEMINT_FLIP_SEL, 4, 1⟩
def MEMINT_FLIP_SEL_CLASS : Fld := ⟨MEMINT_FLIP_SEL, 0, 4⟩
/-- MEMINT_FLIP_ADDR (10_memory_integrity.md). -/
def MEMINT_FLIP_ADDR : Nat := 0x40060034
def MEMINT_FLIP_ADDR_WORD : Fld := ⟨MEMINT_FLIP_ADDR, 0, 20⟩
/-- MEMINT_FLIP_MASKj (10_memory_integrity.md). -/
def MEMINT_FLIP_MASK (j : Nat) : Nat := 0x40060038 + 4 * j
def MEMINT_FLIP_MASK_MASK (j : Nat) : Fld := ⟨(MEMINT_FLIP_MASK j), 0, 32⟩
/-- MEMINT_FLIP_STAT (10_memory_integrity.md). -/
def MEMINT_FLIP_STAT : Nat := 0x40060044
def MEMINT_FLIP_STAT_COUNT : Fld := ⟨MEMINT_FLIP_STAT, 16, 16⟩
def MEMINT_FLIP_STAT_BIT : Fld := ⟨MEMINT_FLIP_STAT, 8, 8⟩
def MEMINT_FLIP_STAT_KIND : Fld := ⟨MEMINT_FLIP_STAT, 0, 2⟩
/-- MEMINT_LAST_ERR0 (10_memory_integrity.md). -/
def MEMINT_LAST_ERR0 : Nat := 0x40060050
def MEMINT_LAST_ERR0_KIND : Fld := ⟨MEMINT_LAST_ERR0, 30, 2⟩
def MEMINT_LAST_ERR0_CLASS : Fld := ⟨MEMINT_LAST_ERR0, 26, 4⟩
def MEMINT_LAST_ERR0_MACRO : Fld := ⟨MEMINT_LAST_ERR0, 16, 10⟩
def MEMINT_LAST_ERR0_BIT : Fld := ⟨MEMINT_LAST_ERR0, 8, 8⟩
/-- MEMINT_LAST_ERR1 (10_memory_integrity.md). -/
def MEMINT_LAST_ERR1 : Nat := 0x40060054
def MEMINT_LAST_ERR1_ROW : Fld := ⟨MEMINT_LAST_ERR1, 16, 11⟩
def MEMINT_LAST_ERR1_WORD : Fld := ⟨MEMINT_LAST_ERR1, 0, 5⟩
/-- MEMINT_REMAP_SEL (10_memory_integrity.md). -/
def MEMINT_REMAP_SEL : Nat := 0x40060060
def MEMINT_REMAP_SEL_MACRO : Fld := ⟨MEMINT_REMAP_SEL, 0, 10⟩
/-- MEMINT_REMAP_STAT (10_memory_integrity.md). -/
def MEMINT_REMAP_STAT : Nat := 0x40060064
def MEMINT_REMAP_STAT_LAST_ROW : Fld := ⟨MEMINT_REMAP_STAT, 21, 11⟩
def MEMINT_REMAP_STAT_COMMITTED : Fld := ⟨MEMINT_REMAP_STAT, 8, 4⟩
def MEMINT_REMAP_STAT_USED : Fld := ⟨MEMINT_REMAP_STAT, 4, 4⟩
def MEMINT_REMAP_STAT_LEFT : Fld := ⟨MEMINT_REMAP_STAT, 0, 3⟩
/-- MEMINT_Cc_CE_LO (10_memory_integrity.md). -/
def MEMINT_C_CE_LO (c : Nat) : Nat := 0x40060100 + 32 * c
def MEMINT_C_CE_LO_COUNT_LO (c : Nat) : Fld := ⟨(MEMINT_C_CE_LO c), 0, 32⟩
/-- MEMINT_Cc_CE_HI (10_memory_integrity.md). -/
def MEMINT_C_CE_HI (c : Nat) : Nat := 0x40060104 + 32 * c
def MEMINT_C_CE_HI_SAT (c : Nat) : Fld := ⟨(MEMINT_C_CE_HI c), 31, 1⟩
def MEMINT_C_CE_HI_COUNT_HI (c : Nat) : Fld := ⟨(MEMINT_C_CE_HI c), 0, 16⟩
/-- MEMINT_Cc_UE_LO (10_memory_integrity.md). -/
def MEMINT_C_UE_LO (c : Nat) : Nat := 0x40060108 + 32 * c
def MEMINT_C_UE_LO_COUNT_LO (c : Nat) : Fld := ⟨(MEMINT_C_UE_LO c), 0, 32⟩
/-- MEMINT_Cc_UE_HI (10_memory_integrity.md). -/
def MEMINT_C_UE_HI (c : Nat) : Nat := 0x4006010C + 32 * c
def MEMINT_C_UE_HI_SAT (c : Nat) : Fld := ⟨(MEMINT_C_UE_HI c), 31, 1⟩
def MEMINT_C_UE_HI_COUNT_HI (c : Nat) : Fld := ⟨(MEMINT_C_UE_HI c), 0, 16⟩
/-- MEMINT_Cc_SCRUB (10_memory_integrity.md). -/
def MEMINT_C_SCRUB (c : Nat) : Nat := 0x40060110 + 32 * c
def MEMINT_C_SCRUB_PERIOD_S (c : Nat) : Fld := ⟨(MEMINT_C_SCRUB c), 16, 16⟩
def MEMINT_C_SCRUB_BUCKET (c : Nat) : Fld := ⟨(MEMINT_C_SCRUB c), 0, 16⟩
/-- MEMINT_Cc_SWEEP (10_memory_integrity.md). -/
def MEMINT_C_SWEEP (c : Nat) : Nat := 0x40060114 + 32 * c
def MEMINT_C_SWEEP_LAST_SWEEP_S (c : Nat) : Fld := ⟨(MEMINT_C_SWEEP c), 16, 16⟩
def MEMINT_C_SWEEP_CLAMPS (c : Nat) : Fld := ⟨(MEMINT_C_SWEEP c), 8, 8⟩
def MEMINT_C_SWEEP_LAST_E (c : Nat) : Fld := ⟨(MEMINT_C_SWEEP c), 0, 8⟩

/-! ### KIOSK: base 0x40070000 -/
/-- KIOSK_CTRL (14_kiosk_transports_attestation.md). -/
def KIOSK_CTRL : Nat := 0x40070000
def KIOSK_CTRL_LOCK_VIOL : Fld := ⟨KIOSK_CTRL, 1, 1⟩
def KIOSK_CTRL_LOCK : Fld := ⟨KIOSK_CTRL, 0, 1⟩
/-- KIOSK_STAT (14_kiosk_transports_attestation.md). -/
def KIOSK_STAT : Nat := 0x40070004
def KIOSK_STAT_PENDING : Fld := ⟨KIOSK_STAT, 16, 10⟩
def KIOSK_STAT_PAUSE : Fld := ⟨KIOSK_STAT, 1, 1⟩
def KIOSK_STAT_TBT_APPLIED : Fld := ⟨KIOSK_STAT, 0, 1⟩
/-- KIOSK_TAKE (14_kiosk_transports_attestation.md). -/
def KIOSK_TAKE : Nat := 0x40070008
def KIOSK_TAKE_VALID : Fld := ⟨KIOSK_TAKE, 31, 1⟩
def KIOSK_TAKE_TN : Fld := ⟨KIOSK_TAKE, 0, 9⟩
/-- KIOSK_REQ (14_kiosk_transports_attestation.md). -/
def KIOSK_REQ : Nat := 0x4007000C
def KIOSK_REQ_WORD : Fld := ⟨KIOSK_REQ, 0, 32⟩
/-- KIOSK_SEL (14_kiosk_transports_attestation.md). -/
def KIOSK_SEL : Nat := 0x40070010
def KIOSK_SEL_TN : Fld := ⟨KIOSK_SEL, 0, 9⟩
/-- KIOSK_REPLY (14_kiosk_transports_attestation.md). -/
def KIOSK_REPLY : Nat := 0x40070014
def KIOSK_REPLY_WORD : Fld := ⟨KIOSK_REPLY, 0, 32⟩
/-- KIOSK_DB_IN (14_kiosk_transports_attestation.md). -/
def KIOSK_DB_IN : Nat := 0x40070018
def KIOSK_DB_IN_BITS : Fld := ⟨KIOSK_DB_IN, 0, 32⟩
/-- KIOSK_DB_OUT (14_kiosk_transports_attestation.md). -/
def KIOSK_DB_OUT : Nat := 0x4007001C
def KIOSK_DB_OUT_BITS : Fld := ⟨KIOSK_DB_OUT, 0, 32⟩
/-- KIOSK_CMD (14_kiosk_transports_attestation.md). -/
def KIOSK_CMD : Nat := 0x40070020
def KIOSK_CMD_ARG : Fld := ⟨KIOSK_CMD, 16, 16⟩
def KIOSK_CMD_OP : Fld := ⟨KIOSK_CMD, 0, 8⟩
/-- KIOSK_CMD_ADDR (14_kiosk_transports_attestation.md). -/
def KIOSK_CMD_ADDR : Nat := 0x40070024
def KIOSK_CMD_ADDR_ADDR : Fld := ⟨KIOSK_CMD_ADDR, 0, 32⟩
/-- KIOSK_CMD_STAT (14_kiosk_transports_attestation.md). -/
def KIOSK_CMD_STAT : Nat := 0x40070028
def KIOSK_CMD_STAT_RESULT : Fld := ⟨KIOSK_CMD_STAT, 16, 16⟩
def KIOSK_CMD_STAT_LAST_OP : Fld := ⟨KIOSK_CMD_STAT, 8, 8⟩
def KIOSK_CMD_STAT_LAST_STATUS : Fld := ⟨KIOSK_CMD_STAT, 0, 8⟩
/-- KIOSK_EVT (14_kiosk_transports_attestation.md). -/
def KIOSK_EVT : Nat := 0x4007002C
def KIOSK_EVT_REQ_TIMEOUT : Fld := ⟨KIOSK_EVT, 8, 1⟩
def KIOSK_EVT_SAT : Fld := ⟨KIOSK_EVT, 7, 1⟩
def KIOSK_EVT_OVERRUN : Fld := ⟨KIOSK_EVT, 6, 1⟩
def KIOSK_EVT_UNBOUND : Fld := ⟨KIOSK_EVT, 5, 1⟩
def KIOSK_EVT_REPLY_ORPHAN : Fld := ⟨KIOSK_EVT, 4, 1⟩
def KIOSK_EVT_RSP_TAKEN : Fld := ⟨KIOSK_EVT, 3, 1⟩
def KIOSK_EVT_DB_IN : Fld := ⟨KIOSK_EVT, 2, 1⟩
def KIOSK_EVT_REQ_PEND : Fld := ⟨KIOSK_EVT, 1, 1⟩
def KIOSK_EVT_CMD_DONE : Fld := ⟨KIOSK_EVT, 0, 1⟩
/-- KIOSK_IRQ_EN (14_kiosk_transports_attestation.md). -/
def KIOSK_IRQ_EN : Nat := 0x40070030
def KIOSK_IRQ_EN_REQ_TIMEOUT : Fld := ⟨KIOSK_IRQ_EN, 8, 1⟩
def KIOSK_IRQ_EN_SAT : Fld := ⟨KIOSK_IRQ_EN, 7, 1⟩
def KIOSK_IRQ_EN_OVERRUN : Fld := ⟨KIOSK_IRQ_EN, 6, 1⟩
def KIOSK_IRQ_EN_UNBOUND : Fld := ⟨KIOSK_IRQ_EN, 5, 1⟩
def KIOSK_IRQ_EN_REPLY_ORPHAN : Fld := ⟨KIOSK_IRQ_EN, 4, 1⟩
def KIOSK_IRQ_EN_RSP_TAKEN : Fld := ⟨KIOSK_IRQ_EN, 3, 1⟩
def KIOSK_IRQ_EN_DB_IN : Fld := ⟨KIOSK_IRQ_EN, 2, 1⟩
def KIOSK_IRQ_EN_REQ_PEND : Fld := ⟨KIOSK_IRQ_EN, 1, 1⟩
def KIOSK_IRQ_EN_CMD_DONE : Fld := ⟨KIOSK_IRQ_EN, 0, 1⟩
/-- KIOSK_PENDi (14_kiosk_transports_attestation.md). -/
def KIOSK_PEND (i : Nat) : Nat := 0x40070100 + 4 * i
def KIOSK_PEND_TN (i : Nat) : Fld := ⟨(KIOSK_PEND i), 0, 32⟩
/-- KIOSK_DBPENDi (14_kiosk_transports_attestation.md). -/
def KIOSK_DBPEND (i : Nat) : Nat := 0x40070140 + 4 * i
def KIOSK_DBPEND_TN (i : Nat) : Fld := ⟨(KIOSK_DBPEND i), 0, 32⟩
/-- KIOSK_OVERRUN_LO (14_kiosk_transports_attestation.md). -/
def KIOSK_OVERRUN_LO : Nat := 0x40070180
def KIOSK_OVERRUN_LO_COUNT_LO : Fld := ⟨KIOSK_OVERRUN_LO, 0, 32⟩
/-- KIOSK_OVERRUN_HI (14_kiosk_transports_attestation.md). -/
def KIOSK_OVERRUN_HI : Nat := 0x40070184
def KIOSK_OVERRUN_HI_SAT : Fld := ⟨KIOSK_OVERRUN_HI, 31, 1⟩
def KIOSK_OVERRUN_HI_COUNT_HI : Fld := ⟨KIOSK_OVERRUN_HI, 0, 16⟩
/-- KIOSK_UNBOUND_LO (14_kiosk_transports_attestation.md). -/
def KIOSK_UNBOUND_LO : Nat := 0x40070188
def KIOSK_UNBOUND_LO_COUNT_LO : Fld := ⟨KIOSK_UNBOUND_LO, 0, 32⟩
/-- KIOSK_UNBOUND_HI (14_kiosk_transports_attestation.md). -/
def KIOSK_UNBOUND_HI : Nat := 0x4007018C
def KIOSK_UNBOUND_HI_SAT : Fld := ⟨KIOSK_UNBOUND_HI, 31, 1⟩
def KIOSK_UNBOUND_HI_COUNT_HI : Fld := ⟨KIOSK_UNBOUND_HI, 0, 16⟩
/-- KIOSK_QUOTA_LO (14_kiosk_transports_attestation.md). -/
def KIOSK_QUOTA_LO : Nat := 0x40070190
def KIOSK_QUOTA_LO_COUNT_LO : Fld := ⟨KIOSK_QUOTA_LO, 0, 32⟩
/-- KIOSK_QUOTA_HI (14_kiosk_transports_attestation.md). -/
def KIOSK_QUOTA_HI : Nat := 0x40070194
def KIOSK_QUOTA_HI_SAT : Fld := ⟨KIOSK_QUOTA_HI, 31, 1⟩
def KIOSK_QUOTA_HI_COUNT_HI : Fld := ⟨KIOSK_QUOTA_HI, 0, 16⟩

/-! ### MTRANS: base 0x40080000 -/
/-- MTRANS_CTRL (14_kiosk_transports_attestation.md). -/
def MTRANS_CTRL : Nat := 0x40080000
def MTRANS_CTRL_LOCK_VIOL : Fld := ⟨MTRANS_CTRL, 1, 1⟩
def MTRANS_CTRL_LOCK : Fld := ⟨MTRANS_CTRL, 0, 1⟩
/-- MTRANS_STAT (14_kiosk_transports_attestation.md). -/
def MTRANS_STAT : Nat := 0x40080004
def MTRANS_STAT_REASM_USED : Fld := ⟨MTRANS_STAT, 24, 8⟩
def MTRANS_STAT_REASM_FULL : Fld := ⟨MTRANS_STAT, 8, 1⟩
def MTRANS_STAT_PCIE_GEN : Fld := ⟨MTRANS_STAT, 5, 3⟩
def MTRANS_STAT_PCIE_WIDTH : Fld := ⟨MTRANS_STAT, 3, 2⟩
def MTRANS_STAT_LINK_UP : Fld := ⟨MTRANS_STAT, 2, 1⟩
def MTRANS_STAT_PCIE_EN : Fld := ⟨MTRANS_STAT, 1, 1⟩
def MTRANS_STAT_APPLIED : Fld := ⟨MTRANS_STAT, 0, 1⟩
/-- MTRANS_EID (14_kiosk_transports_attestation.md). -/
def MTRANS_EID : Nat := 0x40080008
def MTRANS_EID_ESPI_EID : Fld := ⟨MTRANS_EID, 8, 8⟩
def MTRANS_EID_PCIE_EID : Fld := ⟨MTRANS_EID, 0, 8⟩
/-- MTRANS_CMD (14_kiosk_transports_attestation.md). -/
def MTRANS_CMD : Nat := 0x40080010
def MTRANS_CMD_OP : Fld := ⟨MTRANS_CMD, 0, 8⟩
/-- MTRANS_CMD_ADDR (14_kiosk_transports_attestation.md). -/
def MTRANS_CMD_ADDR : Nat := 0x40080014
def MTRANS_CMD_ADDR_ADDR : Fld := ⟨MTRANS_CMD_ADDR, 0, 32⟩
/-- MTRANS_CMD_STAT (14_kiosk_transports_attestation.md). -/
def MTRANS_CMD_STAT : Nat := 0x40080018
def MTRANS_CMD_STAT_LAST_OP : Fld := ⟨MTRANS_CMD_STAT, 8, 8⟩
def MTRANS_CMD_STAT_LAST_STATUS : Fld := ⟨MTRANS_CMD_STAT, 0, 8⟩
/-- MTRANS_EVT (14_kiosk_transports_attestation.md). -/
def MTRANS_EVT : Nat := 0x4008001C
def MTRANS_EVT_SAT : Fld := ⟨MTRANS_EVT, 7, 1⟩
def MTRANS_EVT_SMB_TIMEOUT : Fld := ⟨MTRANS_EVT, 6, 1⟩
def MTRANS_EVT_DROP : Fld := ⟨MTRANS_EVT, 5, 1⟩
def MTRANS_EVT_UNKNOWN_SRC : Fld := ⟨MTRANS_EVT, 4, 1⟩
def MTRANS_EVT_RX : Fld := ⟨MTRANS_EVT, 3, 1⟩
def MTRANS_EVT_EID_SET : Fld := ⟨MTRANS_EVT, 2, 1⟩
def MTRANS_EVT_LINK_CHG : Fld := ⟨MTRANS_EVT, 1, 1⟩
def MTRANS_EVT_CMD_DONE : Fld := ⟨MTRANS_EVT, 0, 1⟩
/-- MTRANS_IRQ_EN (14_kiosk_transports_attestation.md). -/
def MTRANS_IRQ_EN : Nat := 0x40080020
def MTRANS_IRQ_EN_SAT : Fld := ⟨MTRANS_IRQ_EN, 7, 1⟩
def MTRANS_IRQ_EN_SMB_TIMEOUT : Fld := ⟨MTRANS_IRQ_EN, 6, 1⟩
def MTRANS_IRQ_EN_DROP : Fld := ⟨MTRANS_IRQ_EN, 5, 1⟩
def MTRANS_IRQ_EN_UNKNOWN_SRC : Fld := ⟨MTRANS_IRQ_EN, 4, 1⟩
def MTRANS_IRQ_EN_RX : Fld := ⟨MTRANS_IRQ_EN, 3, 1⟩
def MTRANS_IRQ_EN_EID_SET : Fld := ⟨MTRANS_IRQ_EN, 2, 1⟩
def MTRANS_IRQ_EN_LINK_CHG : Fld := ⟨MTRANS_IRQ_EN, 1, 1⟩
def MTRANS_IRQ_EN_CMD_DONE : Fld := ⟨MTRANS_IRQ_EN, 0, 1⟩
/-- MTRANS_RX_BASE (14_kiosk_transports_attestation.md). -/
def MTRANS_RX_BASE : Nat := 0x40080024
def MTRANS_RX_BASE_ADDR : Fld := ⟨MTRANS_RX_BASE, 0, 32⟩
/-- MTRANS_RX_PTR (14_kiosk_transports_attestation.md). -/
def MTRANS_RX_PTR : Nat := 0x40080028
def MTRANS_RX_PTR_HEAD : Fld := ⟨MTRANS_RX_PTR, 16, 4⟩
def MTRANS_RX_PTR_TAIL : Fld := ⟨MTRANS_RX_PTR, 0, 4⟩
/-- MTRANS_TX_ADDR (14_kiosk_transports_attestation.md). -/
def MTRANS_TX_ADDR : Nat := 0x4008002C
def MTRANS_TX_ADDR_ADDR : Fld := ⟨MTRANS_TX_ADDR, 0, 32⟩
/-- MTRANS_I3Ck_STAT (14_kiosk_transports_attestation.md). -/
def MTRANS_I3C_STAT (k : Nat) : Nat := 0x40080040 + 4 * k
def MTRANS_I3C_STAT_EID (k : Nat) : Fld := ⟨(MTRANS_I3C_STAT k), 24, 8⟩
def MTRANS_I3C_STAT_ADDR (k : Nat) : Fld := ⟨(MTRANS_I3C_STAT k), 16, 8⟩
def MTRANS_I3C_STAT_TIMEOUT_SEEN (k : Nat) : Fld := ⟨(MTRANS_I3C_STAT k), 8, 1⟩
def MTRANS_I3C_STAT_MODE (k : Nat) : Fld := ⟨(MTRANS_I3C_STAT k), 0, 8⟩
/-- MTRANS_PEC_ERR_LO (14_kiosk_transports_attestation.md). -/
def MTRANS_PEC_ERR_LO : Nat := 0x40080080
def MTRANS_PEC_ERR_LO_COUNT_LO : Fld := ⟨MTRANS_PEC_ERR_LO, 0, 32⟩
/-- MTRANS_PEC_ERR_HI (14_kiosk_transports_attestation.md). -/
def MTRANS_PEC_ERR_HI : Nat := 0x40080084
def MTRANS_PEC_ERR_HI_SAT : Fld := ⟨MTRANS_PEC_ERR_HI, 31, 1⟩
def MTRANS_PEC_ERR_HI_COUNT_HI : Fld := ⟨MTRANS_PEC_ERR_HI, 0, 16⟩
/-- MTRANS_UNKNOWN_SRC_LO (14_kiosk_transports_attestation.md). -/
def MTRANS_UNKNOWN_SRC_LO : Nat := 0x40080088
def MTRANS_UNKNOWN_SRC_LO_COUNT_LO : Fld := ⟨MTRANS_UNKNOWN_SRC_LO, 0, 32⟩
/-- MTRANS_UNKNOWN_SRC_HI (14_kiosk_transports_attestation.md). -/
def MTRANS_UNKNOWN_SRC_HI : Nat := 0x4008008C
def MTRANS_UNKNOWN_SRC_HI_SAT : Fld := ⟨MTRANS_UNKNOWN_SRC_HI, 31, 1⟩
def MTRANS_UNKNOWN_SRC_HI_COUNT_HI : Fld := ⟨MTRANS_UNKNOWN_SRC_HI, 0, 16⟩
/-- MTRANS_REASM_DROP_LO (14_kiosk_transports_attestation.md). -/
def MTRANS_REASM_DROP_LO : Nat := 0x40080090
def MTRANS_REASM_DROP_LO_COUNT_LO : Fld := ⟨MTRANS_REASM_DROP_LO, 0, 32⟩
/-- MTRANS_REASM_DROP_HI (14_kiosk_transports_attestation.md). -/
def MTRANS_REASM_DROP_HI : Nat := 0x40080094
def MTRANS_REASM_DROP_HI_SAT : Fld := ⟨MTRANS_REASM_DROP_HI, 31, 1⟩
def MTRANS_REASM_DROP_HI_COUNT_HI : Fld := ⟨MTRANS_REASM_DROP_HI, 0, 16⟩
/-- MTRANS_ARB_DROP_LO (14_kiosk_transports_attestation.md). -/
def MTRANS_ARB_DROP_LO : Nat := 0x40080098
def MTRANS_ARB_DROP_LO_COUNT_LO : Fld := ⟨MTRANS_ARB_DROP_LO, 0, 32⟩
/-- MTRANS_ARB_DROP_HI (14_kiosk_transports_attestation.md). -/
def MTRANS_ARB_DROP_HI : Nat := 0x4008009C
def MTRANS_ARB_DROP_HI_SAT : Fld := ⟨MTRANS_ARB_DROP_HI, 31, 1⟩
def MTRANS_ARB_DROP_HI_COUNT_HI : Fld := ⟨MTRANS_ARB_DROP_HI, 0, 16⟩

/-! ### LODGE: base 0x40090000 -/
/-- LODGE_CTRL (17_lodge.md). -/
def LODGE_CTRL : Nat := 0x40090000
def LODGE_CTRL_LOCK_VIOL : Fld := ⟨LODGE_CTRL, 1, 1⟩
def LODGE_CTRL_LOCK : Fld := ⟨LODGE_CTRL, 0, 1⟩
/-- LODGE_STAT (17_lodge.md). -/
def LODGE_STAT : Nat := 0x40090004
def LODGE_STAT_MESH_SPARE : Fld := ⟨LODGE_STAT, 10, 2⟩
def LODGE_STAT_RULES_APPLIED : Fld := ⟨LODGE_STAT, 9, 1⟩
def LODGE_STAT_LD_PEND : Fld := ⟨LODGE_STAT, 8, 1⟩
def LODGE_STAT_WAKE_PEND : Fld := ⟨LODGE_STAT, 7, 1⟩
def LODGE_STAT_TRANSIT : Fld := ⟨LODGE_STAT, 6, 1⟩
def LODGE_STAT_VBAT_OK : Fld := ⟨LODGE_STAT, 5, 1⟩
def LODGE_STAT_RAIL : Fld := ⟨LODGE_STAT, 4, 1⟩
def LODGE_STAT_ZEROISING : Fld := ⟨LODGE_STAT, 3, 1⟩
def LODGE_STAT_VAULT : Fld := ⟨LODGE_STAT, 0, 2⟩
/-- LODGE_CMD (17_lodge.md). -/
def LODGE_CMD : Nat := 0x40090008
def LODGE_CMD_ARG16 : Fld := ⟨LODGE_CMD, 16, 16⟩
def LODGE_CMD_OP : Fld := ⟨LODGE_CMD, 0, 8⟩
/-- LODGE_CMD_ARG (17_lodge.md). -/
def LODGE_CMD_ARG : Nat := 0x4009000C
def LODGE_CMD_ARG_ARG : Fld := ⟨LODGE_CMD_ARG, 0, 32⟩
/-- LODGE_CMD_STAT (17_lodge.md). -/
def LODGE_CMD_STAT : Nat := 0x40090010
def LODGE_CMD_STAT_RESULT : Fld := ⟨LODGE_CMD_STAT, 16, 16⟩
def LODGE_CMD_STAT_LAST_OP : Fld := ⟨LODGE_CMD_STAT, 8, 8⟩
def LODGE_CMD_STAT_LAST_STATUS : Fld := ⟨LODGE_CMD_STAT, 0, 8⟩
/-- LODGE_EVT (17_lodge.md). -/
def LODGE_EVT : Nat := 0x40090014
def LODGE_EVT_ZEROISED : Fld := ⟨LODGE_EVT, 5, 1⟩
def LODGE_EVT_MESH_WEAR : Fld := ⟨LODGE_EVT, 4, 1⟩
def LODGE_EVT_RAIL_CHG : Fld := ⟨LODGE_EVT, 3, 1⟩
def LODGE_EVT_WAKE : Fld := ⟨LODGE_EVT, 2, 1⟩
def LODGE_EVT_FIRE : Fld := ⟨LODGE_EVT, 1, 1⟩
def LODGE_EVT_CMD_DONE : Fld := ⟨LODGE_EVT, 0, 1⟩
/-- LODGE_IRQ_EN (17_lodge.md). -/
def LODGE_IRQ_EN : Nat := 0x40090018
def LODGE_IRQ_EN_ZEROISED : Fld := ⟨LODGE_IRQ_EN, 5, 1⟩
def LODGE_IRQ_EN_MESH_WEAR : Fld := ⟨LODGE_IRQ_EN, 4, 1⟩
def LODGE_IRQ_EN_RAIL_CHG : Fld := ⟨LODGE_IRQ_EN, 3, 1⟩
def LODGE_IRQ_EN_WAKE : Fld := ⟨LODGE_IRQ_EN, 2, 1⟩
def LODGE_IRQ_EN_FIRE : Fld := ⟨LODGE_IRQ_EN, 1, 1⟩
def LODGE_IRQ_EN_CMD_DONE : Fld := ⟨LODGE_IRQ_EN, 0, 1⟩
/-- LODGE_RTC_SEC (17_lodge.md). -/
def LODGE_RTC_SEC : Nat := 0x40090020
def LODGE_RTC_SEC_SEC : Fld := ⟨LODGE_RTC_SEC, 0, 32⟩
/-- LODGE_RTC_TICK (17_lodge.md). -/
def LODGE_RTC_TICK : Nat := 0x40090024
def LODGE_RTC_TICK_TICK : Fld := ⟨LODGE_RTC_TICK, 0, 15⟩
/-- LODGE_MESH (17_lodge.md). -/
def LODGE_MESH : Nat := 0x40090028
def LODGE_MESH_PAIR  (p : Nat) : Fld := ⟨LODGE_MESH, 0 + 2 * p, 2⟩
/-- LODGE_SENSE (17_lodge.md). -/
def LODGE_SENSE : Nat := 0x4009002C
def LODGE_SENSE_TEMP : Fld := ⟨LODGE_SENSE, 24, 8⟩
def LODGE_SENSE_VBAT_MV : Fld := ⟨LODGE_SENSE, 12, 12⟩
def LODGE_SENSE_GLITCH : Fld := ⟨LODGE_SENSE, 5, 1⟩
def LODGE_SENSE_TRANSIT_LVL : Fld := ⟨LODGE_SENSE, 4, 1⟩
def LODGE_SENSE_CASE_LVL : Fld := ⟨LODGE_SENSE, 0, 4⟩
/-- LODGE_FIRED (17_lodge.md). -/
def LODGE_FIRED : Nat := 0x40090030
def LODGE_FIRED_FIRED : Fld := ⟨LODGE_FIRED, 0, 32⟩
/-- LODGE_EVT_TOTAL (17_lodge.md). -/
def LODGE_EVT_TOTAL : Nat := 0x40090034
def LODGE_EVT_TOTAL_TOTAL : Fld := ⟨LODGE_EVT_TOTAL, 0, 32⟩
/-- LODGE_EVT_SEL (17_lodge.md). -/
def LODGE_EVT_SEL : Nat := 0x40090038
def LODGE_EVT_SEL_ENTRY : Fld := ⟨LODGE_EVT_SEL, 0, 4⟩
/-- LODGE_EVT_DATAj (17_lodge.md). -/
def LODGE_EVT_DATA (j : Nat) : Nat := 0x4009003C + 4 * j
def LODGE_EVT_DATA_DATA (j : Nat) : Fld := ⟨(LODGE_EVT_DATA j), 0, 32⟩

/-! ### GATE: base 0x400A0000 -/
/-- GATE_CTRL (04_domains_and_device_modes.md). -/
def GATE_CTRL : Nat := 0x400A0000
def GATE_CTRL_LOCK_VIOL : Fld := ⟨GATE_CTRL, 1, 1⟩
def GATE_CTRL_LOCK : Fld := ⟨GATE_CTRL, 0, 1⟩
/-- GATE_CMD (04_domains_and_device_modes.md). -/
def GATE_CMD : Nat := 0x400A0010
def GATE_CMD_DOM : Fld := ⟨GATE_CMD, 8, 8⟩
def GATE_CMD_OP : Fld := ⟨GATE_CMD, 0, 8⟩
/-- GATE_CMD_GEN (04_domains_and_device_modes.md). -/
def GATE_CMD_GEN : Nat := 0x400A0014
def GATE_CMD_GEN_GEN : Fld := ⟨GATE_CMD_GEN, 0, 32⟩
/-- GATE_CMD_STAT (04_domains_and_device_modes.md). -/
def GATE_CMD_STAT : Nat := 0x400A0018
def GATE_CMD_STAT_LAST_DOM : Fld := ⟨GATE_CMD_STAT, 16, 8⟩
def GATE_CMD_STAT_LAST_OP : Fld := ⟨GATE_CMD_STAT, 8, 8⟩
def GATE_CMD_STAT_LAST_STATUS : Fld := ⟨GATE_CMD_STAT, 0, 8⟩
/-- GATE_EVT (04_domains_and_device_modes.md). -/
def GATE_EVT : Nat := 0x400A0020
def GATE_EVT_CMD_DONE : Fld := ⟨GATE_EVT, 6, 1⟩
def GATE_EVT_QUARANTINE : Fld := ⟨GATE_EVT, 5, 1⟩
def GATE_EVT_PRESENCE_CHG : Fld := ⟨GATE_EVT, 4, 1⟩
def GATE_EVT_PG_TIMEOUT : Fld := ⟨GATE_EVT, 3, 1⟩
def GATE_EVT_PG_LOSS : Fld := ⟨GATE_EVT, 2, 1⟩
def GATE_EVT_RSTREQ_STUCK : Fld := ⟨GATE_EVT, 1, 1⟩
def GATE_EVT_STATE_CHG : Fld := ⟨GATE_EVT, 0, 1⟩
/-- GATE_IRQ_EN (04_domains_and_device_modes.md). -/
def GATE_IRQ_EN : Nat := 0x400A0024
def GATE_IRQ_EN_CMD_DONE : Fld := ⟨GATE_IRQ_EN, 6, 1⟩
def GATE_IRQ_EN_QUARANTINE : Fld := ⟨GATE_IRQ_EN, 5, 1⟩
def GATE_IRQ_EN_PRESENCE_CHG : Fld := ⟨GATE_IRQ_EN, 4, 1⟩
def GATE_IRQ_EN_PG_TIMEOUT : Fld := ⟨GATE_IRQ_EN, 3, 1⟩
def GATE_IRQ_EN_PG_LOSS : Fld := ⟨GATE_IRQ_EN, 2, 1⟩
def GATE_IRQ_EN_RSTREQ_STUCK : Fld := ⟨GATE_IRQ_EN, 1, 1⟩
def GATE_IRQ_EN_STATE_CHG : Fld := ⟨GATE_IRQ_EN, 0, 1⟩
/-- GATE_REL0 (04_domains_and_device_modes.md). -/
def GATE_REL0 : Nat := 0x400A0030
def GATE_REL0_REL : Fld := ⟨GATE_REL0, 0, 32⟩
/-- GATE_REL1 (04_domains_and_device_modes.md). -/
def GATE_REL1 : Nat := 0x400A0034
def GATE_REL1_REL : Fld := ⟨GATE_REL1, 0, 16⟩
/-- GATE_DOMn_STAT (04_domains_and_device_modes.md). -/
def GATE_DOM_STAT (n : Nat) : Nat := 0x400A0100 + 8 * n
def GATE_DOM_STAT_LAST_CAUSE (n : Nat) : Fld := ⟨(GATE_DOM_STAT n), 16, 8⟩
def GATE_DOM_STAT_FAIL_COUNT (n : Nat) : Fld := ⟨(GATE_DOM_STAT n), 12, 4⟩
def GATE_DOM_STAT_DIVERGED (n : Nat) : Fld := ⟨(GATE_DOM_STAT n), 10, 1⟩
def GATE_DOM_STAT_PG_TIMEOUT (n : Nat) : Fld := ⟨(GATE_DOM_STAT n), 9, 1⟩
def GATE_DOM_STAT_RSTREQ_STUCK (n : Nat) : Fld := ⟨(GATE_DOM_STAT n), 8, 1⟩
def GATE_DOM_STAT_SEQ_ACTIVE (n : Nat) : Fld := ⟨(GATE_DOM_STAT n), 7, 1⟩
def GATE_DOM_STAT_POWERED (n : Nat) : Fld := ⟨(GATE_DOM_STAT n), 6, 1⟩
def GATE_DOM_STAT_ABSENT (n : Nat) : Fld := ⟨(GATE_DOM_STAT n), 5, 1⟩
def GATE_DOM_STAT_BLOCKED (n : Nat) : Fld := ⟨(GATE_DOM_STAT n), 4, 1⟩
def GATE_DOM_STAT_VERIFIED (n : Nat) : Fld := ⟨(GATE_DOM_STAT n), 3, 1⟩
def GATE_DOM_STAT_STATE (n : Nat) : Fld := ⟨(GATE_DOM_STAT n), 0, 3⟩
/-- GATE_DOMn_GEN (04_domains_and_device_modes.md). -/
def GATE_DOM_GEN (n : Nat) : Nat := 0x400A0104 + 8 * n
def GATE_DOM_GEN_GEN (n : Nat) : Fld := ⟨(GATE_DOM_GEN n), 0, 32⟩
/-- GATE_PCLk_STAT (04_domains_and_device_modes.md). -/
def GATE_PCL_STAT (k : Nat) : Nat := 0x400A0400 + 4 * k
def GATE_PCL_STAT_IGNORED (k : Nat) : Fld := ⟨(GATE_PCL_STAT k), 4, 1⟩
def GATE_PCL_STAT_VALID (k : Nat) : Fld := ⟨(GATE_PCL_STAT k), 3, 1⟩
def GATE_PCL_STAT_DRIVEN (k : Nat) : Fld := ⟨(GATE_PCL_STAT k), 2, 1⟩
def GATE_PCL_STAT_ASSERTED (k : Nat) : Fld := ⟨(GATE_PCL_STAT k), 1, 1⟩
def GATE_PCL_STAT_LEVEL (k : Nat) : Fld := ⟨(GATE_PCL_STAT k), 0, 1⟩

/-! ### LOADER: base 0x400B0000 -/
/-- LOADER_CTRL (05_image_manifests_and_gathering.md). -/
def LOADER_CTRL : Nat := 0x400B0000
def LOADER_CTRL_LOCK_VIOL : Fld := ⟨LOADER_CTRL, 1, 1⟩
def LOADER_CTRL_LOCK : Fld := ⟨LOADER_CTRL, 0, 1⟩
/-- LOADER_STAT (05_image_manifests_and_gathering.md). -/
def LOADER_STAT : Nat := 0x400B0004
def LOADER_STAT_LANES : Fld := ⟨LOADER_STAT, 24, 8⟩
def LOADER_STAT_MAN_QUEUE : Fld := ⟨LOADER_STAT, 16, 8⟩
def LOADER_STAT_ACTIVE : Fld := ⟨LOADER_STAT, 8, 8⟩
def LOADER_STAT_MAN_IN_BUF : Fld := ⟨LOADER_STAT, 0, 1⟩
/-- LOADER_MAN_BUF (05_image_manifests_and_gathering.md). -/
def LOADER_MAN_BUF : Nat := 0x400B0008
def LOADER_MAN_BUF_ADDR : Fld := ⟨LOADER_MAN_BUF, 16, 16⟩
/-- LOADER_MAN_INFO (05_image_manifests_and_gathering.md). -/
def LOADER_MAN_INFO : Nat := 0x400B000C
def LOADER_MAN_INFO_DOM : Fld := ⟨LOADER_MAN_INFO, 24, 8⟩
def LOADER_MAN_INFO_LEN : Fld := ⟨LOADER_MAN_INFO, 0, 17⟩
/-- LOADER_CMD (05_image_manifests_and_gathering.md). -/
def LOADER_CMD : Nat := 0x400B0010
def LOADER_CMD_CODE : Fld := ⟨LOADER_CMD, 16, 8⟩
def LOADER_CMD_DOM : Fld := ⟨LOADER_CMD, 8, 8⟩
def LOADER_CMD_OP : Fld := ⟨LOADER_CMD, 0, 8⟩
/-- LOADER_CMD_GEN (05_image_manifests_and_gathering.md). -/
def LOADER_CMD_GEN : Nat := 0x400B0014
def LOADER_CMD_GEN_GEN : Fld := ⟨LOADER_CMD_GEN, 0, 32⟩
/-- LOADER_CMD_STAT (05_image_manifests_and_gathering.md). -/
def LOADER_CMD_STAT : Nat := 0x400B0018
def LOADER_CMD_STAT_LAST_DOM : Fld := ⟨LOADER_CMD_STAT, 16, 8⟩
def LOADER_CMD_STAT_LAST_OP : Fld := ⟨LOADER_CMD_STAT, 8, 8⟩
def LOADER_CMD_STAT_LAST_STATUS : Fld := ⟨LOADER_CMD_STAT, 0, 8⟩
/-- LOADER_EVT (05_image_manifests_and_gathering.md). -/
def LOADER_EVT : Nat := 0x400B0020
def LOADER_EVT_SAT : Fld := ⟨LOADER_EVT, 8, 1⟩
def LOADER_EVT_REVERIFY_DONE : Fld := ⟨LOADER_EVT, 7, 1⟩
def LOADER_EVT_CMD_DONE : Fld := ⟨LOADER_EVT, 6, 1⟩
def LOADER_EVT_PIN_DENIED : Fld := ⟨LOADER_EVT, 5, 1⟩
def LOADER_EVT_READ_RETRY : Fld := ⟨LOADER_EVT, 4, 1⟩
def LOADER_EVT_LANE_RETIRED : Fld := ⟨LOADER_EVT, 3, 1⟩
def LOADER_EVT_DOM_FAILED : Fld := ⟨LOADER_EVT, 2, 1⟩
def LOADER_EVT_DOM_PASSED : Fld := ⟨LOADER_EVT, 1, 1⟩
def LOADER_EVT_MAN_READY : Fld := ⟨LOADER_EVT, 0, 1⟩
/-- LOADER_IRQ_EN (05_image_manifests_and_gathering.md). -/
def LOADER_IRQ_EN : Nat := 0x400B0024
def LOADER_IRQ_EN_SAT : Fld := ⟨LOADER_IRQ_EN, 8, 1⟩
def LOADER_IRQ_EN_REVERIFY_DONE : Fld := ⟨LOADER_IRQ_EN, 7, 1⟩
def LOADER_IRQ_EN_CMD_DONE : Fld := ⟨LOADER_IRQ_EN, 6, 1⟩
def LOADER_IRQ_EN_PIN_DENIED : Fld := ⟨LOADER_IRQ_EN, 5, 1⟩
def LOADER_IRQ_EN_READ_RETRY : Fld := ⟨LOADER_IRQ_EN, 4, 1⟩
def LOADER_IRQ_EN_LANE_RETIRED : Fld := ⟨LOADER_IRQ_EN, 3, 1⟩
def LOADER_IRQ_EN_DOM_FAILED : Fld := ⟨LOADER_IRQ_EN, 2, 1⟩
def LOADER_IRQ_EN_DOM_PASSED : Fld := ⟨LOADER_IRQ_EN, 1, 1⟩
def LOADER_IRQ_EN_MAN_READY : Fld := ⟨LOADER_IRQ_EN, 0, 1⟩
/-- LOADER_LANE0 (05_image_manifests_and_gathering.md). -/
def LOADER_LANE0 : Nat := 0x400B0030
def LOADER_LANE0_IN_SERVICE : Fld := ⟨LOADER_LANE0, 0, 32⟩
/-- LOADER_LANE1 (05_image_manifests_and_gathering.md). -/
def LOADER_LANE1 : Nat := 0x400B0034
def LOADER_LANE1_FAILED : Fld := ⟨LOADER_LANE1, 16, 4⟩
def LOADER_LANE1_IN_SERVICE : Fld := ⟨LOADER_LANE1, 0, 4⟩
/-- LOADER_LANE_FAIL (05_image_manifests_and_gathering.md). -/
def LOADER_LANE_FAIL : Nat := 0x400B0038
def LOADER_LANE_FAIL_FAILED : Fld := ⟨LOADER_LANE_FAIL, 0, 32⟩
/-- LOADER_DIGESTi (05_image_manifests_and_gathering.md). -/
def LOADER_DIGEST (i : Nat) : Nat := 0x400B0040 + 4 * i
def LOADER_DIGEST_DIGEST (i : Nat) : Fld := ⟨(LOADER_DIGEST i), 0, 32⟩
/-- LOADER_KEYDIGi (05_image_manifests_and_gathering.md). -/
def LOADER_KEYDIG (i : Nat) : Nat := 0x400B0070 + 4 * i
def LOADER_KEYDIG_DIGEST (i : Nat) : Fld := ⟨(LOADER_KEYDIG i), 0, 32⟩
/-- LOADER_ADMIT_LO (05_image_manifests_and_gathering.md). -/
def LOADER_ADMIT_LO : Nat := 0x400B00A0
def LOADER_ADMIT_LO_COUNT_LO : Fld := ⟨LOADER_ADMIT_LO, 0, 32⟩
/-- LOADER_ADMIT_HI (05_image_manifests_and_gathering.md). -/
def LOADER_ADMIT_HI : Nat := 0x400B00A4
def LOADER_ADMIT_HI_SAT : Fld := ⟨LOADER_ADMIT_HI, 31, 1⟩
def LOADER_ADMIT_HI_COUNT_HI : Fld := ⟨LOADER_ADMIT_HI, 0, 16⟩
/-- LOADER_RETRY_LO (05_image_manifests_and_gathering.md). -/
def LOADER_RETRY_LO : Nat := 0x400B00A8
def LOADER_RETRY_LO_COUNT_LO : Fld := ⟨LOADER_RETRY_LO, 0, 32⟩
/-- LOADER_RETRY_HI (05_image_manifests_and_gathering.md). -/
def LOADER_RETRY_HI : Nat := 0x400B00AC
def LOADER_RETRY_HI_SAT : Fld := ⟨LOADER_RETRY_HI, 31, 1⟩
def LOADER_RETRY_HI_COUNT_HI : Fld := ⟨LOADER_RETRY_HI, 0, 16⟩
/-- LOADER_DOMn_PROG (05_image_manifests_and_gathering.md). -/
def LOADER_DOM_PROG (n : Nat) : Nat := 0x400B0100 + 8 * n
def LOADER_DOM_PROG_ADMITTED_MIB (n : Nat) : Fld := ⟨(LOADER_DOM_PROG n), 16, 16⟩
def LOADER_DOM_PROG_PASSED (n : Nat) : Fld := ⟨(LOADER_DOM_PROG n), 8, 8⟩
def LOADER_DOM_PROG_TOTAL (n : Nat) : Fld := ⟨(LOADER_DOM_PROG n), 0, 8⟩
/-- LOADER_DOMn_FAIL (05_image_manifests_and_gathering.md). -/
def LOADER_DOM_FAIL (n : Nat) : Nat := 0x400B0104 + 8 * n
def LOADER_DOM_FAIL_CODE (n : Nat) : Fld := ⟨(LOADER_DOM_FAIL n), 24, 8⟩
def LOADER_DOM_FAIL_REGION (n : Nat) : Fld := ⟨(LOADER_DOM_FAIL n), 18, 6⟩
def LOADER_DOM_FAIL_NODE (n : Nat) : Fld := ⟨(LOADER_DOM_FAIL n), 17, 1⟩
def LOADER_DOM_FAIL_INDEX (n : Nat) : Fld := ⟨(LOADER_DOM_FAIL n), 0, 17⟩
/-- LOADER_FBb_STAT (05_image_manifests_and_gathering.md). -/
def LOADER_FB_STAT (b : Nat) : Nat := 0x400B0400 + 4 * b
def LOADER_FB_STAT_QUEUE (b : Nat) : Fld := ⟨(LOADER_FB_STAT b), 16, 8⟩
def LOADER_FB_STAT_CUR_DOM (b : Nat) : Fld := ⟨(LOADER_FB_STAT b), 8, 8⟩
def LOADER_FB_STAT_LAST_STATUS (b : Nat) : Fld := ⟨(LOADER_FB_STAT b), 0, 8⟩

/-! ### ORANGERY: base 0x400C0000 -/
/-- ORANGERY_CTRL (06_orangery_shadow_store.md). -/
def ORANGERY_CTRL : Nat := 0x400C0000
def ORANGERY_CTRL_LOCK_VIOL : Fld := ⟨ORANGERY_CTRL, 1, 1⟩
def ORANGERY_CTRL_LOCK : Fld := ⟨ORANGERY_CTRL, 0, 1⟩
/-- ORANGERY_STAT (06_orangery_shadow_store.md). -/
def ORANGERY_STAT : Nat := 0x400C0004
def ORANGERY_STAT_LEDGER : Fld := ⟨ORANGERY_STAT, 8, 4⟩
def ORANGERY_STAT_CMD_BUSY : Fld := ⟨ORANGERY_STAT, 5, 1⟩
def ORANGERY_STAT_FROZEN : Fld := ⟨ORANGERY_STAT, 4, 1⟩
def ORANGERY_STAT_REKEY_ACTIVE : Fld := ⟨ORANGERY_STAT, 3, 1⟩
def ORANGERY_STAT_RV_ACTIVE : Fld := ⟨ORANGERY_STAT, 2, 1⟩
def ORANGERY_STAT_CAP : Fld := ⟨ORANGERY_STAT, 1, 1⟩
def ORANGERY_STAT_KEYS_LOADED : Fld := ⟨ORANGERY_STAT, 0, 1⟩
/-- ORANGERY_STAGE_STAT (06_orangery_shadow_store.md). -/
def ORANGERY_STAGE_STAT : Nat := 0x400C0008
def ORANGERY_STAGE_STAT_HANDLES : Fld := ⟨ORANGERY_STAGE_STAT, 24, 8⟩
def ORANGERY_STAGE_STAT_FREE_MIB : Fld := ⟨ORANGERY_STAGE_STAT, 0, 13⟩
/-- ORANGERY_EPOCH (06_orangery_shadow_store.md). -/
def ORANGERY_EPOCH : Nat := 0x400C000C
def ORANGERY_EPOCH_NEXT : Fld := ⟨ORANGERY_EPOCH, 0, 32⟩
/-- ORANGERY_CMD (06_orangery_shadow_store.md). -/
def ORANGERY_CMD : Nat := 0x400C0010
def ORANGERY_CMD_HANDLE : Fld := ⟨ORANGERY_CMD, 16, 8⟩
def ORANGERY_CMD_DOM : Fld := ⟨ORANGERY_CMD, 8, 8⟩
def ORANGERY_CMD_OP : Fld := ⟨ORANGERY_CMD, 0, 8⟩
/-- ORANGERY_CMD_GEN (06_orangery_shadow_store.md). -/
def ORANGERY_CMD_GEN : Nat := 0x400C0014
def ORANGERY_CMD_GEN_GEN : Fld := ⟨ORANGERY_CMD_GEN, 0, 32⟩
/-- ORANGERY_CMD_ARG0 (06_orangery_shadow_store.md). -/
def ORANGERY_CMD_ARG0 : Nat := 0x400C0018
def ORANGERY_CMD_ARG0_ARG : Fld := ⟨ORANGERY_CMD_ARG0, 0, 32⟩
/-- ORANGERY_CMD_ARG1 (06_orangery_shadow_store.md). -/
def ORANGERY_CMD_ARG1 : Nat := 0x400C001C
def ORANGERY_CMD_ARG1_ARG : Fld := ⟨ORANGERY_CMD_ARG1, 0, 32⟩
/-- ORANGERY_CMD_ARG2 (06_orangery_shadow_store.md). -/
def ORANGERY_CMD_ARG2 : Nat := 0x400C0020
def ORANGERY_CMD_ARG2_ARG : Fld := ⟨ORANGERY_CMD_ARG2, 0, 32⟩
/-- ORANGERY_CMD_STAT (06_orangery_shadow_store.md). -/
def ORANGERY_CMD_STAT : Nat := 0x400C0024
def ORANGERY_CMD_STAT_RESULT : Fld := ⟨ORANGERY_CMD_STAT, 16, 16⟩
def ORANGERY_CMD_STAT_LAST_OP : Fld := ⟨ORANGERY_CMD_STAT, 8, 8⟩
def ORANGERY_CMD_STAT_LAST_STATUS : Fld := ⟨ORANGERY_CMD_STAT, 0, 8⟩
/-- ORANGERY_EVT (06_orangery_shadow_store.md). -/
def ORANGERY_EVT : Nat := 0x400C0028
def ORANGERY_EVT_SAT : Fld := ⟨ORANGERY_EVT, 8, 1⟩
def ORANGERY_EVT_LEDGER_HELD : Fld := ⟨ORANGERY_EVT, 7, 1⟩
def ORANGERY_EVT_LOST_LEAF : Fld := ⟨ORANGERY_EVT, 6, 1⟩
def ORANGERY_EVT_REFETCH : Fld := ⟨ORANGERY_EVT, 5, 1⟩
def ORANGERY_EVT_REKEY_DONE : Fld := ⟨ORANGERY_EVT, 4, 1⟩
def ORANGERY_EVT_REKEY_START : Fld := ⟨ORANGERY_EVT, 3, 1⟩
def ORANGERY_EVT_RV_MISMATCH : Fld := ⟨ORANGERY_EVT, 2, 1⟩
def ORANGERY_EVT_RV_SWEEP : Fld := ⟨ORANGERY_EVT, 1, 1⟩
def ORANGERY_EVT_CMD_DONE : Fld := ⟨ORANGERY_EVT, 0, 1⟩
/-- ORANGERY_IRQ_EN (06_orangery_shadow_store.md). -/
def ORANGERY_IRQ_EN : Nat := 0x400C002C
def ORANGERY_IRQ_EN_SAT : Fld := ⟨ORANGERY_IRQ_EN, 8, 1⟩
def ORANGERY_IRQ_EN_LEDGER_HELD : Fld := ⟨ORANGERY_IRQ_EN, 7, 1⟩
def ORANGERY_IRQ_EN_LOST_LEAF : Fld := ⟨ORANGERY_IRQ_EN, 6, 1⟩
def ORANGERY_IRQ_EN_REFETCH : Fld := ⟨ORANGERY_IRQ_EN, 5, 1⟩
def ORANGERY_IRQ_EN_REKEY_DONE : Fld := ⟨ORANGERY_IRQ_EN, 4, 1⟩
def ORANGERY_IRQ_EN_REKEY_START : Fld := ⟨ORANGERY_IRQ_EN, 3, 1⟩
def ORANGERY_IRQ_EN_RV_MISMATCH : Fld := ⟨ORANGERY_IRQ_EN, 2, 1⟩
def ORANGERY_IRQ_EN_RV_SWEEP : Fld := ⟨ORANGERY_IRQ_EN, 1, 1⟩
def ORANGERY_IRQ_EN_CMD_DONE : Fld := ⟨ORANGERY_IRQ_EN, 0, 1⟩
/-- ORANGERY_RV_CTRL (06_orangery_shadow_store.md). -/
def ORANGERY_RV_CTRL : Nat := 0x400C0030
def ORANGERY_RV_CTRL_SHADOW_EN : Fld := ⟨ORANGERY_RV_CTRL, 16, 1⟩
def ORANGERY_RV_CTRL_EN : Fld := ⟨ORANGERY_RV_CTRL, 15, 1⟩
def ORANGERY_RV_CTRL_RATE : Fld := ⟨ORANGERY_RV_CTRL, 0, 11⟩
/-- ORANGERY_RV_STAT (06_orangery_shadow_store.md). -/
def ORANGERY_RV_STAT : Nat := 0x400C0034
def ORANGERY_RV_STAT_DOM : Fld := ⟨ORANGERY_RV_STAT, 24, 8⟩
def ORANGERY_RV_STAT_REGION : Fld := ⟨ORANGERY_RV_STAT, 18, 6⟩
def ORANGERY_RV_STAT_LAST_SWEEP_S : Fld := ⟨ORANGERY_RV_STAT, 0, 16⟩
/-- ORANGERY_REKEY_STAT (06_orangery_shadow_store.md). -/
def ORANGERY_REKEY_STAT : Nat := 0x400C0038
def ORANGERY_REKEY_STAT_EXTENT : Fld := ⟨ORANGERY_REKEY_STAT, 20, 12⟩
def ORANGERY_REKEY_STAT_BLOCK : Fld := ⟨ORANGERY_REKEY_STAT, 0, 17⟩
/-- ORANGERY_LEDGER_SEQ (06_orangery_shadow_store.md). -/
def ORANGERY_LEDGER_SEQ : Nat := 0x400C003C
def ORANGERY_LEDGER_SEQ_SEQ : Fld := ⟨ORANGERY_LEDGER_SEQ, 0, 32⟩
/-- ORANGERY_DIGESTi (06_orangery_shadow_store.md). -/
def ORANGERY_DIGEST (i : Nat) : Nat := 0x400C0040 + 4 * i
def ORANGERY_DIGEST_DIGEST (i : Nat) : Fld := ⟨(ORANGERY_DIGEST i), 0, 32⟩
/-- ORANGERY_REFETCH_LO (06_orangery_shadow_store.md). -/
def ORANGERY_REFETCH_LO : Nat := 0x400C0070
def ORANGERY_REFETCH_LO_COUNT_LO : Fld := ⟨ORANGERY_REFETCH_LO, 0, 32⟩
/-- ORANGERY_REFETCH_HI (06_orangery_shadow_store.md). -/
def ORANGERY_REFETCH_HI : Nat := 0x400C0074
def ORANGERY_REFETCH_HI_SAT : Fld := ⟨ORANGERY_REFETCH_HI, 31, 1⟩
def ORANGERY_REFETCH_HI_COUNT_HI : Fld := ⟨ORANGERY_REFETCH_HI, 0, 16⟩
/-- ORANGERY_LOST_STAT (06_orangery_shadow_store.md). -/
def ORANGERY_LOST_STAT : Nat := 0x400C0078
def ORANGERY_LOST_STAT_ENTRIES : Fld := ⟨ORANGERY_LOST_STAT, 0, 9⟩

/-! ### FBUS: base 0x400D0000 -/
/-- FBUS_CTRL (09_flash_buses_and_nursery.md). -/
def FBUS_CTRL : Nat := 0x400D0000
def FBUS_CTRL_LOCK_VIOL : Fld := ⟨FBUS_CTRL, 1, 1⟩
def FBUS_CTRL_LOCK : Fld := ⟨FBUS_CTRL, 0, 1⟩
/-- FBUS_STAT (09_flash_buses_and_nursery.md). -/
def FBUS_STAT : Nat := 0x400D0004
def FBUS_STAT_DEV_FAILED : Fld := ⟨FBUS_STAT, 24, 8⟩
def FBUS_STAT_PART_UNAVAIL : Fld := ⟨FBUS_STAT, 14, 10⟩
def FBUS_STAT_DISC_DONE : Fld := ⟨FBUS_STAT, 1, 1⟩
def FBUS_STAT_MAP_APPLIED : Fld := ⟨FBUS_STAT, 0, 1⟩
/-- FBUS_CMD (09_flash_buses_and_nursery.md). -/
def FBUS_CMD : Nat := 0x400D0008
def FBUS_CMD_ARG : Fld := ⟨FBUS_CMD, 16, 16⟩
def FBUS_CMD_OP : Fld := ⟨FBUS_CMD, 0, 8⟩
/-- FBUS_CMD_ADDR (09_flash_buses_and_nursery.md). -/
def FBUS_CMD_ADDR : Nat := 0x400D000C
def FBUS_CMD_ADDR_ADDR : Fld := ⟨FBUS_CMD_ADDR, 0, 32⟩
/-- FBUS_CMD_STAT (09_flash_buses_and_nursery.md). -/
def FBUS_CMD_STAT : Nat := 0x400D0010
def FBUS_CMD_STAT_RESULT : Fld := ⟨FBUS_CMD_STAT, 16, 16⟩
def FBUS_CMD_STAT_LAST_OP : Fld := ⟨FBUS_CMD_STAT, 8, 8⟩
def FBUS_CMD_STAT_LAST_STATUS : Fld := ⟨FBUS_CMD_STAT, 0, 8⟩
/-- FBUS_EVT (09_flash_buses_and_nursery.md). -/
def FBUS_EVT : Nat := 0x400D0014
def FBUS_EVT_SAT : Fld := ⟨FBUS_EVT, 7, 1⟩
def FBUS_EVT_REC_FAILED : Fld := ⟨FBUS_EVT, 6, 1⟩
def FBUS_EVT_REC_DONE : Fld := ⟨FBUS_EVT, 5, 1⟩
def FBUS_EVT_OP_TIMEOUT : Fld := ⟨FBUS_EVT, 4, 1⟩
def FBUS_EVT_WT_FAIL : Fld := ⟨FBUS_EVT, 3, 1⟩
def FBUS_EVT_TRIM_CLAMP : Fld := ⟨FBUS_EVT, 2, 1⟩
def FBUS_EVT_DEV_FAILED : Fld := ⟨FBUS_EVT, 1, 1⟩
def FBUS_EVT_CMD_DONE : Fld := ⟨FBUS_EVT, 0, 1⟩
/-- FBUS_IRQ_EN (09_flash_buses_and_nursery.md). -/
def FBUS_IRQ_EN : Nat := 0x400D0018
def FBUS_IRQ_EN_SAT : Fld := ⟨FBUS_IRQ_EN, 7, 1⟩
def FBUS_IRQ_EN_REC_FAILED : Fld := ⟨FBUS_IRQ_EN, 6, 1⟩
def FBUS_IRQ_EN_REC_DONE : Fld := ⟨FBUS_IRQ_EN, 5, 1⟩
def FBUS_IRQ_EN_OP_TIMEOUT : Fld := ⟨FBUS_IRQ_EN, 4, 1⟩
def FBUS_IRQ_EN_WT_FAIL : Fld := ⟨FBUS_IRQ_EN, 3, 1⟩
def FBUS_IRQ_EN_TRIM_CLAMP : Fld := ⟨FBUS_IRQ_EN, 2, 1⟩
def FBUS_IRQ_EN_DEV_FAILED : Fld := ⟨FBUS_IRQ_EN, 1, 1⟩
def FBUS_IRQ_EN_CMD_DONE : Fld := ⟨FBUS_IRQ_EN, 0, 1⟩
/-- FBUS_WT_FAIL0 (09_flash_buses_and_nursery.md). -/
def FBUS_WT_FAIL0 : Nat := 0x400D0020
def FBUS_WT_FAIL0_DOM : Fld := ⟨FBUS_WT_FAIL0, 24, 8⟩
def FBUS_WT_FAIL0_CODE : Fld := ⟨FBUS_WT_FAIL0, 16, 8⟩
def FBUS_WT_FAIL0_DEVICE : Fld := ⟨FBUS_WT_FAIL0, 8, 8⟩
def FBUS_WT_FAIL0_KIND : Fld := ⟨FBUS_WT_FAIL0, 0, 8⟩
/-- FBUS_WT_FAIL1 (09_flash_buses_and_nursery.md). -/
def FBUS_WT_FAIL1 : Nat := 0x400D0024
def FBUS_WT_FAIL1_ADDR : Fld := ⟨FBUS_WT_FAIL1, 0, 32⟩
/-- FBUS_REC_STAT (09_flash_buses_and_nursery.md). -/
def FBUS_REC_STAT : Nat := 0x400D0028
def FBUS_REC_STAT_DOM : Fld := ⟨FBUS_REC_STAT, 24, 8⟩
def FBUS_REC_STAT_STATUS : Fld := ⟨FBUS_REC_STAT, 16, 8⟩
def FBUS_REC_STAT_UNITS : Fld := ⟨FBUS_REC_STAT, 0, 16⟩
/-- FBUS_PART_SEL (09_flash_buses_and_nursery.md). -/
def FBUS_PART_SEL : Nat := 0x400D002C
def FBUS_PART_SEL_INDEX : Fld := ⟨FBUS_PART_SEL, 0, 9⟩
/-- FBUS_PART_STAT (09_flash_buses_and_nursery.md). -/
def FBUS_PART_STAT : Nat := 0x400D0030
def FBUS_PART_STAT_DEVICE : Fld := ⟨FBUS_PART_STAT, 24, 8⟩
def FBUS_PART_STAT_KIND : Fld := ⟨FBUS_PART_STAT, 16, 8⟩
def FBUS_PART_STAT_WT : Fld := ⟨FBUS_PART_STAT, 8, 1⟩
def FBUS_PART_STAT_REASON : Fld := ⟨FBUS_PART_STAT, 4, 4⟩
def FBUS_PART_STAT_AVAILABLE : Fld := ⟨FBUS_PART_STAT, 0, 1⟩
/-- FBUS_CLAMP_LO (09_flash_buses_and_nursery.md). -/
def FBUS_CLAMP_LO : Nat := 0x400D0038
def FBUS_CLAMP_LO_COUNT_LO : Fld := ⟨FBUS_CLAMP_LO, 0, 32⟩
/-- FBUS_CLAMP_HI (09_flash_buses_and_nursery.md). -/
def FBUS_CLAMP_HI : Nat := 0x400D003C
def FBUS_CLAMP_HI_SAT : Fld := ⟨FBUS_CLAMP_HI, 31, 1⟩
def FBUS_CLAMP_HI_COUNT_HI : Fld := ⟨FBUS_CLAMP_HI, 0, 16⟩
/-- FBUS_WTFAIL_LO (09_flash_buses_and_nursery.md). -/
def FBUS_WTFAIL_LO : Nat := 0x400D0040
def FBUS_WTFAIL_LO_COUNT_LO : Fld := ⟨FBUS_WTFAIL_LO, 0, 32⟩
/-- FBUS_WTFAIL_HI (09_flash_buses_and_nursery.md). -/
def FBUS_WTFAIL_HI : Nat := 0x400D0044
def FBUS_WTFAIL_HI_SAT : Fld := ⟨FBUS_WTFAIL_HI, 31, 1⟩
def FBUS_WTFAIL_HI_COUNT_HI : Fld := ⟨FBUS_WTFAIL_HI, 0, 16⟩
/-- FBUS_FBb_TRIM (09_flash_buses_and_nursery.md). -/
def FBUS_FB_TRIM (b : Nat) : Nat := 0x400D0100 + 4 * b
def FBUS_FB_TRIM_TRIM_MAX (b : Nat) : Fld := ⟨(FBUS_FB_TRIM b), 16, 8⟩
def FBUS_FB_TRIM_TRIM_MIN (b : Nat) : Fld := ⟨(FBUS_FB_TRIM b), 8, 8⟩
def FBUS_FB_TRIM_TRACK_EN (b : Nat) : Fld := ⟨(FBUS_FB_TRIM b), 7, 1⟩
def FBUS_FB_TRIM_TAP (b : Nat) : Fld := ⟨(FBUS_FB_TRIM b), 0, 7⟩
/-- FBUS_DEVd_STAT (09_flash_buses_and_nursery.md). -/
def FBUS_DEV_STAT (d : Nat) : Nat := 0x400D0200 + 4 * d
def FBUS_DEV_STAT_STATE (d : Nat) : Fld := ⟨(FBUS_DEV_STAT d), 29, 3⟩
def FBUS_DEV_STAT_BUS (d : Nat) : Fld := ⟨(FBUS_DEV_STAT d), 24, 5⟩
def FBUS_DEV_STAT_CS (d : Nat) : Fld := ⟨(FBUS_DEV_STAT d), 22, 2⟩
def FBUS_DEV_STAT_SIZE_LOG2 (d : Nat) : Fld := ⟨(FBUS_DEV_STAT d), 16, 6⟩
def FBUS_DEV_STAT_ERASE (d : Nat) : Fld := ⟨(FBUS_DEV_STAT d), 12, 4⟩
def FBUS_DEV_STAT_PAGE (d : Nat) : Fld := ⟨(FBUS_DEV_STAT d), 10, 2⟩
def FBUS_DEV_STAT_SUSPEND_OK (d : Nat) : Fld := ⟨(FBUS_DEV_STAT d), 9, 1⟩
def FBUS_DEV_STAT_FAIL_CODE (d : Nat) : Fld := ⟨(FBUS_DEV_STAT d), 0, 8⟩
/-- FBUS_UPD_CMD (15_update_and_activation.md). -/
def FBUS_UPD_CMD : Nat := 0x400D0800
def FBUS_UPD_CMD_HANDLE : Fld := ⟨FBUS_UPD_CMD, 24, 8⟩
def FBUS_UPD_CMD_COMP : Fld := ⟨FBUS_UPD_CMD, 8, 16⟩
def FBUS_UPD_CMD_OP : Fld := ⟨FBUS_UPD_CMD, 0, 8⟩
/-- FBUS_UPD_ARG (15_update_and_activation.md). -/
def FBUS_UPD_ARG : Nat := 0x400D0804
def FBUS_UPD_ARG_ARG : Fld := ⟨FBUS_UPD_ARG, 0, 32⟩
/-- FBUS_UPD_CMD_STAT (15_update_and_activation.md). -/
def FBUS_UPD_CMD_STAT : Nat := 0x400D0808
def FBUS_UPD_CMD_STAT_RESULT : Fld := ⟨FBUS_UPD_CMD_STAT, 16, 16⟩
def FBUS_UPD_CMD_STAT_LAST_OP : Fld := ⟨FBUS_UPD_CMD_STAT, 8, 8⟩
def FBUS_UPD_CMD_STAT_LAST_STATUS : Fld := ⟨FBUS_UPD_CMD_STAT, 0, 8⟩
/-- FBUS_UPD_STAT (15_update_and_activation.md). -/
def FBUS_UPD_STAT : Nat := 0x400D080C
def FBUS_UPD_STAT_WRITTEN : Fld := ⟨FBUS_UPD_STAT, 16, 16⟩
def FBUS_UPD_STAT_OWNER_LOCK : Fld := ⟨FBUS_UPD_STAT, 7, 1⟩
def FBUS_UPD_STAT_SETTLE_DUE : Fld := ⟨FBUS_UPD_STAT, 6, 1⟩
def FBUS_UPD_STAT_T_COPY : Fld := ⟨FBUS_UPD_STAT, 5, 1⟩
def FBUS_UPD_STAT_JOB : Fld := ⟨FBUS_UPD_STAT, 0, 5⟩
/-- FBUS_UPD_EVT (15_update_and_activation.md). -/
def FBUS_UPD_EVT : Nat := 0x400D0810
def FBUS_UPD_EVT_JOB_FAIL : Fld := ⟨FBUS_UPD_EVT, 2, 1⟩
def FBUS_UPD_EVT_JOB_DONE : Fld := ⟨FBUS_UPD_EVT, 1, 1⟩
def FBUS_UPD_EVT_CMD_DONE : Fld := ⟨FBUS_UPD_EVT, 0, 1⟩
/-- FBUS_UPD_IRQ_EN (15_update_and_activation.md). -/
def FBUS_UPD_IRQ_EN : Nat := 0x400D0814
def FBUS_UPD_IRQ_EN_JOB_FAIL : Fld := ⟨FBUS_UPD_IRQ_EN, 2, 1⟩
def FBUS_UPD_IRQ_EN_JOB_DONE : Fld := ⟨FBUS_UPD_IRQ_EN, 1, 1⟩
def FBUS_UPD_IRQ_EN_CMD_DONE : Fld := ⟨FBUS_UPD_IRQ_EN, 0, 1⟩
/-- FBUS_UPD_SVN (15_update_and_activation.md). -/
def FBUS_UPD_SVN : Nat := 0x400D0818
def FBUS_UPD_SVN_FREE : Fld := ⟨FBUS_UPD_SVN, 16, 9⟩
def FBUS_UPD_SVN_MIN : Fld := ⟨FBUS_UPD_SVN, 8, 8⟩
def FBUS_UPD_SVN_CLASS : Fld := ⟨FBUS_UPD_SVN, 0, 8⟩

/-! ### PLANEx: base 0x40100000 -/
/-- PLANEx_HOT_STAT (06_orangery_shadow_store.md). -/
def PLANE_HOT_STAT (x : Nat) : Nat := 0x40100000 + 0x40000 * x
def PLANE_HOT_STAT_USED (x : Nat) : Fld := ⟨(PLANE_HOT_STAT x), 0, 13⟩
/-- PLANEx_MACFAIL_LO (06_orangery_shadow_store.md). -/
def PLANE_MACFAIL_LO (x : Nat) : Nat := 0x40100008 + 0x40000 * x
def PLANE_MACFAIL_LO_COUNT_LO (x : Nat) : Fld := ⟨(PLANE_MACFAIL_LO x), 0, 32⟩
/-- PLANEx_MACFAIL_HI (06_orangery_shadow_store.md). -/
def PLANE_MACFAIL_HI (x : Nat) : Nat := 0x4010000C + 0x40000 * x
def PLANE_MACFAIL_HI_SAT (x : Nat) : Fld := ⟨(PLANE_MACFAIL_HI x), 31, 1⟩
def PLANE_MACFAIL_HI_COUNT_HI (x : Nat) : Fld := ⟨(PLANE_MACFAIL_HI x), 0, 16⟩
/-- PLANEx_MIRROR_LO (06_orangery_shadow_store.md). -/
def PLANE_MIRROR_LO (x : Nat) : Nat := 0x40100010 + 0x40000 * x
def PLANE_MIRROR_LO_COUNT_LO (x : Nat) : Fld := ⟨(PLANE_MIRROR_LO x), 0, 32⟩
/-- PLANEx_MIRROR_HI (06_orangery_shadow_store.md). -/
def PLANE_MIRROR_HI (x : Nat) : Nat := 0x40100014 + 0x40000 * x
def PLANE_MIRROR_HI_SAT (x : Nat) : Fld := ⟨(PLANE_MIRROR_HI x), 31, 1⟩
def PLANE_MIRROR_HI_COUNT_HI (x : Nat) : Fld := ⟨(PLANE_MIRROR_HI x), 0, 16⟩
/-- PLANEx_HOTFIX_LO (06_orangery_shadow_store.md). -/
def PLANE_HOTFIX_LO (x : Nat) : Nat := 0x40100018 + 0x40000 * x
def PLANE_HOTFIX_LO_COUNT_LO (x : Nat) : Fld := ⟨(PLANE_HOTFIX_LO x), 0, 32⟩
/-- PLANEx_HOTFIX_HI (06_orangery_shadow_store.md). -/
def PLANE_HOTFIX_HI (x : Nat) : Nat := 0x4010001C + 0x40000 * x
def PLANE_HOTFIX_HI_SAT (x : Nat) : Fld := ⟨(PLANE_HOTFIX_HI x), 31, 1⟩
def PLANE_HOTFIX_HI_COUNT_HI (x : Nat) : Fld := ⟨(PLANE_HOTFIX_HI x), 0, 16⟩
/-- PLANEx_EXT_SEL (06_orangery_shadow_store.md). -/
def PLANE_EXT_SEL (x : Nat) : Nat := 0x40100020 + 0x40000 * x
def PLANE_EXT_SEL_INDEX (x : Nat) : Fld := ⟨(PLANE_EXT_SEL x), 0, 12⟩
/-- PLANEx_EXT_DATA0 (06_orangery_shadow_store.md). -/
def PLANE_EXT_DATA0 (x : Nat) : Nat := 0x40100024 + 0x40000 * x
def PLANE_EXT_DATA0_CHANNEL (x : Nat) : Fld := ⟨(PLANE_EXT_DATA0 x), 24, 8⟩
def PLANE_EXT_DATA0_DOM (x : Nat) : Fld := ⟨(PLANE_EXT_DATA0 x), 18, 6⟩
def PLANE_EXT_DATA0_REGION (x : Nat) : Fld := ⟨(PLANE_EXT_DATA0 x), 12, 6⟩
def PLANE_EXT_DATA0_REKEY (x : Nat) : Fld := ⟨(PLANE_EXT_DATA0 x), 3, 1⟩
def PLANE_EXT_DATA0_PINNED (x : Nat) : Fld := ⟨(PLANE_EXT_DATA0 x), 2, 1⟩
def PLANE_EXT_DATA0_WRITABLE (x : Nat) : Fld := ⟨(PLANE_EXT_DATA0 x), 1, 1⟩
def PLANE_EXT_DATA0_VALID (x : Nat) : Fld := ⟨(PLANE_EXT_DATA0 x), 0, 1⟩
/-- PLANEx_EXT_DATA1 (06_orangery_shadow_store.md). -/
def PLANE_EXT_DATA1 (x : Nat) : Nat := 0x40100028 + 0x40000 * x
def PLANE_EXT_DATA1_EPOCH (x : Nat) : Fld := ⟨(PLANE_EXT_DATA1 x), 0, 32⟩
/-- PLANEx_EXT_DATA2 (06_orangery_shadow_store.md). -/
def PLANE_EXT_DATA2 (x : Nat) : Nat := 0x4010002C + 0x40000 * x
def PLANE_EXT_DATA2_BASE (x : Nat) : Fld := ⟨(PLANE_EXT_DATA2 x), 0, 23⟩
/-- PLANEx_EXT_DATA3 (06_orangery_shadow_store.md). -/
def PLANE_EXT_DATA3 (x : Nat) : Nat := 0x40100030 + 0x40000 * x
def PLANE_EXT_DATA3_LENGTH (x : Nat) : Fld := ⟨(PLANE_EXT_DATA3 x), 0, 18⟩
/-- PLANEx_EXT_DATA4 (06_orangery_shadow_store.md). -/
def PLANE_EXT_DATA4 (x : Nat) : Nat := 0x40100034 + 0x40000 * x
def PLANE_EXT_DATA4_CTR_BASE (x : Nat) : Fld := ⟨(PLANE_EXT_DATA4 x), 16, 16⟩
def PLANE_EXT_DATA4_MAX_CTR (x : Nat) : Fld := ⟨(PLANE_EXT_DATA4 x), 0, 16⟩

/-! ### CHn: base 0x40200000 -/
/-- CHn_PORT_CFG (07_channel_ports.md). -/
def CH_PORT_CFG (n : Nat) : Nat := 0x40200000 + 0x400 * n
def CH_PORT_CFG_ESPI_FREQ (n : Nat) : Fld := ⟨(CH_PORT_CFG n), 26, 3⟩
def CH_PORT_CFG_ESPI_IO (n : Nat) : Fld := ⟨(CH_PORT_CFG n), 24, 2⟩
def CH_PORT_CFG_POISON_FILL (n : Nat) : Fld := ⟨(CH_PORT_CFG n), 16, 8⟩
def CH_PORT_CFG_FMAX (n : Nat) : Fld := ⟨(CH_PORT_CFG n), 8, 8⟩
def CH_PORT_CFG_ALERT_MODE (n : Nat) : Fld := ⟨(CH_PORT_CFG n), 6, 2⟩
def CH_PORT_CFG_HOLD_EN (n : Nat) : Fld := ⟨(CH_PORT_CFG n), 5, 1⟩
def CH_PORT_CFG_ADDR4_PON (n : Nat) : Fld := ⟨(CH_PORT_CFG n), 4, 1⟩
def CH_PORT_CFG_START_8D (n : Nat) : Fld := ⟨(CH_PORT_CFG n), 3, 1⟩
def CH_PORT_CFG_MODE (n : Nat) : Fld := ⟨(CH_PORT_CFG n), 0, 3⟩
/-- CHn_PORT_LAT (07_channel_ports.md). -/
def CH_PORT_LAT (n : Nat) : Nat := 0x40200004 + 0x400 * n
def CH_PORT_LAT_MIN_SHADOW (n : Nat) : Fld := ⟨(CH_PORT_LAT n), 8, 8⟩
def CH_PORT_LAT_MIN_PIN (n : Nat) : Fld := ⟨(CH_PORT_LAT n), 0, 8⟩
/-- CHn_PORT_STAT (07_channel_ports.md). -/
def CH_PORT_STAT (n : Nat) : Nat := 0x40200008 + 0x400 * n
def CH_PORT_STAT_ALERT_OUT (n : Nat) : Fld := ⟨(CH_PORT_STAT n), 15, 1⟩
def CH_PORT_STAT_FE_SPARE_OK (n : Nat) : Fld := ⟨(CH_PORT_STAT n), 14, 1⟩
def CH_PORT_STAT_FE_ACTIVE (n : Nat) : Fld := ⟨(CH_PORT_STAT n), 13, 1⟩
def CH_PORT_STAT_ENABLED (n : Nat) : Fld := ⟨(CH_PORT_STAT n), 12, 1⟩
def CH_PORT_STAT_ESPI_READY (n : Nat) : Fld := ⟨(CH_PORT_STAT n), 11, 1⟩
def CH_PORT_STAT_CONT_READ (n : Nat) : Fld := ⟨(CH_PORT_STAT n), 10, 1⟩
def CH_PORT_STAT_SUSPENDED (n : Nat) : Fld := ⟨(CH_PORT_STAT n), 9, 1⟩
def CH_PORT_STAT_WIP (n : Nat) : Fld := ⟨(CH_PORT_STAT n), 8, 1⟩
def CH_PORT_STAT_WEL (n : Nat) : Fld := ⟨(CH_PORT_STAT n), 7, 1⟩
def CH_PORT_STAT_ADDR4 (n : Nat) : Fld := ⟨(CH_PORT_STAT n), 6, 1⟩
def CH_PORT_STAT_OCTAL_8D (n : Nat) : Fld := ⟨(CH_PORT_STAT n), 5, 1⟩
def CH_PORT_STAT_QPI (n : Nat) : Fld := ⟨(CH_PORT_STAT n), 4, 1⟩
/-- CHn_PORT_EVT (07_channel_ports.md). -/
def CH_PORT_EVT (n : Nat) : Nat := 0x4020000C + 0x400 * n
def CH_PORT_EVT_SAT (n : Nat) : Fld := ⟨(CH_PORT_EVT n), 10, 1⟩
def CH_PORT_EVT_PROT_ERR (n : Nat) : Fld := ⟨(CH_PORT_EVT n), 9, 1⟩
def CH_PORT_EVT_HOST_RESET (n : Nat) : Fld := ⟨(CH_PORT_EVT n), 8, 1⟩
def CH_PORT_EVT_FE_SWITCH (n : Nat) : Fld := ⟨(CH_PORT_EVT n), 7, 1⟩
def CH_PORT_EVT_CS_ABORT (n : Nat) : Fld := ⟨(CH_PORT_EVT n), 6, 1⟩
def CH_PORT_EVT_SHORT_WAIT (n : Nat) : Fld := ⟨(CH_PORT_EVT n), 5, 1⟩
def CH_PORT_EVT_LATE (n : Nat) : Fld := ⟨(CH_PORT_EVT n), 4, 1⟩
def CH_PORT_EVT_DISAGREE (n : Nat) : Fld := ⟨(CH_PORT_EVT n), 3, 1⟩
def CH_PORT_EVT_POISON (n : Nat) : Fld := ⟨(CH_PORT_EVT n), 2, 1⟩
def CH_PORT_EVT_WRITE_DONE (n : Nat) : Fld := ⟨(CH_PORT_EVT n), 1, 1⟩
def CH_PORT_EVT_ALERT (n : Nat) : Fld := ⟨(CH_PORT_EVT n), 0, 1⟩
/-- CHn_PORT_IRQ_EN (07_channel_ports.md). -/
def CH_PORT_IRQ_EN (n : Nat) : Nat := 0x40200010 + 0x400 * n
def CH_PORT_IRQ_EN_SAT (n : Nat) : Fld := ⟨(CH_PORT_IRQ_EN n), 10, 1⟩
def CH_PORT_IRQ_EN_PROT_ERR (n : Nat) : Fld := ⟨(CH_PORT_IRQ_EN n), 9, 1⟩
def CH_PORT_IRQ_EN_HOST_RESET (n : Nat) : Fld := ⟨(CH_PORT_IRQ_EN n), 8, 1⟩
def CH_PORT_IRQ_EN_FE_SWITCH (n : Nat) : Fld := ⟨(CH_PORT_IRQ_EN n), 7, 1⟩
def CH_PORT_IRQ_EN_CS_ABORT (n : Nat) : Fld := ⟨(CH_PORT_IRQ_EN n), 6, 1⟩
def CH_PORT_IRQ_EN_SHORT_WAIT (n : Nat) : Fld := ⟨(CH_PORT_IRQ_EN n), 5, 1⟩
def CH_PORT_IRQ_EN_LATE (n : Nat) : Fld := ⟨(CH_PORT_IRQ_EN n), 4, 1⟩
def CH_PORT_IRQ_EN_DISAGREE (n : Nat) : Fld := ⟨(CH_PORT_IRQ_EN n), 3, 1⟩
def CH_PORT_IRQ_EN_POISON (n : Nat) : Fld := ⟨(CH_PORT_IRQ_EN n), 2, 1⟩
def CH_PORT_IRQ_EN_WRITE_DONE (n : Nat) : Fld := ⟨(CH_PORT_IRQ_EN n), 1, 1⟩
def CH_PORT_IRQ_EN_ALERT (n : Nat) : Fld := ⟨(CH_PORT_IRQ_EN n), 0, 1⟩
/-- CHn_ALERT_CTL (07_channel_ports.md). -/
def CH_ALERT_CTL (n : Nat) : Nat := 0x40200014 + 0x400 * n
def CH_ALERT_CTL_CAUSE (n : Nat) : Fld := ⟨(CH_ALERT_CTL n), 8, 8⟩
def CH_ALERT_CTL_CLEAR (n : Nat) : Fld := ⟨(CH_ALERT_CTL n), 0, 1⟩
/-- CHn_ESPI_STAT (07_channel_ports.md). -/
def CH_ESPI_STAT (n : Nat) : Nat := 0x40200018 + 0x400 * n
def CH_ESPI_STAT_OUTSTANDING (n : Nat) : Fld := ⟨(CH_ESPI_STAT n), 8, 8⟩
def CH_ESPI_STAT_FREQ (n : Nat) : Fld := ⟨(CH_ESPI_STAT n), 5, 3⟩
def CH_ESPI_STAT_IO (n : Nat) : Fld := ⟨(CH_ESPI_STAT n), 3, 2⟩
def CH_ESPI_STAT_ALERT_PIN (n : Nat) : Fld := ⟨(CH_ESPI_STAT n), 2, 1⟩
def CH_ESPI_STAT_OOB_EN (n : Nat) : Fld := ⟨(CH_ESPI_STAT n), 1, 1⟩
def CH_ESPI_STAT_FLASH_EN (n : Nat) : Fld := ⟨(CH_ESPI_STAT n), 0, 1⟩
/-- CHn_RDBYTES_LO (07_channel_ports.md). -/
def CH_RDBYTES_LO (n : Nat) : Nat := 0x40200020 + 0x400 * n
def CH_RDBYTES_LO_COUNT_LO (n : Nat) : Fld := ⟨(CH_RDBYTES_LO n), 0, 32⟩
/-- CHn_RDBYTES_HI (07_channel_ports.md). -/
def CH_RDBYTES_HI (n : Nat) : Nat := 0x40200024 + 0x400 * n
def CH_RDBYTES_HI_SAT (n : Nat) : Fld := ⟨(CH_RDBYTES_HI n), 31, 1⟩
def CH_RDBYTES_HI_COUNT_HI (n : Nat) : Fld := ⟨(CH_RDBYTES_HI n), 0, 16⟩
/-- CHn_POISON_LO (07_channel_ports.md). -/
def CH_POISON_LO (n : Nat) : Nat := 0x40200028 + 0x400 * n
def CH_POISON_LO_COUNT_LO (n : Nat) : Fld := ⟨(CH_POISON_LO n), 0, 32⟩
/-- CHn_POISON_HI (07_channel_ports.md). -/
def CH_POISON_HI (n : Nat) : Nat := 0x4020002C + 0x400 * n
def CH_POISON_HI_SAT (n : Nat) : Fld := ⟨(CH_POISON_HI n), 31, 1⟩
def CH_POISON_HI_COUNT_HI (n : Nat) : Fld := ⟨(CH_POISON_HI n), 0, 16⟩
/-- CHn_DISAGREE_LO (07_channel_ports.md). -/
def CH_DISAGREE_LO (n : Nat) : Nat := 0x40200030 + 0x400 * n
def CH_DISAGREE_LO_COUNT_LO (n : Nat) : Fld := ⟨(CH_DISAGREE_LO n), 0, 32⟩
/-- CHn_DISAGREE_HI (07_channel_ports.md). -/
def CH_DISAGREE_HI (n : Nat) : Nat := 0x40200034 + 0x400 * n
def CH_DISAGREE_HI_SAT (n : Nat) : Fld := ⟨(CH_DISAGREE_HI n), 31, 1⟩
def CH_DISAGREE_HI_COUNT_HI (n : Nat) : Fld := ⟨(CH_DISAGREE_HI n), 0, 16⟩
/-- CHn_LATE_LO (07_channel_ports.md). -/
def CH_LATE_LO (n : Nat) : Nat := 0x40200038 + 0x400 * n
def CH_LATE_LO_COUNT_LO (n : Nat) : Fld := ⟨(CH_LATE_LO n), 0, 32⟩
/-- CHn_LATE_HI (07_channel_ports.md). -/
def CH_LATE_HI (n : Nat) : Nat := 0x4020003C + 0x400 * n
def CH_LATE_HI_SAT (n : Nat) : Fld := ⟨(CH_LATE_HI n), 31, 1⟩
def CH_LATE_HI_COUNT_HI (n : Nat) : Fld := ⟨(CH_LATE_HI n), 0, 16⟩
/-- CHn_TR_STAT (08_trellis_channel_programs.md). -/
def CH_TR_STAT (n : Nat) : Nat := 0x40200100 + 0x400 * n
def CH_TR_STAT_REGIONS (n : Nat) : Fld := ⟨(CH_TR_STAT n), 16, 8⟩
def CH_TR_STAT_PEND (n : Nat) : Fld := ⟨(CH_TR_STAT n), 8, 3⟩
def CH_TR_STAT_ACTIVE_VALID (n : Nat) : Fld := ⟨(CH_TR_STAT n), 7, 1⟩
def CH_TR_STAT_ACTIVE_BANK (n : Nat) : Fld := ⟨(CH_TR_STAT n), 6, 1⟩
/-- CHn_TR_CMD (08_trellis_channel_programs.md). -/
def CH_TR_CMD (n : Nat) : Nat := 0x40200104 + 0x400 * n
def CH_TR_CMD_LEN (n : Nat) : Fld := ⟨(CH_TR_CMD n), 16, 13⟩
def CH_TR_CMD_OP (n : Nat) : Fld := ⟨(CH_TR_CMD n), 0, 8⟩
/-- CHn_TR_CMD_GEN (08_trellis_channel_programs.md). -/
def CH_TR_CMD_GEN (n : Nat) : Nat := 0x40200108 + 0x400 * n
def CH_TR_CMD_GEN_GEN (n : Nat) : Fld := ⟨(CH_TR_CMD_GEN n), 0, 32⟩
/-- CHn_TR_CMD_ADDR (08_trellis_channel_programs.md). -/
def CH_TR_CMD_ADDR (n : Nat) : Nat := 0x4020010C + 0x400 * n
def CH_TR_CMD_ADDR_ADDR (n : Nat) : Fld := ⟨(CH_TR_CMD_ADDR n), 0, 32⟩
/-- CHn_TR_CMD_STAT (08_trellis_channel_programs.md). -/
def CH_TR_CMD_STAT (n : Nat) : Nat := 0x40200110 + 0x400 * n
def CH_TR_CMD_STAT_RESULT (n : Nat) : Fld := ⟨(CH_TR_CMD_STAT n), 16, 16⟩
def CH_TR_CMD_STAT_LAST_OP (n : Nat) : Fld := ⟨(CH_TR_CMD_STAT n), 8, 8⟩
def CH_TR_CMD_STAT_LAST_STATUS (n : Nat) : Fld := ⟨(CH_TR_CMD_STAT n), 0, 8⟩
/-- CHn_TR_EVT (08_trellis_channel_programs.md). -/
def CH_TR_EVT (n : Nat) : Nat := 0x40200114 + 0x400 * n
def CH_TR_EVT_SAT (n : Nat) : Fld := ⟨(CH_TR_EVT n), 9, 1⟩
def CH_TR_EVT_INVALID_OP (n : Nat) : Fld := ⟨(CH_TR_EVT n), 8, 1⟩
def CH_TR_EVT_DECIDE_MISMATCH (n : Nat) : Fld := ⟨(CH_TR_EVT n), 7, 1⟩
def CH_TR_EVT_UNMAPPED (n : Nat) : Fld := ⟨(CH_TR_EVT n), 6, 1⟩
def CH_TR_EVT_PROG_CONFLICT (n : Nat) : Fld := ⟨(CH_TR_EVT n), 5, 1⟩
def CH_TR_EVT_CAPSULE_REFUSED (n : Nat) : Fld := ⟨(CH_TR_EVT n), 4, 1⟩
def CH_TR_EVT_CAPSULE (n : Nat) : Fld := ⟨(CH_TR_EVT n), 3, 1⟩
def CH_TR_EVT_DENIED (n : Nat) : Fld := ⟨(CH_TR_EVT n), 2, 1⟩
def CH_TR_EVT_SWAPPED (n : Nat) : Fld := ⟨(CH_TR_EVT n), 1, 1⟩
def CH_TR_EVT_CMD_DONE (n : Nat) : Fld := ⟨(CH_TR_EVT n), 0, 1⟩
/-- CHn_TR_IRQ_EN (08_trellis_channel_programs.md). -/
def CH_TR_IRQ_EN (n : Nat) : Nat := 0x40200118 + 0x400 * n
def CH_TR_IRQ_EN_SAT (n : Nat) : Fld := ⟨(CH_TR_IRQ_EN n), 9, 1⟩
def CH_TR_IRQ_EN_INVALID_OP (n : Nat) : Fld := ⟨(CH_TR_IRQ_EN n), 8, 1⟩
def CH_TR_IRQ_EN_DECIDE_MISMATCH (n : Nat) : Fld := ⟨(CH_TR_IRQ_EN n), 7, 1⟩
def CH_TR_IRQ_EN_UNMAPPED (n : Nat) : Fld := ⟨(CH_TR_IRQ_EN n), 6, 1⟩
def CH_TR_IRQ_EN_PROG_CONFLICT (n : Nat) : Fld := ⟨(CH_TR_IRQ_EN n), 5, 1⟩
def CH_TR_IRQ_EN_CAPSULE_REFUSED (n : Nat) : Fld := ⟨(CH_TR_IRQ_EN n), 4, 1⟩
def CH_TR_IRQ_EN_CAPSULE (n : Nat) : Fld := ⟨(CH_TR_IRQ_EN n), 3, 1⟩
def CH_TR_IRQ_EN_DENIED (n : Nat) : Fld := ⟨(CH_TR_IRQ_EN n), 2, 1⟩
def CH_TR_IRQ_EN_SWAPPED (n : Nat) : Fld := ⟨(CH_TR_IRQ_EN n), 1, 1⟩
def CH_TR_IRQ_EN_CMD_DONE (n : Nat) : Fld := ⟨(CH_TR_IRQ_EN n), 0, 1⟩
/-- CHn_TR_CAP (08_trellis_channel_programs.md). -/
def CH_TR_CAP (n : Nat) : Nat := 0x4020011C + 0x400 * n
def CH_TR_CAP_HANDLE (n : Nat) : Fld := ⟨(CH_TR_CAP n), 24, 8⟩
def CH_TR_CAP_REGION (n : Nat) : Fld := ⟨(CH_TR_CAP n), 18, 6⟩
def CH_TR_CAP_BLOCKS (n : Nat) : Fld := ⟨(CH_TR_CAP n), 0, 18⟩
/-- CHn_TR_LASTDEC (08_trellis_channel_programs.md). -/
def CH_TR_LASTDEC (n : Nat) : Nat := 0x40200120 + 0x400 * n
def CH_TR_LASTDEC_OPCODE (n : Nat) : Fld := ⟨(CH_TR_LASTDEC n), 24, 8⟩
def CH_TR_LASTDEC_CLASS (n : Nat) : Fld := ⟨(CH_TR_LASTDEC n), 20, 4⟩
def CH_TR_LASTDEC_ACTION (n : Nat) : Fld := ⟨(CH_TR_LASTDEC n), 16, 4⟩
def CH_TR_LASTDEC_REGION (n : Nat) : Fld := ⟨(CH_TR_LASTDEC n), 8, 8⟩
/-- CHn_TR_SREG (08_trellis_channel_programs.md). -/
def CH_TR_SREG (n : Nat) : Nat := 0x40200124 + 0x400 * n
def CH_TR_SREG_REG3 (n : Nat) : Fld := ⟨(CH_TR_SREG n), 24, 8⟩
def CH_TR_SREG_REG2 (n : Nat) : Fld := ⟨(CH_TR_SREG n), 16, 8⟩
def CH_TR_SREG_REG1 (n : Nat) : Fld := ⟨(CH_TR_SREG n), 8, 8⟩
def CH_TR_SREG_REG0 (n : Nat) : Fld := ⟨(CH_TR_SREG n), 0, 8⟩
/-- CHn_TR_MEASi (08_trellis_channel_programs.md). -/
def CH_TR_MEAS (n : Nat) (i : Nat) : Nat := 0x40200130 + 0x400 * n + 4 * i
def CH_TR_MEAS_DIGEST (n : Nat) (i : Nat) : Fld := ⟨(CH_TR_MEAS n i), 0, 32⟩
/-- CHn_TR_PMEASi (08_trellis_channel_programs.md). -/
def CH_TR_PMEAS (n : Nat) (i : Nat) : Nat := 0x40200160 + 0x400 * n + 4 * i
def CH_TR_PMEAS_DIGEST (n : Nat) (i : Nat) : Fld := ⟨(CH_TR_PMEAS n i), 0, 32⟩
/-- CHn_TR_DENY_LO (08_trellis_channel_programs.md). -/
def CH_TR_DENY_LO (n : Nat) : Nat := 0x40200190 + 0x400 * n
def CH_TR_DENY_LO_COUNT_LO (n : Nat) : Fld := ⟨(CH_TR_DENY_LO n), 0, 32⟩
/-- CHn_TR_DENY_HI (08_trellis_channel_programs.md). -/
def CH_TR_DENY_HI (n : Nat) : Nat := 0x40200194 + 0x400 * n
def CH_TR_DENY_HI_SAT (n : Nat) : Fld := ⟨(CH_TR_DENY_HI n), 31, 1⟩
def CH_TR_DENY_HI_COUNT_HI (n : Nat) : Fld := ⟨(CH_TR_DENY_HI n), 0, 16⟩
/-- CHn_TR_WT_LO (08_trellis_channel_programs.md). -/
def CH_TR_WT_LO (n : Nat) : Nat := 0x40200198 + 0x400 * n
def CH_TR_WT_LO_COUNT_LO (n : Nat) : Fld := ⟨(CH_TR_WT_LO n), 0, 32⟩
/-- CHn_TR_WT_HI (08_trellis_channel_programs.md). -/
def CH_TR_WT_HI (n : Nat) : Nat := 0x4020019C + 0x400 * n
def CH_TR_WT_HI_SAT (n : Nat) : Fld := ⟨(CH_TR_WT_HI n), 31, 1⟩
def CH_TR_WT_HI_COUNT_HI (n : Nat) : Fld := ⟨(CH_TR_WT_HI n), 0, 16⟩
/-- CHn_TR_INV_LO (08_trellis_channel_programs.md). -/
def CH_TR_INV_LO (n : Nat) : Nat := 0x402001A0 + 0x400 * n
def CH_TR_INV_LO_COUNT_LO (n : Nat) : Fld := ⟨(CH_TR_INV_LO n), 0, 32⟩
/-- CHn_TR_INV_HI (08_trellis_channel_programs.md). -/
def CH_TR_INV_HI (n : Nat) : Nat := 0x402001A4 + 0x400 * n
def CH_TR_INV_HI_SAT (n : Nat) : Fld := ⟨(CH_TR_INV_HI n), 31, 1⟩
def CH_TR_INV_HI_COUNT_HI (n : Nat) : Fld := ⟨(CH_TR_INV_HI n), 0, 16⟩

/-! ### JOURNAL: base 0x40300000 -/
/-- JOURNAL_CTRL (18_contention_faults_abort.md). -/
def JOURNAL_CTRL : Nat := 0x40300000
def JOURNAL_CTRL_LOCK_VIOL : Fld := ⟨JOURNAL_CTRL, 1, 1⟩
def JOURNAL_CTRL_LOCK : Fld := ⟨JOURNAL_CTRL, 0, 1⟩
/-- JOURNAL_STAT (18_contention_faults_abort.md). -/
def JOURNAL_STAT : Nat := 0x40300004
def JOURNAL_STAT_FIFO : Fld := ⟨JOURNAL_STAT, 16, 9⟩
def JOURNAL_STAT_LOST_PEND : Fld := ⟨JOURNAL_STAT, 4, 1⟩
def JOURNAL_STAT_OVF_FULL : Fld := ⟨JOURNAL_STAT, 3, 1⟩
def JOURNAL_STAT_LOG_FAIL : Fld := ⟨JOURNAL_STAT, 2, 1⟩
def JOURNAL_STAT_FLUSH_BUSY : Fld := ⟨JOURNAL_STAT, 1, 1⟩
def JOURNAL_STAT_STARTED : Fld := ⟨JOURNAL_STAT, 0, 1⟩
/-- JOURNAL_CFG (18_contention_faults_abort.md). -/
def JOURNAL_CFG : Nat := 0x40300008
def JOURNAL_CFG_LOG_EN : Fld := ⟨JOURNAL_CFG, 16, 1⟩
def JOURNAL_CFG_FLUSH_MS : Fld := ⟨JOURNAL_CFG, 0, 16⟩
/-- JOURNAL_CMD (18_contention_faults_abort.md). -/
def JOURNAL_CMD : Nat := 0x4030000C
def JOURNAL_CMD_ARG : Fld := ⟨JOURNAL_CMD, 16, 16⟩
def JOURNAL_CMD_OP : Fld := ⟨JOURNAL_CMD, 0, 8⟩
/-- JOURNAL_CMD_STAT (18_contention_faults_abort.md). -/
def JOURNAL_CMD_STAT : Nat := 0x40300010
def JOURNAL_CMD_STAT_RESULT : Fld := ⟨JOURNAL_CMD_STAT, 16, 16⟩
def JOURNAL_CMD_STAT_LAST_OP : Fld := ⟨JOURNAL_CMD_STAT, 8, 8⟩
def JOURNAL_CMD_STAT_LAST_STATUS : Fld := ⟨JOURNAL_CMD_STAT, 0, 8⟩
/-- JOURNAL_EVT (18_contention_faults_abort.md). -/
def JOURNAL_EVT : Nat := 0x40300014
def JOURNAL_EVT_SAT : Fld := ⟨JOURNAL_EVT, 5, 1⟩
def JOURNAL_EVT_LOG_FAIL : Fld := ⟨JOURNAL_EVT, 4, 1⟩
def JOURNAL_EVT_LOST : Fld := ⟨JOURNAL_EVT, 3, 1⟩
def JOURNAL_EVT_HALF : Fld := ⟨JOURNAL_EVT, 2, 1⟩
def JOURNAL_EVT_FLUSHED : Fld := ⟨JOURNAL_EVT, 1, 1⟩
def JOURNAL_EVT_CMD_DONE : Fld := ⟨JOURNAL_EVT, 0, 1⟩
/-- JOURNAL_IRQ_EN (18_contention_faults_abort.md). -/
def JOURNAL_IRQ_EN : Nat := 0x40300018
def JOURNAL_IRQ_EN_SAT : Fld := ⟨JOURNAL_IRQ_EN, 5, 1⟩
def JOURNAL_IRQ_EN_LOG_FAIL : Fld := ⟨JOURNAL_IRQ_EN, 4, 1⟩
def JOURNAL_IRQ_EN_LOST : Fld := ⟨JOURNAL_IRQ_EN, 3, 1⟩
def JOURNAL_IRQ_EN_HALF : Fld := ⟨JOURNAL_IRQ_EN, 2, 1⟩
def JOURNAL_IRQ_EN_FLUSHED : Fld := ⟨JOURNAL_IRQ_EN, 1, 1⟩
def JOURNAL_IRQ_EN_CMD_DONE : Fld := ⟨JOURNAL_IRQ_EN, 0, 1⟩
/-- JOURNAL_SEQ (18_contention_faults_abort.md). -/
def JOURNAL_SEQ : Nat := 0x4030001C
def JOURNAL_SEQ_SEQ : Fld := ⟨JOURNAL_SEQ, 0, 32⟩
/-- JOURNAL_FLUSHED (18_contention_faults_abort.md). -/
def JOURNAL_FLUSHED : Nat := 0x40300020
def JOURNAL_FLUSHED_SEQ : Fld := ⟨JOURNAL_FLUSHED, 0, 32⟩
/-- JOURNAL_OLDEST (18_contention_faults_abort.md). -/
def JOURNAL_OLDEST : Nat := 0x40300024
def JOURNAL_OLDEST_SEQ : Fld := ⟨JOURNAL_OLDEST, 0, 32⟩
/-- JOURNAL_RD_SEL (18_contention_faults_abort.md). -/
def JOURNAL_RD_SEL : Nat := 0x40300028
def JOURNAL_RD_SEL_SEQ : Fld := ⟨JOURNAL_RD_SEL, 0, 32⟩
/-- JOURNAL_RD_DATAj (18_contention_faults_abort.md). -/
def JOURNAL_RD_DATA (j : Nat) : Nat := 0x40300040 + 4 * j
def JOURNAL_RD_DATA_DATA (j : Nat) : Fld := ⟨(JOURNAL_RD_DATA j), 0, 32⟩
/-- JOURNAL_FW_DATAj (18_contention_faults_abort.md). -/
def JOURNAL_FW_DATA (j : Nat) : Nat := 0x40300080 + 4 * j
def JOURNAL_FW_DATA_DATA (j : Nat) : Fld := ⟨(JOURNAL_FW_DATA j), 0, 32⟩
/-- JOURNAL_RECORDS_LO (18_contention_faults_abort.md). -/
def JOURNAL_RECORDS_LO : Nat := 0x403000A0
def JOURNAL_RECORDS_LO_COUNT_LO : Fld := ⟨JOURNAL_RECORDS_LO, 0, 32⟩
/-- JOURNAL_RECORDS_HI (18_contention_faults_abort.md). -/
def JOURNAL_RECORDS_HI : Nat := 0x403000A4
def JOURNAL_RECORDS_HI_SAT : Fld := ⟨JOURNAL_RECORDS_HI, 31, 1⟩
def JOURNAL_RECORDS_HI_COUNT_HI : Fld := ⟨JOURNAL_RECORDS_HI, 0, 16⟩
/-- JOURNAL_LOST_LO (18_contention_faults_abort.md). -/
def JOURNAL_LOST_LO : Nat := 0x403000A8
def JOURNAL_LOST_LO_COUNT_LO : Fld := ⟨JOURNAL_LOST_LO, 0, 32⟩
/-- JOURNAL_LOST_HI (18_contention_faults_abort.md). -/
def JOURNAL_LOST_HI : Nat := 0x403000AC
def JOURNAL_LOST_HI_SAT : Fld := ⟨JOURNAL_LOST_HI, 31, 1⟩
def JOURNAL_LOST_HI_COUNT_HI : Fld := ⟨JOURNAL_LOST_HI, 0, 16⟩
/-- JOURNAL_LOSTPk (18_contention_faults_abort.md). -/
def JOURNAL_LOSTP (k : Nat) : Nat := 0x403000C0 + 4 * k
def JOURNAL_LOSTP_ODD (k : Nat) : Fld := ⟨(JOURNAL_LOSTP k), 16, 16⟩
def JOURNAL_LOSTP_EVEN (k : Nat) : Fld := ⟨(JOURNAL_LOSTP k), 0, 16⟩

/-! ### DEBUG: base 0x40400000 -/
/-- DEBUG_STAT (16_life_cycle_and_debug.md). -/
def DEBUG_STAT : Nat := 0x40400000
def DEBUG_STAT_TOKEN_STATUS : Fld := ⟨DEBUG_STAT, 24, 8⟩
def DEBUG_STAT_CHECK_IDX : Fld := ⟨DEBUG_STAT, 20, 4⟩
def DEBUG_STAT_SCAN : Fld := ⟨DEBUG_STAT, 19, 1⟩
def DEBUG_STAT_HALTED : Fld := ⟨DEBUG_STAT, 18, 1⟩
def DEBUG_STAT_LEVEL : Fld := ⟨DEBUG_STAT, 16, 2⟩
def DEBUG_STAT_NONCE_VALID : Fld := ⟨DEBUG_STAT, 15, 1⟩
def DEBUG_STAT_TOKEN_LEN : Fld := ⟨DEBUG_STAT, 0, 14⟩
/-- DEBUG_CMD (16_life_cycle_and_debug.md). -/
def DEBUG_CMD : Nat := 0x40400004
def DEBUG_CMD_TOKEN_CLEAR : Fld := ⟨DEBUG_CMD, 2, 1⟩
def DEBUG_CMD_HALT_REQ : Fld := ⟨DEBUG_CMD, 1, 1⟩
def DEBUG_CMD_NONCE_REQ : Fld := ⟨DEBUG_CMD, 0, 1⟩
/-- DEBUG_NONCE_LO (16_life_cycle_and_debug.md). -/
def DEBUG_NONCE_LO : Nat := 0x40400008
def DEBUG_NONCE_LO_NONCE : Fld := ⟨DEBUG_NONCE_LO, 0, 32⟩
/-- DEBUG_NONCE_HI (16_life_cycle_and_debug.md). -/
def DEBUG_NONCE_HI : Nat := 0x4040000C
def DEBUG_NONCE_HI_NONCE : Fld := ⟨DEBUG_NONCE_HI, 0, 32⟩

/-! ### TN: base 0x100000000 -/
/-- TN_REQ (14_kiosk_transports_attestation.md). -/
def TN_REQ (n : Nat) : Nat := 0x100000000 + 32 * n
def TN_REQ_OP (n : Nat) : Fld := ⟨(TN_REQ n), 24, 8⟩
def TN_REQ_DOM (n : Nat) : Fld := ⟨(TN_REQ n), 16, 8⟩
def TN_REQ_ARG (n : Nat) : Fld := ⟨(TN_REQ n), 0, 16⟩
/-- TN_RSP (14_kiosk_transports_attestation.md). -/
def TN_RSP (n : Nat) : Nat := 0x100000004 + 32 * n
def TN_RSP_STATUS (n : Nat) : Fld := ⟨(TN_RSP n), 24, 8⟩
def TN_RSP_OP (n : Nat) : Fld := ⟨(TN_RSP n), 16, 8⟩
def TN_RSP_DATA (n : Nat) : Fld := ⟨(TN_RSP n), 0, 16⟩
/-- TN_GEN (14_kiosk_transports_attestation.md). -/
def TN_GEN (n : Nat) : Nat := 0x100000008 + 32 * n
def TN_GEN_GEN (n : Nat) : Fld := ⟨(TN_GEN n), 0, 32⟩
/-- TN_RGEN (14_kiosk_transports_attestation.md). -/
def TN_RGEN (n : Nat) : Nat := 0x10000000C + 32 * n
def TN_RGEN_GEN (n : Nat) : Fld := ⟨(TN_RGEN n), 0, 32⟩
/-- TN_STAT (14_kiosk_transports_attestation.md). -/
def TN_STAT (n : Nat) : Nat := 0x100000010 + 32 * n
def TN_STAT_DB_OUT_PEND (n : Nat) : Fld := ⟨(TN_STAT n), 5, 1⟩
def TN_STAT_BOUND (n : Nat) : Fld := ⟨(TN_STAT n), 4, 1⟩
def TN_STAT_OVERRUN (n : Nat) : Fld := ⟨(TN_STAT n), 3, 1⟩
def TN_STAT_EMPTY (n : Nat) : Fld := ⟨(TN_STAT n), 2, 1⟩
def TN_STAT_RSP_FULL (n : Nat) : Fld := ⟨(TN_STAT n), 1, 1⟩
def TN_STAT_REQ_FULL (n : Nat) : Fld := ⟨(TN_STAT n), 0, 1⟩
/-- TN_IRQ_EN (14_kiosk_transports_attestation.md). -/
def TN_IRQ_EN (n : Nat) : Nat := 0x100000014 + 32 * n
def TN_IRQ_EN_DB_OUT_IE (n : Nat) : Fld := ⟨(TN_IRQ_EN n), 1, 1⟩
def TN_IRQ_EN_EMPTY_IE (n : Nat) : Fld := ⟨(TN_IRQ_EN n), 0, 1⟩
/-- TN_DB_IN (14_kiosk_transports_attestation.md). -/
def TN_DB_IN (n : Nat) : Nat := 0x100000018 + 32 * n
def TN_DB_IN_BITS (n : Nat) : Fld := ⟨(TN_DB_IN n), 0, 32⟩
/-- TN_DB_OUT (14_kiosk_transports_attestation.md). -/
def TN_DB_OUT (n : Nat) : Nat := 0x10000001C + 32 * n
def TN_DB_OUT_BITS (n : Nat) : Fld := ⟨(TN_DB_OUT n), 0, 32⟩

/-! ### The map -/

/-- Rows of the map: block SYSCTL. -/
def regsSYSCTL0 : List RegRow := [
  ⟨0x40000000, 1, 1, [⟨16, 16, .ro⟩, ⟨12, 4, .ro⟩, ⟨8, 4, .ro⟩, ⟨4, 4, .ro⟩, ⟨0, 4, .ro⟩]⟩,
  ⟨0x40000004, 1, 1, [⟨16, 8, .ro⟩, ⟨8, 8, .ro⟩, ⟨0, 3, .ro⟩]⟩,
  ⟨0x40000008, 1, 1, [⟨9, 1, .ro⟩, ⟨8, 1, .w1c⟩, ⟨6, 1, .ro⟩, ⟨5, 1, .ro⟩, ⟨4, 1, .ro⟩, ⟨3, 1, .ro⟩, ⟨2, 1, .ro⟩, ⟨1, 1, .ro⟩, ⟨0, 1, .ro⟩]⟩,
  ⟨0x4000000C, 1, 1, [⟨0, 32, .ro⟩]⟩,
  ⟨0x40000010, 1, 1, [⟨3, 1, .wo⟩, ⟨2, 1, .rwl⟩, ⟨1, 1, .rwl⟩, ⟨0, 1, .rwl⟩]⟩,
  ⟨0x40000014, 1, 1, [⟨5, 1, .ro⟩, ⟨4, 1, .ro⟩, ⟨3, 1, .ro⟩, ⟨2, 1, .ro⟩, ⟨1, 1, .ro⟩, ⟨0, 1, .ro⟩]⟩,
  ⟨0x40000018, 1, 1, [⟨5, 1, .w1c⟩, ⟨4, 1, .w1c⟩, ⟨3, 1, .w1c⟩, ⟨2, 1, .w1c⟩, ⟨1, 1, .w1c⟩, ⟨0, 1, .w1c⟩]⟩,
  ⟨0x40000020, 1, 1, [⟨24, 8, .ro⟩, ⟨16, 8, .ro⟩, ⟨15, 1, .ro⟩, ⟨14, 1, .ro⟩, ⟨13, 1, .ro⟩, ⟨8, 4, .ro⟩, ⟨4, 4, .ro⟩, ⟨0, 4, .ro⟩]⟩,
  ⟨0x40000024, 1, 1, [⟨8, 1, .w1c⟩, ⟨7, 1, .w1c⟩, ⟨6, 1, .w1c⟩, ⟨5, 1, .w1c⟩, ⟨4, 1, .w1c⟩, ⟨3, 1, .w1c⟩, ⟨2, 1, .w1c⟩, ⟨1, 1, .w1c⟩, ⟨0, 1, .w1c⟩]⟩,
  ⟨0x40000028, 1, 1, [⟨16, 8, .ro⟩, ⟨5, 1, .w1c⟩, ⟨4, 1, .ro⟩, ⟨2, 2, .ro⟩, ⟨0, 2, .ro⟩]⟩,
  ⟨0x4000002C, 1, 1, [⟨1, 1, .wo⟩, ⟨0, 1, .wo⟩]⟩,
  ⟨0x40000030, 1, 1, [⟨1, 1, .ro⟩, ⟨0, 1, .w1s⟩]⟩,
  ⟨0x40000040, 1, 1, [⟨0, 24, .ro⟩, ⟨24, 8, .ro⟩]⟩,
  ⟨0x40000044, 1, 1, [⟨14, 2, .ro⟩, ⟨12, 2, .ro⟩, ⟨0, 12, .ro⟩]⟩,
  ⟨0x40000048, 1, 1, [⟨0, 24, .ro⟩]⟩,
  ⟨0x4000004C, 1, 1, [⟨0, 24, .w1c⟩]⟩,
  ⟨0x40000050, 1, 1, [⟨3, 1, .ro⟩, ⟨2, 1, .ro⟩, ⟨1, 1, .ro⟩, ⟨0, 1, .ro⟩]⟩,
  ⟨0x40000060, 1, 1, [⟨24, 8, .ro⟩, ⟨21, 1, .ro⟩, ⟨20, 1, .ro⟩, ⟨19, 1, .ro⟩, ⟨18, 1, .ro⟩, ⟨17, 1, .ro⟩, ⟨16, 1, .ro⟩, ⟨8, 8, .ro⟩, ⟨0, 8, .ro⟩]⟩,
  ⟨0x40000064, 1, 1, [⟨16, 16, .wo⟩, ⟨2, 1, .wo⟩, ⟨1, 1, .wo⟩, ⟨0, 1, .wo⟩]⟩,
  ⟨0x40000068, 1, 1, [⟨16, 16, .ro⟩, ⟨0, 16, .ro⟩]⟩,
  ⟨0x4000006C, 1, 1, [⟨24, 8, .ro⟩, ⟨17, 1, .wo⟩, ⟨16, 1, .wo⟩, ⟨8, 4, .ro⟩, ⟨4, 4, .ro⟩, ⟨2, 2, .ro⟩, ⟨0, 2, .ro⟩]⟩,
  ⟨0x40000070, 1, 1, [⟨0, 32, .ro⟩]⟩,
  ⟨0x40000074, 1, 1, [⟨0, 32, .ro⟩]⟩,
  ⟨0x40000078, 1, 1, [⟨8, 8, .ro⟩, ⟨0, 8, .ro⟩]⟩,
  ⟨0x40000080, 1, 1, [⟨16, 16, .ro⟩, ⟨8, 1, .ro⟩, ⟨0, 8, .ro⟩]⟩]
/-- Rows of the map: block SYSCTL. -/
def regsSYSCTL1 : List RegRow := [
  ⟨0x40000090, 1, 1, [⟨24, 8, .ro⟩, ⟨16, 8, .ro⟩, ⟨8, 8, .rwl⟩, ⟨2, 1, .rw⟩, ⟨1, 1, .w1c⟩, ⟨0, 1, .ro⟩]⟩,
  ⟨0x400000A0, 1, 1, [⟨16, 1, .rwl⟩, ⟨0, 16, .rwl⟩]⟩,
  ⟨0x400000A4, 1, 1, [⟨16, 16, .wo⟩, ⟨0, 16, .ro⟩]⟩,
  ⟨0x40000100, 4, 12, [⟨0, 32, .ro⟩]⟩,
  ⟨0x40000130, 4, 12, [⟨0, 32, .ro⟩]⟩]
/-- Rows of the map: block LCS. -/
def regsLCS : List RegRow := [
  ⟨0x40010000, 1, 1, [⟨9, 1, .ro⟩, ⟨8, 1, .ro⟩, ⟨4, 3, .ro⟩, ⟨3, 1, .ro⟩, ⟨0, 3, .ro⟩]⟩,
  ⟨0x40010004, 1, 1, [⟨0, 3, .wo⟩]⟩,
  ⟨0x40010008, 1, 1, [⟨16, 16, .wo⟩, ⟨0, 1, .wo⟩]⟩,
  ⟨0x4001000C, 1, 1, [⟨16, 1, .ro⟩, ⟨8, 3, .ro⟩, ⟨0, 8, .ro⟩]⟩,
  ⟨0x40010010, 1, 1, [⟨0, 32, .ro⟩]⟩,
  ⟨0x40010014, 1, 1, [⟨0, 32, .ro⟩]⟩,
  ⟨0x40010018, 1, 1, [⟨2, 1, .w1c⟩, ⟨1, 1, .w1c⟩, ⟨0, 1, .w1c⟩]⟩,
  ⟨0x4001001C, 1, 1, [⟨2, 1, .rw⟩, ⟨1, 1, .rw⟩, ⟨0, 1, .rw⟩]⟩]
/-- Rows of the map: block KEYS. -/
def regsKEYS : List RegRow := [
  ⟨0x40020000, 1, 1, [⟨24, 8, .ro⟩, ⟨6, 1, .ro⟩, ⟨5, 1, .ro⟩, ⟨4, 1, .ro⟩, ⟨3, 1, .ro⟩, ⟨2, 1, .ro⟩, ⟨1, 1, .ro⟩, ⟨0, 1, .ro⟩]⟩,
  ⟨0x40020010, 1, 1, [⟨24, 8, .wo⟩, ⟨16, 8, .wo⟩, ⟨8, 8, .wo⟩, ⟨0, 8, .wo⟩]⟩,
  ⟨0x40020014, 1, 1, [⟨0, 32, .rw⟩]⟩,
  ⟨0x40020018, 1, 1, [⟨0, 32, .rw⟩]⟩,
  ⟨0x4002001C, 1, 1, [⟨0, 32, .rw⟩]⟩,
  ⟨0x40020020, 1, 1, [⟨0, 32, .rw⟩]⟩,
  ⟨0x40020024, 1, 1, [⟨16, 16, .ro⟩, ⟨8, 8, .ro⟩, ⟨0, 8, .ro⟩]⟩,
  ⟨0x40020028, 1, 1, [⟨5, 1, .w1c⟩, ⟨4, 1, .w1c⟩, ⟨3, 1, .w1c⟩, ⟨2, 1, .w1c⟩, ⟨1, 1, .w1c⟩, ⟨0, 1, .w1c⟩]⟩,
  ⟨0x4002002C, 1, 1, [⟨5, 1, .rw⟩, ⟨4, 1, .rw⟩, ⟨3, 1, .rw⟩, ⟨2, 1, .rw⟩, ⟨1, 1, .rw⟩, ⟨0, 1, .rw⟩]⟩,
  ⟨0x40020030, 1, 1, [⟨0, 6, .rw⟩]⟩,
  ⟨0x40020034, 1, 1, [⟨12, 4, .ro⟩, ⟨11, 1, .ro⟩, ⟨10, 1, .ro⟩, ⟨9, 1, .ro⟩, ⟨8, 1, .ro⟩, ⟨0, 3, .ro⟩]⟩,
  ⟨0x40020038, 1, 1, [⟨0, 32, .ro⟩]⟩,
  ⟨0x4002003C, 1, 1, [⟨0, 32, .ro⟩]⟩,
  ⟨0x40020040, 1, 1, [⟨24, 8, .ro⟩, ⟨16, 8, .ro⟩, ⟨8, 8, .ro⟩, ⟨0, 8, .ro⟩]⟩,
  ⟨0x40020048, 1, 1, [⟨0, 32, .ro⟩]⟩,
  ⟨0x4002004C, 1, 1, [⟨0, 32, .ro⟩]⟩]
/-- Rows of the map: block ENG. -/
def regsENG : List RegRow := [
  ⟨0x40030000, 0x10000, 2, [⟨12, 1, .ro⟩, ⟨8, 4, .ro⟩, ⟨4, 4, .ro⟩, ⟨0, 4, .ro⟩]⟩,
  ⟨0x40030004, 0x10000, 2, [⟨0, 32, .rw⟩]⟩,
  ⟨0x40030008, 0x10000, 2, [⟨8, 8, .wo⟩, ⟨0, 8, .wo⟩]⟩,
  ⟨0x4003000C, 0x10000, 2, [⟨16, 16, .ro⟩, ⟨8, 4, .ro⟩, ⟨0, 8, .ro⟩]⟩,
  ⟨0x40030010, 0x10000, 2, [⟨16, 4, .ro⟩, ⟨8, 8, .ro⟩, ⟨0, 8, .ro⟩]⟩,
  ⟨0x40030014, 0x10000, 2, [⟨6, 1, .w1c⟩, ⟨5, 1, .w1c⟩, ⟨4, 1, .w1c⟩, ⟨0, 4, .w1c⟩]⟩,
  ⟨0x40030018, 0x10000, 2, [⟨6, 1, .rw⟩, ⟨5, 1, .rw⟩, ⟨4, 1, .rw⟩, ⟨0, 4, .rw⟩]⟩,
  ⟨0x40030020, 0x10000, 2, [⟨0, 32, .ro⟩]⟩,
  ⟨0x40030024, 0x10000, 2, [⟨31, 1, .w1c⟩, ⟨0, 16, .ro⟩]⟩,
  ⟨0x40030028, 0x10000, 2, [⟨0, 32, .ro⟩]⟩,
  ⟨0x4003002C, 0x10000, 2, [⟨31, 1, .w1c⟩, ⟨0, 16, .ro⟩]⟩]
/-- Rows of the map: block RNG. -/
def regsRNG : List RegRow := [
  ⟨0x40050000, 1, 1, [⟨1, 1, .ro⟩, ⟨0, 1, .w1s⟩]⟩,
  ⟨0x40050004, 1, 1, [⟨8, 7, .ro⟩, ⟨4, 1, .ro⟩, ⟨3, 1, .ro⟩, ⟨2, 1, .ro⟩, ⟨0, 2, .ro⟩]⟩,
  ⟨0x40050008, 1, 1, [⟨8, 6, .rwl⟩, ⟨4, 2, .rwl⟩, ⟨0, 4, .rwl⟩]⟩,
  ⟨0x4005000C, 1, 1, [⟨16, 4, .rwl⟩, ⟨0, 13, .rwl⟩]⟩,
  ⟨0x40050010, 1, 1, [⟨8, 2, .wo⟩, ⟨0, 8, .wo⟩]⟩,
  ⟨0x40050014, 1, 1, [⟨0, 32, .rw⟩]⟩,
  ⟨0x40050018, 1, 1, [⟨8, 8, .ro⟩, ⟨0, 8, .ro⟩]⟩,
  ⟨0x4005001C, 1, 1, [⟨7, 1, .w1c⟩, ⟨6, 1, .w1c⟩, ⟨5, 1, .w1c⟩, ⟨4, 1, .w1c⟩, ⟨3, 1, .w1c⟩, ⟨2, 1, .w1c⟩, ⟨1, 1, .w1c⟩, ⟨0, 1, .w1c⟩]⟩,
  ⟨0x40050020, 1, 1, [⟨7, 1, .rw⟩, ⟨6, 1, .rw⟩, ⟨5, 1, .rw⟩, ⟨4, 1, .rw⟩, ⟨3, 1, .rw⟩, ⟨2, 1, .rw⟩, ⟨1, 1, .rw⟩, ⟨0, 1, .rw⟩]⟩,
  ⟨0x40050024, 1, 1, [⟨24, 8, .ro⟩, ⟨12, 1, .ro⟩, ⟨11, 1, .ro⟩, ⟨4, 4, .ro⟩]⟩,
  ⟨0x40050028, 1, 1, [⟨0, 32, .ro⟩]⟩,
  ⟨0x4005002C, 1, 1, [⟨0, 32, .ro⟩]⟩,
  ⟨0x40050030, 1, 1, [⟨5, 3, .ro⟩, ⟨13, 3, .ro⟩, ⟨21, 3, .ro⟩, ⟨29, 3, .ro⟩, ⟨3, 2, .ro⟩, ⟨11, 2, .ro⟩, ⟨19, 2, .ro⟩, ⟨27, 2, .ro⟩, ⟨2, 1, .ro⟩, ⟨10, 1, .ro⟩, ⟨18, 1, .ro⟩, ⟨26, 1, .ro⟩]⟩,
  ⟨0x40050040, 1, 1, [⟨0, 32, .ro⟩]⟩,
  ⟨0x40050044, 1, 1, [⟨31, 1, .w1c⟩, ⟨0, 16, .ro⟩]⟩,
  ⟨0x40050048, 1, 1, [⟨0, 32, .ro⟩]⟩,
  ⟨0x4005004C, 1, 1, [⟨31, 1, .w1c⟩, ⟨0, 16, .ro⟩]⟩,
  ⟨0x40050050, 1, 1, [⟨0, 32, .ro⟩]⟩,
  ⟨0x40050054, 1, 1, [⟨31, 1, .w1c⟩, ⟨0, 16, .ro⟩]⟩]
/-- Rows of the map: block MEMINT. -/
def regsMEMINT : List RegRow := [
  ⟨0x40060000, 1, 1, [⟨1, 1, .ro⟩, ⟨0, 1, .w1s⟩]⟩,
  ⟨0x40060004, 1, 1, [⟨24, 8, .ro⟩, ⟨19, 1, .ro⟩, ⟨18, 1, .ro⟩, ⟨17, 1, .ro⟩, ⟨16, 1, .ro⟩, ⟨0, 14, .ro⟩]⟩,
  ⟨0x40060010, 1, 1, [⟨8, 8, .wo⟩, ⟨0, 8, .wo⟩]⟩,
  ⟨0x40060014, 1, 1, [⟨0, 32, .rw⟩]⟩,
  ⟨0x40060018, 1, 1, [⟨0, 32, .rw⟩]⟩,
  ⟨0x4006001C, 1, 1, [⟨16, 16, .ro⟩, ⟨8, 8, .ro⟩, ⟨0, 8, .ro⟩]⟩,
  ⟨0x40060020, 1, 1, [⟨8, 1, .w1c⟩, ⟨7, 1, .w1c⟩, ⟨6, 1, .w1c⟩, ⟨5, 1, .w1c⟩, ⟨4, 1, .w1c⟩, ⟨3, 1, .w1c⟩, ⟨2, 1, .w1c⟩, ⟨1, 1, .w1c⟩, ⟨0, 1, .w1c⟩]⟩,
  ⟨0x40060024, 1, 1, [⟨8, 1, .rw⟩, ⟨7, 1, .rw⟩, ⟨6, 1, .rw⟩, ⟨5, 1, .rw⟩, ⟨4, 1, .rw⟩, ⟨3, 1, .rw⟩, ⟨2, 1, .rw⟩, ⟨1, 1, .rw⟩, ⟨0, 1, .rw⟩]⟩,
  ⟨0x40060030, 1, 1, [⟨9, 1, .ro⟩, ⟨8, 1, .w1s⟩, ⟨4, 1, .rwl⟩, ⟨0, 4, .rwl⟩]⟩,
  ⟨0x40060034, 1, 1, [⟨0, 20, .rwl⟩]⟩,
  ⟨0x40060038, 4, 2, [⟨0, 32, .rwl⟩]⟩, ⟨0x40060040, 4, 1, [⟨0, 8, .rwl⟩]⟩,
  ⟨0x40060044, 1, 1, [⟨16, 16, .ro⟩, ⟨8, 8, .ro⟩, ⟨0, 2, .ro⟩]⟩,
  ⟨0x40060050, 1, 1, [⟨30, 2, .ro⟩, ⟨26, 4, .ro⟩, ⟨16, 10, .ro⟩, ⟨8, 8, .ro⟩]⟩,
  ⟨0x40060054, 1, 1, [⟨16, 11, .ro⟩, ⟨0, 5, .ro⟩]⟩,
  ⟨0x40060060, 1, 1, [⟨0, 10, .rw⟩]⟩,
  ⟨0x40060064, 1, 1, [⟨21, 11, .ro⟩, ⟨8, 4, .ro⟩, ⟨4, 4, .ro⟩, ⟨0, 3, .ro⟩]⟩,
  ⟨0x40060100, 32, 14, [⟨0, 32, .ro⟩]⟩,
  ⟨0x40060104, 32, 14, [⟨31, 1, .w1c⟩, ⟨0, 16, .ro⟩]⟩,
  ⟨0x40060108, 32, 14, [⟨0, 32, .ro⟩]⟩,
  ⟨0x4006010C, 32, 14, [⟨31, 1, .w1c⟩, ⟨0, 16, .ro⟩]⟩,
  ⟨0x40060110, 32, 14, [⟨16, 16, .ro⟩, ⟨0, 16, .ro⟩]⟩,
  ⟨0x40060114, 32, 14, [⟨16, 16, .ro⟩, ⟨8, 8, .ro⟩, ⟨0, 8, .ro⟩]⟩]
/-- Rows of the map: block KIOSK. -/
def regsKIOSK : List RegRow := [
  ⟨0x40070000, 1, 1, [⟨1, 1, .ro⟩, ⟨0, 1, .w1s⟩]⟩,
  ⟨0x40070004, 1, 1, [⟨16, 10, .ro⟩, ⟨1, 1, .ro⟩, ⟨0, 1, .ro⟩]⟩,
  ⟨0x40070008, 1, 1, [⟨31, 1, .rc⟩, ⟨0, 9, .rc⟩]⟩,
  ⟨0x4007000C, 1, 1, [⟨0, 32, .ro⟩]⟩,
  ⟨0x40070010, 1, 1, [⟨0, 9, .rw⟩]⟩,
  ⟨0x40070014, 1, 1, [⟨0, 32, .wo⟩]⟩,
  ⟨0x40070018, 1, 1, [⟨0, 32, .w1c⟩]⟩,
  ⟨0x4007001C, 1, 1, [⟨0, 32, .w1s⟩]⟩,
  ⟨0x40070020, 1, 1, [⟨16, 16, .wo⟩, ⟨0, 8, .wo⟩]⟩,
  ⟨0x40070024, 1, 1, [⟨0, 32, .rw⟩]⟩,
  ⟨0x40070028, 1, 1, [⟨16, 16, .ro⟩, ⟨8, 8, .ro⟩, ⟨0, 8, .ro⟩]⟩,
  ⟨0x4007002C, 1, 1, [⟨8, 1, .w1c⟩, ⟨7, 1, .w1c⟩, ⟨6, 1, .w1c⟩, ⟨5, 1, .w1c⟩, ⟨4, 1, .w1c⟩, ⟨3, 1, .w1c⟩, ⟨2, 1, .w1c⟩, ⟨1, 1, .w1c⟩, ⟨0, 1, .w1c⟩]⟩,
  ⟨0x40070030, 1, 1, [⟨8, 1, .rw⟩, ⟨7, 1, .rw⟩, ⟨6, 1, .rw⟩, ⟨5, 1, .rw⟩, ⟨4, 1, .rw⟩, ⟨3, 1, .rw⟩, ⟨2, 1, .rw⟩, ⟨1, 1, .rw⟩, ⟨0, 1, .rw⟩]⟩,
  ⟨0x40070100, 4, 16, [⟨0, 32, .ro⟩]⟩,
  ⟨0x40070140, 4, 16, [⟨0, 32, .ro⟩]⟩,
  ⟨0x40070180, 1, 1, [⟨0, 32, .ro⟩]⟩,
  ⟨0x40070184, 1, 1, [⟨31, 1, .w1c⟩, ⟨0, 16, .ro⟩]⟩,
  ⟨0x40070188, 1, 1, [⟨0, 32, .ro⟩]⟩,
  ⟨0x4007018C, 1, 1, [⟨31, 1, .w1c⟩, ⟨0, 16, .ro⟩]⟩,
  ⟨0x40070190, 1, 1, [⟨0, 32, .ro⟩]⟩,
  ⟨0x40070194, 1, 1, [⟨31, 1, .w1c⟩, ⟨0, 16, .ro⟩]⟩]
/-- Rows of the map: block MTRANS. -/
def regsMTRANS : List RegRow := [
  ⟨0x40080000, 1, 1, [⟨1, 1, .ro⟩, ⟨0, 1, .w1s⟩]⟩,
  ⟨0x40080004, 1, 1, [⟨24, 8, .ro⟩, ⟨8, 1, .w1c⟩, ⟨5, 3, .ro⟩, ⟨3, 2, .ro⟩, ⟨2, 1, .ro⟩, ⟨1, 1, .ro⟩, ⟨0, 1, .ro⟩]⟩,
  ⟨0x40080008, 1, 1, [⟨8, 8, .ro⟩, ⟨0, 8, .ro⟩]⟩,
  ⟨0x40080010, 1, 1, [⟨0, 8, .wo⟩]⟩,
  ⟨0x40080014, 1, 1, [⟨0, 32, .rw⟩]⟩,
  ⟨0x40080018, 1, 1, [⟨8, 8, .ro⟩, ⟨0, 8, .ro⟩]⟩,
  ⟨0x4008001C, 1, 1, [⟨7, 1, .w1c⟩, ⟨6, 1, .w1c⟩, ⟨5, 1, .w1c⟩, ⟨4, 1, .w1c⟩, ⟨3, 1, .w1c⟩, ⟨2, 1, .w1c⟩, ⟨1, 1, .w1c⟩, ⟨0, 1, .w1c⟩]⟩,
  ⟨0x40080020, 1, 1, [⟨7, 1, .rw⟩, ⟨6, 1, .rw⟩, ⟨5, 1, .rw⟩, ⟨4, 1, .rw⟩, ⟨3, 1, .rw⟩, ⟨2, 1, .rw⟩, ⟨1, 1, .rw⟩, ⟨0, 1, .rw⟩]⟩,
  ⟨0x40080024, 1, 1, [⟨0, 32, .rwl⟩]⟩,
  ⟨0x40080028, 1, 1, [⟨16, 4, .ro⟩, ⟨0, 4, .rw⟩]⟩,
  ⟨0x4008002C, 1, 1, [⟨0, 32, .rw⟩]⟩,
  ⟨0x40080040, 4, 8, [⟨24, 8, .ro⟩, ⟨16, 8, .ro⟩, ⟨8, 1, .w1c⟩, ⟨0, 8, .ro⟩]⟩,
  ⟨0x40080080, 1, 1, [⟨0, 32, .ro⟩]⟩,
  ⟨0x40080084, 1, 1, [⟨31, 1, .w1c⟩, ⟨0, 16, .ro⟩]⟩,
  ⟨0x40080088, 1, 1, [⟨0, 32, .ro⟩]⟩,
  ⟨0x4008008C, 1, 1, [⟨31, 1, .w1c⟩, ⟨0, 16, .ro⟩]⟩,
  ⟨0x40080090, 1, 1, [⟨0, 32, .ro⟩]⟩,
  ⟨0x40080094, 1, 1, [⟨31, 1, .w1c⟩, ⟨0, 16, .ro⟩]⟩,
  ⟨0x40080098, 1, 1, [⟨0, 32, .ro⟩]⟩,
  ⟨0x4008009C, 1, 1, [⟨31, 1, .w1c⟩, ⟨0, 16, .ro⟩]⟩]
/-- Rows of the map: block LODGE. -/
def regsLODGE : List RegRow := [
  ⟨0x40090000, 1, 1, [⟨1, 1, .ro⟩, ⟨0, 1, .w1s⟩]⟩,
  ⟨0x40090004, 1, 1, [⟨10, 2, .ro⟩, ⟨9, 1, .ro⟩, ⟨8, 1, .ro⟩, ⟨7, 1, .ro⟩, ⟨6, 1, .ro⟩, ⟨5, 1, .ro⟩, ⟨4, 1, .ro⟩, ⟨3, 1, .ro⟩, ⟨0, 2, .ro⟩]⟩,
  ⟨0x40090008, 1, 1, [⟨16, 16, .wo⟩, ⟨0, 8, .wo⟩]⟩,
  ⟨0x4009000C, 1, 1, [⟨0, 32, .rw⟩]⟩,
  ⟨0x40090010, 1, 1, [⟨16, 16, .ro⟩, ⟨8, 8, .ro⟩, ⟨0, 8, .ro⟩]⟩,
  ⟨0x40090014, 1, 1, [⟨5, 1, .w1c⟩, ⟨4, 1, .w1c⟩, ⟨3, 1, .w1c⟩, ⟨2, 1, .w1c⟩, ⟨1, 1, .w1c⟩, ⟨0, 1, .w1c⟩]⟩,
  ⟨0x40090018, 1, 1, [⟨5, 1, .rw⟩, ⟨4, 1, .rw⟩, ⟨3, 1, .rw⟩, ⟨2, 1, .rw⟩, ⟨1, 1, .rw⟩, ⟨0, 1, .rw⟩]⟩,
  ⟨0x40090020, 1, 1, [⟨0, 32, .ro⟩]⟩,
  ⟨0x40090024, 1, 1, [⟨0, 15, .ro⟩]⟩,
  ⟨0x40090028, 1, 1, [⟨0, 2, .ro⟩, ⟨2, 2, .ro⟩, ⟨4, 2, .ro⟩, ⟨6, 2, .ro⟩, ⟨8, 2, .ro⟩, ⟨10, 2, .ro⟩, ⟨12, 2, .ro⟩, ⟨14, 2, .ro⟩]⟩,
  ⟨0x4009002C, 1, 1, [⟨24, 8, .ro⟩, ⟨12, 12, .ro⟩, ⟨5, 1, .ro⟩, ⟨4, 1, .ro⟩, ⟨0, 4, .ro⟩]⟩,
  ⟨0x40090030, 1, 1, [⟨0, 32, .ro⟩]⟩,
  ⟨0x40090034, 1, 1, [⟨0, 32, .ro⟩]⟩,
  ⟨0x40090038, 1, 1, [⟨0, 4, .rw⟩]⟩,
  ⟨0x4009003C, 4, 4, [⟨0, 32, .ro⟩]⟩]
/-- Rows of the map: block GATE. -/
def regsGATE : List RegRow := [
  ⟨0x400A0000, 1, 1, [⟨1, 1, .ro⟩, ⟨0, 1, .w1s⟩]⟩,
  ⟨0x400A0010, 1, 1, [⟨8, 8, .wo⟩, ⟨0, 8, .wo⟩]⟩,
  ⟨0x400A0014, 1, 1, [⟨0, 32, .rw⟩]⟩,
  ⟨0x400A0018, 1, 1, [⟨16, 8, .ro⟩, ⟨8, 8, .ro⟩, ⟨0, 8, .ro⟩]⟩,
  ⟨0x400A0020, 1, 1, [⟨6, 1, .w1c⟩, ⟨5, 1, .w1c⟩, ⟨4, 1, .w1c⟩, ⟨3, 1, .w1c⟩, ⟨2, 1, .w1c⟩, ⟨1, 1, .w1c⟩, ⟨0, 1, .w1c⟩]⟩,
  ⟨0x400A0024, 1, 1, [⟨6, 1, .rw⟩, ⟨5, 1, .rw⟩, ⟨4, 1, .rw⟩, ⟨3, 1, .rw⟩, ⟨2, 1, .rw⟩, ⟨1, 1, .rw⟩, ⟨0, 1, .rw⟩]⟩,
  ⟨0x400A0030, 1, 1, [⟨0, 32, .ro⟩]⟩,
  ⟨0x400A0034, 1, 1, [⟨0, 16, .ro⟩]⟩,
  ⟨0x400A0100, 8, 48, [⟨16, 8, .ro⟩, ⟨12, 4, .ro⟩, ⟨10, 1, .w1c⟩, ⟨9, 1, .ro⟩, ⟨8, 1, .w1c⟩, ⟨7, 1, .ro⟩, ⟨6, 1, .ro⟩, ⟨5, 1, .ro⟩, ⟨4, 1, .ro⟩, ⟨3, 1, .ro⟩, ⟨0, 3, .ro⟩]⟩,
  ⟨0x400A0104, 8, 48, [⟨0, 32, .ro⟩]⟩,
  ⟨0x400A0400, 4, 144, [⟨4, 1, .ro⟩, ⟨3, 1, .ro⟩, ⟨2, 1, .ro⟩, ⟨1, 1, .ro⟩, ⟨0, 1, .ro⟩]⟩]
/-- Rows of the map: block LOADER. -/
def regsLOADER : List RegRow := [
  ⟨0x400B0000, 1, 1, [⟨1, 1, .ro⟩, ⟨0, 1, .w1s⟩]⟩,
  ⟨0x400B0004, 1, 1, [⟨24, 8, .ro⟩, ⟨16, 8, .ro⟩, ⟨8, 8, .ro⟩, ⟨0, 1, .ro⟩]⟩,
  ⟨0x400B0008, 1, 1, [⟨16, 16, .rwl⟩]⟩,
  ⟨0x400B000C, 1, 1, [⟨24, 8, .ro⟩, ⟨0, 17, .ro⟩]⟩,
  ⟨0x400B0010, 1, 1, [⟨16, 8, .wo⟩, ⟨8, 8, .wo⟩, ⟨0, 8, .wo⟩]⟩,
  ⟨0x400B0014, 1, 1, [⟨0, 32, .rw⟩]⟩,
  ⟨0x400B0018, 1, 1, [⟨16, 8, .ro⟩, ⟨8, 8, .ro⟩, ⟨0, 8, .ro⟩]⟩,
  ⟨0x400B0020, 1, 1, [⟨8, 1, .w1c⟩, ⟨7, 1, .w1c⟩, ⟨6, 1, .w1c⟩, ⟨5, 1, .w1c⟩, ⟨4, 1, .w1c⟩, ⟨3, 1, .w1c⟩, ⟨2, 1, .w1c⟩, ⟨1, 1, .w1c⟩, ⟨0, 1, .w1c⟩]⟩,
  ⟨0x400B0024, 1, 1, [⟨8, 1, .rw⟩, ⟨7, 1, .rw⟩, ⟨6, 1, .rw⟩, ⟨5, 1, .rw⟩, ⟨4, 1, .rw⟩, ⟨3, 1, .rw⟩, ⟨2, 1, .rw⟩, ⟨1, 1, .rw⟩, ⟨0, 1, .rw⟩]⟩,
  ⟨0x400B0030, 1, 1, [⟨0, 32, .ro⟩]⟩,
  ⟨0x400B0034, 1, 1, [⟨16, 4, .ro⟩, ⟨0, 4, .ro⟩]⟩,
  ⟨0x400B0038, 1, 1, [⟨0, 32, .ro⟩]⟩,
  ⟨0x400B0040, 4, 12, [⟨0, 32, .ro⟩]⟩,
  ⟨0x400B0070, 4, 12, [⟨0, 32, .ro⟩]⟩,
  ⟨0x400B00A0, 1, 1, [⟨0, 32, .ro⟩]⟩,
  ⟨0x400B00A4, 1, 1, [⟨31, 1, .w1c⟩, ⟨0, 16, .ro⟩]⟩,
  ⟨0x400B00A8, 1, 1, [⟨0, 32, .ro⟩]⟩,
  ⟨0x400B00AC, 1, 1, [⟨31, 1, .w1c⟩, ⟨0, 16, .ro⟩]⟩,
  ⟨0x400B0100, 8, 48, [⟨16, 16, .ro⟩, ⟨8, 8, .ro⟩, ⟨0, 8, .ro⟩]⟩,
  ⟨0x400B0104, 8, 48, [⟨24, 8, .ro⟩, ⟨18, 6, .ro⟩, ⟨17, 1, .ro⟩, ⟨0, 17, .ro⟩]⟩,
  ⟨0x400B0400, 4, 32, [⟨16, 8, .ro⟩, ⟨8, 8, .ro⟩, ⟨0, 8, .ro⟩]⟩]
/-- Rows of the map: block ORANGERY. -/
def regsORANGERY : List RegRow := [
  ⟨0x400C0000, 1, 1, [⟨1, 1, .ro⟩, ⟨0, 1, .w1s⟩]⟩,
  ⟨0x400C0004, 1, 1, [⟨8, 4, .ro⟩, ⟨5, 1, .ro⟩, ⟨4, 1, .ro⟩, ⟨3, 1, .ro⟩, ⟨2, 1, .ro⟩, ⟨1, 1, .ro⟩, ⟨0, 1, .ro⟩]⟩,
  ⟨0x400C0008, 1, 1, [⟨24, 8, .ro⟩, ⟨0, 13, .ro⟩]⟩,
  ⟨0x400C000C, 1, 1, [⟨0, 32, .ro⟩]⟩,
  ⟨0x400C0010, 1, 1, [⟨16, 8, .wo⟩, ⟨8, 8, .wo⟩, ⟨0, 8, .wo⟩]⟩,
  ⟨0x400C0014, 1, 1, [⟨0, 32, .rw⟩]⟩,
  ⟨0x400C0018, 1, 1, [⟨0, 32, .rw⟩]⟩,
  ⟨0x400C001C, 1, 1, [⟨0, 32, .rw⟩]⟩,
  ⟨0x400C0020, 1, 1, [⟨0, 32, .rw⟩]⟩,
  ⟨0x400C0024, 1, 1, [⟨16, 16, .ro⟩, ⟨8, 8, .ro⟩, ⟨0, 8, .ro⟩]⟩,
  ⟨0x400C0028, 1, 1, [⟨8, 1, .w1c⟩, ⟨7, 1, .w1c⟩, ⟨6, 1, .w1c⟩, ⟨5, 1, .w1c⟩, ⟨4, 1, .w1c⟩, ⟨3, 1, .w1c⟩, ⟨2, 1, .w1c⟩, ⟨1, 1, .w1c⟩, ⟨0, 1, .w1c⟩]⟩,
  ⟨0x400C002C, 1, 1, [⟨8, 1, .rw⟩, ⟨7, 1, .rw⟩, ⟨6, 1, .rw⟩, ⟨5, 1, .rw⟩, ⟨4, 1, .rw⟩, ⟨3, 1, .rw⟩, ⟨2, 1, .rw⟩, ⟨1, 1, .rw⟩, ⟨0, 1, .rw⟩]⟩,
  ⟨0x400C0030, 1, 1, [⟨16, 1, .rwl⟩, ⟨15, 1, .rwl⟩, ⟨0, 11, .rwl⟩]⟩,
  ⟨0x400C0034, 1, 1, [⟨24, 8, .ro⟩, ⟨18, 6, .ro⟩, ⟨0, 16, .ro⟩]⟩,
  ⟨0x400C0038, 1, 1, [⟨20, 12, .ro⟩, ⟨0, 17, .ro⟩]⟩,
  ⟨0x400C003C, 1, 1, [⟨0, 32, .ro⟩]⟩,
  ⟨0x400C0040, 4, 12, [⟨0, 32, .ro⟩]⟩,
  ⟨0x400C0070, 1, 1, [⟨0, 32, .ro⟩]⟩,
  ⟨0x400C0074, 1, 1, [⟨31, 1, .w1c⟩, ⟨0, 16, .ro⟩]⟩,
  ⟨0x400C0078, 1, 1, [⟨0, 9, .ro⟩]⟩]
/-- Rows of the map: block FBUS. -/
def regsFBUS : List RegRow := [
  ⟨0x400D0000, 1, 1, [⟨1, 1, .ro⟩, ⟨0, 1, .w1s⟩]⟩,
  ⟨0x400D0004, 1, 1, [⟨24, 8, .ro⟩, ⟨14, 10, .ro⟩, ⟨1, 1, .ro⟩, ⟨0, 1, .ro⟩]⟩,
  ⟨0x400D0008, 1, 1, [⟨16, 16, .wo⟩, ⟨0, 8, .wo⟩]⟩,
  ⟨0x400D000C, 1, 1, [⟨0, 32, .rw⟩]⟩,
  ⟨0x400D0010, 1, 1, [⟨16, 16, .ro⟩, ⟨8, 8, .ro⟩, ⟨0, 8, .ro⟩]⟩,
  ⟨0x400D0014, 1, 1, [⟨7, 1, .w1c⟩, ⟨6, 1, .w1c⟩, ⟨5, 1, .w1c⟩, ⟨4, 1, .w1c⟩, ⟨3, 1, .w1c⟩, ⟨2, 1, .w1c⟩, ⟨1, 1, .w1c⟩, ⟨0, 1, .w1c⟩]⟩,
  ⟨0x400D0018, 1, 1, [⟨7, 1, .rw⟩, ⟨6, 1, .rw⟩, ⟨5, 1, .rw⟩, ⟨4, 1, .rw⟩, ⟨3, 1, .rw⟩, ⟨2, 1, .rw⟩, ⟨1, 1, .rw⟩, ⟨0, 1, .rw⟩]⟩,
  ⟨0x400D0020, 1, 1, [⟨24, 8, .ro⟩, ⟨16, 8, .ro⟩, ⟨8, 8, .ro⟩, ⟨0, 8, .ro⟩]⟩,
  ⟨0x400D0024, 1, 1, [⟨0, 32, .ro⟩]⟩,
  ⟨0x400D0028, 1, 1, [⟨24, 8, .ro⟩, ⟨16, 8, .ro⟩, ⟨0, 16, .ro⟩]⟩,
  ⟨0x400D002C, 1, 1, [⟨0, 9, .rw⟩]⟩,
  ⟨0x400D0030, 1, 1, [⟨24, 8, .ro⟩, ⟨16, 8, .ro⟩, ⟨8, 1, .ro⟩, ⟨4, 4, .ro⟩, ⟨0, 1, .ro⟩]⟩,
  ⟨0x400D0038, 1, 1, [⟨0, 32, .ro⟩]⟩,
  ⟨0x400D003C, 1, 1, [⟨31, 1, .w1c⟩, ⟨0, 16, .ro⟩]⟩,
  ⟨0x400D0040, 1, 1, [⟨0, 32, .ro⟩]⟩,
  ⟨0x400D0044, 1, 1, [⟨31, 1, .w1c⟩, ⟨0, 16, .ro⟩]⟩,
  ⟨0x400D0100, 4, 32, [⟨16, 8, .rwl⟩, ⟨8, 8, .rwl⟩, ⟨7, 1, .rwl⟩, ⟨0, 7, .ro⟩]⟩,
  ⟨0x400D0200, 4, 128, [⟨29, 3, .ro⟩, ⟨24, 5, .ro⟩, ⟨22, 2, .ro⟩, ⟨16, 6, .ro⟩, ⟨12, 4, .ro⟩, ⟨10, 2, .ro⟩, ⟨9, 1, .ro⟩, ⟨0, 8, .ro⟩]⟩,
  ⟨0x400D0800, 1, 1, [⟨24, 8, .wo⟩, ⟨8, 16, .wo⟩, ⟨0, 8, .wo⟩]⟩,
  ⟨0x400D0804, 1, 1, [⟨0, 32, .rw⟩]⟩,
  ⟨0x400D0808, 1, 1, [⟨16, 16, .ro⟩, ⟨8, 8, .ro⟩, ⟨0, 8, .ro⟩]⟩,
  ⟨0x400D080C, 1, 1, [⟨16, 16, .ro⟩, ⟨7, 1, .ro⟩, ⟨6, 1, .ro⟩, ⟨5, 1, .ro⟩, ⟨0, 5, .ro⟩]⟩,
  ⟨0x400D0810, 1, 1, [⟨2, 1, .w1c⟩, ⟨1, 1, .w1c⟩, ⟨0, 1, .w1c⟩]⟩,
  ⟨0x400D0814, 1, 1, [⟨2, 1, .rw⟩, ⟨1, 1, .rw⟩, ⟨0, 1, .rw⟩]⟩,
  ⟨0x400D0818, 1, 1, [⟨16, 9, .ro⟩, ⟨8, 8, .ro⟩, ⟨0, 8, .rw⟩]⟩]
/-- Rows of the map: block PLANEx. -/
def regsPLANE : List RegRow := [
  ⟨0x40100000, 0x40000, 2, [⟨0, 13, .ro⟩]⟩,
  ⟨0x40100008, 0x40000, 2, [⟨0, 32, .ro⟩]⟩,
  ⟨0x4010000C, 0x40000, 2, [⟨31, 1, .w1c⟩, ⟨0, 16, .ro⟩]⟩,
  ⟨0x40100010, 0x40000, 2, [⟨0, 32, .ro⟩]⟩,
  ⟨0x40100014, 0x40000, 2, [⟨31, 1, .w1c⟩, ⟨0, 16, .ro⟩]⟩,
  ⟨0x40100018, 0x40000, 2, [⟨0, 32, .ro⟩]⟩,
  ⟨0x4010001C, 0x40000, 2, [⟨31, 1, .w1c⟩, ⟨0, 16, .ro⟩]⟩,
  ⟨0x40100020, 0x40000, 2, [⟨0, 12, .rw⟩]⟩,
  ⟨0x40100024, 0x40000, 2, [⟨24, 8, .ro⟩, ⟨18, 6, .ro⟩, ⟨12, 6, .ro⟩, ⟨3, 1, .ro⟩, ⟨2, 1, .ro⟩, ⟨1, 1, .ro⟩, ⟨0, 1, .ro⟩]⟩,
  ⟨0x40100028, 0x40000, 2, [⟨0, 32, .ro⟩]⟩,
  ⟨0x4010002C, 0x40000, 2, [⟨0, 23, .ro⟩]⟩,
  ⟨0x40100030, 0x40000, 2, [⟨0, 18, .ro⟩]⟩,
  ⟨0x40100034, 0x40000, 2, [⟨16, 16, .ro⟩, ⟨0, 16, .ro⟩]⟩]
/-- Rows of the map: block CHn. -/
def regsCHAN0 : List RegRow := [
  ⟨0x40200000, 0x400, 96, [⟨26, 3, .ro⟩, ⟨24, 2, .ro⟩, ⟨16, 8, .ro⟩, ⟨8, 8, .ro⟩, ⟨6, 2, .ro⟩, ⟨5, 1, .ro⟩, ⟨4, 1, .ro⟩, ⟨3, 1, .ro⟩, ⟨0, 3, .ro⟩]⟩,
  ⟨0x40200004, 0x400, 96, [⟨8, 8, .ro⟩, ⟨0, 8, .ro⟩]⟩,
  ⟨0x40200008, 0x400, 96, [⟨15, 1, .ro⟩, ⟨14, 1, .ro⟩, ⟨13, 1, .ro⟩, ⟨12, 1, .ro⟩, ⟨11, 1, .ro⟩, ⟨10, 1, .ro⟩, ⟨9, 1, .ro⟩, ⟨8, 1, .ro⟩, ⟨7, 1, .ro⟩, ⟨6, 1, .ro⟩, ⟨5, 1, .ro⟩, ⟨4, 1, .ro⟩]⟩,
  ⟨0x4020000C, 0x400, 96, [⟨10, 1, .w1c⟩, ⟨9, 1, .w1c⟩, ⟨8, 1, .w1c⟩, ⟨7, 1, .w1c⟩, ⟨6, 1, .w1c⟩, ⟨5, 1, .w1c⟩, ⟨4, 1, .w1c⟩, ⟨3, 1, .w1c⟩, ⟨2, 1, .w1c⟩, ⟨1, 1, .w1c⟩, ⟨0, 1, .w1c⟩]⟩,
  ⟨0x40200010, 0x400, 96, [⟨10, 1, .rw⟩, ⟨9, 1, .rw⟩, ⟨8, 1, .rw⟩, ⟨7, 1, .rw⟩, ⟨6, 1, .rw⟩, ⟨5, 1, .rw⟩, ⟨4, 1, .rw⟩, ⟨3, 1, .rw⟩, ⟨2, 1, .rw⟩, ⟨1, 1, .rw⟩, ⟨0, 1, .rw⟩]⟩,
  ⟨0x40200014, 0x400, 96, [⟨8, 8, .ro⟩, ⟨0, 1, .wo⟩]⟩,
  ⟨0x40200018, 0x400, 96, [⟨8, 8, .ro⟩, ⟨5, 3, .ro⟩, ⟨3, 2, .ro⟩, ⟨2, 1, .ro⟩, ⟨1, 1, .ro⟩, ⟨0, 1, .ro⟩]⟩,
  ⟨0x40200020, 0x400, 96, [⟨0, 32, .ro⟩]⟩,
  ⟨0x40200024, 0x400, 96, [⟨31, 1, .w1c⟩, ⟨0, 16, .ro⟩]⟩,
  ⟨0x40200028, 0x400, 96, [⟨0, 32, .ro⟩]⟩,
  ⟨0x4020002C, 0x400, 96, [⟨31, 1, .w1c⟩, ⟨0, 16, .ro⟩]⟩,
  ⟨0x40200030, 0x400, 96, [⟨0, 32, .ro⟩]⟩,
  ⟨0x40200034, 0x400, 96, [⟨31, 1, .w1c⟩, ⟨0, 16, .ro⟩]⟩,
  ⟨0x40200038, 0x400, 96, [⟨0, 32, .ro⟩]⟩,
  ⟨0x4020003C, 0x400, 96, [⟨31, 1, .w1c⟩, ⟨0, 16, .ro⟩]⟩,
  ⟨0x40200100, 0x400, 96, [⟨16, 8, .ro⟩, ⟨8, 3, .ro⟩, ⟨7, 1, .ro⟩, ⟨6, 1, .ro⟩]⟩,
  ⟨0x40200104, 0x400, 96, [⟨16, 13, .wo⟩, ⟨0, 8, .wo⟩]⟩,
  ⟨0x40200108, 0x400, 96, [⟨0, 32, .rw⟩]⟩,
  ⟨0x4020010C, 0x400, 96, [⟨0, 32, .rw⟩]⟩,
  ⟨0x40200110, 0x400, 96, [⟨16, 16, .ro⟩, ⟨8, 8, .ro⟩, ⟨0, 8, .ro⟩]⟩,
  ⟨0x40200114, 0x400, 96, [⟨9, 1, .w1c⟩, ⟨8, 1, .w1c⟩, ⟨7, 1, .w1c⟩, ⟨6, 1, .w1c⟩, ⟨5, 1, .w1c⟩, ⟨4, 1, .w1c⟩, ⟨3, 1, .w1c⟩, ⟨2, 1, .w1c⟩, ⟨1, 1, .w1c⟩, ⟨0, 1, .w1c⟩]⟩,
  ⟨0x40200118, 0x400, 96, [⟨9, 1, .rw⟩, ⟨8, 1, .rw⟩, ⟨7, 1, .rw⟩, ⟨6, 1, .rw⟩, ⟨5, 1, .rw⟩, ⟨4, 1, .rw⟩, ⟨3, 1, .rw⟩, ⟨2, 1, .rw⟩, ⟨1, 1, .rw⟩, ⟨0, 1, .rw⟩]⟩,
  ⟨0x4020011C, 0x400, 96, [⟨24, 8, .ro⟩, ⟨18, 6, .ro⟩, ⟨0, 18, .ro⟩]⟩,
  ⟨0x40200120, 0x400, 96, [⟨24, 8, .ro⟩, ⟨20, 4, .ro⟩, ⟨16, 4, .ro⟩, ⟨8, 8, .ro⟩]⟩,
  ⟨0x40200124, 0x400, 96, [⟨24, 8, .ro⟩, ⟨16, 8, .ro⟩, ⟨8, 8, .ro⟩, ⟨0, 8, .ro⟩]⟩]
/-- Rows of the map: block CHn. -/
def regsCHAN1 : List RegRow := [
  ⟨0x40200130, 0x400, 96, [⟨0, 32, .ro⟩]⟩,
  ⟨0x40200134, 0x400, 96, [⟨0, 32, .ro⟩]⟩,
  ⟨0x40200138, 0x400, 96, [⟨0, 32, .ro⟩]⟩,
  ⟨0x4020013C, 0x400, 96, [⟨0, 32, .ro⟩]⟩,
  ⟨0x40200140, 0x400, 96, [⟨0, 32, .ro⟩]⟩,
  ⟨0x40200144, 0x400, 96, [⟨0, 32, .ro⟩]⟩,
  ⟨0x40200148, 0x400, 96, [⟨0, 32, .ro⟩]⟩,
  ⟨0x4020014C, 0x400, 96, [⟨0, 32, .ro⟩]⟩,
  ⟨0x40200150, 0x400, 96, [⟨0, 32, .ro⟩]⟩,
  ⟨0x40200154, 0x400, 96, [⟨0, 32, .ro⟩]⟩,
  ⟨0x40200158, 0x400, 96, [⟨0, 32, .ro⟩]⟩,
  ⟨0x4020015C, 0x400, 96, [⟨0, 32, .ro⟩]⟩,
  ⟨0x40200160, 0x400, 96, [⟨0, 32, .ro⟩]⟩,
  ⟨0x40200164, 0x400, 96, [⟨0, 32, .ro⟩]⟩,
  ⟨0x40200168, 0x400, 96, [⟨0, 32, .ro⟩]⟩,
  ⟨0x4020016C, 0x400, 96, [⟨0, 32, .ro⟩]⟩,
  ⟨0x40200170, 0x400, 96, [⟨0, 32, .ro⟩]⟩,
  ⟨0x40200174, 0x400, 96, [⟨0, 32, .ro⟩]⟩,
  ⟨0x40200178, 0x400, 96, [⟨0, 32, .ro⟩]⟩,
  ⟨0x4020017C, 0x400, 96, [⟨0, 32, .ro⟩]⟩,
  ⟨0x40200180, 0x400, 96, [⟨0, 32, .ro⟩]⟩,
  ⟨0x40200184, 0x400, 96, [⟨0, 32, .ro⟩]⟩,
  ⟨0x40200188, 0x400, 96, [⟨0, 32, .ro⟩]⟩,
  ⟨0x4020018C, 0x400, 96, [⟨0, 32, .ro⟩]⟩,
  ⟨0x40200190, 0x400, 96, [⟨0, 32, .ro⟩]⟩]
/-- Rows of the map: block CHn. -/
def regsCHAN2 : List RegRow := [
  ⟨0x40200194, 0x400, 96, [⟨31, 1, .w1c⟩, ⟨0, 16, .ro⟩]⟩,
  ⟨0x40200198, 0x400, 96, [⟨0, 32, .ro⟩]⟩,
  ⟨0x4020019C, 0x400, 96, [⟨31, 1, .w1c⟩, ⟨0, 16, .ro⟩]⟩,
  ⟨0x402001A0, 0x400, 96, [⟨0, 32, .ro⟩]⟩,
  ⟨0x402001A4, 0x400, 96, [⟨31, 1, .w1c⟩, ⟨0, 16, .ro⟩]⟩]
/-- Rows of the map: block JOURNAL. -/
def regsJOURNAL : List RegRow := [
  ⟨0x40300000, 1, 1, [⟨1, 1, .ro⟩, ⟨0, 1, .w1s⟩]⟩,
  ⟨0x40300004, 1, 1, [⟨16, 9, .ro⟩, ⟨4, 1, .ro⟩, ⟨3, 1, .ro⟩, ⟨2, 1, .ro⟩, ⟨1, 1, .ro⟩, ⟨0, 1, .ro⟩]⟩,
  ⟨0x40300008, 1, 1, [⟨16, 1, .rwl⟩, ⟨0, 16, .rwl⟩]⟩,
  ⟨0x4030000C, 1, 1, [⟨16, 16, .wo⟩, ⟨0, 8, .wo⟩]⟩,
  ⟨0x40300010, 1, 1, [⟨16, 16, .ro⟩, ⟨8, 8, .ro⟩, ⟨0, 8, .ro⟩]⟩,
  ⟨0x40300014, 1, 1, [⟨5, 1, .w1c⟩, ⟨4, 1, .w1c⟩, ⟨3, 1, .w1c⟩, ⟨2, 1, .w1c⟩, ⟨1, 1, .w1c⟩, ⟨0, 1, .w1c⟩]⟩,
  ⟨0x40300018, 1, 1, [⟨5, 1, .rw⟩, ⟨4, 1, .rw⟩, ⟨3, 1, .rw⟩, ⟨2, 1, .rw⟩, ⟨1, 1, .rw⟩, ⟨0, 1, .rw⟩]⟩,
  ⟨0x4030001C, 1, 1, [⟨0, 32, .ro⟩]⟩,
  ⟨0x40300020, 1, 1, [⟨0, 32, .ro⟩]⟩,
  ⟨0x40300024, 1, 1, [⟨0, 32, .ro⟩]⟩,
  ⟨0x40300028, 1, 1, [⟨0, 32, .rw⟩]⟩,
  ⟨0x40300040, 4, 16, [⟨0, 32, .ro⟩]⟩,
  ⟨0x40300080, 4, 7, [⟨0, 32, .rw⟩]⟩,
  ⟨0x403000A0, 1, 1, [⟨0, 32, .ro⟩]⟩,
  ⟨0x403000A4, 1, 1, [⟨31, 1, .w1c⟩, ⟨0, 16, .ro⟩]⟩,
  ⟨0x403000A8, 1, 1, [⟨0, 32, .ro⟩]⟩,
  ⟨0x403000AC, 1, 1, [⟨31, 1, .w1c⟩, ⟨0, 16, .ro⟩]⟩,
  ⟨0x403000C0, 4, 4, [⟨16, 16, .ro⟩, ⟨0, 16, .ro⟩]⟩]
/-- Rows of the map: block DEBUG. -/
def regsDEBUG : List RegRow := [
  ⟨0x40400000, 1, 1, [⟨24, 8, .ro⟩, ⟨20, 4, .ro⟩, ⟨19, 1, .ro⟩, ⟨18, 1, .ro⟩, ⟨16, 2, .ro⟩, ⟨15, 1, .ro⟩, ⟨0, 14, .ro⟩]⟩,
  ⟨0x40400004, 1, 1, [⟨2, 1, .wo⟩, ⟨1, 1, .wo⟩, ⟨0, 1, .wo⟩]⟩,
  ⟨0x40400008, 1, 1, [⟨0, 32, .ro⟩]⟩,
  ⟨0x4040000C, 1, 1, [⟨0, 32, .ro⟩]⟩]
/-- Rows of the map: block TN. -/
def regsTN : List RegRow := [
  ⟨0x100000000, 32, 512, [⟨24, 8, .wo⟩, ⟨16, 8, .wo⟩, ⟨0, 16, .wo⟩]⟩,
  ⟨0x100000004, 32, 512, [⟨24, 8, .rc⟩, ⟨16, 8, .rc⟩, ⟨0, 16, .rc⟩]⟩,
  ⟨0x100000008, 32, 512, [⟨0, 32, .rw⟩]⟩,
  ⟨0x10000000C, 32, 512, [⟨0, 32, .ro⟩]⟩,
  ⟨0x100000010, 32, 512, [⟨5, 1, .ro⟩, ⟨4, 1, .ro⟩, ⟨3, 1, .w1c⟩, ⟨2, 1, .w1c⟩, ⟨1, 1, .ro⟩, ⟨0, 1, .ro⟩]⟩,
  ⟨0x100000014, 32, 512, [⟨1, 1, .rw⟩, ⟨0, 1, .rw⟩]⟩,
  ⟨0x100000018, 32, 512, [⟨0, 32, .w1s⟩]⟩,
  ⟨0x10000001C, 32, 512, [⟨0, 32, .w1c⟩]⟩]

/-- The whole register map. -/
def regMap : List RegRow :=
  regsSYSCTL0 ++ regsSYSCTL1 ++ regsLCS ++ regsKEYS ++ regsENG ++ regsRNG ++ regsMEMINT ++ regsKIOSK ++ regsMTRANS ++ regsLODGE ++ regsGATE ++ regsLOADER ++ regsORANGERY ++ regsFBUS ++ regsPLANE ++
  regsCHAN0 ++
  regsCHAN1 ++
  regsCHAN2 ++
  regsJOURNAL ++ regsDEBUG ++ regsTN

/-- Registers whose reset word is not zero: base, stride, count and word, from the Reset columns. -/
def resetRows : List (Nat × Nat × Nat × Nat) := [
  (0x40000000, 1, 1, 0x9601000),
  (0x40000004, 1, 1, 0x1),
  (0x4000000C, 1, 1, 0x1),
  (0x40000010, 1, 1, 0x2),
  (0x40000028, 1, 1, 0xF),
  (0x40000090, 1, 1, 0x6400),
  (0x400000A0, 1, 1, 0x107D0),
  (0x40020040, 1, 1, 0xFFFFFFFF),
  (0x40050008, 1, 1, 0x82F),
  (0x4005000C, 1, 1, 0x30400),
  (0x40090004, 1, 1, 0x800),
  (0x400A0104, 8, 48, 0x1),
  (0x400B0400, 4, 32, 0xFF00),
  (0x400C000C, 1, 1, 0x1),
  (0x400C0030, 1, 1, 0x10000),
  (0x400C0034, 1, 1, 0xFF000000),
  (0x400D0028, 1, 1, 0xFF000000),
  (0x4020011C, 0x400, 96, 0xFF000000),
  (0x40300008, 1, 1, 0x10064)]

end Sys2Proof.Machine
end

