-- ==== Sys2Proof/Machine/DomTable.lean ====
section
/-! DEFINITION. The domain table (R103, R104), the PCL map (R105) and the bank declarations (R69) of the device
configuration image, read from bytes; and the banks that channels, F-buses and PCL lines sit in. -/

namespace Sys2Proof.Machine

/-- One entry of the domain table (R103). -/
structure Dom where
  id : Nat
  flags : Nat
  priority : Nat
  failLimit : Nat
  pred : Nat
  channels : Nat
  manPart : Nat
  manOff : Nat
  shBase : Nat
  shSize : Nat
  relDelay : Nat
  rstPulse : Nat
  rstreqLimit : Nat
  pgSettle : Nat
  deriving DecidableEq, Repr

def Dom.ldHold (d : Dom) : Bool := d.flags.testBit 0
def Dom.autoRecover (d : Dom) : Bool := d.flags.testBit 1
def Dom.manualRelease (d : Dom) : Bool := d.flags.testBit 2
/-- The domains that must be released first. -/
def Dom.preds (d : Dom) : List Nat := (List.range 48).filter fun i => d.pred.testBit i
/-- The channels of the domain. -/
def Dom.chans (d : Dom) : List Nat := (List.range 96).filter fun i => d.channels.testBit i

/-- The entry at offset `o`, with its own fields' rules (R103). -/
def parseDom (bs : List Byte) (o : Nat) : Option Dom :=
  let d : Dom :=
    { id := fieldAt bs o 1, flags := fieldAt bs (o + 1) 1, priority := fieldAt bs (o + 2) 1
      failLimit := fieldAt bs (o + 3) 1, pred := fieldAt bs (o + 4) 8, channels := fieldAt bs (o + 12) 12
      manPart := fieldAt bs (o + 24) 2, manOff := fieldAt bs (o + 28) 4, shBase := fieldAt bs (o + 32) 4
      shSize := fieldAt bs (o + 36) 4, relDelay := fieldAt bs (o + 40) 2, rstPulse := fieldAt bs (o + 42) 2
      rstreqLimit := fieldAt bs (o + 44) 2, pgSettle := fieldAt bs (o + 46) 2 }
  if d.id < 48 && d.flags < 8 && 1 ≤ d.failLimit && d.failLimit ≤ 15 && d.pred < 2 ^ 48 && zeroAt bs (o + 26) 2
      && d.manOff % 4096 = 0 && 1 ≤ d.shSize && 1 ≤ d.rstPulse && d.rstPulse ≤ 1000
      && 10 ≤ d.rstreqLimit && d.rstreqLimit ≤ 10000 && d.pgSettle ≤ 1000 && zeroAt bs (o + 48) 16
  then some d else none

/-- No two elements of a list are equal. -/
def noDup : List Nat → Bool
  | [] => true
  | a :: t => !t.contains a && noDup t

/-- Domains whose predecessors have all been removed are removed, `fuel` times; what is left lies on or behind a
cycle. -/
def peelDoms : Nat → List Dom → List Dom
  | 0, ds => ds
  | fuel + 1, ds => peelDoms fuel (ds.filter fun d => d.preds.any fun p => ds.any fun e => e.id = p)

/-- No channel in two domains and no two shadow ranges overlapping (R104). -/
def domsDisjoint : List Dom → Bool
  | [] => true
  | d :: t => t.all (fun e => d.channels &&& e.channels = 0
      && !overlap d.shBase d.shSize e.shBase e.shSize) && domsDisjoint t

/-- The domain table of a section (R103, R104); `used` says which channels are not declared unused. -/
def parseDomTable (bs : List Byte) (used : Nat → Bool) : Option (List Dom) :=
  let n := fieldAt bs 0 1
  if 1 ≤ n && n ≤ 48 && fieldAt bs 1 1 = 64 && zeroAt bs 2 6 && bs.length = 8 + 64 * n then
    match allSome ((List.range n).map fun e => parseDom bs (8 + 64 * e)) with
    | some ds =>
      if noDup (ds.map (·.id)) && ds.all (fun d => d.preds.all fun p => p ≠ d.id && ds.any fun e => e.id = p)
          && (peelDoms 48 ds).isEmpty && domsDisjoint ds && ds.all (fun d => d.chans.all used)
          && ds.all (fun d => d.shBase + d.shSize ≤ 24576)
      then some ds else none
    | none => none
  else none

/-- One entry of the PCL map (R105). -/
structure Pcl where
  role : Nat
  domain : Nat
  elec : Nat
  step : Nat
  delay : Nat
  filter : Nat
  deriving DecidableEq, Repr

def Pcl.output (p : Pcl) : Bool := 1 ≤ p.role && p.role ≤ 3
def Pcl.input (p : Pcl) : Bool := 16 ≤ p.role
def Pcl.activeLow (p : Pcl) : Bool := p.elec.testBit 2
def Pcl.openDrain (p : Pcl) : Bool := p.elec % 4 = 1
def Pcl.resetOut (p : Pcl) : Bool := p.role = 1
def Pcl.powerEn (p : Pcl) : Bool := p.role = 2
def Pcl.strap (p : Pcl) : Bool := p.role = 3
def Pcl.powerGood (p : Pcl) : Bool := p.role = 0x10
def Pcl.resetReq (p : Pcl) : Bool := p.role = 0x11
def Pcl.presence (p : Pcl) : Bool := p.role = 0x12

/-- Indexes of the I/O banks: CHB0 to CHB11 are 0 to 11, FBB0 to FBB3 12 to 15, PCB0 to PCB5 16 to 21, MGB 22, SYB 23;
eight channels, eight F-buses and 24 PCL lines to a bank. -/
def bankOfChan (ch : Nat) : Nat := ch / 8
def bankOfFb (b : Nat) : Nat := 12 + b / 8
def bankOfPcl (k : Nat) : Nat := 16 + k / 24
def bankMGB : Nat := 22
def bankSYB : Nat := 23

/-- The eight bytes `e` of the PCL map entry of line `k` (R105). -/
def parsePcl (e : List Byte) (k : Nat) (doms : List Dom) (banks : List Nat) : Option Pcl :=
  let p : Pcl :=
    { role := fieldAt e 0 1, domain := fieldAt e 1 1, elec := fieldAt e 2 1
      step := fieldAt e 3 1, delay := fieldAt e 4 2, filter := fieldAt e 7 1 }
  let ok :=
    if p.role = 0 then p.domain = 0xFF && zeroAt e 2 6
    else [1, 2, 3, 0x10, 0x11, 0x12].contains p.role && doms.any (fun d => d.id = p.domain)
      && banks.getD (bankOfPcl k) 0 ≠ 0 && p.elec < 8 && p.step < 16 && zeroAt e 6 1
      && (if p.output then p.elec % 4 ≤ 1 && p.filter = 0
          else p.elec % 4 = 2 && p.step = 0 && p.delay = 0)
  if ok then some p else none

/-- The PCL map: 144 entries in 1,152 bytes (R105). -/
def parsePclMap (bs : List Byte) (doms : List Dom) (banks : List Nat) : Option (List Pcl) :=
  if bs.length = 1152 then allSome ((List.range 144).map fun k => parsePcl (slice bs (8 * k) 8) k doms banks) else none

/-- The bank declarations: 24 bytes, 0 unused, 1 1.8 V, 2 3.3 V, with the voltages R69 forbids. -/
def parseBanks (bs : List Byte) : Option (List Nat) :=
  let b := bs.map (·.toNat)
  if bs.length = 24 && b.all (· ≤ 2) && [12, 13, 14, 15].all (fun i => b.getD i 0 ≠ 2) && b.getD bankSYB 0 = 1
  then some b else none

end Sys2Proof.Machine
end

