-- ==== Sys2Proof/Machine/Program.lean ====
section
/-! DEFINITION. Channel programs (R215, R217 to R226) read from their bytes, and the program check of R227. -/

namespace Sys2Proof.Machine

/-- The bytes of a channel program. -/
abbrev Prog := List Byte

/-! ### Header (R217) -/
def Prog.mode (p : Prog) : Nat := fieldAt p 7 1
def Prog.fmax (p : Prog) : Nat := fieldAt p 8 1
def Prog.flags (p : Prog) : Nat := fieldAt p 9 1
def Prog.start8d (p : Prog) : Bool := p.flags.testBit 0
def Prog.addr4Pon (p : Prog) : Bool := p.flags.testBit 1
def Prog.holdEn (p : Prog) : Bool := p.flags.testBit 2
def Prog.alertMode (p : Prog) : Nat := bitsAt p.flags 3 2
def Prog.poisonFill (p : Prog) : Byte := BitVec.ofNat 8 (fieldAt p 10 1)
def Prog.espiFreq (p : Prog) : Nat := bitsAt (fieldAt p 11 1) 0 3
def Prog.espiIo (p : Prog) : Nat := bitsAt (fieldAt p 11 1) 3 2
def Prog.devLog2 (p : Prog) : Nat := fieldAt p 12 1
def Prog.pageLog2 (p : Prog) : Nat := fieldAt p 13 1
def Prog.regionCount (p : Prog) : Nat := fieldAt p 14 1
def Prog.jedec (p : Prog) : List Byte := slice p 16 (min (fieldAt p 24 1) 8)
/-- The action nibble of a class in GLOBAL_ACT. -/
def Prog.globalAct (p : Prog) (cls : Nat) : Nat := bitsAt (fieldAt p 28 8) (4 * cls) 4
def Prog.sfdpLen (p : Prog) : Nat := fieldAt p 36 2
def Prog.defFill (p : Prog) : Byte := BitVec.ofNat 8 (fieldAt p 38 1)
/-- The emulated device's size in bytes. -/
def Prog.devSize (p : Prog) : Nat := 2 ^ p.devLog2
/-- The program page in bytes. -/
def Prog.pageSize (p : Prog) : Nat := 2 ^ p.pageLog2

/-! ### Decode rows (R218) -/

/-- Row `k` of the decode table, its eight bytes. -/
def Prog.row (p : Prog) (k : Nat) : List Byte := slice p (64 + 8 * k) 8

/-- Bits of byte `b` of a decode row. -/
def rowBits (r : List Byte) (b lo wid : Nat) : Nat := bitsAt (fieldAt r b 1) lo wid
def rowClass (r : List Byte) : Nat := rowBits r 0 0 4
def rowAlert (r : List Byte) : Bool := rowBits r 0 4 1 = 1
def rowNeedsQe (r : List Byte) : Bool := rowBits r 0 5 1 = 1
def rowBusyOk (r : List Byte) : Bool := rowBits r 0 6 1 = 1
def rowSt1s (r : List Byte) : Bool := rowBits r 1 0 1 = 1
def rowStQpi (r : List Byte) : Bool := rowBits r 1 1 1 = 1
def rowSt8d (r : List Byte) : Bool := rowBits r 1 2 1 = 1
def rowAddr (r : List Byte) : Nat := rowBits r 2 0 3
def rowAddrLines (r : List Byte) : Nat := rowBits r 2 4 2
def rowModeBits (r : List Byte) : Bool := rowBits r 2 6 1 = 1
def rowWait (r : List Byte) : Nat := rowBits r 3 0 6
def rowDir (r : List Byte) : Nat := rowBits r 4 0 2
def rowDataLines (r : List Byte) : Nat := rowBits r 4 2 2
def rowArg (r : List Byte) : Nat := fieldAt r 5 1
def rowCont (r : List Byte) : Nat := fieldAt r 6 1
def rowContEn (r : List Byte) : Bool := rowBits r 7 0 1 = 1
def rowNeedsWel (r : List Byte) : Bool := rowBits r 7 1 1 = 1

/-! ### Region table (R222) -/

/-- One region entry of a program. -/
structure PRegion where
  start : Nat
  length : Nat
  act : Nat
  fill : Byte
  deriving DecidableEq, Repr

/-- Region entry `j`. -/
def Prog.region (p : Prog) (j : Nat) : PRegion :=
  let o := 2112 + 16 * j
  { start := fieldAt p o 4, length := fieldAt p (o + 4) 4, act := fieldAt p (o + 8) 2
    fill := BitVec.ofNat 8 (fieldAt p (o + 10) 1) }

/-- The region entry that contains a channel address, with its index. -/
def Prog.regionAt (p : Prog) (a : Nat) : Option (Nat × PRegion) :=
  ((List.range p.regionCount).map fun j => (j, p.region j)).find? fun (_, r) =>
    r.start ≤ a && a < r.start + r.length

/-- The action nibble of a region for class 0 READ, 1 PROGRAM or 2 ERASE_SECTOR. -/
def PRegion.nibble (r : PRegion) (cls : Nat) : Nat := bitsAt r.act (4 * cls) 4

/-! ### Status model (R224) -/
def Prog.sm (p : Prog) (off n : Nat) : Nat := fieldAt p (3136 + off) n
def Prog.regCount (p : Prog) : Nat := p.sm 0 1
def Prog.earReg (p : Prog) : Nat := p.sm 1 1
def Prog.smReset (p : Prog) (r : Nat) : Nat := p.sm (4 + r) 1
def Prog.wmask (p : Prog) (r : Nat) : Nat := p.sm (8 + r) 1
def Prog.nvmask (p : Prog) (r : Nat) : Nat := p.sm (12 + r) 1
/-- Role byte `i`: 0 WIP, 1 WEL, 2 PFAIL, 3 EFAIL, 4 PSUS, 5 ESUS, 6 ADDR4, 7 QE, 8 SRP, 9 QPI, 10 OCT8D. -/
def Prog.role (p : Prog) (i : Nat) : Nat := p.sm (16 + i) 1
def roleWIP : Nat := 0
def roleWEL : Nat := 1
def rolePFAIL : Nat := 2
def roleEFAIL : Nat := 3
def rolePSUS : Nat := 4
def roleESUS : Nat := 5
def roleADDR4 : Nat := 6
def roleQE : Nat := 7
def roleSRP : Nat := 8
def roleQPI : Nat := 9
def roleOCT8D : Nat := 10
/-- A role is present. -/
def Prog.hasRole (p : Prog) (i : Nat) : Bool := p.role i ≠ 0xFF
def Prog.tPP (p : Prog) : Nat := p.sm 32 4
def Prog.tSE4 (p : Prog) : Nat := p.sm 36 4
def Prog.tSE32 (p : Prog) : Nat := p.sm 40 4
def Prog.tSE64 (p : Prog) : Nat := p.sm 44 4
def Prog.tCE (p : Prog) : Nat := p.sm 48 4
def Prog.tSUS (p : Prog) : Nat := p.sm 52 2
def Prog.tRES (p : Prog) : Nat := p.sm 54 2
def Prog.tWRSR (p : Prog) : Nat := p.sm 56 4
/-- The SFDP image. -/
def Prog.sfdp (p : Prog) : List Byte := slice p 3200 p.sfdpLen

/-! ### Modes and latency (R181, R187) -/
def modeSPI : Nat := 1
def modeXSPI : Nat := 2
def modeESPI : Nat := 3

/-- eSPI frequencies in MHz by ESPI_FREQ (R211). -/
def espiFreqs : List Nat := [20, 25, 33, 50, 66]

/-- ceil(t ns × f MHz): the minimum wait cycles of R187. -/
def minWait (ns f : Nat) : Nat := (ns * f + 999) / 1000

/-- The minimum for the hot tier or table RAM, and for the DRAM shadow. -/
def Prog.minPin (p : Prog) : Nat := if p.mode = modeSPI || p.mode = modeXSPI then minWait 40 p.fmax else 0
def Prog.minShadow (p : Prog) : Nat := if p.mode = modeSPI || p.mode = modeXSPI then minWait 220 p.fmax else 0

/-! ### The program check of R227 -/

/-- FMAX is 1 to the mode's limit, and in eSPI the ESPI_FREQ value (R181, R217); an unused channel has no host clock. -/
def fmaxOk (p : Prog) : Bool :=
  if p.mode = modeSPI then 1 ≤ p.fmax && p.fmax ≤ 104
  else if p.mode = modeXSPI then 1 ≤ p.fmax && p.fmax ≤ 200
  else if p.mode = modeESPI then p.fmax = espiFreqs.getD p.espiFreq 0 else true

/-- Item 1: R217, the length and the channel. -/
def progItem1 (p : Prog) (len ch : Nat) : Bool :=
  slice p 0 4 = [0x48, 0x58, 0x54, 0x50] && fieldAt p 4 2 = 1 && fieldAt p 6 1 = ch
    && p.mode ≤ 3 && p.flags < 32 && p.alertMode ≤ 1
    && (if p.mode = modeESPI then p.espiFreq ≤ 4 && p.espiIo ≤ 2 && fieldAt p 11 1 < 32 else zeroAt p 11 1)
    && fmaxOk p && 16 ≤ p.devLog2 && p.devLog2 ≤ 29 && (p.pageLog2 = 8 || p.pageLog2 = 9)
    && p.regionCount ≤ 64 && zeroAt p 15 1 && 1 ≤ fieldAt p 24 1 && fieldAt p 24 1 ≤ 8 && zeroAt p 25 3
    && p.sfdpLen ≤ 1920 && p.sfdpLen % 4 = 0 && zeroAt p 39 5 && zeroAt p 48 16
    && len = 3200 + p.sfdpLen && p.length = len

/-- Item 2: the mode in the channel's bank and FMAX (R39, R69, R181). -/
def progItem2 (p : Prog) (bank : Nat) : Bool :=
  (p.mode = 0 || bank ≠ 0) && (!(p.mode = modeXSPI || p.mode = modeESPI) || bank = 1)
    && fmaxOk p

/-- ARG is valid for its class (R220, R239); the register index bound is item 7. -/
def argOk (mode cls arg : Nat) : Bool :=
  match cls with
  | 2 => arg = 0x0C || arg = 0x0F || arg = 0x10
  | 6 => true
  | 7 => true
  | 13 => arg ≤ 1
  | 14 => 1 ≤ arg && arg ≤ 7 && (arg ≠ 3 || mode = modeSPI) && (arg ≠ 5 || mode = modeXSPI)
  | _ => arg = 0

/-- A decode row obeys R218 and R219 (item 3). -/
def rowOk (mode : Nat) (r : List Byte) : Bool :=
  rowBits r 0 7 1 = 0 && rowBits r 1 3 5 = 0 && rowBits r 2 3 1 = 0 && rowBits r 2 7 1 = 0
    && rowBits r 3 6 2 = 0 && rowBits r 4 4 4 = 0 && rowBits r 7 2 6 = 0
    && [0, 3, 4, 7].contains (rowAddr r) && rowAddrLines r ≠ 3 && rowDir r ≠ 3 && rowDataLines r ≠ 3
    && argOk mode (rowClass r) (rowArg r)
    && (rowClass r ≠ 15 || (rowBits r 0 5 3 = 0 && zeroAt r 1 7))
    && (!rowSt8d r || (!rowSt1s r && !rowStQpi r && rowAddrLines r = 0 && rowDataLines r = 0))

/-- A row's shape is within R182 (item 4). -/
def shapeOk (mode : Nat) (r : List Byte) : Bool :=
  (!rowStQpi r || (mode = modeSPI && rowAddrLines r = 2 && rowDataLines r = 2))
    && (!rowSt8d r || (mode = modeXSPI && (rowAddr r = 0 || rowAddr r = 4) && !rowModeBits r))
    && (!(mode = modeXSPI && rowSt1s r) || (rowAddrLines r = 0 && rowDataLines r = 0))
    && (!(mode = modeSPI && rowSt1s r && rowAddr r ≠ 0 && rowDir r ≠ 0)
        || [(0, 0), (0, 1), (1, 1), (0, 2), (2, 2)].contains (rowAddrLines r, rowDataLines r))

/-- Some READ nibble of the program is SERVE_SHADOW (item 5). -/
def Prog.readsShadow (p : Prog) : Bool :=
  p.globalAct 0 % 8 = 1 || (List.range p.regionCount).any fun j => (p.region j).nibble 0 % 8 = 1

/-- A read row waits at least the minimum of R187 for its action (item 5). -/
def waitOk (p : Prog) (r : List Byte) : Bool :=
  if rowClass r = 9 then p.minPin ≤ rowWait r
  else if rowClass r = 0 then (if p.readsShadow then p.minShadow else p.minPin) ≤ rowWait r
  else true

/-- The role bytes of R224: present roles name a register below REG_COUNT, no two the same bit. -/
def rolesOk (p : Prog) : Bool :=
  let rs := ((List.range 11).map p.role).filter (· ≠ 0xFF)
  rs.all (fun b => b / 8 < p.regCount) && noDup rs

/-- R224 and R225 (item 7). -/
def statusOk (p : Prog) : Bool :=
  (if p.mode = modeESPI then p.regCount ≤ 4 else 1 ≤ p.regCount && p.regCount ≤ 4)
    && (p.earReg = 0xFF || p.earReg < p.regCount) && p.sm 2 2 = 0 && p.sm 27 1 = 0xFF && p.sm 28 4 = 0
    && p.tCE ≤ 600000000 && p.sm 60 4 = 0 && rolesOk p
    && (!(p.mode = modeSPI || p.mode = modeXSPI) || (p.hasRole roleWIP && p.hasRole roleWEL))
    && [roleWIP, roleWEL, roleADDR4, roleQPI, roleOCT8D, rolePSUS, roleESUS].all (fun i =>
        !p.hasRole i || !(p.wmask (p.role i / 8)).testBit (p.role i % 8))

/-- The status register that a READ_STATUS or WRITE_STATUS row names exists (item 7). -/
def rowRegOk (p : Prog) (r : List Byte) : Bool :=
  !(rowClass r = 6 || rowClass r = 7) || rowArg r < p.regCount

/-- The region entries obey R222 and R223 (item 8). -/
def regionsOk (p : Prog) : Bool :=
  let rs := (List.range p.regionCount).map p.region
  rs.all (fun r => r.start % 4096 = 0 && r.length % 4096 = 0 && 4096 ≤ r.length && r.act < 4096
      && r.start + r.length ≤ p.devSize)
    && (List.range p.regionCount).all (fun j => fieldAt p (2112 + 16 * j + 11) 1 = 0
        && (j = 0 || (p.region (j - 1)).start + (p.region (j - 1)).length ≤ (p.region j).start))
    && ((rs.filter fun r => [0, 1, 2].any fun c => r.nibble c % 8 = 3).length ≤ 1)
    && zeroAt p (2112 + 16 * p.regionCount) (16 * (64 - p.regionCount))
    && (p.globalAct 3 % 8 ≠ 2
        || ((rs.map (·.length)).foldl (· + ·) 0 = p.devSize && rs.all fun r => r.nibble 2 % 8 = 2))

/-- Primary actions permitted to a class (R220). -/
def permitted (cls : Nat) : List Nat :=
  match cls with
  | 0 => [0, 1, 4, 6]
  | 1 => [2, 3, 4, 5]
  | 2 => [2, 3, 4, 5]
  | 3 => [2, 4, 5]
  | 6 => [6, 4]
  | 7 => [6, 4, 5]
  | 8 => [6, 4]
  | 9 => [6, 4]
  | 15 => [5]
  | _ => [6, 5]

/-- Every nibble is permitted (item 9). -/
def nibblesOk (p : Prog) : Bool :=
  (List.range 16).all (fun c => (permitted c).contains (p.globalAct c % 8))
    && (List.range p.regionCount).all fun j =>
        [0, 1, 2].all fun c => (permitted c).contains ((p.region j).nibble c % 8)

/-- The rows in force of an eSPI program are the pseudo-rows 1 to 3 (item 10). -/
def espiRowsOk (p : Prog) : Bool :=
  (List.range 256).all fun k =>
    let r := p.row k
    if 1 ≤ k && k ≤ 3 then rowClass r = k - 1 && rowBits r 0 5 3 = 0 && zeroAt r 1 4 && zeroAt r 6 2
    else rowClass r = 15

/-- Parameter header `k` of an SFDP image: its table's pointer and length in bytes. -/
def sfdpPtr (f : List Byte) (k : Nat) : Nat := fieldAt f (8 + 8 * k + 4) 3
def sfdpTabLen (f : List Byte) (k : Nat) : Nat := 4 * fieldAt f (8 + 8 * k + 3) 1

/-- The density of a basic flash parameter table in bits (JESD216 DWORD 2). -/
def sfdpDensity (f : List Byte) (ptr : Nat) : Nat :=
  let d := fieldAt f (ptr + 4) 4
  if d < 2 ^ 31 then d + 1 else 2 ^ (d - 2 ^ 31)

/-- The SFDP image meets R226 (item 11). -/
def sfdpOk (p : Prog) : Bool :=
  if p.mode = modeESPI then p.sfdpLen = 0
  else if p.mode = 0 then true
  else
    let f := p.sfdp
    let nph := fieldAt f 6 1
    let area := 8 + 8 * (nph + 1)
    16 ≤ p.sfdpLen && slice f 0 4 = [0x53, 0x46, 0x44, 0x50] && area ≤ p.sfdpLen
      && (List.range (nph + 1)).all (fun k => area ≤ sfdpPtr f k && sfdpPtr f k + sfdpTabLen f k ≤ p.sfdpLen)
      && sfdpDensity f (sfdpPtr f 0) = 8 * p.devSize

/-- The check index of R227 of a program for channel `ch` in a bank declared `bank`: the first failing item, 0 when
every item holds. -/
def progCheck (p : Prog) (len ch bank : Nat) : Nat :=
  let rows := (List.range 256).map p.row
  if !progItem1 p len ch then 1
  else if !progItem2 p bank then 2
  else if !rows.all (rowOk p.mode) then 3
  else if !rows.all (shapeOk p.mode) then 4
  else if !(p.mode = modeESPI || rows.all (waitOk p)) then 5
  else if !rows.all (fun r => !rowContEn r || rowModeBits r) then 6
  else if !(statusOk p && rows.all (rowRegOk p)) then 7
  else if !regionsOk p then 8
  else if !nibblesOk p then 9
  else if !(p.mode ≠ modeESPI || espiRowsOk p) then 10
  else if !sfdpOk p then 11
  else 0

/-! ### Section 0x0008 (R215) -/

/-- The programs of the channel-programs section, by channel, each passing R227 in its declared bank. -/
def parsePrograms (bs : List Byte) (banks : List Nat) : Option (List (Nat × Prog)) :=
  let n := fieldAt bs 0 2
  let ent := (List.range n).map fun i =>
    (fieldAt bs (8 + 8 * i) 1, fieldAt bs (10 + 8 * i) 2, fieldAt bs (12 + 8 * i) 4)
  let ok := 1 ≤ n && n ≤ 96 && zeroAt bs 2 6
    && (List.range n).all (fun i =>
        let (c, l, o) := ent.getD i (0, 0, 0)
        let (c', l', o') := ent.getD (i - 1) (0, 0, 0)
        c < 96 && zeroAt bs (9 + 8 * i) 1 && 3200 ≤ l && l ≤ 5120 && o % 8 = 0 && 8 + 8 * n ≤ o
          && o + l ≤ bs.length && (i = 0 || (c' < c && o' + l' ≤ o)))
  if ok then
    let ps := ent.map fun (c, l, o) => (c, slice bs o l)
    if ps.all fun (c, p) => progCheck p p.length c (banks.getD (bankOfChan c) 0) = 0 then some ps else none
  else none

/-- A channel is not declared unused (R215). -/
def chanUsed (ps : List (Nat × Prog)) (banks : List Nat) (ch : Nat) : Bool :=
  banks.getD (bankOfChan ch) 0 ≠ 0 && ps.any fun (c, p) => c = ch && p.mode ≠ 0

end Sys2Proof.Machine
end

