-- ==== Sys2Proof/Machine/Sections.lean ====
section
/-! DEFINITION. The remaining sections of the device configuration image, read from bytes: F-bus map (R247, R248),
scrub bounds (R281), management transport settings (R350), Tenant Binding Table (R338), quotas (R415), Lodge rule
table (R399, R400); the image itself (R68) and the boot directory (R64). -/

namespace Sys2Proof.Machine

/-! ### F-bus map -/

/-- One bus entry of the F-bus map. -/
structure FbBus where
  used : Bool
  sck : Nat
  trimMin : Nat
  trimMax : Nat
  track : Bool
  deriving DecidableEq, Repr

/-- One device entry. -/
structure FbDev where
  bus : Nat
  cs : Nat
  sizeLog2 : Nat
  idLen : Nat
  jedec : List Byte
  deriving DecidableEq, Repr

/-- One partition entry; KIND is 1 SOURCE, 2 NURSERY, 3 LEDGER. -/
structure FbPart where
  device : Nat
  kind : Nat
  wt : Bool
  mirror : Nat
  offset : Nat
  length : Nat
  deriving DecidableEq, Repr

/-- The F-bus map and its partitions. -/
structure FbMap where
  buses : List FbBus
  devs : List FbDev
  parts : List FbPart
  deriving DecidableEq, Repr

def FbMap.empty : FbMap := ⟨[], [], []⟩

/-- Length of a partition, none when it does not exist. -/
def FbMap.partLen (m : FbMap) (p : Nat) : Option Nat := m.parts[p]?.map (·.length)
/-- The bus a partition lies on. -/
def FbMap.busOfPart (m : FbMap) (p : Nat) : Nat :=
  match m.parts[p]? with
  | some q => (m.devs[q.device]?.map (·.bus)).getD 0
  | none => 0
/-- The index of the LEDGER partition. -/
def FbMap.ledger (m : FbMap) : Option Nat := m.parts.findIdx? (·.kind = 3)

def parseBus (bs : List Byte) (mask b : Nat) : Option FbBus :=
  let o := 16 + 8 * b
  let u := mask.testBit b
  let e : FbBus :=
    { used := u, sck := fieldAt bs o 1, trimMin := fieldAt bs (o + 1) 1, trimMax := fieldAt bs (o + 2) 1
      track := (fieldAt bs (o + 3) 1).testBit 0 }
  let ok := zeroAt bs (o + 4) 4
    && if u then 25 ≤ e.sck && e.sck ≤ 200 && e.trimMin ≤ e.trimMax && e.trimMax ≤ 127 && fieldAt bs (o + 3) 1 ≤ 1
       else zeroAt bs o 4
  if ok then some e else none

def parseDev (bs : List Byte) (mask d : Nat) : Option FbDev :=
  let o := 272 + 16 * d
  let e : FbDev :=
    { bus := fieldAt bs o 1, cs := fieldAt bs (o + 1) 1, sizeLog2 := fieldAt bs (o + 2) 1
      idLen := fieldAt bs (o + 3) 1, jedec := slice bs (o + 4) 8 }
  if e.bus < 32 && mask.testBit e.bus && e.cs < 4 && 20 ≤ e.sizeLog2 && e.sizeLog2 ≤ 32 && e.idLen ≤ 8
      && zeroAt bs (o + 12) 4
  then some e else none

def parsePart (bs : List Byte) (o devs : Nat) : Option FbPart :=
  let e : FbPart :=
    { device := fieldAt bs o 1, kind := fieldAt bs (o + 1) 1, wt := (fieldAt bs (o + 2) 1).testBit 0
      mirror := fieldAt bs (o + 4) 2, offset := fieldAt bs (o + 8) 4, length := fieldAt bs (o + 12) 4 }
  if e.device < devs && 1 ≤ e.kind && e.kind ≤ 3 && fieldAt bs (o + 2) 1 ≤ 1 && zeroAt bs (o + 3) 1
      && zeroAt bs (o + 6) 2 && e.offset % 65536 = 0 && e.length % 65536 = 0 && 65536 ≤ e.length
  then some e else none

/-- No two partitions of one device overlap (R248). -/
def partsDisjoint : List FbPart → Bool
  | [] => true
  | p :: t => t.all (fun q => !(p.device = q.device && overlap p.offset p.length q.offset q.length))
      && partsDisjoint t

/-- The F-bus map of a section (R247, R248), against the bank declarations and the domain table. -/
def parseFbMap (bs : List Byte) (banks : List Nat) (doms : List Dom) : Option FbMap :=
  let mask := fieldAt bs 0 4
  let nd := fieldAt bs 4 2
  let np := fieldAt bs 6 2
  if 1 ≤ nd && nd ≤ 128 && 1 ≤ np && np ≤ 512 && zeroAt bs 8 8 && bs.length = 272 + 16 * (nd + np) then
    match allSome ((List.range 32).map (parseBus bs mask)), allSome ((List.range nd).map (parseDev bs mask)),
        allSome ((List.range np).map fun p => parsePart bs (272 + 16 * nd + 16 * p) nd) with
    | some buses, some devs, some parts =>
      let ok := (List.range 32).all (fun b => !mask.testBit b || banks.getD (bankOfFb b) 0 ≠ 0)
        && noDup (devs.map fun d => 4 * d.bus + d.cs) && partsDisjoint parts
        && parts.all (fun p => p.offset + p.length ≤ 2 ^ ((devs[p.device]?.map (·.sizeLog2)).getD 0)
            && (p.kind = 1 || (!p.wt && p.mirror = 0xFFFF))
            && (p.mirror = 0xFFFF || match parts[p.mirror]? with
                | some q => q.kind = 2 && q.length = p.length && q.device ≠ p.device
                | none => false)
            && (p.kind ≠ 3 || (0x4000000 ≤ p.length && p.length % 131072 = 0)))
        && (parts.filter (·.kind = 3)).length ≤ 1
        && doms.all (fun d => match parts[d.manPart]? with | some q => q.kind = 1 | none => false)
      if ok then some ⟨buses, devs, parts⟩ else none
    | _, _, _ => none
  else none

/-! ### Scrub bounds -/

/-- One class's scrub bounds (R281). -/
structure Bound where
  scrub : Bool
  adapt : Bool
  rowLimit : Nat
  upThresh : Nat
  pMin : Nat
  pMax : Nat
  pInit : Nat
  bucket : Nat
  leakMs : Nat
  deriving DecidableEq, Repr

/-- The minimum sweep of a class in seconds (R265); DRAM by the capacity trained, 2 being 32 GiB. -/
def minSweep (cls cap : Nat) : Nat := if cls = 13 then (if cap = 2 then 60 else 30) else 1

def parseBound (bs : List Byte) (c cap : Nat) : Option Bound :=
  let o := 8 + 16 * c
  let fl := fieldAt bs (o + 1) 1
  let e : Bound :=
    { scrub := fl.testBit 0, adapt := fl.testBit 1, rowLimit := fieldAt bs (o + 2) 1
      upThresh := fieldAt bs (o + 3) 1, pMin := fieldAt bs (o + 4) 2, pMax := fieldAt bs (o + 6) 2
      pInit := fieldAt bs (o + 8) 2, bucket := fieldAt bs (o + 10) 2, leakMs := fieldAt bs (o + 12) 2 }
  let ok := fieldAt bs o 1 = c && fl < 4
    && (if 12 ≤ c then e.rowLimit = 0 else 1 ≤ e.rowLimit && e.rowLimit ≤ 15) && 1 ≤ e.upThresh
    && minSweep c cap ≤ e.pMin && e.pMin ≤ e.pMax && e.pMin ≤ e.pInit && e.pInit ≤ e.pMax
    && 2 ≤ e.bucket && 1 ≤ e.leakMs && zeroAt bs (o + 14) 2 && (!(8 ≤ c && c ≤ 10) || e.scrub)
  if ok then some e else none

/-- The 14 entries of the scrub bounds section; the index of the first failing entry otherwise. -/
def parseBounds (bs : List Byte) (cap : Nat) : Option (List Bound) :=
  if bs.length = 232 && fieldAt bs 0 1 = 14 && fieldAt bs 1 1 = 16 && zeroAt bs 2 6 then
    allSome ((List.range 14).map fun c => parseBound bs c cap)
  else none

/-! ### Management transport settings -/

/-- One I3C or SMBus port of the transport settings. -/
structure PortSet where
  mode : Nat
  addr : Nat
  eid : Nat
  speed : Nat
  deriving DecidableEq, Repr

/-- The port's role without the Kiosk permission: 0 off, 1 I3C target, 2 I3C controller, 3 SMBus target, 4 SMBus
target and controller. -/
def PortSet.role (p : PortSet) : Nat := p.mode % 128
def PortSet.kiosk (p : PortSet) : Bool := p.mode.testBit 7

/-- The management transport settings (R350). -/
structure Settings where
  pcieEn : Bool
  pcieEid : Nat
  txMtu : Nat
  ports : List PortSet
  espiEid : Nat
  hbeat : Nat
  reasmMs : Nat
  sessions : Nat
  deriving DecidableEq, Repr

def eidOk (e : Nat) : Bool := e = 0 || (8 ≤ e && e ≤ 0xFE)

def parsePort (bs : List Byte) (k mgb : Nat) : Option PortSet :=
  let o := 8 + 4 * k
  let p : PortSet :=
    { mode := fieldAt bs o 1, addr := fieldAt bs (o + 1) 1, eid := fieldAt bs (o + 2) 1, speed := fieldAt bs (o + 3) 1 }
  let ok := p.role ≤ 4
    && 8 ≤ p.addr && p.addr ≤ 0x77 && (p.role = 0 || mgb ≠ 0)
    && eidOk p.eid && (if p.role = 3 || p.role = 4 then p.speed ≤ 2 else if p.role = 0 then p.speed ≤ 3 else p.speed = 3)
    && !(mgb = 2 && p.speed = 3)
  if ok then some p else none

/-- The settings of a section, with the declared voltage of the MGB bank. -/
def parseSettings (bs : List Byte) (mgb : Nat) : Option Settings :=
  match allSome ((List.range 8).map fun k => parsePort bs k mgb) with
  | some ports =>
    let s : Settings :=
      { pcieEn := fieldAt bs 0 1 = 1, pcieEid := fieldAt bs 1 1, txMtu := fieldAt bs 2 2, ports
        espiEid := fieldAt bs 40 1, hbeat := fieldAt bs 41 1, reasmMs := fieldAt bs 42 2
        sessions := fieldAt bs 44 2 }
    if bs.length = 64 && fieldAt bs 0 1 ≤ 1 && eidOk s.pcieEid && 64 ≤ s.txMtu && s.txMtu ≤ 256
        && s.txMtu % 4 = 0 && zeroAt bs 4 4 && eidOk s.espiEid && 10 ≤ s.reasmMs && s.reasmMs ≤ 1000
        && 1 ≤ s.sessions && s.sessions ≤ 512 && zeroAt bs 46 18
    then some s else none
  | none => none

/-! ### Tenant Binding Table -/

/-- One entry of the Tenant Binding Table (R338). -/
structure Tbe where
  tn : Nat
  transport : Nat
  port : Nat
  source : Nat
  domain : Nat
  perm : Nat
  sessions : Nat
  deriving DecidableEq, Repr

def Tbe.permState (t : Tbe) : Bool := t.perm.testBit 0
def Tbe.permControl (t : Tbe) : Bool := t.perm.testBit 1
def Tbe.permService (t : Tbe) : Bool := t.perm.testBit 2
def Tbe.permAttest (t : Tbe) : Bool := t.perm.testBit 3
def Tbe.permUpdate (t : Tbe) : Bool := t.perm.testBit 4
def Tbe.permOwner (t : Tbe) : Bool := t.perm.testBit 5

def parseTbe (bs : List Byte) (e : Nat) (doms : List Dom) (st : Settings) : Option Tbe :=
  let o := 8 + 16 * e
  let t : Tbe :=
    { tn := fieldAt bs o 2, transport := fieldAt bs (o + 2) 1, port := fieldAt bs (o + 3) 1
      source := fieldAt bs (o + 4) 2, domain := fieldAt bs (o + 6) 1, perm := fieldAt bs (o + 7) 1
      sessions := fieldAt bs (o + 8) 1 }
  let portOk :=
    match t.transport with
    | 1 => t.port = 0 && st.pcieEn
    | 2 => t.port < 8 && t.source = 0xFFFF
        && match st.ports[t.port]? with | some p => (p.role = 1 || p.role = 2) && p.kiosk | none => false
    | 3 => t.port < 8 && t.source = 0xFFFF
        && match st.ports[t.port]? with | some p => (p.role = 3 || p.role = 4) && p.kiosk | none => false
    | 4 => t.source < 256
        && (t.port = 0xFF || t.port = 9 || (t.port = 0 && st.pcieEn)
            || (1 ≤ t.port && t.port ≤ 8 && match st.ports[t.port - 1]? with
                | some p => p.role ≠ 0
                | none => false))
    | _ => false
  let ok := t.tn < 512 && portOk && (t.domain = 0xFF || doms.any fun d => d.id = t.domain) && t.perm < 64
    && (t.transport = 4 || t.perm < 8) && t.sessions ≤ 64 && (t.permAttest || t.sessions = 0) && zeroAt bs (o + 9) 7
  if ok then some t else none

/-- Two entries could match one access, counting wildcards (R338). -/
def tbeClash (a b : Tbe) : Bool :=
  a.transport = b.transport
    && match a.transport with
      | 1 => a.source = b.source || a.source = 0xFFFF || b.source = 0xFFFF
      | 4 => a.source = b.source && (a.port = b.port || a.port = 0xFF || b.port = 0xFF)
      | _ => a.port = b.port

/-- The first index of a list at which `p` holds. -/
def firstIdx {α : Type} (p : α → Bool) (l : List α) : Option Nat := l.findIdx? p

/-- The Tenant Binding Table, or the index of the failing entry (R338, R364). -/
def parseTbt (bs : List Byte) (doms : List Dom) (st : Settings) : Except Nat (List Tbe) :=
  let n := fieldAt bs 0 2
  if !(1 ≤ n && n ≤ 512 && fieldAt bs 2 1 = 16 && zeroAt bs 3 5 && bs.length = 8 + 16 * n) then .error 0
  else
    let es := (List.range n).map fun e => parseTbe bs e doms st
    let badAt (i : Nat) : Bool :=
      match es.getD i none with
      | none => true
      | some t =>
        (i ≠ 0 && match es.getD (i - 1) none with | some u => decide (t.tn ≤ u.tn) | none => false)
          || (es.take i).any fun u => match u with | some u => tbeClash u t | none => false
    match (List.range n).find? badAt with
    | some i => .error i
    | none =>
      match allSome es with
      | some ts => if (ts.map (·.sessions)).foldl (· + ·) 0 ≤ st.sessions then .ok ts else .error (n - 1)
      | none => .error 0

/-! ### Quotas -/

/-- The weight, rate and burst of a tenant. -/
structure Quota where
  weight : Nat
  rate : Nat
  burst : Nat
  deriving DecidableEq, Repr

/-- The quotas section: the default and the entries by tenant (R415). -/
structure Quotas where
  dflt : Quota
  ents : List (Nat × Quota)
  deriving DecidableEq, Repr

def quotaOk (q : Quota) : Bool :=
  1 ≤ q.weight && q.weight ≤ 255 && 1 ≤ q.rate && q.rate ≤ 10000 && 1 ≤ q.burst && q.burst ≤ 64

def parseQuotas (bs : List Byte) (tbt : List Tbe) : Option Quotas :=
  let n := fieldAt bs 0 2
  let d : Quota := { weight := fieldAt bs 3 1, rate := fieldAt bs 4 2, burst := fieldAt bs 6 1 }
  let es := (List.range n).map fun e =>
    let o := 8 + 8 * e
    (fieldAt bs o 2, { weight := fieldAt bs (o + 2) 1, rate := fieldAt bs (o + 4) 2, burst := fieldAt bs (o + 3) 1 : Quota })
  if n ≤ 512 && fieldAt bs 2 1 = 8 && zeroAt bs 7 1 && bs.length = 8 + 8 * n && quotaOk d
      && (List.range n).all (fun e => zeroAt bs (8 + 8 * e + 6) 2
          && (e = 0 || (es.getD (e - 1) (0, d)).1 < (es.getD e (0, d)).1))
      && es.all (fun (t, q) => t < 512 && quotaOk q && tbt.any fun b => b.tn = t)
  then some ⟨d, es⟩ else none

/-- A tenant's quota: its entry, or the DEF_ values. -/
def Quotas.of (q : Quotas) (tn : Nat) : Quota := ((q.ents.find? fun e => e.1 = tn).map (·.2)).getD q.dflt

/-! ### Lodge rule table -/

/-- One Lodge rule (R400). -/
structure LRule where
  source : Nat
  k : Nat
  n : Nat
  whenR : Nat
  action : Nat
  debounce : Nat
  deriving DecidableEq, Repr

/-- The Lodge rule table (R399, R400); temperatures are signed °C. -/
structure LRules where
  meshPeriod : Nat
  sensorPeriod : Nat
  tempLo : Int
  tempHi : Int
  vbatLo : Nat
  caseCfg : Nat
  transit : Nat
  rules : List LRule
  deriving DecidableEq, Repr

/-- A byte as a signed number. -/
def signed8 (v : Nat) : Int := if v < 128 then (v : Int) else (v : Int) - 256

def parseLRule (bs : List Byte) (r caseCfg transit : Nat) : Option LRule :=
  let o := 16 + 16 * r
  let e : LRule :=
    { source := fieldAt bs o 1, k := fieldAt bs (o + 1) 1, n := fieldAt bs (o + 2) 1, whenR := fieldAt bs (o + 3) 1
      action := fieldAt bs (o + 4) 1, debounce := fieldAt bs (o + 5) 1 }
  let srcOk := [0x01, 0x10, 0x11, 0x12, 0x13, 0x20, 0x21, 0x30, 0x31, 0x40].contains e.source
    && (!(0x10 ≤ e.source && e.source ≤ 0x13) || caseCfg.testBit (e.source - 0x10))
    && (e.source ≠ 0x40 || transit.testBit 0)
  let ok := srcOk && 1 ≤ e.k && e.k ≤ e.n && e.n ≤ 16 && 1 ≤ e.whenR && e.whenR ≤ 3
    && 1 ≤ e.action && e.action ≤ 15 && 1 ≤ e.debounce && e.debounce ≤ 8
    && (!(e.source = 1 || e.source = 0x31) || e.debounce = 1) && zeroAt bs (o + 6) 2 && zeroAt bs (o + 12) 4
  if ok then some e else none

/-- The Lodge rule table, or the index of the failing entry (R399, R400, R411). -/
def parseLRules (bs : List Byte) : Except Nat LRules :=
  let n := fieldAt bs 0 1
  let caseCfg := fieldAt bs 8 1
  let transit := fieldAt bs 9 1
  let lo := signed8 (fieldAt bs 4 1)
  let hi := signed8 (fieldAt bs 5 1)
  let vb := fieldAt bs 6 2
  let hdr := 1 ≤ n && n ≤ 32 && fieldAt bs 1 1 = 16 && 1 ≤ fieldAt bs 2 1 && 1 ≤ fieldAt bs 3 1
    && decide (-60 ≤ lo) && decide (lo ≤ 120) && decide (lo < hi) && decide (hi ≤ 125)
    && 2000 ≤ vb && vb ≤ 3600 && transit < 4 && zeroAt bs 10 6 && bs.length = 16 + 16 * n
  if !hdr then .error 0
  else
    let es := (List.range n).map fun r => parseLRule bs r caseCfg transit
    match firstIdx (·.isNone) es, allSome es with
    | none, some rs =>
      .ok { meshPeriod := fieldAt bs 2 1, sensorPeriod := fieldAt bs 3 1, tempLo := lo, tempHi := hi, vbatLo := vb
            caseCfg, transit, rules := rs }
    | i, _ => .error (i.getD 0)

/-! ### The device configuration image (R68) -/

/-- The configuration in force: every section of the device configuration image, checked. -/
structure Cfg where
  doms : List Dom
  pcls : List Pcl
  fb : FbMap
  tbt : List Tbe
  lodge : Option LRules
  bounds : List Bound
  quotas : Quotas
  progs : List (Nat × Prog)
  banks : List Nat
  settings : Option Settings
  deriving DecidableEq, Repr

/-- No configuration yet. -/
def Cfg.empty : Cfg :=
  { doms := [], pcls := [], fb := FbMap.empty, tbt := [], lodge := none, bounds := []
    quotas := ⟨⟨1, 1, 1⟩, []⟩, progs := [], banks := [], settings := none }

/-- One entry of the section directory. -/
structure SecEnt where
  typ : Nat
  off : Nat
  len : Nat
  deriving DecidableEq, Repr

def secDir (img : List Byte) (n : Nat) : List SecEnt :=
  (List.range n).map fun k =>
    { typ := fieldAt img (16 + 16 * k) 2, off := fieldAt img (20 + 16 * k) 4, len := fieldAt img (24 + 16 * k) 4 }

def secsDisjoint : List SecEnt → Bool
  | [] => true
  | e :: t => t.all (fun f => !(0 < e.len && 0 < f.len && overlap e.off e.len f.off f.len)) && secsDisjoint t

/-- The header and directory rules of R68. -/
def cfgHeaderOk (img : List Byte) : Bool :=
  let n := fieldAt img 6 2
  let len := fieldAt img 8 4
  let es := secDir img n
  slice img 0 4 = [0x48, 0x58, 0x43, 0x46] && fieldAt img 4 2 = 1 && 10 ≤ n && n ≤ 32 && len ≤ img.length
    && zeroAt img 12 4 && zeroAt img len (img.length - len)
    && (List.range n).all (fun k => zeroAt img (18 + 16 * k) 2 && zeroAt img (28 + 16 * k) 4)
    && es.all (fun e => e.off % 8 = 0 && 16 + 16 * n ≤ e.off && e.off + e.len ≤ len
        && e.typ ≠ 0 && !(0x0B ≤ e.typ && e.typ ≤ 0xFF))
    && secsDisjoint es
    && (List.range 10).all (fun t => (es.filter fun e => e.typ = t + 1).length = 1)

/-- The bytes of the mandatory section of a type. -/
def secBytes (img : List Byte) (t : Nat) : List Byte :=
  match (secDir img (fieldAt img 6 2)).find? fun e => e.typ = t with
  | some e => slice img e.off e.len
  | none => []

/-- The configuration check of R68: the image's sections, or none when the check fails (MALFORMED). `cap` is the trained
DRAM capacity. -/
def parseCfg (img : List Byte) (cap : Nat) : Option Cfg :=
  if !cfgHeaderOk img then none
  else
    match parseBanks (secBytes img 9) with
    | none => none
    | some banks =>
      match parsePrograms (secBytes img 8) banks with
      | none => none
      | some progs =>
        match parseDomTable (secBytes img 1) (chanUsed progs banks) with
        | none => none
        | some doms =>
          match parsePclMap (secBytes img 2) doms banks, parseFbMap (secBytes img 3) banks doms,
              parseSettings (secBytes img 10) (banks.getD bankMGB 0) with
          | some pcls, some fb, some st =>
            match parseTbt (secBytes img 4) doms st, parseLRules (secBytes img 5), parseBounds (secBytes img 6) cap with
            | .ok tbt, .ok lodge, some bounds =>
              match parseQuotas (secBytes img 7) tbt with
              | some quotas =>
                some { doms, pcls, fb, tbt, lodge := some lodge, bounds, quotas, progs, banks, settings := some st }
              | none => none
            | _, _, _ => none
          | _, _, _ => none

/-! ### The boot directory (R64) -/

/-- The boot directory of a root configuration flash copy. -/
structure BootDir where
  fwManOff : Nat
  fwManLen : Nat
  fwOff : Nat
  fwLen : Nat
  cfgManOff : Nat
  cfgManLen : Nat
  cfgOff : Nat
  cfgLen : Nat
  logOff : Nat
  logLen : Nat
  sequence : Nat
  deriving DecidableEq, Repr

/-- One bit of the CRC-32 of IEEE 802.3, reflected form. -/
def crcBit (c : Nat) : Nat := if c % 2 = 1 then (c / 2) ^^^ 0xEDB88320 else c / 2

/-- The CRC-32 register after a byte string. -/
def crcReg : Nat → List Byte → Nat
  | c, [] => c
  | c, b :: bs =>
    crcReg (crcBit (crcBit (crcBit (crcBit (crcBit (crcBit (crcBit (crcBit (c ^^^ b.toNat))))))))) bs

/-- CRC-32 with the IEEE 802.3 polynomial. -/
def crc32 (bs : List Byte) : Nat := crcReg 0xFFFFFFFF bs ^^^ 0xFFFFFFFF

def rangesDisjoint : List (Nat × Nat) → Bool
  | [] => true
  | (a, n) :: t => t.all (fun (b, m) => !overlap a n b m) && rangesDisjoint t

/-- The boot directory of the first 64 bytes of a copy on a device of the given size (R64, check 1 of R65). -/
def parseBootDir (bs : List Byte) (devSize : Nat) : Option BootDir :=
  let d : BootDir :=
    { fwManOff := fieldAt bs 8 4, fwManLen := fieldAt bs 12 4, fwOff := fieldAt bs 16 4, fwLen := fieldAt bs 20 4
      cfgManOff := fieldAt bs 24 4, cfgManLen := fieldAt bs 28 4, cfgOff := fieldAt bs 32 4
      cfgLen := fieldAt bs 36 4, logOff := fieldAt bs 40 4, logLen := fieldAt bs 44 4
      sequence := fieldAt bs 48 8 }
  let rs := [(0, 64), (d.fwManOff, d.fwManLen), (d.fwOff, d.fwLen), (d.cfgManOff, d.cfgManLen), (d.cfgOff, d.cfgLen),
    (d.logOff, d.logLen)]
  let ok := slice bs 0 4 = [0x48, 0x58, 0x42, 0x44] && fieldAt bs 4 2 = 1 && fieldAt bs 6 2 = 64
    && fieldAt bs 60 4 = crc32 (slice bs 0 60) && zeroAt bs 56 4
    && 1 ≤ d.fwManLen && d.fwManLen ≤ 65536 && 4096 ≤ d.fwLen && d.fwLen ≤ 917504 && d.fwLen % 4096 = 0
    && 1 ≤ d.cfgManLen && d.cfgManLen ≤ 65536 && 4096 ≤ d.cfgLen && d.cfgLen ≤ 786432 && d.cfgLen % 4096 = 0
    && d.logLen % 65536 = 0 && 0x100000 ≤ d.logLen
    && rs.all (fun (o, n) => o % 4096 = 0 && o + n ≤ devSize) && rangesDisjoint rs
  if ok then some d else none

end Sys2Proof.Machine
end

