-- ==== Sys2Proof/Machine/State.lean ====
section
/-! DEFINITION. The state of the HX96 as plain data, its reset value, and the reasons for which a step can stop. Every
register of the register map has its one home in `State.regs`, a sparse table over their reset words; the groups below hold
what the spec gives the machine besides its registers. -/

namespace Sys2Proof.Machine

/-- The shared status codes of R11. -/
inductive Code where
  | ok | busyRetry | refusedQuota | refusedPolicy | refusedState | stale | resetAbort | poisoned | keyBad
  | keyAmbiguous | keyRevoked | verifyFail | versionExhausted | unpowered | aborted | malformed | notReady
  | timeout | internalFault
  deriving DecidableEq, Repr

/-- What a command returned at the interface it came through. -/
inductive Out where
  | none
  | word (w : Word)             -- a register read
  | busFault                    -- a bus access fault (R7, R9)
  | epWord (w : Word)           -- a PCIe completion with the EP bit set (R276)
  | bytes (bs : List Byte)      -- bytes shifted out at a channel port, or message bytes
  | code (c : Code)             -- a status code
  | retry (ms : Nat)            -- BUSY_RETRY with its retry-after time, of a command whose status register holds none (R14)
  | reply (c : Code) (data : List Byte)  -- an answer with a code and data
  | flashC (tag : Nat) (ok : Bool) (part : Nat) (data : List Byte)  -- an eSPI flash completion: 0 only, 1 first, 2 middle, 3 last part
  | unsupportedCmd              -- MCTP completion code ERROR_UNSUPPORTED_CMD (R349)
  | spdmError (e : SpdmErr)     -- an ERROR response of DSP0274 itself (R359)
  | mctp (port eid ch tag : Nat) (packets : List (List Byte)) (poisoned : Bool)   -- MCTP packets sent
  | pldm (e : PldmErr)          -- a completion code of DSP0267 itself (R368, R369)
  | flashWrites (ws : List (Nat × Nat × List Byte))   -- partition, offset and bytes that an update job wrote, in order (R373)
  | rootWrite (copy : Nat) (parts : List (Nat × List Byte × List Byte)) (seq : Option Nat) -- class, manifest and image written to a root configuration flash copy, its directory last with SEQUENCE (R70, R373, R375)
  | logWrite (erased : List Nat) (places : List Nat) (data : List Byte) -- log sectors erased, record positions programmed
  | nack                        -- an SMBus or I3C transfer NACKed at its PEC byte (R341)
  | noResponse                  -- eSPI NO_RESPONSE (R210)
  | deferred                    -- eSPI DEFER (R208)
  deriving DecidableEq, Repr

/-! ### Journal (R62, R422 to R428) -/

/-- A journal record before the chaining engine gives it SEQ and CHAIN (R422). -/
structure JRec where
  rtc : Nat := 0
  usec : Nat := 0
  cls : Nat
  code : Nat := 0
  event : Nat
  src : Nat
  flags : Nat := 0
  unit : Nat
  gen : Nat := 0
  data : List Byte := []
  deriving DecidableEq, Repr, Inhabited

/-- A record with its CHAIN, as the ring or the overflow holds it. -/
structure JHeld where
  body : JRec
  chain : List Byte
  inRing : Bool            -- in the ring, else in the overflow (R427)
  deriving DecidableEq, Repr

/-- The journal's stores: the pre-boot buffer (R62) with the counts of its LOST record, the intake FIFO, the records held
in ring and overflow by SEQ, the last CHAIN, and the command in progress. -/
structure Jnl where
  preboot : List JRec
  prebootLost : List Nat
  fifo : List JRec
  held : List (Nat × JHeld)
  chain : List Byte
  verify : Option (Nat × Nat)   -- first SEQ and count of the records being verified (R429)
  flushing : Bool
  bad : List Nat           -- ring places whose record reads as POISONED
  kj : List Byte           -- the journal key KJ (R424)
  logPos : Option Nat      -- record position of the next record in the log, once the first flush found it (R428)
  deriving DecidableEq, Repr

/-! ### Power, reset and the boot chain -/

/-- Where the start sequence of R61 stands. -/
inductive Stage where
  | held          -- in reset
  | reset1        -- step 1: reset ended
  | clocks        -- step 2: PLL locked
  | otp           -- step 3: OTP sensed
  | rom           -- steps 4 and 5: the ROM runs
  | passed        -- a copy passed
  | firmware      -- handed over to Belvedere firmware
  | noHandover    -- the ROM halts (R63, R67)
  | recovery      -- ROM recovery (R70)
  | testStart     -- production test start (R51)
  deriving DecidableEq, Repr

/-- What a passing copy gives: copy, security versions, key identifier, roots, lengths and images (R65, R77). -/
structure BootImg where
  copy : Nat
  fwSvn : Nat
  cfgSvn : Nat
  keyId : Nat
  fwRoot : List Byte
  cfgRoot : List Byte
  logOff : Nat
  logLen : Nat
  fwImg : List Byte
  cfgImg : List Byte
  deriving DecidableEq, Repr

/-- Power, pins, reset and the boot chain. -/
structure Boot where
  stage : Stage
  supplies : Nat            -- bit 0 VDD, 1 VDD_SRAM, 2 VDDIO_SYB valid, 3 SYS_PWRGD high
  pinLow : Bool             -- SYS_RST_N low
  testen : Bool             -- TESTEN as sampled at reset release
  causes : Nat              -- causes of the reset in progress, as SYSCTL_RSTCAUSE bits
  deferred : Option Nat     -- a device reset waiting for an atomic window, with its cause bit
  restart : Option Nat      -- a Belvedere restart in progress, with the copy it reads
  wdtRestart : Bool         -- that restart comes from the watchdog
  wdtEnd : Option Nat       -- microsecond at which the watchdog expires
  wdtLeft : Nat             -- microseconds left while the watchdog is frozen
  img : Option BootImg      -- the copy that passed
  cfg : Cfg                 -- the configuration in force
  otpBad : Bool             -- a checker self-test without handover failed (R63)
  vaultBad : Bool           -- the vault report at step 3 was not VALID (R73, R407)
  tableBad : Nat            -- bit x: the table RAM of plane x failed its checker self-test (R63)
  bvPair : Nat              -- running Belvedere pair
  bvDown : Bool             -- no Belvedere pair (R418 cause 2)
  tempHot : Bool            -- WARN may not set again yet (R446)
  handUsec : Nat            -- microsecond of the last handover
  floated : Nat             -- bit i: bank i is held in its reset state (R56) or suspended (R57)
  bootCopies : Nat          -- bit 0: copy A was read in this start, bit 1: copy B
  training : Nat            -- bit n: interface n is training
  trainCap : List Nat       -- capacity that each interface reported when it passed
  debugStart : Bool         -- this start runs under a debug level (R393)
  retrainBoth : Bool        -- the training in progress covers both interfaces
  cfgBus : Bool             -- the ROM has begun to read copy A, so that the balls of the root configuration flash left their reset levels (R41)
  deriving DecidableEq, Repr

/-! ### OTP (R279, R280, R377, R382) -/

/-- The OTP array as its reader sees it: words, torn records, zeroised words, and the four owner-key entries of words 16
to 63, whose layout inside the words spec/ does not give. -/
structure Otp where
  words : List (Nat × BitVec 64)
  torn : List Nat
  zeroised : List Nat
  keys : List (Option KeyEntry)
  deriving DecidableEq, Repr

/-! ### The Gatehouse -/

/-- The sequence a domain's lines run through (R108, R109, R111). -/
inductive Seq where
  | idle
  | rel (step : Nat)       -- release sequence, waiting to execute `step`
  | hold (step : Nat)      -- hold sequence, waiting to deassert the POWER_EN lines of `step`
  | pulse                  -- reset-cycle pulse
  deriving DecidableEq, Repr

/-- What the Gatehouse keeps of a domain beside its registers. -/
structure DomX where
  seq : Seq
  leftHeld : Bool          -- has left HELD since the end of ASSEMBLY (R90)
  under : Nat              -- rule under which the domain is HELD: 0 none, 56, 81, 180, 216
  passed : Bool            -- every region passed, waiting on predecessors
  delayDone : Bool         -- RELEASE_DELAY since the latest predecessor release has elapsed
  job : Nat                -- 0 none, 1 REVERIFY, 2 image swap, 3 load on the return of presence
  reqLine : Option Nat     -- the RESET_REQ_IN that started the reset cycle, while it stays asserted
  pulseOver : Bool         -- RST_PULSE has elapsed
  nursery : Bool           -- the Nursery source decision of R258 for the last failure
  check8 : Bool            -- that failure was check 8 of R126
  deriving DecidableEq, Repr

def DomX.init : DomX := ⟨.idle, false, 0, false, false, 0, none, false, false, false⟩

structure Gate where
  doms : List (Nat × DomX)
  outs : Nat               -- bit k: output PCLk is asserted, or for a STRAP driven, as far as its domain goes
  applied : Bool           -- the PCL map is applied (R43)
  ignoredReqs : Nat        -- assertions of RESET_REQ_IN counted and ignored (R111)
  deriving DecidableEq, Repr

/-! ### Channel ports and Trellis -/

/-- A program, erase or status-write operation under way at an emulated device (R194, R196). -/
structure RunOp where
  kind : Nat               -- 1 program, 2 sector erase, 3 chip erase, 7 status write
  lo : Nat                 -- first channel address of its range
  len : Nat
  minDone : Bool           -- the emulated minimum has passed
  compDone : Bool          -- the completion point has been reached
  suspended : Bool
  tag : Option Nat         -- eSPI tag
  wt : List Nat            -- the write-throughs of the Orangery it waits for
  cap : Bool := false      -- it writes the channel's capsule object (R233)
  deriving DecidableEq, Repr

/-- An eSPI flash request deferred at a channel (R208). -/
structure EspiReq where
  tag : Nat
  kind : Nat               -- 0 read, 1 write, 2 erase
  addr : Nat
  len : Nat
  data : List Byte         -- bytes of the completion still to be collected
  leaves : List (Nat × Nat) := []  -- leaves whose refetch it waits for: extent and leaf (R209)
  parts : List (Nat × Nat × Nat) := []  -- of each line in `data`: its bytes, extent and the epoch of its check; extent 3072 for fill (R152)
  decided : Option Prog := none    -- the program under which the request was decided (R243)
  state : Nat              -- 0 deferred, its bytes read or to be read again after a refetch, 1 ready and successful, 2 ready and unsuccessful, 3 being collected
  deriving DecidableEq, Repr

/-- What a channel keeps beside its registers. -/
structure Chan where
  prog : Option Prog       -- the active program
  pend : Prog              -- the contents of the pending slot
  first : Bool             -- no activation yet since the device reset
  contOp : Option Nat      -- opcode of the continuous read (R219)
  rstArmed : Bool          -- the last frame was an executed RESET_ENABLE frame (R239)
  ops : List RunOp         -- operations under way, oldest first
  capBlocks : List Nat     -- distinct 4 KiB blocks of the capsule object written
  unmapped : Nat           -- reads that R234 served as fill for want of an extent, held at the largest 48-bit number
  espi : List EspiReq      -- deferred requests in arrival order
  ready : List Nat         -- tags whose completions are ready, in the order they became ready
  feBad : Nat              -- bit i: front-end instance i failed
  loadCode : Nat           -- outcome of the LOAD in progress: check index of R227
  refetchWait : List Nat   -- tags of eSPI reads waiting for a refetch (R209)
  espiMax : Nat            -- maximum read request size that the eSPI controller has set, in bytes (R207)
  io1 : Bool               -- an eSPI alert stands on IO1 (R208)
  deriving DecidableEq, Repr

/-- A channel before its first program. PRESUMED (log entry 161): the maximum read request size is 64 bytes, the reset value of the eSPI base
specification. -/
def Chan.init : Chan := ⟨none, [], true, none, false, [], [], 0, [], [], 0, 0, [], 64, false⟩

/-! ### The load engine -/

/-- A domain's load: the engine's copy of its manifest and how far it has come (R128, R130, R131). -/
structure Load where
  man : Option Manifest
  phase : Nat              -- 0 manifest being read, 1 read and undecided, 2 accepted
  admitted : List Nat      -- leaves admitted per region, in descriptor order
  raw : List Byte          -- the manifest's bytes, as delivered to the TCM buffer
  reverify : Bool          -- a REVERIFY job (R141): nothing is admitted
  aborted : Bool           -- that job was told to ABORT (R142)
  chunks : List (Nat × Nat × Nat) := []  -- region, level and index of each tree chunk read and checked (R131)
  deriving DecidableEq, Repr

/-- The load engine. -/
structure Ldr where
  order : List Nat               -- domains loading or reverifying, in load order
  loads : List (Nat × Load)
  buf : Option Nat               -- domain whose manifest is in the TCM buffer
  force : List (Nat × Manifest)  -- manifests in force (R136)
  cur : List (Nat × (Nat × Nat)) -- region in progress on each F-bus: domain and region (R131)
  tries : List (Nat × Nat)       -- failed attempts at the burst in progress on bus b, or at the manifest of domain d as 32 + d (R132)
  withheld : Bool                -- the record of a withheld manifest has been entered (R143)
  katBad : List Nat              -- lanes that failed their known-answer test (R133)
  raBad : List Nat               -- buses whose read-ahead buffer holds an uncorrectable word that no lane has met (R265 class 11)
  deriving DecidableEq, Repr

/-! ### The Orangery -/

/-- The freshness value under which a line's MAC was last written (R150); epoch 0 passes no check (R151). -/
structure Tag where
  epoch : Nat
  ctr : Nat
  deriving DecidableEq, Repr

/-- One plane's stores: the active shadow as plaintext by shadow address, the freshness of every line by line index, and
the hot tier by shadow address (R144, R149, R156). -/
structure PlaneMem where
  mem : List Host.Cell
  tags : List (Nat × Tag)
  hot : List Host.Cell
  deriving DecidableEq, Repr

def PlaneMem.empty : PlaneMem := ⟨[], [], []⟩

/-- An entry of the extent table (R146). -/
structure Ext where
  valid : Bool
  channel : Nat
  chanOff : Nat
  base : Nat               -- shadow address
  len : Nat
  writable : Bool
  pinned : Bool
  epoch : Nat
  prev : Nat               -- predecessor epoch of a running re-encryption, 0 for none
  tree : Nat               -- the manifest's tree epoch
  ctrBase : Nat
  srcPart : Nat
  srcOff : Nat
  mroot : List Byte        -- bytes 0 to 3 of ROOT
  deriving DecidableEq, Repr

def Ext.none : Ext := ⟨false, 0, 0, 0, 0, false, false, 0, 0, 0, 0, 0, 0, []⟩

/-- An entry of the ledger table (R167). -/
structure LEnt where
  dom : Nat
  region : Nat
  leaf : Nat
  mroot : List Byte
  old : List Byte
  new : List Byte
  seq : Nat
  opn : Bool               -- a physical program is still open
  ctr : Nat := 0           -- write counter under which the table line's MAC was written, 0 in the retained area (R149)
  deriving DecidableEq, Repr

/-- A staging object (R170); a capsule object belongs to a channel. -/
structure StageObj where
  mib : Nat
  epoch : Nat
  capsule : Option Nat
  mem : List Host.Cell
  poisoned : Bool          -- a line failed in both planes (R274)
  deriving DecidableEq, Repr

/-- An ORANGERY command that is running. -/
structure OCmd where
  op : Nat
  handle : Nat
  off : Nat
  len : Nat
  aborted : Bool
  poisoned : Bool          -- its source carried poison
  deriving DecidableEq, Repr

/-- A write-through accepted at a port, until its physical operation ends (R166, R256). `stage` is 0 while held under
R154, 1 while WRITE entries are appended, 2 while the physical operation is queued or runs. `todo` lists the leaves whose
WRITE entry is still to be appended, `undo` the ledger-table entries of the leaves before step 3 of R166, `frame` the first write-through
of the same frame, `gone` the leaves whose other lines no repair restored (R153). -/
structure Wt where
  id : Nat
  ch : Nat
  ext : Nat
  kind : Nat               -- 1 program, 2 sector erase, 3 chip erase
  off : Nat                -- byte offset in the region
  len : Nat
  data : List Byte         -- the contents the range takes
  stage : Nat
  todo : List Nat
  undo : List (Nat × Option LEnt)
  held : Bool              -- waits for a half of the ledger under R168
  frame : Nat := 0
  gone : List Nat := []
  bad : List (Nat × Nat) := []     -- plane and line of the region of each other line seen to fail its re-check (R153)
  ents : List LEnt := []           -- the entries that step 3 of R166 made, as their WRITE entries carry them
  deriving DecidableEq, Repr

/-- A refetch waiting for its leaf, or, under `afterWt`, for the end of an open physical program (R160); `hot` names the planes whose
hot-tier granule is refilled with it (R157). -/
structure Refetch where
  ext : Nat
  leaf : Nat
  afterWt : Bool
  hot : List Nat := []
  deriving DecidableEq, Repr

/-- The Orangery beside its registers. -/
structure Orang where
  planeA : PlaneMem
  planeB : PlaneMem
  exts : List (Nat × Ext)            -- by extent index 64d + r
  ctrs : List (Nat × Nat)            -- write counters by slot (R153)
  grans : List Nat                   -- pinned 4 KiB blocks of the shadow (R156)
  nodes : List (Nat × List Byte)     -- the node store (R130)
  ltab : List (Nat × Option LEnt)    -- ledger table by slot (R167)
  lret : List LEnt                   -- the retained area
  keys : List (List Byte)            -- K1, K2, KM and KL (R147, R164)
  ledHalf : Nat                      -- active half
  ledGen : Nat                       -- its generation
  ledPos : Nat                       -- position of the next entry
  ledSize : Nat                      -- entries per half
  ledPrev : List Byte                -- the 16 bytes at offset 112 of the position before it (R165)
  snap : List LEnt                   -- SNAPSHOT entries still to be written
  snapN : Nat                        -- SNAPSHOT entries that the running switch writes
  retry : Bool                       -- a failed switch waits for its repetition
  wts : List Wt
  wtIx : Nat
  lost : List (Nat × Nat)            -- lost-leaf table: extent and leaf (R161)
  refetch : List Refetch
  rekeyQ : List Nat                  -- extents whose re-encryption is queued (R154)
  stage : List (Nat × Option StageObj)
  cmd : Option OCmd
  rvNext : Option (Nat × Nat × Nat)  -- next domain, region and leaf of the re-verifier
  rvStart : Nat                      -- microsecond at which its sweep began
  deriving DecidableEq, Repr

/-! ### F-buses and the Nursery -/

/-- What the scheduler keeps of a flash device beside its register: the write-throughs queued on it in order, the erase
types it offers as powers of two, the operations of the head done, and its sampling tap (R251, R253, R254). -/
structure DevX where
  queue : List Nat
  types : List Nat
  step : Nat               -- physical operations of the head already done and read back
  tap : Nat := 0
  other : Nat := 0         -- operation beside the queue that a poll found running: 0 none, 1 the ledger's, 2 a recovery's, 3 an update's (R253)
  deriving DecidableEq, Repr

def DevX.init : DevX := ⟨[], [], 0, 0, 0⟩

/-- One range of a recovery job (R259); `region` is the descriptor whose leaves it holds, none for the manifest window. -/
structure RecRange where
  region : Option Nat
  srcPart : Nat
  srcOff : Nat
  nurPart : Nat
  nurOff : Nat
  len : Nat
  deriving DecidableEq, Repr

/-- What the HX96 wrote to a device: `erase` bytes from `addr` erased, 0 for none, then `data` programmed at `at`; `keep` are the ranges
of the erased bytes that were read before and programmed back unchanged (R254, R259). -/
structure FlashWrite where
  dev : Nat
  addr : Nat
  erase : Nat
  at_ : Nat
  data : List Byte
  keep : List (Nat × Nat) := []
  deriving DecidableEq, Repr

/-- A recovery job. `src` and `nur` are the bytes of the erase unit that the bursts so far have not completed, `devs` the devices that the
job works on (R259, R261). -/
structure Rec where
  ranges : List RecRange
  pos : Nat                -- bytes of the first range already compared
  units : Nat
  code : Nat               -- code of a failure that ends the job, 0 for none
  src : List Byte := []
  nur : List Byte := []
  devs : List Nat := []
  deriving DecidableEq, Repr

/-- The F-bus block beside its registers. `avail` holds the REASON of every unavailable partition, `passed` the buses on which the burst in
progress of a lower class has been let through since a higher one waits (R252), `writes` what the last operation on a device wrote. -/
structure Fbus where
  map : FbMap
  devs : List (Nat × DevX)
  avail : List (Nat × Nat)
  recs : List (Nat × Option Rec)
  redisc : List Nat        -- devices whose REDISCOVER runs, in order of acceptance
  discovering : Bool
  passed : List Nat
  writes : List FlashWrite
  deriving DecidableEq, Repr

/-! ### Memory integrity (R265 to R283) -/

/-- A row bucket of a macro: row, count, the order of its allocation, and whether the row had a correction in this sweep
(R277). -/
structure RowBucket where
  row : Nat
  count : Nat
  age : Nat
  hit : Bool
  deriving DecidableEq, Repr

/-- What a macro keeps: its row buckets, its spares in ascending order, each with the row it stands for (2048: free, 2049:
superseded) and whether that is recorded in OTP, and the row most recently retired (R277, R278). -/
structure SramBlk where
  buckets : List RowBucket
  spares : List (Nat × Bool)
  lastRow : Nat
  deriving DecidableEq, Repr

def SramBlk.init : SramBlk := ⟨[], [], 0⟩

/-- The MEMINT block beside its registers. `errs` holds E of the running sweep and `zeros` the successive sweeps without
an error, by class; `fills` the running fills with their ABORT and pattern; `poison` the TCM words (by address / 4) that hold the
poison code, `mailPoison` those of the Kiosk mailbox RAM; `clock` the moment each class's sweep began; `pattern` the pattern that a class's
words hold from its FILL until they are written (R270); `flipBad` the words of classes 8 and 9, by class, plane and word, that a flip mask
left with an error the code does not correct (R271). -/
structure MemInt where
  macros : List (Nat × SramBlk)
  bounds : List Bound
  errs : List (Nat × Nat)
  zeros : List (Nat × Nat)
  clock : List (Nat × Nat)
  fills : List (Nat × (Bool × Nat))
  ages : Nat
  poison : List Nat
  mailPoison : List Nat
  pattern : List (Nat × Nat)
  flipBad : List (Nat × (Nat × Nat))
  deriving DecidableEq, Repr



/-! ### Random numbers (R322 to R337) -/

/-- The health tests of one source and its bits that the conditioner has not used (R323, R324). -/
structure NoiseBits where
  run : Nat                -- identical bits in a row up to the last
  last : Bool              -- the last bit
  first : Bool             -- the first bit of the open APT window
  ones : Nat               -- how often it has occurred in the window
  win : Nat                -- bits in the open window
  fed : List Bool          -- those of them that came while the conditioner took the source's bits, newest first
  buf : List Bool          -- bits of closed passing windows, buffered for conditioning, oldest first
  deriving DecidableEq, Repr

/-- A source whose tests begin, with no bit buffered. -/
def NoiseBits.start : NoiseBits := { run := 0, last := false, first := false, ones := 0, win := 0, fed := [], buf := [] }

/-- The generator beside its registers: the queue and firmware's item in progress, a flush that the next read meets, items
since the last reseed, a RESEED waiting for the item boundary, the raw bits buffered for RNG_RAW, the source in TEST and whether it
takes a pattern, each source's bits on their way to the conditioner, the sources whose start-up test after reset is running, those in RETEST that were ACTIVE, the moment at which each
source's present span of failures began, the ACTIVE places still open, the buffered seed, and the DRBG's K and V (R328, R329). -/
structure Rng where
  queue : List (List Byte)
  item : List Byte
  flushed : Bool
  since : Nat
  asked : Bool
  raw : List Bool          -- oldest first, at most 8,192
  noise : List (Nat × NoiseBits)
  test : Option Nat
  pattern : Bool
  fresh : Nat
  former : Nat
  firstAt : List Nat
  places : Nat
  seed : List Byte
  drbg : List Byte
  deriving DecidableEq, Repr

/-! ### Arithmetic engines and keys (R284 to R321) -/

/-- A firmware operation running on an engine: its descriptor, address, the operands copied at step 2 of R308, the code of a
pre-check, and whether an ABORT or a forced erase ends it. -/
structure EngOp where
  desc : List Byte
  addr : Nat
  args : List (List Byte)
  wk : Option (Nat × Nat × List Byte)   -- slot, TYPE and payload of the working key it uses
  pre : Nat
  ends : Nat                            -- code with which it is being ended, 0 for none
  started : Nat
  clear : Bool := false                 -- CLEAR_WK waits for its end (R320)
  deriving DecidableEq, Repr

/-- One of the two copies of a slot (R285, R287); `damaged` says that one of its words reads uncorrectable or poisoned. -/
structure Copy where
  payload : List Byte
  md : Nat
  tag : List Byte
  damaged : Bool
  deriving DecidableEq, Repr

/-- Ten zero words. -/
def Copy.empty : Copy := ⟨List.replicate 64 0, 0, List.replicate 8 0, false⟩

/-- A key-store slot: its copies, its write lock, whether it reads SEALED with the metadata it then had, and the public key
that PUBLIC goes on returning (R296, R300). -/
structure Slot where
  c0 : Copy
  c1 : Copy
  wlock : Bool
  isSealed : Bool
  sealMd : Nat
  pub : List Byte
  deriving DecidableEq, Repr

def Slot.empty : Slot := ⟨Copy.empty, Copy.empty, false, false, 0, []⟩

/-- A key command being executed: its operands, the engines it needs and has taken as bit maps, its stage (0 waiting for a
lease, 1 running, 2 in its vault phase) and, in that phase, the copy being written; and whether a lookup by KEY_ID found its source. -/
structure KeyCmd where
  op : Nat
  dst : Nat
  src : Nat
  engine : Nat
  args : List Nat
  need : Nat
  taken : Nat
  stage : Nat
  copy : Nat
  aborted : Bool
  lookup : Bool := false
  deriving DecidableEq, Repr

/-- The key manager beside its registers: the slots, the values of R284, the HX96-L1 output kept beside KS1, the
configuration root and version, the payloads in the working-key registers, and the command in progress. -/
structure Keys where
  slots : List (Nat × Slot)
  l0 : List Byte
  kt : List Byte
  l1 : List Byte
  cfg : Option (List Byte × Nat)
  wk : List (Nat × (Nat × List Byte))   -- by engine: TYPE and payload
  cmd : Option KeyCmd
  l2Auto : Option Nat                   -- moment at which KS3 is derived without firmware (R299)
  deriving DecidableEq, Repr

/-! ### The Lodge, life cycle and debug (R381 to R412) -/

/-- What the Lodge keeps on its own rail: the vault, its retained rule table, each rule's samples (newest first) and FIRED,
and what it reads and stands on. -/
structure Lodge where
  vault : List Host.Cell
  rules : Option LRules        -- as retained
  windows : List (Nat × List Bool)
  sampling : Bool
  mesh : Nat                   -- pair states as LODGE_MESH shows them after the next refresh
  rtcFrac : Nat                -- millionths of a tick since the last RTC tick, times 32,768
  lost : Bool                  -- the vault's contents were not retained (R395)
  ldWait : Nat                 -- LD_CAUSE of a lockdown trigger that waits for the end of ASSEMBLY, 0 for none
  deriving DecidableEq, Repr

/-- The instructions of the TAP: the three that it offers until debug is authorised (R51), then the access to the address map that
L1 and L2 grant and the scan and memory built-in self-test that L3 grants (R388). The spec gives the last three no names. -/
inductive TapInstr where
  | bypass | idcode | tokenLoad | access | scan | memBist
  deriving DecidableEq, Repr

/-- What the debug levels grant (R388). -/
inductive DbgGrant where
  | tapL0 | mapRead | halt | step | breakpoint | tcm | regWrite | scan | memBist | lcsRequest
  deriving DecidableEq, Repr

/-- Life cycle and debug beside their registers: the transition being programmed, the step a SCRAP wipe has reached, the
moment ARMED clears, the token buffer and the nonce, a requested halt, the
TAP's instruction. -/
structure Lcs where
  target : Option Nat
  scrap : Nat                  -- 0 none, 1 running
  token : List Byte
  haltReq : Bool
  tap : TapInstr               -- the instruction that the TAP last took
  deriving DecidableEq, Repr

/-! ### Kiosk, MCTP, SPDM (R338 to R365) -/

/-- A Kiosk mailbox beside its registers: 0 idle, 1 pending for firmware, 2 taken, 3 its reply waits for TN_RSP to be read; the
request word and the generation captured with it; the waiting reply with its generation; whether it came by the vendor KIOSK
command. -/
structure Box where
  phase : Nat
  word : Nat
  gen : Nat
  reply : Nat
  rgen : Nat
  vendor : Option Origin
  deriving DecidableEq, Repr

def Box.init : Box := ⟨0, 0, 0, 0, 0, none⟩

/-- What the HX96 has sent of its own accord: an MSI, an IBI with its mandatory byte on a port, a REASM_ABORT notice, or a late
vendor KIOSK response (R340, R352, R355). -/
inductive Sent where
  | msi
  | ibi (port byte : Nat)
  | reasmAbort (port eid tag code : Nat)
  | kioskReply (port eid : Nat) (word rgen : Nat)
  deriving DecidableEq, Repr

/-- The last non-OK response to a tenant (R355): code, retry-after, message type and command. -/
structure Outcome where
  code : Nat
  retry : Nat
  typ : Nat
  cmd : Nat
  deriving DecidableEq, Repr

/-- The Kiosk beside its registers: the table in force, mailboxes, token buckets in millionths of a token with the moment of
their last change, the tenant last taken and what is left of its quantum, the end of the management pause, the last record per tenant and transport under R339 and
R353, what was sent, last outcomes and nonces with the moment of their issue. -/
structure Kiosk where
  tbt : List Tbe
  boxes : List (Nat × Box)
  tokens : List (Nat × (Nat × Nat))
  lastTn : Nat
  credit : Nat             -- further requests that the tenant last taken may have taken in its turn (R416)
  pauseEnd : Nat
  unboundAt : List (Nat × Nat)
  unknownAt : List (Nat × Nat)
  sent : List Sent
  outcomes : List (Nat × Outcome)
  nonces : List (Nat × (List Byte × Nat))
  deriving DecidableEq, Repr

/-- A reassembly context (R352): its key, bytes so far, the next sequence number, and whether its message is complete and waits
for a ring slot (R354). -/
structure Ctx where
  port : Nat
  ch : Nat
  src : Nat
  owner : Bool
  tag : Nat
  data : List Byte
  seq : Nat
  done : Bool
  deriving DecidableEq, Repr

/-- A message being sent (R354, R365): its transport, EID, eSPI channel and tag, its packets, poison in it, and arbitrations lost. -/
structure Tx where
  port : Nat
  eid : Nat
  ch : Nat
  tag : Nat
  packets : List (List Byte)
  poisoned : Bool
  losses : Nat
  deriving DecidableEq, Repr

/-- An SPDM connection of a tenant: negotiated version, the requester's DataTransferSize, algorithms negotiated, what is left of a
large response, and a request received in chunks. -/
structure Conn where
  version : Nat
  dts : Nat
  algs : Bool
  large : List Byte
  chunk : List Byte
  deriving DecidableEq, Repr

def Conn.init : Conn := ⟨0, 0, false, [], []⟩

/-- An SPDM session (R358): identifier, tenant, whether FINISH has established it, its secret, key updates, and the moment of its
last message. -/
structure Sess where
  id : Nat
  tn : Nat
  est : Bool
  secret : List Byte
  updates : Nat
  last : Nat
  deriving DecidableEq, Repr

/-- MCTP and SPDM beside their registers. -/
structure Mtrans where
  settings : Option Settings
  ctxs : List Ctx
  tx : Option Tx
  conns : List (Nat × Conn)
  sessions : List Sess
  nextSess : Nat
  turn : Nat × Nat         -- tenant whose message last entered the receive ring, and what is left of its quantum (R344, R416)
  deriving DecidableEq, Repr

/-! ### Update (R366 to R380) -/

/-- An update job: its OP, component and staging object, whether ABORT ends it, the devices that it writes, and whether an operation on one of
them has timed out (R253). -/
structure UpdJob where
  op : Nat
  comp : Nat
  handle : Nat
  aborted : Bool
  devs : List Nat := []
  late : Bool := false
  deriving DecidableEq, Repr

/-- A PLDM update session: tenant, and where it stands: 1 learning components, 2 ready for a transfer, 3 transferring, 4 verifying, 5
applying (DSP0267); the component of its last UpdateComponent, its size and the bytes staged, the staging object, the regions whose root
compared equal, and the last request that the HX96 sent in it: its command and data (R368, R371). -/
structure UpdSess where
  tn : Nat
  phase : Nat
  comp : Nat
  size : Nat := 0
  got : Nat := 0
  handle : Option Nat := none
  hashed : List Nat := []
  sent : Option (Nat × List Byte) := none
  deriving DecidableEq, Repr

/-- The update engine beside its registers: the job that runs, the session, whether copy T has been written whole in this start and
whether a class 255 component waits for the next device reset, and the security-version record being written: class, value, word. -/
structure Upd where
  job : Option UpdJob
  sess : Option UpdSess
  tWritten : Bool
  cfgPending : Bool
  svn : Option (Nat × Nat × Nat)
  deriving DecidableEq, Repr

/-! ### The whole machine -/

/-- Why the machine stops. No command of the table is one that spec/ stops on: a bus access fault is an answer (`Out.busFault`), after
which the machine goes on. -/
inductive Fault where
  /-- Raised by nothing: the type needs a name for a stop and no meaning stops. Safe. -/
  | impossible
  deriving DecidableEq, Repr

/-- Why a command is refused. -/
inductive Refusal where
  /-- Raised only by Dispatch, for a command without a meaning, of which there is none; safe. -/
  | notModelled (mnemonic : String)
  deriving DecidableEq, Repr

/-- The state of the HX96. -/
structure State where
  pending : List Instr
  regs : List (Nat × Word)
  tcm : List Host.Cell
  usec : Nat
  atomicUntil : Nat
  freeIx : Nat
  retries : List (Nat × Nat)   -- microsecond until which a request of the given key is to be delayed again (R14)
  out : Out
  jnl : Jnl
  boot : Boot
  otp : Otp
  gate : Gate
  chans : List (Nat × Chan)
  ldr : Ldr
  orang : Orang
  fbus : Fbus
  mem : MemInt
  lateA : Nat              -- successive late lines of plane A at all ports (R193)
  lateB : Nat              -- of plane B
  rng : Rng
  eng : List (Nat × EngOp)
  keys : Keys
  lodge : Lodge
  lcs : Lcs
  kiosk : Kiosk
  mtrans : Mtrans
  upd : Upd
  deriving DecidableEq, Repr

/-- The machine right after a device reset ends (R58, R61 step 1). -/
def State.reset : State :=
  { pending := [], regs := [], tcm := [], usec := 0, atomicUntil := 0, freeIx := 0, retries := [], out := .none
    jnl := { preboot := [], prebootLost := [], fifo := [], held := [], chain := List.replicate 24 0, verify := none
             flushing := false, bad := [], kj := [], logPos := none }
    boot := { stage := .reset1, supplies := 15, pinLow := false, testen := false, causes := 0, deferred := none
              restart := none, wdtRestart := false, wdtEnd := none, wdtLeft := 0, img := none, cfg := Cfg.empty
              otpBad := false, vaultBad := false, tableBad := 0, bvPair := 0, bvDown := false, tempHot := false, handUsec := 0, floated := 0
              bootCopies := 0, training := 0, trainCap := [0, 0], debugStart := false, retrainBoth := false, cfgBus := false }
    otp := { words := [(0, 0x5A3CC3A5), (1, 0x5A3CC3A5), (2, 0x5A3CC3A5)], torn := [], zeroised := []
             keys := [none, none, none, none] }
    gate := { doms := [], outs := 0, applied := false, ignoredReqs := 0 }
    chans := []
    ldr := { order := [], loads := [], buf := none, force := [], cur := [], tries := [], withheld := false, katBad := [], raBad := [] }
    orang := { planeA := PlaneMem.empty, planeB := PlaneMem.empty, exts := [], ctrs := [], grans := [], nodes := []
               ltab := [], lret := [], keys := [], ledHalf := 0, ledGen := 0, ledPos := 0, ledSize := 0, ledPrev := [], snap := []
               snapN := 0, retry := false, wts := [], wtIx := 0, lost := [], refetch := [], rekeyQ := [], stage := []
               cmd := none, rvNext := none, rvStart := 0 }
    fbus := { map := FbMap.empty, devs := [], avail := [], recs := [], redisc := [], discovering := false, passed := [], writes := [] }
    mem := { macros := [], bounds := [], errs := [], zeros := [], clock := [], fills := [], ages := 0, poison := [], mailPoison := []
             pattern := [], flipBad := [] }
    lateA := 0, lateB := 0
    rng := { queue := [], item := [], flushed := false, since := 0, asked := false, raw := [], noise := [], test := none, pattern := false
             fresh := 15, former := 0, firstAt := [0, 0, 0, 0], places := 0, seed := [], drbg := [] }
    eng := []
    keys := { slots := [], l0 := [], kt := [], l1 := [], cfg := none, wk := [], cmd := none, l2Auto := none }
    lodge := { vault := [], rules := none, windows := [], sampling := true, mesh := 0x555, rtcFrac := 0, lost := false, ldWait := 0 }
    lcs := { target := none, scrap := 0, token := [], haltReq := false, tap := .idcode }
    kiosk := { tbt := [], boxes := [], tokens := [], lastTn := 511, credit := 0, pauseEnd := 0, unboundAt := [], unknownAt := [], sent := []
               outcomes := [], nonces := [] }
    mtrans := { settings := none, ctxs := [], tx := none, conns := [], sessions := [], nextSess := 1, turn := (511, 0) }
    upd := { job := none, sess := none, tWritten := false, cfgPending := false, svn := none }
  }

end Sys2Proof.Machine
end

