-- ==== Sys2Proof/Machine/Ops.lean ====
section
/-! DEFINITION. The named operations that every family of commands shares: register fields, TCM, 48-bit statistics
counters, the journal intake, block command outcomes, free values and time. -/

namespace Sys2Proof.Machine

/-- The byte of a status code (R11). -/
def Code.val : Code → Nat
  | .ok => 0x00 | .busyRetry => 0x01 | .refusedQuota => 0x02 | .refusedPolicy => 0x03 | .refusedState => 0x04
  | .stale => 0x05 | .resetAbort => 0x06 | .poisoned => 0x07 | .keyBad => 0x08 | .keyAmbiguous => 0x09
  | .keyRevoked => 0x0A | .verifyFail => 0x0B | .versionExhausted => 0x0C | .unpowered => 0x0D | .aborted => 0x0E
  | .malformed => 0x0F | .notReady => 0x10 | .timeout => 0x11 | .internalFault => 0x12

/-- The reset word of a register (the Reset columns of the register tables). -/
def resetWord (a : Nat) : Word :=
  match resetRows.find? fun (b, st, n, _) => b ≤ a && a < b + st * n && (a - b) % st = 0 with
  | some (_, _, _, w) => BitVec.ofNat 32 w
  | none => 0

/-! ### Registers (one home: `State.regs`) -/

/-- The word a register holds. -/
def reg (s : State) (a : Nat) : Word := Sparse.get resetWord s.regs a

/-- The register at `a` takes the word `w`. -/
def State.setReg (s : State) (a : Nat) (w : Word) : State :=
  { s with regs := Sparse.put resetWord s.regs a w }

/-- The value a register field holds. -/
def rf (s : State) (f : Fld) : Nat := bitsAt (reg s f.addr).toNat f.lo f.wid

/-- A one-bit field is set. -/
def rb (s : State) (f : Fld) : Bool := rf s f != 0

/-- The field takes the low bits of `v`; the other bits of its register stay. -/
def State.setF (s : State) (f : Fld) (v : Nat) : State :=
  s.setReg f.addr (BitVec.ofNat 32 (setBits (reg s f.addr).toNat f.lo f.wid v))

/-- The one-bit field takes the truth value `b`. -/
def State.setB (s : State) (f : Fld) (b : Bool) : State := s.setF f b.toNat

/-- The one-bit field is set, as events and sticky bits are. -/
def State.raise (s : State) (f : Fld) : State := s.setF f 1

/-- Bit `i` of a bit-map field. -/
def mapBit (s : State) (f : Fld) (i : Nat) : Bool := (rf s f).testBit i

/-- Bit `i` of a bit-map field takes the value `b`. -/
def State.setMapBit (s : State) (f : Fld) (i : Nat) (b : Bool) : State :=
  s.setF f (setBits (rf s f) i 1 b.toNat)

/-- Every register whose address satisfies `p` returns to its reset word. -/
def State.resetRegs (s : State) (p : Nat → Bool) : State :=
  { s with regs := Sparse.clear p s.regs }

/-- A 48-byte digest is written to twelve registers, byte 4i in bits [7:0] of word i. -/
def State.setDigest (s : State) (base : Nat → Nat) (d : List Byte) : State :=
  (List.range 12).foldl (fun s i => s.setReg (base i) (BitVec.ofNat 32 (fieldAt d (4 * i) 4))) s

/-- The 48 bytes held in twelve registers. -/
def digestOf (s : State) (base : Nat → Nat) : List Byte :=
  (List.range 12).flatMap fun i => leBytes 4 (reg s (base i)).toNat

/-! ### Outputs, free values and time -/

/-- What the command returned at the interface it came through. -/
def State.ret (s : State) (o : Out) : State := { s with out := o }

/-- A free value: the opaque source at the state's free-value counter, which advances. -/
def State.free (s : State) : Nat × State :=
  ((Config.freeValue s.freeIx).toNat, { s with freeIx := s.freeIx + 1 })

/-- The next DRBG item (R332). -/
def State.drbg (s : State) : List Byte × State :=
  (beBytes 48 (Config.drbgOutput s.rng.drbg).toNat, { s with rng := { s.rng with drbg := Config.drbgNext s.rng.drbg } })

/-- A retry-after time of R14, within 1 to 65,535 ms. -/
def State.retryTime (s : State) : Nat × State :=
  (Config.retryAfter s.freeIx % 65535 + 1, { s with freeIx := s.freeIx + 1 })

/-- What is left, in whole milliseconds, of the retry-after time stated with the last BUSY_RETRY of the requests with this key
(R14). -/
def retryLeft (s : State) (key : Nat) : Nat := (Sparse.get (fun _ => 0) s.retries key - s.usec + 999) / 1000

/-- A request with this key is resent before its retry-after time has passed (R14). -/
def early (s : State) (key : Nat) : Bool := 0 < retryLeft s key

/-- The retry-after time of a BUSY_RETRY: what remains of an earlier one, else the time a rule fixes, else one the HX96 chooses; the
request's key keeps it (R14). -/
def State.delay (s : State) (key : Nat) (ms : Option Nat) : Nat × State :=
  if early s key then (retryLeft s key, s)
  else
    let (t, s) := match ms with
      | some t => (max 1 (min 65535 t), s)
      | none => s.retryTime
    (t, { s with retries := Sparse.put (fun _ => 0) s.retries key (s.usec + 1000 * t) })

/-- Bytes of a digest in the order of its standard. -/
def digestBytes (d : BitVec 384) : List Byte := beBytes 48 d.toNat

/-- SHA-384 of a byte string, as bytes. -/
def sha384 (m : List Byte) : List Byte := digestBytes (Config.sha384 m)

/-! ### TCM of the running pair (R30; 2 MiB; every byte 0 after the fill of R61 step 4) -/

/-- The TCM's base address and size. -/
def tcmBase : Nat := 0x10000000
def tcmSize : Nat := 0x200000

/-- What a TCM byte reads as before it is written: the fill of step 4 of R61. -/
def tcmFill (_ : Nat) : Byte := 0

/-- The span of `n` bytes at `a` lies within TCM. -/
def inTcm (a n : Nat) : Bool := tcmBase ≤ a && a + n ≤ tcmBase + tcmSize

/-- One byte of TCM. -/
def tcmByte (s : State) (a : Nat) : Byte := Sparse.get tcmFill s.tcm a

/-- `n` bytes of TCM from address `a`. -/
def tcmRead (s : State) (a n : Nat) : List Byte := (List.range n).map fun i => tcmByte s (a + i)

/-- A byte string is stored in TCM from address `a`. -/
def tcmPut : List Host.Cell → Nat → List Byte → List Host.Cell
  | m, _, [] => m
  | m, a, b :: bs => tcmPut (Sparse.put tcmFill m a b) (a + 1) bs

/-- A byte string is stored in TCM from address `a`; a word written whole loses its poison (R268). -/
def State.tcmWrite (s : State) (a : Nat) (bs : List Byte) : State :=
  { s with
    tcm := tcmPut s.tcm a bs
    mem := { s.mem with poison := s.mem.poison.filter fun w => !(a ≤ 4 * w && 4 * w + 4 ≤ a + bs.length) } }

/-- A word of the `n` bytes at `a` holds the poison code (R276). -/
def tcmPoisoned (s : State) (a n : Nat) : Bool := s.mem.poison.any fun w => a < 4 * w + 4 && 4 * w < a + n

/-- The length of the execute-only TCM range, which begins at the TCM base (R74). -/
def xoLen (s : State) : Nat :=
  if s.boot.stage = .firmware then match s.boot.img with | some i => i.fwImg.length | none => 0 else 0

/-- The span of `n` bytes at `a` lies inside TCM and outside the execute-only range (R306). -/
def tcmFree (s : State) (a n : Nat) : Bool := inTcm a n && tcmBase + xoLen s ≤ a

/-! ### The journal intake (R62, R422 to R426) -/

/-- Reporting blocks: bits [23:16] of their base address (R422). -/
def srcSYSCTL : Nat := 0x00
def srcLCS : Nat := 0x01
def srcKEYS : Nat := 0x02
def srcLIU : Nat := 0x03
def srcLATT : Nat := 0x04
def srcRNG : Nat := 0x05
def srcMEMINT : Nat := 0x06
def srcKIOSK : Nat := 0x07
def srcMTRANS : Nat := 0x08
def srcLODGE : Nat := 0x09
def srcGATE : Nat := 0x0A
def srcLOADER : Nat := 0x0B
def srcORANGERY : Nat := 0x0C
def srcFBUS : Nat := 0x0D
def srcPLANEA : Nat := 0x10
def srcPLANEB : Nat := 0x14
def srcCHAN : Nat := 0x20
def srcJOURNAL : Nat := 0x30
def srcDEBUG : Nat := 0x40

/-- The register whose half holds the LOST counter of a class (R426). -/
def lostFld (cls : Nat) : Fld :=
  if cls % 2 = 0 then JOURNAL_LOSTP_EVEN (cls / 2) else JOURNAL_LOSTP_ODD (cls / 2)

/-- The DATA bytes of a LOST record: 2c and 2c + 1 hold the count of class c (R426). -/
def lostData (counts : List Nat) : List Byte := counts.flatMap (leBytes 2)

/-- One more event of class `cls` in a list of eight counts, each holding at 0xFFFF. -/
def bumpLost (counts : List Nat) (cls : Nat) : List Nat :=
  (List.range 8).map fun c =>
    let v := counts.getD c 0
    if c = cls then min (v + 1) 0xFFFF else v

/-- The RTC seconds and the microseconds of the present moment, as every record carries them (R422). -/
def stamp (s : State) (r : JRec) : JRec :=
  { r with rtc := rf s LODGE_RTC_SEC_SEC, usec := s.usec % 2 ^ 32 }

/-- The pre-boot buffer of 32 records: the first 31 are kept and the 32nd becomes a LOST record that counts the rest by
class once a 33rd event occurs (R62). -/
def preboot (j : Jnl) (r : JRec) : Jnl :=
  if j.prebootLost != [] then { j with prebootLost := bumpLost j.prebootLost r.cls }
  else if j.preboot.length < 32 then { j with preboot := j.preboot ++ [r] }
  else
    { j with
      preboot := j.preboot.take 31
      prebootLost := bumpLost (bumpLost [] ((j.preboot.getD 31 default).cls)) r.cls }

/-- An event enters the intake: the pre-boot buffer before START, else the FIFO, else its class's LOST counter. The
flag says whether it was entered. -/
def State.intake (s : State) (r : JRec) : State × Bool :=
  let r := stamp s r
  if !rb s JOURNAL_STAT_STARTED then
    ({ s with jnl := preboot s.jnl { r with flags := r.flags ||| 1 } }, true)
  else if s.jnl.fifo.length < 256 then
    ({ s with jnl := { s.jnl with fifo := s.jnl.fifo ++ [r] } }, true)
  else
    let f := lostFld r.cls
    (s.setF f (min (rf s f + 1) 0xFFFF), false)

/-- The least value of a 48-bit counter that is at its limit (R421). -/
def ctrMax : Nat := 0xFFFFFFFFFFFF

/-- The count a 48-bit counter holds: its _LO word and bits [15:0] of its _HI word. -/
def ctr (s : State) (lo hi : Nat) : Nat := (reg s lo).toNat + 2 ^ 32 * bitsAt (reg s hi).toNat 0 16

/-- A 48-bit counter takes a count, its SAT bit unchanged. -/
def State.setCtr (s : State) (lo hi n : Nat) : State :=
  (s.setReg lo (BitVec.ofNat 32 n)).setF ⟨hi, 0, 16⟩ (n >>> 32)

/-- An event with no counter of its own at stake: used for the journal's own counters. -/
def State.intakeEvt (s : State) (cls tag src unit : Nat) (code : Nat) : State :=
  (s.intake { cls, code, event := (Config.eventId cls tag).toNat, src, unit }).1

/-- A statistics counter counts up by `n` and holds at its limit; on reaching it, SAT and the block's SAT event are set
and one record is entered (R421). -/
def State.bumpRaw (s : State) (lo hi : Nat) (satEvt : Fld) (src n : Nat) : State :=
  let c := ctr s lo hi
  let c' := min (c + n) ctrMax
  let s := s.setCtr lo hi c'
  if c < ctrMax && c' = ctrMax then
    ((s.setF ⟨hi, 31, 1⟩ 1).raise satEvt).intakeEvt 7 421 src 0xFFFF 0
  else s

/-- A record enters the journal: intake, and the count of records entered or events lost (JOURNAL_RECORDS,
JOURNAL_LOST). -/
def State.enter (s : State) (r : JRec) : State :=
  let (s, ok) := s.intake r
  if ok then s.bumpRaw JOURNAL_RECORDS_LO JOURNAL_RECORDS_HI JOURNAL_EVT_SAT srcJOURNAL 1
  else s.bumpRaw JOURNAL_LOST_LO JOURNAL_LOST_HI JOURNAL_EVT_SAT srcJOURNAL 1

/-- No instance (R422). -/
def noUnit : Nat := 0xFFFF

/-- A hardware event of class `cls` under rule `tag` from block `src` about instance `unit`, with a status code, a
generation and event data (R422, R423). -/
def State.journalD (s : State) (cls tag src unit : Nat) (code : Nat) (gen : Nat) (data : List Byte) : State :=
  s.enter { cls, code, event := (Config.eventId cls tag).toNat, src, unit, gen, data := slice data 0 16 }

/-- A hardware event without data. -/
def State.journal (s : State) (cls tag src unit : Nat) (code : Code := .ok) : State :=
  s.journalD cls tag src unit code.val 0 []

/-- A hardware event whose UNIT is domain `d`: its record carries the domain's generation, 0 where no such domain is configured (R422). -/
def State.journalDom (s : State) (cls tag src d : Nat) (code : Nat) (data : List Byte := []) : State :=
  s.journalD cls tag src d code (if s.boot.cfg.doms.any (·.id = d) then rf s (GATE_DOM_GEN_GEN d) else 0) data

/-- A statistics counter counts up by `n` (R421). -/
def State.bumpN (s : State) (lo hi : Nat) (satEvt : Fld) (src n : Nat) : State :=
  let c := ctr s lo hi
  let c' := min (c + n) ctrMax
  let s := s.setCtr lo hi c'
  if c < ctrMax && c' = ctrMax then
    ((s.setF ⟨hi, 31, 1⟩ 1).raise satEvt).journal 7 421 src noUnit
  else s

/-- A statistics counter counts one event (R421). -/
def State.bump (s : State) (lo hi : Nat) (satEvt : Fld) (src : Nat) : State := s.bumpN lo hi satEvt src 1

/-! ### Outcomes of block commands -/

/-- The status fields and the event of a block's command interface. -/
structure CmdIf where
  op : Fld
  status : Fld
  result : Option Fld
  done : Fld

/-- The key under which a block keeps the retry-after time of its command `op`: one requester, Belvedere firmware, per command
(R14). -/
def CmdIf.key (c : CmdIf) (op : Nat) : Nat := c.status.addr * 256 + op % 256

/-- A command of a block meets its busy condition, or comes before its retry-after time has passed (R14). -/
def delayed (s : State) (c : CmdIf) (op : Nat) (busy : Bool) : Bool := busy || early s (c.key op)

/-- The outcome of a command is shown with its OP, a result and CMD_DONE. -/
def State.cmdEnd (s : State) (c : CmdIf) (op : Nat) (code : Code) (result : Nat := 0) : State :=
  let s := (s.setF c.op op).setF c.status code.val
  let s := match c.result with
    | some f => s.setF f result
    | none => s
  s.raise c.done

/-- The outcome of a refused command that is not journalled; a BUSY_RETRY carries its retry-after time, `ms` where a rule fixes it,
in RESULT, or in the answer where the block has no RESULT (R14). -/
def State.cmdRefuse (s : State) (c : CmdIf) (op : Nat) (code : Code) (ms : Option Nat := none) : State :=
  if code = .busyRetry then
    let (t, s) := s.delay (c.key op) ms
    let s := s.cmdEnd c op code t
    if c.result.isSome then s else s.ret (.retry t)
  else s.cmdEnd c op code

/-- The first code of a list of conditions in the order of R12 that holds. -/
def firstCode : List (Bool × Code) → Option Code
  | [] => none
  | (b, c) :: t => if b then some c else firstCode t

/-! ### Spares and uncovered faults -/

/-- A pool has no spare left: SPARE_LOW, and one record whose first DATA byte names the pool by its bit of SYSCTL_SPARE_EVT (R32). DESIGN
CHOICE (log entry 158): the two pools that have no bit are 9, the copies of the root configuration flash, and 10, the reference clock inputs. -/
def State.spareLow (s : State) (pool unit : Nat) : State :=
  (s.raise SYSCTL_SPARE_EVT_SPARE_LOW).journalD 7 32 srcSYSCTL unit 0 0 [BitVec.ofNat 8 pool]

/-- A spare of a pool is brought in about instance `unit`: the pool's event bit and one record, whose first DATA byte names the pool
(R31); `last` sets SPARE_LOW (R32). -/
def State.spareUsed (s : State) (evt : Fld) (unit : Nat) (last : Bool) : State :=
  let s := (s.raise evt).journalD 7 31 srcSYSCTL unit 0 0 [BitVec.ofNat 8 evt.lo]
  if last then s.spareLow evt.lo unit else s

/-- HX_FAULT_N as SYSCTL_PIN_STAT shows it. -/
def State.assertFault (s : State) : State := s.raise SYSCTL_PIN_STAT_FAULT_OUT

/-- An uncovered fault is latched: the first cause and its unit stay, HX_FAULT_N is asserted and one record entered
(R418). -/
def State.uncovered (s : State) (cause unit : Nat) : State :=
  let s := if rb s SYSCTL_FAULT_LATCHED then s
    else ((s.setF SYSCTL_FAULT_CAUSE cause).setF SYSCTL_FAULT_UNIT (if cause = 3 then unit else 0)).raise
      SYSCTL_FAULT_LATCHED
  s.assertFault.journalD 7 418 srcSYSCTL (if cause = 3 then unit else noUnit) Code.internalFault.val 0
    [BitVec.ofNat 8 cause]

/-- The device is held in reset, DORMANT included: nothing answers but the Lodge (R58, R114). -/
def asleep (s : State) : Bool := s.boot.stage = .held

/-! ### Groups of the state -/

def State.modBoot (s : State) (f : Boot → Boot) : State := { s with boot := f s.boot }
def State.modLcs (s : State) (f : Lcs → Lcs) : State := { s with lcs := f s.lcs }

/-! ### Lists used as per-instance tables -/

/-- `l` with entry `i` replaced. -/
def setAt {α : Type} : List α → Nat → α → List α
  | [], _, _ => []
  | _ :: t, 0, v => v :: t
  | h :: t, n + 1, v => h :: setAt t n v

/-- Insertion into a list ordered by a key. -/
def insertBy {α : Type} (k : α → Nat) (a : α) : List α → List α
  | [] => [a]
  | b :: t => if k a ≤ k b then a :: b :: t else b :: insertBy k a t

/-- A list in ascending order of a key. -/
def sortBy {α : Type} (k : α → Nat) : List α → List α
  | [] => []
  | a :: t => insertBy k a (sortBy k t)

/-- Conditional update. -/
def State.when (s : State) (b : Bool) (f : State → State) : State := if b then f s else s

/-- A fold of an update over a list. -/
def State.each {α : Type} (s : State) (l : List α) (f : State → α → State) : State := l.foldl f s

/-- Records of one cycle, those of a list past its first `n`, in ascending order of SOURCE, then of UNIT (R425). -/
def sortPast (n : Nat) (l : List JRec) : List JRec := l.take n ++ sortBy (fun r => 65536 * r.src + r.unit) (l.drop n)

/-- Events of one FAB_CLK cycle: their records enter in ascending order of SOURCE, then of UNIT (R425). -/
def State.sameCycle (s : State) (f : State → State) : State :=
  let t := f s
  { t with jnl := { t.jnl with
    fifo := sortPast s.jnl.fifo.length t.jnl.fifo
    preboot := sortPast s.jnl.preboot.length t.jnl.preboot } }

end Sys2Proof.Machine
end

