-- ==== Sys2Proof/Machine/RngOps.lean ====
section
/-! DEFINITION. The random number generator's named operations: source selection (R325 to R327), reseeding (R330), the
output queue (R332), flushes (R334). -/

namespace Sys2Proof.Machine

def srcSPARE : Nat := 0
def srcACTIVE : Nat := 1
def srcRETEST : Nat := 2
def srcFAILED : Nat := 3
def srcTEST : Nat := 4

def drINIT : Nat := 0
def drREADY : Nat := 1
def drSTRETCHED : Nat := 2
def drSTOPPED : Nat := 3

/-- The state of source `k`. -/
def srcState (s : State) (k : Nat) : Nat := rf s (RNG_SRC_STAT_STATE k)

/-- The DRBG's state. -/
def drbgState (s : State) : Nat := rf s RNG_STAT_DRBG

/-- The DRBG delivers items (R330). -/
def drbgOn (s : State) : Bool := drbgState s = drREADY || drbgState s = drSTRETCHED

def State.modRng (s : State) (f : Rng → Rng) : State := { s with rng := f s.rng }

/-- The start-up test of source `k` after the reset still runs. -/
def srcFresh (s : State) (k : Nat) : Bool := s.rng.fresh.testBit k

/-- Sources in a state. -/
def srcCount (s : State) (st : Nat) : Nat := ((List.range 4).filter fun k => srcState s k = st).length

/-- A setting of RNG_CFG or RNG_RESEED in force: the reset value applies until RNG_CTRL.LOCK is set (R337). -/
def rngSet (s : State) (f : Fld) : Nat := if rb s RNG_CTRL_LOCK then rf s f else bitsAt (resetWord f.addr).toNat f.lo f.wid

/-- The effective MIN_ACTIVE, RESEED_INT, limit of a stretch and firmware reserve (R327, R330, R332, R337). -/
def minActive (s : State) : Nat := rngSet s RNG_CFG_MIN_ACTIVE
def reseedInt (s : State) : Nat := rngSet s RNG_RESEED_RESEED_INT
def stretchLimit (s : State) : Nat := reseedInt s * (rngSet s RNG_RESEED_STRETCH_MUL + 1)
def fwReserve (s : State) : Nat := rngSet s RNG_CFG_FW_RESERVE

/-- Source `k` is in SRC_ALLOW (R326). -/
def srcAllowed (s : State) (k : Nat) : Bool := (rngSet s RNG_CFG_SRC_ALLOW).testBit k

/-- The bits of source `k` on their way to the conditioner. -/
def noiseOf (s : State) (k : Nat) : NoiseBits := Sparse.get (fun _ => NoiseBits.start) s.rng.noise k
def State.setNoise (s : State) (k : Nat) (x : NoiseBits) : State :=
  s.modRng fun r => { r with noise := Sparse.put (fun _ => NoiseBits.start) r.noise k x }

/-- One more bit of a source, which the conditioner takes while `taken`: the run of identical bits and the count of the window's first bit
go on (R323). -/
def NoiseBits.push (x : NoiseBits) (b taken : Bool) : NoiseBits :=
  let first := if x.win = 0 then b else x.first
  { x with
    run := if 0 < x.run && b = x.last then x.run + 1 else 1
    last := b
    first
    ones := (if x.win = 0 then 0 else x.ones) + (b == first).toNat
    win := x.win + 1
    fed := if taken then b :: x.fed else x.fed }

/-- The test that has failed: 0 the RCT, 81 identical bits in a row; 1 the APT, the first bit of a window 824 times in it (R323). -/
def NoiseBits.failed (x : NoiseBits) : Option Nat := if 81 ≤ x.run then some 0 else if 824 ≤ x.ones then some 1 else none

/-- A window of 1,024 bits closes: its bits reach the conditioner's buffer (R324). -/
def NoiseBits.close (x : NoiseBits) : NoiseBits :=
  if x.win < 1024 then x else { x with ones := 0, win := 0, fed := [], buf := x.buf ++ x.fed.reverse }

/-- Bits of a source pass through both tests, up to a failure (R323, R324). -/
def NoiseBits.feed : NoiseBits → List Bool → Bool → NoiseBits × Option Nat
  | x, [], _ => (x, none)
  | x, b :: t, taken =>
    let y := x.push b taken
    match y.failed with
    | some f => (y, some f)
    | none => NoiseBits.feed y.close t taken

/-- Every bit of a source since its last closed passing window is discarded, and its tests begin again (R324). -/
def NoiseBits.drop (x : NoiseBits) : NoiseBits := { NoiseBits.start with buf := x.buf }
def State.dropWindow (s : State) (k : Nat) : State := s.setNoise k (noiseOf s k).drop

/-- The start-up test: both tests over a source's first 1,024 bits (R323). -/
def startupOk (bits : List Bool) : Bool := bits.length = 1024 && (NoiseBits.start.feed bits false).2 = none

/-- The first 1,024 bits of a test pattern, bit 0 first (R335). -/
def patternBits (p : Nat) : List Bool := (List.range 1024).map fun i => p.testBit (i % 32)

/-- The conditioner takes the bits of source `k`: it is ACTIVE and conditioning runs (R324, R327). -/
def taken (s : State) (k : Nat) : Bool := srcState s k = srcACTIVE && rb s RNG_STAT_CONDITIONING

/-- Bits of the source in raw-sample mode reach its buffer, where they are dropped once it holds 8,192 (R335). -/
def State.rawIn (s : State) (k : Nat) (bits : List Bool) : State :=
  if s.rng.test = some k && !s.rng.pattern then
    let all := s.rng.raw ++ bits
    (s.when (8192 < all.length) (·.raise (RNG_SRC_STAT_RAW_LOST k))).modRng fun r => { r with raw := all.take 8192 }
  else s

/-- The sources that a seed takes bits from and how many of each: 512 of each of two, 1,024 of one (R327). -/
def seedInput (s : State) : List (Nat × Nat) :=
  match (List.range 4).filter fun k => srcState s k = srcACTIVE with
  | [] => []
  | [k] => [(k, 1024)]
  | a :: b :: _ => [(a, 512), (b, 512)]

/-- The conditioner has the 1,024 bits of a seed, each from a closed passing window (R324, R327, R328). -/
def seedFull (s : State) : Bool :=
  rb s RNG_STAT_CONDITIONING && seedInput s ≠ [] && (seedInput s).all fun (k, n) => n ≤ (noiseOf s k).buf.length

/-- The block that a seed compresses: the bits of one source, or those of two, interleaved (R327, R328). -/
def seedBlock (s : State) : List Bool :=
  match seedInput s with
  | [(a, m), (b, n)] => (((noiseOf s a).buf.take m).zip ((noiseOf s b).buf.take n)).flatMap fun (x, y) => [x, y]
  | [(a, m)] => (noiseOf s a).buf.take m
  | _ => []

/-- The seed that the conditioner computes: one SHA-384 compression of the block (R328). -/
def seedOf (s : State) : List Byte := beBytes 48 (Config.sha384Block (seedBlock s)).toNat

/-- The bits of one seed leave the buffers. -/
def State.takeSeed (s : State) : State :=
  s.each (seedInput s) fun s (k, n) => s.setNoise k { noiseOf s k with buf := (noiseOf s k).buf.drop n }

/-- CONDITIONING, NOISE_SPARE and QUEUE follow the sources and the queue; ALARM is raised when conditioning stops (R327). -/
def State.showRng (s : State) : State :=
  let on := minActive s ≤ srcCount s srcACTIVE
  let s := if rb s RNG_STAT_CONDITIONING && !on then s.raise RNG_EVT_ALARM else s
  let spares := ((List.range 4).filter fun k => srcState s k = srcSPARE && !srcFresh s k).length
  ((s.setB RNG_STAT_CONDITIONING on).setF SYSCTL_SPARE_STAT_NOISE_SPARE (min spares 2)).setF RNG_STAT_QUEUE
    s.rng.queue.length

def State.bumpClamp (s : State) : State := s.bump RNG_CLAMP_LO RNG_CLAMP_HI RNG_EVT_SAT srcRNG

/-- The source that the selection brings in: the lowest-numbered SPARE one whose bit is set in SRC_ALLOW (R326). -/
def nextSource (s : State) : Option Nat :=
  (List.range 4).find? fun k => srcState s k = srcSPARE && !srcFresh s k && srcAllowed s k

/-- The lowest-numbered SPARE source, whatever SRC_ALLOW says. -/
def nextSpare (s : State) : Option Nat := (List.range 4).find? fun k => srcState s k = srcSPARE && !srcFresh s k

/-- A flush: every queued item and firmware's partly read item are discarded (R334). -/
def State.rngFlush (s : State) : State :=
  ((s.modRng fun r => { r with queue := [], item := [], flushed := true }).setF RNG_OUT_STAT_WORD 0).showRng.raise
    RNG_EVT_FLUSHED_EVT

/-- SRC_ALLOW holds back a source that the selection would have brought in (R326). -/
def State.selClamp (s : State) (k : Nat) : State := (s.bumpClamp.raise RNG_EVT_SEL_CLAMP).journal 7 326 srcRNG k

/-- The lowest-numbered SPARE source of SRC_ALLOW becomes ACTIVE (R326, R31). -/
def State.bringIn (s : State) : State :=
  match nextSource s with
  | some k =>
    let s := s.setF (RNG_SRC_STAT_STATE k) srcACTIVE
    s.spareUsed SYSCTL_SPARE_EVT_NOISE_USED k ((nextSpare s).isNone)
  | none => s

/-- A spare still runs its start-up test after the reset: whether one is left is not known yet. -/
def spareTests (s : State) : Bool := [2, 3].any fun k => srcFresh s k && srcState s k = srcSPARE

/-- An ACTIVE source was retired: the selection brings in a SPARE one, or SRC_ALLOW holds it back; while spares run their start-up tests
its place stays open for them (R322, R326, R31, R32). -/
def State.selectSource (s : State) : State :=
  let s := match nextSpare s with
    | some k =>
      if srcAllowed s k then s else s.selClamp k
    | none => s
  match nextSource s with
  | some _ => s.bringIn
  | none =>
    if spareTests s then s.modRng fun r => { r with places := r.places + 1 }
    else s.spareLow SYSCTL_SPARE_EVT_NOISE_USED.lo noUnit

/-- A source is retired to FAILED (R325); one in TEST leaves that mode with it, which is a flush (R334, R335). -/
def State.retireSource (s : State) (k : Nat) (wasActive : Bool) : State :=
  let s := (s.setF (RNG_SRC_STAT_STATE k) srcFAILED).raise RNG_EVT_RETIRED
  let s := if s.rng.test = some k then (s.modRng fun r => { r with test := none, pattern := false, raw := [] }).rngFlush else s
  if wasActive then s.selectSource
  else if (nextSpare s).isNone && !spareTests s then s.spareLow SYSCTL_SPARE_EVT_NOISE_USED.lo noUnit
  else s

/-- A reseed: the buffered seed is used, RESEEDS counts, and the DRBG is READY (R329, R330). -/
def State.doReseed (s : State) : State :=
  let s := (s.setF RNG_STAT_SEED_BUF 0).setF RNG_STAT_DRBG drREADY
  (s.modRng fun r => { r with since := 0, asked := false, seed := [], drbg := Config.drbgReseed r.drbg r.seed }).bump RNG_RESEEDS_LO RNG_RESEEDS_HI RNG_EVT_SAT srcRNG

/-- The DRBG stops, which is an uncovered fault (R330, R417, R418 cause 0x06). -/
def State.drbgStop (s : State) : State :=
  s.sameCycle fun s => (((s.setF RNG_STAT_DRBG drSTOPPED).raise RNG_EVT_ALARM).journal 7 330 srcRNG noUnit .internalFault).uncovered 6 0

/-- What an item boundary does: a reseed that is due or asked for, entry to STRETCHED, or the limit (R330, R336). -/
def State.itemBoundary (s : State) : State :=
  if !drbgOn s then s
  else if rb s RNG_STAT_SEED_BUF && (s.rng.asked || reseedInt s ≤ s.rng.since) then s.doReseed
  else if s.rng.since < reseedInt s then s
  else if stretchLimit s ≤ s.rng.since then s.drbgStop
  else if drbgState s = drREADY then
    ((s.setF RNG_STAT_DRBG drSTRETCHED).raise RNG_EVT_STRETCH).bumpClamp.journal 7 330 srcRNG noUnit
  else s

/-- One item is produced into the queue while it holds fewer than 64 (R329, R332). -/
def State.produce (s : State) : State :=
  let s := s.itemBoundary
  if drbgOn s && s.rng.queue.length < 64 then
    let (it, s) := s.drbg
    (s.modRng fun r => { r with queue := r.queue ++ [it], since := r.since + 1 }).itemBoundary.showRng
  else s

/-- An internal consumer takes the item at the head of the queue, waiting for one while the DRBG delivers (R329, R332). -/
def State.takeItem (s : State) : Except Code (List Byte) × State :=
  if rb s RNG_STAT_KAT_FAIL then (.error .internalFault, s)
  else
    let s := if s.rng.queue = [] then s.produce else s
    match s.rng.queue with
    | it :: q => (.ok it, (s.modRng fun r => { r with queue := q }).showRng)
    | [] => (.error .notReady, s)

/-- `n` items, as one byte string. -/
def State.takeItems : Nat → State → Except Code (List Byte) × State
  | 0, s => (.ok [], s)
  | n + 1, s =>
    match s.takeItem with
    | (.error c, s) => (.error c, s)
    | (.ok it, s) =>
      match State.takeItems n s with
      | (.error c, s) => (.error c, s)
      | (.ok rest, s) => (.ok (it ++ rest), s)

/-- What a Lodge zeroisation does to the generator (R331). -/
def State.rngZeroise (s : State) : State :=
  let s := (s.rngFlush.setF RNG_STAT_SEED_BUF 0).modRng fun r => { r with seed := [] }
  if drbgOn s then (s.setF RNG_STAT_DRBG drINIT).modRng fun r => { r with since := 0, asked := false, drbg := [] } else s

/-- The source in TEST leaves it: it runs its start-up test and returns as SPARE (R335). -/
def State.endTest (s : State) : State :=
  match s.rng.test with
  | none => s
  | some k =>
    let s := s.modRng fun r => { r with test := none, pattern := false, raw := [], former := setBits r.former k 1 0 }
    ((s.setF (RNG_SRC_STAT_STATE k) srcRETEST).dropWindow k).rngFlush

/-- The word that a read of RNG_DATA returns: the next word of the item in progress, or the first of an item that may be taken
(R333, R334). -/
def rngDataWord (s : State) : Word :=
  let w := rf s RNG_OUT_STAT_WORD
  if s.rng.flushed then 0
  else if w ≠ 0 then BitVec.ofNat 32 (beNat s.rng.item >>> (32 * w))
  else if rb s RNG_STAT_KAT_FAIL || s.rng.queue.length ≤ fwReserve s then 0
  else match s.rng.queue with
    | it :: _ => BitVec.ofNat 32 (beNat it)
    | [] => 0

/-- The number that bits spell, the first in bit 0. -/
def bitsNat : List Bool → Nat
  | [] => 0
  | b :: t => b.toNat + 2 * bitsNat t

/-- RNG_RAW has 32 bits to return (R335). -/
def rawReady (s : State) : Bool := s.rng.test.isSome && !s.rng.pattern && decide (32 ≤ s.rng.raw.length)

/-- The word that a read of RNG_RAW returns (R335). -/
def rngRawWord (s : State) : Word := if rawReady s then BitVec.ofNat 32 (bitsNat (s.rng.raw.take 32)) else 0

/-- 2^30 bits at 25 MHz, in microseconds. -/
def failSpan : Nat := 42949672

end Sys2Proof.Machine
end

