-- ==== Sys2Proof/Machine/EngOps.lean ====
section
/-! DEFINITION. The arithmetic engines' named operations: descriptors (R306 to R310, R314), checks and results (R310, R313),
and the end of an operation (R308, R318). -/

namespace Sys2Proof.Machine

/-! ### Descriptors -/

/-- Fields of a 32-byte descriptor (R306). -/
def dscOp (d : List Byte) : Nat := fieldAt d 0 1
def dscFlags (d : List Byte) : Nat := fieldAt d 2 1
def dscLen (d : List Byte) : Nat := fieldAt d 4 4
def dscElen (d : List Byte) : Nat := fieldAt d 8 4
def dscA (d : List Byte) : Nat := fieldAt d 12 4
def dscB (d : List Byte) : Nat := fieldAt d 16 4
def dscC (d : List Byte) : Nat := fieldAt d 20 4
def dscD (d : List Byte) : Nat := fieldAt d 24 4
def dscDst (d : List Byte) : Nat := fieldAt d 28 4
def useWk (d : List Byte) : Bool := (dscFlags d).testBit 0
def dscCurve (d : List Byte) : Curve := if (dscFlags d).testBit 1 then p384 else p256
def xOnly (d : List Byte) : Bool := (dscFlags d).testBit 2

/-- What an operation is: its engine, the FLAGS bits it may carry, the bounds of LEN and ELEN, the bytes of operands A to D,
and the bytes of its output (R310, R314). -/
structure OpShape where
  engine : Nat
  flags : Nat
  wkMust : Bool
  lenLo : Nat
  lenHi : Nat
  elenLo : Nat
  elenHi : Nat
  args : List Nat
  dst : Nat

/-- The operation of a descriptor; none for an OP that no table names. -/
def opShape (d : List Byte) : Option OpShape :=
  let n := 4 * dscLen d
  let sz := (dscCurve d).size
  let pt := 2 * sz + 1
  match dscOp d with
  | 0x01 | 0x02 | 0x03 => some ⟨0, 0, false, 1, 256, 0, 0, [n, n, n, 0], n⟩
  | 0x04 => some ⟨0, 0, false, 1, 256, 0, 0, [n, 0, n, 0], n⟩
  | 0x05 => some ⟨0, 0, false, 1, 256, 1, 256, [n, 4 * dscElen d, n, 0], n⟩
  | 0x10 => some ⟨0, 2, false, 0, 0, 0, 0, [pt, 0, 0, 0], 0⟩
  | 0x11 => some ⟨0, 2, false, 0, 0, 0, 0, [sz, pt, 2 * sz, 0], 0⟩
  | 0x12 => some ⟨0, 3, true, 0, 0, 0, 0, [sz, 0, 0, 0], 2 * sz⟩
  | 0x13 => some ⟨0, 7, false, 0, 0, 0, 0, [if useWk d then 0 else sz, if dscB d = 0 then 0 else pt, 0, 0],
      if xOnly d then sz else pt⟩
  | 0x20 => some ⟨1, 0, false, 0, 4096, 0, 255, [2592, 4627, dscLen d, dscElen d], 0⟩
  | 0x21 => some ⟨1, 1, true, 0, 0, 0, 0, [1568, 0, 0, 0], 32⟩
  | 0x22 => some ⟨1, 0, false, 0, 4096, 0, 65536, [60, dscElen d, dscLen d, 0], 0⟩
  | 0x30 => some ⟨2, 0, false, 0, 65536, 0, 0, [dscLen d, 0, 0, 0], 48⟩
  | 0x31 => some ⟨2, 0, false, 0, 65536, 1, 4096, [dscLen d, 0, 0, 0], dscElen d⟩
  | 0x32 => some ⟨2, 1, true, 0, 65536, 1, 64, [dscLen d, 0, 0, 0], dscElen d⟩
  | 0x38 => some ⟨3, 0, false, 0, 65536, 0, 0, [dscLen d, 0, 0, 0], 48⟩
  | 0x39 => some ⟨3, 1, true, 0, 65536, 0, 0, [dscLen d, 0, 0, 0], 48⟩
  | _ => none

/-- The address of a range an operation uses: a multiple of 4, with the range inside TCM and outside the execute-only range; 0, no operand,
only where the operation takes none (R306). -/
def engSpan (s : State) (a n : Nat) : Bool := (n = 0 && a = 0) || (a % 4 = 0 && tcmFree s a (max n 1))

/-- The descriptor obeys R306, R310 and R314 on engine `e`. -/
def dscOk (s : State) (e : Nat) (d : List Byte) : Bool :=
  match opShape d with
  | none => false
  | some h =>
    h.engine = e && (dscFlags d &&& h.flags) = dscFlags d && (!h.wkMust || useWk d) && zeroAt d 3 1
      && h.lenLo ≤ dscLen d && dscLen d ≤ h.lenHi && h.elenLo ≤ dscElen d && dscElen d ≤ h.elenHi
      && engSpan s (dscA d) (h.args.getD 0 0) && engSpan s (dscB d) (h.args.getD 1 0)
      && engSpan s (dscC d) (h.args.getD 2 0) && engSpan s (dscD d) (h.args.getD 3 0)
      && (if h.dst = 0 then dscDst d = 0 else engSpan s (dscDst d) h.dst)

/-- The operands as step 2 of R308 copies them. -/
def dscArgs (s : State) (d : List Byte) (h : OpShape) : List (List Byte) :=
  [tcmRead s (dscA d) (h.args.getD 0 0), tcmRead s (dscB d) (h.args.getD 1 0), tcmRead s (dscC d) (h.args.getD 2 0),
    tcmRead s (dscD d) (h.args.getD 3 0)]

/-- An operand comes from a poisoned TCM word (R318). -/
def dscPoisoned (s : State) (d : List Byte) (h : OpShape) : Bool :=
  [(dscA d, 0), (dscB d, 1), (dscC d, 2), (dscD d, 3)].any fun (a, i) => tcmPoisoned s a (h.args.getD i 0)

/-! ### Checks and results (R310, R313, R314) -/

/-- Pre-checks of a modular operation: the modulus rules and operands below m. -/
def modPre (op : Nat) (a b m topWord : Nat) : Bool :=
  topWord ≠ 0 && 1 < m && (op < 3 || m % 2 = 1) && a < m && (op > 3 || b < m)

/-- The code of the pre-check that ends an operation, 0 for none; `wk` is the TYPE of the working key it uses. -/
def preCheck (d : List Byte) (args : List (List Byte)) (wk : Option (Nat × List Byte)) : Nat :=
  let a := args.getD 0 []
  let b := args.getD 1 []
  let c := args.getD 2 []
  let cv := dscCurve d
  let op := dscOp d
  if op ≤ 5 then
    if modPre op (leNat a) (leNat b) (leNat c) (fieldAt c (4 * (dscLen d - 1)) 4) then 0 else Code.malformed.val
  else if op = 0x10 then if (cv.decode a).isSome then 0 else Code.verifyFail.val
  else if op = 0x11 then
    if (cv.decode b).isSome && cv.scalarOk (beNat (slice c 0 cv.size)) && cv.scalarOk (beNat (slice c cv.size cv.size))
    then 0 else Code.verifyFail.val
  else if useWk d && wk.isNone then Code.notReady.val
  else if op = 0x13 then
    if dscB d ≠ 0 && (cv.decode b).isNone then Code.verifyFail.val
    else if !useWk d && !cv.scalarOk (beNat a) then Code.malformed.val
    else 0
  else if op = 0x22 then
    if lmsTypesOk a && dscElen d = lmsSigLen a && lmsSigOk a b then 0 else Code.malformed.val
  else 0

/-- The number of the working-key scalar, or of operand A. -/
def scalarArg (d : List Byte) (args : List (List Byte)) (wk : Option (Nat × List Byte)) : Nat :=
  if useWk d then match wk with | some (_, p) => beNat (slice p 0 48) | none => 0 else beNat (args.getD 0 [])

/-- The outcome of an operation that passed its pre-checks: a code, and its output bytes (R310, R314). A signature draws its
nonce from the DRBG. -/
def engCompute (s : State) (o : EngOp) : (Code × List Byte) × State :=
  let d := o.desc
  let a := o.args.getD 0 []
  let b := o.args.getD 1 []
  let c := o.args.getD 2 []
  let cv := dscCurve d
  let n := 4 * dscLen d
  let m := leNat c
  let key := match o.wk with | some (_, _, p) => p | none => []
  let wk := o.wk.map (·.2)
  let ok (bs : List Byte) : (Code × List Byte) × State := ((.ok, bs), s)
  let verdict (v : Bool) : (Code × List Byte) × State := ((if v then .ok else .verifyFail, []), s)
  match dscOp d with
  | 0x01 => ok (leBytes n ((leNat a + leNat b) % m))
  | 0x02 => ok (leBytes n ((leNat a + m - leNat b) % m))
  | 0x03 => ok (leBytes n (leNat a * leNat b % m))
  | 0x04 =>
    match modInv (8 * n) m (leNat a) with
    | some v => ok (leBytes n v)
    | none => ((.malformed, []), s)
  | 0x05 => ok (leBytes n (modPow m (32 * dscElen d) (leNat a) (leNat b) (1 % m)))
  | 0x10 => ok []
  | 0x11 => verdict (ecdsaVerify cv b a c)
  | 0x12 =>
    match s.takeItem with
    | (.error e, s) => ((e, []), s)
    | (.ok it, s) =>
      match ecdsaSign cv (scalarArg d o.args wk) a (cv.scalar (beNat it)) with
      | some sig => ((.ok, sig), s)
      | none => ((.internalFault, []), s)
  | 0x13 =>
    let q := if dscB d = 0 then cv.base else cv.decode b
    match cv.mul (scalarArg d o.args wk) q with
    | some (x, y) => ok (if xOnly d then beBytes cv.size x else cv.encode (some (x, y)))
    | none => ((.internalFault, []), s)
  | 0x20 => verdict (Config.mldsaVerify a (o.args.getD 3 []) c b)
  | 0x22 => verdict (Config.lmsVerify a c b)
  | 0x38 => ok (digestBytes (Config.sha384 a))
  | 0x39 => ok (digestBytes (Config.hmac384 (slice key 0 48) a))
  | op =>
    let len := match opShape d with | some h => h.dst | none => 0
    ok (slice (Config.engineResult op key a len) 0 len)

/-! ### Run times (R309, R311, R312, R314), in nanoseconds -/

/-- The run time of an operation whose descriptor is well formed. -/
def runNs (d : List Byte) (a : List Byte) : Nat :=
  let l := 32 * dscLen d
  let e := 32 * dscElen d
  let up (num den : Nat) : Nat := (num + 10 * den - 1) / (10 * den) * 10
  let big := (dscFlags d).testBit 1
  let sponge := 1000 + 30 * (dscLen d / 136 + 1 + (dscElen d + 135) / 136)
  match dscOp d with
  | 0x01 | 0x02 => up (20 * 4096 + 80 * l) 4096
  | 0x03 => up (50 * 4096 ^ 2 + 1050 * l ^ 2) (4096 ^ 2)
  | 0x04 => up (1000 * 4096 ^ 2 + 499000 * l ^ 2) (4096 ^ 2)
  | 0x05 => up (9000000 * l ^ 2 * e) (4096 ^ 3)
  | 0x10 => if big then 4000 else 3000
  | 0x11 => if big then 1200000 else 500000
  | 0x12 => if big then 750000 else 320000
  | 0x13 => if big then 700000 else 300000
  | 0x20 => 400000
  | 0x21 => 120000
  | 0x22 => (if beNat (slice a 8 4) = 3 then 100000 else 740000) + 200 * (5 * (beNat (slice a 4 4) - 4))
  | 0x30 => 1000 + 30 * (dscLen d / 104 + 1)
  | 0x31 => sponge
  | 0x32 => sponge + 60
  | 0x38 => 1000 + 100 * ((dscLen d + 16) / 128 + 1)
  | _ => 1000 + 100 * ((dscLen d + 16) / 128 + 1) + 300

/-- The remaining run time of an operation in whole milliseconds, rounded up and at least 1; one that a pre-check, an ABORT or a revocation
ends has less than 1 left (R309, R319, R321). -/
def remainMs (s : State) (o : EngOp) : Nat :=
  if o.args = [] || o.pre ≠ 0 || o.ends ≠ 0 then 1
  else max 1 ((runNs o.desc (o.args.getD 0 []) - 1000 * (s.usec - o.started) + 999999) / 1000000)

/-! ### Running operations -/

/-- The register block of an engine: 0 LIU, 1 LATT. -/
def engBlk (e : Nat) : Nat := if e = 0 then 0 else 1
def srcEng (b : Nat) : Nat := if b = 0 then srcLIU else srcLATT

def engOp (s : State) (e : Nat) : Option EngOp := (s.eng.find? (·.1 = e)).map (·.2)
def engBusy (s : State) (e : Nat) : Bool := (engOp s e).isSome
def State.setEng (s : State) (e : Nat) (o : Option EngOp) : State :=
  let rest := s.eng.filter (·.1 ≠ e)
  let s := { s with eng := match o with | some o => rest ++ [(e, o)] | none => rest }
  s.setMapBit (ENG_STAT_BUSY (engBlk e)) e o.isSome

/-- KM_HOLD of an engine (R317). -/
def kmHold (s : State) (e : Nat) : Bool := mapBit s (ENG_STAT_KM_HOLD (engBlk e)) e
def State.setKmHold (s : State) (e : Nat) (b : Bool) : State := s.setMapBit (ENG_STAT_KM_HOLD (engBlk e)) e b

/-- The other engine of the shared SHA-3 and SHAKE core (R315). -/
def corePeer (e : Nat) : Option Nat := if e = 1 then some 2 else if e = 2 then some 1 else none

/-- The engine's core is in use by its peer (R315). -/
def coreTaken (s : State) (e : Nat) : Bool :=
  match corePeer e with | some p => engBusy s p | none => false

/-- An operation on engine `e` is being ended with code `c`; one whose key was erased by force stays KEY_REVOKED (R296). -/
def State.engStop (s : State) (e : Nat) (c : Code) : State :=
  match engOp s e with
  | some o => s.setEng e (some { o with ends := if o.ends = Code.keyRevoked.val then o.ends else c.val })
  | none => s

/-- CLEAR_WK waits for the end of the operation on engine `e` (R320). -/
def State.clearLater (s : State) (e : Nat) : State :=
  match engOp s e with
  | some o => s.setEng e (some { o with clear := true })
  | none => s

/-- Every operation whose working key comes from a slot of `sel` ends with KEY_REVOKED (R296). -/
def State.engRevoke (s : State) (sel : Nat → Bool) : State :=
  s.each [0, 1, 2, 3] fun s e =>
    match engOp s e with
    | some o => match o.wk with
      | some (sl, _, _) => if sel sl then s.engStop e .keyRevoked else s
      | none => s
    | none => s

/-- Every firmware operation ends without a trace in TCM, as a Belvedere restart ends it; the statistics counters stay (R320, R421). -/
def State.engReset (s : State) : State :=
  { s with eng := [] }.resetRegs fun a =>
    0x40030000 ≤ a && a < 0x40050000 && !(0x20 ≤ a % 0x10000 && a % 0x10000 < 0x30)

end Sys2Proof.Machine
end

