-- ==== Sys2Proof/Machine/VaultOps.lean ====
section
/-! DEFINITION. The vault of the Lodge (R289, R395 to R398): its bytes, its report and what writes it. -/

namespace Sys2Proof.Machine

/-- What a vault byte reads as that nothing has written: an EMPTY vault, ZCAUSE 0xFF for none (R396). -/
def vaultFill (a : Nat) : Byte := if a = 1 then 0xFF else 0

/-- `n` vault bytes from offset `a`. -/
def vaultRead (s : State) (a n : Nat) : List Byte := (List.range n).map fun i => Sparse.get vaultFill s.lodge.vault (a + i)

def State.modLodge (s : State) (f : Lodge → Lodge) : State := { s with lodge := f s.lodge }

/-- A byte string in a table of vault bytes. -/
def vaultPut : List Host.Cell → Nat → List Byte → List Host.Cell
  | m, _, [] => m
  | m, a, b :: bs => vaultPut (Sparse.put vaultFill m a b) (a + 1) bs

/-- Reports of R396. -/
def vrEMPTY : Nat := 0
def vrVALID : Nat := 1
def vrZEROISED : Nat := 2
def vrCORRUPT : Nat := 3

/-- The report on the vault (R396). -/
def vaultReport (s : State) : Nat :=
  let st := (vaultRead s 0 1).getD 0 0
  let sec := vaultRead s 8 32
  if s.lodge.lost then vrCORRUPT
  else if st = 0xA5 then
    if vaultRead s 40 32 = sec.map (~~~ ·) && fieldAt (vaultRead s 72 4) 0 4 = crc32 (vaultRead s 8 64) then vrVALID
    else vrCORRUPT
  else if st = 0 then vrEMPTY
  else if st = 0x5A then vrZEROISED
  else vrCORRUPT

/-- LODGE_STAT.VAULT and LODGE_EVT_TOTAL follow the vault. -/
def State.showVault (s : State) : State :=
  (s.setF LODGE_STAT_VAULT (vaultReport s)).setF LODGE_EVT_TOTAL_TOTAL (fieldAt (vaultRead s 76 4) 0 4)

/-- Bytes are written to the vault. -/
def State.vaultWrite (s : State) (a : Nat) (bs : List Byte) : State :=
  (s.modLodge fun l => { l with vault := vaultPut l.vault a bs }).showVault

/-- Every vault byte of [lo, hi) is cleared. -/
def State.vaultClear (s : State) (lo hi : Nat) : State :=
  (s.modLodge fun l => { l with vault := Sparse.clear (fun a => lo ≤ a && a < hi) l.vault }).showVault

/-- A root secret is written: secret, complement, check, STATE last; a CORRUPT vault is cleared first (R397). -/
def State.vaultProvision (s : State) (sec : List Byte) : State :=
  let s := if vaultReport s = vrCORRUPT then (s.vaultClear 8 76).vaultClear 256 4096 else s
  let body := sec ++ sec.map (~~~ ·)
  let s := s.modLodge fun l => { l with lost := false }
  (s.vaultWrite 8 (body ++ leBytes 4 (crc32 body))).vaultWrite 0 [0xA5]

/-- A zeroisation of the vault with its cause; SCRAP also clears the ring and EVT_TOTAL (R398). -/
def State.vaultZeroise (s : State) (cause : Nat) : State :=
  let s := (((s.modLodge fun l => { l with lost := false }).vaultClear 8 76).vaultClear 256 4096)
  let s := if cause = 0xFE then s.vaultClear 76 256 else s
  s.vaultWrite 0 ([0x5A, BitVec.ofNat 8 cause, 0, 0] ++ leBytes 4 (rf s LODGE_RTC_SEC_SEC))

/-- The vault's contents are not retained: every byte takes a free value and the report is CORRUPT (R395). -/
def State.vaultLoss (s : State) : State :=
  let bytes := (List.range 4096).map fun a => BitVec.ofNat 8 ((Config.freeValue (s.freeIx + a)).toNat)
  (({ s with freeIx := s.freeIx + 4096 }).modLodge fun l => { l with lost := true }).vaultWrite 0 bytes

/-- VBAT at or above 2.4 V (R395). -/
def vbatOk (s : State) : Bool := rb s LODGE_STAT_VBAT_OK

end Sys2Proof.Machine
end

