-- ==== Sys2Proof/Machine/KeyOps.lean ====
section
/-! DEFINITION. The key manager's named operations: metadata (R285, R286), copies and their validity (R287, R291), commits
(R290), derivation (R71, R288, R297), loading from the vault (R292) and forced erase (R296). -/

namespace Sys2Proof.Machine

/-! ### Metadata (R285) -/

def mdKeyId (m : Nat) : Nat := bitsAt m 32 32
def mdGen (m : Nat) : Nat := bitsAt m 16 16
def mdType (m : Nat) : Nat := bitsAt m 12 4
def mdUsage (m : Nat) : Nat := bitsAt m 5 5
def mdPersist (m : Nat) : Bool := m.testBit 4
def mdOrigin (m : Nat) : Nat := bitsAt m 2 2

/-- USAGE bits within [9:5]. -/
def usSIGN : Nat := 1
def usDERIVE : Nat := 2
def usMAC : Nat := 4
def usKEM : Nat := 8
def usATTEST : Nat := 16

def mdHas (m us : Nat) : Bool := (mdUsage m &&& us) = us

/-- A metadata word with GEN zero. -/
def mkMd (keyId ty usage : Nat) (persist : Bool) (origin : Nat) : Nat :=
  keyId * 2 ^ 32 + ty * 2 ^ 12 + usage * 2 ^ 5 + persist.toNat * 2 ^ 4 + origin * 2 ^ 2

/-- TYPE and USAGE permitted by R286; ATTEST goes with any TYPE. -/
def typeUsageOk (ty usage : Nat) : Bool :=
  let u := usage &&& 15
  (ty = 1 && (u &&& 6) = u) || (ty = 2 && (u &&& 4) = u) || (ty = 3 && (u &&& 4) = u) || (ty = 4 && (u &&& 1) = u)
    || (ty = 5 && (u &&& 8) = u)

/-- The engine that can hold a key of a TYPE, and the USAGE it takes (R286). -/
def typeEngine (ty : Nat) : Option (Nat × Nat) :=
  if ty = 1 || ty = 2 then some (3, usMAC) else if ty = 3 then some (2, usMAC) else if ty = 4 then some (0, usSIGN)
  else if ty = 5 then some (1, usKEM) else none

/-! ### Slots -/

def slotOf (s : State) (i : Nat) : Slot := Sparse.get (fun _ => Slot.empty) s.keys.slots i
def State.modKeys (s : State) (f : Keys → Keys) : State := { s with keys := f s.keys }
def State.putSlot (s : State) (i : Nat) (x : Slot) : State :=
  s.modKeys fun k => { k with slots := Sparse.put (fun _ => Slot.empty) k.slots i x }

def Slot.copy (x : Slot) (k : Nat) : Copy := if k = 0 then x.c0 else x.c1
def Slot.setCopy (x : Slot) (k : Nat) (c : Copy) : Slot := if k = 0 then { x with c0 := c } else { x with c1 := c }

/-- The tag of a copy (R287). -/
def copyTag (kt payload : List Byte) (md i : Nat) : List Byte :=
  beBytes 8 (Config.slotTag kt (slice payload 0 64 ++ leBytes 8 md ++ [BitVec.ofNat 8 i])).toNat

/-- A copy is valid (R287). -/
def copyValid (s : State) (i : Nat) (c : Copy) : Bool :=
  s.keys.kt ≠ [] && !c.damaged && 1 ≤ mdType c.md && mdType c.md ≤ 5 && c.tag = copyTag s.keys.kt c.payload c.md i

/-- The first of two generations is the newer (R291). -/
def genNewer (a b : Nat) : Bool := let d := (a + 65536 - b) % 65536; 1 ≤ d && d ≤ 32767

/-- The winning copy (R291). -/
def winner (s : State) (i : Nat) : Option Nat :=
  let x := slotOf s i
  match copyValid s i x.c0, copyValid s i x.c1 with
  | true, true => some (if genNewer (mdGen x.c1.md) (mdGen x.c0.md) then 1 else 0)
  | true, false => some 0
  | false, true => some 1
  | false, false => none

/-- STATE of a slot (R291, R296). -/
def slEMPTY : Nat := 0
def slVALID : Nat := 1
def slBAD : Nat := 2
def slSEALED : Nat := 3

def slotState (s : State) (i : Nat) : Nat :=
  let x := slotOf s i
  if x.isSealed then slSEALED
  else if (winner s i).isSome then slVALID
  else if x.c0 = Copy.empty && x.c1 = Copy.empty then slEMPTY
  else slBAD

/-- Metadata and payload of the winning copy. -/
def slotMd (s : State) (i : Nat) : Nat := match winner s i with | some k => ((slotOf s i).copy k).md | none => 0
def slotPayload (s : State) (i : Nat) : List Byte :=
  match winner s i with | some k => ((slotOf s i).copy k).payload | none => []

/-- The metadata that a lookup and PUBLIC see: of the winning copy, or as it was when the slot was sealed. -/
def slotMdSeen (s : State) (i : Nat) : Nat := if (slotOf s i).isSealed then (slotOf s i).sealMd else slotMd s i

/-- VALID and SEALED slots with a KEY_ID; 0 matches nothing (R285, R293). -/
def slotsWithId (s : State) (id : Nat) : List Nat :=
  if id = 0 then []
  else (List.range 64).filter fun i => (slotState s i = slVALID || slotState s i = slSEALED) && mdKeyId (slotMdSeen s i) = id

/-- KEYS_STAT.PERSIST_USED: slots with PERSIST. -/
def State.showPersist (s : State) : State :=
  s.setF KEYS_STAT_PERSIST_USED ((List.range 64).filter fun i => mdPersist (slotMdSeen s i)).length

/-- KEYS_BAD's bit of a slot. -/
def badFld (i : Nat) : Fld := if i < 32 then ⟨KEYS_BAD_LO, i, 1⟩ else ⟨KEYS_BAD_HI, i - 32, 1⟩

/-- A slot first found BAD: KEY_BAD_EVT and one record (R291). -/
def State.foundBad (s : State) (i : Nat) : State :=
  if slotState s i = slBAD && !rb s (badFld i) then
    ((s.raise (badFld i)).raise KEYS_EVT_KEY_BAD_EVT).journal 1 291 srcKEYS i .keyBad
  else s

/-! ### Working keys and leases (R294) -/

/-- The slot field of engine `e`'s working-key register. -/
def wkFld (e : Nat) : Fld := ⟨KEYS_WK, 8 * e, 8⟩

/-- Engine `e` holds a lease on slot `i`. -/
def leased (s : State) (i e : Nat) : Bool := rf s (wkFld e) = i
def anyLease (s : State) (i : Nat) : Bool := [0, 1, 2, 3].any (leased s i)

/-- A working-key register takes a slot's key, or is cleared. -/
def State.setWk (s : State) (e : Nat) (k : Option (Nat × Nat × List Byte)) : State :=
  let rest := s.keys.wk.filter (·.1 ≠ e)
  let s := s.modKeys fun q => { q with wk := match k with | some (_, ty, p) => rest ++ [(e, ty, p)] | none => rest }
  (s.setF (wkFld e) (match k with | some (i, _, _) => i | none => 0xFF)).setMapBit (ENG_STAT_WK_LOADED (engBlk e)) e k.isSome

/-! ### Commits (R289, R290) -/

/-- An atomic window of 2 µs opens (R59, R290). -/
def State.atomic (s : State) : State := { s with atomicUntil := s.usec + 2 }

/-- The copy that a commit writes: the losing one; copy 0 of a slot without a valid copy. -/
def loser (s : State) (i : Nat) : Nat := match winner s i with | some 0 => 1 | _ => 0

/-- A commit of new contents to a slot's SRAM: the losing copy with GEN one above the winner's, then its tag (R290). -/
def State.commitSram (s : State) (i : Nat) (payload : List Byte) (md : Nat) : State :=
  let k := loser s i
  let gen := match winner s i with | some w => (mdGen ((slotOf s i).copy w).md + 1) % 65536 | none => 0
  let md := md + gen * 2 ^ 16
  let p := slice payload 0 64
  let x := (slotOf s i).setCopy k ⟨p, md, copyTag s.keys.kt p md i, false⟩
  ((s.putSlot i { x with isSealed := false, sealMd := 0, pub := [] }).setF (badFld i) 0).atomic.showPersist

/-- The vault offset of copy `k` of a persistent slot (R289). -/
def vaultOff (i k : Nat) : Nat := 256 + 160 * (i - 40) + 80 * k

/-- The first vault phase: payload and metadata behind a zero tag; the second writes the tag of what the first wrote, also when the slot
was sealed in between (R290, R296, R305). -/
def State.vaultPhase1 (s : State) (i k : Nat) : State :=
  let c := (slotOf s i).copy k
  s.vaultWrite (vaultOff i k) (slice c.payload 0 64 ++ leBytes 8 c.md ++ List.replicate 8 0)
def State.vaultPhase2 (s : State) (i k : Nat) : State := 
  let bs := vaultRead s (vaultOff i k) 72
  s.vaultWrite (vaultOff i k + 72) (copyTag s.keys.kt (slice bs 0 64) (fieldAt bs 64 8) i)

/-- A slot and, for KS40 to KS63, its vault copies are zeroised (R305). -/
def State.eraseSlot (s : State) (i : Nat) : State :=
  let x := slotOf s i
  ((s.putSlot i { Slot.empty with wlock := x.wlock }).setF (badFld i) 0).atomic.showPersist

/-! ### Derivation (R71, R288) -/

/-- The message of block `ctr` of the SP 800-108 counter-mode KDF (R71). -/
def kdfMsg (ctr : Nat) (label ctx : List Byte) (bits : Nat) : List Byte :=
  beBytes 4 ctr ++ label ++ [0] ++ ctx ++ beBytes 4 bits

/-- The output of the KDF in bits: one block, or two for 512 bits. -/
def kdf (key label ctx : List Byte) (bits : Nat) : List Byte :=
  let block (c : Nat) : List Byte := digestBytes (Config.hmac384 key (kdfMsg c label ctx bits))
  slice (if bits ≤ 384 then block 1 else block 1 ++ block 2) 0 (bits / 8)

/-- Life-cycle encodings that LCS_STAT shows (R381). -/
def lcBLANK : Nat := 0
def lcFACTORY : Nat := 1
def lcOWNED : Nat := 2
def lcRETURNED : Nat := 3
def lcSCRAP : Nat := 4
def lcINVALID : Nat := 7
def lcState (s : State) : Nat := rf s LCS_STAT_STATE

/-- The 8-byte life-cycle code (R381). -/
def lcCode (s : State) : List Byte := leBytes 4 (rf s LCS_CODE_LO_CODE) ++ leBytes 4 (rf s LCS_CODE_HI_CODE)

/-- The scalar payload of TYPE 0x4 from a byte string (R288). -/
def scalarPayload (bs : List Byte) : List Byte := beBytes 48 (p384.scalar (beNat bs))

/-- The bits of a derivation's output by TYPE, and the payload it fills. -/
def typeBits (ty : Nat) : Nat := if ty = 3 then 256 else if ty = 5 then 512 else 384
def typePayload (ty : Nat) (out : List Byte) : List Byte := if ty = 4 then scalarPayload out else out

/-- The public key of a private key by TYPE (R300). -/
def publicOf (ty : Nat) (payload : List Byte) : List Byte :=
  if ty = 4 then p384.encode (p384.mul (beNat (slice payload 0 48)) p384.base)
  else slice (Config.kemPublic (slice payload 0 64)) 0 1568

/-- The public key that PUBLIC writes for a slot. -/
def slotPublic (s : State) (i : Nat) : List Byte :=
  if (slotOf s i).isSealed then (slotOf s i).pub else publicOf (mdType (slotMd s i)) (slotPayload s i)

/-- A slot that the boot chain creates, write-locked or open; a sealed one stays SEALED until a device reset (R288, R296). -/
def State.bootSlot (s : State) (i ty usage : Nat) (payload : List Byte) (lock : Bool) : State :=
  let md := mkMd (0x48580000 + i) ty usage false 1
  let p := slice payload 0 64
  if (slotOf s i).isSealed then s
  else ((s.putSlot i ⟨⟨p, md, copyTag s.keys.kt p md i, false⟩, Copy.empty, lock, false, 0, []⟩).setF (badFld i) 0).atomic

/-- HX96-S1 for a security version (R71, R298). -/
def sealValue (s : State) (svn : Nat) : List Byte :=
  let keyId := match s.boot.img with | some m => m.keyId | none => 0
  kdf s.keys.l0 (ascii "HX96-S1") (leBytes 4 svn ++ leBytes 4 keyId ++ lcCode s) 384

/-- Layer 1 from the layer 0 output: KS1 and KS2, write-locked, and the output kept beside KS1 (R71, R76, R288); nothing is left to derive
them from after a zeroisation (R296). -/
def State.deriveL1 (s : State) (m : BootImg) : State :=
  let ctx := m.fwRoot ++ leBytes 4 m.fwSvn ++ leBytes 4 m.keyId ++ lcCode s
  let l1 := kdf s.keys.l0 (ascii "HX96-L1") ctx 384
  if rb s KEYS_STAT_ZEROISED then s
  else
    let s := (s.modKeys fun k => { k with l1 }).bootSlot 1 4 (usSIGN + usATTEST) (scalarPayload l1) true
    s.bootSlot 2 1 usDERIVE (sealValue s m.fwSvn) true

/-- Layer 0 with its label and context, KT and KS0, unless a zeroisation came first (R71, R73, R284, R296, R393). -/
def State.deriveL0 (s : State) (secret label ctx : List Byte) : State :=
  let l0 := kdf secret label ctx 384
  let kt := kdf l0 (ascii "HX96-KT") [] 384
  if rb s KEYS_STAT_ZEROISED then s
  else ((s.modKeys fun k => { k with l0, kt }).raise KEYS_STAT_L0_VALID).bootSlot 0 4 (usSIGN + usATTEST) (scalarPayload (kdf l0 (ascii "HX96-ID") [] 384)) true

/-- KS3 is derived, the configuration measurement written and frozen (R71, R299). -/
def State.deriveL2 (s : State) : State :=
  match s.keys.cfg with
  | none => s
  | some (root, svn) =>
    let out := kdf s.keys.l1 (ascii "HX96-L2") (root ++ leBytes 4 svn) 384
    let s := s.bootSlot 3 4 (usSIGN + usATTEST) (scalarPayload out) true
    let s := (s.setDigest SYSCTL_MEAS_CFG root).setF SYSCTL_CFG_SVN_CFG_SVN svn
    (s.raise KEYS_STAT_L2_DONE).modKeys fun k => { k with l2Auto := none }

/-! ### Loading from the vault (R292) -/

/-- Copy `k` of a persistent slot as the vault holds it. -/
def vaultCopy (s : State) (i k : Nat) : Copy :=
  let bs := vaultRead s (vaultOff i k) 80
  ⟨slice bs 0 64, fieldAt bs 64 8, slice bs 72 8, false⟩

/-- A persistent slot lost its newer copy, or is BAD. -/
def persistLost (s : State) (i : Nat) : Bool :=
  let x := slotOf s i
  match copyValid s i x.c0, copyValid s i x.c1 with
  | true, false => x.c1 ≠ Copy.empty && genNewer (mdGen x.c1.md) (mdGen x.c0.md)
  | false, true => x.c0 ≠ Copy.empty && genNewer (mdGen x.c0.md) (mdGen x.c1.md)
  | false, false => slotState s i = slBAD
  | true, true => false

/-- KS40 to KS63 are loaded from the vault, or read SEALED in a debug start (R292, R393). -/
def State.loadPersist (s : State) : State :=
  (s.each ((List.range 24).map (40 + ·)) fun s i =>
    if s.boot.debugStart then s.putSlot i { Slot.empty with isSealed := true }
    else
      let s := s.putSlot i { Slot.empty with c0 := vaultCopy s i 0, c1 := vaultCopy s i 1 }
      let s := if persistLost s i then (s.raise KEYS_STAT_PERSIST_LOST).journal 1 292 srcKEYS i .keyBad else s
      s.foundBad i).showPersist

/-! ### Commands in progress -/

def opCLEAR_WK : Nat := 5
def keyIf : CmdIf := ⟨KEYS_CMD_STAT_LAST_OP, KEYS_CMD_STAT_LAST_STATUS, some KEYS_CMD_STAT_RESULT, KEYS_EVT_CMD_DONE⟩

def State.holdEngines (s : State) (need : Nat) (b : Bool) : State :=
  s.each ([0, 1, 2, 3].filter need.testBit) fun s e => s.setKmHold e b

/-- The command in progress is over: CMD_BUSY, PENDING and KM_HOLD clear. -/
def State.keyIdle (s : State) : State :=
  (((s.modKeys fun k => { k with cmd := none }).setF KEYS_STAT_CMD_BUSY 0).setF KEYS_STAT_PENDING 0).holdEngines 15 false

/-- The command in progress ends with a code; after a lookup RESULT names the slot used (R293), and a KEY_REVOKED end is an event of its
own. -/
def State.keyCmdEnd (s : State) (c : Code) : State :=
  match s.keys.cmd with
  | none => s
  | some q =>
    let s := s.keyIdle.cmdEnd keyIf q.op c (if c = .ok && q.lookup then q.src else 0)
    if c = .keyRevoked then s.raise KEYS_EVT_REVOKED
    else if c = .ok || c = .aborted || c = .resetAbort then s
    else s.journal 1 305 srcKEYS (if q.dst = 0 then q.src else q.dst) c

/-! ### Forced erase (R296) -/

/-- One slot is erased by force: its copies are zeroised and it reads SEALED; its public key stays. -/
def State.sealSlot (s : State) (i : Nat) : State :=
  let x := slotOf s i
  if x.isSealed then s
  else
    let md := slotMd s i
    let pub := if mdType md = 4 || mdType md = 5 then publicOf (mdType md) (slotPayload s i) else []
    (s.putSlot i { Slot.empty with wlock := x.wlock, isSealed := true, sealMd := md, pub }).setF (badFld i) 0

/-- A forced erase of the slots of `sel`: engine operations and waiting rewrites end with KEY_REVOKED, working keys and copies
are zeroised (R296). -/
def State.forceErase (s : State) (sel : Nat → Bool) : State :=
  let s := s.engRevoke sel
  let s := s.each [0, 1, 2, 3] fun s e => if sel (rf s (wkFld e)) then s.setWk e none else s
  let s := match s.keys.cmd with
    | some q => if q.stage < 2 && (q.op = 1 || q.op = 2 || q.op = 3 || q.op = 6) && sel q.dst then s.keyCmdEnd .keyRevoked
      else s
    | none => s
  s.each ((List.range 64).filter sel) State.sealSlot

/-- Entry to LOCKDOWN: every slot without ATTEST is sealed (R296). -/
def State.keySeal (s : State) : State :=
  let t := s
  ((s.forceErase fun i => i < 64 && !mdHas (slotMdSeen t i) usATTEST).raise KEYS_STAT_SEALED).raise KEYS_EVT_SEALED

/-- A zeroisation: every slot, the layer 0 output and KT (R296, R284); the generator is flushed (R331). A command in progress
ends with KEY_REVOKED (R407). -/
def State.keyZeroise (s : State) : State :=
  let s := s.keyCmdEnd .keyRevoked
  let s := s.forceErase (· < 64)
  let s := (s.modKeys fun k => { k with l0 := [], kt := [], l1 := [] }).setF KEYS_STAT_L0_VALID 0
  ((s.raise KEYS_STAT_ZEROISED).raise KEYS_EVT_ZEROISED).rngZeroise

/-- What a Belvedere restart does to the key manager: KS1 to KS3 and the working keys cleared, a command that has not committed
ends with RESET_ABORT (R58, R294, R299, R305). -/
def State.keyRestart (s : State) : State :=
  let s := match s.keys.cmd with
    | some q => if q.stage < 2 then s.keyCmdEnd .resetAbort else s
    | none => s
  let s := s.each [1, 2, 3] fun s i => if (slotOf s i).isSealed then s else (s.putSlot i Slot.empty).setF (badFld i) 0
  let s := s.each [0, 1, 2, 3] fun s e => s.setWk e none
  (s.modKeys fun k => { k with l1 := [], cfg := none, l2Auto := none }).setF KEYS_STAT_L2_DONE 0

/-! ### Debug levels (R388) -/

/-- The level in force (R388). -/
def dbgLevel (s : State) : Nat := rf s DEBUG_STAT_LEVEL

/-- The level that each row of R388 first grants. -/
def grantLevel : DbgGrant → Nat
  | .tapL0 => 0
  | .mapRead => 1
  | .halt | .step | .breakpoint | .tcm | .regWrite => 2
  | .scan | .memBist | .lcsRequest => 3

/-- The level in force grants it; the write of LCS_REQUEST in BLANK alone (R388). -/
def dbgGrants (s : State) (g : DbgGrant) : Bool := grantLevel g ≤ dbgLevel s && (g ≠ .lcsRequest || lcState s = lcBLANK)

end Sys2Proof.Machine
end

