-- ==== Sys2Proof/Machine/MemOps.lean ====
section
/-! DEFINITION. Memory integrity as other blocks see it: classes and macros (R265), class buckets and error reports (R272),
row buckets and row replacement (R277, R278), and the OTP array behind its reader (R279, R280, R377). -/

namespace Sys2Proof.Machine

/-! ### Classes and macros (R265) -/

/-- The class of a macro. -/
def macroClass (m : Nat) : Nat :=
  if m < 16 then 0 else if m = 16 then 1 else if m = 17 then 2 else if m = 18 then 3 else if m < 23 then 4
  else if m = 23 then 5 else if m < 216 then 6 else if m < 248 then 7 else if m < 256 then 8
  else if m < 258 then 9 else if m < 260 then 10 else 11

/-- The rows of a macro: 2,048 rows hold 256 KiB, and the 1,280 words of the key store take 80. -/
def macroRows (m : Nat) : Nat :=
  if m = 16 then 80 else if m = 17 then 512 else if m = 18 then 1024 else if m = 23 then 128 else if m = 256 || m = 257 then 1024 else 2048

/-- Words of a row: 32 of a (39,32) class, 16 of a (72,64) class. -/
def rowWords (cls : Nat) : Nat := if cls = 0 || cls = 2 || cls = 5 then 32 else 16

/-- The plane whose memory a macro belongs to, for classes 6 to 10. -/
def macroPlane (m : Nat) : Nat :=
  if (120 ≤ m && m < 216) || (232 ≤ m && m < 248) || (252 ≤ m && m < 256) || m = 257 || m = 259 then 1 else 0

def macroOf (s : State) (m : Nat) : SramBlk := Sparse.get (fun _ => SramBlk.init) s.mem.macros m
def State.setMacro (s : State) (m : Nat) (x : SramBlk) : State :=
  { s with mem := { s.mem with macros := Sparse.put (fun _ => SramBlk.init) s.mem.macros m x } }

/-- The class is initialised (R269); classes 12 and 13 always are. -/
def classInit (s : State) (c : Nat) : Bool := c = 12 || c = 13 || mapBit s MEMINT_STAT_INIT c

def State.modMem (s : State) (f : MemInt → MemInt) : State := { s with mem := f s.mem }

/-- A class is initialised: its scrubber starts (R269, R270). -/
def State.initClass (s : State) (c : Nat) : State :=
  (s.setMapBit MEMINT_STAT_INIT c true).modMem fun m => { m with clock := Sparse.put (fun _ => 0) m.clock c s.usec }

/-- The scrub bounds of a class in force, none before APPLY_BOUNDS (R281). -/
def boundOf (s : State) (c : Nat) : Option Bound := s.mem.bounds[c]?

/-! ### Class buckets and reports (R272) -/

def State.memBump (s : State) (lo hi : Nat) : State := s.bump lo hi MEMINT_EVT_SAT srcMEMINT

/-- A class bucket takes one; at BUCKET_THRESH it raises CE_STORM with a record and falls to half (R272). -/
def State.bucketUp (s : State) (c : Nat) : State :=
  let b := min (rf s (MEMINT_C_SCRUB_BUCKET c) + 1) 0xFFFF
  match boundOf s c with
  | some e =>
    if e.bucket ≤ b then
      ((s.setF (MEMINT_C_SCRUB_BUCKET c) (e.bucket / 2)).raise MEMINT_EVT_CE_STORM).journal 4 272 srcMEMINT c
    else s.setF (MEMINT_C_SCRUB_BUCKET c) b
  | none => s.setF (MEMINT_C_SCRUB_BUCKET c) b

/-- MEMINT_LAST_ERR0 and MEMINT_LAST_ERR1 take an error: KIND 1 corrected, 2 uncorrectable, 3 poison code. -/
def State.lastErr (s : State) (kind cls mid bit row word : Nat) : State :=
  let s := (((s.setF MEMINT_LAST_ERR0_KIND kind).setF MEMINT_LAST_ERR0_CLASS cls).setF MEMINT_LAST_ERR0_MACRO mid).setF
    MEMINT_LAST_ERR0_BIT bit
  (s.setF MEMINT_LAST_ERR1_ROW row).setF MEMINT_LAST_ERR1_WORD word

/-- An error of the running sweep of class `c` is counted (R275). -/
def State.sweepErr (s : State) (c : Nat) : State :=
  { s with mem := { s.mem with errs := Sparse.put (fun _ => 0) s.mem.errs c (Sparse.get (fun _ => 0) s.mem.errs c + 1) } }

/-- The class is scrubbed: initialised, with SCRUB_EN. -/
def scrubbed (s : State) (c : Nat) : Bool :=
  classInit s c && match boundOf s c with | some e => e.scrub | none => false

/-- A corrected read: counted in the running sweep too, reported, the class bucket takes one once the class is initialised (R270, R272). -/
def State.corrected (s : State) (cls mid bit row word : Nat) : State :=
  (((s.memBump (MEMINT_C_CE_LO cls) (MEMINT_C_CE_HI cls)).lastErr 1 cls mid bit row word).when (classInit s cls) (·.bucketUp cls)).when
    (scrubbed s cls) (·.sweepErr cls)

/-- An uncorrectable word that is not carried poison: UE, counted, one record at once (R272). -/
def State.uncorrectable (s : State) (cls mid row word : Nat) : State :=
  let s := ((s.when (scrubbed s cls) (·.sweepErr cls)).memBump (MEMINT_C_UE_LO cls) (MEMINT_C_UE_HI cls)).lastErr 2 cls mid 0xFF row word
  (s.raise MEMINT_EVT_UE).journalD 4 272 srcMEMINT cls 0 0 (leBytes 2 mid ++ leBytes 2 row)

/-- A DRAM line's MAC check failed on a host read or for the scrubber: an uncorrectable word of class 13 (R265, R272). -/
def State.macFailure (s : State) : State := (s.uncorrectable 13 0 0 0).bucketUp 13

/-- The flip tests of a memory in the boot ROM: one single-bit and one double-bit error into a scratch word, read back and restored (R63,
R271). A sound checker corrects the first and poisons the second. -/
def State.flipTest (s : State) (cls : Nat) (sound : Bool) : State :=
  let s := s.setF MEMINT_FLIP_STAT_COUNT (min (rf s MEMINT_FLIP_STAT_COUNT + 2) 0xFFFF)
  if sound then
    ((s.memBump (MEMINT_C_CE_LO cls) (MEMINT_C_CE_HI cls)).memBump (MEMINT_C_UE_LO cls) (MEMINT_C_UE_HI cls)).setF MEMINT_FLIP_STAT_KIND 2
      |>.setF MEMINT_FLIP_STAT_BIT 0xFF
  else s

/-! ### Row replacement (R277, R278) -/

/-- Spare `k` of the macro is in use, or was until a later record superseded it; a spare whose own record does not read stays free (R280). -/
def SramBlk.used (m : SramBlk) (k : Nat) : Bool := match m.spares[k]? with | some e => e.1 ≠ 2048 | none => false

/-- The free spares of a macro. -/
def SramBlk.left (m : SramBlk) : Nat := ((List.range 4).filter fun k => !m.used k).length

/-- The lowest free spare takes a row (R278). -/
def takeSpare : List (Nat × Bool) → Nat → List (Nat × Bool)
  | [], row => [(row, false)]
  | p :: l, row => if p.1 = 2048 then (row, false) :: l else p :: takeSpare l row

/-- SYSCTL_SPARE_STAT.SRAM_SPARE_MIN: the fewest spares left in any macro. -/
def State.showSpares (s : State) : State :=
  s.setF SYSCTL_SPARE_STAT_SRAM_SPARE_MIN
    ((s.mem.macros.map fun (_, m) => m.left).foldl min 4)

/-- The bucket of a row is freed. -/
def SramBlk.freeRow (m : SramBlk) (row : Nat) : SramBlk := { m with buckets := m.buckets.filter (·.row ≠ row) }

/-- A row is retired onto the lowest free spare, or stays with SPARE_OUT when none is left (R278, R32). -/
def State.retireRow (s : State) (mid row : Nat) : State :=
  let m := macroOf s mid
  if 0 < m.left then
    let s := s.setMacro mid { m.freeRow row with spares := takeSpare m.spares row, lastRow := row }
    let s := (s.setF MEMINT_STAT_UNCOMMITTED (min (rf s MEMINT_STAT_UNCOMMITTED + 1) 0xFF)).raise MEMINT_EVT_REMAP
    (s.spareUsed SYSCTL_SPARE_EVT_SRAM_USED mid (m.left = 1)).showSpares
  else
    let half (b : RowBucket) : RowBucket := if b.row = row then { b with count := b.count / 2 } else b
    ((s.setMacro mid { m with buckets := m.buckets.map half }).raise MEMINT_EVT_SPARE_OUT).spareLow SYSCTL_SPARE_EVT_SRAM_USED.lo mid

/-- The bucket to give to a new row: an unused one, else the lowest count, the oldest among equals (R277). -/
def SramBlk.victim (m : SramBlk) : Option RowBucket :=
  if m.buckets.length < 8 then none
  else m.buckets.foldl (fun (o : Option RowBucket) b =>
    match o with
    | none => some b
    | some v => if b.count < v.count || (b.count = v.count && b.age < v.age) then some b else some v) none

/-- A corrected read in a row adds one to its bucket; at ROW_LIMIT the row is retired (R277). -/
def State.rowHit (s : State) (cls mid row : Nat) : State :=
  let m := macroOf s mid
  let old := m.buckets.find? (·.row = row)
  let n := (match old with | some b => b.count | none => 0) + 1
  let keep := match old, m.victim with
    | some _, _ => m.buckets.filter (·.row ≠ row)
    | none, some v => m.buckets.filter (· ≠ v)
    | none, none => m.buckets
  let age := match old with | some b => b.age | none => s.mem.ages
  let s := s.setMacro mid { m with buckets := keep ++ [⟨row, n, age, true⟩] }
  let s := { s with mem := { s.mem with ages := s.mem.ages + 1 } }
  match boundOf s cls with
  | some e => if e.rowLimit ≤ n then s.retireRow mid row else s
  | none => s

/-! ### OTP (R279, R280, R377) -/

/-- A word that holds a valid remap record of an OTP word (R280). -/
def remapRecord (s : State) (e : Nat × BitVec 64) : Bool :=
  let n := e.2.toNat
  896 ≤ e.1 && e.1 < 960 && !s.otp.torn.contains e.1 && !s.otp.zeroised.contains e.1
    && bitsAt n 60 4 = 2 && bitsAt n 24 36 = 0 && bitsAt n 23 1 = 1

/-- The spare word that stands for word `w`: the one that the last valid remap record of `w` names (R280). -/
def otpMoved (s : State) (w : Nat) : Option Nat :=
  (s.otp.words.filter fun e => remapRecord s e && bitsAt e.2.toNat 0 10 = w).getLast?.map fun e => 960 + bitsAt e.2.toNat 10 6

/-- What an OTP word reads as, in its spare word once it is remapped (R279): none when it is torn or zeroised. -/
def otpWord (s : State) (w : Nat) : Option (BitVec 64) :=
  let x := (otpMoved s w).getD w
  if s.otp.torn.contains x || s.otp.zeroised.contains x then none
  else some (Sparse.get (fun _ => 0) s.otp.words x)

/-- What a consumer of an OTP word is given: its value, with a poison flag where the word is uncorrectable (R276). -/
def otpRead (s : State) (w : Nat) : BitVec 64 × Bool :=
  let x := (otpMoved s w).getD w
  (Sparse.get (fun _ => 0) s.otp.words x, s.otp.torn.contains x)

/-- A word that nothing has programmed. DESIGN CHOICE (log entry 157): a blank word that a correction has moved is free no more, nor is the
spare word that stands for it. -/
def otpBlank (s : State) (w : Nat) : Bool :=
  otpWord s w = some 0 && (otpMoved s w).isNone && !(s.otp.words.any fun e => remapRecord s e && 960 + bitsAt e.2.toNat 10 6 = w)

/-- What the array holds at a word, its check bits apart. -/
def otpRaw (s : State) (w : Nat) : BitVec 64 := Sparse.get (fun _ => 0) s.otp.words w

/-- Programming a word sets bits; it clears none (R381). -/
def State.otpProgram (s : State) (w : Nat) (v : BitVec 64) : State :=
  { s with otp := { s.otp with words := Sparse.put (fun _ => 0) s.otp.words w (otpRaw s w ||| v) } }

/-- `n` words from word `w`, as bytes, first word first. -/
def otpBytes (s : State) (w n : Nat) : List Byte :=
  (List.range n).flatMap fun i => leBytes 8 ((otpWord s (w + i)).getD 0).toNat

/-- Blank words of a range. -/
def otpFree (s : State) (lo n : Nat) : List Nat := ((List.range n).map (lo + ·)).filter (otpBlank s)

/-- The security minimum of a class: the highest value among its valid records (R377). -/
def svnMin (s : State) (cls : Nat) : Nat :=
  ((List.range 256).map fun i =>
    match otpWord s (640 + i) with
    | some w =>
      let v := w.toNat
      if bitsAt v 60 4 = 3 && bitsAt v 16 44 = 0 && bitsAt v 8 8 = cls then bitsAt v 0 8 else 0
    | none => 0).foldl max 0

/-- An OTP word whose programming was cut, or failed, reads torn (R379). -/
def State.tearWords (s : State) (ws : List Nat) : State := { s with otp := { s.otp with torn := s.otp.torn ++ ws } }

/-- No spare word is left, so that OTP programming is refused with REFUSED_QUOTA (R417). -/
def spareWordsOut (s : State) : Bool := (otpFree s 960 64).isEmpty

/-- The word, 0 to 959, that a remap record names for `w`: itself, or the one a spare word stands for (R280). -/
def otpTarget (s : State) (w : Nat) : Option Nat :=
  if w < 960 then some w else (List.range 960).find? fun x => otpMoved s x = some w

/-- The lowest free spare word takes the value of word `w`, with its remap record (R279, R280). -/
def State.otpMove (s : State) (w : Nat) (v : BitVec 64) : State :=
  match otpFree s 896 64, otpFree s 960 64, otpTarget s w with
  | r :: _, sp :: rest, some tg =>
    let rec_ : Nat := 2 * 2 ^ 60 + 2 ^ 23 + (sp - 960) * 2 ^ 10 + tg
    let s := (s.otpProgram sp v).otpProgram r (BitVec.ofNat 64 rec_)
    let s := (s.raise MEMINT_EVT_OTP_REMAP).setF SYSCTL_SPARE_STAT_OTP_SPARE (rf s SYSCTL_SPARE_STAT_OTP_SPARE - 1)
    s.spareUsed SYSCTL_SPARE_EVT_OTP_USED w rest.isEmpty
  | _, _, _ => s

/-- An OTP word that reads corrected moves to a spare word (R279). -/
def State.otpRemap (s : State) (w : Nat) : State := s.otpMove w ((otpWord s w).getD (otpRaw s w))

/-- A word is programmed; one that fails its program-verify is spoilt and its value moves to a spare word (R279). -/
def State.otpBurn (s : State) (w : Nat) (v : BitVec 64) (bad : Bool) : State :=
  if bad then ((s.otpProgram w v).tearWords [w]).otpMove w v else s.otpProgram w v

/-- The remaps that OTP does not record yet: macro, spare and row. -/
def uncommitted (s : State) : List (Nat × Nat × Nat) :=
  s.mem.macros.flatMap fun (m, b) =>
    (b.spares.zipIdx).filterMap fun ((row, done), i) => if done then none else some (m, i, row)

/-- A repair record of an SRAM row (R280). -/
def rowRecord (m i row : Nat) : BitVec 64 := BitVec.ofNat 64 (2 ^ 60 + 2 ^ 23 + i % 4 * 2 ^ 21 + row % 2048 * 2 ^ 10 + m % 1024)

end Sys2Proof.Machine
end

