-- ==== Sys2Proof/Machine/Ports.lean ====
section
/-! DEFINITION. What a channel port and its emulated device hold, and the operations on them that other blocks use:
emulated registers (R225, R238), power-on and reset (R183, R205, R206), the alert (R201, R202), the swap of an activation
(R242). -/

namespace Sys2Proof.Machine

/-- What channel `ch` keeps beside its registers. -/
def chanOf (s : State) (ch : Nat) : Chan := Sparse.get (fun _ => Chan.init) s.chans ch

def State.setChan (s : State) (ch : Nat) (c : Chan) : State :=
  { s with chans := Sparse.put (fun _ => Chan.init) s.chans ch c }

def State.modChan (s : State) (ch : Nat) (f : Chan → Chan) : State := s.setChan ch (f (chanOf s ch))

/-- The active program of a channel; an empty one when there is none. -/
def progOf (s : State) (ch : Nat) : Prog := (chanOf s ch).prog.getD []

/-- The channel has an active program in a mode other than 0b000. -/
def chanInUse (s : State) (ch : Nat) : Bool :=
  match (chanOf s ch).prog with | some p => p.mode ≠ 0 | none => false

/-- The bank `i` is held in its reset state or suspended (R56, R57). -/
def bankFloated (s : State) (i : Nat) : Bool := s.boot.floated.testBit i

/-- The class that the monitor of a bank shows: 0 absent, 1 1.8 V, 2 3.3 V, 3 out of range. -/
def bankClass (s : State) (i : Nat) : Nat :=
  if i < 16 then bitsAt (reg s SYSCTL_BANK_V0).toNat (2 * i) 2 else bitsAt (reg s SYSCTL_BANK_V1).toNat (2 * (i - 16)) 2

/-- The class of a bank is the one that the configuration declares, or the bank is declared unused. -/
def bankMatches (s : State) (i : Nat) : Bool :=
  let want := s.boot.cfg.banks.getD i 0
  want = 0 || bankClass s i = want

/-- Banks of a list whose class does not match their declaration keep every ball in its reset state, with one record each (R56). -/
def State.applyBanks (s : State) (l : List Nat) : State :=
  s.each (l.filter fun i => !bankMatches s i && !bankFloated s i) fun s i =>
    ((s.setMapBit SYSCTL_BANK_ERR_MISMATCH i true).modBoot fun b => { b with floated := setBits b.floated i 1 1 }).journal 7 56 srcSYSCTL i

/-- F-bus `b` can be driven and sampled: its bank is neither mismatched nor suspended (R56, R57). -/
def fbLive (s : State) (b : Nat) : Bool := !bankFloated s (bankOfFb b)

/-- The inputs of bank SYB are sampled (R57). -/
def sybLive (s : State) : Bool := !bankFloated s bankSYB

/-- The channel's outputs and inputs work: its domain RELEASED, its bank in use, a front end alive, a program active (R40,
R57, R418 cause 0x03). -/
def portLive (s : State) (ch : Nat) : Bool :=
  ch < 96 && rb s (CH_PORT_STAT_ENABLED ch) && !bankFloated s (bankOfChan ch) && (chanOf s ch).feBad ≠ 3
    && chanInUse s ch

/-! ### Emulated registers (R225) -/

/-- The stored byte of emulated register `r`, before the reflecting roles. -/
def sregFld (ch r : Nat) : Fld := ⟨CH_TR_SREG ch, 8 * r, 8⟩

/-- An operation of the given kinds is suspended. -/
def opSuspended (s : State) (ch : Nat) (kinds : List Nat) : Bool :=
  (chanOf s ch).ops.any fun o => o.suspended && kinds.contains o.kind

/-- What a reflecting role reads (R225). -/
def roleState (s : State) (ch role : Nat) : Option Bool :=
  match role with
  | 0 => some (rb s (CH_PORT_STAT_WIP ch))
  | 1 => some (rb s (CH_PORT_STAT_WEL ch))
  | 4 => some (rb s (CH_PORT_STAT_SUSPENDED ch) && opSuspended s ch [1])
  | 5 => some (rb s (CH_PORT_STAT_SUSPENDED ch) && opSuspended s ch [2, 3])
  | 6 => some (rb s (CH_PORT_STAT_ADDR4 ch))
  | 9 => some (rb s (CH_PORT_STAT_QPI ch))
  | 10 => some (rb s (CH_PORT_STAT_OCTAL_8D ch))
  | _ => none

/-- Emulated register `r` as a status read returns it: the stored bits with the reflecting roles in place. -/
def emuReg (s : State) (ch r : Nat) : Nat :=
  let p := progOf s ch
  (List.range 11).foldl (fun v i =>
    if p.hasRole i && p.role i / 8 = r then
      match roleState s ch i with
      | some b => setBits v (p.role i % 8) 1 b.toNat
      | none => v
    else v) (rf s (sregFld ch r))

/-- A stored role bit: PFAIL, EFAIL, QE, SRP; `d` is its value when the role is absent. -/
def roleBit (s : State) (ch role : Nat) (d : Bool) : Bool :=
  let p := progOf s ch
  if p.hasRole role then (rf s (sregFld ch (p.role role / 8))).testBit (p.role role % 8) else d

/-- A stored role bit takes a value where the role is present. -/
def State.setRole (s : State) (ch role : Nat) (b : Bool) : State :=
  let p := progOf s ch
  if p.hasRole role then
    let f := sregFld ch (p.role role / 8)
    s.setF f (setBits (rf s f) (p.role role % 8) 1 b.toNat)
  else s

/-! ### Power-on and reset of the emulated device -/

/-- The protocol state of R183 takes its power-on values; `keepWip` leaves WIP (R205). -/
def State.protoPowerOn (s : State) (ch : Nat) (keepWip : Bool) : State :=
  let p := progOf s ch
  let s := (((((s.setB (CH_PORT_STAT_ADDR4 ch) p.addr4Pon).setF (CH_PORT_STAT_QPI ch) 0).setB
    (CH_PORT_STAT_OCTAL_8D ch) p.start8d).setF (CH_PORT_STAT_CONT_READ ch) 0).setF (CH_PORT_STAT_WEL ch) 0).setF
    (CH_PORT_STAT_SUSPENDED ch) 0
  let s := if keepWip then s else s.setF (CH_PORT_STAT_WIP ch) 0
  s.modChan ch fun c => { c with contOp := none, rstArmed := false }

/-- Every emulated register bit outside NVMASK returns to RESET (R238); `all` includes the bits of NVMASK. -/
def State.emuReset (s : State) (ch : Nat) (all : Bool) : State :=
  let p := progOf s ch
  s.each (List.range p.regCount) fun s r =>
    let nv := if all then 0 else p.nvmask r
    let old := rf s (sregFld ch r)
    s.setF (sregFld ch r) ((old &&& nv) ||| (p.smReset r &&& (255 - nv)))

/-- The eSPI link returns to its defaults with the reset of the emulated device. -/
def State.espiReset (s : State) (ch : Nat) : State :=
  if (progOf s ch).mode = modeESPI then
    ((s.setReg (CH_ESPI_STAT ch) 0).setF (CH_PORT_STAT_ESPI_READY ch) 0).setF (CH_PORT_STAT_ALERT_OUT ch) 0
  else s

/-- A reset of the emulated device under R205: power-on values, frames in progress discarded; WIP stays set until a
write-through already accepted completes. An eSPI link returns to its defaults, and completions not collected are discarded (R210). -/
def State.devReset (s : State) (ch : Nat) : State :=
  let busy := (chanOf s ch).ops.any fun o => o.kind ≠ 7 && !o.compDone
  let s := (s.setB (CH_PORT_STAT_WIP ch) busy).protoPowerOn ch true
  let s := (s.emuReset ch false).modChan ch fun c =>
    { c with
      ops := (c.ops.filter fun o => o.kind ≠ 7 && !o.compDone).map fun o => { o with suspended := false, minDone := true, tag := none }
      espi := [], ready := [], refetchWait := [], espiMax := 64, io1 := false }
  ((s.setF (CH_ESPI_STAT_OUTSTANDING ch) 0).raise (CH_PORT_EVT_HOST_RESET ch)).espiReset ch

/-- The channel presents a freshly powered emulated device (R206, R57). -/
def State.devPowerOn (s : State) (ch : Nat) : State :=
  let s := (s.protoPowerOn ch false).emuReset ch false
  let s := s.modChan ch fun c => { c with ops := [], espi := [], ready := [], refetchWait := [], espiMax := 64, io1 := false }
  (s.setReg (CH_ESPI_STAT ch) 0).setF (CH_PORT_STAT_ESPI_READY ch) 0

/-! ### The channel alert (R201, R202, R212) -/

/-- The ball's enable: it is driven while the domain is RELEASED, its bank is in use and a front-end instance is left (R40, R57, R202,
R418 cause 0x03). -/
def alertEnabled (s : State) (ch : Nat) : Bool :=
  rb s (CH_PORT_STAT_ENABLED ch) && !bankFloated s (bankOfChan ch) && (chanOf s ch).feBad ≠ 3

/-- In level mode an alert not cleared is driven again with the ball's enable (R202). -/
def State.alertShow (s : State) (ch : Nat) : State :=
  if (progOf s ch).mode ≠ modeESPI && (progOf s ch).alertMode = 0 && rf s (CH_ALERT_CTL_CAUSE ch) ≠ 0 && alertEnabled s ch
    && !rb s (CH_PORT_STAT_ALERT_OUT ch) then (s.raise (CH_PORT_STAT_ALERT_OUT ch)).raise (CH_PORT_EVT_ALERT ch)
  else s

/-- A cause asserts the alert: the first cause is held, the ball driven only while the port is enabled; in eSPI the cause
is recorded in the events only. -/
def State.alert (s : State) (ch cause : Nat) : State :=
  if (progOf s ch).mode = modeESPI then s.raise (CH_PORT_EVT_ALERT ch)
  else
    let s := if rf s (CH_ALERT_CTL_CAUSE ch) = 0 then s.setF (CH_ALERT_CTL_CAUSE ch) cause else s
    if alertEnabled s ch then (s.raise (CH_PORT_STAT_ALERT_OUT ch)).raise (CH_PORT_EVT_ALERT ch) else s

/-! ### The swap of an activation (R242, R211) -/

/-- PEND encodings of CHn_TR_STAT. -/
def pendEMPTY : Nat := 0
def pendLOADING : Nat := 1
def pendLOADED : Nat := 2
def pendSWAP : Nat := 3

/-- CHn_PORT_CFG and CHn_PORT_LAT mirror the header of the active program (R211). -/
def State.mirrorCfg (s : State) (ch : Nat) (p : Prog) : State :=
  let s := (((s.setF (CH_PORT_CFG_MODE ch) p.mode).setB (CH_PORT_CFG_START_8D ch) p.start8d).setB
    (CH_PORT_CFG_ADDR4_PON ch) p.addr4Pon).setB (CH_PORT_CFG_HOLD_EN ch) p.holdEn
  let s := ((s.setF (CH_PORT_CFG_ALERT_MODE ch) p.alertMode).setF (CH_PORT_CFG_FMAX ch) p.fmax).setF
    (CH_PORT_CFG_POISON_FILL ch) p.poisonFill.toNat
  let s := (s.setF (CH_PORT_CFG_ESPI_IO ch) p.espiIo).setF (CH_PORT_CFG_ESPI_FREQ ch) p.espiFreq
  (s.setF (CH_PORT_LAT_MIN_PIN ch) p.minPin).setF (CH_PORT_LAT_MIN_SHADOW ch) p.minShadow

/-- A channel in SWAP_PENDING swaps: the active-bank bit flips, the measurement moves, the pending slot is EMPTY, SWAPPED
is set and one record names the channel and the first 8 bytes of the measurement; at the first activation after a device
reset the emulated device takes its power-on values (R242). -/
def State.swap (s : State) (ch : Nat) : State :=
  if rf s (CH_TR_STAT_PEND ch) ≠ pendSWAP then s
  else
    let c := chanOf s ch
    let meas := digestOf s (CH_TR_PMEAS ch)
    let s := s.setChan ch { c with prog := some c.pend, pend := [], first := false }
    let s := (s.setDigest (CH_TR_MEAS ch) meas).setDigest (CH_TR_PMEAS ch) []
    let s := ((s.setF (CH_TR_STAT_PEND ch) pendEMPTY).raise (CH_TR_STAT_ACTIVE_VALID ch)).setF
      (CH_TR_STAT_ACTIVE_BANK ch) (1 - rf s (CH_TR_STAT_ACTIVE_BANK ch))
    let s := (s.setF (CH_TR_STAT_REGIONS ch) c.pend.regionCount).mirrorCfg ch c.pend
    let s := if c.first then (s.emuReset ch true).protoPowerOn ch false else s
    (s.raise (CH_TR_EVT_SWAPPED ch)).journalD 3 242 srcCHAN ch 0 0 (meas.take 8)

/-! ### Domain changes at the port -/

/-- The channel's domain enters RELEASED: outputs enabled, a freshly powered device, an alert in force driven again (R40, R202, R206). -/
def State.chanOpen (s : State) (ch : Nat) : State :=
  ((s.devPowerOn ch).raise (CH_PORT_STAT_ENABLED ch)).alertShow ch

/-- The channel's domain leaves RELEASED: outputs high-impedance, the alert released, a pending swap follows at once
(R206, R202, R243). -/
def State.chanClose (s : State) (ch : Nat) : State :=
  ((s.setF (CH_PORT_STAT_ENABLED ch) 0).setF (CH_PORT_STAT_ALERT_OUT ch) 0).swap ch

/-! ### Completion of operations -/

/-- Operations that are complete leave the list, and an eSPI completion is ready; where no other one runs, WIP clears, with WEL, and
WRITE_DONE is set for a program or erase (R194, R208, R211, R236). -/
def State.opEnd (s : State) (ch : Nat) : State :=
  let c := chanOf s ch
  let fin := c.ops.filter fun o => o.minDone && o.compDone && !o.suspended
  if fin.isEmpty then s
  else
    let rest := c.ops.filter fun o => !(o.minDone && o.compDone && !o.suspended)
    let tags := fin.filterMap (·.tag)
    let s := s.setChan ch
      { c with
        ops := rest
        ready := c.ready ++ tags
        espi := c.espi.map fun q => if tags.contains q.tag then { q with state := 1 } else q }
    if rest.any (!·.suspended) then s
    else
      let s := (s.setF (CH_PORT_STAT_WIP ch) 0).setF (CH_PORT_STAT_WEL ch) 0
      if fin.any (·.kind ≠ 7) then s.raise (CH_PORT_EVT_WRITE_DONE ch) else s

end Sys2Proof.Machine
end

