-- ==== Sys2Proof/Machine/Store.lean ====
section
/-! DEFINITION. The Orangery's named operations: planes, extents, line freshness (R144 to R155), write counters, epochs,
the hot tier, the ledger table (R163 to R169), staging (R170) and what a manifest that goes out of force leaves. -/

namespace Sys2Proof.Machine

/-! ### Planes -/

/-- Plane states (R21). -/
def plSERVING : Nat := 0
def plISOLATED : Nat := 1
def plREBUILDING : Nat := 2
def plOFF : Nat := 3

/-- The field that holds the state of plane `x`, 0 for A and 1 for B. -/
def planeFld (x : Nat) : Fld := if x = 0 then SYSCTL_PLANE_STAT_PLANE_A_STATE else SYSCTL_PLANE_STAT_PLANE_B_STATE

def planeSt (s : State) (x : Nat) : Nat := rf s (planeFld x)

/-- Plane `x` serves. -/
def serving (s : State) (x : Nat) : Bool := planeSt s x = plSERVING

def anyServing (s : State) : Bool := serving s 0 || serving s 1
def simplex (s : State) : Bool := serving s 0 != serving s 1

def planeOf (s : State) (x : Nat) : PlaneMem := if x = 0 then s.orang.planeA else s.orang.planeB

def State.setPlane (s : State) (x : Nat) (m : PlaneMem) : State :=
  if x = 0 then { s with orang := { s.orang with planeA := m } } else { s with orang := { s.orang with planeB := m } }

/-- Plane `x` takes writes: it serves or is being rebuilt (R21, R25). -/
def takesWrites (s : State) (x : Nat) : Bool := serving s x || planeSt s x = plREBUILDING

/-- A write into the Orangery reaches every plane that takes writes. -/
def State.modPlanes (s : State) (f : PlaneMem → PlaneMem) : State :=
  let s := if takesWrites s 0 then s.setPlane 0 (f (planeOf s 0)) else s
  if takesWrites s 1 then s.setPlane 1 (f (planeOf s 1)) else s

/-! ### Extents -/

def extOf (s : State) (e : Nat) : Ext := Sparse.get (fun _ => Ext.none) s.orang.exts e

def State.setExt (s : State) (e : Nat) (x : Ext) : State :=
  { s with orang := { s.orang with exts := Sparse.put (fun _ => Ext.none) s.orang.exts e x } }

/-- Extent index of region `r` of domain `d` (R146). -/
def extIx (d r : Nat) : Nat := 64 * d + r
def extDom (e : Nat) : Nat := e / 64
def extRegion (e : Nat) : Nat := e % 64

/-- The valid extents of domain `d`. -/
def domExts (s : State) (d : Nat) : List Nat :=
  ((List.range 64).map (extIx d)).filter fun e => (extOf s e).valid

/-- The valid extent that maps address `a` of channel `ch`; none is UNMAPPED (R146). -/
def extAt (s : State) (ch a : Nat) : Option Nat :=
  (s.orang.exts.find? fun (_, x) => x.valid && x.channel = ch && x.chanOff ≤ a && a < x.chanOff + x.len).map (·.1)

/-! ### Counters and freshness (R150, R153) -/

def ctrOf (s : State) (slot : Nat) : Nat := Sparse.get (fun _ => 0) s.orang.ctrs slot

def State.setCtrSlot (s : State) (slot v : Nat) : State :=
  { s with orang := { s.orang with ctrs := Sparse.put (fun _ => 0) s.orang.ctrs slot v } }

/-- The re-encryption running, as ORANGERY_REKEY_STAT shows it: the extent and the walk pointer. -/
def rekeying (s : State) (e : Nat) : Bool := rb s ORANGERY_STAT_REKEY_ACTIVE && rf s ORANGERY_REKEY_STAT_EXTENT = e

/-- The freshness under which the lines of block `b` of extent `e` pass their check now (R149, R152, R154). -/
def freshTag (s : State) (e b : Nat) : Tag :=
  let x := extOf s e
  let c := if x.writable then ctrOf s (x.ctrBase + b) else 0
  if rekeying s e && rf s ORANGERY_REKEY_STAT_BLOCK ≤ b then ⟨x.prev, c⟩ else ⟨x.epoch, c⟩

/-- The tag of a line nothing has written. -/
def noTag : Nat → Tag := fun _ => ⟨0, 0⟩

/-- Plane `x` reads the write counter of block `b` of extent `e` as poison: the table holds four counters in a word (R144, R271). -/
def ctrBad (s : State) (x e b : Nat) : Bool :=
  (extOf s e).writable && s.mem.flipBad.contains (9, x, ((extOf s e).ctrBase + b) / 4)

/-- The line of byte `off` of extent `e` passes its MAC and epoch check in plane `x`, as far as the stored freshness
goes. -/
def lineFresh (s : State) (x e off : Nat) : Bool :=
  let t := Sparse.get noTag (planeOf s x).tags (((extOf s e).base + off) / 64)
  (extOf s e).valid && t.epoch ≠ 0 && t = freshTag s e (off / 4096) && !ctrBad s x e (off / 4096)

def PlaneMem.tagLines (m : PlaneMem) (line n : Nat) (t : Tag) : PlaneMem :=
  { m with tags := (List.range n).foldl (fun ts i => Sparse.put noTag ts (line + i) t) m.tags }

/-- What a byte of DRAM or of the hot tier reads as before it is written: INIT or FILL wrote zeros (R269). -/
def dramFill : Nat → Byte := fun _ => 0

def PlaneMem.putBytes (m : PlaneMem) (a : Nat) (bs : List Byte) (hot : Bool) : PlaneMem :=
  let go (mem : List Host.Cell) := (bs.zipIdx).foldl (fun mm (b, i) => Sparse.put dramFill mm (a + i) b) mem
  { m with mem := go m.mem, hot := if hot then go m.hot else m.hot }

/-- The byte of a line is held in the hot tier (R156). -/
def inHot (s : State) (e off : Nat) : Bool :=
  (extOf s e).pinned && s.orang.grans.contains (((extOf s e).base + off) / 4096)

/-- The byte that plane `x` holds at byte `off` of extent `e`, in its hot tier or in its DRAM shadow. -/
def planeByteIn (s : State) (x e off : Nat) (hot : Bool) : Byte :=
  Sparse.get dramFill (if hot then (planeOf s x).hot else (planeOf s x).mem) ((extOf s e).base + off)

/-- The byte that plane `x` holds at byte `off` of extent `e`; pinned leaves are read from the hot tier (R156). -/
def planeByte (s : State) (x e off : Nat) : Byte := planeByteIn s x e off (inHot s e off)

/-- The plane whose copy of a line is taken: the first SERVING plane in which it is fresh, else the first SERVING one. -/
def pickPlane (s : State) (e off : Nat) : Nat :=
  if serving s 0 && (lineFresh s 0 e off || !serving s 1 || !lineFresh s 1 e off) then 0 else 1

/-- `n` bytes of extent `e` from byte `off`, as plaintext. -/
def extRead (s : State) (e off n : Nat) : List Byte :=
  (List.range n).map fun i => planeByte s (pickPlane s e (off + i)) e (off + i)

/-- Leaf `l` of extent `e`. -/
def leafBytes (s : State) (e l : Nat) : List Byte := extRead s e (4096 * l) 4096

/-! ### Epochs (R151) -/

/-- The allocator can issue `n` epochs. -/
def epochsLeft (s : State) (n : Nat) : Bool := rf s ORANGERY_EPOCH_NEXT + n ≤ 0xFFFFFFFF

/-- One epoch is issued. -/
def State.newEpoch (s : State) : Nat × State :=
  let e := rf s ORANGERY_EPOCH_NEXT
  (e, s.setF ORANGERY_EPOCH_NEXT (min (e + 1) 0xFFFFFFFF))

/-! ### Capacity (R136, R144, R167, R170) -/

/-- Interfaces carry 32 GiB parts. -/
def cap32 (s : State) : Bool := rf s SYSCTL_ID_DRAM_CAP = 2

def writableLimit (s : State) : Nat := if cap32 s then 256 * 1048576 else 128 * 1048576
def retainedMax (s : State) : Nat := if cap32 s then 65536 else 32768
def stagingMiB (s : State) : Nat := if cap32 s then 4096 else 2048
/-- The active shadow in MiB. -/
def shadowMiB (s : State) : Nat := if cap32 s then 24576 else 12288
/-- Counter slots that a run may take: one for each slot entry of the ledger-table area (R167), 65,536 with 32 GiB parts. DEDUCED (log entry
160): 32,768 with 16 GiB parts, where a slot above would have its entry in the retained area. -/
def slotMax (s : State) : Nat := if cap32 s then 65536 else 32768
/-- Granules of a hot tier (R156). -/
def granMax : Nat := 6144

/-! ### Counter slots (R153) -/

/-- The runs of slots in use: base and length of every valid WRITABLE extent. -/
def slotRuns (s : State) : List (Nat × Nat) :=
  s.orang.exts.filterMap fun (_, x) => if x.valid && x.writable then some (x.ctrBase, x.len / 4096) else none

/-- The first slot from `b` at which `n` free slots of `limit` begin; `fuel` bounds the runs passed. -/
def firstFit (runs : List (Nat × Nat)) (limit n : Nat) : Nat → Nat → Option Nat
  | 0, _ => none
  | fuel + 1, b =>
    if limit < b + n then none
    else
      match runs.find? fun (a, m) => overlap a m b n with
      | some (a, m) => firstFit runs limit n fuel (a + m)
      | none => some b

def slotFor (s : State) (n : Nat) : Option Nat :=
  firstFit (slotRuns s) (slotMax s) n ((slotRuns s).length + 1) 0

/-! ### The ledger table (R167) -/

def ltabOf (s : State) (slot : Nat) : Option LEnt := Sparse.get (fun _ => none) s.orang.ltab slot

def State.setLtab (s : State) (slot : Nat) (x : Option LEnt) : State :=
  { s with orang := { s.orang with ltab := Sparse.put (fun _ => none) s.orang.ltab slot x } }

/-- A sequence number is newer than another (R169). -/
def newerSeq (a b : Nat) : Bool :=
  let d := (a + 2 ^ 32 - b) % 2 ^ 32
  1 ≤ d && d ≤ 2 ^ 31 - 1

/-- Moves the run at `from` with its counters and ledger entries to `to` (R153 compaction). -/
def State.moveRun (s : State) (src dst n : Nat) : State :=
  (List.range n).foldl (fun s i =>
    let s := (s.setCtrSlot (dst + i) (ctrOf s (src + i))).setLtab (dst + i) (ltabOf s (src + i))
    if src = dst then s else (s.setCtrSlot (src + i) 0).setLtab (src + i) none) s

/-- The valid WRITABLE extents in ascending slot order. -/
def slotOrder (s : State) : List Nat :=
  (sortBy (fun p => p.2.ctrBase) (s.orang.exts.filter fun (_, x) => x.valid && x.writable)).map (·.1)

/-- Compaction of the counter runs towards slot 0 (R153). -/
def State.compact (s : State) : State :=
  ((slotOrder s).foldl (fun (p : State × Nat) e =>
    let (s, b) := p
    let x := extOf s e
    ((s.moveRun x.ctrBase b (x.len / 4096)).setExt e { x with ctrBase := b }, b + x.len / 4096)) (s, 0)).1

/-- An entry joins the retained area; when it is full, the oldest entry among domains without a manifest in force is
discarded with a record (R167). -/
def State.retain (s : State) (x : LEnt) : State :=
  let x := { x with ctr := 0 }
  let l := s.orang.lret.filter (fun y => !(y.dom = x.dom && y.region = x.region && y.leaf = x.leaf)) ++ [x]
  if l.length ≤ retainedMax s then { s with orang := { s.orang with lret := l } }
  else
    let cand := l.filter fun y => !(s.ldr.force.any fun (d, _) => d = y.dom)
    let oldest := cand.foldl (fun (o : Option LEnt) y =>
      match o with | none => some y | some z => if newerSeq z.seq y.seq then some y else some z) none
    match oldest with
    | none => { s with orang := { s.orang with lret := l } }
    | some z =>
      ({ s with orang := { s.orang with lret := l.filter (· ≠ z) } }).journalDom 3 167 srcORANGERY z.dom 0
        ([BitVec.ofNat 8 z.region] ++ leBytes 4 z.leaf)

/-- The entry that the ledger table, slot or retained area, holds for a leaf. -/
def entryFor (s : State) (d r l : Nat) : Option LEnt :=
  let x := extOf s (extIx d r)
  if x.valid && x.writable then ltabOf s (x.ctrBase + l)
  else s.orang.lret.find? fun y => y.dom = d && y.region = r && y.leaf = l

/-- The entry that the table holds for a leaf becomes what `g` makes of it, or leaves the table; a slot entry is written under the slot's
write counter, a retained one under 0 (R149). -/
def State.modEntry (s : State) (d r l : Nat) (g : LEnt → Option LEnt) : State :=
  let x := extOf s (extIx d r)
  if x.valid && x.writable then
    match ltabOf s (x.ctrBase + l) with
    | some y => s.setLtab (x.ctrBase + l) ((g y).map fun z => { z with ctr := ctrOf s (x.ctrBase + l) })
    | none => s
  else
    let up (y : LEnt) : Option LEnt :=
      if y.dom = d && y.region = r && y.leaf = l then (g y).map fun z => { z with ctr := 0 } else some y
    { s with orang := { s.orang with lret := s.orang.lret.filterMap up } }

/-! ### The node store (R130) -/

/-- Key of entry `i` of level `lvl` of extent `e`. -/
def nodeKey (e lvl i : Nat) : Nat := (8 * e + lvl) * 2 ^ 18 + i

/-- A verified node, none when it has not been verified. -/
def nodeAt (s : State) (e lvl i : Nat) : Option (List Byte) :=
  let h := Sparse.get (fun _ => []) s.orang.nodes (nodeKey e lvl i)
  if h.isEmpty then none else some h

def State.putNode (s : State) (e lvl i : Nat) (h : List Byte) : State :=
  { s with orang := { s.orang with nodes := Sparse.put (fun _ => []) s.orang.nodes (nodeKey e lvl i) h } }

def State.dropNodes (s : State) (e : Nat) : State :=
  { s with orang := { s.orang with nodes := Sparse.clear (fun k => k / 2 ^ 18 / 8 = e) s.orang.nodes } }

/-- The hashes that a leaf may have: NEW, and OLD while its entry is open, of its ledger entry; else its verified level-0
entry (R135, R160). -/
def expectedHashes (s : State) (e l : Nat) : List (List Byte) :=
  let x := extOf s e
  match (if x.writable then ltabOf s (x.ctrBase + l) else none) with
  | some y => if y.opn then [y.new, y.old] else [y.new]
  | none => (nodeAt s e 0 l).toList

/-! ### Lines written and repaired -/

/-- The block of a plane. -/
def srcPlane (x : Nat) : Nat := if x = 0 then srcPLANEA else srcPLANEB

/-- Plane `x` rewrites one line from the other plane's plaintext (R159). -/
def State.mirrorLine (s : State) (x e off : Nat) : State :=
  let o := off / 64 * 64
  let b := (List.range 64).map fun i => planeByte s (1 - x) e (o + i)
  let a := (extOf s e).base + o
  let s := s.setPlane x (((planeOf s x).putBytes a b (s.orang.grans.contains (a / 4096))).tagLines (a / 64) 1
    (freshTag s e (off / 4096)))
  s.bump (PLANE_MIRROR_LO x) (PLANE_MIRROR_HI x) ORANGERY_EVT_SAT (srcPlane x)

/-- A MAC failure of plane `x` is counted. -/
def State.countMac (s : State) (x : Nat) : State :=
  s.bump (PLANE_MACFAIL_LO x) (PLANE_MACFAIL_HI x) ORANGERY_EVT_SAT (srcPlane x)

/-- A leaf whose line failed in every SERVING plane is refetched, unless it is in the lost-leaf table; `hot` names the planes whose
granule is refilled with it (R157, R160). -/
def State.needRefetchFor (s : State) (e l : Nat) (hot : List Nat) : State :=
  if s.orang.lost.contains (e, l) then s
  else if s.orang.refetch.any (fun r => r.ext = e && r.leaf = l) then
    { s with orang := { s.orang with refetch := s.orang.refetch.map fun r =>
      if r.ext = e && r.leaf = l then { r with hot := (r.hot ++ hot).eraseDups } else r } }
  else { s with orang := { s.orang with refetch := s.orang.refetch ++ [⟨e, l, false, hot⟩] } }

def State.needRefetch (s : State) (e l : Nat) : State := s.needRefetchFor e l []

/-- An admitted or rewritten leaf: its 64 lines in every plane that takes writes under the current freshness, and its
granule where it is pinned (R130, R156, R160). -/
def State.writeLeaf (s : State) (e l : Nat) (bs : List Byte) : State :=
  let x := extOf s e
  let a := x.base + 4096 * l
  let t := freshTag s e l
  s.modPlanes fun m => (m.putBytes a bs (s.orang.grans.contains (a / 4096))).tagLines (a / 64) 64 t

/-- The blocks that a range touches. -/
def blocksOf (off len : Nat) : List Nat :=
  if len = 0 then [] else (List.range ((off + len - 1) / 4096 - off / 4096 + 1)).map (off / 4096 + ·)

/-- Line `l` of extent `e` passes its re-check in plane `x`; `bad` are the lines that were seen to fail it, by plane and line (R153). -/
def linePasses (s : State) (bad : List (Nat × Nat)) (x e l : Nat) : Bool := lineFresh s x e (64 * l) && !bad.contains (x, l)

/-- Lines of block `b` outside the written range that pass in no SERVING plane. -/
def deadLines (s : State) (e b off len : Nat) (bad : List (Nat × Nat)) : List Nat :=
  ((List.range 64).map fun i => 64 * b + i).filter fun l =>
    !(off < 64 * l + 64 && 64 * l < off + len)
      && !(serving s 0 && linePasses s bad 0 e l) && !(serving s 1 && linePasses s bad 1 e l)

/-- Lines of block `b` outside the written range that plane `x` fails and the other SERVING plane passes. -/
def mendLines (s : State) (x e b off len : Nat) (bad : List (Nat × Nat)) : List Nat :=
  if !(serving s 0 && serving s 1) then []
  else ((List.range 64).map fun i => 64 * b + i).filter fun l =>
    !(off < 64 * l + 64 && 64 * l < off + len) && !linePasses s bad x e l && linePasses s bad (1 - x) e l

/-- The block's other lines are repaired from the plane that passes them (R153, R159). -/
def State.mendBlock (s : State) (e b off len : Nat) (bad : List (Nat × Nat)) : State :=
  s.each [0, 1] fun s x => s.each (mendLines s x e b off len bad) fun s l => (s.countMac x).mirrorLine x e (64 * l)

/-- A leaf enters the lost-leaf table with a record; a full table takes nothing (R161). -/
def State.loseLeaf (s : State) (e l : Nat) : State :=
  if s.orang.lost.contains (e, l) then s
  else if s.orang.lost.length < 256 then
    let s := { s with orang := { s.orang with lost := s.orang.lost ++ [(e, l)] } }
    ((s.setF ORANGERY_LOST_STAT_ENTRIES s.orang.lost.length).raise ORANGERY_EVT_LOST_LEAF).journalDom 3 161 srcORANGERY
      (extDom e) 0 ([BitVec.ofNat 8 (extRegion e)] ++ leBytes 4 l)
  else s.journalDom 3 161 srcORANGERY (extDom e) 0 ([BitVec.ofNat 8 (extRegion e)] ++ leBytes 4 l)

/-- A saturated block queues its region's re-encryption (R154). -/
def State.queueRekey (s : State) (e : Nat) : State :=
  if s.orang.rekeyQ.contains e || rekeying s e then s
  else { s with orang := { s.orang with rekeyQ := s.orang.rekeyQ ++ [e] } }

/-- One block of a WRITE_THROUGH: a line that fails its re-check in one plane is repaired, the counter counts up, the 64 MACs are rewritten
under the new count, lines that no repair restored keep a MAC that fails and their leaf is lost (R153). -/
def State.bumpBlock (s : State) (e off len : Nat) (bad : List (Nat × Nat)) (b : Nat) : State :=
  let x := extOf s e
  let dead := deadLines s e b off len bad
  let s := s.mendBlock e b off len bad
  let c := min (ctrOf s (x.ctrBase + b) + 1) 0xFFFF
  let s := s.setCtrSlot (x.ctrBase + b) c
  let t := freshTag s e b
  let s := s.modPlanes fun m =>
    dead.foldl (fun m l => m.tagLines (x.base / 64 + l) 1 ⟨0, 0⟩) (m.tagLines ((x.base + 4096 * b) / 64) 64 t)
  let s := if dead.isEmpty then s else s.loseLeaf e b
  if c = 0xFFFF then s.queueRekey e else s

/-- The lines and counters of a WRITE_THROUGH are written in both planes (R153, R232). -/
def State.storeThrough (s : State) (e off : Nat) (bs : List Byte) (bad : List (Nat × Nat)) : State :=
  let x := extOf s e
  let s := s.each (blocksOf off bs.length) fun s b => s.bumpBlock e off bs.length bad b
  s.modPlanes fun m =>
    (bs.zipIdx).foldl (fun m (b, i) => m.putBytes (x.base + off + i) [b]
      (s.orang.grans.contains ((x.base + off + i) / 4096))) m

/-! ### Staging (R170, R171) -/

def stageOf (s : State) (h : Nat) : Option StageObj := Sparse.get (fun _ => none) s.orang.stage h

/-- What a staged byte reads as before it is written: 0xFF (R170). -/
def stageFill : Nat → Byte := fun _ => 0xFF

/-- Free staging space in MiB: none before the end of ASSEMBLY. -/
def freeMiB (s : State) : Nat :=
  if rf s SYSCTL_MODE_MODE ≤ 1 then 0 else stagingMiB s - ((s.orang.stage.filterMap (·.2)).map (·.mib)).foldl (· + ·) 0

/-- ORANGERY_STAGE_STAT shows the handles in use and the free space. -/
def State.showStage (s : State) : State :=
  (s.setF ORANGERY_STAGE_STAT_HANDLES (s.orang.stage.filterMap (·.2)).length).setF ORANGERY_STAGE_STAT_FREE_MIB (freeMiB s)

def State.setStage (s : State) (h : Nat) (o : Option StageObj) : State :=
  ({ s with orang := { s.orang with stage := Sparse.put (fun _ => none) s.orang.stage h o } }).showStage

/-- The lowest free handle. -/
def freeHandle (s : State) : Option Nat := (List.range 128).find? fun h => (stageOf s h).isNone


/-- A staging object is allocated with its own epoch, or none when space, a handle or an epoch is lacking. -/
def State.stageAlloc (s : State) (mib : Nat) (capsule : Option Nat) : Option (Nat × State) :=
  match freeHandle s with
  | some h =>
    if mib ≤ freeMiB s && epochsLeft s 1 then
      let (ep, s) := s.newEpoch
      some (h, s.setStage h (some ⟨mib, ep, capsule, [], false⟩))
    else none
  | none => none

def stageBytes (o : StageObj) (off n : Nat) : List Byte :=
  (List.range n).map fun i => Sparse.get stageFill o.mem (off + i)

def StageObj.write (o : StageObj) (off : Nat) (bs : List Byte) : StageObj :=
  { o with mem := (bs.zipIdx).foldl (fun m (b, i) => Sparse.put stageFill m (off + i) b) o.mem }

/-! ### Operations that fail at the port (R199, R154) -/

/-- The operation that waits for write-through `w` ends as a failed program or erase: WEL clears, PFAIL or EFAIL is set where the model has
it, an eSPI completion is unsuccessful; a running operation leaves the list, with WIP where no other runs, a suspended one only ends, and
WIP follows its RESUME (R196, R199). -/
def State.opFail (s : State) (ch w : Nat) : State :=
  let c := chanOf s ch
  match c.ops.find? fun o => o.wt.contains w with
  | none => s
  | some o =>
    let ended (q : RunOp) : RunOp := if q.wt.contains w then { q with wt := [], compDone := true } else q
    let ops := if o.suspended then c.ops.map ended else c.ops.filter fun q => !q.wt.contains w
    let s := s.setChan ch
      { c with
        ops
        espi := c.espi.map fun q => if some q.tag = o.tag then { q with state := 2 } else q
        ready := c.ready ++ o.tag.toList }
    let s := (s.setF (CH_PORT_STAT_WEL ch) 0).setRole ch (if o.kind = 1 then rolePFAIL else roleEFAIL) true
    if o.suspended || ops.any (!·.suspended) then s
    else (s.setF (CH_PORT_STAT_WIP ch) 0).raise (CH_PORT_EVT_WRITE_DONE ch)

/-- The operation that waits for write-through `w` reaches its completion point (R194, R256). -/
def State.opComplete (s : State) (ch w : Nat) : State :=
  let done (o : RunOp) : RunOp :=
    if o.wt.contains w then { o with wt := o.wt.filter (· ≠ w), compDone := (o.wt.filter (· ≠ w)).isEmpty } else o
  let s := s.modChan ch fun c => { c with ops := c.ops.map done }
  s.opEnd ch

def State.dropWt (s : State) (w : Nat) : State :=
  { s with orang := { s.orang with wts := s.orang.wts.filter (·.id ≠ w) } }

/-- The write-throughs of the frame of `w`. -/
def frameOf (s : State) (w : Wt) : List Wt := s.orang.wts.filter (·.frame = w.frame)

/-- Every write-through of the frame of `w` that has not reached its device is dropped. -/
def State.dropFrame (s : State) (w : Wt) : State :=
  { s with orang := { s.orang with wts := s.orang.wts.filter fun v => v.frame ≠ w.frame || v.stage = 2 } }

def State.modWt (s : State) (w : Nat) (f : Wt → Wt) : State :=
  { s with orang := { s.orang with wts := s.orang.wts.map fun x => if x.id = w then f x else x } }

/-! ### A manifest goes out of force (R136, R146, R153, R154, R156, R167) -/

/-- One extent becomes invalid: its counter slots are freed, their ledger entries move to the retained area, its granules
are freed, a running re-encryption of it stops, and writes held by it are discarded as failed. DESIGN CHOICE (log entry 160): the end of a
re-encryption that stops so enters its record and does not raise REKEY_DONE (R154). -/
def State.dropExt (s : State) (e : Nat) : State :=
  let x := extOf s e
  if !x.valid then s
  else
    let held := s.orang.wts.filter fun w => w.ext = e && w.stage = 0
    let s := held.foldl (fun s w => (s.opFail w.ch w.id).dropFrame w) s
    let s := if x.writable then
        (List.range (x.len / 4096)).foldl (fun s l =>
          let s := match ltabOf s (x.ctrBase + l) with
            | some y => s.retain y
            | none => s
          (s.setLtab (x.ctrBase + l) none).setCtrSlot (x.ctrBase + l) 0) s
      else s
    let inExt := fun b => x.base / 4096 ≤ b && b < (x.base + x.len) / 4096
    let s := { s with orang := { s.orang with
      grans := if x.pinned then s.orang.grans.filter fun b => !inExt b else s.orang.grans
      rekeyQ := s.orang.rekeyQ.filter (· ≠ e)
      refetch := s.orang.refetch.filter fun r => r.ext ≠ e } }
    let s := (s.setF (PLANE_HOT_STAT_USED 0) s.orang.grans.length).setF (PLANE_HOT_STAT_USED 1) s.orang.grans.length
    let s := if rekeying s e then (s.setF ORANGERY_STAT_REKEY_ACTIVE 0).journalDom 3 154 srcORANGERY (extDom e) 0
        [BitVec.ofNat 8 (extRegion e)] else s
    s.setExt e { x with valid := false, epoch := 0, prev := 0 }

/-- The manifest of domain `d` goes out of force: every extent becomes invalid and VERIFIED clears. -/
def State.dropManifest (s : State) (d : Nat) : State :=
  let s := { s with ldr := { s.ldr with force := s.ldr.force.filter (·.1 ≠ d) } }
  let s := s.each (domExts s d) State.dropExt
  s.setF (GATE_DOM_STAT_VERIFIED d) 0

end Sys2Proof.Machine
end

