-- ==== Sys2Proof/Machine/Journal.lean ====
section
/-! DEFINITION. The journal: START, WRITE, VERIFY, the chaining engine, the ring with its overflow and the log (R422 to
R430). -/

namespace Sys2Proof.Machine

def jIf : CmdIf := ⟨JOURNAL_CMD_STAT_LAST_OP, JOURNAL_CMD_STAT_LAST_STATUS, some JOURNAL_CMD_STAT_RESULT, JOURNAL_EVT_CMD_DONE⟩

def State.modJnl (s : State) (f : Jnl → Jnl) : State := { s with jnl := f s.jnl }

def jSeq (s : State) : Nat := rf s JOURNAL_SEQ_SEQ
def jFlushed (s : State) : Nat := rf s JOURNAL_FLUSHED_SEQ

/-- Records entered in ring or overflow and not flushed. -/
def unflushed (s : State) : Nat := (jSeq s + 2 ^ 32 - jFlushed s) % 2 ^ 32

/-- SEQ `q` is held and not flushed. -/
def isUnflushed (s : State) (q : Nat) : Bool := (q + 2 ^ 32 - jFlushed s) % 2 ^ 32 < unflushed s

/-- Bytes 0 to 39 of a record (R422). -/
def recBody (seq : Nat) (r : JRec) : List Byte :=
  leBytes 4 seq ++ leBytes 4 r.rtc ++ leBytes 4 r.usec ++ leBytes 1 r.cls ++ leBytes 1 r.code ++ leBytes 2 r.event
    ++ leBytes 1 r.src ++ leBytes 1 r.flags ++ leBytes 2 r.unit ++ leBytes 4 r.gen ++ slice r.data 0 16

/-- CHAIN of a record after the CHAIN before it (R424). -/
def chainOf (kj prev : List Byte) (seq : Nat) (r : JRec) : List Byte :=
  (digestBytes (Config.hmac384 kj (prev ++ recBody seq r))).take 24

/-- CHAIN of the record before the first. -/
def chain0 : List Byte := List.replicate 24 0

/-- The record held under a SEQ. -/
def heldAt (s : State) (q : Nat) : Option JHeld := (s.jnl.held.find? (·.1 = q)).map (·.2)

/-- The ring's record count and the overflow's capacity (R427). -/
def ringSize : Nat := 16384
def ovfSize (s : State) : Nat := if cap32 s then 524288 else 262144

/-- A held record is read as POISONED (R276). -/
def recPoisoned (s : State) (q : Nat) : Bool :=
  match heldAt s q with | some h => h.inRing && s.jnl.bad.contains (q % ringSize) | none => false

/-- The 64 bytes of a held record. -/
def recBytes (s : State) (q : Nat) : List Byte :=
  match heldAt s q with | some h => recBody q h.body ++ h.chain | none => List.replicate 64 0

/-- JOURNAL_RD_DATAj (R427, R276). -/
def rdData (s : State) (j : Nat) : Word :=
  let q := rf s JOURNAL_RD_SEL_SEQ
  if recPoisoned s q then Config.poisonedRecord q j else BitVec.ofNat 32 (fieldAt (recBytes s q) (4 * j) 4)

/-- The lowest SEQ of an unbroken run of held records that ends below `q`. -/
def runStart (held : List Nat) : Nat → Nat → Nat
  | 0, q => q
  | n + 1, q =>
    let p := (q + 2 ^ 32 - 1) % 2 ^ 32
    if held.contains p then runStart held n p else q

/-- JOURNAL_OLDEST follows the records held (R427). -/
def State.showOldest (s : State) : State :=
  s.setF JOURNAL_OLDEST_SEQ (runStart (s.jnl.held.map (·.1)) s.jnl.held.length (jSeq s))

/-- Where the next record goes: the held record it replaces, and whether it goes to the ring; none while ring and overflow
have no place (R427). -/
def jPlace (s : State) : Option (Option Nat × Bool) :=
  let n := jSeq s
  match s.jnl.held.find? fun e => e.2.inRing && e.1 % ringSize = n % ringSize with
  | none => some (none, true)
  | some (q, _) =>
    if !isUnflushed s q then some (some q, true)
    else if !anyServing s then none
    else
      let ovf := s.jnl.held.filter fun e => !e.2.inRing
      if ovf.length < ovfSize s then some (none, false)
      else match ovf.find? fun e => !isUnflushed s e.1 with
        | some (q, _) => some (some q, false)
        | none => none

/-- The record at the head of the intake takes its SEQ and CHAIN and its place (R424, R427). -/
def State.jStore (s : State) (r : JRec) (drop : Option Nat) (ring : Bool) : State :=
  let n := jSeq s
  let c := chainOf s.jnl.kj s.jnl.chain n r
  let held := match drop with | some q => s.jnl.held.filter (·.1 ≠ q) | none => s.jnl.held
  let s := s.modJnl fun j =>
    { j with
      fifo := j.fifo.drop 1
      chain := c
      held := held ++ [(n, ⟨r, c, ring⟩)]
      bad := if ring then j.bad.filter (· ≠ n % ringSize) else j.bad }
  let s := ((s.setF JOURNAL_SEQ_SEQ ((n + 1) % 2 ^ 32)).setF JOURNAL_STAT_OVF_FULL 0).showOldest
  s.when (unflushed s = 8192) (·.raise JOURNAL_EVT_HALF)

/-- The LOST counters, by class. -/
def lostCounts (s : State) : List Nat := (List.range 8).map fun c => rf s (lostFld c)

/-- A freed FIFO entry takes the LOST record while a LOST counter is nonzero (R426). -/
def State.lostRecord (s : State) : State :=
  let counts := lostCounts s
  if counts.all (· = 0) then s
  else
    let s := s.each (List.range 8) fun s c => s.setF (lostFld c) 0
    let s := s.enter { cls := 7, event := 0xFFFF, src := srcJOURNAL, flags := 4, unit := noUnit, data := lostData counts }
    s.raise JOURNAL_EVT_LOST

/-- JOURNAL_DRAIN: the chaining engine drains one record (R424 to R427). DESIGN CHOICE (log entry 169): a record whose ring slot is not flushed
waits for a SERVING plane without OVF_FULL. -/
def execJournalDrain (s : State) : Host.Outcome State Fault Refusal :=
  match s.jnl.fifo with
  | [] => .next s
  | r :: _ =>
    match jPlace s with
    | none => .next (s.when (anyServing s) (·.setF JOURNAL_STAT_OVF_FULL 1))
    | some (drop, ring) => .next (s.jStore r drop ring).lostRecord

/-- The START record and the pre-boot records enter the intake; STARTED is set (R62, R423, R429, R430). -/
def State.jStart (s : State) : State :=
  let j := s.jnl
  let copy := match s.boot.img with | some m => m.copy | none => 0
  let data := leBytes 4 (reg s SYSCTL_RSTCAUSE).toNat ++ leBytes 1 (rf s LCS_STAT_STATE) ++ leBytes 1 (rf s DEBUG_STAT_LEVEL)
    ++ leBytes 1 copy
  let start := stamp s { cls := 7, event := 0, src := srcJOURNAL, unit := noUnit, data := data }
  let lost : List JRec := if j.prebootLost = [] then []
    else [stamp s { cls := 7, event := 0xFFFF, src := srcJOURNAL, flags := 5, unit := noUnit, data := lostData j.prebootLost }]
  let s := s.modJnl fun j => { j with fifo := start :: (j.preboot ++ lost), preboot := [], prebootLost := [] }
  (s.raise JOURNAL_STAT_STARTED).bumpRaw JOURNAL_RECORDS_LO JOURNAL_RECORDS_HI JOURNAL_EVT_SAT srcJOURNAL (1 + lost.length)

/-- JOURNAL_START (R429). -/
def execJournalStart (s : State) : Host.Outcome State Fault Refusal :=
  if rb s JOURNAL_STAT_STARTED || !classInit s 4 || !classInit s 5 then .next (s.cmdRefuse jIf 1 .refusedState)
  else .next (s.jStart.cmdEnd jIf 1 .ok)

/-- JOURNAL_WRITE: firmware's record takes the next FIFO entry (R425). -/
def execJournalWrite (s : State) : Host.Outcome State Fault Refusal :=
  if !rb s JOURNAL_STAT_STARTED then .next (s.cmdRefuse jIf 3 .refusedState)
  else if delayed s jIf 3 (256 ≤ s.jnl.fifo.length) then .next (s.cmdRefuse jIf 3 .busyRetry (some 1))
  else
    let d := (List.range 7).flatMap fun j => leBytes 4 (reg s (JOURNAL_FW_DATA j)).toNat
    let r : JRec :=
      { cls := fieldAt d 0 1, code := fieldAt d 1 1, event := fieldAt d 2 2, src := 0xFF, flags := 2, unit := fieldAt d 6 2
        gen := fieldAt d 8 4, data := slice d 12 16 }
    .next ((s.enter r).cmdEnd jIf 3 .ok)

/-- JOURNAL_FLUSH: a flush begins now (R428, R429). -/
def execJournalFlush (s : State) : Host.Outcome State Fault Refusal :=
  if !rb s JOURNAL_STAT_STARTED || !rb s JOURNAL_CFG_LOG_EN then .next (s.cmdRefuse jIf 2 .refusedState)
  else if unflushed s = 0 then .next ((s.cmdEnd jIf 2 .ok).raise JOURNAL_EVT_FLUSHED)
  else .next (((s.modJnl fun j => { j with flushing := true }).raise JOURNAL_STAT_FLUSH_BUSY).cmdEnd jIf 2 .ok)

/-- JOURNAL_VERIFY: the chain over `count` held records from RD_SEL is to be recomputed; one that runs delays the next by at most
0.5 µs per record (R13, R429). -/
def execJournalVerify (count : Nat) (s : State) : Host.Outcome State Fault Refusal :=
  let n := count % 65536
  let q := rf s JOURNAL_RD_SEL_SEQ
  let heldAll := (List.range n).all fun i => (heldAt s ((q + i) % 2 ^ 32)).isSome
  match firstCode [(n = 0, Code.malformed), (!heldAll, .refusedState), (delayed s jIf 4 s.jnl.verify.isSome, .busyRetry)] with
  | some c => .next (s.cmdRefuse jIf 4 c (s.jnl.verify.map fun m => (m.2 + 1999) / 2000))
  | none => .next (((s.modJnl fun j => { j with verify := some (q, n) }).setF jIf.op 4).setF jIf.status Code.ok.val)

/-- The CHAIN against which the record at `q` is checked: none where it is the anchor (R429). -/
def chainBefore (s : State) (q : Nat) : Option (List Byte) :=
  if q = 0 then some chain0 else (heldAt s (q - 1)).map (·.chain)

/-- The offset of the first of `n` records from `q` whose CHAIN fails. -/
def verifyFrom (s : State) : Nat → Nat → Nat → Option (List Byte) → Option Nat
  | 0, _, _, _ => none
  | n + 1, i, q, prev =>
    match heldAt s q with
    | none => some i
    | some h =>
      let good := match prev with | some c => h.chain = chainOf s.jnl.kj c q h.body | none => true
      if good && !recPoisoned s q then verifyFrom s n (i + 1) ((q + 1) % 2 ^ 32) (some h.chain) else some i

/-- JOURNAL_VERIFY_DONE: OK, or VERIFY_FAIL with the offset of the first record that fails (R429). -/
def execJournalVerifyDone (s : State) : Host.Outcome State Fault Refusal :=
  match s.jnl.verify with
  | none => .next s
  | some (q, n) =>
    let s := s.modJnl fun j => { j with verify := none }
    match verifyFrom s n 0 q (chainBefore s q) with
    | none => .next (s.cmdEnd jIf 4 .ok)
    | some i => .next (s.cmdEnd jIf 4 .verifyFail i)

/-! ### The log (R428) -/

/-- Records of a log sector, and sectors of the log partition in use. -/
def logSector : Nat := 1024
def logSectors (s : State) : Nat := match s.boot.img with | some m => m.logLen / 65536 | none => 0

/-- Sector `k` of a log whose record positions read `written` holds a written record. -/
def sectorDirty (written : List Bool) (k : Nat) : Bool := ((written.drop (logSector * k)).take logSector).any id

/-- The write position at the first flush of a start and the sectors erased there: the first empty record that directly
follows a written one in circular order (R428). -/
def logStart (written : List Bool) (sectors : Nat) : Nat × List Nat :=
  let n := logSector * sectors
  match (List.range n).find? fun p => !written.getD p false && written.getD ((p + n - 1) % n) false with
  | none => (0, [0, 1])
  | some p =>
    let k := (p / logSector + 1) % sectors
    (p, if sectorDirty written k then [k] else [])

/-- One record's programming at position `p`: a position that is not empty moves on to the first record of its sector after
that sector and the next are erased, and a first record of a sector has the next sector erased before it. -/
def logStep (written : List Bool) (sectors p : Nat) : Nat × List Nat :=
  let k := p / logSector
  let next := (k + 1) % sectors
  if written.getD p false then (logSector * k, [k, next])
  else (p, if p % logSector = 0 && sectorDirty written next then [next] else [])

/-- The contents of a log with sector `k` erased, and with position `p` written. -/
def logErase (written : List Bool) (k : Nat) : List Bool :=
  (List.range written.length).map fun p => if p / logSector = k then false else written.getD p false

/-- `n` records are programmed from position `p`: positions used, sectors erased and the next position. -/
def logRun (sectors : Nat) : Nat → List Bool → Nat → List Nat → List Nat → List Nat × List Nat × Nat
  | 0, _, p, at_, er => (at_.reverse, er, p)
  | n + 1, w, p, at_, er =>
    let (p, e) := logStep w sectors p
    let w := setAt (e.foldl logErase w) p true
    logRun sectors n w ((p + 1) % (logSector * sectors)) (p :: at_) (er ++ e)

/-- LOG_FLUSH: a flush programs the oldest `count` unflushed records in SEQ order; `written` says which record positions of
the log read as written, and `ok` whether every program, erase and read-back succeeded; after a failure the records stay unflushed (R428). -/
def execLogFlush (written : List Bool) (count : Nat) (ok : Bool) (s : State) : Host.Outcome State Fault Refusal :=
  let n := min count (unflushed s)
  let sectors := logSectors s
  if !rb s JOURNAL_STAT_STARTED || !rb s JOURNAL_CFG_LOG_EN || unflushed s = 0 || sectors = 0 then .next s
  else
    let (p, er) := match s.jnl.logPos with | some p => (p, []) | none => logStart written sectors
    let w := er.foldl logErase written
    let (places, er, p') := logRun sectors n w p [] er
    let q := jFlushed s
    let data := (List.range n).flatMap fun i => recBytes s ((q + i) % 2 ^ 32)
    let s := s.modJnl fun j => { j with logPos := some p', flushing := false }
    let s := ((s.setF JOURNAL_FLUSHED_SEQ (if ok then (q + n) % 2 ^ 32 else q)).setF JOURNAL_STAT_FLUSH_BUSY 0).setF JOURNAL_STAT_LOG_FAIL (!ok).toNat
    let s := (s.raise JOURNAL_EVT_FLUSHED).when ok (·.setF JOURNAL_STAT_OVF_FULL 0)
    let s := s.when (!ok) fun s => (s.raise JOURNAL_EVT_LOG_FAIL).journal 5 428 srcJOURNAL noUnit .internalFault
    .next (s.ret (.logWrite er places data))

end Sys2Proof.Machine
end

