-- ==== Sys2Proof/Machine/DomOps.lean ====
section
/-! DEFINITION. Domains and device modes as every block sees them: states, flags, generations, jobs (R88 to R101), and
the load engine's queue of domains (R128, R131, R140). -/

namespace Sys2Proof.Machine

/-! ### Modes (R89) and domain states -/

def moDORMANT : Nat := 0
def moASSEMBLY : Nat := 1
def moGATHER : Nat := 2
def moSERVE : Nat := 3
def moMAINTAIN : Nat := 4
def moLOCKDOWN : Nat := 5

def mode (s : State) : Nat := rf s SYSCTL_MODE_MODE
/-- GATHER, SERVE or MAINTAIN. -/
def modeRun (s : State) : Bool := mode s = moGATHER || mode s = moSERVE || mode s = moMAINTAIN
def modeServe (s : State) : Bool := mode s = moSERVE || mode s = moMAINTAIN
def lockdown (s : State) : Bool := mode s = moLOCKDOWN

def stHELD : Nat := 0
def stVERIFYING : Nat := 1
def stRELEASED : Nat := 2
def stPARKED : Nat := 3
def stRECOVERING : Nat := 4
def stQUARANTINED : Nat := 5

/-- The next generation number: after 0xFFFF_FFFF comes 1 (R100). -/
def genNext (g : Nat) : Nat := if g = 0xFFFFFFFF then 1 else g + 1

/-- A change of mode, with its generation. -/
def State.setMode (s : State) (m : Nat) : State :=
  (s.setF SYSCTL_MODE_MODE m).setF SYSCTL_MODE_GEN_GEN (genNext (rf s SYSCTL_MODE_GEN_GEN))

/-! ### Domains -/

/-- The domain's entry of the domain table; none for a domain that does not exist (R104). -/
def domCfg (s : State) (d : Nat) : Option Dom := s.boot.cfg.doms.find? (·.id = d)
def domExists (s : State) (d : Nat) : Bool := (domCfg s d).isSome
/-- Configured domains in ascending PRIORITY, then ascending DOMAIN_ID (R110). -/
def domOrder (s : State) : List Nat :=
  (sortBy (fun d : Dom => 256 * d.priority + d.id) s.boot.cfg.doms).map (·.id)

def domX (s : State) (d : Nat) : DomX := Sparse.get (fun _ => DomX.init) s.gate.doms d
def State.setDomX (s : State) (d : Nat) (x : DomX) : State :=
  { s with gate := { s.gate with doms := Sparse.put (fun _ => DomX.init) s.gate.doms d x } }
def State.modDomX (s : State) (d : Nat) (f : DomX → DomX) : State := s.setDomX d (f (domX s d))

def domState (s : State) (d : Nat) : Nat := rf s (GATE_DOM_STAT_STATE d)
def domGen (s : State) (d : Nat) : Nat := rf s (GATE_DOM_GEN_GEN d)
def verified (s : State) (d : Nat) : Bool := rb s (GATE_DOM_STAT_VERIFIED d)
def absent (s : State) (d : Nat) : Bool := rb s (GATE_DOM_STAT_ABSENT d)
def released (s : State) (d : Nat) : Bool := domState s d = stRELEASED

/-- The domain of a channel, by the domain table. -/
def domOfChan (s : State) (ch : Nat) : Option Nat :=
  (s.boot.cfg.doms.find? fun d => d.channels.testBit ch).map (·.id)

/-- The predecessors of a domain. -/
def predsOf (s : State) (d : Nat) : List Nat := match domCfg s d with | some c => c.preds | none => []

/-- BLOCKED (R90): a predecessor is PARKED, RECOVERING or QUARANTINED, or VERIFYING with BLOCKED set; `fuel` bounds the
chain of predecessors, which has no cycle (R104). -/
def blockedUpTo (s : State) : Nat → Nat → Bool
  | 0, _ => false
  | fuel + 1, d => (predsOf s d).any fun p =>
      domState s p = stPARKED || domState s p = stRECOVERING || domState s p = stQUARANTINED
        || (domState s p = stVERIFYING && blockedUpTo s fuel p)

def blocked (s : State) (d : Nat) : Bool := blockedUpTo s 48 d

/-- The domain has a job: RECOVERING, an image swap, a REVERIFY, or a load on the return of presence. -/
def hasJob (s : State) (d : Nat) : Bool := domState s d = stRECOVERING || (domX s d).job ≠ 0

/-- The number of domains with a job. -/
def jobs (s : State) : Nat := ((s.boot.cfg.doms.map (·.id)).filter (hasJob s)).length

/-- Codes of a job. -/
def jobREVERIFY : Nat := 1
def jobSWAP : Nat := 2
def jobPRESENCE : Nat := 3

/-! ### The load engine's queue -/

def loadOf (s : State) (d : Nat) : Option Load := (s.ldr.loads.find? (·.1 = d)).map (·.2)

/-- Undecided manifests held. -/
def undecided (s : State) : List Nat :=
  s.ldr.order.filter fun d => match loadOf s d with | some l => l.phase = 1 | none => false

/-- A partition lies on the F-bus `b` and is used by region `r`. -/
def regionBus (s : State) (r : Region) : Nat := s.fbus.map.busOfPart r.srcPart

/-- The first region of a domain on bus `b` whose leaves are not all admitted (R131). -/
def nextRegion (s : State) (b d : Nat) : Option Nat :=
  match loadOf s d with
  | some l =>
    match l.man with
    | some m =>
      if l.phase ≠ 2 then none
      else (List.range m.regions.length).find? fun r =>
        match m.regions[r]? with
        | some g => regionBus s g = b && l.admitted.getD r 0 < g.leaves
        | none => false
    | none => none
  | none => none

/-- Domains queued on bus `b`. DESIGN CHOICE (log entry 153): those accepted with a region on the bus still to be read, the one in
progress included, and none whose manifest is not yet accepted. -/
def busQueue (s : State) (b : Nat) : List Nat := s.ldr.order.filter fun d => (nextRegion s b d).isSome

/-- One bus takes its next region once none is in progress (R131). -/
def State.refillBus (s : State) (b : Nat) : State :=
  let s := match s.ldr.cur.find? (·.1 = b) with
    | some _ => s
    | none =>
      match (busQueue s b).head? with
      | some d =>
        match nextRegion s b d with
        | some r => { s with ldr := { s.ldr with cur := s.ldr.cur ++ [(b, (d, r))] } }
        | none => s
      | none => s
  let cur := match s.ldr.cur.find? (·.1 = b) with | some (_, (d, _)) => d | none => 0xFF
  (s.setF (LOADER_FB_STAT_CUR_DOM b) cur).setF (LOADER_FB_STAT_QUEUE b) (busQueue s b).length

/-- Every bus takes its next region, and LOADER_STAT follows the queue. -/
def State.refill (s : State) : State :=
  let s := s.each (List.range 32) State.refillBus
  ((s.setF LOADER_STAT_ACTIVE s.ldr.order.length).setF LOADER_STAT_MAN_QUEUE (undecided s).length).setB
    LOADER_STAT_MAN_IN_BUF s.ldr.buf.isSome

def State.setLoad (s : State) (d : Nat) (l : Load) : State :=
  { s with ldr := { s.ldr with loads := s.ldr.loads.filter (·.1 ≠ d) ++ [(d, l)] } }

/-- A REVERIFY job of the domain that is still running ends: its flag in the domain, and REVERIFY_DONE (R141). -/
def State.endReverify (s : State) (d : Nat) : State :=
  match loadOf s d with
  | some l => s.when l.reverify fun s =>
      (s.raise LOADER_EVT_REVERIFY_DONE).modDomX d fun x => { x with job := if x.job = jobREVERIFY then 0 else x.job }
  | none => s

/-- What a domain is reading stops on every bus, and the attempts of those buses and of its manifest are forgotten (R132). -/
def State.stopReads (s : State) (d : Nat) : State :=
  let mine := (s.ldr.cur.filter fun q => q.2.1 = d).map (·.1)
  { s with ldr := { s.ldr with
    tries := s.ldr.tries.filter fun p => p.1 ≠ 32 + d && !mine.contains p.1
    cur := s.ldr.cur.filter fun q => q.2.1 ≠ d } }

/-- The domain's manifest is queued to the load engine (R96, R131). DESIGN CHOICE (log entry 153): a REVERIFY job of the domain that is
still running ends then. -/
def State.loadStart (s : State) (d : Nat) : State :=
  let s := (s.endReverify d).stopReads d
  let s := { s with ldr := { s.ldr with order := s.ldr.order.filter (· ≠ d) ++ [d] } }
  let s := s.setLoad d { man := none, phase := 0, admitted := [], raw := [], reverify := false, aborted := false }
  (s.setReg (LOADER_DOM_PROG d) 0).refill

/-- The F-bus that domain `d`'s manifest lies on. -/
def manBus (s : State) (d : Nat) : Nat := match domCfg s d with | some c => s.fbus.map.busOfPart c.manPart | none => 0xFF

/-- The domains whose manifests are being read or are undecided, in load order; the engine has the first eight in hand (R128). -/
def manQueue (s : State) : List Nat :=
  s.ldr.order.filter fun d => match loadOf s d with | some l => l.phase < 2 && !l.reverify | none => false

/-- The engine reads the manifest of `d` now: it is among the eight in hand, and no earlier one on its F-bus is still to be read
(R128). -/
def manTurn (s : State) (d : Nat) : Bool :=
  ((((manQueue s).take 8).filter fun e =>
    match loadOf s e with | some l => l.phase = 0 && manBus s e = manBus s d | none => false).head?) = some d

/-- The F-buses on which a recovery job of domain `d` reads: those of both copies of its range in hand (R259). -/
def recBuses (s : State) (d : Nat) : List Nat :=
  match Sparse.get (fun _ => none) s.fbus.recs d with
  | some rc => if rc.code ≠ 0 then [] else match rc.ranges with
    | g :: _ => [s.fbus.map.busOfPart g.srcPart, s.fbus.map.busOfPart g.nurPart]
    | [] => []
  | none => []

/-- The F-buses with a read outstanding for domain `d`. -/
def readingBuses (s : State) (d : Nat) : List Nat :=
  ((s.ldr.cur.filter fun q => q.2.1 = d).map (·.1) ++ (if manTurn s d then [manBus s d] else []) ++ recBuses s d).filter (· < 32)

/-- The reads outstanding for a domain complete with RESET_ABORT, each the last burst of its bus that failed (R98). -/
def State.abortReads (s : State) (d : Nat) : State :=
  s.each (readingBuses s d) fun s b => s.setF (LOADER_FB_STAT_LAST_STATUS b) 6

/-- The load of a domain ends, a REVERIFY job with it: reading stops on every bus, its read-ahead and its attempts are discarded, the buffer
is freed, and each freed bus goes on with the next domain (R98, R132, R139, R141). -/
def State.loadDrop (s : State) (d : Nat) : State :=
  let inBuf := s.ldr.buf = some d
  let s := (s.endReverify d).stopReads d
  let s := { s with ldr := { s.ldr with
    order := s.ldr.order.filter (· ≠ d)
    loads := s.ldr.loads.filter (·.1 ≠ d)
    buf := if inBuf then none else s.ldr.buf } }
  let s := if inBuf then s.setReg LOADER_MAN_INFO 0 else s
  s.refill

/-! ### Recovery jobs -/

def recOf (s : State) (d : Nat) : Option Rec := Sparse.get (fun _ => none) s.fbus.recs d
def State.setRec (s : State) (d : Nat) (r : Option Rec) : State :=
  { s with fbus := { s.fbus with recs := Sparse.put (fun _ => none) s.fbus.recs d r } }

/-- The ranges of a recovery job (R259): after a check 8 failure every region with NURSERY of the manifest in force, else
the manifest window, cut at the partition's end. -/
def recRanges (s : State) (d : Nat) : List RecRange :=
  match domCfg s d with
  | none => []
  | some c =>
    match s.ldr.force.find? (·.1 = d), (domX s d).check8 with
    | some (_, m), true =>
      (m.regions.zipIdx).filterMap fun (r, i) =>
        if r.nursery then some ⟨some i, r.srcPart, r.srcOff, r.nurPart, r.nurOff, r.length + treeLen r.leaves⟩ else none
    | _, _ =>
      match s.fbus.map.parts[c.manPart]? with
      | some p => [⟨none, c.manPart, c.manOff, p.mirror, c.manOff, min 65536 (p.length - c.manOff)⟩]
      | none => []

/-- A recovery job starts (R259). -/
def State.recStart (s : State) (d : Nat) : State :=
  let l := recRanges s d
  let dev (p : Nat) : List Nat := match s.fbus.map.parts[p]? with | some q => [q.device] | none => []
  s.setRec d (some { ranges := l, pos := 0, units := 0, code := 0, devs := (l.flatMap fun g => dev g.srcPart ++ dev g.nurPart).eraseDups })

/-- A recovery job ends with a code, shown in FBUS_REC_STAT (R261). -/
def State.recEnd (s : State) (d : Nat) (code : Nat) : State :=
  match recOf s d with
  | none => s
  | some r =>
    (((s.setRec d none).setF FBUS_REC_STAT_DOM d).setF FBUS_REC_STAT_STATUS code).setF FBUS_REC_STAT_UNITS (min r.units 0xFFFF)

/-! ### Partitions (R250) -/

/-- The REASON for which a partition is unavailable, 0 for none (R250). -/
def partReason (s : State) (p : Nat) : Nat := Sparse.get (fun _ => 0) s.fbus.avail p

/-- The map names a LEDGER partition, and it is available (R163, R250). -/
def ledgerUsable (s : State) : Bool := match s.fbus.map.ledger with | some p => partReason s p = 0 | none => false

/-! ### Hash lanes in service (R133, R418) -/

/-- Lane `i` is in service: 0 to 31 in LANE0, 32 to 35 in LANE1. -/
def laneOn (s : State) (i : Nat) : Bool :=
  if i < 32 then mapBit s LOADER_LANE0_IN_SERVICE i else mapBit s LOADER_LANE1_IN_SERVICE (i - 32)

/-- The lanes in service. -/
def lanesOn (s : State) : Nat := ((List.range 36).filter (laneOn s)).length

/-- Every leaf of every region of the domain's accepted manifest is admitted. -/
def allAdmitted (s : State) (d : Nat) : Bool :=
  match loadOf s d with
  | some l => l.phase = 2 && !l.reverify && match l.man with
    | some m => (m.regions.zipIdx).all fun (r, i) => l.admitted.getD i 0 = r.leaves
    | none => false
  | none => false

end Sys2Proof.Machine
end

