-- ==== Sys2Proof/Machine/Hooks.lean ====
section
/-! DEFINITION. Work of the update block that other blocks end: a running job (R374, R375), and every update job on entry to
LOCKDOWN or at a SCRAP (R92, R387). -/

namespace Sys2Proof.Machine

def State.modUpd (s : State) (f : Upd → Upd) : State := { s with upd := f s.upd }

/-- The requests that the HX96 sends as firmware device (DSP0267). -/
def plREQDATA : Nat := 0x15
def plXFERDONE : Nat := 0x16
def plVERIFYDONE : Nat := 0x17
def plAPPLYDONE : Nat := 0x18

/-- TransferResult, VerifyResult and ApplyResult: 0 for OK, else 0x90 plus the code (R369). -/
def fdResult (c : Code) : Byte := BitVec.ofNat 8 (if c = .ok then 0 else 0x90 + c.val)

/-- The end of the write of the session's component: ApplyComplete carries its outcome, and a component applied leaves the session ready for
the next one (R368, R369). The two bytes behind the result, no change of the activation method, are DSP0267's (log entry 128). -/
def State.applyComplete (s : State) (j : UpdJob) (c : Code) : State :=
  match s.upd.sess with
  | some u =>
    if j.op = 1 && 3 ≤ u.phase && u.comp = j.comp then
      s.modUpd fun v =>
        { v with sess := some { u with phase := if c = .ok then 2 else u.phase, sent := some (plAPPLYDONE, [fdResult c, 0, 0]) } }
    else s
  | none => s

/-- The running update job ends with a code: JOB clears, JOB_DONE, and JOB_FAIL unless the code is OK (R380). -/
def State.updEnd (s : State) (c : Code) : State :=
  match s.upd.job with
  | none => s
  | some j =>
    let s := ((s.applyComplete j c).modUpd fun u => { u with job := none }).setF FBUS_UPD_STAT_JOB 0
    let s := ((s.setF FBUS_UPD_CMD_STAT_LAST_OP j.op).setF FBUS_UPD_CMD_STAT_LAST_STATUS c.val).raise FBUS_UPD_EVT_JOB_DONE
    s.when (c ≠ .ok) (·.raise FBUS_UPD_EVT_JOB_FAIL)

/-- A domain's image swap is over: the flag of the domain and the job (R374). -/
def State.swapEnd (s : State) (d : Nat) (c : Code) : State :=
  if (domX s d).job = jobSWAP then (s.modDomX d fun x => { x with job := 0 }).updEnd c else s

/-- Every update job ends with ABORTED (R92), at once (R370). DESIGN CHOICE (log entry 153): a COMMIT_SVN that ends so has written no
record. -/
def State.updAbortAll (s : State) : State :=
  match s.upd.job with
  | some _ => (s.each (domOrder s) fun s d => s.modDomX d fun x =>
      { x with job := if x.job = jobSWAP then 0 else x.job }).updEnd .aborted
  | none => s

end Sys2Proof.Machine
end

