-- ==== Sys2Proof/Machine/ResetOps.lean ====
section
/-! DEFINITION. The device reset and its end (R48, R58, R59, R61 step 1, R84), and life-cycle codes (R381). -/

namespace Sys2Proof.Machine

/-- The 64-bit code of a life-cycle state (R381). -/
def lcWord (st : Nat) : BitVec 64 :=
  if st = 0 then 0
  else if st = 1 then 0x5A3CC3A5
  else if st = 2 then 0x96E15A3CC3A5
  else if st = 3 then 0x7B1896E15A3CC3A5
  else 0xFFFFFFFFFFFFFFFF

/-- Causes of a device reset as bits of SYSCTL_RSTCAUSE (R84). -/
def rcPOR : Nat := 1
def rcPWRGD : Nat := 2
def rcMONITOR : Nat := 4
def rcPIN : Nat := 8
def rcSWDEV : Nat := 16
def rcRESTART : Nat := 32
def rcWDT : Nat := 64

/-- What a device reset leaves in the registers: the levels of balls and banks, the stuck-pin state, the debug nonce, and what the
Lodge keeps and mirrors (R58, R83, R392). -/
def keptFields : List Fld :=
  [⟨SYSCTL_BANK_V0, 0, 32⟩, ⟨SYSCTL_BANK_V1, 0, 16⟩, SYSCTL_PIN_STAT_PERST_LVL, SYSCTL_PIN_STAT_PWRGD_LVL,
   SYSCTL_RSTCAUSE_RSTPIN_STUCK, SYSCTL_RSTCAUSE_PIN_IGNORED, SYSCTL_SPARE_STAT_MESH_SPARE, ⟨DEBUG_NONCE_LO, 0, 32⟩,
   ⟨DEBUG_NONCE_HI, 0, 32⟩, DEBUG_STAT_NONCE_VALID, DEBUG_STAT_TOKEN_LEN, LODGE_STAT_MESH_SPARE, LODGE_STAT_LD_PEND,
   LODGE_STAT_WAKE_PEND, LODGE_STAT_TRANSIT, LODGE_STAT_VBAT_OK, LODGE_STAT_RAIL, LODGE_STAT_ZEROISING, LODGE_STAT_VAULT,
   ⟨LODGE_RTC_SEC, 0, 32⟩, ⟨LODGE_RTC_TICK, 0, 15⟩, ⟨LODGE_MESH, 0, 16⟩, ⟨LODGE_SENSE, 0, 32⟩, ⟨LODGE_FIRED, 0, 32⟩,
   ⟨LODGE_EVT_TOTAL, 0, 32⟩]

/-- The OTP words that SCRAP programs to all ones (R387 step 4). -/
def scrapWords : List Nat := (List.range 4).map (3 + ·) ++ (List.range 64).map (64 + ·)

/-- OTP words are programmed to all ones and read ZEROISED (R387). -/
def State.burnWords (s : State) (ws : List Nat) : State :=
  s.each ws fun s w =>
    let s := s.otpProgram w 0xFFFFFFFFFFFFFFFF
    { s with otp := { s.otp with zeroised := s.otp.zeroised.filter (· ≠ w) ++ [w] } }

/-- One life-cycle copy as a cut leaves it: `n` copies are done, the next holds some of the bits to be added (R383). -/
def cutCopy (old new mask : BitVec 64) (i n : Nat) : BitVec 64 :=
  if i < n then new else if i = n then old ||| (new &&& mask) else old

/-- A reset cuts off the programming of life-cycle codes: how far it came is a free value (R383). -/
def State.cutCodes (s : State) : State :=
  match s.lcs.target with
  | none => s
  | some t =>
    let (n, s) := s.free
    let (m, s) := s.free
    s.each [0, 1, 2] fun s i => s.otpProgram i (cutCopy (otpRaw s i) (lcWord t) (BitVec.ofNat 64 m) i (n % 4))

/-- A reset cuts off the programming of repair records (R280). -/
def State.cutRows (s : State) : State :=
  if !rb s MEMINT_STAT_COMMIT_BUSY then s
  else
    let rs := (uncommitted s).zip (otpFree s 896 64)
    let (n, s) := s.free
    let done := n % (rs.length + 1)
    let s := s.each (rs.take done) fun s r => s.otpProgram r.2 (rowRecord r.1.1 r.1.2.1 r.1.2.2)
    s.tearWords (((rs.drop done).take 1).map (·.2))

/-- A loss of power cuts off the burning of the words of SCRAP (R387). -/
def State.cutScrap (s : State) : State :=
  if s.lcs.scrap ≠ 2 then s
  else
    let (n, s) := s.free
    let done := n % (scrapWords.length + 1)
    (s.burnWords (scrapWords.take done)).tearWords ((scrapWords.drop done).take 1)

/-- A reset cuts off the programming of a class minimum (R379). -/
def State.cutSvn (s : State) : State :=
  match s.upd.svn with
  | none => s
  | some (cls, v, w) =>
    let (n, s) := s.free
    if n % 2 = 0 then s.otpProgram w (BitVec.ofNat 64 (3 * 2 ^ 60 + 256 * cls + v)) else s.tearWords [w]

/-- A reset cuts off the programming of OTP that is under way. -/
def State.otpCut (s : State) : State := s.cutCodes.cutRows.cutScrap.cutSvn

/-- The state of a device held in reset, before the registers that a reset keeps are put back (R58); causes that coincide add up,
one deferred by an atomic window too (R84). -/
def State.held (s : State) (cause : Nat) : State :=
  { State.reset with
    pending := s.pending, freeIx := s.freeIx, out := s.out, otp := s.otp
    boot := { State.reset.boot with
      stage := .held, supplies := s.boot.supplies, pinLow := s.boot.pinLow
      causes := (if s.boot.stage = .held then s.boot.causes else 0) ||| s.boot.deferred.getD 0 ||| cause }
    lodge := { s.lodge with ldWait := 0 }, lcs := { State.reset.lcs with token := s.lcs.token } }

/-- The fields that a reset keeps, as `s` holds them. -/
def State.keepFields (t s : State) : State := t.each keptFields fun t f => t.setF f (rf s f)

/-- A device reset (R58): everything but the Lodge, OTP, the token buffer and the nonce goes to its reset value, and the device
is held. `cause` is a bit of SYSCTL_RSTCAUSE, 0 for a reset that no bit names. -/
def State.deviceReset (s : State) (cause : Nat) : State := (s.otpCut.held cause).keepFields s.otpCut

/-- SYS_RST_N holds the device in reset (R48, R83). -/
def pinHolds (s : State) : Bool := s.boot.pinLow && !rb s SYSCTL_RSTCAUSE_PIN_IGNORED

/-- Reset ends once SYS_PWRGD, SYS_RST_N and the monitors allow it (R48): time starts, TESTEN is sampled, SYSCTL_RSTCAUSE shows the
causes, and the mode is ASSEMBLY (R51, R61, R84). -/
def State.endReset (s : State) (testen : Bool) : State :=
  if s.boot.stage ≠ .held || s.boot.supplies ≠ 15 || pinHolds s then s
  else
    let s := s.setF ⟨SYSCTL_RSTCAUSE, 0, 7⟩ s.boot.causes
    let s := { s with usec := 0, boot := { s.boot with stage := .reset1, testen, causes := 0 } }
    (s.setF SYSCTL_MODE_MODE moASSEMBLY).setB SYSCTL_PIN_STAT_TESTEN_LVL testen

/-- A device reset by a command, whose end comes with it. -/
def State.resetNow (s : State) (cause : Nat) (testen : Bool) : State := (s.deviceReset cause).endReset testen

/-- An atomic window is open (R59). -/
def atomicOpen (s : State) : Bool := s.usec < s.atomicUntil

/-- A device reset asked for is put off. -/
def State.deferReset (s : State) (cause : Nat) : State :=
  s.modBoot fun b => { b with deferred := some ((b.deferred.getD 0) ||| cause) }

/-- A device reset that a pin, a command or scan asks for. Nothing but a loss of power stops a SCRAP wipe, so that the reset then
comes with the one that ends the wipe (R387 step 6; DEDUCED, log entry 134). -/
def State.forceReset (s : State) (cause : Nat) (testen : Bool) : State :=
  if s.lcs.scrap ≠ 0 then s.deferReset cause else s.resetNow cause testen

/-- A device reset that SYS_RST_N or DEV_RESET asks for waits for an open atomic window (R59). -/
def State.askReset (s : State) (cause : Nat) (testen : Bool) : State :=
  if atomicOpen s then s.deferReset cause else s.forceReset cause testen

end Sys2Proof.Machine
end

