-- ==== Sys2Proof/Machine/Failover.lean ====
section
/-! DEFINITION. The failover between Belvedere pairs (R26). -/

namespace Sys2Proof.Machine

/-- A standby pair is available. -/
def standby (s : State) : Bool := rb s SYSCTL_SPARE_STAT_BV_STANDBY

/-- The standby pair is lost: SPARE_LOW with a record (R63, R32). -/
def State.loseStandby (s : State) : State :=
  (s.setF SYSCTL_SPARE_STAT_BV_STANDBY 0).spareLow SYSCTL_SPARE_EVT_BV_FAILOVER.lo 1

/-- Pair 1 takes over; no standby is left (R26). -/
def State.failover (s : State) : State :=
  let s := { s with boot := { s.boot with bvPair := 1 } }
  (s.setF SYSCTL_SPARE_STAT_BV_STANDBY 0).spareUsed SYSCTL_SPARE_EVT_BV_FAILOVER 1 true

end Sys2Proof.Machine
end

