-- ==== Sys2Proof/Machine/GateOps.lean ====
section
/-! DEFINITION. The Gatehouse's named operations: platform control lines (R105 to R107), release, hold and reset sequences
(R108 to R112), changes of domain state (R96 to R100), device modes (R89, R90), and LOCKDOWN (R92, R94). -/

namespace Sys2Proof.Machine

/-! ### Lines -/

/-- The map entry of line `k`, once the map is applied (R43, R105). -/
def pclOf (s : State) (k : Nat) : Option Pcl := if s.gate.applied then s.boot.cfg.pcls[k]? else none

/-- The lines of domain `d` whose entry satisfies `p`. -/
def linesOf (s : State) (d : Nat) (p : Pcl → Bool) : List Nat :=
  (List.range 144).filter fun k => match pclOf s k with
    | some e => e.role ≠ 0 && e.domain = d && p e
    | none => false

def lineAsserted (s : State) (k : Nat) : Bool := rb s (GATE_PCL_STAT_ASSERTED k)
def lineValid (s : State) (k : Nat) : Bool := rb s (GATE_PCL_STAT_VALID k)

/-- The level that the external pull of R44 gives an output that nothing drives. -/
def pullLevel (p : Pcl) : Bool := if p.openDrain then true else (if p.powerEn then p.activeLow else !p.activeLow)

/-- GATE_PCLk_STAT of an output follows what the Gatehouse asserts: a push-pull output drives both levels, an open-drain
output only its low level, a STRAP only while it is asserted, and a floated bank drives nothing (R57, R105, R106). -/
def State.showPcl (s : State) (k : Nat) : State :=
  match pclOf s k with
  | none => s
  | some p =>
    if !p.output then s
    else
      let on := s.gate.outs.testBit k
      let want := on != p.activeLow
      let drives := !bankFloated s (bankOfPcl k) && (!p.strap || on) && (!p.openDrain || !want)
      let level := if drives then want else pullLevel p
      ((((s.setB (GATE_PCL_STAT_LEVEL k) level).setB (GATE_PCL_STAT_DRIVEN k) drives).setB
        (GATE_PCL_STAT_ASSERTED k) (level != p.activeLow))).setF (GATE_PCL_STAT_VALID k) 1

/-- Output line `k` is asserted or not; for a STRAP, driven or released. -/
def State.drive (s : State) (k : Nat) (on : Bool) : State :=
  { s with gate := { s.gate with outs := setBits s.gate.outs k 1 on.toNat } }.showPcl k

/-- Every POWER_GOOD_IN of the domain is asserted and valid (R107). -/
def pgOk (s : State) (d : Nat) : Bool := (linesOf s d Pcl.powerGood).all fun k => lineValid s k && lineAsserted s k

/-- The configuration gives the domain a POWER_EN or POWER_GOOD_IN line. -/
def hasPowerLines (s : State) (d : Nat) : Bool := s.boot.cfg.pcls.any fun e => e.role ≠ 0 && e.domain = d && (e.powerEn || e.powerGood)

/-- POWERED: every POWER_EN output asserted and every POWER_GOOD_IN asserted and valid; before the map is applied no line is. -/
def powered (s : State) (d : Nat) : Bool :=
  if s.gate.applied then (linesOf s d Pcl.powerEn).all (lineAsserted s) && pgOk s d else !hasPowerLines s d

/-! ### Release sequence (R108) -/

/-- The output lines of step `t` of a domain. -/
def stepLines (s : State) (d t : Nat) : List Nat := linesOf s d fun p => p.output && p.step = t

/-- STEP_DELAY of a step: the largest among its lines. -/
def stepDelay (s : State) (d t : Nat) : Nat :=
  ((stepLines s d t).map fun k => match pclOf s k with | some p => p.delay | none => 0).foldl max 0

/-- The first step from `t` on that has lines. -/
def nextStep (s : State) (d t : Nat) : Option Nat :=
  (List.range 16).find? fun u => t ≤ u && !(stepLines s d u).isEmpty

/-- The first step that contains a RESET_OUT line. -/
def firstReset (s : State) (d : Nat) : Option Nat :=
  (List.range 16).find? fun u => !(linesOf s d fun p => p.resetOut && p.step = u).isEmpty

/-- The step waits for power-good: it contains a RESET_OUT line and the domain has POWER_GOOD_IN lines. -/
def stepWaitsPg (s : State) (d t : Nat) : Bool :=
  !(linesOf s d fun p => p.resetOut && p.step = t).isEmpty && !(linesOf s d Pcl.powerGood).isEmpty

/-- The step can execute with no time passing. -/
def stepNow (s : State) (d t : Nat) : Bool :=
  stepDelay s d t = 0
    && (!stepWaitsPg s d t || (pgOk s d && match domCfg s d with | some c => c.pgSettle = 0 | none => true))

/-- A step executes: RESET_OUT deasserted, POWER_EN asserted, STRAP released. -/
def State.execStep (s : State) (d t : Nat) : State :=
  s.each (stepLines s d t) fun s k => match pclOf s k with
    | some p => s.drive k p.powerEn
    | none => s

def State.setSeq (s : State) (d : Nat) (q : Seq) : State := s.modDomX d fun x => { x with seq := q }

/-- The release sequence goes on from step `t`: steps that need no time execute, the next other one is waited for. -/
def State.relFrom (s : State) (d : Nat) : Nat → Nat → State
  | 0, _ => s.setSeq d .idle
  | fuel + 1, t =>
    match nextStep s d t with
    | none => s.setSeq d .idle
    | some u => if stepNow s d u then (s.execStep d u).relFrom d fuel (u + 1) else s.setSeq d (.rel u)

/-! ### Hold sequence (R109) -/

/-- The highest step below `t` with POWER_EN lines. -/
def nextPowerDown (s : State) (d t : Nat) : Option Nat :=
  ((List.range 16).filter fun u => u < t && !(linesOf s d fun p => p.powerEn && p.step = u).isEmpty).getLast?

/-- The delay before the POWER_EN lines of step `u` are deasserted: STEP_DELAY of step u + 1. -/
def downDelay (s : State) (d u : Nat) : Nat := if u = 15 then 0 else stepDelay s d (u + 1)

def State.powerDown (s : State) (d u : Nat) : State :=
  s.each (linesOf s d fun p => p.powerEn && p.step = u) fun s k => s.drive k false

/-- The hold sequence goes on below step `t`. -/
def State.holdFrom (s : State) (d : Nat) : Nat → Nat → State
  | 0, _ => s.setSeq d .idle
  | fuel + 1, t =>
    match nextPowerDown s d t with
    | none => s.setSeq d .idle
    | some u => if downDelay s d u = 0 then (s.powerDown d u).holdFrom d fuel u else s.setSeq d (.hold u)

/-- The hold sequence starts from the lines as they stand: RESET_OUT asserted at once, STRAPs at their hold level, then the
POWER_EN lines in descending step order. -/
def State.holdLines (s : State) (d : Nat) : State :=
  let s := s.each (linesOf s d Pcl.resetOut) fun s k => s.drive k true
  let s := s.each (linesOf s d Pcl.strap) fun s k => s.drive k true
  s.holdFrom d 17 16

/-! ### Changes of state (R96, R98, R100) -/

/-- A domain's generation increments. -/
def State.bumpGen (s : State) (d : Nat) : State := s.setF (GATE_DOM_GEN_GEN d) (genNext (domGen s d))

/-- The channels of a domain. -/
def chansOf (s : State) (d : Nat) : List Nat := match domCfg s d with | some c => c.chans | none => []

/-- The status code of a byte that holds one (R11). -/
def codeOf (v : Nat) : Code :=
  (([.busyRetry, .refusedQuota, .refusedPolicy, .refusedState, .stale, .resetAbort, .poisoned, .keyBad, .keyAmbiguous, .keyRevoked,
    .verifyFail, .versionExhausted, .unpowered, .aborted, .malformed, .notReady, .timeout, .internalFault] : List Code).find?
    fun c => c.val = v).getD .ok

/-- A domain changes state: a swap pending on an idle channel of a HELD domain comes first (R178, R242); then generation, STATE_CHG, its ports, the loads and recovery that end with it, the manifests that go
out of force (R136), and the flags that end a job. The lines are moved by the caller. DESIGN CHOICE (log entry 153): a REVERIFY job goes on
when its domain leaves RELEASED (R141). -/
def State.setDom (s : State) (d st : Nat) : State :=
  let old := domState s d
  let s := if old = stHELD then s.each (chansOf s d) State.swap else s
  let s := ((s.setF (GATE_DOM_STAT_STATE d) st).bumpGen d).raise GATE_EVT_STATE_CHG
  let s := s.modDomX d fun x =>
    { x with
      leftHeld := x.leftHeld || old = stHELD
      passed := st = stVERIFYING && x.passed
      under := if st = stHELD then x.under else 0
      job := if x.job = jobPRESENCE && st ≠ stVERIFYING then 0 else x.job }
  let s := if st = stRELEASED then s.swapEnd d .ok
    else if st = stPARKED || st = stQUARANTINED then s.swapEnd d (codeOf (rf s (GATE_DOM_STAT_LAST_CAUSE d)))
    else s
  let s := if old = stRELEASED then s.each (chansOf s d) State.chanClose else s
  let s := if st = stRELEASED then s.each (chansOf s d) State.chanOpen else s
  let s := s.when ((old = stVERIFYING || old = stRECOVERING) && st ≠ stRELEASED) (·.abortReads d)
  let s := s.when (old = stVERIFYING && st ≠ stRELEASED) (·.loadDrop d)
  let s := if st = stQUARANTINED then (s.raise GATE_EVT_QUARANTINE).dropManifest d else s
  if st = stHELD && !verified s d then s.dropManifest d else s

/-- A RELEASED or VERIFYING domain goes to HELD; the hold sequence runs if it was RELEASED. -/
def State.holdDom (s : State) (d : Nat) : State :=
  let was := released s d
  let s := s.setDom d stHELD
  if was then s.holdLines d else s

/-- Predecessors all RELEASED or ABSENT, RELEASE_DELAY elapsed since the latest release among the RELEASED ones (R96). -/
def releaseReady (s : State) (d : Nat) : Bool :=
  match domCfg s d with
  | none => false
  | some c =>
    domState s d = stVERIFYING && (domX s d).passed
      && c.preds.all (fun p => released s p || absent s p)
      && (!c.preds.any (released s) || c.relDelay = 0 || (domX s d).delayDone)

/-- A domain enters RELEASED: channels enabled, FAIL_COUNT cleared, the release sequence started; RELEASE_DELAY of every
successor counts from now. DESIGN CHOICE (log entry 153): the release sequence replaces a hold sequence of the domain that still waits to
deassert POWER_EN lines; its remaining steps are dropped. -/
def State.releaseDom (s : State) (d : Nat) : State :=
  let s := (s.setDom d stRELEASED).setF (GATE_DOM_STAT_FAIL_COUNT d) 0
  let s := s.each (s.boot.cfg.doms.filter fun e => e.pred.testBit d) fun s e =>
    s.modDomX e.id fun x => { x with delayDone := false }
  s.relFrom d 17 0

/-- A PARKED domain enters RECOVERING (R96). -/
def State.recoverDom (s : State) (d : Nat) : State := (s.setDom d stRECOVERING).recStart d

/-- A failed domain enters PARKED, or QUARANTINED at FAIL_LIMIT, with FAIL_COUNT and LAST_CAUSE; a PARKED one with AUTO_RECOVER
and a Nursery source goes on to RECOVERING except in LOCKDOWN (R94, R96, R258). -/
def State.parkDom (s : State) (d code : Nat) : State :=
  match domCfg s d with
  | none => s
  | some c =>
    let n := rf s (GATE_DOM_STAT_FAIL_COUNT d) + 1
    let s := (s.setF (GATE_DOM_STAT_FAIL_COUNT d) (min n 15)).setF (GATE_DOM_STAT_LAST_CAUSE d) code
    if c.failLimit ≤ n then s.setDom d stQUARANTINED
    else
      let s := s.setDom d stPARKED
      if c.autoRecover && (domX s d).nursery && !lockdown s then s.recoverDom d else s

/-- A domain enters VERIFYING with its manifest queued (R96); with no hash lane left it parks at once with LAST_CAUSE 0x12 (R418). -/
def State.verifyDom (s : State) (d : Nat) : State :=
  let s := (s.setDom d stVERIFYING).loadStart d
  s.when (lanesOn s = 0) (·.parkDom d Code.internalFault.val)

/-- A verification failure of a VERIFYING domain (R139): the load ends, the failure is recorded, and the Gatehouse parks the
domain. `check` is the number of the failing check of R126. -/
def State.verifyFail (s : State) (d check region : Nat) (node : Bool) (index code : Nat) : State :=
  let s := (((s.setF (LOADER_DOM_FAIL_CODE d) code).setF (LOADER_DOM_FAIL_REGION d) region).setB
    (LOADER_DOM_FAIL_NODE d) node).setF (LOADER_DOM_FAIL_INDEX d) index
  let s := (s.raise LOADER_EVT_DOM_FAILED).journalDom 2 139 srcLOADER d code
    ([BitVec.ofNat 8 check, BitVec.ofNat 8 region] ++ leBytes 4 index)
  let mirror := match domCfg s d with
    | some c => match s.fbus.map.parts[c.manPart]? with | some p => p.mirror ≠ 0xFFFF | none => false
    | none => false
  let nur8 := match (s.ldr.force.find? (·.1 = d)).bind (·.2.regions[region]?) with
    | some r => r.nursery
    | none => false
  let s := s.modDomX d fun x =>
    { x with nursery := if check = 8 then nur8 else check ≠ 7 && mirror, check8 := check = 8 }
  s.parkDom d code

/-! ### Device modes -/

/-- A domain no longer keeps the device in GATHER (R90). -/
def gatherDone (s : State) (d : Nat) : Bool :=
  let st := domState s d
  let x := domX s d
  st = stRELEASED || st = stPARKED || st = stRECOVERING || st = stQUARANTINED
    || (st = stVERIFYING && verified s d && blocked s d)
    || (st = stHELD && (absent s d || (match domCfg s d with | some c => c.manualRelease | none => false)
        || x.under ≠ 0 || rb s (GATE_DOM_STAT_PG_TIMEOUT d) || x.leftHeld))

/-- The first domain in release order that is ready is released, `fuel` times (R110). -/
def State.releaseReadyOnes : Nat → State → State
  | 0, s => s
  | fuel + 1, s =>
    match (domOrder s).find? (releaseReady s) with
    | some d => State.releaseReadyOnes fuel (s.releaseDom d)
    | none => s

/-- The mode edges that follow from the domains and their jobs (R89, R90). -/
def State.modeEdge (s : State) : State :=
  let s := s.setF SYSCTL_MODE_JOBS (jobs s)
  if mode s = moGATHER && (domOrder s).all (gatherDone s) then
    s.setMode (if jobs s = 0 then moSERVE else moMAINTAIN)
  else if mode s = moSERVE && jobs s ≠ 0 then s.setMode moMAINTAIN
  else if mode s = moMAINTAIN && jobs s = 0 then s.setMode moSERVE
  else s

/-- What follows at once from any change of a domain: releases, then mode edges. -/
def State.settle (s : State) : State := (State.releaseReadyOnes 48 s).modeEdge

/-- A domain enters VERIFYING from HELD as the GATHER edge of R96 moves it. -/
def gathers (s : State) (d : Nat) : Bool :=
  domState s d = stHELD && !absent s d && !verified s d && (domX s d).under = 0
    && !(match domCfg s d with | some c => c.manualRelease | none => true)

/-- Entry to LOCKDOWN (R92, R94): the freeze, update jobs ended, RECOVERING domains PARKED, LD_HOLD domains held, HX_FAULT_N, LD_CAUSE and
one record; then the key slots are sealed (R296). -/
def State.enterLockdown (s : State) (cause : Nat) : State := s.sameCycle fun s =>
  let s := (s.setMode moLOCKDOWN).raise ORANGERY_STAT_FROZEN
  let s := s.updAbortAll
  let s := s.each ((domOrder s).filter fun d => domState s d = stRECOVERING) fun s d =>
    (s.setDom d stPARKED).recEnd d Code.aborted.val
  let s := s.each (s.boot.cfg.doms.filter (·.ldHold)) fun s c =>
    if released s c.id || domState s c.id = stVERIFYING then s.holdDom c.id else s
  ((((s.assertFault).setF SYSCTL_MODE_LD_CAUSE cause).setF SYSCTL_MODE_JOBS (jobs s)).journalD 0 92 srcGATE noUnit 0
    (rf s SYSCTL_MODE_GEN_GEN) [BitVec.ofNat 8 cause]).keySeal

/-- A lockdown trigger acts in GATHER, SERVE and MAINTAIN (R89, R91). -/
def State.lockdownTrigger (s : State) (cause : Nat) : State := if modeRun s then s.enterLockdown cause else s

/-! ### Inputs (R107, R111, R113) -/

/-- ABSENT follows the presence inputs: some PRESENCE_IN reads deasserted (R107, R113). -/
def absentNow (s : State) (d : Nat) : Bool := (linesOf s d Pcl.presence).any fun k => !lineAsserted s k

/-- A reset cycle starts (R111): generation, RESET_OUT asserted, the channels' devices reset (R205). `req` is the request line that
started it. DESIGN CHOICE (log entry 159): one that starts during another starts the pulse anew, and its own request alone then
prolongs it. -/
def State.resetCycle (s : State) (d : Nat) (req : Option Nat) : State :=
  let lines := linesOf s d Pcl.resetOut
  let s := (s.bumpGen d).each lines fun s k => s.drive k true
  let s := if lines.isEmpty then s else s.each (chansOf s d) State.devReset
  s.modDomX d fun x => { x with seq := .pulse, reqLine := req, pulseOver := false }

/-- The reset pulse ends: the release sequence runs again from the first step with a RESET_OUT line (R111). -/
def State.pulseEnd (s : State) (d : Nat) : State :=
  match firstReset s d with
  | some t => s.relFrom d 17 t
  | none => s.setSeq d .idle

/-- The reactions of a domain to a change of one of its inputs, `was` being its value as the Gatehouse acted on it before:
power-good lost, a reset request begun or ended, presence changed. A pulse lasts while the request that started its cycle does (R111).
DESIGN CHOICE (log entry 153): presence lost while the domain is VERIFYING, for which R96 has no edge, sets ABSENT and lets the load go
on; the domain may then be released while ABSENT. -/
def State.inputActs (s : State) (k : Nat) (was : Bool) : State :=
  match pclOf s k with
  | none => s
  | some p =>
    let d := p.domain
    let now := lineValid s k && lineAsserted s k
    if p.powerGood then
      if was && !now && released s d then ((s.raise GATE_EVT_PG_LOSS).holdDom d).settle else s
    else if p.resetReq then
      if rb s (GATE_PCL_STAT_IGNORED k) then s
      else if !was && now then
        if released s d then s.resetCycle d (some k)
        else { s with gate := { s.gate with ignoredReqs := s.gate.ignoredReqs + 1 } }
      else if was && !now && (domX s d).seq = .pulse && (domX s d).reqLine = some k then
        let s := s.modDomX d fun x => { x with reqLine := none }
        if (domX s d).pulseOver then s.pulseEnd d else s
      else s
    else if p.presence then
      let a := absentNow s d
      if a = absent s d then s
      else
        let s := (s.setB (GATE_DOM_STAT_ABSENT d) a).raise GATE_EVT_PRESENCE_CHG
        if a then (if released s d then s.holdDom d else s).settle
        else if modeRun s && gathers s d then
          let job := modeServe s
          let s := s.verifyDom d
          (s.when (job && domState s d = stVERIFYING) (·.modDomX d fun x => { x with job := jobPRESENCE })).settle
        else s.settle
    else s

end Sys2Proof.Machine
end

