-- ==== Sys2Proof/Machine/Gatehouse.lean ====
section
/-! DEFINITION. The Gatehouse: GATE commands (R115), the steps of its sequences (R108, R109, R111), and its inputs (R107,
R112, R113). -/

namespace Sys2Proof.Machine

/-- OP codes of GATE commands (R115). -/
def opHOLD : Nat := 1
def opRELEASE : Nat := 2
def opRESET_CYCLE : Nat := 3
def opRECOVER : Nat := 4
def opQUARANTINE : Nat := 5
def opENTER_LOCKDOWN : Nat := 15

/-- A bank that a channel or an output PCL of the domain sits in mismatches (R56). -/
def bankStillBad (s : State) (d : Nat) : Bool :=
  (chansOf s d).any (fun ch => mapBit s SYSCTL_BANK_ERR_MISMATCH (bankOfChan ch))
    || (linesOf s d Pcl.output).any (fun k => mapBit s SYSCTL_BANK_ERR_MISMATCH (bankOfPcl k))

/-- RELEASE is accepted in the domain's state (R115). -/
def releaseOk (s : State) (d : Nat) : Bool :=
  domState s d = stQUARANTINED
    || (domState s d = stHELD && !absent s d
        && let u := (domX s d).under
           !(u = 81 || u = 180 || u = 216) && !(u = 56 && bankStillBad s d))

/-- The state and the mode allow the command (R114, R115). -/
def gateStateOk (s : State) (op d : Nat) : Bool :=
  mode s ≠ moASSEMBLY && (op = opHOLD || op = opQUARANTINE || modeRun s)
    && if op = opHOLD then released s d || domState s d = stVERIFYING
       else if op = opRELEASE then releaseOk s d
       else if op = opRESET_CYCLE then released s d
       else if op = opRECOVER then domState s d = stPARKED
       else domState s d ≠ stQUARANTINED

/-- The decision on a command that names domain `d` with generation `gen` (R12, R101, R115). -/
def gateCode (s : State) (op d gen : Nat) : Option Code :=
  firstCode [(!domExists s d, .malformed), (gen ≠ domGen s d, .stale), (!gateStateOk s op d, .refusedState),
    (op = opRECOVER && !(domX s d).nursery, .refusedPolicy)]

/-- RELEASE: PG_TIMEOUT clears; a VERIFIED domain waits only for its predecessors, another one is gathered (R96). -/
def State.gateReleaseDom (s : State) (d : Nat) : State :=
  let s := s.setF (GATE_DOM_STAT_PG_TIMEOUT d) 0
  if domState s d = stQUARANTINED then (s.setF (GATE_DOM_STAT_FAIL_COUNT d) 0).verifyDom d
  else if verified s d then (s.setDom d stVERIFYING).modDomX d fun x => { x with passed := true }
  else s.verifyDom d

/-- QUARANTINE: load or recovery abandoned, the hold sequence if the domain was RELEASED (R96). -/
def State.gateQuarantineDom (s : State) (d : Nat) : State :=
  let was := released s d
  let recov := domState s d = stRECOVERING
  let s := ((s.swapEnd d .aborted).setDom d stQUARANTINED).when recov (·.recEnd d Code.aborted.val)
  if was then s.holdLines d else s

/-- The effect of an accepted GATE command that names a domain. -/
def State.gateApply (s : State) (op d : Nat) : State :=
  (if op = opHOLD then s.holdDom d
   else if op = opRELEASE then s.gateReleaseDom d
   else if op = opRESET_CYCLE then s.resetCycle d none
   else if op = opRECOVER then s.recoverDom d
   else s.gateQuarantineDom d).settle

/-- The outcome of a GATE command at the register interface: a refusal enters one record (R115). -/
def State.gateEnd (s : State) (op d : Nat) (c : Code) : State :=
  let s := (((s.setF GATE_CMD_STAT_LAST_DOM d).setF GATE_CMD_STAT_LAST_OP op).setF GATE_CMD_STAT_LAST_STATUS c.val).raise
    GATE_EVT_CMD_DONE
  if c = .ok then s else s.journalDom 2 115 srcGATE d c.val

/-- A write of GATE_CMD with the given OP and DOM; nothing takes it in reset and in DORMANT (R114). -/
def State.gateCmd (s : State) (op d : Nat) : State :=
  if asleep s then s else match gateCode s op d (rf s GATE_CMD_GEN_GEN) with
  | some c => s.gateEnd op d c
  | none => (s.gateApply op d).gateEnd op d .ok

/-- GATE HOLD (R115). -/
def execGateHold (dom : Nat) (s : State) : Host.Outcome State Fault Refusal := .next (s.gateCmd opHOLD dom)

/-- GATE RELEASE (R115). -/
def execGateRelease (dom : Nat) (s : State) : Host.Outcome State Fault Refusal := .next (s.gateCmd opRELEASE dom)

/-- GATE RESET_CYCLE (R111, R115). -/
def execResetCycle (dom : Nat) (s : State) : Host.Outcome State Fault Refusal := .next (s.gateCmd opRESET_CYCLE dom)

/-- GATE RECOVER (R115, R258). -/
def execRecover (dom : Nat) (s : State) : Host.Outcome State Fault Refusal := .next (s.gateCmd opRECOVER dom)

/-- GATE QUARANTINE (R115). -/
def execQuarantine (dom : Nat) (s : State) : Host.Outcome State Fault Refusal := .next (s.gateCmd opQUARANTINE dom)

/-- The decision on ENTER_LOCKDOWN: DOM 0xFF, the mode generation, a mode that runs (R115). -/
def lockdownCode (s : State) (dom gen : Nat) : Option Code :=
  firstCode [(dom ≠ 0xFF, .malformed), (gen ≠ rf s SYSCTL_MODE_GEN_GEN, .stale), (!modeRun s, .refusedState)]

/-- GATE ENTER_LOCKDOWN: a lockdown trigger with LD_CAUSE 0x04 (R115). -/
def State.enterLockdownCmd (s : State) (dom : Nat) : State :=
  if asleep s then s else match lockdownCode s dom (rf s GATE_CMD_GEN_GEN) with
  | some c => s.gateEnd opENTER_LOCKDOWN dom c
  | none => (s.enterLockdown 4).gateEnd opENTER_LOCKDOWN dom .ok

/-- ENTER_LOCKDOWN. -/
def execEnterLockdown (dom : Nat) (s : State) : Host.Outcome State Fault Refusal := .next (s.enterLockdownCmd dom)

/-- The delay of the hold sequence's waiting step has passed: its POWER_EN lines are deasserted (R109). -/
def execHoldStep (dom : Nat) (s : State) : Host.Outcome State Fault Refusal :=
  .next (match (domX s dom).seq with
    | .hold u => (s.powerDown dom u).holdFrom dom 17 u
    | _ => s)

/-- The load engine reports the pass of a domain (R138): VERIFIED is set, its load ends, the job of R113 too, and R96 decides
release. -/
def State.passDom (s : State) (d : Nat) : State :=
  let s := (s.loadDrop d).raise LOADER_EVT_DOM_PASSED
  let s := (s.raise (GATE_DOM_STAT_VERIFIED d)).modDomX d fun x =>
    { x with passed := true, job := if x.job = jobPRESENCE then 0 else x.job }
  s.settle

/-- The pass of a domain whose every leaf is admitted reaches the Gatehouse (R138). -/
def execDomainPass (dom : Nat) (s : State) : Host.Outcome State Fault Refusal :=
  .next (if domState s dom = stVERIFYING && allAdmitted s dom then s.passDom dom else s)

/-- RELEASE_DELAY since the latest predecessor release has elapsed (R96). -/
def execReleaseDelayExpiry (dom : Nat) (s : State) : Host.Outcome State Fault Refusal :=
  .next (if (predsOf s dom).any (released s) then (s.modDomX dom fun x => { x with delayDone := true }).settle else s)

/-- The waiting step of a release sequence executes: its STEP_DELAY has passed and power-good has settled where the step
needs it (R108). -/
def execReleaseStep (dom : Nat) (s : State) : Host.Outcome State Fault Refusal :=
  .next (match (domX s dom).seq with
    | .rel t => if stepWaitsPg s dom t && !pgOk s dom then s else (s.execStep dom t).relFrom dom 17 (t + 1)
    | _ => s)

/-- A power-good wait exceeds 1,000 ms: the hold sequence, PG_TIMEOUT and one record (R108). -/
def execPgTimeout (dom : Nat) (s : State) : Host.Outcome State Fault Refusal :=
  .next (match (domX s dom).seq with
    | .rel t =>
      if stepWaitsPg s dom t then
        ((((s.holdDom dom).raise (GATE_DOM_STAT_PG_TIMEOUT dom)).raise GATE_EVT_PG_TIMEOUT).journalDom 2 108 srcGATE dom
          Code.timeout.val).settle
      else s
    | _ => s)

/-- An input PCL has held a new level for FILTER µs: it takes it, and its domain reacts; an input of a suspended bank takes
nothing (R57, R107). -/
def execPclInputChange (pcl : Nat) (level : Bool) (s : State) : Host.Outcome State Fault Refusal :=
  .next (match pclOf s pcl with
    | some p =>
      if p.input && !bankFloated s (bankOfPcl pcl) then
        let was := lineValid s pcl && lineAsserted s pcl
        let s := ((s.setB (GATE_PCL_STAT_LEVEL pcl) level).setB (GATE_PCL_STAT_ASSERTED pcl) (level != p.activeLow)).raise
          (GATE_PCL_STAT_VALID pcl)
        s.inputActs pcl was
      else s
    | none => s)

/-- RST_PULSE has elapsed: the pulse ends unless a request still asserts (R111). -/
def execRstPulseEnd (dom : Nat) (s : State) : Host.Outcome State Fault Refusal :=
  .next (if (domX s dom).seq = .pulse then
      let s := s.modDomX dom fun x => { x with pulseOver := true }
      if (domX s dom).reqLine.isSome then s else s.pulseEnd dom
    else s)

/-- A reset request held for RSTREQ_LIMIT: the pulse ends, the line is ignored, one record (R112). DESIGN CHOICE (log entry 159): the domain's
pulse ends whatever request or command started it. -/
def execRstreqStuck (pcl : Nat) (s : State) : Host.Outcome State Fault Refusal :=
  .next (match pclOf s pcl with
    | some p =>
      if p.resetReq && lineValid s pcl && lineAsserted s pcl && !rb s (GATE_PCL_STAT_IGNORED pcl) then
        let d := p.domain
        let s := (((s.raise (GATE_PCL_STAT_IGNORED pcl)).raise (GATE_DOM_STAT_RSTREQ_STUCK d)).raise
          GATE_EVT_RSTREQ_STUCK).journalDom 2 112 srcGATE d 0 [BitVec.ofNat 8 pcl]
        if (domX s d).seq = .pulse then (s.modDomX d fun x => { x with reqLine := none }).pulseEnd d else s
      else s
    | none => s)

/-- A stuck request line deasserted for 100 ms without a break is honoured again (R112). -/
def execRstreqIgnoredClear (pcl : Nat) (s : State) : Host.Outcome State Fault Refusal :=
  .next (if rb s (GATE_PCL_STAT_IGNORED pcl) && !lineAsserted s pcl then s.setF (GATE_PCL_STAT_IGNORED pcl) 0 else s)

end Sys2Proof.Machine
end

