-- ==== Sys2Proof/Machine/KioskOps.lean ====
section
/-! DEFINITION. The Kiosk's named operations: matching an access (R339), quotas (R344, R416), the decision on a request
(R343), replies (R342) and interrupts (R340). -/

namespace Sys2Proof.Machine

def State.modKiosk (s : State) (f : Kiosk → Kiosk) : State := { s with kiosk := f s.kiosk }

def box (s : State) (tn : Nat) : Box := Sparse.get (fun _ => Box.init) s.kiosk.boxes tn
def State.setBox (s : State) (tn : Nat) (b : Box) : State :=
  s.modKiosk fun k => { k with boxes := Sparse.put (fun _ => Box.init) k.boxes tn b }

def kioskIf : CmdIf := ⟨KIOSK_CMD_STAT_LAST_OP, KIOSK_CMD_STAT_LAST_STATUS, some KIOSK_CMD_STAT_RESULT, KIOSK_EVT_CMD_DONE⟩

/-- Bytes of a slot of the receive ring (R354). -/
def slotSize : Nat := 4352

/-! ### Matching (R339) -/

/-- An entry's TRANSPORT, PORT and SOURCE fit an access. -/
def Tbe.fits (t : Tbe) (a : Access) : Bool :=
  t.transport = a.transport && (t.port = a.port || (t.transport = 4 && t.port = 0xFF))
    && (t.source = a.source || t.source = 0xFFFF || t.transport = 2 || t.transport = 3)

/-- The entry that an access matches. -/
def entryOf (s : State) (a : Access) : Option Tbe := s.kiosk.tbt.find? fun t => t.fits a

/-- The entry of TN `tn`. -/
def entryTn (s : State) (tn : Nat) : Option Tbe := s.kiosk.tbt.find? fun t => t.tn = tn

/-- The access matches the entry of TN `tn`. -/
def bound (s : State) (a : Access) (tn : Nat) : Option Tbe := s.kiosk.tbt.find? fun t => t.tn = tn && t.fits a

/-- At most one record per second per key: the last record of that key is a second old or there is none. -/
def rateOk (l : List (Nat × Nat)) (k now : Nat) : Bool :=
  match l.find? (·.1 = k) with | some (_, t) => t + 1000000 ≤ now | none => true

def markAt (l : List (Nat × Nat)) (k now : Nat) : List (Nat × Nat) := (k, now) :: l.filter (·.1 ≠ k)

/-- An access that matches no entry counts in KIOSK_UNBOUND and raises UNBOUND; one record per second and TN (R339). In reset and in DORMANT,
where every table is gone, nothing answers (R114). -/
def State.unboundAccess (s : State) (tn : Nat) : State :=
  if asleep s then s else
  let s := (s.bump KIOSK_UNBOUND_LO KIOSK_UNBOUND_HI KIOSK_EVT_SAT srcKIOSK).raise KIOSK_EVT_UNBOUND
  if rateOk s.kiosk.unboundAt tn s.usec then
    (s.modKiosk fun k => { k with unboundAt := markAt k.unboundAt tn s.usec }).journal 6 339 srcKIOSK tn
  else s

/-! ### Quotas (R344, R416) -/

def tokenUnit : Nat := 1000000

/-- The tokens of a tenant's bucket now, in millionths: full until first used, refilled at RATE per second up to BURST. -/
def tokensNow (s : State) (tn : Nat) : Nat :=
  let q := s.boot.cfg.quotas.of tn
  match s.kiosk.tokens.find? (·.1 = tn) with
  | none => q.burst * tokenUnit
  | some (_, n, t) => min (q.burst * tokenUnit) (n + q.rate * (s.usec - t))

/-- WEIGHT of a tenant: its quantum in requests per round; 1 for what comes from no tenant (R416). -/
def tnWeight (s : State) (tn : Nat) : Nat := if tn < 512 then (s.boot.cfg.quotas.of tn).weight else 1

/-- A request finds its bucket empty. -/
def quotaOut (s : State) (tn : Nat) : Bool := tokensNow s tn < tokenUnit

/-- A request takes a token; one that finds none counts in KIOSK_QUOTA. -/
def State.takeToken (s : State) (tn : Nat) : State :=
  let n := tokensNow s tn
  if n < tokenUnit then s.bump KIOSK_QUOTA_LO KIOSK_QUOTA_HI KIOSK_EVT_SAT srcKIOSK
  else s.modKiosk fun k => { k with tokens := (tn, n - tokenUnit, s.usec) :: k.tokens.filter (·.1 ≠ tn) }

/-! ### Interrupts and replies (R340, R342) -/

/-- A tenant's interrupt is delivered by its transport, an IBI not through a mismatched or suspended bank MGB (R56, R57, R340). -/
def State.tenantIrq (s : State) (tn : Nat) : State :=
  match entryTn s tn with
  | some t =>
    if t.transport = 1 then s.modKiosk fun k => { k with sent := k.sent ++ [Sent.msi] }
    else if t.transport = 2 && !bankFloated s bankMGB && rf s (MTRANS_I3C_STAT_MODE t.port) % 128 = 1 then
      s.modKiosk fun k => { k with sent := k.sent ++ [Sent.ibi t.port 0x4B] }
    else s
  | none => s

/-- The words of a mailbox's request hold poison (R276). -/
def mailPoisoned (s : State) (tn off : Nat) : Bool := s.mem.mailPoison.contains (8 * tn + off / 4)

/-- A mailbox word that is written whole loses its poison (R268). -/
def State.mailClean (s : State) (tn off : Nat) : State :=
  { s with mem := { s.mem with mailPoison := s.mem.mailPoison.filter (· ≠ 8 * tn + off / 4) } }

/-- A reply word (the TN_RSP layout). -/
def rspWord (c : Code) (op data : Nat) : Nat := c.val * 2 ^ 24 + (op % 256) * 2 ^ 16 + data % 65536

/-- The generation of the bound domain, 0 with DOMAIN 0xFF (TN_RGEN). -/
def boundGen (s : State) (tn : Nat) : Nat :=
  match entryTn s tn with
  | some t => if domExists s t.domain then domGen s t.domain else 0
  | none => 0

/-- The waiting reply enters TN_RSP: RSP_FULL and TN_RGEN set, REQ_FULL cleared, EMPTY set with its interrupt (R342). -/
def State.placeReply (s : State) (tn : Nat) : State :=
  let b := box s tn
  let s := (s.setReg (TN_RSP tn) (BitVec.ofNat 32 b.reply)).setF (TN_RGEN_GEN tn) b.rgen
  let s := ((s.setF (TN_STAT_RSP_FULL tn) 1).setF (TN_STAT_REQ_FULL tn) 0).setF (TN_STAT_EMPTY tn) 1
  let s := ((s.mailClean tn 4).mailClean tn 12).setBox tn Box.init
  let s := match b.vendor with
    | some o =>
      let m : Sent := .kioskReply o.port o.eid b.reply b.rgen
      let s := s.modKiosk fun k => { k with sent := k.sent ++ [m] }
      ((s.setReg (TN_RSP tn) 0).setF (TN_STAT_RSP_FULL tn) 0).raise KIOSK_EVT_RSP_TAKEN
    | none => s
  s.when (rb s (TN_IRQ_EN_EMPTY_IE tn)) (·.tenantIrq tn)

/-- KIOSK_STAT.PENDING counts the pending SERVICE requests. -/
def State.showPending (s : State) : State :=
  s.setF KIOSK_STAT_PENDING (s.kiosk.boxes.filter fun e => e.2.phase = 1).length

/-- A reply is produced; it is placed at once while RSP_FULL is clear and waits otherwise (R342). A request that reads as
poisoned is answered POISONED (R276). -/
def State.answer (s : State) (tn word : Nat) : State :=
  let b := box s tn
  let op := bitsAt b.word 24 8
  let word := if mailPoisoned s tn 0 || mailPoisoned s tn 8 then rspWord .poisoned op 0 else word
  let s := s.setBox tn { b with phase := 3, reply := word % 2 ^ 32, rgen := boundGen s tn }
  (if rb s (TN_STAT_RSP_FULL tn) then s else s.placeReply tn).showPending

/-! ### Requests (R342 to R345) -/

def kopSTATE : Nat := 1
def kopHOLD : Nat := 2
def kopRESET : Nat := 3
def kopService (op : Nat) : Bool := 0x10 ≤ op && op ≤ 0x7F
def kopHard (op : Nat) : Bool := op = kopSTATE || op = kopHOLD || op = kopRESET

/-- Belvedere is halted (R394), or the management pause is in force (R345). -/
def bvHalted (s : State) : Bool := rb s DEBUG_STAT_HALTED
def paused (s : State) : Bool := rb s KIOSK_STAT_PAUSE

/-- The GATE command that a Kiosk operation acts as. -/
def kopGate (op : Nat) : Nat := if op = kopHOLD then opHOLD else opRESET_CYCLE

/-- The generation a request carries is not the current one of its domain (R101). -/
def staleGen (s : State) (dom gen : Nat) : Bool := gen = 0 || !domExists s dom || gen ≠ domGen s dom

/-- The codes of a request that stand ahead of mode and state: MALFORMED, a SERVICE request for a domain without an entry included
(R104), STALE, UNPOWERED (R12, R114, R343). -/
def kioskEarly (s : State) (op dom gen : Nat) : List (Bool × Code) :=
  [(!(kopHard op || kopService op) || (dom ≠ 0xFF && !domExists s dom), .malformed),
    (op ≠ kopSTATE && dom ≠ 0xFF && staleGen s dom gen, .stale),
    (kopService op && dom ≠ 0xFF && !powered s dom, .unpowered)]

/-- The key under which a tenant's retry-after time for a SERVICE request is kept (R14). -/
def kioskKey (tn op : Nat) : Nat := TN_REQ tn * 256 + op % 256

/-- The codes of a request of tenant `t` that stand behind UNPOWERED and ahead of REFUSED_QUOTA: mode, state, PERM and DOMAIN (R343). -/
def kioskMid (s : State) (t : Tbe) (op dom : Nat) : List (Bool × Code) :=
  let perm := if op = kopSTATE then t.permState else if kopHard op then t.permControl else t.permService
  let gate := op = kopHOLD || op = kopRESET
  [(gate && dom = 0xFF && t.domain = 0xFF, .malformed),
    (mode s = moASSEMBLY, .notReady),
    (gate && dom ≠ 0xFF && !gateStateOk s (kopGate op) dom, .refusedState),
    (!perm || dom ≠ t.domain, .refusedPolicy)]

/-- The decision on a request of tenant `t` (R343), `quota` saying that its bucket is empty. -/
def kioskCode (s : State) (t : Tbe) (op dom gen : Nat) (quota : Bool) : Option Code :=
  let rest : List (Bool × Code) := [
    (quota, .refusedQuota),
    (kopService op && (paused s || bvHalted s || early s (kioskKey t.tn op)), .busyRetry),
    (kopService op && s.boot.bvDown, .internalFault)]
  firstCode (kioskEarly s op dom gen ++ (kioskMid s t op dom ++ rest))

/-- The code of a request that is turned away for want of a permission of its transport: what stands ahead of REFUSED_POLICY in R12
comes first. -/
def kioskDenied (s : State) (op dom gen : Nat) : Code :=
  let gate := op = kopHOLD || op = kopRESET
  let rest : List (Bool × Code) := [(mode s = moASSEMBLY, .notReady),
    (gate && dom ≠ 0xFF && !gateStateOk s (kopGate op) dom, .refusedState)]
  (firstCode (kioskEarly s op dom gen ++ rest)).getD .refusedPolicy

/-- The retry-after time of a SERVICE request turned away: what is left of the pause in whole milliseconds, or 100 ms while
Belvedere is halted (R345, R394). -/
def serviceRetry (s : State) : Nat :=
  if paused s then min 65535 (max 1 ((s.kiosk.pauseEnd - s.usec + 999) / 1000)) else 100

/-- DATA of an accepted STATE (R343); a request for no domain has no stated DATA. -/
def State.stateData (s : State) (dom : Nat) : Nat × State :=
  if domExists s dom then
    (domState s dom + 8 * (verified s dom).toNat + 16 * (blocked s dom).toNat + 32 * (absent s dom).toNat
      + 64 * (powered s dom).toNat + 128 * rf s (GATE_DOM_STAT_DIVERGED dom), s)
  else
    let (v, s) := s.free
    (v % 65536, s)

/-- A Kiosk HOLD or RESET_CYCLE that is refused enters one record, as the GATE command it acts as does (R115, R343). -/
def State.kioskRecord (s : State) (op dom : Nat) (c : Code) : State :=
  s.when (op = kopHOLD || op = kopRESET) (·.journalDom 2 115 srcGATE dom c.val)

/-- A request accepted into the mailbox of tenant `t`: hardware operations are decided and answered, a SERVICE request becomes
pending (R343, R345). One whose generation word reads as poisoned is answered POISONED and moves nothing (R15, R276). -/
def State.kioskRequest (s : State) (t : Tbe) (word : Nat) (vendor : Option Origin) (token : Bool) : State :=
  let tn := t.tn
  let op := bitsAt word 24 8
  let dom := bitsAt word 16 8
  let gen := rf s (TN_GEN_GEN tn)
  let quota := token && quotaOut s tn
  let code := kioskCode s t op dom gen quota
  let s := if token then s.takeToken tn else s
  let s := (s.setReg (TN_REQ tn) (BitVec.ofNat 32 word)).mailClean tn 0
  let s := (s.setF (TN_STAT_REQ_FULL tn) 1).setBox tn ⟨0, word % 2 ^ 32, gen, 0, 0, vendor⟩
  match code with
  | some .busyRetry =>
    let (ms, s) := s.delay (kioskKey tn op) (some (serviceRetry s))
    s.answer tn (rspWord .busyRetry op ms)
  | some c => (s.kioskRecord op dom c).answer tn (rspWord c op 0)
  | none =>
    if mailPoisoned s tn 8 then s.answer tn (rspWord .poisoned op 0)
    else if op = kopSTATE then
      let (d, s) := s.stateData dom
      s.answer tn (rspWord .ok op d)
    else if kopHard op then (s.gateApply (kopGate op) dom).answer tn (rspWord .ok op 0)
    else ((s.setBox tn ⟨1, word % 2 ^ 32, gen, 0, 0, vendor⟩).raise KIOSK_EVT_REQ_PEND).showPending

/-- A write of TN_REQ: an access that matches no entry is counted, a write while REQ_FULL is set is ignored with OVERRUN
(R339, R342). -/
def State.tnReq (s : State) (a : Access) (tn word : Nat) (vendor : Option Origin := none) (token : Bool := true) : State :=
  match bound s a tn with
  | none => s.unboundAccess tn
  | some t =>
    if rb s (TN_STAT_REQ_FULL tn) then
      ((s.setF (TN_STAT_OVERRUN tn) 1).raise KIOSK_EVT_OVERRUN).bump KIOSK_OVERRUN_LO KIOSK_OVERRUN_HI KIOSK_EVT_SAT srcKIOSK
    else s.kioskRequest t word vendor token

/-- A write of TN_DB_IN: bits set by a bound source with PERM SERVICE (R348). -/
def State.dbIn (s : State) (a : Access) (tn bits : Nat) : State :=
  match bound s a tn with
  | none => s.unboundAccess tn
  | some t =>
    if !t.permService then s
    else
      let old := rf s (TN_DB_IN_BITS tn)
      let new := old ||| (bits % 2 ^ 32)
      let s := (s.setF (TN_DB_IN_BITS tn) new).mailClean tn 0x18
      s.when (old = 0 && new ≠ 0) (·.raise KIOSK_EVT_DB_IN)

/-- DB_OUT_PEND follows TN_DB_OUT, with the tenant's interrupt when it becomes nonzero. -/
def State.dbOut (s : State) (tn new : Nat) : State :=
  let old := rf s (TN_DB_OUT_BITS tn)
  let s := (s.setF (TN_DB_OUT_BITS tn) new).setB (TN_STAT_DB_OUT_PEND tn) (new % 2 ^ 32 ≠ 0)
  s.when (old = 0 && new % 2 ^ 32 ≠ 0 && rb s (TN_IRQ_EN_DB_OUT_IE tn)) (·.tenantIrq tn)

/-- A write of the register at offset `off` of a mailbox (R341, R342, R348). -/
def State.tnWrite (s : State) (a : Access) (tn off value : Nat) : State :=
  let v := value % 2 ^ 32
  if 512 ≤ tn then s.unboundAccess tn
  else if off = 0 then s.tnReq a tn v
  else if off = 0x18 then s.dbIn a tn v
  else if (bound s a tn).isNone then s.unboundAccess tn
  else if off = 8 then (s.setF (TN_GEN_GEN tn) v).mailClean tn 8
  else if off = 0x10 then s.setReg (TN_STAT tn) (BitVec.ofNat 32 ((reg s (TN_STAT tn)).toNat - ((reg s (TN_STAT tn)).toNat &&& (v &&& 12))))
  else if off = 0x14 then (s.setReg (TN_IRQ_EN tn) (BitVec.ofNat 32 (v % 4))).mailClean tn 0x14
  else if off = 0x1C then
    let old := rf s (TN_DB_OUT_BITS tn)
    s.dbOut tn (old - (old &&& v))
  else s

/-- What a read of a mailbox register by a bound source shows; WO fields read as zero and BOUND as 1. -/
def tnView (s : State) (tn off : Nat) : Word :=
  if off = 0 then 0
  else if off = 0x10 then reg s (TN_STAT tn) ||| 16
  else reg s (TN_REQ tn + off)

/-- A poisoned mailbox word as a read returns it: all ones with EP on PCIe, else a reply that carries POISONED (R276). -/
def poisonedOut (a : Access) (op : Nat) : Out :=
  if a.transport = 1 then .epWord 0xFFFFFFFF else .word (BitVec.ofNat 32 (rspWord .poisoned op 0))

/-- A read of the register at offset `off` of a mailbox (R339, R341, R342). -/
def State.tnRead (s : State) (a : Access) (tn off : Nat) : State :=
  if 512 ≤ tn || (bound s a tn).isNone then (s.unboundAccess tn).ret (.word 0)
  else if off % 4 ≠ 0 || 0x1C < off then s.ret (.word 0)
  else
    let s := s.ret (if mailPoisoned s tn off then poisonedOut a (rf s (TN_RSP_OP tn)) else .word (tnView s tn off))
    if off = 4 then
      let full := rb s (TN_STAT_RSP_FULL tn)
      let s := (s.setReg (TN_RSP tn) 0).setF (TN_STAT_RSP_FULL tn) 0
      s.when full (·.raise KIOSK_EVT_RSP_TAKEN)
    else s

/-- Every taken, unanswered request is answered with a code, as a Belvedere restart does (R346). -/
def State.answerTaken (s : State) (c : Code) : State :=
  s.each (s.kiosk.boxes.filter fun e => e.2.phase = 2) fun s e => s.answer e.1 (rspWord c (bitsAt e.2.word 24 8) 0)

end Sys2Proof.Machine
end

