-- ==== Sys2Proof/Machine/LoadOps.lean ====
section
/-! DEFINITION. The load engine's named operations: hash lanes (R133, R134), admission of nodes and leaves (R130, R135),
check 7 and the creation of extents at ACCEPT (R126, R136, R137, R146, R153, R167, R255). -/

namespace Sys2Proof.Machine

/-! ### Hash lanes -/

def laneBad (s : State) (i : Nat) : Bool :=
  if i < 32 then mapBit s LOADER_LANE_FAIL_FAILED i else mapBit s LOADER_LANE1_FAILED (i - 32)

def State.setLaneOn (s : State) (i : Nat) (b : Bool) : State :=
  let s := if i < 32 then s.setMapBit LOADER_LANE0_IN_SERVICE i b else s.setMapBit LOADER_LANE1_IN_SERVICE (i - 32) b
  s.setF LOADER_STAT_LANES (lanesOn s)

def State.setLaneBad (s : State) (i : Nat) : State :=
  if i < 32 then s.setMapBit LOADER_LANE_FAIL_FAILED i true else s.setMapBit LOADER_LANE1_FAILED (i - 32) true

/-- Spare lanes that passed their test and are not in service. -/
def spareLanes (s : State) : List Nat := [32, 33, 34, 35].filter fun i => !laneOn s i && !laneBad s i

/-- A lane fails: it leaves service, and the lowest-numbered passing spare replaces it (R31, R32, R133). -/
def State.failLane (s : State) (i : Nat) : State :=
  let was := laneOn s i
  let s := (s.setLaneBad i).setLaneOn i false
  let s := match (if was then (spareLanes s).head? else none) with
    | some j =>
      let s := s.setLaneOn j true
      s.spareUsed SYSCTL_SPARE_EVT_HASH_USED 0 (spareLanes s).isEmpty
    | none => s
  s.setF SYSCTL_SPARE_STAT_HASH_SPARE (spareLanes s).length

/-- With no lane left, the fault is uncovered and every VERIFYING domain with a check still to make parks with LAST_CAUSE
0x12; one whose regions have all passed needs no hash (R418). -/
def State.lanesGone (s : State) : State :=
  if lanesOn s ≠ 0 then s
  else
    (((s.uncovered 4 0).each ((domOrder s).filter fun d => domState s d = stVERIFYING && !(domX s d).passed && !allAdmitted s d) fun s d =>
      s.parkDom d Code.internalFault.val)).settle

/-- A lane is retired in service: a record, LANE_RETIRED, a spare (R134). -/
def State.retireLane (s : State) (i : Nat) : State :=
  if i < 36 && laneOn s i then
    s.sameCycle fun s => (((s.failLane i).raise LOADER_EVT_LANE_RETIRED).journal 7 134 srcLOADER i).lanesGone
  else s

/-! ### Progress -/

def State.modLoad (s : State) (d : Nat) (f : Load → Load) : State :=
  { s with ldr := { s.ldr with loads := s.ldr.loads.map fun p => if p.1 = d then (p.1, f p.2) else p } }

/-- LOADER_DOMn_PROG follows the load. -/
def State.showProg (s : State) (d : Nat) : State :=
  match loadOf s d with
  | some l =>
    match l.man with
    | some m =>
      let n := l.admitted.foldl (· + ·) 0
      let done := ((m.regions.zipIdx).filter fun (r, i) => l.admitted.getD i 0 = r.leaves).length
      ((s.setF (LOADER_DOM_PROG_ADMITTED_MIB d) (n / 256)).setF (LOADER_DOM_PROG_PASSED d) done).setF
        (LOADER_DOM_PROG_TOTAL d) m.regions.length
    | none => s
  | none => s

/-- Leaf `leaf` of region `r` has been admitted, or read by a REVERIFY job. -/
def State.leafDone (s : State) (d r : Nat) (reverify : Bool) : State :=
  let s := s.modLoad d fun l => { l with admitted := setAt l.admitted r (l.admitted.getD r 0 + 1) }
  if reverify then s
  else (s.bumpN LOADER_ADMIT_LO LOADER_ADMIT_HI LOADER_EVT_SAT srcLOADER 4096).showProg d

/-- The last burst of region `r` of a load was retried or failed with code `c`: LAST_STATUS of the bus that reads it (R142). -/
def State.burstStatus (s : State) (d r c : Nat) : State :=
  match s.ldr.cur.find? (·.2 = (d, r)) with
  | some (b, _) => s.setF (LOADER_FB_STAT_LAST_STATUS b) c
  | none => s

/-- A re-read under R134 gave the expected bytes: the retry counter advances with a record, and the burst shows as retried (R134). -/
def State.rereadOk (s : State) (d r : Nat) : State :=
  (((s.burstStatus d r Code.verifyFail.val).raise LOADER_EVT_READ_RETRY).bump LOADER_RETRY_LO LOADER_RETRY_HI LOADER_EVT_SAT srcLOADER).journalDom 3 134 srcLOADER d 0

/-- A check of a load's node or leaf fails for good: check 8 fails, or, for a REVERIFY job, DIVERGED is set with a record and
nothing else changes but the bus's LAST_STATUS (R99, R139, R141). -/
def State.loadFail (s : State) (d r : Nat) (node : Bool) (index code : Nat) (reverify : Bool) : State :=
  if reverify then
    let s := ((((s.burstStatus d r code).setF (LOADER_DOM_FAIL_CODE d) code).setF (LOADER_DOM_FAIL_REGION d) r).setB
      (LOADER_DOM_FAIL_NODE d) node).setF (LOADER_DOM_FAIL_INDEX d) index
    (s.raise (GATE_DOM_STAT_DIVERGED d)).journalDom 3 99 srcLOADER d code (BitVec.ofNat 8 r :: leBytes 4 index)
  else (s.verifyFail d 8 r node index code).settle

/-! ### Admission (R130, R135) -/

/-- A leaf's ledger entry is settled by the hash that the admitted leaf matched (R160). -/
def State.settleEntry (s : State) (e l : Nat) (h : List Byte) : State :=
  let x := extOf s e
  if x.writable then
    match ltabOf s (x.ctrBase + l) with
    | some y => s.setLtab (x.ctrBase + l) (some { y with new := h, opn := false, ctr := ctrOf s (x.ctrBase + l) })
    | none => s
  else s

/-- The hashes a gathered leaf may have: NEW or OLD of its ledger entry, else the verified level-0 entry (R135). -/
def gatherHashes (s : State) (e l : Nat) : List (List Byte) :=
  let x := extOf s e
  match (if x.writable then ltabOf s (x.ctrBase + l) else none) with
  | some y => [y.new, y.old]
  | none => (nodeAt s e 0 l).toList

/-- The tree chunk of level `lvl` that holds entry `i` of region `r` has been read and checked in this load (R130, R131). -/
def chunkRead (s : State) (d r lvl i : Nat) : Bool :=
  match loadOf s d with | some l => l.chunks.contains (r, lvl, i / 256) | none => false

/-- One leaf of a burst: admitted when its hash is one of those expected, its re-read bytes otherwise, else a failure; poison (`bad`) is a
mismatch (R276); while the re-read of R134 is not in, it waits. A leaf that is not the next one, or whose level-0 chunk this load has not read, is not used. The flag says that
the burst goes on. -/
def State.takeLeaf (s : State) (d r l : Nat) (bs again : List Byte) (bad reverify : Bool) : State × Bool :=
  let e := extIx d r
  let want := gatherHashes s e l
  let next := match loadOf s d with | some x => x.admitted.getD r 0 | none => 0
  if l ≠ next || want.isEmpty || !chunkRead s d r 0 l then (s, false)
  else
    let keep (s : State) (b : List Byte) : State :=
      let s := if reverify then s else
        let x := extOf s e
        let s := if x.writable then s.setCtrSlot (x.ctrBase + l) 0 else s
        (s.writeLeaf e l b).settleEntry e l (leafHash b)
      s.leafDone d r reverify
    if !bad && want.contains (leafHash bs) then (keep s bs, true)
    else if again.isEmpty then (s, false)
    else if want.contains (leafHash again) then (keep (s.rereadOk d r) again, true)
    else
      let s := (s.raise LOADER_EVT_READ_RETRY).loadFail d r false l Code.verifyFail.val reverify
      (if reverify then s.leafDone d r true else s, reverify)

/-- The entry above group `g` of level `lvl`: ROOT for the highest stored level (R124, R130). -/
def parentOf (s : State) (d r lvl g : Nat) : Option (List Byte) :=
  match (loadOf s d).bind (·.man.bind (·.regions[r]?)) with
  | some reg =>
    if lvl + 2 = (treeLevels reg.leaves).length then some reg.root
    else if chunkRead s d r (lvl + 1) g then nodeAt s (extIx d r) (lvl + 1) g
    else none
  | none => none

/-- One group of up to 8 entries of level `lvl`: its entries are verified when they hash to the entry above (R130). -/
def State.takeGroup (s : State) (d r lvl g n : Nat) (bs again : List Byte) (bad reverify : Bool) : State × Bool :=
  match parentOf s d r lvl g with
  | none => (s, false)
  | some want =>
    let keep (s : State) (b : List Byte) : State :=
      s.each (List.range n) fun s i => s.putNode (extIx d r) lvl (8 * g + i) (slice b (48 * i) 48)
    if !bad && nodeHash n bs = want then (keep s bs, true)
    else if again.isEmpty then (s, false)
    else if nodeHash n again = want then (keep (s.rereadOk d r) again, true)
    else ((s.raise LOADER_EVT_READ_RETRY).loadFail d r true (8 ^ (lvl + 1) * g) Code.verifyFail.val reverify, reverify)

/-- A run of items taken in order until one ends it; the flag says that none did. -/
def takeAll (f : State → Nat → State × Bool) : State → List Nat → State × Bool
  | s, [] => (s, true)
  | s, i :: t =>
    match f s i with
    | (s', true) => takeAll f s' t
    | (s', false) => (s', false)

/-- The groups of a tree chunk; the chunk is read once every group has been checked (R130). -/
def State.takeTree (s : State) (d r lvl first : Nat) (data again : List Byte) (poison : List Nat) (size : Nat) (reverify : Bool) : State :=
  let entries := min (data.length / 48) (size - first)
  match takeAll (fun s i =>
    let n := min 8 (entries - 8 * i)
    s.takeGroup d r lvl (first / 8 + i) n (slice data (384 * i) (48 * n))
      (if again.isEmpty then [] else slice again (384 * i) (48 * n)) (poison.contains i) reverify)
    s (List.range ((entries + 7) / 8)) with
  | (s, true) => s.modLoad d fun l => { l with chunks := l.chunks ++ [(r, lvl, first / 256)] }
  | (s, false) => s

/-- The leaves of a data burst (R130). -/
def State.takeLeaves (s : State) (d r first : Nat) (data again : List Byte) (poison : List Nat) (leaves : Nat) (reverify : Bool) : State :=
  Prod.fst <| takeAll (fun s i =>
    s.takeLeaf d r (first + i) (slice data (4096 * i) 4096) (if again.isEmpty then [] else slice again (4096 * i) 4096)
      (poison.contains i) reverify)
    s (List.range (min (data.length / 4096) (leaves - first)))

/-! ### ACCEPT (R126 check 7, R136, R255) -/

/-- The WRITABLE bytes of a manifest. -/
def writableBytes (m : Manifest) : Nat := ((m.regions.filter (·.writable)).map (·.length)).foldl (· + ·) 0

/-- LEDGER encodings of ORANGERY_STAT. -/
def ledger (s : State) : Nat := rf s ORANGERY_STAT_LEDGER

/-- The WRITABLE limit in force: zero without a usable ledger (R163). -/
def writableNow (s : State) : Nat := if ledger s = 0 || ledger s = 6 then 0 else writableLimit s

/-- Two regions' source ranges overlap. -/
def srcClash (a b : Region) : Bool := a.srcPart = b.srcPart && overlap a.srcOff a.length b.srcOff b.length

/-- The manifests in force of the other domains. -/
def othersInForce (s : State) (d : Nat) : List Manifest := (s.ldr.force.filter (·.1 ≠ d)).map (·.2)

/-- No WRITABLE region's source range overlaps that of another region, of the list's rest or of `others` (R255). -/
def writableApart (others : List Region) : List Region → Bool
  | [] => true
  | r :: t => !((others ++ t).any fun q => (r.writable || q.writable) && srcClash r q) && writableApart others t

/-- Check 7 of R126. -/
def check7 (s : State) (d : Nat) (m : Manifest) : Option Code :=
  let others := othersInForce s d
  let sum := writableBytes m + (others.map writableBytes).foldl (· + ·) 0
  firstCode [
    (writableBytes m ≠ 0 && writableNow s < sum, .refusedPolicy),
    (m.regions.any (fun r => r.writable && match s.fbus.map.parts[r.srcPart]? with | some p => !p.wt | none => true),
      .refusedPolicy),
    (!writableApart (others.flatMap (·.regions)) m.regions, .refusedPolicy),
    (!epochsLeft s (m.regions.length + 1), .refusedState)]

/-- The retained entries of a domain are moved into their slots, or discarded, at ACCEPT or at the end of the replay
(R167, R169). -/
def State.adoptEntries (s : State) (d : Nat) : State :=
  let mine := s.orang.lret.filter (·.dom = d)
  let s := { s with orang := { s.orang with lret := s.orang.lret.filter (·.dom ≠ d) } }
  s.each mine fun s y =>
    let x := extOf s (extIx d y.region)
    if x.valid && x.writable && x.mroot = y.mroot && 4096 * y.leaf < x.len then
      s.setLtab (x.ctrBase + y.leaf) (some { y with ctr := ctrOf s (x.ctrBase + y.leaf) })
    else s

/-- One region's extent is created in each plane (R137, R146, R151, R153). -/
def State.makeExt (s : State) (d tree base : Nat) (p : Region × Nat) : State :=
  let (r, i) := p
  let e := extIx d i
  let (ep, s) := s.newEpoch
  let s := if r.writable && (slotFor s r.leaves).isNone then s.compact else s
  let slot := if r.writable then (slotFor s r.leaves).getD 0 else 0
  let a := base + r.shadowOff
  let fits := s.orang.grans.length + r.leaves ≤ granMax
  let pin := r.pin && fits
  let s := if pin then
      { s with orang := { s.orang with grans := s.orang.grans ++ (List.range r.leaves).map (a / 4096 + ·) } }
    else if r.pin then (s.raise LOADER_EVT_PIN_DENIED).journalDom 3 137 srcLOADER d 0 [BitVec.ofNat 8 i]
    else s
  let s := (s.setF (PLANE_HOT_STAT_USED 0) s.orang.grans.length).setF (PLANE_HOT_STAT_USED 1) s.orang.grans.length
  (s.dropNodes e).setExt e
    { valid := true, channel := r.channel, chanOff := r.chanOff, base := a, len := r.length, writable := r.writable
      pinned := pin, epoch := ep, prev := 0, tree, ctrBase := slot, srcPart := r.srcPart, srcOff := r.srcOff
      mroot := r.root.take 4 }

/-- The manifest of a domain comes into force: a former one goes out, the tree epoch and the extents are made, the domain's
lost leaves are forgotten, its ledger entries adopted (R136, R146, R161, R167). DESIGN CHOICE (log entry 154): the tree takes its epoch
first, then the regions in descriptor order (R151). -/
def State.acceptMan (s : State) (d : Nat) (m : Manifest) : State :=
  let s := s.dropManifest d
  let (tree, s) := s.newEpoch
  let base := match domCfg s d with | some c => c.shBase * 1048576 | none => 0
  let s := s.each (m.regions.zipIdx) fun s p => s.makeExt d tree base p
  let lost := s.orang.lost.filter fun (e, _) => extDom e ≠ d
  let s := ({ s with orang := { s.orang with lost }, ldr := { s.ldr with force := s.ldr.force ++ [(d, m)] } }).setF
    ORANGERY_LOST_STAT_ENTRIES lost.length
  if ledger s = 1 then s else s.adoptEntries d

end Sys2Proof.Machine
end

