-- ==== Sys2Proof/Machine/WtOps.lean ====
section
/-! DEFINITION. Write-throughs behind the port (R153, R154, R166, R254, R256) and the ledger's writing side (R165 to R168). -/

namespace Sys2Proof.Machine

/-! ### The ledger's switch of halves (R168) -/

/-- The active half has reached half its size. -/
def ledgerHalfFull (s : State) : Bool := s.orang.ledSize ≤ 2 * s.orang.ledPos

/-- A switch starts: the other half is erased (R168 step 1). -/
def State.switchStart (s : State) : State :=
  if ledger s = 2 && ledgerHalfFull s && !s.orang.retry then s.setF ORANGERY_STAT_LEDGER 4 else s

/-- Every entry of the ledger table, slot and retained areas. -/
def ledgerEntries (s : State) : List LEnt := s.orang.ltab.filterMap (·.2) ++ s.orang.lret

/-! ### Entries (R164, R165) -/

/-- The ledger key KL (R164). -/
def klKey (s : State) : List Byte := s.orang.keys.getD 3 []

/-- The MAC of an entry: AES-CMAC under KL over its bytes 0 to 111 and the 16 bytes at offset 112 of the position before. Both planes hold
KL and compute it from the same bytes (R164, R165). -/
def entryMac (kl body prev : List Byte) : List Byte := beBytes 16 (Config.aesCmac kl (body ++ prev)).toNat

/-- `n` bytes of a field: the value's, then zeros. -/
def padTo (n : Nat) (l : List Byte) : List Byte := (l ++ List.replicate n 0).take n

/-- The 128 bytes of a ledger entry (R165). -/
def entryBytes (kl prev : List Byte) (seq typ dom region leaf : Nat) (mroot old new : List Byte) : List Byte :=
  let b := leBytes 4 seq ++ leBytes 1 typ ++ leBytes 1 dom ++ leBytes 1 region ++ [0] ++ leBytes 4 leaf ++ padTo 4 mroot ++ padTo 48 old
    ++ padTo 48 new
  b ++ entryMac kl b prev

/-- A WRITE or SNAPSHOT entry of a leaf; a HEAD or SNAPSHOT_END with its number in LEAF. -/
def leafEntry (kl prev : List Byte) (seq typ : Nat) (y : LEnt) : List Byte :=
  entryBytes kl prev seq typ y.dom y.region y.leaf y.mroot y.old y.new
def markEntry (kl prev : List Byte) (seq typ n : Nat) : List Byte := entryBytes kl prev seq typ 0xFF 0xFF n [] [] []

/-- The first 16 bytes of the chain, before a HEAD. -/
def noPrev : List Byte := List.replicate 16 0

/-- The ledger's partition, and the device byte address of a position of a half (R163). -/
def ledgerPart (s : State) : Option FbPart := s.fbus.map.ledger.bind fun p => s.fbus.map.parts[p]?
def ledgerDev (s : State) : Nat := match ledgerPart s with | some p => p.device | none => 0
def ledgerAddr (s : State) (half pos : Nat) : Nat :=
  (match ledgerPart s with | some p => p.offset | none => 0) + 128 * (half * s.orang.ledSize + pos)

/-- The next SEQ. -/
def ledgerSeq (s : State) : Nat := rf s ORANGERY_LEDGER_SEQ_SEQ

/-- Entry `bs` is programmed at the next position and read back: it is the last of the chain. -/
def State.ledgerWrote (s : State) (bs : List Byte) : State :=
  { s with
    orang := { s.orang with ledPos := s.orang.ledPos + 1, ledPrev := slice bs 112 16 }
    fbus := { s.fbus with writes := [⟨ledgerDev s, ledgerAddr s s.orang.ledHalf s.orang.ledPos, 0,
      ledgerAddr s s.orang.ledHalf s.orang.ledPos, bs, []⟩] } }

/-- One entry more of a run that one operation writes, with the next SEQ; none where the half is full. -/
def State.ledgerAlso (s : State) (bs : List Byte) : State :=
  if s.orang.ledSize ≤ s.orang.ledPos then s
  else
    let t := s.ledgerWrote bs
    let t := { t with fbus := { t.fbus with writes := s.fbus.writes ++ t.fbus.writes } }
    t.setF ORANGERY_LEDGER_SEQ_SEQ ((rf t ORANGERY_LEDGER_SEQ_SEQ + 1) % 2 ^ 32)

/-- An entry whose program or read-back failed stays in place; what its MAC field reads as is free (R165, R450). DESIGN CHOICE (log entry
154): it uses up its position and not its SEQ, which the next entry takes. -/
def State.ledgerLost (s : State) : State :=
  let (a, s) := s.free
  let (b, s) := s.free
  { s with orang := { s.orang with ledPos := s.orang.ledPos + 1, ledPrev := leBytes 8 a ++ leBytes 8 b } }

/-- The next sequence number is used (R165). -/
def State.seqNext (s : State) : State := s.setF ORANGERY_LEDGER_SEQ_SEQ ((rf s ORANGERY_LEDGER_SEQ_SEQ + 1) % 2 ^ 32)

/-- The active half has no free position left. -/
def ledgerFull (s : State) : Bool := s.orang.ledSize ≤ s.orang.ledPos

/-! ### Physical operations (R254) -/

/-- The device of a partition. -/
def devOfPart (s : State) (p : Nat) : Nat := match s.fbus.map.parts[p]? with | some q => q.device | none => 0

def devX (s : State) (d : Nat) : DevX := Sparse.get (fun _ => DevX.init) s.fbus.devs d
def State.setDevX (s : State) (d : Nat) (x : DevX) : State :=
  { s with fbus := { s.fbus with devs := Sparse.put (fun _ => DevX.init) s.fbus.devs d x } }

/-- Device states of FBUS_DEVd_STAT. -/
def dvREADY : Nat := 1
def dvBUSY : Nat := 2
def dvSUSP : Nat := 3
def dvFAILED : Nat := 4

/-- FBUS_DEVd_STAT.STATE follows what a working device has to do: its queue, and the operation beside it that a poll found (R253). -/
def State.showDev (s : State) (d : Nat) : State :=
  let st := rf s (FBUS_DEV_STAT_STATE d)
  if st = dvREADY || st = dvBUSY || st = dvSUSP then
    s.setF (FBUS_DEV_STAT_STATE d)
      (if (devX s d).queue.isEmpty && (devX s d).other = 0 then dvREADY else if st = dvSUSP then dvSUSP else dvBUSY)
  else s

/-- The operation beside the queue has ended on device `d`. -/
def State.otherDone (s : State) (d : Nat) : State := (s.setDevX d { devX s d with other := 0 }).showDev d

/-- The bus of a device carries its status polls and read-backs (R57). -/
def devLive (s : State) (d : Nat) : Bool := match s.fbus.map.devs[d]? with | some e => fbLive s e.bus | none => true

/-- A working device on a live bus that no physical operation occupies: every access but a refetch waits for that (R57, R253). -/
def devIdle (s : State) (d : Nat) : Bool :=
  let st := rf s (FBUS_DEV_STAT_STATE d)
  !(st = dvBUSY || st = dvSUSP || st = dvFAILED) && match s.fbus.map.devs[d]? with | some e => fbLive s e.bus | none => true

/-- A device that its operation `who` beside the queue can use: idle, or occupied by that operation itself (R253). -/
def devFree (s : State) (d who : Nat) : Bool :=
  devIdle s d || ((devX s d).other = who && rf s (FBUS_DEV_STAT_STATE d) = dvBUSY && devLive s d)

/-- A device that a refetch reads: idle, or with its erase suspended for it (R253). -/
def devReadable (s : State) (d : Nat) : Bool :=
  let st := rf s (FBUS_DEV_STAT_STATE d)
  !(st = dvBUSY || st = dvFAILED) && match s.fbus.map.devs[d]? with | some e => fbLive s e.bus | none => true

/-- A write-through joins the queue of its device (R252, R254). -/
def State.queuePhys (s : State) (w : Wt) : State :=
  let d := devOfPart s (extOf s w.ext).srcPart
  let x := devX s d
  (s.setDevX d { x with queue := x.queue ++ [w.id] }).showDev d

/-! ### Steps 1 to 3 of R166 -/

/-- The level-0 entry of a leaf, or 48 zero bytes. -/
def level0 (s : State) (e l : Nat) : List Byte := (nodeAt s e 0 l).getD (List.replicate 48 0)

/-- The entries still to be appended: the next one takes the next SEQ (R165). -/
def waitingEntries (s : State) : Nat := (s.orang.wts.map fun w => if w.stage = 1 then w.todo.length else 0).foldl (· + ·) 0

/-- Step 3 of R166 for one leaf; `seq` is the SEQ that its WRITE entry will be appended with, unless a SNAPSHOT entry comes before. -/
def State.openEntry (s : State) (e l seq : Nat) : State :=
  let x := extOf s e
  let old := match ltabOf s (x.ctrBase + l) with | some y => y.new | none => level0 s e l
  s.setLtab (x.ctrBase + l) (some
    { dom := extDom e, region := extRegion e, leaf := l, mroot := x.mroot, old, new := leafHash (leafBytes s e l)
      seq := seq % 2 ^ 32, opn := true, ctr := ctrOf s (x.ctrBase + l) })

/-- A block still to be passed by the walk, or whose re-encryption is not running, is saturated: the write waits (R154). -/
def blockHeld (s : State) (e b : Nat) : Bool :=
  ctrOf s ((extOf s e).ctrBase + b) = 0xFFFF && !(rekeying s e && b < rf s ORANGERY_REKEY_STAT_BLOCK)

/-- The leaves of a write with a line outside its range that no SERVING plane passes: they are refetched before it is stored (R153, R160). -/
def mendFirst (s : State) (w : Wt) : List Nat :=
  (blocksOf w.off w.len).filter fun b =>
    anyServing s && !(deadLines s w.ext b w.off w.len w.bad).isEmpty && !s.orang.lost.contains (w.ext, b) && !w.gone.contains b

def wtHeld (s : State) (w : Wt) : Bool := (blocksOf w.off w.len).any (blockHeld s w.ext) || !(mendFirst s w).isEmpty

/-- The write-through whose WRITE entry is next: the oldest with leaves still to append. -/
def nextAppend (s : State) : Option Wt := s.orang.wts.find? fun w => w.stage = 1 && !w.todo.isEmpty

/-- A WRITE entry that finds the active half full, with no other half usable, is held with one record (R168). -/
def State.ledgerCheck (s : State) : State :=
  match nextAppend s with
  | some w =>
    if ledgerFull s && (ledger s = 2 || ledger s = 3 || ledger s = 4) then
      (((s.modWt w.id fun y => { y with held := true }).setF ORANGERY_STAT_LEDGER 5).raise ORANGERY_EVT_LEDGER_HELD).journal 3 168
        srcORANGERY (extDom w.ext)
    else s
  | none => s

/-- Steps 1 to 3 of R166 for a write-through: lines, counters and MACs, leaf hashes, ledger-table entries. A WRITE entry that
finds the ledger replaying, or full with no other half, holds it (R168, R450). -/
def State.wtStore (s : State) (w : Wt) : State :=
  let s := s.storeThrough w.ext w.off w.data w.bad
  let leaves := blocksOf w.off w.len
  let x := extOf s w.ext
  let undo := leaves.map fun l => (l, ltabOf s (x.ctrBase + l))
  let first := ledgerSeq s + waitingEntries s
  let s := s.each leaves.zipIdx fun s p => s.openEntry w.ext p.1 (first + p.2)
  let ents := leaves.filterMap fun l => ltabOf s (x.ctrBase + l)
  (s.modWt w.id fun y => { y with stage := 1, todo := leaves, undo, ents, held := ledger s = 1 }).ledgerCheck

/-- A write-through accepted at a port starts: it is held under R154, or until the block's other lines are repaired (R153), or stored at once.
The identifier is answered with it; `frame` is that of the frame's first, `bad` the lines of the touched blocks seen to fail their re-check. -/
def State.wtStart (s : State) (ch e kind off frame : Nat) (data : List Byte) (bad : List (Nat × Nat)) : Nat × State :=
  let id := s.orang.wtIx
  let w : Wt := { id, ch, ext := e, kind, off, len := data.length, data, stage := 0, todo := [], undo := [], held := false, frame, bad }
  let s := { s with orang := { s.orang with wtIx := id + 1, wts := s.orang.wts ++ [w] } }
  (id, if wtHeld s w then s.each (mendFirst s w) fun s b => s.needRefetch e b else s.wtStore w)

/-- Held writes whose blocks are free now are stored (R153, R154). -/
def State.releaseHeld (s : State) : State :=
  s.each (s.orang.wts.filter fun w => w.stage = 0) fun s w => if wtHeld s w then s else s.wtStore w

/-! ### Failures (R199, R256, R450) -/

/-- FBUS_WT_FAIL0 and FBUS_WT_FAIL1 take a failure; it counts. -/
def State.wtFailReg (s : State) (dom code dev kind addr : Nat) : State :=
  let s := (((s.setF FBUS_WT_FAIL0_DOM dom).setF FBUS_WT_FAIL0_CODE code).setF FBUS_WT_FAIL0_DEVICE dev).setF
    FBUS_WT_FAIL0_KIND kind
  (s.setF FBUS_WT_FAIL1_ADDR addr).bump FBUS_WTFAIL_LO FBUS_WTFAIL_HI FBUS_EVT_SAT srcFBUS

/-- The KIND of FBUS_WT_FAIL0 for a write-through. -/
def wtKind (w : Wt) : Nat := if w.kind = 1 then 1 else 2

/-- The port answers a failed physical operation: WIP, WEL, the failure bit, the alert with cause 0x05 (R199). -/
def State.portFail (s : State) (w : Wt) : State := (s.opFail w.ch w.id).alert w.ch 5

/-- A later write-through of the leaf has its program still open. -/
def openElsewhere (s : State) (w : Wt) (l : Nat) : Bool :=
  s.orang.wts.any fun v => v.id ≠ w.id && v.ext = w.ext && v.stage ≠ 0 && (blocksOf v.off v.len).contains l

/-- The ledger-table entries of a write-through are closed, in their slots or in the retained area: its physical operation has completed and
read back, and no other one of the leaf is open (R167). -/
def State.closeEntries (s : State) (w : Wt) : State :=
  s.each ((blocksOf w.off w.len).filter fun l => !openElsewhere s w l) fun s l =>
    s.modEntry (extDom w.ext) (extRegion w.ext) l fun y => some { y with opn := false }

/-! ### The end of a refetch (R153, R160, R209) -/

/-- eSPI reads that wait for a leaf: each is read again once every leaf that it waits for is rewritten, or becomes ready as unsuccessful
with its own count of CHn_POISON (R209). -/
def State.refetchEspi (s : State) (e l : Nat) (ok : Bool) : State :=
  let ch := (extOf s e).channel
  let c := chanOf s ch
  let mine := (c.espi.filter fun q => c.refetchWait.contains q.tag && q.leaves.contains (e, l)).map (·.tag)
  if ok then
    let espi := c.espi.map fun (q : EspiReq) => { q with leaves := q.leaves.filter (· ≠ (e, l)) }
    s.setChan ch { c with
      espi, refetchWait := c.refetchWait.filter fun t => (espi.find? (·.tag = t)).any fun q => !q.leaves.isEmpty }
  else
    let s := s.setChan ch { c with
      refetchWait := c.refetchWait.filter fun t => !mine.contains t
      ready := c.ready ++ mine
      espi := c.espi.map fun q => if mine.contains q.tag then { q with state := 2, data := [], leaves := [] } else q }
    s.each mine fun s _ => (s.raise (CH_PORT_EVT_POISON ch)).bump (CH_POISON_LO ch) (CH_POISON_HI ch) (CH_PORT_EVT_SAT ch) srcCHAN

/-- Writes held for the repair of leaf `l` go on: its other lines were rewritten, or no repair restores them (R153). -/
def State.leafJudged (s : State) (e l : Nat) (ok : Bool) : State :=
  let up (w : Wt) : Wt :=
    if w.stage = 0 && w.ext = e && (blocksOf w.off w.len).contains l then
      let bad := if ok then w.bad.filter fun p => p.2 / 64 ≠ l else w.bad
      if ok && (deadLines s e l w.off w.len bad).isEmpty then { w with bad := bad } else { w with gone := l :: w.gone }
    else w
  ({ s with orang := { s.orang with wts := s.orang.wts.map up } }).releaseHeld

/-- No refetch restores leaf `l`: it is lost, with the reads and the writes that waited for it (R153, R161, R209). -/
def State.leafGone (s : State) (e l : Nat) : State := ((s.loseLeaf e l).refetchEspi e l false).leafJudged e l false

/-- Refetches that waited for a write-through's program are made again, as new arrivals, or their leaves are lost where it failed (R160). -/
def State.afterWt (s : State) (w : Wt) (ok : Bool) : State :=
  let mine (r : Refetch) : Bool := r.ext = w.ext && r.afterWt && (blocksOf w.off w.len).contains r.leaf
  let rest := s.orang.refetch.filter fun r => !mine r
  let waited := s.orang.refetch.filter mine
  if ok then { s with orang := { s.orang with refetch := rest ++ waited.map fun (r : Refetch) => { r with afterWt := false } } }
  else
    let s := { s with orang := { s.orang with refetch := rest } }
    s.each waited fun s r => s.leafGone r.ext r.leaf

end Sys2Proof.Machine
end

