-- ==== Sys2Proof/Machine/Orangery.lean ====
section
/-! DEFINITION. The Orangery: its commands (R175), refetch and lost leaves (R160, R161), re-encryption (R154), the ledger
(R166 to R169, R450) and the re-verifier (R172, R173). -/

namespace Sys2Proof.Machine

/-! ### Commands (R175) -/

def orangeryIf : CmdIf :=
  { op := ORANGERY_CMD_STAT_LAST_OP, status := ORANGERY_CMD_STAT_LAST_STATUS, result := some ORANGERY_CMD_STAT_RESULT
    done := ORANGERY_EVT_CMD_DONE }

/-- A command is running. -/
def orangeryBusy (s : State) : Bool := s.orang.cmd.isSome

/-- A refused ORANGERY command: a record, except for BUSY_RETRY, which is a delay (R13, R175). -/
def State.orangeryRefuse (s : State) (op : Nat) (c : Code) : State :=
  let s := s.cmdRefuse orangeryIf op c
  if c = .busyRetry then s else s.journal 3 175 srcORANGERY noUnit c

def arg0 (s : State) : Nat := rf s ORANGERY_CMD_ARG0_ARG
def arg1 (s : State) : Nat := rf s ORANGERY_CMD_ARG1_ARG
def arg2 (s : State) : Nat := rf s ORANGERY_CMD_ARG2_ARG

def stageAllocCode (s : State) : Option Code :=
  firstCode [(arg0 s = 0 || stagingMiB s < arg0 s, .malformed), (lockdown s || !epochsLeft s 1, .refusedState),
    ((freeHandle s).isNone || freeMiB s < arg0 s, .refusedQuota), (delayed s orangeryIf 1 (orangeryBusy s), .busyRetry)]

/-- ORANGERY STAGE_ALLOC (R170, R171, R175); an exhausted epoch allocator enters its own record (R151). -/
def execStageAlloc (s : State) : Host.Outcome State Fault Refusal :=
  .next (match stageAllocCode s with
    | some c => s.orangeryRefuse 1 c
    | none =>
      match s.stageAlloc (arg0 s) none with
      | some (h, s) => s.cmdEnd orangeryIf 1 .ok h
      | none => s.orangeryRefuse 1 .refusedQuota)

/-- The span ARG0, ARG2 lies inside the object and is aligned. -/
def spanOk (s : State) (o : StageObj) (align : Nat) : Bool :=
  arg0 s % align = 0 && arg2 s % align = 0 && align ≤ arg2 s && arg0 s + arg2 s ≤ o.mib * 1048576

def stageWriteCode (s : State) (handle : Nat) : Option Code :=
  let bad := match stageOf s handle with
    | some o => o.capsule.isSome || !spanOk s o 64 || 65536 < arg2 s || !inTcm (arg1 s) (arg2 s)
    | none => true
  firstCode [(bad, .malformed), (lockdown s, .refusedState), (delayed s orangeryIf 2 (orangeryBusy s), .busyRetry)]

def State.startCmd (s : State) (c : OCmd) : State :=
  ({ s with orang := { s.orang with cmd := some c } }).raise ORANGERY_STAT_CMD_BUSY

/-- ORANGERY STAGE_WRITE: the span is copied from TCM, but for a poisoned source; the command runs until its end is seen (R175, R276). -/
def execStageWrite (handle : Nat) (s : State) : Host.Outcome State Fault Refusal :=
  .next (match stageWriteCode s handle, stageOf s handle with
    | some c, _ => s.orangeryRefuse 2 c
    | none, some o =>
      if tcmPoisoned s (arg1 s) (arg2 s) then s.startCmd ⟨2, handle, arg0 s, arg2 s, false, true⟩
      else
        (s.setStage handle (some (o.write (arg0 s) (tcmRead s (arg1 s) (arg2 s))))).startCmd
          ⟨2, handle, arg0 s, arg2 s, false, false⟩
    | none, none => s)

def stageHashCode (s : State) (handle : Nat) : Option Code :=
  let bad := match stageOf s handle with
    | some o => !spanOk s o 4096
    | none => true
  firstCode [(bad, .malformed), (delayed s orangeryIf 3 (orangeryBusy s), .busyRetry)]

/-- ORANGERY STAGE_HASH: runs until its end is seen (R175). -/
def execStageHash (handle : Nat) (s : State) : Host.Outcome State Fault Refusal :=
  .next (match stageHashCode s handle with
    | some c => s.orangeryRefuse 3 c
    | none => s.startCmd ⟨3, handle, arg0 s, arg2 s, false, match stageOf s handle with | some o => o.poisoned | none => false⟩)

/-- A capsule frame of the channel lies between ACT and its completion point (R233). -/
def capsuleRuns (s : State) (ch : Nat) : Bool := (chanOf s ch).ops.any fun o => o.cap && !o.compDone

def stageFreeCode (s : State) (handle : Nat) : Option Code :=
  let o := stageOf s handle
  let inUse := (match s.orang.cmd with | some c => c.handle = handle | none => false)
    || match o with
      | some x => match x.capsule with | some ch => capsuleRuns s ch | none => false
      | none => false
  firstCode [(o.isNone, .malformed), (inUse, .refusedState), (delayed s orangeryIf 4 (orangeryBusy s), .busyRetry)]

/-- A staging object is freed; a capsule leaves its channel (R170, R233). -/
def State.stageFree (s : State) (h : Nat) : State :=
  let s := match stageOf s h with
    | some o => match o.capsule with
      | some ch => (s.setReg (CH_TR_CAP ch) (resetWord (CH_TR_CAP ch))).modChan ch fun c => { c with capBlocks := [] }
      | none => s
    | none => s
  s.setStage h none

/-- ORANGERY STAGE_FREE (R175). -/
def execStageFree (handle : Nat) (s : State) : Host.Outcome State Fault Refusal :=
  .next (match stageFreeCode s handle with
    | some c => s.orangeryRefuse 4 c
    | none => (s.stageFree handle).cmdEnd orangeryIf 4 .ok)

/-- REVOKE takes one epoch per extent, or none once the allocator is exhausted, frees what the extents held and puts the
manifest out of force (R151, R175). -/
def State.revokeDom (s : State) (d : Nat) : State :=
  let s := s.each (domExts s d) fun s _ => if epochsLeft s 1 then (s.newEpoch).2 else s
  let lost := s.orang.lost.filter fun (e, _) => extDom e ≠ d
  let s := ({ s with orang := { s.orang with lost } }).setF ORANGERY_LOST_STAT_ENTRIES lost.length
  s.dropManifest d

def revokeCode (s : State) (d : Nat) : Option Code :=
  let st := domState s d
  firstCode [(!domExists s d, .malformed), (rf s ORANGERY_CMD_GEN_GEN ≠ domGen s d, .stale),
    (!(st = stHELD || st = stPARKED || st = stQUARANTINED), .refusedState), (delayed s orangeryIf 5 (orangeryBusy s), .busyRetry)]

/-- ORANGERY REVOKE (R175). -/
def execRevoke (dom : Nat) (s : State) : Host.Outcome State Fault Refusal :=
  .next (match revokeCode s dom with
    | some c => s.orangeryRefuse 5 c
    | none => (s.revokeDom dom).cmdEnd orangeryIf 5 .ok)

/-- ORANGERY ABORT: accepted while STAGE_WRITE or STAGE_HASH runs; that command's own end follows (R175, R420). -/
def execOrangeryAbort (s : State) : Host.Outcome State Fault Refusal :=
  .next (match s.orang.cmd with
    | some c =>
      if c.aborted then s.orangeryRefuse 14 .refusedState
      else ({ s with orang := { s.orang with cmd := some { c with aborted := true } } }).cmdEnd orangeryIf 14 .ok
    | none => s.orangeryRefuse 14 .refusedState)

/-- A running command ends with a code; an aborted STAGE_WRITE leaves its span at zeros (R175). -/
def State.orangeryEnd (s : State) (c : OCmd) (code : Code) : State :=
  let s := ({ s with orang := { s.orang with cmd := none } }).setF ORANGERY_STAT_CMD_BUSY 0
  let s := match stageOf s c.handle with
    | some o =>
      if code ≠ Code.ok then
        if c.op = 2 && code ≠ Code.poisoned then s.setStage c.handle (some (o.write c.off (List.replicate c.len 0))) else s
      else if c.op = 3 then s.setDigest ORANGERY_DIGEST (regionRoot (stageBytes o c.off c.len)) else s
    | none => s
  s.cmdEnd orangeryIf c.op code

/-! ### Refetch (R160, R161) -/

/-- A leaf read for a check, with the second read that R134 makes of it where the first does not match. -/
def leafPick (want : List (List Byte)) (data again : List Byte) : Option (List Byte) :=
  if want.contains (leafHash data) then some data else if want.contains (leafHash again) then some again else none

/-- The check of a leaf read can be made: it matched, or its second read is there (R134). -/
def leafRead (want : List (List Byte)) (data again : List Byte) : Bool := want.contains (leafHash data) || !again.isEmpty

/-- A leaf's second read is counted and, where it matched, recorded (R134). -/
def State.rereadDone (s : State) (want : List (List Byte)) (d : Nat) (data again : List Byte) : State :=
  if want.contains (leafHash data) then s
  else if want.contains (leafHash again) then s.rereadOk d 0xFFFF
  else s.raise LOADER_EVT_READ_RETRY

/-- The refetch of leaf `l` leaves the list; the granules that waited for it are refilled (R157). -/
def State.refetched (s : State) (e l : Nat) (refill : Bool) : State :=
  let mine (r : Refetch) : Bool := r.ext = e && r.leaf = l
  let hot := (s.orang.refetch.filter mine).flatMap (·.hot)
  let s := { s with orang := { s.orang with refetch := s.orang.refetch.filter fun r => !mine r } }
  if refill then s.each hot fun s x => s.bump (PLANE_HOTFIX_LO x) (PLANE_HOTFIX_HI x) ORANGERY_EVT_SAT (srcPlane x) else s

/-- A write-through of the leaf is under way. -/
def wtOpen (s : State) (e l : Nat) : Bool := s.orang.wts.any fun w => w.ext = e && w.stage ≠ 0 && (blocksOf w.off w.len).contains l

/-- One refetched leaf is judged: rewritten on a match with NEW or the level-0 entry, fetched again after the open program on a
match with OLD, lost where that program has failed, nothing matched after the retry of R134, or no lane is left to make the check (R418); writes that waited for its lines go on (R153,
R160, R161). -/
def State.judgeLeaf (s : State) (e l : Nat) (data again : List Byte) : State :=
  let want := if lanesOn s = 0 then [] else expectedHashes s e l
  let s := (s.raise ORANGERY_EVT_REFETCH).bump ORANGERY_REFETCH_LO ORANGERY_REFETCH_HI ORANGERY_EVT_SAT srcORANGERY
  let s := s.rereadDone want (extDom e) data again
  match leafPick want data again with
  | some b =>
    if want.head? = some (leafHash b) then (((s.writeLeaf e l b).refetched e l true).refetchEspi e l true).leafJudged e l true
    else if !wtOpen s e l then (s.refetched e l false).leafGone e l
    else { s with orang := { s.orang with refetch := s.orang.refetch.map fun r =>
        if r.ext = e && r.leaf = l then { r with afterWt := true } else r } }
  | none => (s.refetched e l false).leafGone e l

/-! ### Service order (R252, R253) -/

/-- The F-bus of a device. -/
def busOfDev (s : State) (d : Nat) : Nat := match s.fbus.map.devs[d]? with | some e => e.bus | none => 0xFF

/-- A manifest read waits on bus `b`, which goes ahead of data reads there (R128). -/
def manWaits (s : State) (b : Nat) : Bool :=
  rb s FBUS_STAT_DISC_DONE && (manQueue s).any fun d => manBus s d = b && manTurn s d

/-- The first refetch in order of arrival that bus `b` can serve (R252). -/
def nextRefetch (s : State) (b : Nat) : Option Refetch :=
  s.orang.refetch.find? fun r =>
    let dev := devOfPart s (extOf s r.ext).srcPart
    !r.afterWt && busOfDev s dev = b && devReadable s dev

/-- A recovery job has a burst for bus `b`, on two idle devices. -/
def recWaits (s : State) (b : Nat) : Bool :=
  s.fbus.recs.any fun p => match p.2 with
    | some rc => rc.code = 0 && rc.ranges.head?.any fun g =>
        let d := devOfPart s g.srcPart
        let n := devOfPart s g.nurPart
        (busOfDev s d = b || busOfDev s n = b) && devIdle s d && devIdle s n
    | none => false

/-- Traffic of a class above `cls` waits on bus `b` and could be served now: a refetch of a readable device, a ledger entry for an idle one, a
load or a recovery burst (R252). Re-verification and trim checks, which come at their own rate, make no class 5 burst wait. -/
def higherWaits (s : State) (b cls : Nat) : Bool :=
  (1 < cls && (nextRefetch s b).isSome)
    || (2 < cls && (nextAppend s).isSome && (ledger s = 2 || ledger s = 3 || ledger s = 4) && busOfDev s (ledgerDev s) = b
        && devIdle s (ledgerDev s))
    || (3 < cls && (recWaits s b || (lanesOn s ≠ 0 && s.ldr.cur.any fun q => q.1 = b && ledger s ≠ 1)))

/-- A burst of class `cls` may be served on bus `b`: no higher class waits, or it is the burst that was in progress when one came. -/
def busServes (s : State) (b cls : Nat) : Bool := !higherWaits s b cls || !s.fbus.passed.contains b

/-- A burst of class `cls` has been served on bus `b`. -/
def State.busServed (s : State) (b cls : Nat) : State :=
  { s with fbus := { s.fbus with
    passed := if higherWaits s b cls || manWaits s b then (s.fbus.passed ++ [b]).eraseDups else s.fbus.passed.filter (· ≠ b) } }

/-- The source device of an extent can be read for a refetch. -/
def extReadable (s : State) (e : Nat) : Bool := devReadable s (devOfPart s (extOf s e).srcPart)

/-- A refetched leaf has arrived and is hashed, with its second read where it did not match (R134, R160); a bus serves refetches in order of
arrival (R252). -/
def execRefetchDone (dom region leaf : Nat) (data reread : List Byte) (s : State) : Host.Outcome State Fault Refusal :=
  let e := extIx dom region
  let b := busOfDev s (devOfPart s (extOf s e).srcPart)
  .next (if ((nextRefetch s b).any fun r => r.ext = e && r.leaf = leaf) && (lanesOn s = 0 || leafRead (expectedHashes s e leaf) data reread) then
      (s.judgeLeaf e leaf data reread).busServed b 1
    else s)

/-- With the lost-leaf table full, a failing leaf outside it is refetched again, with a record each time (R161). -/
def execLostLeafRefetch (dom region leaf : Nat) (data reread : List Byte) (s : State) :
    Host.Outcome State Fault Refusal :=
  let e := extIx dom region
  .next (if s.orang.lost.length = 256 && !s.orang.lost.contains (e, leaf) && (extOf s e).valid
        && 4096 * leaf < (extOf s e).len && extReadable s e && (lanesOn s = 0 || leafRead (expectedHashes s e leaf) data reread) then
      s.judgeLeaf e leaf data reread
    else s)

/-! ### Re-encryption (R154) -/

/-- The re-encryption at the head of the queue starts with a new epoch, or is refused with a record (R151, R154). -/
def execRekeyStart (s : State) : Host.Outcome State Fault Refusal :=
  .next (match s.orang.rekeyQ with
    | e :: t =>
      if rb s ORANGERY_STAT_REKEY_ACTIVE || lockdown s then s
      else
        let s := { s with orang := { s.orang with rekeyQ := t } }
        if !epochsLeft s 1 then s.journalDom 3 151 srcORANGERY (extDom e) Code.refusedState.val
        else
          let x := extOf s e
          let (ep, s) := s.newEpoch
          let s := s.setExt e { x with epoch := ep, prev := x.epoch }
          let s := ((s.raise ORANGERY_STAT_REKEY_ACTIVE).setF ORANGERY_REKEY_STAT_EXTENT e).setF ORANGERY_REKEY_STAT_BLOCK 0
          (s.raise ORANGERY_EVT_REKEY_START).journalDom 3 154 srcORANGERY (extDom e) 0 [BitVec.ofNat 8 (extRegion e)]
    | [] => s)

/-- The extent being re-encrypted. -/
def rekeyExt (s : State) : Nat := rf s ORANGERY_REKEY_STAT_EXTENT

/-- The walk passes one block: its lines that check under the old epoch take the new one with counter 0, and writes held on it
are released (R154). -/
def execRekeyBlockPassed (s : State) : Host.Outcome State Fault Refusal :=
  .next (if rb s ORANGERY_STAT_REKEY_ACTIVE then
      let e := rekeyExt s
      let x := extOf s e
      let b := rf s ORANGERY_REKEY_STAT_BLOCK
      if b < x.len / 4096 then
        let keep (p : Nat) := (List.range 64).filter fun i => lineFresh s p e (4096 * b + 64 * i)
        let line := (x.base + 4096 * b) / 64
        let tag (m : PlaneMem) (p : Nat) := (keep p).foldl (fun m i => m.tagLines (line + i) 1 ⟨x.epoch, 0⟩) m
        let s := (if takesWrites s 0 then s.setPlane 0 (tag (planeOf s 0) 0) else s)
        let s := (if takesWrites s 1 then s.setPlane 1 (tag (planeOf s 1) 1) else s)
        let s := s.setCtrSlot (x.ctrBase + b) 0
        let s := match ltabOf s (x.ctrBase + b) with | some y => s.setLtab (x.ctrBase + b) (some { y with ctr := 0 }) | none => s
        (s.setF ORANGERY_REKEY_STAT_BLOCK (b + 1)).releaseHeld
      else s
    else s)

/-- The walk has passed the region's last block: the re-encryption ends with a record (R154). -/
def execRekeyDone (s : State) : Host.Outcome State Fault Refusal :=
  .next (if rb s ORANGERY_STAT_REKEY_ACTIVE then
      let e := rekeyExt s
      let x := extOf s e
      if x.len / 4096 ≤ rf s ORANGERY_REKEY_STAT_BLOCK then
        let s := (s.setExt e { x with prev := 0 }).setF ORANGERY_STAT_REKEY_ACTIVE 0
        (s.raise ORANGERY_EVT_REKEY_DONE).journalDom 3 154 srcORANGERY (extDom e) 0 [BitVec.ofNat 8 (extRegion e)]
      else s
    else s)

/-! ### The ledger's writes (R166, R168, R450) -/

/-- The WRITE entry of the oldest waiting write-through is programmed and read back, with the values that its step 3 gave it, also where
the manifest has gone out of force since (R206); with the last entry of its frame, the frame's physical operations are released (R166, R254). -/
def State.writeEntryOk (s : State) : State :=
  match nextAppend s with
  | none => s
  | some w =>
    let seq := ledgerSeq s
    let s := match w.ents.find? (·.leaf = w.todo.headD 0) with
      | some y =>
        let up (z : LEnt) : Option LEnt := some (if z.mroot = y.mroot && z.new = y.new then { z with seq } else z)
        (s.modEntry y.dom y.region y.leaf up).ledgerWrote (leafEntry (klKey s) s.orang.ledPrev seq 1 y)
      | none => s
    let s := s.seqNext.modWt w.id fun y => { y with todo := w.todo.drop 1, held := false }
    let fr := frameOf s w
    let s := if fr.all fun v => v.stage = 1 && v.todo.isEmpty then
        s.each fr fun s v => (s.modWt v.id fun y => { y with stage := 2 }).queuePhys v
      else s
    s.switchStart.ledgerCheck

/-- The ledger-table entry of leaf `l` returns to what it was before write-through `w`, in its slot or in the retained area; a later
write-through of the leaf then replaces that, and its own WRITE entry carries the OLD so found (R450). -/
def State.undoEntry (s : State) (w : Wt) (l : Nat) : State :=
  let d := extDom w.ext
  let r := extRegion w.ext
  let old := ((w.undo.find? (·.1 = l)).map (·.2)).getD none
  let root := ((w.ents.find? (·.leaf = l)).map (·.mroot)).getD []
  match s.orang.wts.find? fun v => v.frame ≠ w.frame && v.ext = w.ext && v.todo.contains l with
  | some v =>
    let prev := match old with | some y => y.new | none => level0 s w.ext l
    (s.modEntry d r l fun z => some { z with old := prev }).modWt v.id fun y =>
      { y with
        undo := y.undo.map fun p => if p.1 = l then (l, old) else p
        ents := y.ents.map fun z => if z.leaf = l then { z with old := prev } else z }
  | none => s.modEntry d r l fun z => if z.mroot = root then old else some z

/-- The WRITE entry failed: no physical operation starts, the ledger-table entries that are not on flash return to what they were, refetches
that waited for the program find it failed, the frame fails at the port, DIVERGED and FBUS_WT_FAIL are set, one record (R160, R450).
DESIGN CHOICE (log entry 154): an entry of the same frame that is on flash already keeps its values and its flag. -/
def State.writeEntryFail (s : State) (code : Nat) : State :=
  match nextAppend s with
  | none => s
  | some w =>
    let dev := ledgerDev s
    let addr := ledgerAddr s s.orang.ledHalf s.orang.ledPos
    let fr := frameOf s w
    let s := s.ledgerLost.each fr fun s v => (s.each v.todo fun s l => s.undoEntry v l).afterWt v false
    let s := ((s.dropFrame w).portFail w).raise (GATE_DOM_STAT_DIVERGED (extDom w.ext))
    ((s.wtFailReg (extDom w.ext) code dev (wtKind w) addr).journalDom 3 450 srcORANGERY (extDom w.ext) code).switchStart.ledgerCheck

/-- The other half is erased and its HEAD read back: it is the active half, and the SNAPSHOT entries follow (R168). -/
def State.headOk (s : State) : State :=
  let l := ledgerEntries s
  let gen := (s.orang.ledGen + 1) % 2 ^ 32
  let half := 1 - s.orang.ledHalf
  let bs := markEntry (klKey s) noPrev (ledgerSeq s) 2 gen
  let s := { s with
    orang := { s.orang with
      ledHalf := half, ledGen := gen, ledPos := 1, ledPrev := slice bs 112 16, snap := l, snapN := l.length
      wts := s.orang.wts.map fun (w : Wt) => { w with held := false } }
    fbus := { s.fbus with writes := [⟨ledgerDev s, ledgerAddr s half 0, 128 * s.orang.ledSize, ledgerAddr s half 0, bs, []⟩] } }
  s.seqNext.setF ORANGERY_STAT_LEDGER 3

/-- The erase or the HEAD of a switch failed: it stops, with a record, to be repeated (R168). -/
def State.headFail (s : State) (code : Nat) : State :=
  (({ s with orang := { s.orang with retry := true } }).setF ORANGERY_STAT_LEDGER
    (if s.orang.wts.any (·.held) then 5 else 2)).journalD 3 168 srcORANGERY noUnit code 0 []

/-- The next SNAPSHOT entry is on flash, with the values that its leaf's entry has now (R168). -/
def State.snapOk (s : State) : State :=
  match s.orang.snap with
  | [] => s
  | y :: t =>
    let now := (entryFor s y.dom y.region y.leaf).getD y
    ((({ s with orang := { s.orang with snap := t } }).ledgerWrote (leafEntry (klKey s) s.orang.ledPrev (ledgerSeq s) 4 now)).seqNext).ledgerCheck

/-- The SNAPSHOT_END is on flash: the ledger is ready (R168). -/
def State.snapEnd (s : State) : State :=
  (((s.ledgerWrote (markEntry (klKey s) s.orang.ledPrev (ledgerSeq s) 3 s.orang.snapN)).seqNext).setF ORANGERY_STAT_LEDGER
    2).switchStart.ledgerCheck

/-- An entry of the given TYPE, 1 WRITE, 2 HEAD, 3 SNAPSHOT_END or 4 SNAPSHOT, ends. -/
def State.ledgerEnd (s : State) (typ : Nat) (ok : Bool) (code : Nat) : State :=
  let l := ledger s
  if typ = 1 then
    if (l = 2 || l = 3 || l = 4) && !ledgerFull s then (if ok then s.writeEntryOk else s.writeEntryFail code)
    else if l = 0 && !ok then s.writeEntryFail code else s
  else if typ = 2 then
    if (l = 4 || l = 5) && s.orang.snap.isEmpty && !s.orang.retry then (if ok then s.headOk else s.headFail code) else s
  else if typ = 4 then
    if l = 3 && !s.orang.snap.isEmpty && !ledgerFull s then (if ok then s.snapOk else s.ledgerLost.ledgerCheck) else s
  else if typ = 3 then
    if l = 3 && s.orang.snap.isEmpty && !ledgerFull s then (if ok then s.snapEnd else s.ledgerLost.ledgerCheck) else s
  else s

/-- An entry was programmed at the ledger and read back, or failed with a code (R165, R166, R168, R450); an access to a ledger device that
another operation occupies, or to a bus that class 1 waits for, waits (R252, R253), and an entry whose MACs of the two planes differ is not
written (R164). DESIGN CHOICE (log entry 160): it is computed again. -/
def execLedgerAppendDone (typ : Nat) (ok : Bool) (code : Nat) (differ : Bool) (s : State) : Host.Outcome State Fault Refusal :=
  let d := ledgerDev s
  let b := busOfDev s d
  .next (if (differ && serving s 0 && serving s 1) || (ok && !(devFree s d 1 && busServes s b 2)) then s
    else ((if (devX s d).other = 1 then s.otherDone d else s).ledgerEnd typ ok code).busServed b 2)

/-- A failed switch is repeated from step 1, once per second (R168). -/
def execLedgerSwitchRetry (s : State) : Host.Outcome State Fault Refusal :=
  .next (if s.orang.retry && (ledger s = 2 || ledger s = 5) then
      ({ s with orang := { s.orang with retry := false } }).setF ORANGERY_STAT_LEDGER (if ledger s = 5 then 5 else 4)
    else s)

/-! ### The replay (R169, R450) -/

/-- An entry as it reads at a position of a half; `mac` are its bytes at offset 112. -/
structure RawEnt where
  intact : Bool
  seq : Nat
  typ : Nat
  ent : LEnt
  mac : List Byte

/-- The entries of a half up to its first all-0xFF position; `prev` are the 16 bytes at offset 112 of the position before. -/
def readHalf (kl : List Byte) : Nat → List Byte → List Byte → List RawEnt
  | 0, _, _ => []
  | fuel + 1, prev, bs =>
    let b := slice bs 0 128
    if bs.isEmpty || b.all (· == 0xFF) then []
    else
      { intact := slice b 112 16 = entryMac kl (slice b 0 112) prev, seq := fieldAt b 0 4, typ := fieldAt b 4 1
        ent := { dom := fieldAt b 5 1, region := fieldAt b 6 1, leaf := fieldAt b 8 4, mroot := slice b 12 4
                 old := slice b 16 48, new := slice b 64 48, seq := fieldAt b 0 4, opn := false }
        mac := slice b 112 16 }
        :: readHalf kl fuel (slice b 112 16) (bs.drop 128)

/-- A half is used: position 0 holds a HEAD whose MAC passes. -/
def halfUsed (l : List RawEnt) : Bool := match l with | e :: _ => e.intact && e.typ = 2 | [] => false
def halfGen (l : List RawEnt) : Nat := match l with | e :: _ => e.ent.leaf | [] => 0
/-- The half holds an intact SNAPSHOT_END. -/
def halfClosed (l : List RawEnt) : Bool := l.any fun e => e.intact && e.typ = 3

/-- The newest intact WRITE or SNAPSHOT entry of each leaf. -/
def newestEntries (l : List RawEnt) : List LEnt :=
  l.foldl (fun acc e =>
    if e.intact && (e.typ = 1 || e.typ = 4) then
      let same (y : LEnt) : Bool := y.dom = e.ent.dom && y.region = e.ent.region && y.leaf = e.ent.leaf
      match acc.find? same with
      | some y => if newerSeq e.seq y.seq then acc.filter (fun z => !same z) ++ [e.ent] else acc
      | none => acc ++ [e.ent]
    else acc) []

/-- One above the newest SEQ found, modulo 2^32. -/
def seqAfter (l : List RawEnt) : Nat :=
  match (l.filter (·.intact)).foldl (fun (o : Option Nat) e =>
      match o with | none => some e.seq | some q => if newerSeq e.seq q then some e.seq else some q) none with
  | some q => (q + 1) % 2 ^ 32
  | none => 0

/-- A fresh ledger: a HEAD with generation 1 and SEQ 0 in half 0, after both halves are erased where `erase` says so (R450). -/
def State.ledgerFresh (s : State) (erase : Bool) : State :=
  let bs := markEntry (klKey s) noPrev 0 2 1
  let n := 128 * s.orang.ledSize
  let other : List FlashWrite := if erase then [⟨ledgerDev s, ledgerAddr s 1 0, n, ledgerAddr s 1 0, [], []⟩] else []
  let head : FlashWrite := ⟨ledgerDev s, ledgerAddr s 0 0, if erase then n else 0, ledgerAddr s 0 0, bs, []⟩
  let s := { s with
    orang := { s.orang with ledHalf := 0, ledGen := 1, ledPos := 1, ledPrev := slice bs 112 16 }
    fbus := { s.fbus with writes := other ++ [head] } }
  (s.setF ORANGERY_LEDGER_SEQ_SEQ 1).setF ORANGERY_STAT_LEDGER 2

/-- An interrupted switch is completed: one SNAPSHOT per entry, then SNAPSHOT_END, at the next positions (R450). -/
def State.ledgerFinish (s : State) (ents : List LEnt) : State :=
  let s := s.each ents fun s y => s.ledgerAlso (leafEntry (klKey s) s.orang.ledPrev (ledgerSeq s) 4 y)
  s.ledgerAlso (markEntry (klKey s) s.orang.ledPrev (ledgerSeq s) 3 ents.length)

/-- The entries that a replay reads, oldest half first: of both used halves, or of the newer one alone once it holds a SNAPSHOT_END (R169). -/
def ledgerUsed (kl : List Byte) (size : Nat) (h0 h1 : List Byte) : List RawEnt :=
  let l0 := readHalf kl size noPrev h0
  let l1 := readHalf kl size noPrev h1
  let newer := halfUsed l1 && (!halfUsed l0 || newerSeq (halfGen l1) (halfGen l0))
  let act := if newer then l1 else l0
  let oth := if newer then l0 else l1
  if !halfUsed act then [] else if halfUsed oth && !halfClosed act then oth ++ act else act

/-- The replay's outcome on the bytes of the two halves (R450). -/
def State.ledgerReplay (s : State) (h0 h1 : List Byte) : State :=
  let kl := klKey s
  let l0 := readHalf kl s.orang.ledSize noPrev h0
  let l1 := readHalf kl s.orang.ledSize noPrev h1
  let u0 := halfUsed l0
  let u1 := halfUsed l1
  if !u0 && !u1 then
    if (h0 ++ h1).all (· == 0xFF) then s.ledgerFresh false
    else if s.boot.debugStart then s.setF ORANGERY_STAT_LEDGER 6
    else (s.ledgerFresh true).journal 3 450 srcORANGERY noUnit
  else
    let half := if u0 && u1 then (if newerSeq (halfGen l1) (halfGen l0) then 1 else 0) else if u0 then 0 else 1
    let act := if half = 0 then l0 else l1
    let oth := if half = 0 then l1 else l0
    let both := u0 && u1 && !halfClosed act
    let used := if both then oth ++ act else act
    let ents := newestEntries used
    let s := { s with
      orang := { s.orang with
        ledHalf := half, ledGen := halfGen act, ledPos := act.length, ledPrev := (act.getLast?.map RawEnt.mac).getD noPrev }
      fbus := { s.fbus with writes := [] } }
    let s := (s.each ents State.retain).setF ORANGERY_LEDGER_SEQ_SEQ (seqAfter used)
    let s := if both then s.ledgerFinish ents else s
    (s.setF ORANGERY_STAT_LEDGER 2).switchStart

/-- The replay of the ledger, over a bus that is not suspended (R57), ends (R169, R450): entries of domains accepted meanwhile are adopted,
write-throughs go on. -/
def execLedgerReplayDone (h0 h1 : List Byte) (s : State) : Host.Outcome State Fault Refusal :=
  .next (if ledger s = 1 && devLive s (ledgerDev s) then
      let s := s.ledgerReplay h0 h1
      let s := s.each (s.ldr.force.map (·.1)) State.adoptEntries
      if ledger s = 6 then s
      else ({ s with orang := { s.orang with wts := s.orang.wts.map fun (w : Wt) => { w with held := false } } }).ledgerCheck
    else s)

/-! ### The re-verifier (R172, R173) -/

/-- The regions of a domain's manifest in force. -/
def forceRegions (s : State) (d : Nat) : List Region :=
  match s.ldr.force.find? (·.1 = d) with | some (_, m) => m.regions | none => []

/-- The first position at or after (d, r, l) in the sweep's order: RELEASED domains ascending, regions in descriptor order,
leaves ascending. -/
def rvFrom (s : State) (d r l : Nat) : Option (Nat × Nat × Nat) :=
  let here := if released s d then
      (List.range (forceRegions s d).length).findSome? fun q =>
        if q < r then none
        else
          let lo := if q = r then l else 0
          match (forceRegions s d)[q]? with
          | some g => if lo < g.leaves then some (d, q, lo) else none
          | none => none
    else none
  match here with
  | some p => some p
  | none => (List.range 48).findSome? fun e =>
      if d < e && released s e && !(forceRegions s e).isEmpty then some (e, 0, 0) else none

/-- The position the re-verifier is at. -/
def rvAt (s : State) : Option (Nat × Nat × Nat) :=
  let (d, r, l) := s.orang.rvNext.getD (0, 0, 0)
  match rvFrom s d r l with
  | some p => some p
  | none => rvFrom s 0 0 0

/-- The re-verifier moves on; past the last leaf of the sweep it sets RV_SWEEP and the sweep's length (R172). -/
def State.rvAdvance (s : State) (d r l : Nat) : State :=
  match rvFrom s d r (l + 1) with
  | some p => { s with orang := { s.orang with rvNext := some p } }
  | none =>
    let sec := min ((s.usec - s.orang.rvStart) / 1000000) 0xFFFF
    let s := { s with orang := { s.orang with rvNext := rvFrom s 0 0 0, rvStart := s.usec } }
    (s.setF ORANGERY_RV_STAT_LAST_SWEEP_S sec).raise ORANGERY_EVT_RV_SWEEP

/-- The re-verifier is enabled: its first sweep begins (R172). DESIGN CHOICE (log entry 154): at the first leaf. -/
def State.rvEnable (s : State) (was : Bool) : State :=
  if rb s ORANGERY_RV_CTRL_EN && !was then { s with orang := { s.orang with rvNext := none, rvStart := s.usec } } else s

/-- The leaf as plane `x` holds it in its DRAM shadow. -/
def shadowLeaf (s : State) (x e l : Nat) : List Byte :=
  (List.range 4096).map fun i => Sparse.get dramFill (planeOf s x).mem ((extOf s e).base + 4096 * l + i)

/-- A SERVING plane's lines of a leaf fail their check, or its plaintext does not hash to what is expected, held or as observed (R173). -/
def shadowBad (s : State) (x e l : Nat) (seen : Bool) : Bool :=
  serving s x && (seen || (List.range 64).any (fun i => !lineFresh s x e (4096 * l + 64 * i))
    || !(expectedHashes s e l).contains (leafHash (shadowLeaf s x e l)))

/-- The plane repairs a leaf that the other plane holds right, with the other plane's bytes: one MAC failure, since the repair counts as one,
and the leaf's 64 lines in PLANEx_MIRROR, which counts lines (R159, R173). -/
def State.mirrorLeaf (s : State) (x e l : Nat) : State :=
  let a := (extOf s e).base + 4096 * l
  let t := freshTag s e l
  let b := shadowLeaf s (1 - x) e l
  let s := s.setPlane x (((planeOf s x).putBytes a b (s.orang.grans.contains (a / 4096))).tagLines (a / 64) 64 t)
  (s.countMac x).bumpN (PLANE_MIRROR_LO x) (PLANE_MIRROR_HI x) ORANGERY_EVT_SAT (srcPlane x) 64

/-- The shadow pass over one leaf: repaired from the other plane, or refetched where none matches, each repair counted as a MAC failure of
its plane (R173). -/
def State.rvShadow (s : State) (e l : Nat) (badA badB : Bool) : State :=
  let a := shadowBad s 0 e l badA
  let b := shadowBad s 1 e l badB
  if a && serving s 1 && !b then s.mirrorLeaf 0 e l
  else if b && serving s 0 && !a then s.mirrorLeaf 1 e l
  else if a || b then ((s.when a (·.countMac 0)).when b (·.countMac 1)).needRefetch e l
  else s

/-- The re-verifier's leaf matches, or DIVERGED is set with the failure in LOADER_DOMn_FAIL and a record (R99, R172). -/
def State.rvJudge (s : State) (dom region leaf : Nat) (data reread : List Byte) : State :=
  let want := expectedHashes s (extIx dom region) leaf
  let s := s.rereadDone want dom data reread
  if (leafPick want data reread).isSome then s
  else
    let s := (((s.setF (LOADER_DOM_FAIL_CODE dom) Code.verifyFail.val).setF (LOADER_DOM_FAIL_REGION dom) region).setF
      (LOADER_DOM_FAIL_NODE dom) 0).setF (LOADER_DOM_FAIL_INDEX dom) leaf
    ((s.raise (GATE_DOM_STAT_DIVERGED dom)).raise ORANGERY_EVT_RV_MISMATCH).journalDom 3 99 srcORANGERY dom
      Code.verifyFail.val (BitVec.ofNat 8 region :: leBytes 4 leaf)

/-- The re-verifier reads, hashes and compares one leaf (R172), and, under SHADOW_EN, both shadows (R173); a leaf with an open
write-through is skipped, and background work waits for the bus and the device (R252, R253); with RATE 0 nothing is read (R174). `badA` and `badB` say that a plane's plaintext
was seen not to match. -/
def execRvLeaf (dom region leaf : Nat) (data reread : List Byte) (badA badB : Bool) (s : State) :
    Host.Outcome State Fault Refusal :=
  let e := extIx dom region
  let dev := devOfPart s (extOf s e).srcPart
  .next (if rb s ORANGERY_RV_CTRL_EN && rf s ORANGERY_RV_CTRL_RATE ≠ 0 && rvAt s = some (dom, region, leaf) && lanesOn s ≠ 0 then
      if s.orang.wts.any fun w => w.ext = e && (blocksOf w.off w.len).contains leaf then s.rvAdvance dom region leaf
      else if !devIdle s dev || !busServes s (busOfDev s dev) 4 || !leafRead (expectedHashes s e leaf) data reread then s
      else
        let s := (s.busServed (busOfDev s dev) 4).rvJudge dom region leaf data reread
        let s := if rb s ORANGERY_RV_CTRL_SHADOW_EN then s.rvShadow e leaf badA badB else s
        s.rvAdvance dom region leaf
    else s)

end Sys2Proof.Machine
end

