-- ==== Sys2Proof/Machine/Loader.lean ====
section
/-! DEFINITION. The load engine: manifests (R126 to R129), bursts (R130 to R134), REVERIFY jobs (R141) and LOADER commands
(R142). -/

namespace Sys2Proof.Machine

/-- The ranges of the regions whose partitions exist lie inside them (R120). -/
def rangesInside (s : State) (m : Manifest) : Bool :=
  m.regions.all (regionInParts fun p => some ((s.fbus.map.partLen p).getD (2 ^ 40)))

/-- Check 1 of R126 on the bytes read from MANIFEST_OFF. -/
def check1 (s : State) (c : Dom) (bytes : List Byte) : Option Manifest :=
  let len := (s.fbus.map.partLen c.manPart).getD 0
  if c.manOff + 64 ≤ len then
    match parseManifest bytes with
    | some m => if c.manOff + m.totalLen ≤ len && rangesInside s m then some m else none
    | none => none
  else none

/-- The attempts under key `k` are forgotten, or counted as `n`. -/
def State.clearTries (s : State) (k : Nat) : State :=
  { s with ldr := { s.ldr with tries := s.ldr.tries.filter fun p => p.1 ≠ k } }
def State.setTries (s : State) (k n : Nat) : State :=
  let s := s.clearTries k
  { s with ldr := { s.ldr with tries := s.ldr.tries ++ [(k, n)] } }

/-- Attempts failed so far under key `k`. -/
def triesOf (s : State) (k : Nat) : Nat := ((s.ldr.tries.find? (·.1 = k)).map (·.2)).getD 0

/-- The engine has read a domain's manifest and checks its structure (R126, R128). A manifest is read once discovery is done, in load
order on its bus, while it is among the eight that the engine has in hand. -/
def execManifestReadDone (dom : Nat) (bytes : List Byte) (s : State) : Host.Outcome State Fault Refusal :=
  .next (match loadOf s dom, domCfg s dom with
    | some l, some c =>
      if l.phase ≠ 0 || l.reverify || !manTurn s dom || !rb s FBUS_STAT_DISC_DONE || lanesOn s = 0
          || !fbLive s (manBus s dom) || (partReason s c.manPart = 0 && !(devIdle s (devOfPart s c.manPart) && busServes s (manBus s dom) 3))
      then s
      else if partReason s c.manPart ≠ 0 then (s.verifyFail dom 1 0 false 0 Code.timeout.val).settle
      else
        match check1 s c bytes with
        | some m =>
          ((s.clearTries (32 + dom)).setLoad dom { l with man := some m, phase := 1, raw := bytes.take m.totalLen }).refill
        | none => (s.verifyFail dom 1 0 false 0 Code.malformed.val).settle
    | _, _ => s)

/-- The TCM address of the manifest buffer. -/
def manBuf (s : State) : Nat := 65536 * rf s LOADER_MAN_BUF_ADDR

/-- The buffer lies inside TCM and outside the execute-only range (R143). -/
def manBufOk (s : State) : Bool := inTcm (manBuf s) 65536 && tcmBase + xoLen s ≤ manBuf s

/-- A manifest is written to the TCM buffer with its digests, and MAN_READY is raised (R127, R128). -/
def State.deliverManifest (s : State) (d : Nat) (l : Load) (m : Manifest) : State :=
  let s := s.tcmWrite (manBuf s) l.raw
  let s := (s.setF LOADER_MAN_INFO_DOM d).setF LOADER_MAN_INFO_LEN m.totalLen
  let s := (s.setDigest LOADER_DIGEST m.digest).setDigest LOADER_KEYDIG m.keyDigest
  ({ s with ldr := { s.ldr with buf := some d } }).refill.raise LOADER_EVT_MAN_READY

/-- The first manifest in load order is delivered, once read, when the buffer is free; a delivery to an invalid buffer is withheld, with
one record in each start (R128, R143). -/
def execManReady (s : State) : Host.Outcome State Fault Refusal :=
  .next (match s.ldr.buf, (manQueue s).head? with
    | none, some d =>
      if !(undecided s).contains d then s
      else if !manBufOk s then
        if s.ldr.withheld then s
        else ({ s with ldr := { s.ldr with withheld := true } }).journalDom 6 143 srcLOADER d 0
      else
        match loadOf s d with
        | some l => match l.man with | some m => s.deliverManifest d l m | none => s
        | none => s
    | _, _ => s)

/-! ### Commands (R142) -/

def opACCEPT : Nat := 1
def opREJECT : Nat := 2
def opREVERIFY : Nat := 3
def opABORT : Nat := 14

/-- The outcome of a LOADER command; a refusal enters one record, but for a DOM that names no configured domain. -/
def State.loaderEnd (s : State) (op d : Nat) (c : Code) : State :=
  let s := (((s.setF LOADER_CMD_STAT_LAST_DOM d).setF LOADER_CMD_STAT_LAST_OP op).setF LOADER_CMD_STAT_LAST_STATUS
    c.val).raise LOADER_EVT_CMD_DONE
  if c = .ok || c = .aborted || !domExists s d then s else s.journalDom 2 142 srcLOADER d c.val

/-- The decision on a LOADER command: MALFORMED, STALE, then the command's own condition (R12, R142). -/
def loaderCode (s : State) (d : Nat) (malformed ok : Bool) : Option Code :=
  firstCode [(!domExists s d || malformed, .malformed), (rf s LOADER_CMD_GEN_GEN ≠ domGen s d, .stale), (!ok, .refusedState)]

/-- The domain's manifest is in the buffer and the domain is VERIFYING. -/
def manDecidable (s : State) (d : Nat) : Bool := s.ldr.buf = some d && domState s d = stVERIFYING

/-- The buffer is freed by a decision. -/
def State.freeBuf (s : State) : State :=
  (({ s with ldr := { s.ldr with buf := none } }).setReg LOADER_MAN_INFO 0).refill

/-- The accepted manifest passes check 7 and its extents are created, or check 7 fails (R126, R142). -/
def State.acceptDom (s : State) (d : Nat) : State :=
  match loadOf s d with
  | some l =>
    match l.man with
    | some m =>
      let s := s.freeBuf
      match check7 s d m with
      | some c => (s.verifyFail d 7 0 false 0 c.val).settle
      | none =>
        let s := s.acceptMan d m
        ((s.setLoad d { l with phase := 2, admitted := m.regions.map fun _ => 0 }).showProg d).refill
    | none => s
  | none => s

/-- LOADER ACCEPT (R142). -/
def execAccept (dom : Nat) (s : State) : Host.Outcome State Fault Refusal :=
  .next (match loaderCode s dom false (manDecidable s dom) with
    | some c => s.loaderEnd opACCEPT dom c
    | none => (s.acceptDom dom).loaderEnd opACCEPT dom .ok)

/-- The check of R126 that a REJECT code stands for: 4 for the key codes, 5 for VERIFY_FAIL, else 2 or 3. -/
def rejectCheck (code : Nat) : Nat :=
  if code = 0x08 || code = 0x09 || code = 0x0A then 4 else if code = 0x0B then 5 else if code = 0x0F then 2 else 3

/-- LOADER REJECT (R142). -/
def execReject (dom code : Nat) (s : State) : Host.Outcome State Fault Refusal :=
  .next (match loaderCode s dom (!([0x03, 0x08, 0x09, 0x0A, 0x0B, 0x0F].contains code)) (manDecidable s dom) with
    | some c => s.loaderEnd opREJECT dom c
    | none => ((s.freeBuf.verifyFail dom (rejectCheck code) 0 false 0 code).settle).loaderEnd opREJECT dom .ok)

/-- LOADER REVERIFY: a job that reads every region of the manifest in force (R141, R142). -/
def execReverify (dom : Nat) (s : State) : Host.Outcome State Fault Refusal :=
  .next (match loaderCode s dom false (released s dom && !hasJob s dom && modeServe s) with
    | some c => s.loaderEnd opREVERIFY dom c
    | none =>
      let man := (s.ldr.force.find? (·.1 = dom)).map (·.2)
      let n := match man with | some m => m.regions.length | none => 0
      let s := { s with ldr := { s.ldr with order := s.ldr.order.filter (· ≠ dom) ++ [dom] } }
      let s := s.setLoad dom { man, phase := 2, admitted := List.replicate n 0, raw := [], reverify := true, aborted := false }
      (((s.refill).modDomX dom fun x => { x with job := jobREVERIFY }).settle).loaderEnd opREVERIFY dom .ok)

/-- The domain has a REVERIFY job. -/
def reverifying (s : State) (d : Nat) : Bool :=
  match loadOf s d with | some l => l.reverify && !l.aborted | none => false

/-- LOADER ABORT: accepted while a REVERIFY job runs; the job's own end follows (R142, R420). -/
def execLoaderAbort (dom : Nat) (s : State) : Host.Outcome State Fault Refusal :=
  .next (match loaderCode s dom false (reverifying s dom) with
    | some c => s.loaderEnd opABORT dom c
    | none => (s.modLoad dom fun l => { l with aborted := true }).loaderEnd opABORT dom .ok)

/-- Every leaf of every region has been read. -/
def allRead (l : Load) : Bool :=
  match l.man with
  | some m => (m.regions.zipIdx).all fun (r, i) => r.leaves ≤ l.admitted.getD i 0
  | none => true

/-- A REVERIFY job ends after its last region, with ABORTED after an accepted ABORT, or with INTERNAL_FAULT where no hash lane is left
(R141, R142, R418, R420). -/
def execReverifyDone (dom : Nat) (s : State) : Host.Outcome State Fault Refusal :=
  .next (match loadOf s dom with
    | some l =>
      if l.reverify && (l.aborted || allRead l || lanesOn s = 0) then
        let s := s.loadDrop dom
        (if l.aborted then s.loaderEnd opREVERIFY dom .aborted
        else if !allRead l then s.loaderEnd opREVERIFY dom .internalFault
        else s).settle
      else s
    | none => s)

/-! ### Bursts -/

/-- The burst is the one that the engine reads next in region `r` of a load (R131): a whole tree chunk of 256 entries, not yet read and at
most one ahead of the chunk that covers the next leaf; or the rest of a burst of 16 leaves from the next leaf on. -/
def burstDue (l : Load) (r leaves : Nat) (b : Burst) : Bool :=
  let next := l.admitted.getD r 0
  if b.tree then
    let size := (treeLevels leaves).getD b.level 0
    b.level + 1 < (treeLevels leaves).length && b.first % 256 = 0 && b.first < size && b.data.length = 48 * min 256 (size - b.first)
      && !l.chunks.contains (r, b.level, b.first / 256) && b.first / 256 ≤ next / 8 ^ b.level / 256 + 1
  else b.first = next && b.data.length = 4096 * min (16 - next % 16) (leaves - next)

/-- The next item of a bus that has read every leaf of its region: the region leaves it (R131). -/
def State.regionRead (s : State) (fb d r leaves : Nat) : State :=
  match loadOf s d with
  | some l =>
    if leaves ≤ l.admitted.getD r 0 then ({ s with ldr := { s.ldr with cur := s.ldr.cur.filter fun p => p.1 ≠ fb } }).refill else s
  | none => s

/-- A burst of the region in progress on its bus: its leaves or node groups are checked in order (R130, R131, R134). A
WRITABLE leaf waits for the replay of the ledger (R169), no hash is made without a lane (R418), a busy device and a bus that a
higher class or a manifest waits for carry no burst (R57, R128, R252, R253). DESIGN CHOICE (log entry 157): an uncorrectable word that the scrubber found in a
bus's read-ahead buffer counts as met in the first leaf or group of its next burst (R265, R276). DESIGN CHOICE (log entry 159): the bus of the
burst that fails shows its failure in LAST_STATUS, not the RESET_ABORT of the reads that end with the load (R98). -/
def execLoadBurstDone (b : Burst) (s : State) : Host.Outcome State Fault Refusal :=
  .next (match s.ldr.cur.find? (·.1 = b.fb) with
    | some (_, (d, r)) =>
      match loadOf s d with
      | some l =>
        match l.man.bind (·.regions[r]?) with
        | some reg =>
          if lanesOn s = 0 || l.aborted || (!b.tree && reg.writable && ledger s = 1) || !devIdle s (devOfPart s reg.srcPart)
              || (manWaits s b.fb && s.fbus.passed.contains b.fb) || !busServes s b.fb 3 || !burstDue l r reg.leaves b then s
          else
            let poison := b.poison ++ (if s.ldr.raBad.contains b.fb then [0] else [])
            let s := { s with ldr := { s.ldr with raBad := s.ldr.raBad.filter (· ≠ b.fb) } }
            let s := ((s.clearTries b.fb).busServed b.fb 3).each b.badLanes State.retireLane
            let s := if b.tree then
                s.takeTree d r b.level b.first b.data b.reread poison ((treeLevels reg.leaves).getD b.level 0) l.reverify
              else s.takeLeaves d r b.first b.data b.reread poison reg.leaves l.reverify
            match loadOf s d with
            | some _ => s.regionRead b.fb d r reg.leaves
            | none => (s.setF (LOADER_FB_STAT_LAST_STATUS b.fb) (if lanesOn s = 0 then Code.internalFault.val else Code.verifyFail.val)).refill
        | none => s
      | none => s
    | none => s)

/-- A burst of a domain on bus `fb` did not complete in time: it is retried up to three times, a fourth failure fails check 1
for a manifest or check 8 for data with TIMEOUT (R132). A job that ABORT ends has none (R142). DESIGN CHOICE (log entry 153): LOADER_DOMn_FAIL then shows NODE 0 and the next leaf,
also for a tree burst; in a REVERIFY job the timeout sets DIVERGED with TIMEOUT, and the rest of that burst of 16 leaves counts as read. -/
def execBurstTimeout (dom fb : Nat) (s : State) : Host.Outcome State Fault Refusal :=
  .next (match loadOf s dom with
    | some l =>
      let busy := s.ldr.cur.any fun q => q.1 = fb && q.2.1 = dom
      if l.aborted || (if l.phase = 2 then !busy else !manTurn s dom || fb ≠ manBus s dom) || !fbLive s fb then s
      else
        let k := if l.phase = 0 then 32 + dom else fb
        let n := triesOf s k + 1
        let late (s : State) := s.setF (LOADER_FB_STAT_LAST_STATUS fb) Code.timeout.val
        if n ≤ 3 then
          (late (s.setTries k n) |>.raise LOADER_EVT_READ_RETRY).bump LOADER_RETRY_LO LOADER_RETRY_HI LOADER_EVT_SAT srcLOADER
        else
          let s := s.clearTries k
          if l.phase = 0 then late (s.verifyFail dom 1 0 false 0 Code.timeout.val).settle
          else
            match s.ldr.cur.find? (·.1 = fb) with
            | some (_, (_, r)) =>
              let i := l.admitted.getD r 0
              let s := late (s.loadFail dom r false i Code.timeout.val l.reverify)
              if l.reverify then
                let leaves := match l.man.bind (·.regions[r]?) with | some reg => reg.leaves | none => 0
                (s.modLoad dom fun l => { l with admitted := setAt l.admitted r (i + (16 - i % 16)) }).regionRead fb dom r leaves
              else s
            | none => s
    | none => s)

end Sys2Proof.Machine
end

