-- ==== Sys2Proof/Machine/Trellis.lean ====
section
/-! DEFINITION. The Trellis commands and the swap (R213 to R216, R227, R240 to R244). -/

namespace Sys2Proof.Machine

def trellisIf (ch : Nat) : CmdIf :=
  { op := CH_TR_CMD_STAT_LAST_OP ch, status := CH_TR_CMD_STAT_LAST_STATUS ch, result := some (CH_TR_CMD_STAT_RESULT ch)
    done := CH_TR_EVT_CMD_DONE ch }

/-- A refused Trellis command: one record; a LOAD is delayed by 1 ms (R240, R244). -/
def State.trellisRefuse (s : State) (ch op : Nat) (c : Code) : State :=
  (s.cmdRefuse (trellisIf ch) op c (some 1)).journal 3 244 srcCHAN ch c

/-- PEND of a channel. -/
def pendOf (s : State) (ch : Nat) : Nat := rf s (CH_TR_STAT_PEND ch)

def trLoadCode (s : State) (ch len : Nat) : Option Code :=
  let a := rf s (CH_TR_CMD_ADDR_ADDR ch)
  firstCode [(len < 3200 || 5120 < len || a % 8 ≠ 0 || !inTcm a len, .malformed),
    (delayed s (trellisIf ch) 1 (pendOf s ch = pendLOADING || pendOf s ch = pendSWAP), .busyRetry)]

/-- A LOAD writes every word of channel `ch`'s pending bank in both planes, so that none of them holds poison (R240, R267, R271). -/
def State.tableWritten (s : State) (ch : Nat) : State :=
  let own (w : Nat) : Bool := Config.tableWord ch (1 - rf s (CH_TR_STAT_ACTIVE_BANK ch)) w
  { s with mem := { s.mem with flipBad := s.mem.flipBad.filter fun (c, _, w) => !(c = 8 && own w) } }

/-- Trellis LOAD (R240, R244): the program is copied into the pending slot and its check begins; with a swap pending it is
delayed by 1 ms. -/
def execLoad (ch len : Nat) (s : State) : Host.Outcome State Fault Refusal :=
  .next (if ch < 96 then
      match trLoadCode s ch len with
      | some c => s.trellisRefuse ch 1 c
      | none =>
        let p := tcmRead s (rf s (CH_TR_CMD_ADDR_ADDR ch)) len
        let bank := s.boot.cfg.banks.getD (bankOfChan ch) 0
        ((s.tableWritten ch).setF (CH_TR_STAT_PEND ch) pendLOADING).modChan ch fun c =>
          { c with pend := p, loadCode := progCheck p len ch bank }
    else s)

/-- Trellis LOAD completes (R240): the measurement of the program, then LOADED, or EMPTY with the check index. -/
def execLoadDone (ch : Nat) (s : State) : Host.Outcome State Fault Refusal :=
  .next (if ch < 96 && pendOf s ch = pendLOADING then
      let c := chanOf s ch
      let s := s.setDigest (CH_TR_PMEAS ch) (sha384 c.pend)
      if c.loadCode = 0 then (s.setF (CH_TR_STAT_PEND ch) pendLOADED).cmdEnd (trellisIf ch) 1 .ok
      else
        let s := (s.setF (CH_TR_STAT_PEND ch) pendEMPTY).modChan ch fun c => { c with pend := [], loadCode := 0 }
        (s.cmdEnd (trellisIf ch) 1 .malformed c.loadCode).journal 3 244 srcCHAN ch .malformed
    else s)

/-- The channels that an ACTIVATE of `ch` names: those of its domain, or the channel alone (R241). -/
def activateSet (s : State) (ch : Nat) : List Nat :=
  match domOfChan s ch with
  | some d => match domCfg s d with
    | some c => (List.range 96).filter c.channels.testBit
    | none => [ch]
  | none => [ch]

/-- The bytes of a decode row that a swap may not change while the domain is not HELD (R241). -/
def rowFixed (r : List Byte) : List Byte × Byte × Bool := (slice r 1 4, r.getD 6 0, rowContEn r)

/-- No fixed item differs between two programs (R241). -/
def sameFixed (a b : Prog) : Bool :=
  slice a 7 3 = slice b 7 3 && slice a 11 3 = slice b 11 3 && slice a 16 9 = slice b 16 9
    && (List.range 256).all (fun k => rowFixed (a.row k) = rowFixed (b.row k))
    && slice a 3136 32 = slice b 3136 32 && a.sfdp = b.sfdp

def activateCode (s : State) (ch : Nat) : Option Code :=
  let d := domOfChan s ch
  let loaded := (activateSet s ch).filter fun c => pendOf s c = pendLOADED
  let stale := match d with | some d => decide (rf s (CH_TR_CMD_GEN_GEN ch) ≠ domGen s d) | none => false
  let held := match d with | some d => decide (domState s d = stHELD) | none => true
  let moved := loaded.any fun c => match (chanOf s c).prog with
    | some p => !sameFixed p (chanOf s c).pend
    | none => true
  firstCode [(stale, .stale),
    (loaded.isEmpty || lockdown s || (mode s = moASSEMBLY && s.boot.stage ≠ .firmware) || (!held && moved), .refusedState)]

/-- ACTIVATE (R241, R243, R244): every LOADED channel of the domain enters SWAP_PENDING. -/
def execActivate (ch : Nat) (s : State) : Host.Outcome State Fault Refusal :=
  .next (if ch < 96 then
      match activateCode s ch with
      | some c => s.trellisRefuse ch 2 c
      | none =>
        let s := s.each ((activateSet s ch).filter fun c => pendOf s c = pendLOADED) fun s c =>
          s.setF (CH_TR_STAT_PEND c) pendSWAP
        s.cmdEnd (trellisIf ch) 2 .ok
    else s)

/-- DISCARD (R244). -/
def execDiscard (ch : Nat) (s : State) : Host.Outcome State Fault Refusal :=
  .next (if ch < 96 then
      if pendOf s ch = pendLOADED then
        ((s.setF (CH_TR_STAT_PEND ch) pendEMPTY).modChan ch fun c => { c with pend := [] }).cmdEnd (trellisIf ch) 3 .ok
      else s.trellisRefuse ch 3 .refusedState
    else s)

/-- A channel in SWAP_PENDING reaches its transaction boundary (R242). -/
def execSwap (ch : Nat) (s : State) : Host.Outcome State Fault Refusal :=
  .next (if ch < 96 then s.swap ch else s)

end Sys2Proof.Machine
end

