-- ==== Sys2Proof/Machine/RestartOps.lean ====
section
/-! DEFINITION. The Belvedere restart (R58, R76, R143, R175, R243, R305, R320, R346, R358, R363). -/

namespace Sys2Proof.Machine

/-- A LOAD that meets a Belvedere restart ends with RESET_ABORT and an EMPTY slot (R243). -/
def State.trellisRestart (s : State) (ch : Nat) : State :=
  if pendOf s ch = pendLOADING then
    ((s.setF (CH_TR_STAT_PEND ch) pendEMPTY).modChan ch fun c => { c with pend := [], loadCode := 0 }).cmdEnd (trellisIf ch) 1 .resetAbort
  else s

/-- The receive ring's bytes in TCM: 16 slots at MTRANS_RX_BASE (R354). -/
def ringCells (s : State) : List Host.Cell :=
  let a := rf s MTRANS_RX_BASE_ADDR
  s.tcm.filter fun c => a ≤ c.1 && c.1 < a + 16 * slotSize

/-- TCM is filled with zeros; a Belvedere restart keeps the receive ring (R61 step 4, R363). -/
def State.fillTcm (s : State) (keepRing : Bool) : State :=
  { s with tcm := if keepRing then ringCells s else [], mem := { s.mem with poison := [] } }

/-- Commands that firmware held end with RESET_ABORT, and units that work for it are reset (R58, R419). -/
def State.restartUnits (s : State) : State :=
  let s := match s.orang.cmd with
    | some c => s.orangeryEnd c .resetAbort
    | none => s
  let s := s.each (List.range 96) State.trellisRestart
  let s := (s.engReset.keyRestart.answerTaken .resetAbort).freeBuf
  { s.fillTcm true with
    ldr := { s.ldr with withheld := false }
    mtrans := { s.mtrans with sessions := [], conns := [] } }

/-- Belvedere runs, in its ROM or in firmware. -/
def bvRuns (s : State) : Bool :=
  match s.boot.stage with
  | .held | .reset1 | .clocks | .otp => false
  | _ => true

/-- A Belvedere restart begins; the boot ROM will read copy `copy` first. `causes` are the bits that SYSCTL_RSTCAUSE shows at its
end. Before the first handover of a start it is that start's ROM pass over again. DESIGN CHOICE (log entry 42): B_READ, A_STATUS, B_STATUS
and CHECK_IDX stay, so that bytes 12 to 14 of the next handover block (R77) may show reads of an earlier ROM pass. -/
def State.bvRestart (s : State) (copy causes : Nat) : State :=
  if !bvRuns s then s else
  let again := rb s KEYS_STAT_L0_VALID || rb s KEYS_STAT_ZEROISED
  s.restartUnits.modBoot fun b =>
    { b with
      stage := .otp, restart := if again then some copy else none, wdtRestart := causes = 64, causes, wdtEnd := none, wdtLeft := 0
      bootCopies := 0 }

/-- The running pair fails its lockstep compare or meets an uncorrectable TCM word: the standby takes over, or, with none, a
Belvedere restart begins (R26, R418). -/
def State.pairFails (s : State) : State := if !bvRuns s then s else if standby s then s.failover else s.bvRestart 0 0

end Sys2Proof.Machine
end

