-- ==== Sys2Proof/Machine/MctpOps.lean ====
section
/-! DEFINITION. The named operations of the management transports: endpoints (R349), tenants of messages (R353), answers and
their outcomes (R355, R359), reassembly (R352), the receive ring (R354). -/

namespace Sys2Proof.Machine

def State.modMt (s : State) (f : Mtrans → Mtrans) : State := { s with mtrans := f s.mtrans }

/-- MTRANS_CMD_STAT has no RESULT field. -/
def mtIf : CmdIf := ⟨MTRANS_CMD_STAT_LAST_OP, MTRANS_CMD_STAT_LAST_STATUS, none, MTRANS_EVT_CMD_DONE⟩

/-- Ports in the numbering of the Tenant Binding Table. -/
def poPCIE : Nat := 0
def poESPI : Nat := 9

/-- The field that holds the HX96's EID on a port. -/
def eidFld (port : Nat) : Fld :=
  if port = poPCIE then MTRANS_EID_PCIE_EID
  else if port = poESPI then MTRANS_EID_ESPI_EID
  else MTRANS_I3C_STAT_EID (port - 1)

/-- ROM recovery runs (R70). -/
def recovery (s : State) : Bool := s.boot.stage = .recovery

/-- The endpoint of a port is up: settings applied, the endpoint or the port enabled. -/
def portUp (s : State) (port : Nat) : Bool :=
  match s.mtrans.settings with
  | none => false
  | some st =>
    if port = poPCIE then st.pcieEn
    else if port = poESPI then !recovery s
    else match st.ports[port - 1]? with | some p => p.role ≠ 0 | none => false

/-- The balls of a port carry traffic: its bank is neither mismatched nor suspended; the eSPI OOB channel is behind the bank of channel
`ch` (R56, R57). -/
def mctpLive (s : State) (port : Nat) (ch : Nat := 0xFF) : Bool :=
  portUp s port && (if port = poPCIE then sybLive s
    else if port = poESPI then !(ch < 96 && bankFloated s (bankOfChan ch)) else !bankFloated s bankMGB)

/-- Every configured port and the endpoint come up (R46, R47, R365). -/
def State.portsUp (s : State) (st : Settings) : State :=
  let s := s.modMt fun m => { m with settings := some st }
  let s := ((s.setB MTRANS_STAT_PCIE_EN st.pcieEn).setF MTRANS_EID_PCIE_EID st.pcieEid).setF MTRANS_EID_ESPI_EID st.espiEid
  s.each st.ports.zipIdx fun s (p, k) =>
    ((s.setF (MTRANS_I3C_STAT_MODE k) p.mode).setF (MTRANS_I3C_STAT_ADDR k) p.addr).setF (MTRANS_I3C_STAT_EID k) p.eid

/-- The fixed settings of ROM recovery: the PCIe endpoint, and I3C0 as an SMBus target at address 0x3A (R70). DESIGN CHOICE (log entry
152): what R70 does not fix. -/
def recoverySettings : Settings :=
  { pcieEn := true, pcieEid := 0, txMtu := 64, ports := ⟨3, 0x3A, 0, 0⟩ :: List.replicate 7 ⟨0, 0, 0, 0⟩
    espiEid := 0, hbeat := 0, reasmMs := 1000, sessions := 1 }

/-- The tenant of an MCTP source: the single entry of TRANSPORT 0x04 that it fits. -/
def mctpTenant (s : State) (o : Origin) : Option Tbe := entryOf s ⟨4, o.port, o.eid⟩

/-- A message from a source that matches no entry is discarded and counted, with a record once per second and transport (R353). -/
def State.unknownSrc (s : State) (port : Nat) : State :=
  let s := (s.bump MTRANS_UNKNOWN_SRC_LO MTRANS_UNKNOWN_SRC_HI MTRANS_EVT_SAT srcMTRANS).raise MTRANS_EVT_UNKNOWN_SRC
  let k := if port = poPCIE then 0 else if port = poESPI then 3 else if rf s (MTRANS_I3C_STAT_MODE (port - 1)) % 128 ≤ 2 then 2 else 1
  if rateOk s.kiosk.unknownAt k s.usec then
    (s.modKiosk fun q => { q with unknownAt := markAt q.unknownAt k s.usec }).journal 6 353 srcMTRANS port
  else s

/-- The update agent of ROM recovery, which has no Tenant Binding Table: known by its port and EID alone. -/
def recoveryTbe (o : Origin) : Tbe := ⟨512 + 256 * o.port + o.eid, 4, o.port, o.eid, 0xFF, 16, 0⟩

/-! ### Answers (R355, R359) -/

/-- Message types (R349). -/
def mtCONTROL : Nat := 0
def mtPLDM : Nat := 1
def mtSPDM : Nat := 5
def mtSECURED : Nat := 6
def mtVENDOR : Nat := 0x7F

/-- A non-OK response is remembered for GET_OUTCOME (R355, R359). -/
def State.setOutcome (s : State) (tn typ cmd : Nat) (c : Code) (retry : Nat) : State :=
  s.modKiosk fun k => { k with outcomes := (tn, ⟨c.val, retry, typ, cmd⟩) :: k.outcomes.filter (·.1 ≠ tn) }

/-- The key under which a tenant's retry-after time for a message is kept (R14). -/
def msgKey (tn typ cmd : Nat) : Nat := 2 ^ 48 + tn * 65536 + typ % 256 * 256 + cmd % 256

/-- The PLDM completion code of an outcome (R359). -/
def pldmCode (c : Code) : Nat :=
  if c = .ok then 0 else if c = .malformed then 2 else if c = .notReady || c = .busyRetry then 4 else 1

/-- The head of a vendor response: enterprise number, COMMAND, STATUS (R355). -/
def vendorHead (cmd : Nat) (c : Code) : List Byte := beBytes 4 64917 ++ leBytes 1 cmd ++ leBytes 1 c.val

/-- What a response other than OK holds: for SPDM an ERROR of ErrorCode 0xFF, VendorDefined, with the enterprise number, the code and
the retry-after time; for PLDM its completion code; for a vendor message its head and the retry-after time; for a control message the
completion code ERROR (R355, R359). -/
def errData (typ cmd : Nat) (c : Code) (ms : Nat) : List Byte :=
  if typ = mtSPDM then [0xFF, 0] ++ beBytes 4 64917 ++ [BitVec.ofNat 8 c.val] ++ leBytes 2 ms
  else if typ = mtPLDM then [BitVec.ofNat 8 (pldmCode c)]
  else if typ = mtCONTROL then [1]
  else vendorHead cmd c ++ leBytes 2 ms

/-- The ROM answers every request but those of a firmware update with REFUSED_STATE, whatever its source (R70); else the source matches no
entry. -/
def State.stranger (s : State) (o : Origin) (typ cmd : Nat) : State :=
  if recovery s then s.ret (.reply .refusedState (errData typ cmd .refusedState 0)) else s.unknownSrc o.port

/-- What a response of code OK holds: a vendor message has its head before the payload (R355). -/
def okData (typ cmd : Nat) (data : List Byte) : List Byte := if typ = mtVENDOR then vendorHead cmd .ok ++ data else data

/-- A response to tenant `tn`: data with OK, or a code with what R359 puts behind it. -/
def State.respond (s : State) (tn typ cmd : Nat) (c : Code) (data : List Byte := []) : State :=
  if c = .ok then s.ret (.reply .ok (okData typ cmd data))
  else if c = .busyRetry then
    let (t, s) := s.delay (msgKey tn typ cmd) none
    (s.setOutcome tn typ cmd c t).ret (.reply c (errData typ cmd c t))
  else (s.setOutcome tn typ cmd c 0).ret (.reply c (errData typ cmd c 0))

/-- SPDM codes and PLDM types are judged by mode before all else (R114, R361): `inLockdown` says that LOCKDOWN answers it. -/
def modeCode (s : State) (inLockdown : Bool) : Option Code :=
  firstCode [(mode s = moASSEMBLY, .notReady), (lockdown s && !inLockdown, .refusedState)]

/-- A request of a bound tenant: an unbound source is counted, then MALFORMED (`bad`), mode, PERM and the meaning (R12). In ROM recovery
the requests of a firmware update, `update`, are the ROM's (R70). -/
def State.request (s : State) (o : Origin) (typ cmd : Nat) (inLockdown : Bool) (perm : Tbe → Bool)
    (f : Tbe → State → State) (update : Bool := false) (bad : Bool := false) : State :=
  if recovery s && update then f (recoveryTbe o) s else
  match mctpTenant s o with
  | none => s.stranger o typ cmd
  | some t =>
    match firstCode [(bad, Code.malformed), (mode s = moASSEMBLY, .notReady), (lockdown s && !inLockdown, .refusedState), (!perm t, .refusedPolicy)] with
    | some c => s.respond t.tn typ cmd c
    | none => f t s

/-! ### Reassembly (R352) -/

def msgMax : Nat := 4224
def ctxMax : Nat := 32

def Ctx.is (c : Ctx) (port src tag : Nat) (owner : Bool) : Bool := c.port = port && c.src = src && c.tag = tag && c.owner = owner

/-- MTRANS_STAT.REASM_USED counts the contexts in use. -/
def State.showCtx (s : State) : State := s.setF MTRANS_STAT_REASM_USED s.mtrans.ctxs.length

/-- The message in progress that a packet belongs to, by port, source, tag and tag owner. -/
def ctxOf (s : State) (port src tag : Nat) (owner : Bool) : Option Ctx :=
  s.mtrans.ctxs.find? fun c => !c.done && c.is port src tag owner

/-- The message in progress leaves its context; complete messages that wait for the ring stay. -/
def State.dropCtx (s : State) (c : Ctx) : State :=
  (s.modMt fun m => { m with ctxs := m.ctxs.filter fun d => d.done || !d.is c.port c.src c.tag c.owner }).showCtx

/-- A message is discarded under R352: counted, DROP, and a REASM_ABORT notice to a bound source. -/
def State.reasmDrop (s : State) (c : Ctx) (code : Code) : State :=
  let s := ((s.dropCtx c).bump MTRANS_REASM_DROP_LO MTRANS_REASM_DROP_HI MTRANS_EVT_SAT srcMTRANS).raise MTRANS_EVT_DROP
  let m : Sent := .reasmAbort c.port c.src c.tag code.val
  s.when (mctpTenant s ⟨c.port, c.src⟩).isSome fun s => s.modKiosk fun k => { k with sent := k.sent ++ [m] }

/-! ### The receive ring (R354) -/

def ringHead (s : State) : Nat := rf s MTRANS_RX_PTR_HEAD
def ringFull (s : State) : Bool := (ringHead s + 1) % 16 = rf s MTRANS_RX_PTR_TAIL

/-- The 16-byte header of a receive slot. -/
def slotHeader (s : State) (c : Ctx) : List Byte :=
  let tn := match mctpTenant s ⟨c.port, c.src⟩ with | some t => t.tn | none => 0xFFFF
  leBytes 2 c.data.length ++ leBytes 1 c.port ++ leBytes 1 c.src ++ leBytes 1 (c.tag % 8 + 8 * c.owner.toNat) ++ leBytes 1 c.ch
    ++ leBytes 2 tn ++ List.replicate 8 0

/-- The tenant whose turn a message takes; 512 for one from no tenant. -/
def ctxTn (s : State) (c : Ctx) : Nat := match mctpTenant s ⟨c.port, c.src⟩ with | some t => t.tn | none => 512

/-- A complete message of tenant `tn` waits for the ring. -/
def ctxWaits (s : State) (tn : Nat) (c : Ctx) : Bool := c.done && ctxTn s c = tn

/-- The tenant whose message last entered the ring has another one waiting and quantum left (R416). -/
def turnGoesOn (s : State) : Bool := 0 < s.mtrans.turn.2 && s.mtrans.ctxs.any (ctxWaits s s.mtrans.turn.1)

/-- The tenant whose message enters the ring next, by deficit round robin (R344, R416). -/
def nextTurn (s : State) : Option Nat :=
  if turnGoesOn s then some s.mtrans.turn.1
  else ((List.range 513).map fun i => (s.mtrans.turn.1 + 1 + i) % 513).find? fun tn => s.mtrans.ctxs.any (ctxWaits s tn)

/-- Completed messages enter the ring while it has a slot and Belvedere can read it: each tenant's in the order of their completion, the
tenants taking turns by their weight (R344, R354). -/
def State.fillRing : Nat → State → State
  | 0, s => s
  | n + 1, s =>
    match (nextTurn s).bind fun tn => s.mtrans.ctxs.find? (ctxWaits s tn) with
    | none => s
    | some c =>
      let tn := ctxTn s c
      let left := (if turnGoesOn s then s.mtrans.turn.2 else tnWeight s tn) - 1
      if ringFull s || s.boot.bvDown then s
      else
        let a := rf s MTRANS_RX_BASE_ADDR + slotSize * ringHead s
        let s := if inTcm a slotSize then s.tcmWrite a (slotHeader s c ++ c.data) else s
        let s := (s.setF MTRANS_RX_PTR_HEAD ((ringHead s + 1) % 16)).raise MTRANS_EVT_RX
        State.fillRing n (s.modMt fun m => { m with ctxs := m.ctxs.eraseP (ctxWaits s tn), turn := (tn, left) }).showCtx

/-- The command byte of a request message: the request code of SPDM, the command of PLDM, COMMAND of a vendor message (R355). -/
def msgCmd (typ : Nat) (data : List Byte) : Nat :=
  fieldAt data (if typ = mtPLDM then 3 else if typ = mtVENDOR then 5 else 2) 1

/-- A message type that the HX96 supports (R349). -/
def typeKnown (typ : Nat) : Bool := [mtCONTROL, mtPLDM, mtSPDM, mtSECURED, mtVENDOR].contains typ

end Sys2Proof.Machine
end

