-- ==== Sys2Proof/Machine/Vendor.lean ====
section
/-! DEFINITION. Vendor messages: KIOSK, GET_NONCE, GET_OUTCOME and the checks of an owner-authorised request (R355, R356,
R361). -/

namespace Sys2Proof.Machine

/-- Vendor COMMAND codes (R355). -/
def vcKIOSK : Nat := 1
def vcNONCE : Nat := 2
def vcOWNER : Nat := 3
def vcOUTCOME : Nat := 4

/-- The effect of a vendor KIOSK request on the mailbox of its TN, which must be the tenant's own; a reply placed at once is the
response (R342, R355). -/
def State.vendorKiosk (s : State) (o : Origin) (t : Tbe) (tn word gen : Nat) : State :=
  let a : Access := ⟨4, o.port, o.eid⟩
  if t.tn ≠ tn then s.respond t.tn mtVENDOR vcKIOSK (kioskDenied s (bitsAt word 24 8) (bitsAt word 16 8) gen)
  else if rb s (TN_STAT_REQ_FULL tn) then s.tnReq a tn word
  else
    let n := s.kiosk.sent.length
    let s := ((s.setF (TN_GEN_GEN tn) gen).mailClean tn 8).tnReq a tn word (some o) false
    match s.kiosk.sent[n]? with
    | some (.kioskReply p e w g) =>
      if p = o.port && e = o.eid then
        let s := s.modKiosk fun k => { k with sent := k.sent.take n ++ k.sent.drop (n + 1) }
        s.respond t.tn mtVENDOR vcKIOSK .ok (leBytes 4 w ++ leBytes 4 g)
      else s
    | _ => s

/-- VENDOR_KIOSK: the Kiosk's own rules hold; in LOCKDOWN only their codes ahead of the state stand before REFUSED_STATE (R114,
R355, R361). -/
def State.vendorKioskMsg (s : State) (o : Origin) (tn word gen : Nat) : State :=
  match mctpTenant s o with
  | none => s.stranger o mtVENDOR vcKIOSK
  | some t =>
    let early := firstCode (kioskEarly s (bitsAt word 24 8) (bitsAt word 16 8) gen)
    if lockdown s && early.isNone then s.respond t.tn mtVENDOR vcKIOSK .refusedState
    else if !t.permService then s.respond t.tn mtVENDOR vcKIOSK (kioskDenied s (bitsAt word 24 8) (bitsAt word 16 8) gen)
    else s.vendorKiosk o t tn word gen

def execVendorKiosk (org : Origin) (tn word gen : Nat) (s : State) : Host.Outcome State Fault Refusal :=
  .next (s.vendorKioskMsg org tn word gen)

/-- A fresh nonce of 32 bytes is issued to the tenant (R355, R356). -/
def State.getNonce (s : State) (o : Origin) : State :=
  s.request o mtVENDOR vcNONCE true (·.permService) fun t s =>
    match s.takeItem with
    | (.error c, s) => s.respond t.tn mtVENDOR vcNONCE c
    | (.ok it, s) =>
      let n := slice it 0 32
      let now := s.usec
      (s.modKiosk fun k => { k with nonces := (t.tn, n, now) :: k.nonces.filter (·.1 ≠ t.tn) }).respond t.tn mtVENDOR vcNONCE .ok n

/-- GET_NONCE. -/
def execGetNonce (org : Origin) (s : State) : Host.Outcome State Fault Refusal := .next (s.getNonce org)

/-- The tenant's last non-OK response, zero where there was none (R355). -/
def State.getOutcome (s : State) (o : Origin) : State :=
  s.request o mtVENDOR vcOUTCOME true (·.permService) fun t s =>
    match s.kiosk.outcomes.find? (·.1 = t.tn) with
    | some (_, r) =>
      s.respond t.tn mtVENDOR vcOUTCOME .ok (leBytes 1 r.code ++ leBytes 2 r.retry ++ leBytes 1 r.typ ++ leBytes 1 r.cmd)
    | none => s.respond t.tn mtVENDOR vcOUTCOME .ok [0, 0, 0, 0, 0]

/-- GET_OUTCOME. -/
def execGetOutcome (org : Origin) (s : State) : Host.Outcome State Fault Refusal := .next (s.getOutcome org)

/-! ### Owner authorisation (R356) -/

/-- A key entry as R123 reads it. -/
def resolveKey (entries : List KeyEntry) (id : Nat) (digest : List Byte) : Code :=
  match entries.filter fun k => !k.revoked && k.keyId = id with
  | [] => .keyRevoked
  | [k] => if k.digest = digest then .ok else .verifyFail
  | _ => .keyAmbiguous

/-- The signature block of an owner request at byte 48, its algorithm as its key block names it. -/
def ownerSig (payload : List Byte) : Option SigBlock := parseSigBlock payload 48 (fieldAt payload 56 1)

/-- Layout, OWNER_OP, DOM and the device tag are correct (check 1; R378, R385); a domain without an entry is no DOM (R104). -/
def ownerLayout (s : State) (payload : List Byte) (op : Nat) : Bool :=
  fieldAt payload 0 1 = op && 1 ≤ op && op ≤ 7 && zeroAt payload 2 2 && (op ≤ 2 || fieldAt payload 1 1 = 0xFF)
    && (op ≠ 1 || domExists s (fieldAt payload 1 1))
    && slice payload 12 4 = slice (sha384 (slotPublic s 0)) 0 4
    && match ownerSig payload with | some g => g.totalLen = payload.length | none => false

/-- The nonce is the one last issued to the tenant, unused and at most 60 s old (check 2). -/
def nonceOk (s : State) (tn : Nat) (payload : List Byte) : Bool :=
  match s.kiosk.nonces.find? (·.1 = tn) with
  | some (_, n, t) => slice payload 16 32 = n && s.usec ≤ t + 60000000
  | none => false

/-- GEN is that of the domain named, or of the mode (check 3). -/
def ownerGenOk (s : State) (payload : List Byte) : Bool :=
  let dom := fieldAt payload 1 1
  let gen := fieldAt payload 4 4
  if fieldAt payload 0 1 = 1 then !staleGen s dom gen else gen = rf s SYSCTL_MODE_GEN_GEN

/-- Checks 3 to 7 (R356), the signed digest over the header and signature-block bytes 0 to 7 + KEYBLK_LEN − 1; LOCKDOWN answers only OWNER_OP 0x02 once check 1 has passed (R361). -/
def ownerCode (s : State) (t : Tbe) (payload : List Byte) : Option Code :=
  match ownerSig payload with
  | none => some .malformed
  | some g =>
    let key := resolveKey (s.otp.keys.filterMap id) (fieldAt payload 8 4) (sha384 g.keyBlk)
    firstCode [
      (!ownerGenOk s payload, .stale),
      (lcState s ≠ lcOWNED, .refusedState),
      (!t.permOwner, .refusedPolicy),
      (key ≠ .ok, key),
      (!g.verify (sha384 (slice payload 0 (g.signedLen - 1))), .verifyFail)]

/-- The tenant's nonce is consumed. -/
def State.useNonce (s : State) (tn : Nat) : State := s.modKiosk fun k => { k with nonces := k.nonces.filter (·.1 ≠ tn) }

/-- An OWNER_CMD: the checks of R356 in order, NOT_READY in ASSEMBLY standing behind STALE as R12 has it (R114, R361); the command that follows a pass, and its code, are `run`'s. -/
def State.ownerCmd (s : State) (o : Origin) (op : Nat) (payload : List Byte) (run : State → State × Code) : State :=
  match mctpTenant s o with
  | none => s.stranger o mtVENDOR vcOWNER
  | some t =>
    let no (s : State) (c : Code) : State := s.respond t.tn mtVENDOR vcOWNER c
    if !ownerLayout s payload op then no s .malformed
    else if lockdown s && op ≠ 2 then no s .refusedState
    else
      let fresh := nonceOk s t.tn payload
      let s := s.useNonce t.tn
      if !fresh || !ownerGenOk s payload then no s .stale
      else if mode s = moASSEMBLY then no s .notReady
      else match ownerCode s t payload with
        | some c => no (s.when (c = .keyAmbiguous) (·.journal 1 123 srcKIOSK t.tn .keyAmbiguous)) c
        | none =>
          let (s, c) := run s
          s.respond t.tn mtVENDOR vcOWNER c

end Sys2Proof.Machine
end

