-- ==== Sys2Proof/Machine/BootOps.lean ====
section
/-! DEFINITION. The named operations of the boot chain: life-cycle vote (R383), repair records (R280), copy checks (R65, R67),
debug tokens (R389 to R393), layers and handover block (R71, R77). -/

namespace Sys2Proof.Machine

/-! ### The life-cycle vote (R383) -/

/-- The permitted transitions (R384). -/
def lcSteps : List (Nat × Nat) := [(0, 1), (1, 2), (1, 4), (2, 3), (2, 4), (3, 4)]

def lcCopies (s : State) : List (BitVec 64) := [0, 1, 2].map (Sparse.get (fun _ => 0) s.otp.words)

/-- One copy holds X, another Y, and the third every bit of X and no bit outside Y. -/
def lcBetween (cs : List (BitVec 64)) (x y : BitVec 64) : Bool :=
  [(0, 1, 2), (0, 2, 1), (1, 0, 2), (1, 2, 0), (2, 0, 1), (2, 1, 0)].any fun (i, j, k) =>
    cs.getD i 0 = x && cs.getD j 0 = y && (cs.getD k 0 &&& x) = x && (cs.getD k 0 &&& ~~~y) = 0

/-- The state that the three copies give, and whether it is TORN. -/
def lcVote (cs : List (BitVec 64)) : Nat × Bool :=
  match [0, 1, 2, 3, 4].find? fun st => 2 ≤ (cs.filter (· = lcWord st)).length with
  | some st => (st, false)
  | none =>
    match lcSteps.find? fun (x, y) => lcBetween cs (lcWord x) (lcWord y) with
    | some (_, y) => (y, true)
    | none => (lcINVALID, false)

/-- LCS_STAT and LCS_CODE show the vote (R381, R383). -/
def State.lcLatch (s : State) : State :=
  let cs := lcCopies s
  let (st, torn) := lcVote cs
  let code : BitVec 64 := if st = lcINVALID then 0xFFFFFFFF else lcWord st
  let agree := ([0, 1, 2].filter fun i => cs.getD i 0 = code).foldl (fun a i => a + 2 ^ i) 0
  let s := ((s.setF LCS_STAT_STATE st).setB LCS_STAT_TORN torn).setF LCS_STAT_AGREE agree
  (s.setF LCS_CODE_LO_CODE code.toNat).setF LCS_CODE_HI_CODE (code.toNat >>> 32)

/-! ### Repair records (R280) -/

/-- Spare `i` of a macro stands for `row`. A spare whose own record does not read stands for no row (2048) and is free; one that a later
record of its row supersedes stands for none (2049) and is spent (R280). -/
def placeSpare (l : List (Nat × Bool)) (i row : Nat) : List (Nat × Bool) :=
  let l := l.map fun e => if e.1 = row then (2049, e.2) else e
  if i < l.length then setAt l i (row, true) else l ++ List.replicate (i - l.length) (2048, true) ++ [(row, true)]

/-- A record word is applied if it is one of an SRAM row; records of OTP words act wherever a word is read (`otpMoved`). -/
def State.applyRepair (s : State) (w : Nat) : State :=
  match otpWord s w with
  | some v =>
    let n := v.toNat
    if bitsAt n 60 4 = 1 && bitsAt n 24 36 = 0 && bitsAt n 23 1 = 1 then
      let mid := bitsAt n 0 10
      let b := macroOf s mid
      s.setMacro mid { b with spares := placeSpare b.spares (bitsAt n 21 2) (bitsAt n 10 11), lastRow := bitsAt n 10 11 }
    else s
  | none => s

/-- A word that the sense finds uncorrectable counts once in class 12 and reads as torn; one that it finds corrected moves to a
spare word (R59, R279, R280). -/
def State.otpScan (s : State) (corrected : List (Nat × Nat)) (unreadable : List Nat) : State :=
  let s := s.each (unreadable.filter fun w => 3 ≤ w && w < 1024 && !s.otp.torn.contains w) fun s w =>
    { s with otp := { s.otp with torn := s.otp.torn ++ [w] } }
  let s := s.each ((List.range 64).map (896 + ·)) State.applyRepair
  let s := s.each (s.otp.torn.filter fun w => 896 ≤ w && w < 960 || unreadable.contains w) fun s w => s.uncorrectable 12 w 0 0
  s.each (corrected.filter fun e => 3 ≤ e.1 && e.1 < 1024 && !s.otp.torn.contains e.1) fun s (w, b) => (s.corrected 12 w b 0 0).otpRemap w

/-! ### Keys that the life-cycle state permits (R67, R123) -/

/-- Key resolution for manifests of classes 254 and 255 and for debug tokens. -/
def bootKey (s : State) (keyId : Nat) (digest : List Byte) : Code :=
  let lc := lcState s
  if lc = lcFACTORY || lc = lcRETURNED then
    resolveKey (Config.vendorKeys.map fun (id, revoked, d) => ⟨id, digestBytes d, revoked⟩) keyId digest
  else if lc = lcOWNED then resolveKey (s.otp.keys.filterMap id) keyId digest
  else .keyRevoked

/-! ### The checks of a copy (R65) -/

/-- Five checks of one class, in order: form, key, signatures, security version, root. -/
def classChecks (s : State) (cls : Nat) (man img : List Byte) (len : Nat) : List (Bool × Code) :=
  match parseManifest man with
  | none => [(false, .malformed), (false, .malformed), (false, .malformed), (false, .malformed), (false, .malformed)]
  | some m =>
    let key := bootKey s m.keyId m.keyDigest
    let root := match m.regions with | r :: _ => r.root | [] => []
    let size := match m.regions with | r :: _ => r.length | [] => 0
    [(m.domain = cls && size = len && m.totalLen ≤ man.length, .malformed), (key = .ok, key), (m.sig.verify m.digest, .verifyFail),
     (svnMin s cls ≤ m.svn, .refusedPolicy), (img.length = len && regionRoot img = root, .verifyFail)]

/-- The twelve checks of R65 on what reading a copy showed. -/
def copyChecks (s : State) (c : CopyImage) : List (Bool × Code) :=
  match parseBootDir c.dir c.devSize with
  | none => [(false, .malformed)]
  | some d =>
    (c.sfdpOk, .malformed) :: classChecks s 254 (slice c.fwMan 0 d.fwManLen) c.fwImg d.fwLen
      ++ classChecks s 255 (slice c.cfgMan 0 d.cfgManLen) c.cfgImg d.cfgLen
      ++ [((parseCfg c.cfgImg (rf s SYSCTL_ID_DRAM_CAP)).isSome, .malformed)]

/-- The first failing check, with its number; `timeoutAt` is the check in progress when a read failed. -/
def firstFail (timeoutAt : Option Nat) : Nat → List (Bool × Code) → Option (Nat × Code)
  | _, [] => none
  | n, (ok, c) :: t =>
    if timeoutAt = some n then some (n, .timeout) else if ok then firstFail timeoutAt (n + 1) t else some (n, c)

/-- The ROOT of a manifest with one region. -/
def Manifest.root (m : Manifest) : List Byte := match m.regions with | r :: _ => r.root | [] => []

/-- What a passing copy gives the boot chain. -/
def bootImg (copy : Nat) (c : CopyImage) : Option BootImg :=
  match parseBootDir c.dir c.devSize with
  | none => none
  | some d =>
    match parseManifest (slice c.fwMan 0 d.fwManLen), parseManifest (slice c.cfgMan 0 d.cfgManLen) with
    | some f, some g =>
      some
        { copy, fwSvn := f.svn, cfgSvn := g.svn, keyId := f.keyId, fwRoot := f.root, cfgRoot := g.root, logOff := d.logOff
          logLen := d.logLen, fwImg := c.fwImg, cfgImg := c.cfgImg }
    | _, _ => none

/-! ### Debug tokens (R389, R391, R392) -/

/-- The highest level that a token may open. -/
def maxLevel (lc : Nat) : Nat := if lc = lcFACTORY || lc = lcRETURNED then 3 else if lc = lcOWNED then 2 else 0

/-- The signature block of a token at byte 64. -/
def tokenSig (t : List Byte) : Option SigBlock := parseSigBlock t 64 (fieldAt t 72 1)

/-- Check 1 of R392. -/
def tokenForm (s : State) (t : List Byte) : Bool :=
  slice t 0 4 = [0x48, 0x58, 0x44, 0x54] && fieldAt t 4 2 = 1 && fieldAt t 6 2 = 64 && 1 ≤ fieldAt t 8 1 && fieldAt t 8 1 ≤ 3
    && zeroAt t 10 2 && zeroAt t 32 32 && fieldAt t 9 1 = lcState s && slice t 16 8 = slice (otpBytes s 8 6) 0 8
    && match tokenSig t with | some g => g.totalLen = t.length | none => false

/-- The nonce of DEBUG_NONCE as bytes. -/
def nonceBytes (s : State) : List Byte := leBytes 4 (reg s DEBUG_NONCE_LO).toNat ++ leBytes 4 (reg s DEBUG_NONCE_HI).toNat

/-- The checks of a buffered token in order (R392). -/
def tokenChecks (s : State) (t : List Byte) : List (Bool × Code) :=
  match tokenSig t with
  | none => [(false, .malformed)]
  | some g =>
    let key := bootKey s (fieldAt t 12 4) (sha384 g.keyBlk)
    [(tokenForm s t, .malformed), (rb s DEBUG_STAT_NONCE_VALID && slice t 24 8 = nonceBytes s, .stale),
     (fieldAt t 8 1 ≤ maxLevel (lcState s), .refusedState), (key = .ok, key), (g.verify (sha384 (t.take g.signedLen)), .verifyFail)]

/-- The boot ROM checks the buffered token: the level, the result in DEBUG_STAT, a pre-boot record for a failure; buffer and nonce
are cleared whatever the outcome (R392). -/
def State.tokenCheck (s : State) : State :=
  let t := s.lcs.token
  if t.isEmpty then s
  else
    let s := match firstFail none 1 (tokenChecks s t) with
      | none => s.setF DEBUG_STAT_LEVEL (fieldAt t 8 1)
      | some (n, c) => (((s.setF DEBUG_STAT_CHECK_IDX n).setF DEBUG_STAT_TOKEN_STATUS c.val).setF DEBUG_STAT_LEVEL 0).journal 0 392 srcDEBUG noUnit c
    let s := s.modLcs fun l => { l with token := [] }
    ((((s.setF DEBUG_STAT_TOKEN_LEN 0).setF DEBUG_STAT_NONCE_VALID 0).setReg DEBUG_NONCE_LO 0).setReg DEBUG_NONCE_HI 0)

/-! ### Handover (R71, R73, R74, R77) -/

/-- Layer 0 with the secrets, label and context that the vault report and the debug level give (R71, R73, R393). -/
def State.layer0 (s : State) : State :=
  let dev := otpBytes s 3 4
  if s.boot.vaultBad then
    (s.deriveL0 (List.replicate 32 0 ++ dev) (ascii "HX96-L0Z") (lcCode s)).raise SYSCTL_BOOT_STAT_VAULT_LOST
  else if s.boot.debugStart then
    s.deriveL0 (vaultRead s 8 32 ++ dev) (ascii "HX96-L0D") (lcCode s ++ leBytes 1 (rf s DEBUG_STAT_LEVEL))
  else s.deriveL0 (vaultRead s 8 32 ++ dev) (ascii "HX96-L0") (lcCode s)

/-- The handover block (R77). -/
def handoverBlock (s : State) (m : BootImg) (restart : Bool) : List Byte :=
  let flags := (rb s SYSCTL_BOOT_STAT_VAULT_LOST).toNat + 2 * (rb s SYSCTL_BOOT_STAT_TESTEN_SEEN).toNat
    + 4 * (rb s SYSCTL_RSTCAUSE_RSTPIN_STUCK).toNat
  [0x48, 0x58, 0x48, 0x4F] ++ leBytes 2 1 ++ leBytes 1 m.copy ++ leBytes 1 restart.toNat
    ++ leBytes 4 (reg s SYSCTL_RSTCAUSE).toNat ++ leBytes 1 (rf s SYSCTL_BOOT_STAT_A_STATUS)
    ++ leBytes 1 (if rb s SYSCTL_BOOT_STAT_B_READ then rf s SYSCTL_BOOT_STAT_B_STATUS else 0xFF)
    ++ leBytes 1 (rf s SYSCTL_BOOT_STAT_CHECK_IDX) ++ leBytes 1 flags
    ++ leBytes 4 m.fwSvn ++ leBytes 4 m.cfgSvn ++ leBytes 4 m.fwImg.length ++ leBytes 4 m.cfgImg.length
    ++ leBytes 4 m.logOff ++ leBytes 4 m.logLen ++ leBytes 4 (s.usec % 2 ^ 32) ++ leBytes 4 0
    ++ slice m.fwRoot 0 48 ++ slice m.cfgRoot 0 48 ++ List.replicate 48 0

/-- The addresses of the images and the handover block in TCM. -/
def fwBase : Nat := 0x10000000
def cfgBase : Nat := 0x100E0000
def blockBase : Nat := 0x101FF000

/-- The watchdog starts with its period, when EN is set (R60). -/
def State.wdtStart (s : State) : State :=
  if rb s SYSCTL_WDT_CTL_EN then s.modBoot fun b => { b with wdtEnd := some (s.usec + 1000 * rf s SYSCTL_WDT_CTL_PERIOD_MS), wdtLeft := 0 }
  else s.modBoot fun b => { b with wdtEnd := none, wdtLeft := 0 }

/-- What only the first handover of a start does: the token check, layer 0, the persistent slots and the journal key (R71, R292, R392,
R393, R424). -/
def State.firstHandover (s : State) : State :=
  let s := s.tokenCheck
  let s := s.modBoot fun b => { b with debugStart := 2 ≤ rf s DEBUG_STAT_LEVEL }
  let s := s.layer0.loadPersist
  s.modJnl fun j => { j with kj := kdf s.keys.l0 (ascii "HX96-JNL") [] 384 }

end Sys2Proof.Machine
end

