-- ==== Sys2Proof/Machine/Lodge.lean ====
section
/-! DEFINITION. The Lodge: rails (R395), zeroisation (R398), sampling and rules (R401 to R408), and its commands (R411). -/

namespace Sys2Proof.Machine

/-! ### Zeroisation -/

/-- A lockdown trigger from the Lodge: at once in GATHER, SERVE and MAINTAIN; in ASSEMBLY it waits for its end (R91, R407). -/
def State.lodgeTrigger (s : State) (cause : Nat) : State :=
  if modeRun s then s.enterLockdown cause
  else if mode s = moASSEMBLY then s.modLodge fun l => { l with ldWait := cause }
  else s

/-- A zeroisation with its cause; with main power the forced erase runs and LOCKDOWN is triggered (R398). -/
def State.zeroise (s : State) (cause : Nat) : State :=
  let s := (s.vaultZeroise cause).raise LODGE_EVT_ZEROISED
  if mode s = moDORMANT then s else s.sameCycle fun s => s.keyZeroise.lodgeTrigger 3

/-! ### Events (R408) -/

def railVbat (s : State) : Bool := rb s LODGE_STAT_RAIL

/-- An event is entered in the ring. -/
def State.lodgeEvent (s : State) (source rule action value : Nat) : State :=
  let n := fieldAt (vaultRead s 76 4) 0 4
  let e := leBytes 4 (rf s LODGE_RTC_SEC_SEC) ++ leBytes 2 (rf s LODGE_RTC_TICK_TICK)
    ++ [BitVec.ofNat 8 source, BitVec.ofNat 8 rule, BitVec.ofNat 8 action, BitVec.ofNat 8 (railVbat s).toNat]
    ++ leBytes 2 value ++ [0, 0, 0, 0]
  (s.vaultWrite (80 + 16 * (n % 11)) e).vaultWrite 76 (leBytes 4 (min (n + 1) 0xFFFFFFFF))

/-! ### Rules (R405, R406) -/

def lRules (s : State) : List LRule := match s.lodge.rules with | some t => t.rules | none => []
def ruleWindow (s : State) (r : Nat) : List Bool := Sparse.get (fun _ => []) s.lodge.windows r
def State.setWindow (s : State) (r : Nat) (w : List Bool) : State :=
  s.modLodge fun l => { l with windows := Sparse.put (fun _ => []) l.windows r w }
def ruleFired (s : State) (r : Nat) : Bool := mapBit s LODGE_FIRED_FIRED r

/-- The rule applies on the present rail. -/
def ruleApplies (s : State) (e : LRule) : Bool := e.whenR.testBit (if railVbat s then 0 else 1)

/-- A rule takes a sample: it keeps the last N, and fires when the count of 1s comes to K and it has not fired (R405). -/
def ruleFires (s : State) (r : Nat) (e : LRule) (one : Bool) : Bool :=
  one && !ruleFired s r && e.k ≤ (((one :: ruleWindow s r).take e.n).filter id).length

def State.ruleSample (s : State) (r : Nat) (e : LRule) (one : Bool) : State :=
  s.setWindow r ((one :: ruleWindow s r).take e.n)

/-- A LOCKDOWN trigger is taken at once: VDD_AON, and GATHER, SERVE or MAINTAIN (R406). -/
def locksNow (s : State) : Bool := !railVbat s && modeRun s

/-- The actions of a rule that fires, after any zeroisation (R406). `now` says that the sample found the mode of a trigger taken at
once, so that the LOCKDOWNs of one sample are one (R407). -/
def State.ruleAct (s : State) (now : Bool) (r : Nat) (e : LRule) (value : Nat) : State :=
  let s := (s.setMapBit LODGE_FIRED_FIRED r true).raise LODGE_EVT_FIRE
  let s := s.lodgeEvent e.source r e.action value
  let s := if e.action.testBit 1 then
      if railVbat s then s.raise LODGE_STAT_WAKE_PEND else s.raise LODGE_EVT_WAKE
    else s
  if e.action.testBit 2 then
    if !now then s.raise LODGE_STAT_LD_PEND
    else if modeRun s then s.enterLockdown 2
    else s
  else s

/-- Every rule whose source is sampled takes its sample; those that fire act together, ZEROISE first, then in ascending index
(R405 to R407). `cond` is a rule's sample and `value` the event value of its source. -/
def State.rulesSample (s : State) (sel : LRule → Bool) (cond : LRule → Bool) (value : LRule → Nat) : State :=
  let live := (lRules s).zipIdx.filter fun (e, _) => sel e && ruleApplies s e
  let fire := live.filter fun (e, r) => ruleFires s r e (cond e)
  let now := locksNow s
  let s := s.each live fun s (e, r) => s.ruleSample r e (cond e)
  let s := match fire.find? fun (e, _) => e.action.testBit 3 with
    | some (_, r) => s.zeroise r
    | none => s
  s.each fire fun s (e, r) => s.ruleAct now r e (value e)

/-! ### Mesh (R402) -/

def pairState (s : State) (p : Nat) : Nat := bitsAt s.lodge.mesh (2 * p) 2
def State.setPair (s : State) (p v : Nat) : State := s.modLodge fun l => { l with mesh := setBits l.mesh (2 * p) 2 v }
def pairUsed (s : State) (p : Nat) : Bool := pairState s p = 1 || pairState s p = 3
def meshSpares (s : State) : List Nat := (List.range 8).filter fun p => pairState s p = 0

/-- LODGE_MESH and the spare counts follow the pairs. -/
def State.showMesh (s : State) : State :=
  let n := (meshSpares s).length
  ((s.setReg LODGE_MESH (BitVec.ofNat 32 s.lodge.mesh)).setF LODGE_STAT_MESH_SPARE n).setF SYSCTL_SPARE_STAT_MESH_SPARE n

/-- The mesh sample: `one` holds the pairs of which one loop fails while its partner returns its own pattern, `both` those of
which both fail or a loop returns its partner's pattern. The flag says whether a pair is TAMPER. DESIGN CHOICE (log entry 158): a spare brought in
in DORMANT, where neither SYSCTL nor the journal runs, sets no bit of SYSCTL_SPARE_EVT and enters no record, then or later. -/
def State.meshSample (s : State) (one both : Nat) : Bool × State :=
  let used := (List.range 8).filter (pairUsed s)
  let failing := used.filter fun p => one.testBit p || both.testBit p
  let s := s.each used fun s p => s.setPair p 1
  match failing with
  | [] => (false, s.showMesh)
  | [p] =>
    if both.testBit p then (true, (s.setPair p 3).showMesh)
    else match meshSpares s with
      | sp :: rest =>
        let s := ((s.setPair p 2).setPair sp 1).raise LODGE_EVT_MESH_WEAR
        let s := if mode s = moDORMANT then s else s.spareUsed SYSCTL_SPARE_EVT_MESH_USED p rest.isEmpty
        (false, (s.lodgeEvent 2 0xFF 0 (2 ^ p)).showMesh)
      | [] => (true, (s.setPair p 3).showMesh)
  | ps => (true, (s.each ps fun s p => s.setPair p 3).showMesh)

/-! ### Samples (R401, R404) -/

/-- The CASE input shows its open level in one read; bit k is CASEk's level, bit 4 TRANSIT_IN's. -/
def caseOpen (t : LRules) (k read : Nat) : Bool := read.testBit k == t.caseCfg.testBit (4 + k)
def transitOn (t : LRules) (read : Nat) : Bool := t.transit.testBit 0 && (read.testBit 4 == t.transit.testBit 1)

/-- The first `d` reads all show the condition. -/
def allReads (d : Nat) (reads : List Nat) (c : Nat → Bool) : Bool := (List.range d).all fun i => c (reads.getD i (reads.getD 0 0))

/-- A burst: the mesh, the enabled case inputs and transit, and the glitch latch, which it clears (R401). Without a rule table only the
latch is read. -/
def execMeshBurst (one both : Nat) (reads : List Nat) (glitch : Bool) (s : State) : Host.Outcome State Fault Refusal :=
  .next (if !s.lodge.sampling then s
    else
      let s := s.setB LODGE_SENSE_GLITCH glitch
      match s.lodge.rules with
      | none => s
      | some t =>
        let last := reads.getD (reads.length - 1) 0
        let cases := bitsAt last 0 4 &&& bitsAt t.caseCfg 0 4
        let s := (s.setF LODGE_SENSE_CASE_LVL cases).setB LODGE_SENSE_TRANSIT_LVL (last.testBit 4)
        let s := s.setB LODGE_STAT_TRANSIT (transitOn t last)
        let used := (List.range 8).filter (pairUsed s)
        let failing := (used.filter fun p => one.testBit p || both.testBit p).foldl (fun v p => v + 2 ^ p) 0
        let (tamper, s) := s.meshSample one both
        s.rulesSample (fun e => e.source = 0x01 || e.source = 0x31 || e.source = 0x40 || (0x10 ≤ e.source && e.source ≤ 0x13))
          (fun e =>
            if e.source = 0x01 then tamper
            else if e.source = 0x31 then glitch
            else if e.source = 0x40 then allReads e.debounce reads (transitOn t)
            else allReads e.debounce reads (caseOpen t (e.source - 0x10)))
          (fun e =>
            if e.source = 0x01 then failing
            else if 0x10 ≤ e.source && e.source ≤ 0x13 then cases
            else 0))

/-- Temperature (as signed bytes) and VBAT (in mV) are measured, each with the reads that DEBOUNCE asks for (R401, R404). A
Lodge without a rule table measures VBAT alone. -/
def execSensorSample (temps mvs : List Nat) (s : State) : Host.Outcome State Fault Refusal :=
  .next (if !s.lodge.sampling then s
    else
      let mv := mvs.getD (mvs.length - 1) 0
      let temp := temps.getD (temps.length - 1) 0
      let s := (s.setF LODGE_SENSE_VBAT_MV mv).setB LODGE_STAT_VBAT_OK (2400 ≤ mv)
      match s.lodge.rules with
      | none => s
      | some t =>
        let s := s.setF LODGE_SENSE_TEMP temp
        s.rulesSample (fun e => e.source = 0x20 || e.source = 0x21 || e.source = 0x30)
          (fun e =>
            if e.source = 0x20 then allReads e.debounce temps fun v => decide (signed8 (v % 256) < t.tempLo)
            else if e.source = 0x21 then allReads e.debounce temps fun v => decide (t.tempHi < signed8 (v % 256))
            else allReads e.debounce mvs fun v => decide (v < t.vbatLo))
          (fun e => if e.source = 0x30 then mv else (signed8 (temp % 256) % 65536).toNat))

/-! ### Rails (R395) -/

/-- VDD_AON falls below 1.62 V: the rail switches to VBAT. -/
def execRailToVbat (s : State) : Host.Outcome State Fault Refusal :=
  .next (if railVbat s then s else (s.raise LODGE_STAT_RAIL).raise LODGE_EVT_RAIL_CHG)

/-- VDD_AON has been above 1.62 V for 1 ms: the rail switches back, and sampling goes on. -/
def execRailToVddAon (s : State) : Host.Outcome State Fault Refusal :=
  .next (if railVbat s then
      ((s.setF LODGE_STAT_RAIL 0).raise LODGE_EVT_RAIL_CHG).modLodge fun l => { l with sampling := true }
    else s)

/-- VBAT falls to `mv` on the VBAT rail: below 2.0 V sampling stops, below 1.6 V the vault is lost. -/
def execVbatBrownout (mv : Nat) (s : State) : Host.Outcome State Fault Refusal :=
  .next (if railVbat s then
      let s := if mv < 2400 then s.setF LODGE_STAT_VBAT_OK 0 else s
      let s := if mv < 2000 then s.modLodge fun l => { l with sampling := false } else s
      if mv < 1600 then s.vaultLoss else s
    else s)

/-- VBAT is back at 2.0 V or above: sampling starts again. -/
def execVbatBrownoutEnd (s : State) : Host.Outcome State Fault Refusal :=
  .next (s.modLodge fun l => { l with sampling := true })

/-! ### Commands (R411) -/

def lodgeIf : CmdIf := ⟨LODGE_CMD_STAT_LAST_OP, LODGE_CMD_STAT_LAST_STATUS, some LODGE_CMD_STAT_RESULT, LODGE_EVT_CMD_DONE⟩

def opAPPLY_RULES : Nat := 1
def opSET_RTC : Nat := 2
def opEVT_ACK : Nat := 3
def opCLEAR_FIRED : Nat := 4

/-- The outcome of a LODGE command; a refusal enters one record. -/
def State.lodgeEnd (s : State) (op : Nat) (c : Code) (result : Nat) : State :=
  let s := s.cmdEnd lodgeIf op c result
  if c = .ok then s else s.journal 6 411 srcLODGE noUnit c

/-- The rule table at ARG, or the index of the entry that fails; `len` is ARG16. -/
def lodgeSection (s : State) (len : Nat) : Except Nat LRules :=
  let a := rf s LODGE_CMD_ARG_ARG
  if inTcm a len && 16 ≤ len && len = 16 + 16 * fieldAt (tcmRead s a 16) 0 1 then parseLRules (tcmRead s a len) else .error 0

/-- LODGE APPLY_RULES: the table is checked and retained; every sample window and FIRED bit is cleared (R407, R411). -/
def execApplyRules (len : Nat) (s : State) : Host.Outcome State Fault Refusal :=
  .next (match lodgeSection s len with
    | .error i => s.lodgeEnd opAPPLY_RULES .malformed i
    | .ok t =>
      if mode s ≠ moASSEMBLY || rb s LODGE_STAT_RULES_APPLIED then s.lodgeEnd opAPPLY_RULES .refusedState 0
      else
        let s := s.modLodge fun l => { l with rules := some t, windows := [] }
        ((s.setF LODGE_FIRED_FIRED 0).raise LODGE_STAT_RULES_APPLIED).lodgeEnd opAPPLY_RULES .ok 0)

/-- LODGE SET_RTC (R411). -/
def execSetRtc (s : State) : Host.Outcome State Fault Refusal :=
  .next (if rb s LODGE_CTRL_LOCK then s.lodgeEnd opSET_RTC .refusedState 0
    else
      let s := (s.setF LODGE_RTC_SEC_SEC (rf s LODGE_CMD_ARG_ARG)).setF LODGE_RTC_TICK_TICK 0
      (s.modLodge fun l => { l with rtcFrac := 0 }).lodgeEnd opSET_RTC .ok 0)

/-- LODGE EVT_ACK: WAKE_PEND is cleared (R409, R411). -/
def execEvtAck (n : Nat) (s : State) : Host.Outcome State Fault Refusal :=
  .next (if 1 ≤ n && n ≤ 11 then (s.setF LODGE_STAT_WAKE_PEND 0).lodgeEnd opEVT_ACK .ok 0
    else s.lodgeEnd opEVT_ACK .malformed 0)

/-- LODGE CLEAR_FIRED (R411). -/
def execClearFired (r : Nat) (s : State) : Host.Outcome State Fault Refusal :=
  .next (if (lRules s).length ≤ r then s.lodgeEnd opCLEAR_FIRED .malformed 0
    else if lockdown s then s.lodgeEnd opCLEAR_FIRED .refusedState 0
    else ((s.setMapBit LODGE_FIRED_FIRED r false).setWindow r []).lodgeEnd opCLEAR_FIRED .ok 0)

/-- The RTC advances by one microsecond: 32,768 ticks make a second. -/
def State.rtcStep (s : State) : State :=
  let f := s.lodge.rtcFrac + 32768
  if f < 1000000 then s.modLodge fun l => { l with rtcFrac := f }
  else
    let s := s.modLodge fun l => { l with rtcFrac := f - 1000000 }
    let t := rf s LODGE_RTC_TICK_TICK + 1
    if t < 32768 then s.setF LODGE_RTC_TICK_TICK t
    else (s.setF LODGE_RTC_TICK_TICK 0).setF LODGE_RTC_SEC_SEC (rf s LODGE_RTC_SEC_SEC + 1)

end Sys2Proof.Machine
end

