-- ==== Sys2Proof/Machine/PlaneOps.lean ====
section
/-! DEFINITION. The isolation of a plane (R22, R23, R25). -/

namespace Sys2Proof.Machine

/-- SIMPLEX follows the plane states; every change of a plane's state sets PLANE_IRQ. -/
def State.setPlaneSt (s : State) (x st : Nat) : State :=
  let s := s.setF (planeFld x) st
  (s.setB SYSCTL_PLANE_STAT_SIMPLEX (simplex s)).raise SYSCTL_PLANE_STAT_PLANE_IRQ

/-- No plane is SERVING any more: the uncovered fault of cause 0x01 (R25, R418). -/
def State.noPlane (s : State) : State := if anyServing s then s else s.uncovered 1 0

/-- A fault of R22 in plane `x`: it is isolated, with one record; a rebuild from it or of it is abandoned (R23, R25).
DESIGN CHOICE (log entry 158): the record of an abandoned rebuild carries ABORTED. -/
def State.isolate (s : State) (x : Nat) : State := s.sameCycle fun s =>
  if serving s x then
    let other := planeSt s (1 - x)
    let s := (s.setPlaneSt x plISOLATED).journal 3 23 (if x = 0 then srcPLANEA else srcPLANEB) x
    let s := if other = plREBUILDING then
        (s.setPlaneSt (1 - x) plISOLATED).journal 3 25 (if x = 0 then srcPLANEB else srcPLANEA) (1 - x) .aborted
      else s
    s.noPlane
  else if planeSt s x = plREBUILDING then
    (s.setPlaneSt x plISOLATED).journal 3 25 (if x = 0 then srcPLANEA else srcPLANEB) x .aborted
  else s

end Sys2Proof.Machine
end

