-- ==== Sys2Proof/Machine/FrameOps.lean ====
section
/-! DEFINITION. The sequencer of a channel: decode, effective address and match (R218 to R230), lines of a read and the plane
compare (R191, R192, R157, R159), and what each action does to the shadow, the capsule and the port (R231 to R236). -/

namespace Sys2Proof.Machine

/-! ### Decode (R218, R219) -/

/-- The opcode of a frame: the remembered one under continuous read; a frame whose form does not agree with CONT_READ is
none (R183, R219). -/
def frameOpcode (s : State) (f : Frame) : Option Nat :=
  if rb s (CH_PORT_STAT_CONT_READ f.ch) then (if f.opcode.isNone then (chanOf s f.ch).contOp else none) else f.opcode

/-- The row is in force in the protocol state (R218, R219). -/
def rowInForce (s : State) (ch : Nat) (r : List Byte) : Bool :=
  (if rb s (CH_PORT_STAT_OCTAL_8D ch) then rowSt8d r
   else if rb s (CH_PORT_STAT_QPI ch) then rowStQpi r else rowSt1s r)
    && (!rowNeedsQe r || roleBit s ch roleQE true)

/-- The class a row is handled as. -/
def classOf (s : State) (ch : Nat) (r : List Byte) : Nat := if rowInForce s ch r then rowClass r else 15

/-- While WIP is set and SUSPENDED is clear, a row is ignored unless it is a status read, suspend, reset-enable or reset
frame or has BUSY_OK; a program or erase is ignored whenever WIP is set (R197). -/
def busyIgnores (s : State) (ch cls : Nat) (r : List Byte) : Bool :=
  rb s (CH_PORT_STAT_WIP ch)
    && (cls = 1 || cls = 2 || cls = 3
      || (!rb s (CH_PORT_STAT_SUSPENDED ch) && !(cls = 6 || cls = 10 || cls = 12 || cls = 13) && !(cls ≠ 15 && rowBusyOk r)))

/-- CHn_TR_LASTDEC takes the decision word of a frame (R235). -/
def State.lastDec (s : State) (ch opcode cls act region : Nat) : State :=
  (((s.setF (CH_TR_LASTDEC_OPCODE ch) opcode).setF (CH_TR_LASTDEC_CLASS ch) cls).setF (CH_TR_LASTDEC_ACTION ch) act).setF
    (CH_TR_LASTDEC_REGION ch) region

/-- The effective address (R229). -/
def effAddr (s : State) (ch : Nat) (p : Prog) (r : List Byte) (a : Nat) : Nat :=
  let four := rowAddr r = 4 || (rowAddr r = 7 && rb s (CH_PORT_STAT_ADDR4 ch))
  if four then a % p.devSize
  else
    let x := if p.earReg = 0xFF then 0 else emuReg s ch p.earReg
    (x * 2 ^ 24 + a % 2 ^ 24) % p.devSize

/-! ### Match (R230) -/

/-- The action of the 4 KiB block of address `a` for an addressed class: nibble, region entry or 0xFF, fill byte. -/
def blockAct (p : Prog) (cls a : Nat) : Nat × Nat × Byte :=
  match p.regionAt a with
  | some (j, r) => (r.nibble cls, j, r.fill)
  | none => (p.globalAct cls, 0xFF, p.defFill)

/-- Primary actions (R221). -/
def acPINNED : Nat := 0
def acSHADOW : Nat := 1
def acWRITE : Nat := 2
def acCAPSULE : Nat := 3
def acDENYFILL : Nat := 4
def acSILENT : Nat := 5
def acEMULATE : Nat := 6

/-- DENY_FILL with ALERT. -/
def acDenyAlert : Nat := 12

/-- The action of a program or erase over a range: the common primary with ALERT if any part has it, else DENY_FILL with
ALERT; with the region of its first block (R230). -/
def rangeAct (p : Prog) (cls lo len : Nat) : Nat × Nat :=
  let parts := (blocksOf lo len).map fun b => blockAct p cls (4096 * b)
  match parts with
  | [] => (acDenyAlert, 0xFF)
  | (n, j, _) :: t =>
    if t.all fun (m, _, _) => m % 8 = n % 8 then
      (n % 8 + (if parts.any fun (m, _, _) => 8 ≤ m then 8 else 0), j)
    else (acDenyAlert, j)

/-! ### Lines of a read (R191, R192, R157, R159, R160) -/

/-- A MAC failure of plane `x` is counted and reported to MEMINT (R159, R272). -/
def State.planeMacFail (s : State) (x : Nat) : State :=
  (s.countMac x).macFailure

/-- The hot-tier word of a line is refilled from the plane's own DRAM line (R157). -/
def State.hotRefill (s : State) (x e off : Nat) : State :=
  let o := off / 64 * 64
  let a := (extOf s e).base + o
  let m := planeOf s x
  let b := (List.range 64).map fun i => Sparse.get dramFill m.mem (a + i)
  (s.setPlane x (m.putBytes a b true)).bump (PLANE_HOTFIX_LO x) (PLANE_HOTFIX_HI x) ORANGERY_EVT_SAT (srcPlane x)

/-- What was observed of plane `x`'s line. -/
def obsFail (o : LineObs) (x : Nat) : Bool := if x = 0 then o.failA else o.failB
def obsHot (o : LineObs) (x : Nat) : Bool := if x = 0 then o.hotA else o.hotB
def obsLate (o : LineObs) (x : Nat) : Bool := if x = 0 then o.lateA else o.lateB

/-- Plane `x`'s DRAM line fails its check (R149, R152). -/
def macBad (s : State) (o : LineObs) (x e off : Nat) : Bool := obsFail o x || !lineFresh s x e off

/-- Plane `x`'s line is FAIL (R191); `hot` says that it is read from the hot tier. -/
def lineBad (s : State) (o : LineObs) (x e off : Nat) (hot : Bool) : Bool :=
  if hot then obsHot o x || obsFail o x else macBad s o x e off

/-- A host read met an uncorrectable word in the hot copy of a line in plane `x`: class 6 reports it, and its row is retired (R272, R277).
DESIGN CHOICE (log entry 157): the word is the line's first, in the layout that `hotBad` reads. -/
def State.hotUe (s : State) (x e off : Nat) : State :=
  let a := (extOf s e).base + off / 64 * 64
  match (List.range s.orang.grans.length).find? fun g => s.orang.grans[g]? = some (a / 4096) with
  | none => s
  | some g =>
    let mid := (if x = 0 then 24 else 120) + g / 64
    let w := (g % 64 * 4096 + a % 4096) / 8
    (s.uncorrectable 6 mid (w / 16) (w % 16)).when (classInit s 6) (·.retireRow mid (w / 16))

/-- Plane `x` failed a line that the other plane passed (R157, R159). -/
def State.repairLine (s : State) (x e off : Nat) (hot : Bool) (o : LineObs) : State := s.sameCycle fun s =>
  let s := s.when (hot && obsHot o x) (·.hotUe x e off)
  if hot && obsHot o x then
    (if macBad s o x e off then (s.planeMacFail x).mirrorLine x e off else s).hotRefill x e off
  else (s.planeMacFail x).mirrorLine x e off

/-- The planes `xs` failed a line and no plane passed it: a hot-tier word is refilled from its plane's DRAM line where that passes, and
repairs the other plane's; otherwise every plane's failure counts and the leaf is refetched (R157, R160). -/
def State.failLine (s : State) (xs : List Nat) (e off : Nat) (hot : Bool) (o : LineObs) : State := s.sameCycle fun s =>
  let own (x : Nat) : Bool := hot && obsHot o x && !macBad s o x e off
  match xs.find? own with
  | some y =>
    s.each (y :: xs.filter (· ≠ y)) fun s x => if own x then (s.hotUe x e off).hotRefill x e off else s.repairLine x e off hot o
  | none => (s.each xs fun s x => (s.when (hot && obsHot o x) (·.hotUe x e off)).planeMacFail x).needRefetchFor e (off / 4096) (if hot then xs.filter (obsHot o) else [])

/-- The line that two passing planes show differently: DISAGREE, its count, one record, the leaf refetched (R192). -/
def State.disagree (s : State) (ch e off : Nat) : State :=
  let s := (s.raise (CH_PORT_EVT_DISAGREE ch)).bump (CH_DISAGREE_LO ch) (CH_DISAGREE_HI ch) (CH_PORT_EVT_SAT ch) srcCHAN
  (s.journalD 3 192 srcCHAN ch 0 0 (leBytes 4 off)).needRefetch e (off / 4096)

/-- What the planes showed for a line of the stream. -/
def obsOf (ls : List LineObs) (k : Nat) : LineObs :=
  (ls.find? (·.line = k)).getD { line := k, failA := false, failB := false, diff := none, hotA := false, hotB := false, lateA := false, lateB := false }

/-- A line of plane `x` that arrived within the bound restarts the count of R193. -/
def State.inTime (s : State) (o : LineObs) : State :=
  { s with
    lateA := if serving s 0 && !o.lateA then 0 else s.lateA
    lateB := if serving s 1 && !o.lateB then 0 else s.lateB }

def lateOf (s : State) (x : Nat) : Nat := if x = 0 then s.lateA else s.lateB
def State.setLate (s : State) (x n : Nat) : State := if x = 0 then { s with lateA := n } else { s with lateB := n }

/-- One more late line of each plane of `xs` in succession; the 16th isolates the plane (R193, R22). -/
def State.lateLines (s : State) (xs : List Nat) : State :=
  s.each xs fun s x => if 16 ≤ lateOf s x + 1 then (s.setLate x 0).isolate x else s.setLate x (lateOf s x + 1)

/-- What the planes gave of a line: the state behind the port, the bytes, the first poisoned one, and that no line arrived in time. -/
structure Served where
  st : State
  bytes : List Byte
  poison : Option Nat := none
  late : Bool := false

/-- `n` bytes of one line of extent `e` from byte `off` as the front end decides them (R191, R192); `pin` allows the hot tier (R231). A lost
leaf is poison with nothing more done (R161). DESIGN CHOICE (log entry 155): where one plane's line is late and the other's is FAIL, the
byte is poisoned and the leaf refetched without waiting for the late line (R193). Every line restarts or advances its plane's count of late
lines; that of a late line beside a passing one is LINE_LATE's. -/
def State.serveLine (s : State) (ch e off n : Nat) (pin : Bool) (o : LineObs) : Served :=
  let hot := pin && inHot s e off
  let tardy := [0, 1].filter fun x => serving s x && obsLate o x
  let bytes (x : Nat) := (List.range n).map fun i => planeByteIn s x e (off + i) hot
  let xs := [0, 1].filter fun x => serving s x && !obsLate o x
  let bad := xs.filter fun x => lineBad s o x e off hot
  let alone := tardy.length = 1 && xs.length = 1 && bad.isEmpty
  let s := s.inTime o
  let s := if alone then s else s.lateLines tardy
  if s.orang.lost.contains (e, off / 4096) then { st := s, bytes := bytes 0, poison := some 0 }
  else match xs.filter fun x => !lineBad s o x e off hot with
    | x :: y :: _ =>
      let seen := match o.diff with
        | some d => if off % 64 ≤ d && d - off % 64 < n then some (d - off % 64) else none
        | none => none
      let held := (List.range n).find? fun i => (bytes x).getD i 0 ≠ (bytes y).getD i 0
      match seen, held with
      | none, none => { st := s, bytes := bytes x }
      | some d, none => { st := s.disagree ch e off, bytes := bytes x, poison := some d }
      | none, some d => { st := s.disagree ch e off, bytes := bytes x, poison := some d }
      | some d, some d' => { st := s.disagree ch e off, bytes := bytes x, poison := some (min d d') }
    | [x] => { st := s.each bad fun s y => s.repairLine y e off hot o, bytes := bytes x }
    | [] =>
      if xs.isEmpty then { st := s, bytes := List.replicate n 0, poison := some 0, late := anyServing s }
      else { st := s.failLine xs e off hot o, bytes := bytes 0, poison := some 0 }

/-- What a stream has given so far: the leaves whose lines no plane gave, and of each line its bytes, extent and epoch (R152). -/
structure Stream where
  st : State
  bytes : List Byte := []
  poison : Option Nat := none
  late : Option Nat := none
  denied : Bool := false
  unmapped : Bool := false
  alert : Bool := false
  leaves : List (Nat × Nat) := []
  parts : List (Nat × Nat × Nat) := []

/-- The first of two optional byte positions is kept; a new one counts from the stream's bytes so far. -/
def firstAt (old : Option Nat) (n : Nat) (new : Option Nat) : Option Nat :=
  match old with | some q => some q | none => new.map (n + ·)

/-- `n` bytes of one line of the stream of a READ, at channel address `a`: served, filled, or filled for want of an extent
(R230, R231, R234). -/
def Stream.addLine (t : Stream) (ch : Nat) (p : Prog) (a n k : Nat) (ls : List LineObs) : Stream :=
  let (act, _, fill) := blockAct p 0 a
  let al := t.alert || 8 ≤ act
  let t := { t with alert := al }
  if act % 8 = acPINNED || act % 8 = acSHADOW then
    match extAt t.st ch a with
    | some e =>
      let off := a - (extOf t.st e).chanOff
      let o := obsOf ls k
      let v := t.st.serveLine ch e off n (act % 8 = acPINNED) o
      { t with
        st := v.st
        bytes := t.bytes ++ v.bytes
        poison := firstAt t.poison t.bytes.length (if v.late then none else v.poison)
        late := firstAt t.late t.bytes.length (if v.late then some 0 else none)
        leaves := if v.poison.isSome then t.leaves ++ [(e, off / 4096)] else t.leaves
        parts := t.parts ++ [(n, e, (freshTag v.st e (off / 4096)).epoch)] }
    | none => { t with bytes := t.bytes ++ List.replicate n fill, unmapped := true, parts := t.parts ++ [(n, 3072, 0)] }
  else
    { t with bytes := t.bytes ++ List.replicate n fill, denied := t.denied || act % 8 = acDENYFILL, parts := t.parts ++ [(n, 3072, 0)] }

/-- A line requested ahead of shift-out: fetched, checked and repaired, and then discarded (R190). -/
def Stream.ahead (t : Stream) (ch : Nat) (p : Prog) (a n k : Nat) (ls : List LineObs) : Stream :=
  let (act, _, _) := blockAct p 0 a
  if act % 8 = acPINNED || act % 8 = acSHADOW then
    match extAt t.st ch a with
    | some e => { t with st := (t.st.serveLine ch e (a - (extOf t.st e).chanOff) n (act % 8 = acPINNED) (obsOf ls k)).st }
    | none => t
  else t

/-- The lines of a stream of `n` bytes from address `a` of a device of `size` bytes: address, bytes, line number (R184). -/
def streamLines (size : Nat) : Nat → Nat → Nat → Nat → List (Nat × Nat × Nat)
  | 0, _, _, _ => []
  | fuel + 1, a, n, k =>
    if n = 0 then []
    else
      let m := min n (64 - a % 64)
      (a, m, k) :: streamLines size fuel ((a + m) % size) (n - m) (k + 1)

/-- The stream of `n` bytes from EA (R184, R190, R230). -/
def State.readStream (s : State) (ch : Nat) (p : Prog) (ea n : Nat) (ls : List LineObs) : Stream :=
  (streamLines p.devSize (n / 64 + 2) ea n 0).foldl (fun (t : Stream) (a, m, k) => t.addLine ch p a m k ls) { st := s }

/-- The lines of the 512 bytes beyond the `n` shifted out, from the first that none of these touches: MATCH runs for each block that they
enter (R190, R228). -/
def Stream.window (t : Stream) (ch : Nat) (p : Prog) (ea n : Nat) (ls : List LineObs) : Stream :=
  let skip := if n = 0 then 0 else (64 - (ea + n) % 64) % 64
  let done := (streamLines p.devSize (n / 64 + 2) ea n 0).length
  if 512 ≤ skip then t
  else (streamLines p.devSize 10 ((ea + n + skip) % p.devSize) (512 - skip) done).foldl (fun (t : Stream) (a, m, k) => t.ahead ch p a m k ls) t

/-! ### Denials, alerts and mismatches -/

/-- A DENY_FILL or DENY_SILENT action executed; counted in CHn_TR_DENY where R231 says so. -/
def State.deny (s : State) (ch : Nat) (count : Bool) : State :=
  let s := s.raise (CH_TR_EVT_DENIED ch)
  if count then s.bump (CH_TR_DENY_LO ch) (CH_TR_DENY_HI ch) (CH_TR_EVT_SAT ch) srcCHAN else s

/-- The alert with cause 0x03 where the row or the action asks for it, once per frame (R218, R221). -/
def State.alertIf (s : State) (ch : Nat) (b : Bool) : State := if b then s.alert ch 3 else s

/-- A plane reads a word of the table RAM that holds channel `ch`'s serving program as poison, so that it has no decision to compare (R271). The
words that hold a bank's program are free (`Config.tableWord`, log entry 157). -/
def tableWordBad (s : State) (ch : Nat) : Bool :=
  s.mem.flipBad.any fun (c, x, w) => c = 8 && serving s x && Config.tableWord ch (rf s (CH_TR_STAT_ACTIVE_BANK ch)) w

/-- The planes' decision words differ; no word is compared in simplex (R235). -/
def decDiffers (s : State) (ch : Nat) (seen : Bool) : Bool := serving s 0 && serving s 1 && (seen || tableWordBad s ch)

/-- The planes' decision words differed: DECIDE_MISMATCH and one record; no word is compared in simplex (R235). -/
def decMismatch (s : State) (f : Frame) : Bool := decDiffers s f.ch f.decDiffer

def State.decideMismatch (s : State) (ch : Nat) : State :=
  (s.raise (CH_TR_EVT_DECIDE_MISMATCH ch)).journal 3 235 srcCHAN ch

/-- The failure bit of a program, or of an erase. -/
def failRole (kind : Nat) : Nat := if kind = 1 then rolePFAIL else roleEFAIL

/-- A program or erase executed as DENY_FILL: nothing changes, WEL clears, the failure bit is set, the frame is counted, the
alert raised with the cause where asked for (R231). -/
def State.denyWrite (s : State) (ch kind : Nat) (al : Bool) (cause : Nat) : State :=
  let s := ((s.setF (CH_PORT_STAT_WEL ch) 0).setRole ch (failRole kind) true).deny ch true
  if al then s.alert ch cause else s

/-! ### Accepted programs and erases (R194, R196, R236) -/

/-- The range touches one whose operation is suspended (R196). -/
def touchesSuspended (s : State) (ch lo len : Nat) : Bool :=
  (chanOf s ch).ops.any fun o => o.suspended && overlap o.lo o.len lo len

/-- An accepted program or erase: its failure bit clears, WIP is set, the operation joins the list. On eSPI the emulated
minimum holds only for DENY_SILENT, and a request whose completion point is reached completes at once (R208, R225, R231,
R236). -/
def State.startOp (s : State) (ch kind lo len : Nat) (tag : Option Nat) (wt : List Nat) (silent : Bool) (cap : Bool := false) : State :=
  let s := (s.setRole ch (failRole kind) false).raise (CH_PORT_STAT_WIP ch)
  let s := s.modChan ch fun c => { c with
    ops := c.ops ++ [{ kind, lo, len, minDone := tag.isSome && !silent, compDone := wt.isEmpty, suspended := false, tag, wt, cap }] }
  if tag.isSome then s.opEnd ch else s

/-- The pieces of a channel range in valid WRITABLE extents: extent, offset and length; none when a line lies in no such
extent (R146, R232). -/
def wtPieces (s : State) (ch lo len : Nat) : Option (List (Nat × Nat × Nat)) :=
  let es := s.orang.exts.filter fun (_, x) => x.valid && x.writable && x.channel = ch && overlap x.chanOff x.len lo len
  let ps := es.map fun (e, x) =>
    let a := max lo x.chanOff
    (e, a - x.chanOff, min (lo + len) (x.chanOff + x.len) - a)
  if (ps.map (·.2.2)).foldl (· + ·) 0 = len then some ps else none

/-- The byte that a program of `din` at EA places at page offset `o`: the last byte received there among the last page-size
bytes (R204). -/
def pageByte (page ea : Nat) (din : List Byte) (o : Nat) : Option Byte :=
  let first := (o + page - ea % page) % page
  if din.length ≤ first then none else din[first + page * ((din.length - 1 - first) / page)]?

/-- The touched span of a program: lowest touched offset in the page and the bytes from there to the highest, none where an
address between was not received. -/
def pageSpan (page ea : Nat) (din : List Byte) : Nat × List (Option Byte) :=
  let img := (List.range page).map (pageByte page ea din)
  let lo := (img.findIdx? (·.isSome)).getD 0
  let hi := ((img.zipIdx).filter (·.1.isSome)).foldl (fun m (_, i) => max m i) 0
  (lo, (img.drop lo).take (hi + 1 - lo))

/-- Old bytes AND received bytes (R232, R233). -/
def andBytes (old : List Byte) (new : List (Option Byte)) : List Byte :=
  List.zipWith (fun o n => match n with | some b => o &&& b | none => o) old new

/-- What a write frame asks for: kind, range in the device, and for a program the bytes received over it. -/
structure WriteReq where
  kind : Nat
  lo : Nat
  len : Nat
  data : List (Option Byte)
  tag : Option Nat
  lines : List LineObs := []
  recheck : List LineObs := []

/-- The old contents of a program's pieces, read as a host read would be: the state behind the port, the bytes, and the flag that every byte
was delivered checked (R232). -/
def State.oldBytes (s : State) (ch : Nat) (ls : List LineObs) : Nat → List (Nat × Nat × Nat) → State × List (List Byte) × Bool
  | _, [] => (s, [], true)
  | k, (e, off, len) :: t =>
    let lines := streamLines (off + len + 64) (len / 64 + 2) off len k
    let (s, bs, ok) := lines.foldl (fun (acc : State × List Byte × Bool) (a, m, k) =>
      let v := acc.1.serveLine ch e a m true (obsOf ls k)
      (v.st, acc.2.1 ++ v.bytes, acc.2.2 && v.poison.isNone)) (s, [], true)
    let (s, rest, ok') := s.oldBytes ch ls (k + lines.length) t
    (s, bs :: rest, ok && ok')

/-- The lines of extent `e` that were seen to fail the re-check of R153, by plane and line; the observations count lines of the device. -/
def recheckBad (s : State) (e : Nat) (os : List LineObs) : List (Nat × Nat) :=
  let x := extOf s e
  (os.filter fun o => x.chanOff ≤ 64 * o.line && 64 * o.line < x.chanOff + x.len).flatMap fun o =>
    let l := o.line - x.chanOff / 64
    (if o.failA then [(0, l)] else []) ++ (if o.failB then [(1, l)] else [])

/-- WRITE_THROUGH (R232): refused as DENY_FILL with ALERT outside WRITABLE extents (PROG_CONFLICT) or when old contents cannot
be delivered checked; else written through. -/
def State.writeThrough (s : State) (ch : Nat) (q : WriteReq) (al : Bool) : State × Bool :=
  let s := s.bump (CH_TR_WT_LO ch) (CH_TR_WT_HI ch) (CH_TR_EVT_SAT ch) srcCHAN
  match wtPieces s ch q.lo q.len with
  | none => ((s.raise (CH_TR_EVT_PROG_CONFLICT ch)).denyWrite ch q.kind true 3, false)
  | some ps =>
    let (s, olds, ok) := if q.kind = 1 then s.oldBytes ch q.lines 0 ps else (s, ps.map fun _ => [], true)
    if !ok then (s.denyWrite ch q.kind true 3, false)
    else
      let s := if al then s.alert ch 3 else s
      let frame := s.orang.wtIx
      let (ids, s) := (ps.zip olds).foldl (fun (acc : List Nat × State) (p, old) =>
        let (ids, s) := acc
        let (e, off, len) := p
        let new := (q.data.drop ((extOf s e).chanOff + off - q.lo)).take len
        let data := if q.kind = 1 then andBytes old new else List.replicate len 0xFF
        let (id, s) := s.wtStart ch e q.kind off frame data (recheckBad s e q.recheck)
        (ids ++ [id], s)) ([], s)
      (s.startOp ch q.kind q.lo q.len q.tag ids false, true)

/-- The channel's capsule object, by handle. -/
def capsuleOf (s : State) (ch : Nat) : Option (Nat × StageObj) :=
  s.orang.stage.findSome? fun (h, o) => match o with
    | some x => if x.capsule = some ch then some (h, x) else none
    | none => none

/-- A refused capsule write (R233): DENY_FILL with ALERT, CAPSULE_REFUSED, one record. -/
def State.capsuleRefuse (s : State) (ch kind cause : Nat) : State :=
  ((s.raise (CH_TR_EVT_CAPSULE_REFUSED ch)).journal 3 233 srcCHAN ch).denyWrite ch kind true cause

/-- STAGE_CAPSULE (R233) into region entry `j`. -/
def State.stageCapsule (s : State) (ch : Nat) (p : Prog) (j : Nat) (q : WriteReq) (al : Bool) : State × Bool :=
  if j = 0xFF then (s.capsuleRefuse ch q.kind 3, false)
  else
    let r := p.region j
    let got := match capsuleOf s ch with
      | some (h, _) => some (h, s)
      | none =>
        match s.stageAlloc ((r.length + 1048575) / 1048576) (some ch) with
        | some (h, s) =>
          some (h, (((s.raise (CH_TR_EVT_CAPSULE ch)).setF (CH_TR_CAP_HANDLE ch) h).setF (CH_TR_CAP_REGION ch) j).setF
            (CH_TR_CAP_BLOCKS ch) 0)
        | none => none
    match got with
    | none => (s.capsuleRefuse ch q.kind 3, false)
    | some (h, s) =>
      match stageOf s h with
      | none => (s, false)
      | some o =>
        let off := q.lo - r.start
        if o.mib * 1048576 < off + q.len then (s.capsuleRefuse ch q.kind 3, false)
        else
          let s := if al then s.alert ch 3 else s
          let data := if q.kind = 1 then andBytes (stageBytes o off q.len) q.data else List.replicate q.len 0xFF
          let blocks := ((chanOf s ch).capBlocks ++ blocksOf off q.len).eraseDups
          let s := ((s.setStage h (some (o.write off data))).modChan ch fun c => { c with capBlocks := blocks }).setF
            (CH_TR_CAP_BLOCKS ch) blocks.length
          (s.startOp ch q.kind q.lo q.len q.tag [] false true, true)

/-- The action applied to a write frame, before R232 and R233 (R234, R235, R418): its nibble and the alert's cause. -/
def writeAct (s : State) (act : Nat) (differ : Bool) : Nat × Nat :=
  if differ || !anyServing s then (acDenyAlert, 3)
  else if lockdown s && (act % 8 = acWRITE || act % 8 = acCAPSULE) then (acDenyAlert, 4)
  else (act, 3)

/-- One PROGRAM, ERASE_SECTOR or ERASE_CHIP frame, or eSPI request, of region entry `j` at ACT and COMPLETE; the flag says that
it was accepted. -/
def State.writeFrame (s : State) (ch : Nat) (p : Prog) (opcode cls act j : Nat) (rowAl differ : Bool) (q : WriteReq) :
    State × Bool :=
  let (act', cause) := writeAct s act differ
  let al := rowAl || 8 ≤ act'
  let s := if differ then s.decideMismatch ch else s
  let s := if act % 8 = acCAPSULE && lockdown s && !differ && anyServing s then
      (s.raise (CH_TR_EVT_CAPSULE_REFUSED ch)).journal 3 233 srcCHAN ch else s
  let (s, ok) :=
    if act' % 8 = acWRITE then s.writeThrough ch q al
    else if act' % 8 = acCAPSULE then s.stageCapsule ch p j q al
    else if act' % 8 = acSILENT then
      (((if al then s.alert ch 3 else s).deny ch true).startOp ch q.kind q.lo q.len q.tag [] true, true)
    else (s.denyWrite ch q.kind al cause, false)
  let shown := if act' % 8 = acSILENT || ok then act' else acDenyAlert
  (s.lastDec ch opcode cls (if act' % 8 = acDENYFILL then act' else shown) j, ok)

/-- UNMAPPED is set and counted (R234). -/
def State.noExtent (s : State) (ch : Nat) : State :=
  (s.raise (CH_TR_EVT_UNMAPPED ch)).modChan ch fun c => { c with unmapped := min (c.unmapped + 1) (2 ^ 48 - 1) }

/-- The DRAM scrubber's check of one line: repaired from the other plane, or refetched (R159, R160, R274). -/
def State.scrubLine (s : State) (e off : Nat) (failA failB : Bool) : State :=
  let o := { obsOf [] 0 with failA, failB }
  let xs := [0, 1].filter (serving s)
  let bad := xs.filter fun x => macBad s o x e off
  if bad.length < xs.length then s.each bad fun s x => s.repairLine x e off false o
  else if xs.isEmpty || s.orang.lost.contains (e, off / 4096) then s
  else s.failLine xs e off false o

end Sys2Proof.Machine
end

