-- ==== Sys2Proof/Machine/RegOps.lean ====
section
/-! DEFINITION. A write or read of a register by its access codes (R4, R5, R9, R10). -/

namespace Sys2Proof.Machine

/-- The row of the register map for an address; none for an unassigned offset. -/
def regRow (a : Nat) : Option RegRow :=
  regMap.find? fun r => r.base ≤ a && a < r.base + r.stride * r.count && (a - r.base) % r.stride = 0

/-- The address ranges of the register blocks (R30). -/
def blockRanges : List (Nat × Nat) :=
  [(0x40000000, 0xE0000), (0x40100000, 0x80000), (0x40200000, 0x18000), (0x40300000, 0x10000), (0x40400000, 0x10000)]

/-- The address lies in a register block. -/
def inBlocks (a : Nat) : Bool := blockRanges.any fun (b, n) => b ≤ a && a < b + n

def bootRomSize : Nat := 0x80000

/-- Bits [23:16] of a block's base address; the CHAN and plane blocks take more than one such value. -/
def srcOfAddr (a : Nat) : Nat :=
  if 0x40200000 ≤ a && a < 0x40218000 then srcCHAN
  else if 0x40140000 ≤ a && a < 0x40180000 then srcPLANEB
  else if 0x40100000 ≤ a && a < 0x40140000 then srcPLANEA
  else (a / 65536) % 256

/-- The register that holds a block's LOCK and LOCK_VIOL bits: LOCK is bit 0 and LOCK_VIOL bit 1 of it. -/
def lockReg (a : Nat) : Option Nat :=
  let b := a / 65536 * 65536
  if b = 0x40000000 then some SYSCTL_LOCK
  else if [RNG_CTRL, MEMINT_CTRL, KIOSK_CTRL, MTRANS_CTRL, LODGE_CTRL, GATE_CTRL, LOADER_CTRL, ORANGERY_CTRL, FBUS_CTRL,
      JOURNAL_CTRL].contains b then some b
  else none

/-- The lock bit of the block of `a` is set. -/
def lockedAt (s : State) (a : Nat) : Bool :=
  match lockReg a with | some r => rb s ⟨r, 0, 1⟩ | none => false

/-- The present value of a field of a word. -/
def fieldOf (w : Nat) (f : FldRow) : Nat := bitsAt w f.lo f.wid

/-- What one field holds after a write of `w` over `old` (R4, R10). -/
def writeField (locked : Bool) (old w : Nat) (f : FldRow) : Nat :=
  let o := fieldOf old f
  let v := fieldOf w f
  match f.acc with
  | .ro => o
  | .rc => o
  | .wo => 0
  | .rw => v
  | .rwl => if locked then o else v
  | .w1c => o &&& ((2 ^ f.wid - 1) - v)
  | .w1s => o ||| v

/-- The write would change an RWL field of a locked block (R5). -/
def lockBreak (locked : Bool) (old w : Nat) (fs : List FldRow) : Bool :=
  locked && fs.any fun f => f.acc = .rwl && fieldOf old f ≠ fieldOf w f

/-- LOCK_VIOL is set and one record names the block and offset (R5). -/
def State.lockViol (s : State) (a : Nat) : State :=
  match lockReg a with
  | some r => (s.raise ⟨r, 1, 1⟩).journalD 6 5 (srcOfAddr a) noUnit 0 0 (leBytes 4 (a % 65536))
  | none => s

/-- A write of a register by its access codes; an unassigned offset is ignored (R4, R5, R9, R10). -/
def State.regWrite (s : State) (a w : Nat) : State :=
  match regRow a with
  | none => s
  | some r =>
    let old := (reg s a).toNat
    let locked := lockedAt s a
    let new := r.flds.foldl (fun v f => setBits v f.lo f.wid (writeField locked old w f)) old
    let t := s.setReg a (BitVec.ofNat 32 new)
    if lockBreak locked old w r.flds then t.lockViol a else t

/-- The value of the fields of a register that an ordinary read returns: WO fields read as zero (R4). -/
def regRead (s : State) (a : Nat) : Word :=
  match regRow a with
  | none => 0
  | some r =>
    BitVec.ofNat 32 (r.flds.foldl (fun v f =>
      setBits v f.lo f.wid (if f.acc = .wo then 0 else fieldOf (reg s a).toNat f)) 0)

end Sys2Proof.Machine
end

