-- ==== Sys2Proof/Machine/Memint.lean ====
section
/-! DEFINITION. Memory integrity: MEMINT commands (R270, R280 to R282), flip masks (R271), the scrubbers (R273 to R275) and
the buckets' leak (R272). -/

namespace Sys2Proof.Machine

def memintIf : CmdIf := ⟨MEMINT_CMD_STAT_LAST_OP, MEMINT_CMD_STAT_LAST_STATUS, some MEMINT_CMD_STAT_RESULT, MEMINT_EVT_CMD_DONE⟩

def opFILL : Nat := 1
def opMARK_INIT : Nat := 2
def opRETIRE_ROW : Nat := 3
def opCOMMIT_REPAIR : Nat := 4
def opAPPLY_BOUNDS : Nat := 5

/-- The outcome of a refused MEMINT command: one record (R282). -/
def State.memRefuse (s : State) (op : Nat) (c : Code) (result : Nat := 0) : State :=
  (if c = .busyRetry then s.cmdRefuse memintIf op c else s.cmdEnd memintIf op c result).journal 4 282 srcMEMINT noUnit c

def memArg0 (s : State) : Nat := rf s MEMINT_CMD_ARG0_ARG
def memArg1 (s : State) : Nat := rf s MEMINT_CMD_ARG1_ARG

/-! ### FILL and MARK_INIT (R270, R282) -/

def fillClass (c : Nat) : Bool := 4 ≤ c && c ≤ 11
def filling (s : State) (c : Nat) : Bool := s.mem.fills.any (·.1 = c)

def fillCode (s : State) (c : Nat) : Option Code :=
  firstCode [(!fillClass c, .malformed), (classInit s c || mode s ≠ moASSEMBLY || filling s c, .refusedState)]

/-- The pattern of a FILL: ARG1:ARG0, and ARG0 for a (39,32) class (R270). -/
def fillPattern (s : State) (c : Nat) : Nat :=
  (reg s MEMINT_CMD_ARG0).toNat + (if rowWords c = 32 then 0 else 2 ^ 32 * (reg s MEMINT_CMD_ARG1).toNat)

/-- MEMINT FILL. -/
def execFill (cls : Nat) (s : State) : Host.Outcome State Fault Refusal :=
  .next (match fillCode s cls with
    | some c => s.memRefuse opFILL c
    | none => (s.modMem fun m => { m with fills := m.fills ++ [(cls, false, fillPattern s cls)] }).raise MEMINT_STAT_FILL_BUSY)

/-- The words of a mailbox take a fill's pattern, its state word in the bits that are no view of others. -/
def State.fillBox (s : State) (pat tn : Nat) : State :=
  let s := (s.setReg (TN_REQ tn) (BitVec.ofNat 32 pat)).setReg (TN_STAT tn) (BitVec.ofNat 32 (pat % 16 + 16 * (rf s (TN_STAT_BOUND tn))))
  let s := s.each [4, 8, 12] fun s o => s.setReg (TN_REQ tn + o) (BitVec.ofNat 32 pat)
  let s := s.setReg (TN_IRQ_EN tn) (BitVec.ofNat 32 (pat % 4))
  ((s.setReg (TN_DB_IN tn) (BitVec.ofNat 32 pat)).setReg (TN_DB_OUT tn) (BitVec.ofNat 32 pat)).setB (TN_STAT_DB_OUT_PEND tn)
    (pat ≠ 0)

/-- What a completed fill leaves in the class: every word at the pattern and without poison, the mailbox words among them (R268, R270). The
words of the other classes are read only where they have been written since (R130, R153, R156, R234, R423). -/
def State.filled (s : State) (c pat : Nat) : State :=
  let s := s.modMem fun m => { m with pattern := Sparse.put (fun _ => 0) m.pattern c pat, flipBad := m.flipBad.filter (·.1 ≠ c) }
  if c = 11 then { s with ldr := { s.ldr with raBad := [] } }
  else if c = 4 then { s with jnl := { s.jnl with bad := [] } }
  else if c = 5 then (s.modMem fun m => { m with mailPoison := [] }).each (List.range 512) fun s tn => s.fillBox pat tn
  else s

/-- A FILL ends: INIT is set, or ABORTED leaves it clear (R270, R282). -/
def execFillDone (cls : Nat) (s : State) : Host.Outcome State Fault Refusal :=
  .next (match s.mem.fills.find? (·.1 = cls) with
    | none => s
    | some (_, aborted, pat) =>
      let s := s.modMem fun m => { m with fills := m.fills.filter (·.1 ≠ cls) }
      let s := s.setB MEMINT_STAT_FILL_BUSY (!s.mem.fills.isEmpty)
      if aborted then s.cmdEnd memintIf opFILL .aborted
      else ((s.filled cls pat).initClass cls).cmdEnd memintIf opFILL .ok)

def markInitCode (s : State) (c : Nat) : Option Code :=
  firstCode [(!fillClass c, .malformed), (classInit s c, .refusedState)]

/-- MEMINT MARK_INIT. -/
def execMarkInit (cls : Nat) (s : State) : Host.Outcome State Fault Refusal :=
  .next (match markInitCode s cls with
    | some c => s.memRefuse opMARK_INIT c
    | none => (s.initClass cls).cmdEnd memintIf opMARK_INIT .ok)

/-- MEMINT ABORT of the FILL of a class; the FILL's own end follows (R282, R420). -/
def execMemintAbort (cls : Nat) (s : State) : Host.Outcome State Fault Refusal :=
  .next (if s.mem.fills.any fun f => f.1 = cls && !f.2.1 then
      (s.modMem fun m => { m with fills := m.fills.map fun f => if f.1 = cls then (f.1, true, f.2.2) else f }).cmdEnd memintIf 14 .ok
    else s.memRefuse 14 .refusedState)

/-! ### Rows and repairs (R278, R280) -/

def retireCode (s : State) : Option Code :=
  let m := bitsAt (memArg0 s) 0 10
  let r := bitsAt (memArg0 s) 16 11
  firstCode [(291 < m || macroRows m ≤ r, .malformed), (!classInit s (macroClass m), .refusedState),
    ((macroOf s m).left = 0, .refusedQuota)]

/-- MEMINT RETIRE_ROW. -/
def execRetireRow (s : State) : Host.Outcome State Fault Refusal :=
  .next (match retireCode s with
    | some c => s.memRefuse opRETIRE_ROW c
    | none => (s.retireRow (bitsAt (memArg0 s) 0 10) (bitsAt (memArg0 s) 16 11)).cmdEnd memintIf opRETIRE_ROW .ok)

def commitCode (s : State) : Option Code :=
  firstCode [(rf s MEMINT_STAT_UNCOMMITTED = 0 || lockdown s, .refusedState),
    ((otpFree s 896 64).length < (uncommitted s).length || spareWordsOut s, .refusedQuota), (delayed s memintIf opCOMMIT_REPAIR (rb s MEMINT_STAT_COMMIT_BUSY), .busyRetry)]

/-- MEMINT COMMIT_REPAIR. -/
def execCommitRepair (s : State) : Host.Outcome State Fault Refusal :=
  .next (match commitCode s with
    | some c => s.memRefuse opCOMMIT_REPAIR c
    | none => s.raise MEMINT_STAT_COMMIT_BUSY)

/-- Spare `i` of macro `m` is recorded in OTP. -/
def State.markCommitted (s : State) (m i : Nat) : State :=
  let b := macroOf s m
  s.setMacro m { b with spares := b.spares.zipIdx.map fun ((r, done), j) => (r, done || j = i) }

/-- One remap takes the lowest free record word. A record that fails its program-verify is spoilt there and moves to a spare word, whose
remap record takes the next free record word; the remap is committed once its record reads (R279, R280). -/
def State.commitOne (s : State) (m i row : Nat) (bad : Bool) : State :=
  match otpFree s 896 64 with
  | [] => s
  | w :: _ =>
    let t := s.otpBurn w (rowRecord m i row) bad
    t.when (!bad || otpWord t w = some (rowRecord m i row)) (·.markCommitted m i)

/-- COMMIT_REPAIR has programmed its records, one after the other (R280); a remap that finds no record word
left stays uncommitted; `bad` lists those, by position, whose program-verify failed (R279). -/
def execCommitRepairDone (bad : List Nat) (s : State) : Host.Outcome State Fault Refusal :=
  .next (if rb s MEMINT_STAT_COMMIT_BUSY then
      let n := (uncommitted s).length
      let s := s.each (uncommitted s).zipIdx fun s ((m, i, row), k) => s.commitOne m i row (bad.contains k)
      let left := (uncommitted s).length
      ((s.setF MEMINT_STAT_COMMIT_BUSY 0).setF MEMINT_STAT_UNCOMMITTED left).cmdEnd memintIf opCOMMIT_REPAIR .ok (n - left)
    else s)

/-! ### Scrub bounds (R281) -/

/-- The first entry of the section that breaks R281. -/
def badBound (bs : List Byte) (cap : Nat) : Nat :=
  ((List.range 14).find? fun c => (parseBound bs c cap).isNone).getD 0

def boundsAddrOk (s : State) : Bool := memArg0 s % 8 = 0 && memArg1 s = 232 && inTcm (memArg0 s) 232

/-- MEMINT APPLY_BOUNDS: the section is copied and checked; every period starts at PERIOD_INIT. -/
def execApplyBounds (s : State) : Host.Outcome State Fault Refusal :=
  .next (
    let bs := tcmRead s (memArg0 s) 232
    let cap := rf s SYSCTL_ID_DRAM_CAP
    if !boundsAddrOk s then s.memRefuse opAPPLY_BOUNDS .malformed
    else match parseBounds bs cap with
      | none => s.memRefuse opAPPLY_BOUNDS .malformed (badBound bs cap)
      | some es =>
        if mode s ≠ moASSEMBLY || rb s MEMINT_STAT_BOUNDS_APPLIED then s.memRefuse opAPPLY_BOUNDS .refusedState
        else
          let s := s.modMem fun m => { m with bounds := es }
          let s := s.each (es.zipIdx) fun s (e, c) => s.setF (MEMINT_C_SCRUB_PERIOD_S c) e.pInit
          (s.raise MEMINT_STAT_BOUNDS_APPLIED).cmdEnd memintIf opAPPLY_BOUNDS .ok)

/-! ### Flip masks (R271) -/

/-- A write of MEMINT_FLIP_SEL: its RWL fields act by their access codes, and ARM arms a memory that has a mask, unless LOCK is
set. -/
def execFlipArm (word : Nat) (s : State) : Host.Outcome State Fault Refusal :=
  .next (
    let locked := rb s MEMINT_CTRL_LOCK
    let armed := rb s MEMINT_FLIP_SEL_ARMED
    let s := (s.regWrite MEMINT_FLIP_SEL word).setF MEMINT_FLIP_SEL_ARM 0
    let arm := word.testBit 8 && !locked && [0, 1, 8, 9, 12].contains (rf s MEMINT_FLIP_SEL_CLASS)
    s.setB MEMINT_FLIP_SEL_ARMED (armed || arm))

/-- The mask that applies to the selected memory: bits [38:0] for TCM. -/
def flipMask (s : State) : Nat :=
  let m := (reg s (MEMINT_FLIP_MASK 0)).toNat + 2 ^ 32 * (reg s (MEMINT_FLIP_MASK 1)).toNat
    + 2 ^ 64 * bitsAt (reg s (MEMINT_FLIP_MASK 2)).toNat 0 8
  if rf s MEMINT_FLIP_SEL_CLASS = 0 then m % 2 ^ 39 else m

def weight (m : Nat) : Nat := ((List.range 72).filter m.testBit).length

/-- What the reader of a word with the bits of mask `m` flipped sees, KIND and BIT, in a code of `n` data bits (R266). Every column of the
parity-check matrix has odd weight, so a mask of odd weight gives a syndrome of odd weight, which may be a column and is never the poison
code, and one of even weight gives no column. The columns of the check bits are the unit vectors, so a mask of check bits alone is its own
syndrome. What spec/ leaves to the columns of the data bits is observed: `kind` 0 a zero syndrome, 1 the column of `bit`, 3 the poison code,
else none of these. -/
def flipSeen (n m kind bit : Nat) : Nat × Nat :=
  let w := weight m
  let fixes := kind = 1 && bit < n + (if n = 64 then 8 else 7) && !(w = 3 && m.testBit bit)
  if w = 0 then (0, 0)
  else if w = 1 then (1, ((List.range 72).find? m.testBit).getD 0)
  else if m % 2 ^ n = 0 && w % 2 = 0 then (if m / 2 ^ n = 3 then (3, 0xFE) else (2, 0xFF))
  else if w % 2 = 1 then (if fixes then (1, bit) else (2, 0xFF))
  else if kind = 0 && w ≠ 2 then (0, 0)
  else if kind = 3 then (3, 0xFE)
  else (2, 0xFF)

/-- The word of FLIP_ADDR as a flip that the code does not correct leaves it for its readers (R271, R276): a poisoned TCM word, a slot copy
of the key store that is invalid, a bad word of a plane's table. An OTP word is flipped on the sense path of one read and keeps its contents. -/
def State.flipLeft (s : State) (c w : Nat) : State :=
  if c = 0 then if w < tcmSize / 4 then s.modMem fun m => { m with poison := m.poison ++ [tcmBase / 4 + w] } else s
  else if c = 1 then
    let i := w / 20
    let k := w / 10 % 2
    if i < 64 then s.putSlot i ((slotOf s i).setCopy k { (slotOf s i).copy k with damaged := true }) else s
  else if 8 ≤ c && c ≤ 9 then s.modMem fun m => { m with flipBad := m.flipBad ++ [(c, rf s MEMINT_FLIP_SEL_PLANE, w)] }
  else s

/-- A flip that the code takes for a sound word, or corrects at the wrong bit, leaves the data bits `m` altered (R266, R271): in a TCM word
they are the word's, in a slot copy its tag no longer matches (R287), and a plane's table word is then unlike the other plane's. -/
def State.flipAltered (s : State) (c w m : Nat) : State :=
  if m = 0 then s
  else if c = 0 then
    if w < tcmSize / 4 then s.tcmWrite (tcmBase + 4 * w) (leBytes 4 (fieldAt (tcmRead s (tcmBase + 4 * w) 4) 0 4 ^^^ m)) else s
  else s.flipLeft c w

/-- What the reader of a flipped OTP word is given: its value, with a poison flag where the word is not corrected (R271, R276). -/
def State.flipOtp (s : State) (k m w : Nat) : State :=
  let v := leBytes 8 ((otpRead s w).1.toNat ^^^ m)
  s.ret (.reply (if 2 ≤ k || (otpRead s w).2 then .poisoned else .ok) v)

/-- The word of FLIP_ADDR is written, or for OTP read: the armed mask is applied and disarms; its reader sees a correction or poison, the
result is recorded and counted, with no other outcome (R271). -/
def execFlipApply (kind bit : Nat) (s : State) : Host.Outcome State Fault Refusal :=
  .next (if rb s MEMINT_FLIP_SEL_ARMED then
      let c := rf s MEMINT_FLIP_SEL_CLASS
      let (k, b) := flipSeen (if c = 0 then 32 else 64) (flipMask s) kind bit
      let s := (((s.setF MEMINT_FLIP_SEL_ARMED 0).setF MEMINT_FLIP_STAT_KIND k).setF MEMINT_FLIP_STAT_BIT b).setF
        MEMINT_FLIP_STAT_COUNT (min (rf s MEMINT_FLIP_STAT_COUNT + 1) 0xFFFF)
      let s := (s.when (k = 1) (·.memBump (MEMINT_C_CE_LO c) (MEMINT_C_CE_HI c))).when (k = 2)
        (·.memBump (MEMINT_C_UE_LO c) (MEMINT_C_UE_HI c))
      let w := rf s MEMINT_FLIP_ADDR_WORD
      let m := (flipMask s ^^^ (if k = 1 then 2 ^ b else 0)) % 2 ^ (if c = 0 then 32 else 64)
      if c = 12 then s.flipOtp k m w
      else if 2 ≤ k then s.flipLeft c w
      else s.flipAltered c w m
    else s)

/-! ### Scrubbing (R273 to R275) -/

/-- The key-store copy that holds a word of macro 16: slot by slot, copy 0 before copy 1, ten words each. -/
def State.damageCopy (s : State) (row word : Nat) : State :=
  let w := 16 * row + word
  let i := w / 20
  if i < 64 then
    let x := slotOf s i
    let k := w / 10 % 2
    (s.putSlot i (x.setCopy k { x.copy k with damaged := true })).foundBad i
  else s

/-- An operation on an engine meets an uncorrectable word of its private memory (R265, R318). -/
def State.poisonOp (s : State) (e : Nat) : State :=
  match engOp s e with
  | some o => s.setEng e (some { o with pre := if o.pre = 0 then Code.poisoned.val else o.pre })
  | none => s

/-- An uncorrectable word of plane `x`'s hot tier: its granule's line is refilled from the plane's DRAM line, which is repaired first where
it fails too (R157). DESIGN CHOICE (log entry 157): the granules lie in the order of the pinned blocks, from the plane's first macro on. -/
def State.hotBad (s : State) (x mid row word : Nat) : State :=
  let o := 8 * (16 * row + word)
  let g := (mid - (if x = 0 then 24 else 120)) * 64 + o / 4096
  match s.orang.grans[g]? with
  | none => s
  | some blk =>
    let a := 4096 * blk + o % 4096
    match s.orang.exts.find? fun (_, y) => y.valid && y.pinned && y.base ≤ a && a < y.base + y.len with
    | none => s
    | some (e, y) =>
      let off := (a - y.base) / 64 * 64
      if !serving s x then s
      else if !macBad s (obsOf [] 0) x e off then s.hotRefill x e off
      else if serving s (1 - x) && !macBad s (obsOf [] 0) (1 - x) e off then ((s.planeMacFail x).mirrorLine x e off).hotRefill x e off
      else (s.planeMacFail x).needRefetchFor e (off / 4096) [x]

/-- The last column of R265 for an uncorrectable word of an SRAM class. A word of the node cache (class 7) is a miss, and its node comes from
the node store; a word of a bus's read-ahead buffer (class 11) is a hash mismatch for the lane that meets it. -/
def State.classOutcome (s : State) (cls mid row word : Nat) : State :=
  if cls = 0 then
    let running := if mid < 8 then 0 else 1
    if s.boot.bvPair = running then
      if standby s then s.failover
      else s.modMem fun m => { m with poison := m.poison ++ [tcmBase / 4 + (mid % 8) * 65536 + 32 * row + word] }
    else if standby s then s.loseStandby
    else s
  else if cls = 1 then s.damageCopy row word
  else if cls = 2 then s.poisonOp 0
  else if cls = 3 then s.poisonOp 1
  else if cls = 4 then { s with jnl := { s.jnl with bad := s.jnl.bad ++ [((mid - 19) * 2048 + row) * 2 + word / 8] } }
  else if cls = 5 then s.modMem fun m => { m with mailPoison := m.mailPoison ++ [32 * row + word] }
  else if cls = 6 then s.hotBad (macroPlane mid) mid row word
  else if 8 ≤ cls && cls ≤ 10 then s.isolate (macroPlane mid)
  else if cls = 11 then { s with ldr := { s.ldr with raBad := (s.ldr.raBad ++ [mid - 260]).eraseDups } }
  else s

/-- A macro's scrubber finds its row, or, with `func`, Belvedere, an engine or a plane reads the word: `kind` 0 clean, 1 corrected at `bit`, 2
uncorrectable, 3 carried poison. Class 12 names an OTP word in `blk`; the three
life-cycle words have no check bits. The scrubber reads only a class that is scrubbed; row
trackers and buckets wait for INIT (R265, R270, R272, R273, R275, R277, R279). -/
def execScrubRow (cls blk row word kind bit : Nat) (func : Bool) (s : State) : Host.Outcome State Fault Refusal :=
  .next (
    let known := if cls = 12 then 3 ≤ blk && blk < 1024
      else cls < 12 && blk ≤ 291 && macroClass blk = cls && row < macroRows blk && word < rowWords cls
    if !known || (!func && !scrubbed s cls) then s
    else
      if cls = 12 then
        if kind = 1 then
          let s := s.corrected 12 blk bit 0 0
          if lockdown s then s else s.otpRemap blk
        else if kind = 2 then (s.uncorrectable 12 blk 0 0).tearWords [blk]
        else s.when (kind = 3) (·.lastErr 3 12 blk 0xFE 0 0)
      else if kind = 1 then (s.corrected cls blk bit row word).when (classInit s cls) (·.rowHit cls blk row)
      else if kind = 2 then
        s.sameCycle fun s =>
          ((s.uncorrectable cls blk row word).when (classInit s cls) (·.retireRow blk row)).classOutcome cls blk row word
      else s.when (kind = 3) (·.lastErr 3 cls blk 0xFE row word))

/-- A line outside the active shadow failed its check in the planes named: each SERVING one that failed counts, and is rewritten from the
other where that passed (R159). The flag says that every SERVING plane failed it. -/
def State.scrubMirror (s : State) (failA failB : Bool) : State × Bool :=
  let bad := [0, 1].filter fun x => serving s x && (if x = 0 then failA else failB)
  let all := anyServing s && [0, 1].all fun x => !serving s x || bad.contains x
  let s := s.each bad fun s x =>
    (s.planeMacFail x).when (!all) (·.bump (PLANE_MIRROR_LO x) (PLANE_MIRROR_HI x) ORANGERY_EVT_SAT (srcPlane x))
  (s, all)

/-- A staging line: its object is POISONED where it failed in every SERVING plane (R274). -/
def State.scrubStage (s : State) (h : Nat) (failA failB : Bool) : State :=
  match stageOf s h with
  | none => s
  | some o =>
    match s.scrubMirror failA failB with
    | (s, true) => s.setStage h (some { o with poisoned := true })
    | (s, false) => s

/-- The slot number, counted on from the last counter slot, names an entry of the ledger table's retained area (R167). -/
def retainedLine (s : State) (off : Nat) : Bool := slotMax s ≤ off && off - slotMax s < s.orang.lret.length

/-- The DRAM scrubber reads a live line with its MAC on both interfaces and repairs a failure (R274): `what` 0 a line of extent (`dom`,
`region`) at byte `off`, 1 a node-store line of that extent, 2 a ledger-table line of counter slot `off` or, past the last
slot, of an entry of its retained area, 3 a line of staging object
`region`. DESIGN CHOICE (log entry 157): a node-store line that fails in every SERVING plane is read and verified again from the tree's
image, and a ledger-table line, which has no source, is rewritten from the entry; only the counts show either. -/
def execDramScrubLine (what dom region off : Nat) (failA failB : Bool) (s : State) : Host.Outcome State Fault Refusal :=
  .next (
    let e := extIx dom region
    if !scrubbed s 13 then s
    else if what = 0 then
      if !(extOf s e).valid || (extOf s e).len ≤ off then s
      else s.scrubLine e (off / 64 * 64) failA failB
    else if what = 1 then
      if !(extOf s e).valid || (nodeAt s e 0 0).isNone then s else (s.scrubMirror failA failB).1
    else if what = 2 then
      if (ltabOf s off).isNone && !retainedLine s off then s else (s.scrubMirror failA failB).1
    else s.scrubStage region failA failB)

/-- A period with its clamp: outside the bounds it is held, counted and reported (R275). -/
def State.setPeriod (s : State) (c : Nat) (e : Bound) (p : Nat) : State :=
  let q := max e.pMin (min p e.pMax)
  let s := s.setF (MEMINT_C_SCRUB_PERIOD_S c) q
  if q = p then s
  else
    ((s.setF (MEMINT_C_SWEEP_CLAMPS c) (min (rf s (MEMINT_C_SWEEP_CLAMPS c) + 1) 0xFF)).raise
      MEMINT_EVT_SCRUB_CLAMP).journal 4 275 srcMEMINT c

/-- The row buckets of a macro at the end of a sweep: one without a correction in it loses one (R277). -/
def SramBlk.leak (b : SramBlk) : SramBlk :=
  let down (r : RowBucket) : RowBucket := { r with count := if r.hit then r.count else r.count - 1, hit := false }
  { b with buckets := (b.buckets.map down).filter fun r => 0 < r.count }

/-- Every macro of a class leaks. -/
def State.leakRows (s : State) (c : Nat) : State :=
  let ms := s.mem.macros.map fun (i, b) => if macroClass i = c then (i, b.leak) else (i, b)
  s.modMem fun m => { m with macros := ms }

/-- A sweep of a class ends: its duration and E are shown, and the next period follows (R275, R277). -/
def execSweepEnd (cls : Nat) (s : State) : Host.Outcome State Fault Refusal :=
  .next (match boundOf s cls with
    | some b =>
      if !scrubbed s cls then s
      else
        let e := Sparse.get (fun _ => 0) s.mem.errs cls
        let z := if e = 0 then Sparse.get (fun _ => 0) s.mem.zeros cls + 1 else 0
        let began := Sparse.get (fun _ => 0) s.mem.clock cls
        let p := rf s (MEMINT_C_SCRUB_PERIOD_S cls)
        let s := (s.setF (MEMINT_C_SWEEP_LAST_SWEEP_S cls) (min ((s.usec - began) / 1000000) 0xFFFF)).setF
          (MEMINT_C_SWEEP_LAST_E cls) (min e 0xFF)
        let s := (s.leakRows cls).modMem fun m =>
          { m with
            errs := Sparse.put (fun _ => 0) m.errs cls 0
            zeros := Sparse.put (fun _ => 0) m.zeros cls (if z = 4 then 0 else z)
            clock := Sparse.put (fun _ => 0) m.clock cls s.usec }
        if !b.adapt then s.setF (MEMINT_C_SCRUB_PERIOD_S cls) b.pInit
        else if b.upThresh ≤ e then s.setPeriod cls b (p / 2)
        else if z = 4 then s.setPeriod cls b (2 * p)
        else s
    | none => s)

/-- A sweep cannot finish within P; the next one starts at once (R275). -/
def execScrubOverrun (cls : Nat) (s : State) : Host.Outcome State Fault Refusal :=
  .next (if cls < 14 && scrubbed s cls then
      (s.raise MEMINT_EVT_SCRUB_OVERRUN).modMem fun m => { m with clock := Sparse.put (fun _ => 0) m.clock cls s.usec }
    else s)

/-- A class bucket loses one, down to zero (R272). -/
def execBucketLeak (cls : Nat) (s : State) : Host.Outcome State Fault Refusal :=
  .next (if cls < 14 && (boundOf s cls).isSome then s.setF (MEMINT_C_SCRUB_BUCKET cls) (rf s (MEMINT_C_SCRUB_BUCKET cls) - 1) else s)

end Sys2Proof.Machine
end

