-- ==== Sys2Proof/Machine/Boot.lean ====
section
/-! DEFINITION. The start sequence (R61 to R70, R77 to R82): OTP, ROM, copies, handover, training and the end of ASSEMBLY. -/

namespace Sys2Proof.Machine

/-- OTP_SENSE_DONE (R61 step 3): the key store and the engines' memories are initialised (R265), the life-cycle vote, repair records, minimums and the vault report; TESTEN outside FACTORY leaves one
record (R50), and BLANK opens L3 (R389). `corrected` and `unreadable` are the OTP words that the sense found so. -/
def execOtpSenseDone (corrected : List (Nat × Nat)) (unreadable : List Nat) (s : State) : Host.Outcome State Fault Refusal :=
  .next (if s.boot.stage ≠ .clocks then s
    else
      let s := ([1, 2, 3].foldl State.initClass (s.otpScan corrected unreadable)).lcLatch
      let s := (s.setF SYSCTL_SVN_MIN_FW_MIN (svnMin s 254)).setF SYSCTL_SVN_MIN_CFG_MIN (svnMin s 255)
      let (g, s) := s.free
      let s := (s.setF SYSCTL_ID_GRADE (g % 2)).setF SYSCTL_SPARE_STAT_OTP_SPARE (otpFree s 960 64).length
      let s := ((s.showSpares.setF SYSCTL_SPARE_STAT_HASH_SPARE 4).raise SYSCTL_SPARE_STAT_VALID).showVault
      let s := s.modBoot fun b => { b with stage := .otp, vaultBad := vaultReport s ≠ vrVALID }
      let s := s.when (lcState s = lcBLANK) (·.setF DEBUG_STAT_LEVEL 3)
      s.when (s.boot.testen && lcState s ≠ lcFACTORY) fun s =>
        (s.raise SYSCTL_BOOT_STAT_TESTEN_SEEN).journal 0 50 srcSYSCTL noUnit)

/-- No handover: the ROM halts with HX_FAULT_N asserted (R63, R67). -/
def State.romHalt (s : State) : State := (s.modBoot fun b => { b with stage := .noHandover }).assertFault

/-- A failed checker test leaves no handover: CHECKER_FAIL and the uncovered fault of cause 0x05 (R63, R418). -/
def State.checkerFail (s : State) : State := ((s.raise SYSCTL_BOOT_STAT_CHECKER_FAIL).uncovered 5 0).romHalt.modBoot fun b => { b with otpBad := true }

/-- The checker self-test of the ROM (R63). `bad` names the memories that failed it: 0 and 1 TCM of pair 0 and 1, 2 OTP read path,
3 key store, 4 and 5 table RAM or write counters of plane A and B. A restarted pair with no other ends the last Belvedere pair
(R418 cause 0x02). A running pair that fails is replaced by the other one first, which tests its own TCM. -/
def State.checkerTest (s : State) (bad : List Nat) (again : Bool) : State :=
  let run := s.boot.bvPair
  let s := s.each [(0, 0), (1, 0), (2, 12), (3, 1), (4, 8), (4, 9), (5, 8), (5, 9)] fun s (m, c) => s.flipTest c (!bad.contains m)
  let s := s.each (bad.filter (· < 6)) fun s m => s.journalD 4 63 srcMEMINT m Code.internalFault.val 0 [BitVec.ofNat 8 m]
  let other := bad.contains (1 - run)
  let tcm := bad.contains run
  let s := if other && !tcm && standby s then s.loseStandby else s
  let s := if again then s
    else s.modBoot fun b => { b with tableBad := (bad.contains 4).toNat + 2 * (bad.contains 5).toNat }
  let took := tcm && standby s
  let s := if took then s.failover else s
  if bad.contains 2 || bad.contains 3 then s.checkerFail
  else if tcm && (other || !took) then
    if again then (s.modBoot fun b => { b with stage := .noHandover, bvDown := true }).uncovered 2 0 else s.checkerFail
  else s

/-- The ROM of a production test start: the token check, then a halt with HX_FAULT_N released and one record (R51). -/
def State.testStart (s : State) : State :=
  (s.tokenCheck.modBoot fun b => { b with stage := .testStart }).journal 7 51 srcSYSCTL noUnit

/-- ROM_START (R61 steps 4 and 5): TCM is filled, which initialises class 0 (R265), the ROM runs its checker self-test, begins to read copy A, which takes the balls of
the root configuration flash out of their reset levels (R41), and training starts on both interfaces. After a
Belvedere restart the reset ends here with its causes (R84). -/
def execRomStart (bad : List Nat) (s : State) : Host.Outcome State Fault Refusal :=
  .next (if s.boot.stage ≠ .otp then s
    else
      let again := s.boot.restart.isSome
      let s := (s.fillTcm again).initClass 0
      let s := if again then (s.setF ⟨SYSCTL_RSTCAUSE, 0, 7⟩ s.boot.causes).modBoot fun b => { b with causes := 0 }
        else s.when (s.boot.bvPair = 0 && s.boot.img.isNone) (·.raise SYSCTL_SPARE_STAT_BV_STANDBY)
      if s.boot.testen && lcState s = lcFACTORY && !again then s.testStart
      else
        let s := (s.modBoot fun b => { b with stage := .rom, bootCopies := 0 }).checkerTest bad again
        if s.boot.stage ≠ .rom then s
        else
          let s := s.modBoot fun b => { b with cfgBus := true }
          if again then s else s.modBoot fun b => { b with training := 3, trainCap := [0, 0], retrainBoth := true })

/-- The copy that the ROM reads next, with none once both were read: copy A and then B, or after a restart first the copy that was
named (R66, R76, R375). -/
def nextCopy (s : State) : Option Nat :=
  let first := s.boot.restart.getD 0
  if !s.boot.bootCopies.testBit first then some first
  else if !s.boot.bootCopies.testBit (1 - first) then some (1 - first)
  else none

/-- The status of a copy is shown; a failure enters one record (R65). -/
def State.copyStatus (s : State) (copy : Nat) (f : Option (Nat × Code)) : State :=
  let code := match f with | some (_, c) => c | none => .ok
  let s := s.setF (if copy = 0 then SYSCTL_BOOT_STAT_A_STATUS else SYSCTL_BOOT_STAT_B_STATUS) code.val
  let s := s.when (copy = 1) (·.raise SYSCTL_BOOT_STAT_B_READ)
  match f with
  | some (n, c) => (s.setF SYSCTL_BOOT_STAT_CHECK_IDX n).journalD 7 65 srcSYSCTL copy c.val 0 [BitVec.ofNat 8 n]
  | none => s

/-- Neither copy passes: ROM recovery in FACTORY, OWNED and RETURNED, with its two ports on fixed settings, else no handover (R67, R70).
DESIGN CHOICE (log entry 42): in a Belvedere restart, of which R70 does not speak, recovery leaves the mode and the released domains as
they are. -/
def State.noCopy (s : State) : State :=
  let s := s.updEnd .verifyFail
  let lc := lcState s
  if lc = lcFACTORY || lc = lcOWNED || lc = lcRETURNED then
    (((s.modBoot fun b => { b with stage := .recovery }).portsUp recoverySettings).raise SYSCTL_BOOT_STAT_ROM_RECOVERY).assertFault
  else s.romHalt

/-- A copy passes: it is selected; copy B after A uses the last spare copy (R32, R66). -/
def State.copyPass (s : State) (copy : Nat) (img : CopyImage) : State :=
  let s := s.setF SYSCTL_BOOT_STAT_COPY_USED copy
  let cfg := if s.boot.restart.isSome then s.boot.cfg
    else (parseCfg img.cfgImg (rf s SYSCTL_ID_DRAM_CAP)).getD s.boot.cfg
  let s := s.modBoot fun b => { b with stage := .passed, img := bootImg copy img, cfg }
  s.when (copy = 1 && s.boot.restart.isNone) (·.spareLow 9 1)

/-- COPY_READ_DONE: the checks of R65 on the copy just read. -/
def execCopyReadDone (img : CopyImage) (s : State) : Host.Outcome State Fault Refusal :=
  .next (match s.boot.stage, nextCopy s with
    | .rom, some copy =>
      let s := s.modBoot fun b => { b with bootCopies := setBits b.bootCopies copy 1 1 }
      let f := firstFail img.timeoutAt 1 (copyChecks s img)
      let s := s.copyStatus copy f
      match f with
      | none => s.copyPass copy img
      | some _ => if (nextCopy s).isSome then s else s.noCopy
    | _, _ => s)

/-- ROM_RECOVERY_IMAGE: an image of class 254 or 255 is verified under its checks of R65, written to copy B with its directory last,
and a device reset follows (R70). -/
def execRomRecoveryImage (cls : Nat) (manifest image : List Byte) (s : State) : Host.Outcome State Fault Refusal :=
  .next (if s.boot.stage ≠ .recovery then s
    else if cls ≠ 254 && cls ≠ 255 then s.ret (.code .refusedState)
    else
      let lim := if cls = 254 then 917504 else 786432
      let cfgOk := cls = 254 || (parseCfg image (rf s SYSCTL_ID_DRAM_CAP)).isSome
      let checks := classChecks s cls manifest image image.length ++ [(cfgOk && image.length ≤ lim && manifest.length ≤ 65536, .malformed)]
      match firstFail none 2 checks with
      | some (_, c) => (s.when (c = .keyAmbiguous) (·.journal 1 123 srcSYSCTL noUnit .keyAmbiguous)).ret (.code c)
      | none => (s.ret (.rootWrite 1 [(cls, manifest, image)] none)).resetNow 0 s.boot.testen)

/-- HANDOVER (R61 step 8): layers, images, measurements, locks, the handover block, the watchdog, and Belvedere firmware entered
(R60, R71 to R77, R87). -/
def execHandover (s : State) : Host.Outcome State Fault Refusal :=
  .next (match s.boot.stage, s.boot.img with
    | .passed, some m =>
      let again := s.boot.restart.isSome
      let s := s.setF SYSCTL_BOOT_TIME_HANDOVER_T (min (s.usec / 10) 0xFFFF)
      let s := if again then s else s.firstHandover
      let s := if rb s KEYS_STAT_ZEROISED then s else s.deriveL1 m
      let s := s.modKeys fun k => { k with
        cfg := some (m.cfgRoot, m.cfgSvn), l2Auto := if again then some (s.usec + 150000) else none }
      let s := (s.setDigest SYSCTL_MEAS_FW m.fwRoot).setF SYSCTL_FW_SVN_FW_SVN m.fwSvn
      let block := handoverBlock s m again
      let s := ((s.tcmWrite fwBase m.fwImg).tcmWrite cfgBase m.cfgImg).tcmWrite blockBase (block ++ List.replicate (4096 - block.length) 0)
      let want := s.boot.restart.getD 0
      let s := (s.modBoot fun b => { b with stage := .firmware, restart := none, handUsec := s.usec }).wdtStart
      match s.upd.job with
      | some j => if j.op = 4 && again then s.updEnd (if m.copy = want then .ok else .verifyFail) else s
      | none => s
    | _, _ => s)

/-! ### Training (R78, R79, R86) -/

def trainFld (i : Nat) : Fld := if i = 0 then SYSCTL_TRAIN_STAT_IF0_RESULT else SYSCTL_TRAIN_STAT_IF1_RESULT
def attemptsFld (i : Nat) : Fld := if i = 0 then SYSCTL_TRAIN_STAT_IF0_ATTEMPTS else SYSCTL_TRAIN_STAT_IF1_ATTEMPTS
def trainPass (s : State) (i : Nat) : Bool := rf s (trainFld i) = 1

/-- Training of every interface of the command is over: equal capacities are required, and the first one trained is kept (R79). -/
def State.trainEnd (s : State) : State :=
  let cap (i : Nat) : Nat := s.boot.trainCap.getD i 0
  let s := if s.boot.retrainBoth && trainPass s 0 && trainPass s 1 && cap 0 ≠ cap 1 then s.setF (trainFld 1) 3 else s
  if rf s SYSCTL_ID_DRAM_CAP ≠ 0 then s
  else if trainPass s 0 then s.setF SYSCTL_ID_DRAM_CAP (cap 0)
  else if trainPass s 1 then s.setF SYSCTL_ID_DRAM_CAP (cap 1)
  else s

/-- The training of one interface ends with a result. Outside a training of both, a pass sets DRAM_CAP at once where it is not set, and
any other capacity than DRAM_CAP is a failure (R79). -/
def State.trainOne (s : State) (i r cap : Nat) : State :=
  let old := rf s SYSCTL_ID_DRAM_CAP
  let r := if r = 1 && old ≠ 0 && old ≠ cap then (if i = 0 then 2 else 3) else r
  let s := (s.setF (trainFld i) r).modBoot fun b => { b with training := setBits b.training i 1 0, trainCap := setAt b.trainCap i cap }
  let s := s.when (r = 1 && old = 0 && !s.boot.retrainBoth) (·.setF SYSCTL_ID_DRAM_CAP cap)
  if s.boot.training = 0 then s.trainEnd else s

/-- TRAINING_DONE: one attempt ends; `cap` is the capacity that the memory reported, 1 for 16 GiB and 2 for 32 GiB (R78). -/
def execTrainingDone (iface : Nat) (pass : Bool) (cap : Nat) (s : State) : Host.Outcome State Fault Refusal :=
  .next (if 2 ≤ iface || !s.boot.training.testBit iface then s
    else
      let n := rf s (attemptsFld iface) + 1
      let s := s.setF (attemptsFld iface) n
      if pass && (cap = 1 || cap = 2) then s.trainOne iface 1 cap
      else if pass || 3 ≤ n then s.trainOne iface 2 0
      else s)

/-! ### The end of ASSEMBLY (R82) -/

/-- The lock registers of the blocks, with the SOURCE of the record that R75 enters for each. -/
def lockBlocks : List (Fld × Nat) :=
  [(SYSCTL_LOCK_LOCK, srcSYSCTL), (RNG_CTRL_LOCK, srcRNG), (MEMINT_CTRL_LOCK, srcMEMINT), (KIOSK_CTRL_LOCK, srcKIOSK),
   (MTRANS_CTRL_LOCK, srcMTRANS), (LODGE_CTRL_LOCK, srcLODGE), (GATE_CTRL_LOCK, srcGATE), (LOADER_CTRL_LOCK, srcLOADER),
   (ORANGERY_CTRL_LOCK, srcORANGERY), (FBUS_CTRL_LOCK, srcFBUS), (JOURNAL_CTRL_LOCK, srcJOURNAL)]

/-- Locks, KS3, the journal, memory classes and bounds that firmware left undone are done, each with its record (R35, R75, R270,
R281, R299, R412, R430). -/
def State.assemblyDefaults (s : State) : State :=
  let s := if rb s KEYS_STAT_L2_DONE || rb s KEYS_STAT_ZEROISED then s else s.deriveL2.journal 1 75 srcKEYS 3
  let s := if rb s JOURNAL_STAT_STARTED then s else s.jStart
  let s := s.each lockBlocks fun s (f, src) => if rb s f then s else (s.raise f).journal 6 75 src noUnit
  let s := s.each [4, 5, 6, 7, 8, 9, 10, 11] fun s c =>
    if mapBit s MEMINT_STAT_INIT c then s else (s.initClass c).journal 4 270 srcMEMINT c
  let s := if rb s MEMINT_STAT_BOUNDS_APPLIED then s
    else
      let p (c : Nat) : Nat := if c < 12 then 60 else 600
      let bs : List Bound := (List.range 14).map fun c =>
        { scrub := true, adapt := false, rowLimit := if c < 12 then 15 else 0, upThresh := 255, pMin := p c, pMax := p c, pInit := p c
          bucket := 65535, leakMs := 65535 }
      let s := (s.modMem fun m => { m with bounds := bs }).journal 4 281 srcMEMINT noUnit
      s.each (List.range 14) fun s c => s.setF (MEMINT_C_SCRUB_PERIOD_S c) (p c)
  if rb s LODGE_STAT_RULES_APPLIED then s else s.journal 6 412 srcLODGE noUnit

/-- Start-time tests: lanes that failed their known-answer test (R133) and front-end instances that failed theirs, beside those that failed
earlier in the start: an instance that failed never drives (R179, R180). -/
def State.startTests (s : State) (badLanes : List Nat) (badFe : List (Nat × Nat)) : State :=
  let s := s.each (List.range 32) fun s i => s.when (!laneBad s i) fun s => s.setLaneOn i true
  let s := s.each (badLanes.filter fun i => 32 ≤ i && i < 36) fun s i => s.failLane i
  let s := s.each (badLanes.filter (· < 32)) fun s i => s.failLane i
  let s := s.when (lanesOn s = 0) (·.uncovered 4 0)
  s.each (List.range 96) fun s ch =>
    let was := (chanOf s ch).feBad
    let bad := was ||| ((badFe.contains (ch, 0)).toNat + 2 * (badFe.contains (ch, 1)).toNat)
    let s := if bad = was then s else s.modChan ch fun c => { c with feBad := bad }
    let s := s.setB (CH_PORT_STAT_FE_SPARE_OK ch) (bad = 0)
    if bad = 1 && was = 0 then (s.setF (CH_PORT_STAT_FE_ACTIVE ch) 1).spareUsed SYSCTL_SPARE_EVT_FE_USED ch true
    else if bad = 2 then s.setF (CH_PORT_STAT_FE_ACTIVE ch) 0
    else s

/-- K1, K2, KM and KL are loaded, and CAP shows the layout; without DRBG items no plane can serve (R144, R147, R164). DESIGN CHOICE (log
entry 154): KL is the first 32 of the 48 bytes that R71's method gives. -/
def State.loadPlaneKeys (s : State) : State × Bool :=
  match s.takeItem with
  | (.ok a, s) =>
    match s.takeItem with
    | (.ok b, s) =>
      match s.takeItem with
      | (.ok c, s) =>
        let kl := slice (kdf s.keys.l0 (ascii "HX96-LED") [] 384) 0 32
        let keys := [slice a 0 32, slice b 0 32, slice c 0 32, kl]
        ((({ s with orang := { s.orang with keys } }).setB ORANGERY_STAT_CAP (cap32 s)).raise ORANGERY_STAT_KEYS_LOADED, true)
      | (.error _, s) => (s, false)
    | (.error _, s) => (s, false)
  | (.error _, s) => (s, false)

/-- The planes that trained, and whose tables passed, enter SERVING together (R78, R80). -/
def State.planesServe (s : State) : State :=
  s.each ([0, 1].filter fun x => trainPass s x && !s.boot.tableBad.testBit x) fun s x => s.setPlaneSt x plSERVING

/-- The PCL map is applied: outputs at their hold level, inputs with FILTER 0 at their level at once, a domain with a PRESENCE_IN not
yet asserted ABSENT (R43, R106, R107). -/
def State.applyPcls (s : State) (levels : Nat) : State :=
  let s := { s with gate := { s.gate with applied := true } }
  let s := s.each (List.range 144) fun s k =>
    match pclOf s k with
    | some p =>
      if p.output then s.drive k (!p.powerEn)
      else if p.input && p.filter = 0 && !bankFloated s (bankOfPcl k) then
        let level := levels.testBit k
        ((s.setB (GATE_PCL_STAT_LEVEL k) level).setB (GATE_PCL_STAT_ASSERTED k) (level != p.activeLow)).raise (GATE_PCL_STAT_VALID k)
      else s
    | none => s
  s.each s.boot.cfg.doms fun s c =>
    let a := absentNow s c.id
    let s := s.when (a != absent s c.id) (·.raise GATE_EVT_PRESENCE_CHG)
    s.setB (GATE_DOM_STAT_ABSENT c.id) a

/-- Shadow of the trained capacity in MiB (R81). -/
def beyondShadow (s : State) (c : Dom) : Bool := shadowMiB s < c.shBase + c.shSize

/-- The first reason for which a domain stays HELD when ASSEMBLY ends, with the instance that its record names: a mismatched bank, an
allocation beyond the capacity, a channel without a front end or without a program (R56, R81, R180, R216). -/
def heldUnder (s : State) (c : Dom) : List (Nat × Nat × Nat × Nat) :=
  let bank := c.chans.any (fun ch => bankFloated s (bankOfChan ch)) || (linesOf s c.id Pcl.output).any fun k => bankFloated s (bankOfPcl k)
  (if bank then [(56, 2, srcGATE, c.id)] else [])
    ++ (if beyondShadow s c then [(81, 2, srcGATE, c.id)] else [])
    ++ ((c.chans.filter fun ch => (chanOf s ch).feBad = 3).map fun ch => (180, 7, srcCHAN, ch))
    ++ ((c.chans.filter fun ch => !chanInUse s ch).map fun ch => (216, 2, srcCHAN, ch))

/-- The domains that stay HELD are marked with their rule, each with its records; a mismatched bank has its record already. -/
def State.markHeld (s : State) : State :=
  s.each s.boot.cfg.doms fun s c =>
    match heldUnder s c with
    | [] => s
    | l@((r, _, _, _) :: _) =>
      let s := s.modDomX c.id fun x => { x with under := if l.any (fun e => e.1 ≠ 56) then ((l.find? fun e => e.1 ≠ 56).map (·.1)).getD r else r }
      s.each (l.filter fun e => e.1 ≠ 56) fun s (r, cls, src, unit) =>
        if src = srcGATE then s.journalDom cls r src unit 0 else s.journal cls r src unit

/-- The mode edge at the end of ASSEMBLY: LOCKDOWN for a lost vault, else GATHER, where a lockdown trigger that waited wins (R73, R89,
R91, R94, R406, R407). -/
def State.leaveAssembly (s : State) : State :=
  let gather (s : State) (sel : Dom → Bool) : State :=
    let ids := (domOrder s).filter fun d => gathers s d && match domCfg s d with | some c => sel c | none => false
    s.each ids State.verifyDom
  let wait := if s.lodge.ldWait ≠ 0 then s.lodge.ldWait else if rb s LODGE_STAT_LD_PEND then 2 else 0
  if rb s SYSCTL_BOOT_STAT_VAULT_LOST then
    let s := s.enterLockdown 1
    (gather s fun c => !c.ldHold).settle
  else if wait ≠ 0 then
    let s := (s.modLodge fun l => { l with ldWait := 0 }).setF LODGE_STAT_LD_PEND 0
    let s := s.enterLockdown wait
    (gather s fun c => !c.ldHold).settle
  else (gather (s.setMode moGATHER) fun _ => true).settle

/-- What stands between the last condition of R80 and the edge out of ASSEMBLY: start-time tests, defaults, plane states, banks, the
PCL map, domains that stay HELD, epochs 1 and 2 for the journal overflow and the ledger table (R151), HX_FAULT_N released unless an uncovered fault is latched, the PLL that the configuration prefers, and the ledger replay's start (R75, R80 to R82). -/
def State.assemblyDone (s : State) (badLanes : List Nat) (badFe : List (Nat × Nat)) (levels : Nat) : State :=
  let s := ((s.startTests badLanes badFe).assemblyDefaults).planesServe
  let s := ((s.applyBanks (List.range 24)).applyPcls levels).markHeld
  let s := s.when (rf s SYSCTL_CLKSEL_PLL_PREF ≠ rf s SYSCTL_CLKSTAT_ACTIVE_PLL && rb s SYSCTL_SPARE_STAT_PLL_SPARE) fun s =>
    (s.setF SYSCTL_CLKSTAT_ACTIVE_PLL (rf s SYSCTL_CLKSEL_PLL_PREF)).raise SYSCTL_CLKEVT_SWITCHED
  let s := s.when (ledgerUsable s) (·.setF ORANGERY_STAT_LEDGER 1)
  let s := (s.newEpoch).2.newEpoch.2
  let s := s.setF SYSCTL_BOOT_TIME_ASSEMBLY_T (min (s.usec / 10) 0xFFFF)
  let s := s.setB SYSCTL_PIN_STAT_FAULT_OUT (rb s SYSCTL_FAULT_LATCHED)
  s.modKiosk fun k => { k with tokens := [] }

/-- Some plane passed its training and its checker self-test (R80). -/
def planeAble (s : State) : Bool := [0, 1].any fun x => trainPass s x && !s.boot.tableBad.testBit x

/-- Firmware has applied the sections for which no rule gives a fallback: the F-bus map, the Tenant Binding Table and the transport
settings (R82, R264, R364, R365). -/
def sectionsApplied (s : State) : Bool := rb s FBUS_STAT_MAP_APPLIED && rb s KIOSK_STAT_TBT_APPLIED && rb s MTRANS_STAT_APPLIED

/-- ASSEMBLY_END (R80 to R82): with the sections applied, training over, a plane that can serve and the plane keys drawn, ASSEMBLY ends. Without them the mode
stays ASSEMBLY with HX_FAULT_N asserted. -/
def execAssemblyEnd (badLanes : List Nat) (badFe : List (Nat × Nat)) (levels : Nat) (s : State) : Host.Outcome State Fault Refusal :=
  .next (if mode s ≠ moASSEMBLY || s.boot.stage ≠ .firmware || s.boot.training ≠ 0 || !sectionsApplied s then s
    else if !planeAble s then s.assertFault
    else
      match s.loadPlaneKeys with
      | (s, false) => s.assertFault
      | (s, true) => ((s.assemblyDone badLanes badFe levels).leaveAssembly).showStage)

end Sys2Proof.Machine
end

