-- ==== Sys2Proof/Machine/Engines.lean ====
section
/-! DEFINITION. Engine commands and the end of an operation (R308, R318 to R321). -/

namespace Sys2Proof.Machine

/-- The engine belongs to the register block. -/
def engInBlk (b e : Nat) : Bool := if b = 0 then e = 0 else 1 ≤ e && e ≤ 3

/-- The decision on an engine command, with its retry-after time. -/
def State.engEnd (s : State) (b e : Nat) (c : Code) (ms : Nat) : State :=
  ((s.setF (ENG_CMD_STAT_LAST_ENGINE b) e).setF (ENG_CMD_STAT_LAST_STATUS b) c.val).setF (ENG_CMD_STAT_RESULT b) ms

/-- The retry-after time of a START that finds its engine, its core or the key manager in the way (R317, R321). -/
def startRetry (s : State) (e : Nat) : Option Nat :=
  if kmHold s e then some 1
  else match engOp s e with
    | some o => some (remainMs s o)
    | none => match corePeer e with
      | some p => match engOp s p with
        | some o => some (remainMs s o)
        | none => if kmHold s p then some 1 else none
      | none => none

/-- The key under which the retry-after time of a START on engine `e` is kept (R14). -/
def engKey (b e : Nat) : Nat := (ENG_CMD b) * 256 + e

/-- The slot, TYPE and payload of the working key of engine `e`. -/
def wkOf (s : State) (e : Nat) : Option (Nat × Nat × List Byte) :=
  (s.keys.wk.find? (·.1 = e)).map fun (_, ty, p) =>
    (bitsAt (reg s KEYS_WK).toNat (8 * e) 8, ty, p)

/-- The operation of an accepted START: its operands copied, or the code that ends it before step 2 (R308, R316, R318). -/
def startOpOf (s : State) (e addr : Nat) : EngOp :=
  let d := tcmRead s addr 32
  let wk := if useWk d then wkOf s e else none
  if !dscOk s e d then { desc := d, addr, args := [], wk := none, pre := Code.malformed.val, ends := 0, started := s.usec }
  else
    match opShape d with
    | some h =>
      let args := dscArgs s d h
      let pre := if dscPoisoned s d h then Code.poisoned.val else preCheck d args (wk.map (·.2))
      { desc := d, addr, args, wk, pre, ends := 0, started := s.usec }
    | none => { desc := d, addr, args := [], wk := none, pre := Code.malformed.val, ends := 0, started := s.usec }

/-- START on engine `e` of block `b` (R308, R315, R321). -/
def execEngStart (b e : Nat) (s : State) : Host.Outcome State Fault Refusal :=
  let addr := rf s (ENG_CMD_ADDR_ADDR b)
  .next (if !(engInBlk b e && addr % 4 = 0 && tcmFree s addr 32) then s.engEnd b e .malformed 0
    else if (startRetry s e).isSome || early s (engKey b e) then
      let (ms, s) := s.delay (engKey b e) (startRetry s e)
      s.engEnd b e .busyRetry ms
    else (s.setEng e (some (startOpOf s e addr))).engEnd b e .ok 0)

/-- ABORT of the operation on engine `e` (R319). -/
def execEngAbort (b e : Nat) (s : State) : Host.Outcome State Fault Refusal :=
  .next (if !engInBlk b e then s.engEnd b e .malformed 0
    else if engBusy s e then (s.engStop e .aborted).engEnd b e .ok 0
    else s.engEnd b e .refusedState 0)

/-- The bytes of an operation's destination range; a malformed descriptor names none. -/
def dstLen (o : EngOp) : Nat := if o.args = [] then 0 else match opShape o.desc with | some h => h.dst | none => 0

/-- The output, STATUS, DONE register, event and counters of an ended operation (R308, R313, R318), then the CLEAR_WK that ended it (R320). -/
def State.engFinish (s : State) (e : Nat) (o : EngOp) (c : Code) (out : List Byte) : State :=
  let b := engBlk e
  let zero := c = .aborted || c = .keyRevoked
  let s := if zero then s.tcmWrite (dscDst o.desc) (List.replicate (dstLen o) 0)
    else if c = .ok then s.tcmWrite (dscDst o.desc) out else s
  let s := s.tcmWrite (o.addr + 1) [BitVec.ofNat 8 c.val]
  let s := ((s.setF (ENG_DONE_STATUS b) c.val).setF (ENG_DONE_OP b) (dscOp o.desc)).setF (ENG_DONE_ENGINE b) e
  let s := (s.setMapBit (ENG_EVT_DONE b) e true).bump (ENG_OPS_LO b) (ENG_OPS_HI b) (ENG_EVT_SAT b) (srcEng b)
  let s := if c = .internalFault then
      ((s.raise (ENG_EVT_FAULT b)).bump (ENG_FAULT_LO b) (ENG_FAULT_HI b) (ENG_EVT_SAT b) (srcEng b)).journal 7 313
        (srcEng b) e c
    else s
  let s := if c = .keyRevoked then (s.raise (ENG_EVT_REVOKED b)).raise KEYS_EVT_REVOKED else s
  let s := s.setEng e none
  if o.clear then (s.setWk e none).cmdEnd keyIf opCLEAR_WK .ok else s

/-- An uncorrectable word of the private memory of the long-integer or lattice unit: reported, and its row retired (R265, R272, R277). -/
def State.engUe (s : State) (e w : Nat) : State :=
  let row := w / rowWords (2 + e)
  if 2 ≤ e || macroRows (17 + e) ≤ row then s
  else s.sameCycle fun s => (s.uncorrectable (2 + e) (17 + e) row (w % rowWords (2 + e))).when (classInit s (2 + e)) (·.retireRow (17 + e) row)

/-- The operation on engine `e` ends. `obs` is 0 for a sound run, 1 for a post-check or parity failure, from 2 on an
uncorrectable word met in private memory, word `obs - 2` of it (R313, R318). -/
def execEngDone (e obs : Nat) (s : State) : Host.Outcome State Fault Refusal :=
  .next (match engOp s e with
    | none => s
    | some o =>
      if o.ends = Code.keyRevoked.val then s.engFinish e o .keyRevoked []
      else if o.ends ≠ 0 then s.engFinish e o .aborted []
      else if o.args = [] || o.pre = Code.malformed.val then s.engFinish e o .malformed []
      else if o.pre = Code.verifyFail.val then s.engFinish e o .verifyFail []
      else if o.pre = Code.notReady.val then s.engFinish e o .notReady []
      else if o.pre ≠ 0 then s.engFinish e o .poisoned []
      else if 2 ≤ obs then (s.engUe e (obs - 2)).engFinish e o .poisoned []
      else if obs = 1 then s.engFinish e o .internalFault []
      else
        let ((c, out), s) := engCompute s o
        s.engFinish e o c out)

end Sys2Proof.Machine
end

