-- ==== Sys2Proof/Machine/Fbus.lean ====
section
/-! DEFINITION. F-buses: map and discovery (R249, R250, R263), sampling trim (R251), the scheduler and physical operations (R253
to R256), recovery from the Nursery (R258 to R262). -/

namespace Sys2Proof.Machine

def fbusIf : CmdIf :=
  { op := FBUS_CMD_STAT_LAST_OP, status := FBUS_CMD_STAT_LAST_STATUS, result := some FBUS_CMD_STAT_RESULT
    done := FBUS_EVT_CMD_DONE }

/-- A refused FBUS command: a record, except for BUSY_RETRY (R13, R263). -/
def State.fbusRefuse (s : State) (op : Nat) (c : Code) : State :=
  let s := s.cmdRefuse fbusIf op c
  if c = .busyRetry then s else s.journal 5 263 srcFBUS noUnit c

/-! ### APPLY_MAP and discovery (R247 to R250) -/

/-- The map as it stands in TCM, of the length it declares. -/
def mapAt (s : State) (len : Nat) : Option FbMap :=
  let a := rf s FBUS_CMD_ADDR_ADDR
  if a % 8 = 0 && 272 ≤ len && inTcm a len then parseFbMap (tcmRead s a len) s.boot.cfg.banks s.boot.cfg.doms else none

def applyMapCode (s : State) (len : Nat) : Option Code :=
  firstCode [((mapAt s len).isNone, .malformed),
    (mode s ≠ moASSEMBLY || rb s FBUS_STAT_MAP_APPLIED, .refusedState)]

/-- The trim bounds of the map are loaded. -/
def State.loadTrim (s : State) (m : FbMap) : State :=
  s.each (m.buses.zipIdx) fun s (b, i) =>
    ((s.setF (FBUS_FB_TRIM_TRIM_MAX i) b.trimMax).setF (FBUS_FB_TRIM_TRIM_MIN i) b.trimMin).setB
      (FBUS_FB_TRIM_TRACK_EN i) b.track

/-- FBUS APPLY_MAP (R163, R249, R263): the map is copied, with it the size of the ledger's halves, the balls of its buses leave their reset levels unless their bank is mismatched
(R41, R56), and discovery runs on every used bus. -/
def execApplyMap (len : Nat) (s : State) : Host.Outcome State Fault Refusal :=
  .next (match applyMapCode s len, mapAt s len with
    | some c, _ => s.fbusRefuse 1 c
    | none, some m =>
      let ledSize := match m.ledger.bind fun p => m.parts[p]? with | some p => p.length / 256 | none => 0
      (({ s with fbus := { s.fbus with map := m, discovering := true }, orang := { s.orang with ledSize } }.raise FBUS_STAT_MAP_APPLIED).applyBanks
        ((List.range 4).map (12 + ·))).loadTrim m
    | none, none => s)

/-- The longest run of consecutive taps of a sorted list of passing taps that begins at its head: length. -/
def runFrom (taps : List Nat) (t : Nat) : Nat → Nat
  | 0 => 0
  | fuel + 1 => if taps.contains t then runFrom taps (t + 1) fuel + 1 else 0

/-- The centre of the widest run of passing taps between two bounds, the lowest among equals, the lower middle of an even run
(R249 step 5). -/
def centreTap (taps : List Nat) (lo hi : Nat) : Option Nat :=
  let ok := taps.filter fun t => lo ≤ t && t ≤ hi
  let best := ((List.range (hi + 1)).filter fun t => lo ≤ t).foldl (fun (b : Nat × Nat) t =>
    let n := runFrom ok t 128
    if b.2 < n then (t, n) else b) (0, 0)
  if best.2 = 0 then none else some (best.1 + (best.2 - 1) / 2)

/-- The failure of a device's discovery, none when every step holds; with the tap of step 5 (R249, R250). -/
def judgeDev (s : State) (d : FbDev) (o : DevObs) : Code × Nat :=
  if !o.answered && !o.signature then (.timeout, 0)
  else if !(o.signature && slice o.jedec 0 d.idLen = slice d.jedec 0 d.idLen && d.sizeLog2 ≤ o.density && o.xspi && o.sw8d) then
    (.malformed, 0)
  else
    match centreTap o.taps (rf s (FBUS_FB_TRIM_TRIM_MIN d.bus)) (rf s (FBUS_FB_TRIM_TRIM_MAX d.bus)) with
    | some t => (.ok, t)
    | none => (.verifyFail, 0)

/-- FBUS_STAT counts FAILED devices and unavailable partitions. -/
def State.showFbus (s : State) : State :=
  let n := ((List.range s.fbus.map.devs.length).filter fun d => rf s (FBUS_DEV_STAT_STATE d) = dvFAILED).length
  (s.setF FBUS_STAT_DEV_FAILED n).setF FBUS_STAT_PART_UNAVAIL s.fbus.avail.length

/-- A device becomes FAILED with a code, with one record (R250). -/
def State.devFail (s : State) (d : Nat) (c : Code) : State :=
  (((s.setF (FBUS_DEV_STAT_STATE d) dvFAILED).setF (FBUS_DEV_STAT_FAIL_CODE d) c.val).raise FBUS_EVT_DEV_FAILED).journal
    5 250 srcFBUS d c

/-- One device of discovery: its register, its tap (R249). -/
def State.discoverDev (s : State) (i : Nat) (d : FbDev) (o : Option DevObs) : State :=
  let s := (s.setF (FBUS_DEV_STAT_BUS i) d.bus).setF (FBUS_DEV_STAT_CS i) d.cs
  match o with
  | none => s.devFail i .timeout
  | some o =>
    match judgeDev s d o with
    | (.ok, tap) =>
      let s := (((s.setF (FBUS_DEV_STAT_STATE i) dvREADY).setF (FBUS_DEV_STAT_SIZE_LOG2 i) o.density).setF
        (FBUS_DEV_STAT_ERASE i) (o.erase - 12)).setF (FBUS_DEV_STAT_PAGE i) (o.page - 8)
      let s := ((s.setB (FBUS_DEV_STAT_SUSPEND_OK i) o.suspendOk).setF (FBUS_DEV_STAT_FAIL_CODE i) 0).setF
        (FBUS_FB_TRIM_TAP d.bus) tap
      s.setDevX i { devX s i with types := o.types, tap }
    | (c, _) => s.devFail i c

/-- The smallest erase unit of a device, in bytes. -/
def eraseUnit (s : State) (d : Nat) : Nat := 2 ^ (12 + rf s (FBUS_DEV_STAT_ERASE d))

/-- Why a partition is unavailable: 1 device FAILED, 2 misaligned, 3 erase unit above 256 KiB, 4 WT without 4 KiB erase, 0
when it is available (R250). -/
def partReasonOf (s : State) (p : FbPart) : Nat :=
  let u := eraseUnit s p.device
  if rf s (FBUS_DEV_STAT_STATE p.device) = dvFAILED then 1
  else if p.offset % u ≠ 0 || p.length % u ≠ 0 then 2
  else if 262144 < u then 3
  else if p.wt && !(devX s p.device).types.contains 12 && u ≠ 4096 then 4
  else 0

/-- The partitions that satisfy `p` are assessed; each unavailable one enters a record, and the LEDGER partition's makes LEDGER read 0
(R250). -/
def State.assess (s : State) (p : FbPart → Bool) : State :=
  let s := s.each ((s.fbus.map.parts.zipIdx).filter fun (q, _) => p q) fun s (q, i) =>
    let r := partReasonOf s q
    let rest := s.fbus.avail.filter (·.1 ≠ i)
    if r = 0 then { s with fbus := { s.fbus with avail := rest } }
    else ({ s with fbus := { s.fbus with avail := rest ++ [(i, r)] } }).journalD 5 250 srcFBUS i 0 0 [BitVec.ofNat 8 r]
  (if s.fbus.map.ledger.isSome && !ledgerUsable s then s.setF ORANGERY_STAT_LEDGER 0 else s).showFbus

/-- A device that was working becomes FAILED: its partitions are unavailable. -/
def State.devLost (s : State) (d : Nat) (c : Code) : State := (s.devFail d c).assess (·.device = d)

/-- Discovery completes (R249, R250). -/
def execDiscoveryDone (devs : List DevObs) (s : State) : Host.Outcome State Fault Refusal :=
  .next (if s.fbus.discovering then
      let s := { s with fbus := { s.fbus with discovering := false } }
      let s := s.each (sortBy (fun p => 4 * p.1.bus + p.1.cs) s.fbus.map.devs.zipIdx) fun s (d, i) =>
        s.discoverDev i d (if fbLive s d.bus then devs.find? (·.dev = i) else none)
      ((s.assess fun _ => true).raise FBUS_STAT_DISC_DONE).cmdEnd fbusIf 1 .ok
    else s)

def rediscoverCode (s : State) (dev : Nat) : Option Code :=
  firstCode [(s.fbus.map.devs.length ≤ dev, .malformed),
    (rf s (FBUS_DEV_STAT_STATE dev) ≠ dvFAILED || lockdown s, .refusedState)]

/-- FBUS REDISCOVER (R263). -/
def execRediscover (dev : Nat) (s : State) : Host.Outcome State Fault Refusal :=
  .next (match rediscoverCode s dev with
    | some c => s.fbusRefuse 2 c
    | none => { s with fbus := { s.fbus with redisc := s.fbus.redisc ++ [dev] } })

/-- Rediscovery of a device ends: on success its partitions are reassessed (R250, R263). A device of a suspended bus does not answer
(R57). -/
def execRediscoverDone (obs : DevObs) (s : State) : Host.Outcome State Fault Refusal :=
  let i := obs.dev
  .next (match s.fbus.map.devs[i]? with
    | some d =>
      if !s.fbus.redisc.contains i then s
      else
        let s := { s with fbus := { s.fbus with redisc := s.fbus.redisc.erase i } }
        let s := s.discoverDev i d (if fbLive s d.bus then some obs else none)
        let ok := rf s (FBUS_DEV_STAT_STATE i) = dvREADY
        let s := if ok then s.assess (·.device = i) else s
        s.cmdEnd fbusIf 2 (if ok then .ok else if fbLive s d.bus then (judgeDev s d obs).1 else .timeout) i
    | none => s)

/-! ### Trim (R251) -/

/-- A clamp: counted, TRIM_CLAMP, one record. -/
def State.trimClamp (s : State) (b : Nat) : State :=
  ((s.bump FBUS_CLAMP_LO FBUS_CLAMP_HI FBUS_EVT_SAT srcFBUS).raise FBUS_EVT_TRIM_CLAMP).journal 5 251 srcFBUS b

/-- The tap of a device; the bus shows that of the device last trained or checked. -/
def State.setTap (s : State) (dev b t : Nat) : State := (s.setDevX dev { devX s dev with tap := t }).setF (FBUS_FB_TRIM_TAP b) t

/-- A tap moves one step down or up, or is held at the bound that the result would pass (R251). -/
def State.moveTap (s : State) (dev b : Nat) (down : Bool) : State :=
  let t := (devX s dev).tap
  let lo := rf s (FBUS_FB_TRIM_TRIM_MIN b)
  let hi := rf s (FBUS_FB_TRIM_TRIM_MAX b)
  let v := if down then t else t + 2    -- one above the result
  if v < lo + 1 then (s.setTap dev b lo).trimClamp b
  else if hi + 1 < v then (s.setTap dev b hi).trimClamp b
  else s.setTap dev b (v - 1)

/-- Step 5 of R249 again on a device: its tap, or FAILED with a code when none passes. -/
def State.retrainDev (s : State) (dev : Nat) (taps : List Nat) (c : Code) : State :=
  match s.fbus.map.devs[dev]? with
  | some d =>
    match centreTap taps (rf s (FBUS_FB_TRIM_TRIM_MIN d.bus)) (rf s (FBUS_FB_TRIM_TRIM_MAX d.bus)) with
    | some t => s.setTap dev d.bus t
    | none => s.devLost dev c
  | none => s

/-- A ready device is re-checked at TAP − 2 (`below`) and TAP + 2 (`above`), between the bursts of other classes; where both fail it is
retrained over the taps that pass (R251, R252). -/
def execTrimTrack (dev : Nat) (below above : Bool) (taps : List Nat) (s : State) : Host.Outcome State Fault Refusal :=
  .next (match s.fbus.map.devs[dev]? with
    | some d =>
      if rb s (FBUS_FB_TRIM_TRACK_EN d.bus) && rf s (FBUS_DEV_STAT_STATE dev) = dvREADY && devIdle s dev && busServes s d.bus 4 then
        let s := s.busServed d.bus 4
        if below && above then s.setTap dev d.bus (devX s dev).tap
        else if below then s.moveTap dev d.bus true
        else if above then s.moveTap dev d.bus false
        else s.retrainDev dev taps .verifyFail
      else s
    | none => s)

/-- The bounds of a trim write keep to the map's range and to each other (R251). -/
def trimOk (s : State) (b word : Nat) : Bool :=
  let lo := bitsAt word 8 8
  let hi := bitsAt word 16 8
  match s.fbus.map.buses[b]? with
  | some m => m.used && lo ≤ hi && m.trimMin ≤ lo && hi ≤ m.trimMax
  | none => false

/-- A write of FBUS_FB_TRIM: it narrows the bounds until the lock; otherwise it changes nothing and enters one record (R5,
R251). -/
def execTrimWrite (bus word : Nat) (s : State) : Host.Outcome State Fault Refusal :=
  .next (if 32 ≤ bus then s
    else if rb s FBUS_CTRL_LOCK || trimOk s bus word then s.regWrite (FBUS_FB_TRIM bus) word
    else s.journal 5 251 srcFBUS bus)

/-! ### Physical operations (R253 to R256) -/

def wtOf (s : State) (w : Nat) : Option Wt := s.orang.wts.find? (·.id = w)

/-- The device byte address of a write-through's first byte. -/
def wtAddr (s : State) (w : Wt) : Nat :=
  let x := extOf s w.ext
  (match s.fbus.map.parts[x.srcPart]? with | some p => p.offset | none => 0) + x.srcOff + w.off

/-- The erases of a range: the largest offered types that fit and are aligned, 4 KiB for the rest (R254). -/
def erasesIn (types : List Nat) (dev : Nat) : Nat → Nat → Nat → List FlashWrite
  | 0, _, _ => []
  | fuel + 1, a, n =>
    if n = 0 then []
    else
      let fit := (types.filter fun t => a % 2 ^ t = 0 && 2 ^ t ≤ n).foldl max 12
      ⟨dev, a, 2 ^ fit, a, [], []⟩ :: erasesIn types dev fuel (a + 2 ^ fit) (n - 2 ^ fit)

/-- The physical operations of a write-through (R254): one program per page that it touches, with the bytes that its range takes; one sector
erase of its size where the device offers it and the range is aligned to it, else 4 KiB erases; the erases of a chip erase. -/
def physOps (s : State) (w : Wt) : List FlashWrite :=
  let d := devOfPart s (extOf s w.ext).srcPart
  let a := wtAddr s w
  if w.kind = 1 then
    let page := if rf s (FBUS_DEV_STAT_PAGE d) = 1 then 512 else 256
    (List.range ((a + w.len - 1) / page - a / page + 1)).map fun i =>
      let lo := max a ((a / page + i) * page)
      let hi := min (a + w.len) ((a / page + i + 1) * page)
      ⟨d, lo, 0, lo, slice w.data (lo - a) (hi - lo), []⟩
  else if w.kind = 2 then
    if w.len ≤ 4096 || ((devX s d).types.any (fun t => 2 ^ t = w.len) && a % w.len = 0) then [⟨d, a, w.len, a, [], []⟩]
    else erasesIn [] d (w.len / 4096) a w.len
  else erasesIn (devX s d).types d (w.len / 4096 + 1) a w.len

/-- The head of a device's queue leaves it. -/
def State.physPop (s : State) (d : Nat) : State :=
  let x := devX s d
  (s.setDevX d { x with queue := x.queue.drop 1, step := 0 }).showDev d

/-- Every write-through of a frame leaves the queues and is dropped, and the refetches that waited for it have failed. Its ledger-table entries
keep their flag, since no physical operation has completed (R167). -/
def State.stopFrame (s : State) (w : Wt) : State :=
  let fr := frameOf s w
  let ids := fr.map (·.id)
  let s := s.each (List.range s.fbus.map.devs.length) fun s d =>
    let x := devX s d
    if x.queue.any ids.contains then
      (s.setDevX d { x with queue := x.queue.filter fun i => !ids.contains i, step := if ids.contains (x.queue.headD 0) then 0 else x.step }).showDev d
    else s
  s.each fr fun s v => (s.dropWt v.id).afterWt v false

/-- A physical operation of the frame failed (R256, R199): the remaining operations of the frame stop, the port answers, the failure is
recorded, WT_FAIL and DIVERGED are set, one record. -/
def State.physFail (s : State) (d : Nat) (w : Wt) (code : Code) (addr : Nat) : State :=
  let s := (((s.stopFrame w).portFail w).wtFailReg (extDom w.ext) code.val d (wtKind w) addr).raise FBUS_EVT_WT_FAIL
  let s := s.setF (FBUS_DEV_STAT_FAIL_CODE d) code.val
  (s.raise (GATE_DOM_STAT_DIVERGED (extDom w.ext))).journalDom 5 256 srcFBUS (extDom w.ext) code.val
    (BitVec.ofNat 8 d :: leBytes 4 addr)

/-- A physical operation completes and is read back (R256): the last one of a write-through closes its ledger entries and is its
completion point (R167, R194). An erase that is suspended does not complete, nor does an operation that another one of the device keeps
waiting (R253), and class 1 goes ahead of its read-back (R252). -/
def execFlashOpDone (dev : Nat) (ok : Bool) (addr : Nat) (s : State) : Host.Outcome State Fault Refusal :=
  .next (match (devX s dev).queue.head?.bind (wtOf s) with
    | some w =>
      let b := busOfDev s dev
      if rf s (FBUS_DEV_STAT_STATE dev) = dvSUSP || (devX s dev).other ≠ 0 || !devLive s dev || !busServes s b 2 then s
      else
        let n := (devX s dev).step
        let s := s.busServed b 2
        let s := { s with fbus := { s.fbus with writes := ((physOps s w)[n]?).toList } }
        if !ok then s.physFail dev w .verifyFail addr
        else if n + 1 < (physOps s w).length then s.setDevX dev { devX s dev with step := n + 1 }
        else
          let s := ((s.physPop dev).closeEntries w).afterWt w true
          (s.dropWt w.id).opComplete w.ch w.id
    | none => s)

/-- The ledger has an entry on its way to device `dev`: its TYPE. -/
def ledgerOp (s : State) (dev : Nat) : Option Nat :=
  if ledgerDev s ≠ dev || s.fbus.map.ledger.isNone then none
  else if ledger s = 4 || (ledger s = 5 && !s.orang.retry) then some 2
  else if (ledger s = 2 || ledger s = 3) && (nextAppend s).isSome then some 1
  else if ledger s = 3 then some (if s.orang.snap.isEmpty then 3 else 4)
  else none

/-- The recovery job that writes device `dev`. -/
def recOn (s : State) (dev : Nat) : Option Nat :=
  (s.fbus.recs.find? fun p => match p.2 with
    | some r => r.code = 0 && (r.ranges.head?.map fun g => devOfPart s g.srcPart) = some dev
    | none => false).map (·.1)

/-- An update job writes device `dev`. -/
def updOn (s : State) (dev : Nat) : Bool := match s.upd.job with | some j => j.op = 1 && !j.late && j.devs.contains dev | none => false

/-- What can run on a device beside its queue: 1 the ledger's entry or erase, 2 a recovery's unit, 3 an update's write, 0 nothing. -/
def otherOp (s : State) (dev : Nat) : Nat :=
  if (ledgerOp s dev).isSome then 1 else if (recOn s dev).isSome then 2 else if updOn s dev then 3 else 0

/-- The failure of operation `who` of device `dev` with TIMEOUT: an entry of the ledger, the unit of a recovery, the write of an update job,
which then ends as for a failed read-back (R253, R261, R373, R450). -/
def State.otherLate (s : State) (dev who addr : Nat) : State :=
  match who with
  | 1 => match ledgerOp s dev with | some t => s.ledgerEnd t false Code.timeout.val | none => s
  | 2 =>
    match (recOn s dev).bind fun d => (recOf s d).map fun rc => (d, rc) with
    | some (d, rc) => (s.wtFailReg d Code.timeout.val dev 3 addr).setRec d (some { rc with code := Code.timeout.val })
    | none => s
  | 3 =>
    match s.upd.job with
    | some j =>
      let s := s.wtFailReg (if j.comp < 0x100 then j.comp else j.comp - 0x100) Code.timeout.val dev 4 addr
      { s with upd := { s.upd with job := some { j with late := true } } }
    | none => s
  | _ => s

/-- An operation past twice its SFDP maximum fails with TIMEOUT: the one that a poll found beside the queue, a write-through's, or what else
runs on the device. The device is reset and trained again over the taps that pass; with none it is FAILED (R253, R261, R450). A device of a
suspended bus is not polled (R57). -/
def execFlashOpTimeout (dev addr : Nat) (taps : List Nat) (s : State) : Host.Outcome State Fault Refusal :=
  let who := (devX s dev).other
  let fail : Option (State → State) :=
    match (devX s dev).queue.head?.bind (wtOf s) with
    | some w => if who = 0 then some fun s => s.physFail dev w .timeout addr else some fun s => s.otherLate dev who addr
    | none =>
      let n := if who = 0 then otherOp s dev else who
      if n = 0 then none else some fun s => s.otherLate dev n addr
  .next (match fail with
    | some f => if devLive s dev then ((((f s).otherDone dev)).raise FBUS_EVT_OP_TIMEOUT).retrainDev dev taps .timeout else s
    | none => s)

/-- The source device of an extent. -/
def devOfExt (s : State) (e : Nat) : Nat := devOfPart s (extOf s e).srcPart

/-- The scheduler polls a device of a live bus (R57, R253). A poll finds an operation beside the queue running, or ended; a running erase,
as `erasing` says of an operation beside the queue, is suspended while a refetch waits for the device, where it supports that, and resumed
afterwards. -/
def execBusyPoll (dev : Nat) (busy erasing : Bool) (s : State) : Host.Outcome State Fault Refusal :=
  let st := rf s (FBUS_DEV_STAT_STATE dev)
  let wait := s.orang.refetch.any fun r => !r.afterWt && devOfExt s r.ext = dev
  let canStop := wait && rb s (FBUS_DEV_STAT_SUSPEND_OK dev)
  let turn (s : State) (erase : Bool) : State :=
    if busy && st = dvBUSY && canStop && erase then s.setF (FBUS_DEV_STAT_STATE dev) dvSUSP
    else if st = dvSUSP && !wait then s.setF (FBUS_DEV_STAT_STATE dev) dvBUSY
    else s
  .next (if !devLive s dev then s
    else if (devX s dev).other ≠ 0 then (if !busy && st = dvBUSY then s.otherDone dev else turn s erasing)
    else match (devX s dev).queue.head?.bind (wtOf s) with
      | some w => turn s (w.kind ≠ 1)
      | none =>
        if busy && st = dvREADY && otherOp s dev ≠ 0 then
          let s := (s.setDevX dev { devX s dev with other := otherOp s dev }).showDev dev
          if canStop && erasing then s.setF (FBUS_DEV_STAT_STATE dev) dvSUSP else s
        else s)

/-! ### Recovery (R258 to R262) -/

/-- A ledger WRITE entry for a leaf that a recovery restores, appended as step 4 of R166 does (R260). -/
def State.recEntry (s : State) (d r l : Nat) (nur : List Byte) : State :=
  let e := extIx d r
  let x := extOf s e
  let old := match entryFor s d r l with | some y => y.new | none => level0 s e l
  let mroot := match (s.ldr.force.find? (·.1 = d)).bind (·.2.regions[r]?) with
    | some g => slice g.root 0 4
    | none => x.mroot
  let y : LEnt := { dom := d, region := r, leaf := l, mroot, old, new := leafHash nur, seq := ledgerSeq s, opn := false }
  let s := if x.valid && x.writable then s.setLtab (x.ctrBase + l) (some { y with ctr := ctrOf s (x.ctrBase + l) }) else s.retain y
  (s.ledgerAlso (leafEntry (klKey s) s.orang.ledPrev (ledgerSeq s) 1 y)).switchStart

/-- A stretch of `n` bytes from device address `a`, cut at the multiples of `unit`: offsets and lengths. -/
def unitPieces (unit a : Nat) : Nat → Nat → Nat → List (Nat × Nat)
  | 0, _, _ => []
  | fuel + 1, o, n =>
    if n = 0 then []
    else
      let m := min n (unit - (a + o) % unit)
      (o, m) :: unitPieces unit a fuel (o + m) (n - m)

/-- The region descriptor whose leaves a range holds. -/
def rangeRegion (s : State) (d : Nat) (g : RecRange) : Option Region :=
  g.region.bind fun r => (s.ldr.force.find? (·.1 = d)).bind (·.2.regions[r]?)

/-- The ledger can take `n` entries now: not replaying, its device free and its bus without class 1, and `n` positions left in the half
(R166, R168, R252, R253, R450). -/
def ledgerTakes (s : State) (n : Nat) : Bool :=
  (ledger s = 2 || ledger s = 3 || ledger s = 4) && s.orang.ledPos + n ≤ s.orang.ledSize && devIdle s (ledgerDev s)
    && busServes s (busOfDev s (ledgerDev s)) 2

/-- The leaves of a WRITABLE region that a differing piece of `len` bytes at position `p` of a range holds (R260). -/
def pieceLeaves (s : State) (d : Nat) (g : RecRange) (p len : Nat) : List Nat :=
  match rangeRegion s d g with
  | some reg =>
    ((List.range ((len + 4095) / 4096 + 1)).map (p / 4096 + ·)).filter fun l =>
      reg.writable && p ≤ 4096 * l && 4096 * l + 4096 ≤ p + len && l < reg.leaves
  | none => []

/-- The ledger entries of a piece's leaves in order, until the one numbered `bad` among those of the burst fails its program or read-back,
which uses up its position as in R450: the state, the entries so far, and the flag that none failed. DESIGN CHOICE (log entry 160): the
failure is recorded of the ledger device with KIND 0x03, and the job fails with VERIFY_FAIL before the unit is erased. -/
def State.recEntries (s : State) (d r p : Nat) (nur : List Byte) (bad : Option Nat) : Nat → List Nat → State × Nat × Bool
  | n, [] => (s, n, true)
  | n, l :: t =>
    if bad = some n then
      (s.ledgerLost.wtFailReg d Code.verifyFail.val (ledgerDev s) 3 (ledgerAddr s s.orang.ledHalf s.orang.ledPos), n, false)
    else (s.recEntry d r l (slice nur (4096 * l - p) 4096)).recEntries d r p nur bad (n + 1) t

/-- One differing piece of a range, at its position `p` in the range, is erased and programmed, with the bytes of the unit outside the range
as they were (R259). -/
def State.recWrite (s : State) (g : RecRange) (a unit p : Nat) (nur : List Byte) : State :=
  let lo := (a + p) / unit * unit
  let hi := a + p + nur.length
  { s with fbus := { s.fbus with writes := s.fbus.writes ++
    [⟨devOfPart s g.srcPart, lo, unit, a + p, nur, [(lo, a + p - lo), (hi, lo + unit - hi)].filter (·.2 ≠ 0)⟩] } }

/-- The differing units of a burst pair are restored in order, each after the ledger entries of its leaves (R259, R260); the unit numbered
`bad`, or the entry numbered `badEnt`, fails its read-back, and the job with it (R261): the state, the units restored, and the flag that none
failed. -/
def State.recUnits (s : State) (d : Nat) (g : RecRange) (a unit : Nat) (bad : Option (Nat × Nat)) (badEnt : Option Nat) :
    Nat → Nat → List (Nat × List Byte) → State × Nat × Bool
  | n, _, [] => (s, n, true)
  | n, k, (p, nur) :: t =>
    match s.recEntries d (g.region.getD 0) p nur badEnt k (pieceLeaves s d g p nur.length) with
    | (s, _, false) => (s, n, false)
    | (s, k, true) =>
      let s := s.recWrite g a unit p nur
      match bad with
      | some (i, addr) =>
        if i = n then (s.wtFailReg d Code.verifyFail.val (devOfPart s g.srcPart) 3 addr, n, false)
        else s.recUnits d g a unit bad badEnt (n + 1) k t
      | none => s.recUnits d g a unit bad badEnt (n + 1) k t

/-- The device address at which a range begins in the partition that is restored. -/
def recBase (s : State) (g : RecRange) : Nat :=
  (match s.fbus.map.parts[g.srcPart]? with | some p => p.offset | none => 0) + g.srcOff

/-- The erase units that a pair of bursts completes and that differ, by their positions in range `g`, with the NURSERY bytes: `src` and `nur`
are the bytes read and not yet compared, from position `p0` on; `done` says that the range ends with them (R259). -/
def recDiff (s : State) (g : RecRange) (p0 : Nat) (src nur : List Byte) (done : Bool) : List (Nat × List Byte) :=
  let unit := eraseUnit s (devOfPart s g.srcPart)
  let a := recBase s g
  let pieces := unitPieces unit (a + p0) (nur.length / unit + 2) 0 nur.length
  (pieces.filter fun q => (done || (a + p0 + q.1 + q.2) % unit = 0) && slice src q.1 q.2 ≠ slice nur q.1 q.2).map fun q =>
    (p0 + q.1, slice nur q.1 q.2)

/-- The ledger entries that the units of `diff` need (R260). -/
def recNeeds (s : State) (d : Nat) (g : RecRange) (diff : List (Nat × List Byte)) : Nat :=
  (diff.map fun q => (pieceLeaves s d g q.1 q.2.length).length).foldl (· + ·) 0

/-- A pair of bursts is compared, and every erase unit that they complete and that differs is restored before the next burst (R259 to R261).
`fail` is 0, the code of a read that failed after its retries, or POISONED where a word of the data to be restored held the poison code
(R276); `bad` names the differing unit that failed its read-back, by its number
among them, and the address of the first failing byte, `badEnt` the ledger entry that failed. Busy devices, a bus of either copy that a higher
class waits for, and a ledger that cannot take the entries of the units to be restored defer the burst (R252, R253, R260). -/
def execRecoveryBurstDone (dom : Nat) (src nur : List Byte) (fail : Nat) (bad : Option (Nat × Nat)) (badEnt : Option Nat) (s : State) :
    Host.Outcome State Fault Refusal :=
  .next (match recOf s dom with
    | some rc =>
      match rc.ranges with
      | g :: rest =>
        let dev := devOfPart s g.srcPart
        let bus := busOfDev s dev
        let ndev := devOfPart s g.nurPart
        let nbus := busOfDev s ndev
        let n := min nur.length (min 65536 (g.len - rc.pos))
        let p0 := rc.pos - rc.nur.length
        let src := rc.src ++ src.take n
        let nur := rc.nur ++ nur.take n
        let unit := eraseUnit s dev
        let a := recBase s g
        let done := g.len ≤ rc.pos + n
        let diff := recDiff s g p0 src nur done
        let ents := recNeeds s dom g diff
        if rc.code ≠ 0 then s
        else if fail ≠ 0 then s.setRec dom (some { rc with code := fail })
        else if !devFree s dev 2 || !devIdle s ndev || !busServes s bus 3 || !busServes s nbus 3 || (ents ≠ 0 && !ledgerTakes s ents) then s
        else
          let s := (s.busServed bus 3).when (nbus ≠ bus) fun s => s.busServed nbus 3
          let s := if (devX s dev).other = 2 then s.otherDone dev else s
          let s := { s with fbus := { s.fbus with writes := [] } }
          let left := if done then none
            else ((unitPieces unit (a + p0) (nur.length / unit + 2) 0 nur.length).find? fun q => (a + p0 + q.1 + q.2) % unit ≠ 0).map (·.1)
          let keep (l : List Byte) : List Byte := match left with | some o => l.drop o | none => []
          let (s, k, ok) := s.recUnits dom g a unit bad badEnt 0 0 diff
          s.setRec dom (some
            { rc with
              ranges := if done then rest else g :: rest
              pos := if done then 0 else rc.pos + n
              units := min (rc.units + k) 0xFFFF
              code := if ok then 0 else Code.verifyFail.val
              src := keep src
              nur := keep nur })
      | [] => s
    | none => s)

/-- A recovery job ends (R261): the domain enters VERIFYING, or PARKED or QUARANTINED when a read or a unit failed or a device of the job is
FAILED. -/
def execRecoveryDone (dom : Nat) (s : State) : Host.Outcome State Fault Refusal :=
  .next (match recOf s dom with
    | some rc =>
      let failedDev := rc.devs.any fun d => rf s (FBUS_DEV_STAT_STATE d) = dvFAILED
      let code := if rc.code ≠ 0 then rc.code else if failedDev then Code.timeout.val else 0
      if code ≠ 0 then
        let s := ((s.recEnd dom code).raise FBUS_EVT_REC_FAILED).journalDom 2 261 srcFBUS dom code
        (s.parkDom dom code).settle
      else if rc.ranges.isEmpty then
        (((s.recEnd dom 0).raise FBUS_EVT_REC_DONE).verifyDom dom).settle
      else s
    | none => s)

end Sys2Proof.Machine
end

