-- ==== Sys2Proof/Machine/Frames.lean ====
section
/-! DEFINITION. Host frames at SPI-NOR and xSPI ports, one meaning per command class and per MODE sub-operation (R180 to R206,
R218 to R239). -/

namespace Sys2Proof.Machine

/-- A decoded frame: the active program, opcode, row and class. -/
structure Dec where
  p : Prog
  opc : Nat
  row : List Byte
  cls : Nat

/-- The frame as DECODE reads it: none at a port that is not live, in eSPI, or before the address phase has ended (R203). -/
def frameDecode (s : State) (f : Frame) : Option Dec :=
  let p := progOf s f.ch
  if portLive s f.ch && (p.mode = modeSPI || p.mode = modeXSPI) && f.phase ≠ 0 then
    match frameOpcode s f with
    | some k => some { p, opc := k, row := p.row k, cls := classOf s f.ch (p.row k) }
    | none => none
  else none

/-- A frame of class `cls` that is executed: one for which the decode gives that class, and which is not ignored while busy.
Any frame disarms a RESET_ENABLE (R239). A frame of another class changes nothing. -/
def State.onFrame (s : State) (f : Frame) (cls : Nat) (run : State → Dec → State) : State :=
  match frameDecode s f with
  | some d =>
    if d.cls ≠ cls then s
    else
      let t := (s.ret .none).modChan f.ch fun c => { c with rstArmed := false }
      if busyIgnores s f.ch cls d.row then t else run t d
  | none => s

/-- The alert bits of a row in force and of its action. -/
def alertAsked (d : Dec) (act : Nat) : Bool := rowAlert d.row || 8 ≤ act

/-- Bytes shifted out are returned and counted. -/
def State.shiftOut (s : State) (ch : Nat) (bs : List Byte) : State :=
  if bs.isEmpty then s
  else (s.bumpN (CH_RDBYTES_LO ch) (CH_RDBYTES_HI ch) (CH_PORT_EVT_SAT ch) srcCHAN bs.length).ret (.bytes bs)

/-- Poison from byte `k` on: POISON_FILL to the end of the frame, POISON, its count, the alert (R200, R201). -/
def State.poisonFrame (s : State) (ch cause : Nat) : State :=
  (((s.raise (CH_PORT_EVT_POISON ch)).bump (CH_POISON_LO ch) (CH_POISON_HI ch) (CH_PORT_EVT_SAT ch) srcCHAN)).alert ch cause

/-- A read frame delivers its bytes: poison under R192, or under R189 with SHORT_WAIT and CHn_LATE where the first byte not in
the transmit register comes earlier; a mismatch of the decision words, or no
SERVING plane, poisons it from the first byte (R235, R418). -/
def State.deliver (s : State) (d : Dec) (f : Frame) (bs : List Byte) (poison : Option Nat) (noLine : Option Nat := none) : State :=
  let poison := if decMismatch s f || !anyServing s then some 0 else poison
  let poison := match poison with | some k => if k < bs.length then some k else none | none => none
  let due := match f.shortAt, noLine with | some a, some b => some (min a b) | some a, none => some a | none, b => b
  let short := match due with | some k => if k < bs.length then some k else none | none => none
  let late := match short, poison with
    | some k, some q => decide (k < q)
    | some _, none => true
    | none, _ => false
  let cut := if late then short else poison
  let s := if decMismatch s f then s.decideMismatch f.ch else s
  let s := if late then
      ((s.raise (CH_PORT_EVT_SHORT_WAIT f.ch)).bump (CH_LATE_LO f.ch) (CH_LATE_HI f.ch) (CH_PORT_EVT_SAT f.ch)
        srcCHAN).poisonFrame f.ch 2
    else if poison.isSome then s.poisonFrame f.ch 1 else s
  let out := match cut with
    | some k => bs.take k ++ List.replicate (bs.length - k) d.p.poisonFill
    | none => bs
  s.shiftOut f.ch out

/-- The mode bits of a row with CONT_EN decide continuous read (R219). -/
def State.contRead (s : State) (d : Dec) (f : Frame) : State :=
  if rowContEn d.row && rowModeBits d.row && d.p.mode = modeSPI then
    if f.modeBits = rowCont d.row then
      (s.raise (CH_PORT_STAT_CONT_READ f.ch)).modChan f.ch fun c => { c with contOp := some d.opc }
    else (s.setF (CH_PORT_STAT_CONT_READ f.ch) 0).modChan f.ch fun c => { c with contOp := none }
  else s

/-- The frame is one in which WP# and HOLD# are sampled: 1-1-1, 1-1-2 or 1-2-2 (R184, R225). -/
def dq23Free (s : State) (f : Frame) (d : Dec) : Bool :=
  d.p.mode = modeSPI && !rb s (CH_PORT_STAT_QPI f.ch) && rowAddrLines d.row ≠ 2 && rowDataLines d.row ≠ 2

/-- HOLD# low at byte time `i` of the data phase, where it is sampled: SCK is ignored and the outputs are high-impedance (R184). -/
def held (s : State) (f : Frame) (d : Dec) (i : Nat) : Bool :=
  d.p.holdEn && dq23Free s f d && f.hold.1 ≤ i && i < f.hold.1 + f.hold.2

/-- The bytes shifted out of a frame: none before its data phase, none by a row without data to the host, and none while held (R184,
R218). -/
def outLen (s : State) (f : Frame) (d : Dec) : Nat :=
  if f.phase = 2 && rowDir d.row = 1 then ((List.range f.dout).filter fun i => !held s f d i).length else 0

/-- The data bytes taken from a frame: none of a row without data from the host, and none clocked while held (R184, R218). -/
def dataIn (s : State) (f : Frame) (d : Dec) : List Byte :=
  if rowDir d.row = 2 then (f.din.zipIdx.filter fun p => !held s f d p.2).map (·.1) else []

/-- The address of a frame: a row without an address phase has none (R218). -/
def frameAddr (f : Frame) (d : Dec) : Nat := if rowAddr d.row = 0 then 0 else f.addr

def State.runRead (f : Frame) (s : State) (d : Dec) : State :=
  let ea := effAddr s f.ch d.p d.row (frameAddr f d)
  let (act, j, _) := blockAct d.p 0 ea
  let n := outLen s f d
  let t := s.readStream f.ch d.p ea n f.lines
  let t := if f.phase = 2 then t.window f.ch d.p ea n f.lines else t
  let s := (t.st.contRead d f).lastDec f.ch d.opc 0 act j
  let s := if t.denied || act % 8 = acDENYFILL then s.deny f.ch true else s
  let s := if t.unmapped then s.noExtent f.ch else s
  let s := s.alertIf f.ch (rowAlert d.row || t.alert || 8 ≤ act)
  s.deliver d f t.bytes t.poison t.late

/-- READ (R184, R189 to R192, R219, R229 to R231, R234). -/
def execRead (f : Frame) (s : State) : Host.Outcome State Fault Refusal :=
  .next (s.onFrame f 0 (State.runRead f))

/-- READ_SFDP (R185, R231). -/
def execReadSfdp (f : Frame) (s : State) : Host.Outcome State Fault Refusal :=
  .next (s.onFrame f 9 fun s d =>
    let act := d.p.globalAct 9
    let sfdp := d.p.sfdp
    let a := frameAddr f d
    let bs := (List.range (outLen s f d)).map fun i =>
      if act % 8 = acEMULATE then (if a + i < sfdp.length then sfdp.getD (a + i) 0 else 0xFF) else d.p.defFill
    let s := (s.contRead d f).lastDec f.ch d.opc 9 act 0xFF
    let s := if act % 8 = acEMULATE then s else s.deny f.ch true
    (s.alertIf f.ch (alertAsked d act)).deliver d f bs none)

/-! ### Programs and erases -/

/-- PROGRAM (R194, R203, R204, R229 to R233). -/
def execProgram (f : Frame) (s : State) : Host.Outcome State Fault Refusal :=
  .next (s.onFrame f 1 fun s d =>
    let din := dataIn s f d
    if f.phase ≠ 2 || (din.isEmpty && f.whole) || !rb s (CH_PORT_STAT_WEL f.ch) then s
    else if !f.whole then s.raise (CH_PORT_EVT_CS_ABORT f.ch)
    else
      let ea := effAddr s f.ch d.p d.row (frameAddr f d)
      let page := d.p.pageSize
      let (lo, data) := pageSpan page ea din
      let base := ea - ea % page + lo
      if touchesSuspended s f.ch base data.length then s
      else
        let (act, j) := rangeAct d.p 1 base data.length
        (s.writeFrame f.ch d.p d.opc 1 act j (rowAlert d.row) (decMismatch s f) ⟨1, base, data.length, data, none, f.lines, f.recheck⟩).1)

/-- ERASE_SECTOR (R195, R229 to R233). -/
def execEraseSector (f : Frame) (s : State) : Host.Outcome State Fault Refusal :=
  .next (s.onFrame f 2 fun s d =>
    if !rb s (CH_PORT_STAT_WEL f.ch) then s
    else
      let size := 2 ^ rowArg d.row
      let ea := effAddr s f.ch d.p d.row (frameAddr f d)
      let lo := ea - ea % size
      if touchesSuspended s f.ch lo size then s
      else
        let (act, j) := rangeAct d.p 2 lo size
        (s.writeFrame f.ch d.p d.opc 2 act j (rowAlert d.row) (decMismatch s f) ⟨2, lo, size, [], none, [], f.recheck⟩).1)

/-- ERASE_CHIP (R195, R223, R231, R232). -/
def execEraseChip (f : Frame) (s : State) : Host.Outcome State Fault Refusal :=
  .next (s.onFrame f 3 fun s d =>
    if !rb s (CH_PORT_STAT_WEL f.ch) || touchesSuspended s f.ch 0 d.p.devSize then s
    else
      (s.writeFrame f.ch d.p d.opc 3 (d.p.globalAct 3) 0xFF (rowAlert d.row) (decMismatch s f)
        ⟨3, 0, d.p.devSize, [], none, [], f.recheck⟩).1)

/-! ### Classes without array data (R231, R238) -/

/-- A frame of a non-addressed class: its decision, its alert, and its effect under EMULATE or what DENY_SILENT leaves of it
(R231, R235). -/
def State.plain (s : State) (f : Frame) (d : Dec) (emulate denied : State → State) : State :=
  let act := d.p.globalAct d.cls
  let s := if decMismatch s f then s.decideMismatch f.ch else s
  let s := (s.lastDec f.ch d.opc d.cls act 0xFF).alertIf f.ch (alertAsked d act)
  if act % 8 = acEMULATE then emulate s else denied (s.deny f.ch false)

/-- A complete frame of a class without data. -/
def complete (f : Frame) : Bool := f.phase = 2 && f.whole

/-- WRITE_ENABLE (R238). -/
def execWriteEnable (f : Frame) (s : State) : Host.Outcome State Fault Refusal :=
  .next (s.onFrame f 4 fun s d =>
    if complete f then s.plain f d (fun s => s.raise (CH_PORT_STAT_WEL f.ch)) id else s)

/-- WRITE_DISABLE (R238). -/
def execWriteDisable (f : Frame) (s : State) : Host.Outcome State Fault Refusal :=
  .next (s.onFrame f 5 fun s d =>
    if complete f then s.plain f d (fun s => s.setF (CH_PORT_STAT_WEL f.ch) 0) id else s)

/-- READ_STATUS (R194, R225, R238): register ARG repeated, or fill. -/
def execReadStatus (f : Frame) (s : State) : Host.Outcome State Fault Refusal :=
  .next (s.onFrame f 6 fun s d =>
    let v : Byte := BitVec.ofNat 8 (emuReg s f.ch (rowArg d.row))
    s.plain f d (fun s => s.shiftOut f.ch (List.replicate (outLen s f d) v))
      (fun s => s.shiftOut f.ch (List.replicate (outLen s f d) d.p.defFill)))

/-- READ_ID (R185, R238): JEDEC_ID, then zeros, or fill. -/
def execReadId (f : Frame) (s : State) : Host.Outcome State Fault Refusal :=
  .next (s.onFrame f 8 fun s d =>
    s.plain f d (fun s => s.shiftOut f.ch ((List.range (outLen s f d)).map fun i => d.p.jedec.getD i 0))
      (fun s => s.shiftOut f.ch (List.replicate (outLen s f d) d.p.defFill)))

/-- Successive bytes into emulated registers from `r` under WMASK (R225, R238). -/
def State.writeRegs (s : State) (ch : Nat) (p : Prog) : Nat → List Byte → State
  | _, [] => s
  | r, b :: t =>
    if r < p.regCount then
      let m := p.wmask r
      let old := rf s (sregFld ch r)
      State.writeRegs (s.setF (sregFld ch r) ((old &&& (255 - m)) ||| (b.toNat &&& m))) ch p (r + 1) t
    else s

/-- WP# protects the status registers: SRP is 1 and WP# low, sampled in 1-1-1, 1-1-2 and 1-2-2 (R225). -/
def srpBlocks (s : State) (f : Frame) (d : Dec) : Bool :=
  f.wpLow && roleBit s f.ch roleSRP false && dq23Free s f d

/-- WRITE_STATUS (R225, R231, R235, R236, R238). -/
def execWriteStatus (f : Frame) (s : State) : Host.Outcome State Fault Refusal :=
  .next (s.onFrame f 7 fun s d =>
    if f.phase ≠ 2 || !f.whole || (rowNeedsWel d.row && !rb s (CH_PORT_STAT_WEL f.ch)) then s
    else if srpBlocks s f d then s.setF (CH_PORT_STAT_WEL f.ch) 0
    else
      let differ := decMismatch s f
      let act := if differ then acDenyAlert else d.p.globalAct 7
      let s := if differ then s.decideMismatch f.ch else s
      let s := (s.lastDec f.ch d.opc 7 act 0xFF).alertIf f.ch (alertAsked d act)
      if act % 8 = acEMULATE then
        let s := (s.writeRegs f.ch d.p (rowArg d.row) (dataIn s f d)).raise (CH_PORT_STAT_WIP f.ch)
        s.modChan f.ch fun c => { c with
          ops := c.ops ++ [{ kind := 7, lo := 0, len := 0, minDone := false, compDone := true, suspended := false
                             tag := none, wt := [] }] }
      else
        let s := (s.deny f.ch false).setF (CH_PORT_STAT_WEL f.ch) 0
        if act % 8 = acDENYFILL then s.setRole f.ch rolePFAIL true else s)

/-- The running operation may be suspended: nothing is suspended yet, or it is a program inside one suspended erase (R196). -/
def canSuspend (c : Chan) : Bool :=
  let run := c.ops.filter (!·.suspended)
  let sus := c.ops.filter (·.suspended)
  !run.isEmpty && (sus.isEmpty || (sus.length = 1 && sus.all (·.kind ≠ 1) && run.all (·.kind = 1)))

/-- SUSPEND (R196): with WIP set, the running operation is suspended, SUSPENDED is set and WIP clears. -/
def execSuspend (f : Frame) (s : State) : Host.Outcome State Fault Refusal :=
  .next (s.onFrame f 10 fun s d =>
    if !complete f then s
    else s.plain f d (fun s =>
      if rb s (CH_PORT_STAT_WIP f.ch) && canSuspend (chanOf s f.ch) then
        let s := s.modChan f.ch fun c => { c with ops := c.ops.map fun (o : RunOp) => { o with suspended := true } }
        (s.raise (CH_PORT_STAT_SUSPENDED f.ch)).setF (CH_PORT_STAT_WIP f.ch) 0
      else s) id)

/-- RESUME (R196): SUSPENDED clears and WIP is set again, until the resume time and the physical completion. -/
def execResume (f : Frame) (s : State) : Host.Outcome State Fault Refusal :=
  .next (s.onFrame f 11 fun s d =>
    if !complete f then s
    else s.plain f d (fun s =>
      if rb s (CH_PORT_STAT_SUSPENDED f.ch) then
        let s := s.modChan f.ch fun c => { c with
          ops := c.ops.map fun (o : RunOp) => { o with minDone := o.minDone && !o.suspended, suspended := false } }
        (s.setF (CH_PORT_STAT_SUSPENDED f.ch) 0).raise (CH_PORT_STAT_WIP f.ch)
      else s) id)

/-- RESET_ENABLE (R239). -/
def execResetEnable (f : Frame) (s : State) : Host.Outcome State Fault Refusal :=
  .next (s.onFrame f 12 fun s d =>
    if complete f then s.plain f d (fun s => s.modChan f.ch fun c => { c with rstArmed := true }) id else s)

/-- RESET (R205, R239): a row that needs it executes only directly after an executed RESET_ENABLE frame. -/
def execFlashReset (f : Frame) (s : State) : Host.Outcome State Fault Refusal :=
  let armed := (chanOf s f.ch).rstArmed
  .next (s.onFrame f 13 fun s d =>
    if complete f && (rowArg d.row = 0 || armed) then s.plain f d (fun s => s.devReset f.ch) id else s)

/-- A MODE row with the sub-operation `sub` (R218, R231, R239). -/
def State.modeOp (s : State) (f : Frame) (sub : Nat) (eff : State → State) : State :=
  s.onFrame f 14 fun t d =>
    if rowArg d.row ≠ sub then s
    else if !complete f || (rowNeedsWel d.row && !rb t (CH_PORT_STAT_WEL f.ch)) then t
    else t.plain f d eff (fun s => s.setF (CH_PORT_STAT_WEL f.ch) 0)

/-- MODE 0x01: ADDR4 set (R239). -/
def execModeAddr4Set (f : Frame) (s : State) : Host.Outcome State Fault Refusal :=
  .next (s.modeOp f 1 fun s => s.raise (CH_PORT_STAT_ADDR4 f.ch))

/-- MODE 0x02: ADDR4 clear (R239). -/
def execModeAddr4Clear (f : Frame) (s : State) : Host.Outcome State Fault Refusal :=
  .next (s.modeOp f 2 fun s => s.setF (CH_PORT_STAT_ADDR4 f.ch) 0)

/-- MODE 0x03: QPI set, SPI-NOR only (R239). -/
def execModeQpiSet (f : Frame) (s : State) : Host.Outcome State Fault Refusal :=
  .next (s.modeOp f 3 fun s => s.raise (CH_PORT_STAT_QPI f.ch))

/-- MODE 0x04: QPI clear (R239). -/
def execModeQpiClear (f : Frame) (s : State) : Host.Outcome State Fault Refusal :=
  .next (s.modeOp f 4 fun s => s.setF (CH_PORT_STAT_QPI f.ch) 0)

/-- MODE 0x05: OCTAL_8D set, xSPI only (R239). -/
def execModeOctal8dSet (f : Frame) (s : State) : Host.Outcome State Fault Refusal :=
  .next (s.modeOp f 5 fun s => s.raise (CH_PORT_STAT_OCTAL_8D f.ch))

/-- MODE 0x06: OCTAL_8D clear (R239). -/
def execModeOctal8dClear (f : Frame) (s : State) : Host.Outcome State Fault Refusal :=
  .next (s.modeOp f 6 fun s => s.setF (CH_PORT_STAT_OCTAL_8D f.ch) 0)

/-- MODE 0x07: PFAIL and EFAIL clear (R225, R239). -/
def execModeFailClear (f : Frame) (s : State) : Host.Outcome State Fault Refusal :=
  .next (s.modeOp f 7 fun s => (s.setRole f.ch rolePFAIL false).setRole f.ch roleEFAIL false)

/-- A frame decoded as INVALID (R219, R220): its decision words compared (R235), ignored, counted in CHn_TR_INV; the row's own ALERT counts only where the row is
of class INVALID. -/
def execInvalidFrame (f : Frame) (s : State) : Host.Outcome State Fault Refusal :=
  .next (s.onFrame f 15 fun s d =>
    let act := d.p.globalAct 15
    let s := if decMismatch s f then s.decideMismatch f.ch else s
    let s := (s.lastDec f.ch d.opc 15 act 0xFF).raise (CH_TR_EVT_INVALID_OP f.ch)
    let s := s.bump (CH_TR_INV_LO f.ch) (CH_TR_INV_HI f.ch) (CH_TR_EVT_SAT f.ch) srcCHAN
    (s.deny f.ch false).alertIf f.ch ((rowClass d.row = 15 && rowAlert d.row) || 8 ≤ act))

end Sys2Proof.Machine
end

