-- ==== Sys2Proof/Machine/Keys.lean ====
section
/-! DEFINITION. KEYS commands (R305): lookups, decisions, execution and end. -/

namespace Sys2Proof.Machine

/-! ### Command codes (R305) -/

def opGENERATE : Nat := 1
def opDERIVE : Nat := 2
def opDERIVE_SEALED : Nat := 3
def opLOAD_WK : Nat := 4
def opERASE : Nat := 6
def opLOCK_SLOT : Nat := 7
def opCERTIFY : Nat := 8
def opPUBLIC : Nat := 9
def opDERIVE_L2 : Nat := 10
def opPROVISION_VAULT : Nat := 11
def opKEYS_ABORT : Nat := 14

/-! ### Operands -/

def keyArg (s : State) (i : Nat) : Nat := (reg s (KEYS_CMD_ARG0 + 4 * i)).toNat

/-- TYPE, USAGE and PERSIST of a new key in ARG0; every other bit is zero (R305). -/
def newType (s : State) : Nat := bitsAt (keyArg s 0) 12 4
def newUsage (s : State) : Nat := bitsAt (keyArg s 0) 5 5
def newPersist (s : State) : Bool := (keyArg s 0).testBit 4
def arg0Ok (s : State) : Bool := keyArg s 0 < 65536 && bitsAt (keyArg s 0) 10 2 = 0 && bitsAt (keyArg s 0) 0 4 = 0


/-- The source slot: an index, or the one slot that a lookup by KEY_ID finds (R293). -/
def keySource (s : State) (src : Nat) : Except Code Nat :=
  if src = 0xFF then
    match slotsWithId s (keyArg s 1) with
    | [] => .error .notReady
    | [i] => .ok i
    | _ => .error .keyAmbiguous
  else if src < 64 then .ok src
  else .error .malformed

/-- An ambiguous lookup is an event with a record (R293). -/
def State.ambiguous (s : State) : State := s.raise KEYS_EVT_AMBIGUOUS

/-- The source names no slot, or its slot is EMPTY, SEALED or BAD: the code in the order of R12. -/
def srcMalformed (s : State) (src : Nat) : Bool := match keySource s src with | .error .malformed => true | _ => false
def srcNone (s : State) (src : Nat) : Bool :=
  match keySource s src with | .error .notReady => true | .ok i => slotState s i = slEMPTY | _ => false
def srcSealed (s : State) (src : Nat) : Bool := match keySource s src with | .ok i => slotState s i = slSEALED | _ => false
def srcAmbiguous (s : State) (src : Nat) : Bool := match keySource s src with | .error .keyAmbiguous => true | _ => false
def srcBad (s : State) (src : Nat) : Bool := match keySource s src with | .ok i => slotState s i = slBAD | _ => false
def srcIx (s : State) (src : Nat) : Nat := match keySource s src with | .ok i => i | _ => 0xFF
def srcMd (s : State) (src : Nat) : Nat := slotMdSeen s (srcIx s src)

/-- A slot may be written: not write-locked, not KS0 to KS3 (R288, R305). -/
def dstLocked (s : State) (dst : Nat) : Bool := dst < 4 || (slotOf s dst).wlock

/-- The KEY_ID of a new key is held by another slot (R293). -/
def idTaken (s : State) (dst : Nat) : Bool := (slotsWithId s (keyArg s 1)).any (· ≠ dst)

/-- LOCKDOWN or a zeroisation refuses the command (R296, R305). -/
def keyClosed (s : State) : Bool := lockdown s || rb s KEYS_STAT_ZEROISED

/-- A command waits for a lease, so that leases can still be released (R305). -/
def keyWaiting (s : State) : Bool := match s.keys.cmd with | some q => q.stage = 0 | none => false
def keyBusy (s : State) : Bool := s.keys.cmd.isSome

/-! ### Outcomes -/

/-- The outcome of a refused command: a refusal enters one record, but for a slot number out of range or bits outside ARG0's fields, `form`,
and for the delay behind a running command; a BUSY_RETRY carries its time (R14, R305). -/
def State.keyRefuse (s : State) (op unit : Nat) (c : Code) (ms : Option Nat) (form : Bool := false) : State :=
  let quiet := (c = .malformed && form) || (c = .busyRetry && !(op = opLOAD_WK && !(keyBusy s && !keyWaiting s)))
  let s := s.cmdRefuse keyIf op c ms
  if quiet then s
  else
    let s := if c = .keyAmbiguous then s.ambiguous else s
    s.journal 1 305 srcKEYS unit c

/-- The outcome OK at once; after a lookup RESULT names the slot used. -/
def State.keyOk (s : State) (op src : Nat) : State := s.cmdEnd keyIf op .ok (if src = 0xFF then srcIx s src else 0)

/-- A command that takes time is accepted: a rewrite of a leased slot waits, any other asks for its engines (R295, R317). -/
def State.keyStart (s : State) (op dst src : Nat) (need : Nat) (rewrite : Bool) (lookup : Bool := false) : State :=
  let wait := rewrite && anyLease s dst
  let q : KeyCmd := ⟨op, dst, src, 0, [keyArg s 0, keyArg s 1, keyArg s 2, keyArg s 3], need, 0, if wait then 0 else 1, 0,
    false, lookup⟩
  let s := (s.modKeys fun k => { k with cmd := some q }).raise KEYS_STAT_CMD_BUSY
  if wait then s.raise KEYS_STAT_PENDING else s.holdEngines need true

/-- A decision is carried out: refused with its code, or accepted by `go`. A BAD source is found bad. -/
def State.keyDecide (s : State) (op unit : Nat) (c : Option Code) (go : State → State) (form : Bool := false) : State :=
  match c with
  | some c => s.keyRefuse op unit c none form
  | none => go s

/-- The engines a new key of a TYPE needs: the tag takes engine 2, a key pair its own unit (R287, R300). -/
def genEngines (ty : Nat) : Nat := if ty = 4 then 5 else if ty = 5 then 6 else 4

/-- The bytes of a public key by TYPE (R300). -/
def pubLen (ty : Nat) : Nat := if ty = 4 then 97 else if ty = 5 then 1568 else 0

/-- The destination of a public key or signature lies in TCM and outside the execute-only range. -/
def outOk (s : State) (n : Nat) : Bool := n = 0 || tcmFree s (keyArg s 2) n

/-- GENERATE's decision. -/
def generateCode (s : State) (dst : Nat) : Option Code :=
  firstCode [(64 ≤ dst || !arg0Ok s || !outOk s (pubLen (newType s)), .malformed),
    (keyClosed s || slotState s dst = slSEALED || (newPersist s && !vbatOk s), .refusedState),
    (dstLocked s dst || !typeUsageOk (newType s) (newUsage s) || (newPersist s && dst < 40) || idTaken s dst, .refusedPolicy),
    (delayed s keyIf opGENERATE (keyBusy s), .busyRetry)]

/-- KEYS GENERATE (R300). -/
def execGenerate (dst : Nat) (s : State) : Host.Outcome State Fault Refusal :=
  .next (s.keyDecide opGENERATE dst (generateCode s dst) (fun s =>
    s.keyStart opGENERATE dst 0 (genEngines (newType s)) true) (64 ≤ dst || !arg0Ok s))

/-- The derivation descriptor of R297 at ARG2. -/
def dscLabelLen (s : State) : Nat := fieldAt (tcmRead s (keyArg s 2) 36) 0 1
def dscCtxLen (s : State) : Nat := fieldAt (tcmRead s (keyArg s 2) 36) 2 2
def kdfDscAt (s : State) (a : Nat) : Bool :=
  let h := tcmRead s a 36
  let label := fieldAt h 0 1
  inTcm a 36 && 1 ≤ label && label ≤ 32 && zeroAt h 1 1 && fieldAt h 2 2 ≤ 256 && zeroAt h (4 + label) (32 - label)
    && inTcm a (36 + fieldAt h 2 2)
def kdfDscOk (s : State) : Bool := kdfDscAt s (keyArg s 2)
def kdfLabel (s : State) (a : Nat) : List Byte := tcmRead s (a + 4) (fieldAt (tcmRead s a 1) 0 1)
def kdfCtx (s : State) (a : Nat) : List Byte := tcmRead s (a + 36) (fieldAt (tcmRead s (a + 2) 2) 0 2)

/-- A label that belongs to the key manager (R297). -/
def labelKept (s : State) (a : Nat) : Bool := slice (kdfLabel s a) 0 5 = ascii "HX96-"
def labelTaken (s : State) : Bool := labelKept s (keyArg s 2)

/-- The conditions that DERIVE and DERIVE_SEALED share. -/
def deriveDstBad (s : State) (dst : Nat) : Bool :=
  dstLocked s dst || !typeUsageOk (newType s) (newUsage s) || newPersist s || labelTaken s || idTaken s dst

/-- DERIVE's decision; a BAD or ambiguous source ends it during execution. -/
def deriveCode (s : State) (dst src : Nat) : Option Code :=
  firstCode [(64 ≤ dst || !arg0Ok s || !kdfDscOk s || srcMalformed s src, .malformed),
    (srcNone s src, .notReady),
    (keyClosed s || slotState s dst = slSEALED || srcSealed s src, .refusedState),
    (deriveDstBad s dst || (!srcAmbiguous s src && !srcBad s src && !mdHas (srcMd s src) usDERIVE), .refusedPolicy),
    (delayed s keyIf opDERIVE (keyBusy s), .busyRetry), (srcAmbiguous s src, .keyAmbiguous), (srcBad s src, .keyBad)]

/-- KEYS DERIVE (R298). -/
def execDerive (dst src : Nat) (s : State) : Host.Outcome State Fault Refusal :=
  .next ((s.foundBad (srcIx s src)).keyDecide opDERIVE dst (deriveCode s dst src) (fun s =>
    s.keyStart opDERIVE dst (srcIx s src) 12 true (src = 0xFF)) (64 ≤ dst || !arg0Ok s || srcMalformed s src))

/-- DERIVE_SEALED's decision (R72, R298). -/
def deriveSealedCode (s : State) (dst : Nat) : Option Code :=
  let v := keyArg s 3
  firstCode [(64 ≤ dst || !arg0Ok s || !kdfDscOk s, .malformed),
    (keyClosed s || slotState s dst = slSEALED, .refusedState),
    (deriveDstBad s dst || v < rf s SYSCTL_SVN_MIN_FW_MIN || rf s SYSCTL_FW_SVN_FW_SVN < v, .refusedPolicy),
    (delayed s keyIf opDERIVE_SEALED (keyBusy s), .busyRetry)]

/-- KEYS DERIVE_SEALED (R298). -/
def execDeriveSealed (dst : Nat) (s : State) : Host.Outcome State Fault Refusal :=
  .next (s.keyDecide opDERIVE_SEALED dst (deriveSealedCode s dst) (fun s =>
    s.keyStart opDERIVE_SEALED dst 0 12 true) (64 ≤ dst || !arg0Ok s))

/-- The engine's running operation uses its working key (R320). -/
def wkInUse (s : State) (e : Nat) : Bool := match engOp s e with | some o => o.wk.isSome | none => false

/-- A slot's key may be loaded into an engine (R286, R288, R294). -/
def wkFits (s : State) (i e : Nat) : Bool :=
  (match typeEngine (mdType (slotMdSeen s i)) with
   | some (g, u) => g = e && mdHas (slotMdSeen s i) u
   | none => false) && i ≠ 0 && i ≠ 2

/-- A rewrite of the slot waits on a lease (R295). -/
def rewriteWaits (s : State) (i : Nat) : Bool :=
  match s.keys.cmd with | some q => q.stage = 0 && q.dst = i | none => false

/-- LOAD_WK's decision. In LOCKDOWN only an ATTEST slot may be loaded. -/
def loadWkCode (s : State) (src e : Nat) : Option Code :=
  let i := srcIx s src
  firstCode [(3 < e || srcMalformed s src, .malformed), (srcNone s src, .notReady),
    (rb s KEYS_STAT_ZEROISED || srcSealed s src || (lockdown s && !mdHas (srcMd s src) usATTEST), .refusedState),
    (!srcAmbiguous s src && !srcBad s src && !wkFits s i e, .refusedPolicy),
    (delayed s keyIf opLOAD_WK ((keyBusy s && !keyWaiting s) || rewriteWaits s i || wkInUse s e), .busyRetry),
    (srcAmbiguous s src, .keyAmbiguous), (srcBad s src, .keyBad)]

/-- KEYS LOAD_WK (R294): the previous lease of the engine is released, the key loaded in one atomic window. -/
def execLoadWk (src engine : Nat) (s : State) : Host.Outcome State Fault Refusal :=
  let i := srcIx s src
  .next (match loadWkCode s src engine with
    | some c => (s.foundBad i).keyRefuse opLOAD_WK i c (if rewriteWaits s i then some 1 else none) (srcMalformed s src)
    | none => ((s.setWk engine (some (i, mdType (slotMd s i), slotPayload s i))).atomic).keyOk opLOAD_WK src)

/-- CLEAR_WK's decision. -/
def clearWkCode (s : State) (e : Nat) : Option Code :=
  let i := rf s (wkFld e)
  firstCode [(3 < e, .malformed),
    (rb s KEYS_STAT_ZEROISED || (lockdown s && !(i < 64 && mdHas (slotMdSeen s i) usATTEST)), .refusedState),
    (delayed s keyIf opCLEAR_WK (keyBusy s && !keyWaiting s), .busyRetry)]

/-- KEYS CLEAR_WK (R294, R316, R320): an operation that uses the key ends with ABORTED first, and holds its lease until then; the command
ends with it. -/
def execClearWk (engine : Nat) (s : State) : Host.Outcome State Fault Refusal :=
  .next (s.keyDecide opCLEAR_WK engine (clearWkCode s engine) fun s =>
    if wkInUse s engine then (s.engStop engine .aborted).clearLater engine
    else (s.setWk engine none).keyOk opCLEAR_WK 0)

/-- ERASE's decision. -/
def eraseCode (s : State) (dst : Nat) : Option Code :=
  firstCode [(64 ≤ dst, .malformed), (keyClosed s || slotState s dst = slSEALED, .refusedState),
    (dstLocked s dst, .refusedPolicy), (delayed s keyIf opERASE (keyBusy s), .busyRetry)]

/-- KEYS ERASE: at once for a slot that is neither leased nor mirrored in the vault (R295, R305). -/
def execErase (dst : Nat) (s : State) : Host.Outcome State Fault Refusal :=
  .next (s.keyDecide opERASE dst (eraseCode s dst) (fun s =>
    if anyLease s dst || 40 ≤ dst then s.keyStart opERASE dst 0 0 true
    else (s.eraseSlot dst).keyOk opERASE 0) (64 ≤ dst))

/-- LOCK_SLOT's decision. -/
def lockSlotCode (s : State) (dst : Nat) : Option Code :=
  firstCode [(64 ≤ dst, .malformed), (keyClosed s || slotState s dst ≠ slVALID, .refusedState), (delayed s keyIf opLOCK_SLOT (keyBusy s), .busyRetry)]

/-- KEYS LOCK_SLOT (R305). -/
def execLockSlot (dst : Nat) (s : State) : Host.Outcome State Fault Refusal :=
  .next (s.keyDecide opLOCK_SLOT dst (lockSlotCode s dst) (fun s =>
    (s.putSlot dst { slotOf s dst with wlock := true }).keyOk opLOCK_SLOT 0) (64 ≤ dst))

/-! ### Certificates (R301, R302) -/

/-- The number of places at which `pat` stands in a byte string. -/
def countSub (pat : List Byte) : List Byte → Nat
  | [] => if pat = [] then 1 else 0
  | b :: bs => (if (b :: bs).take pat.length = pat then 1 else 0) + countSub pat bs

/-- The subjectPublicKeyInfo DER of a public key: id-ecPublicKey with secp384r1, or ML-KEM-1024. -/
def spkiOf (ty : Nat) (pub : List Byte) : List Byte :=
  (if ty = 4 then ([0x30, 0x76, 0x30, 0x10, 0x06, 0x07, 0x2A, 0x86, 0x48, 0xCE, 0x3D, 0x02, 0x01, 0x06, 0x05, 0x2B, 0x81,
      0x04, 0x00, 0x22, 0x03, 0x62, 0x00] : List Byte)
   else [0x30, 0x82, 0x06, 0x32, 0x30, 0x0B, 0x06, 0x09, 0x60, 0x86, 0x48, 0x01, 0x65, 0x03, 0x04, 0x04, 0x03, 0x03, 0x82,
      0x06, 0x21, 0x00]) ++ pub

/-- The key-origin extension of a slot (R301). -/
def originExt (s : State) (i : Nat) : List Byte :=
  let md := slotMdSeen s i
  [0x30, 0x36, 0x06, 0x0A, 0x2B, 0x06, 0x01, 0x04, 0x01, 0x83, 0xFB, 0x15, 0x01, 0x01, 0x04, 0x28, 0x30, 0x26, 0x02, 0x01,
    0x01, 0x0A, 0x01, BitVec.ofNat 8 (mdOrigin md), 0x01, 0x01, 0xFF, 0x04, 0x08] ++ leBytes 8 (setBits md 16 16 0)
    ++ [0x02, 0x01, BitVec.ofNat 8 i, 0x04, 0x08] ++ lcCode s ++ [0x04, 0x04] ++ leBytes 4 (rf s SYSCTL_FW_SVN_FW_SVN)

/-- AlgorithmIdentifier ecdsa-with-SHA384 (R302). -/
def sigAlgDer : List Byte := [0x30, 0x0A, 0x06, 0x08, 0x2A, 0x86, 0x48, 0xCE, 0x3D, 0x04, 0x03, 0x03]

/-- The TBSCertificate contains each required string exactly once (R302). -/
def tbsOk (s : State) (i : Nat) (tbs : List Byte) : Bool :=
  countSub (spkiOf (mdType (slotMdSeen s i)) (slotPublic s i)) tbs = 1 && countSub (originExt s i) tbs = 1
    && countSub sigAlgDer tbs = 1

/-- CERTIFY's decision; the content of the TBSCertificate of a slot with a public key belongs to the MALFORMED place of R12 (R302). -/
def certifyCode (s : State) (src : Nat) : Option Code :=
  let ty := mdType (slotMdSeen s src)
  firstCode [(64 ≤ src || keyArg s 1 = 0 || 4096 < keyArg s 1 || !inTcm (keyArg s 0) (keyArg s 1) || !outOk s 96
      || (src ≠ 0 && slotState s src = slVALID && (ty = 4 || ty = 5) && !tbsOk s src (tcmRead s (keyArg s 0) (keyArg s 1))), .malformed),
    (slotState s src = slEMPTY, .notReady),
    (rb s KEYS_STAT_ZEROISED || slotState s src = slSEALED, .refusedState),
    (src = 0 || (slotState s src = slVALID && ty ≠ 4 && ty ≠ 5), .refusedPolicy),
    (delayed s keyIf opCERTIFY (keyBusy s), .busyRetry), (slotState s src = slBAD || slotState s 0 ≠ slVALID, .keyBad)]

/-- KEYS CERTIFY (R302). -/
def execCertify (src : Nat) (s : State) : Host.Outcome State Fault Refusal :=
  .next (((s.foundBad src).foundBad 0).keyDecide opCERTIFY src (certifyCode s src) (fun s => s.keyStart opCERTIFY 0 src 9 false) (64 ≤ src))

/-- PUBLIC's decision: after a zeroisation KS0 to KS3 still answer (R296). -/
def publicCode (s : State) (src : Nat) : Option Code :=
  let i := srcIx s src
  let ty := mdType (srcMd s src)
  firstCode [(srcMalformed s src || (!srcAmbiguous s src && !outOk s (pubLen ty)), .malformed), (srcNone s src, .notReady),
    (rb s KEYS_STAT_ZEROISED && 4 ≤ i, .refusedState),
    (!srcAmbiguous s src && !srcBad s src && ty ≠ 4 && ty ≠ 5, .refusedPolicy), (delayed s keyIf opPUBLIC (keyBusy s), .busyRetry),
    (srcAmbiguous s src, .keyAmbiguous), (srcBad s src, .keyBad)]

/-- KEYS PUBLIC (R300). -/
def execPublicKey (src : Nat) (s : State) : Host.Outcome State Fault Refusal :=
  .next ((s.foundBad (srcIx s src)).keyDecide opPUBLIC (srcIx s src) (publicCode s src) (fun s =>
    s.keyStart opPUBLIC 0 (srcIx s src) (if mdType (srcMd s src) = 4 then 1 else 2) false (src = 0xFF)) (srcMalformed s src))

/-- DERIVE_L2's decision (R299). -/
def deriveL2Code (s : State) : Option Code :=
  firstCode [(rb s KEYS_STAT_L2_DONE || rb s KEYS_STAT_ZEROISED || s.boot.stage ≠ .firmware || s.keys.cfg.isNone
    || !(mode s = moASSEMBLY || s.keys.l2Auto.isSome), .refusedState), (delayed s keyIf opDERIVE_L2 (keyBusy s), .busyRetry)]

/-- KEYS DERIVE_L2 (R299). -/
def execDeriveL2 (s : State) : Host.Outcome State Fault Refusal :=
  .next (s.keyDecide opDERIVE_L2 3 (deriveL2Code s) fun s => s.keyStart opDERIVE_L2 3 0 12 false)

/-- The engines of a derivation are not the key manager's to take: a firmware operation runs on one, or another key command holds them
(R317). -/
def deriveBlocked (s : State) : Bool :=
  [2, 3].any (fun e => engBusy s e || coreTaken s e)
    || match s.keys.cmd with | some q => q.stage = 1 && q.op ≠ opDERIVE_L2 | none => false

/-- KS3 is not derived 150 ms after the handover of a restart: the HX96 derives it, with one record, once it has the engines, which it holds
back from firmware until then; after a zeroisation there is nothing to derive (R296, R299, R317). -/
def execKs3AutoDerive (s : State) : Host.Outcome State Fault Refusal :=
  .next (match s.keys.l2Auto with
    | some t =>
      if t ≤ s.usec && !rb s KEYS_STAT_L2_DONE && !rb s KEYS_STAT_ZEROISED then
        if deriveBlocked s then s.holdEngines 12 true
        else
          let s := match s.keys.cmd with
            | some q => if q.op = opDERIVE_L2 then s.keyCmdEnd .refusedState else s
            | none => s
          (s.deriveL2.journal 1 299 srcKEYS 3).holdEngines 12 false
      else s
    | none => s)

/-- PROVISION_VAULT's decision (R303). -/
def provisionCode (s : State) : Option Code :=
  let lc := lcState s
  let fresh := lc = 1 && rf s LODGE_STAT_VAULT ≠ vrVALID
  let lost := (lc = lcOWNED || lc = lcRETURNED) && rb s SYSCTL_BOOT_STAT_VAULT_LOST && lockdown s && rf s SYSCTL_MODE_LD_CAUSE = 1
    && rf s LODGE_STAT_VAULT ≠ vrVALID
  firstCode [(!(fresh || lost) || rb s KEYS_STAT_ZEROISED || !vbatOk s, .refusedState), (delayed s keyIf opPROVISION_VAULT (keyBusy s), .busyRetry)]

/-- The command PROVISION_VAULT of the key manager (R303). -/
def State.provisionVault (s : State) : State :=
  s.keyDecide opPROVISION_VAULT noUnit (provisionCode s) fun s => s.keyStart opPROVISION_VAULT 0 0 0 false

/-- KEYS PROVISION_VAULT (R303). -/
def execProvisionVault (s : State) : Host.Outcome State Fault Refusal := .next s.provisionVault

/-- KEYS ABORT: a command that runs or waits and has not committed (R305, R420). -/
def execKeysAbort (s : State) : Host.Outcome State Fault Refusal :=
  .next (match s.keys.cmd with
    | some q =>
      if q.stage < 2 then
        (s.modKeys fun k => { k with cmd := some { q with aborted := true } }).cmdEnd keyIf opKEYS_ABORT .ok
      else s.keyRefuse opKEYS_ABORT noUnit .refusedState none
    | none => s.keyRefuse opKEYS_ABORT noUnit .refusedState none)

/-! ### Execution -/

/-- The last lease on the slot was released: the waiting rewrite asks for its engines (R295). -/
def execRewriteRelease (s : State) : Host.Outcome State Fault Refusal :=
  .next (match s.keys.cmd with
    | some q =>
      if q.stage = 0 && !anyLease s q.dst then
        ((s.modKeys fun k => { k with cmd := some { q with stage := 1 } }).setF KEYS_STAT_PENDING 0).holdEngines q.need true
      else s
    | none => s)

/-- The key manager takes an engine that its command needs once no firmware operation runs on it (R317). -/
def execKmEngineTake (e : Nat) (s : State) : Host.Outcome State Fault Refusal :=
  .next (match s.keys.cmd with
    | some q =>
      if q.stage = 1 && q.need.testBit e && !engBusy s e && !coreTaken s e then
        s.modKeys fun k => { k with cmd := some { q with taken := setBits q.taken e 1 1 } }
      else s
    | none => s)

/-- A new key is committed: a persistent one, refused while VBAT is low, enters its vault phase, which needs no engine (R290, R304, R317). -/
def State.keyCommit (s : State) (q : KeyCmd) (payload : List Byte) (origin : Nat) : State :=
  let a := q.args.getD 0 0
  let md := mkMd (q.args.getD 1 0) (bitsAt a 12 4) (bitsAt a 5 5) (a.testBit 4) origin
  let k := loser s q.dst
  if a.testBit 4 && !vbatOk s then s.keyCmdEnd .refusedState
  else
  let s := s.commitSram q.dst payload md
  if a.testBit 4 then
    ((s.modKeys fun x => { x with cmd := some { q with need := 0, taken := 0, stage := 2, copy := k } }).holdEngines 15 false).vaultPhase1
      q.dst k
  else s.keyCmdEnd .ok

/-- The material of a generated key from its DRBG items (R300). -/
def genPayload (ty : Nat) (m : List Byte) : List Byte :=
  if ty = 4 then scalarPayload (slice m 0 64) else if ty = 5 then slice m 0 64 else if ty = 3 then slice m 0 32 else slice m 0 48

/-- GENERATE runs: material drawn, the public key written before the commit (R300). -/
def State.runGenerate (s : State) (q : KeyCmd) : State :=
  let ty := bitsAt (q.args.getD 0 0) 12 4
  match s.takeItems (if ty = 4 || ty = 5 then 2 else 1) with
  | (.error c, s) => s.keyCmdEnd c
  | (.ok m, s) =>
    let p := genPayload ty m
    let s := if ty = 4 || ty = 5 then s.tcmWrite (q.args.getD 2 0) (publicOf ty p) else s
    s.keyCommit q p 2

/-- DERIVE and DERIVE_SEALED run on a key input (R297, R298); the descriptor is checked again as it is read, since firmware may have
rewritten it while the command waited on a lease. -/
def State.runDerive (s : State) (q : KeyCmd) (key : List Byte) : State :=
  let ty := bitsAt (q.args.getD 0 0) 12 4
  let a := q.args.getD 2 0
  let len := 36 + (kdfCtx s a).length
  if tcmPoisoned s a len then s.keyCmdEnd .poisoned
  else if !kdfDscAt s a then s.keyCmdEnd .malformed
  else if labelKept s a then s.keyCmdEnd .refusedPolicy
  else s.keyCommit q (typePayload ty (kdf key (kdfLabel s a) (kdfCtx s a) (typeBits ty))) 1

/-- The payload a derivation takes from its source by TYPE. -/
def sourceKey (s : State) (i : Nat) : List Byte :=
  let ty := mdType (slotMd s i)
  slice (slotPayload s i) 0 (if ty = 3 then 32 else if ty = 5 then 64 else 48)

/-- CERTIFY runs: KS0 signs with a fresh nonce (R302). -/
def State.runCertify (s : State) (q : KeyCmd) : State :=
  let a := q.args.getD 0 0
  let n := q.args.getD 1 0
  let tbs := tcmRead s a n
  if tcmPoisoned s a n then s.keyCmdEnd .poisoned
  else if !tbsOk s q.src tbs then s.keyCmdEnd .malformed
  else
    match s.takeItem with
    | (.error c, s) => s.keyCmdEnd c
    | (.ok it, s) =>
      match ecdsaSign p384 (beNat (slice (slotPayload s 0) 0 48)) (sha384 tbs) (p384.scalar (beNat it)) with
      | some sig => (s.tcmWrite (q.args.getD 2 0) sig).keyCmdEnd .ok
      | none => s.keyCmdEnd .internalFault

/-- A slot that the command uses has become useless since its acceptance: erased, sealed, or found BAD (R291, R296). -/
def slotGone (s : State) (i : Nat) (sealedOk : Bool) : Option Code :=
  if slotState s i = slEMPTY then some .notReady
  else if slotState s i = slSEALED && !sealedOk then some .refusedState
  else if slotState s i = slBAD then some .keyBad
  else none

/-- Why the command in progress cannot run on its slots any more, with the slot. -/
def cmdGone (s : State) (q : KeyCmd) : Option (Nat × Code) :=
  let at_ (i : Nat) (ok : Bool) : Option (Nat × Code) := (slotGone s i ok).map (i, ·)
  if q.op = opDERIVE then at_ q.src false
  else if q.op = opPUBLIC then at_ q.src true
  else if q.op = opCERTIFY then (at_ q.src false).or ((at_ 0 false).map fun (i, _) => (i, .keyBad))
  else none

/-- The command in progress runs to its end, or to its vault phase. -/
def State.keyRun (s : State) (q : KeyCmd) : State :=
  match cmdGone s q with
  | some (i, c) => (s.foundBad i).keyCmdEnd c
  | none =>
  if q.op = opGENERATE then s.runGenerate q
  else if q.op = opDERIVE then s.runDerive q (sourceKey s q.src)
  else if q.op = opDERIVE_SEALED then s.runDerive q (sealValue s (q.args.getD 3 0))
  else if q.op = opERASE then
    let s := s.eraseSlot q.dst
    (if 40 ≤ q.dst then s.vaultClear (vaultOff q.dst 0) (vaultOff q.dst 2) else s).keyCmdEnd .ok
  else if q.op = opCERTIFY then s.runCertify q
  else if q.op = opPUBLIC then (s.tcmWrite (q.args.getD 2 0) (slotPublic s q.src)).keyCmdEnd .ok
  else if q.op = opDERIVE_L2 then s.deriveL2.keyCmdEnd .ok
  else
    match s.takeItem with
    | (.error c, s) => s.keyCmdEnd c
    | (.ok it, s) => (s.vaultProvision (slice it 0 32)).keyCmdEnd .ok

/-- The command in progress ends: ABORTED after an accepted ABORT, at the read-back of its vault tag, or once it has its
engines and has run (R290, R305, R317, R420). -/
def execKeysCmdDone (s : State) : Host.Outcome State Fault Refusal :=
  .next (match s.keys.cmd with
    | none => s
    | some q =>
      if q.aborted then s.keyCmdEnd .aborted
      else if q.stage = 2 then (s.vaultPhase2 q.dst q.copy).keyCmdEnd .ok
      else if q.stage = 1 && q.taken = q.need then s.keyRun q
      else s)

end Sys2Proof.Machine
end

