-- ==== Sys2Proof/Machine/Kiosk.lean ====
section
/-! DEFINITION. The Kiosk's commands: tenants' requests, replies and doorbells (R338 to R348, R364). -/

namespace Sys2Proof.Machine

/-- A request word. -/
def reqWord (op dom arg : Nat) : Nat := (op % 256) * 2 ^ 24 + (dom % 256) * 2 ^ 16 + arg % 65536

/-- KIOSK_STATE (R343). -/
def execKioskState (acc : Access) (tn dom arg : Nat) (s : State) : Host.Outcome State Fault Refusal :=
  .next (s.tnReq acc tn (reqWord kopSTATE dom arg))

/-- KIOSK_HOLD (R343). -/
def execKioskHold (acc : Access) (tn dom arg : Nat) (s : State) : Host.Outcome State Fault Refusal :=
  .next (s.tnReq acc tn (reqWord kopHOLD dom arg))

/-- KIOSK_RESET_CYCLE (R343). -/
def execKioskResetCycle (acc : Access) (tn dom arg : Nat) (s : State) : Host.Outcome State Fault Refusal :=
  .next (s.tnReq acc tn (reqWord kopRESET dom arg))

/-- SERVICE, and any other OP of a request word (R343, R345). -/
def execService (acc : Access) (tn op dom arg : Nat) (s : State) : Host.Outcome State Fault Refusal :=
  .next (s.tnReq acc tn (reqWord op dom arg))

/-- REPLY_PLACE: a waiting reply enters TN_RSP once RSP_FULL is clear (R342). -/
def execReplyPlace (tn : Nat) (s : State) : Host.Outcome State Fault Refusal :=
  .next (if (box s tn).phase = 3 && !rb s (TN_STAT_RSP_FULL tn) then s.placeReply tn else s)

/-- TN_RSP_READ (R342). -/
def execTnRspRead (acc : Access) (tn : Nat) (s : State) : Host.Outcome State Fault Refusal := .next (s.tnRead acc tn 4)

/-- UNBOUND: an access that matches no entry; a read returns zero (R339). -/
def execUnbound (acc : Access) (tn : Nat) (write : Bool) (s : State) : Host.Outcome State Fault Refusal :=
  .next (if (bound s acc tn).isSome then s
    else
      let s := s.unboundAccess tn
      if write then s else s.ret (.word 0))

/-- TN_DB_IN_WRITE (R348). -/
def execTnDbInWrite (acc : Access) (tn bits : Nat) (s : State) : Host.Outcome State Fault Refusal := .next (s.dbIn acc tn bits)

/-- The tenant last taken has asked again in its turn, with quantum left (R416). -/
def takesAgain (s : State) : Bool := 0 < s.kiosk.credit && (box s s.kiosk.lastTn).phase = 1

/-- The tenant whose request is taken next, by deficit round robin: the one last taken while its quantum lasts, else the next pending one
in cyclic order (R345, R416). -/
def nextTaken (s : State) : Option Nat :=
  if takesAgain s then some s.kiosk.lastTn
  else ((List.range 512).map fun i => (s.kiosk.lastTn + 1 + i) % 512).find? fun tn => (box s tn).phase = 1

/-- What is left of the taken tenant's quantum of WEIGHT requests (R416). -/
def creditLeft (s : State) (tn : Nat) : Nat := (if takesAgain s then s.kiosk.credit else tnWeight s tn) - 1

/-- The word that a read of KIOSK_TAKE returns. -/
def takeWord (s : State) : Word :=
  match nextTaken s with | some tn => BitVec.ofNat 32 (2 ^ 31 + tn) | none => 0

/-- KIOSK_TAKE_READ: the next pending request is taken; where there is none, the turn of the tenant last taken ends (R345, R416). -/
def execKioskTakeRead (s : State) : Host.Outcome State Fault Refusal :=
  .next (let w := takeWord s
    match nextTaken s with
    | none => (s.modKiosk fun k => { k with credit := 0 }).ret (.word w)
    | some tn =>
      let b := box s tn
      let left := creditLeft s tn
      let s := (s.setBox tn { b with phase := 2 }).modKiosk fun k => { k with lastTn := tn, credit := left }
      let s := (s.setF KIOSK_REQ_WORD b.word).setF KIOSK_SEL_TN tn
      s.showPending.ret (.word w))

/-- KIOSK_REPLY_WRITE: the selected tenant's taken request is answered; otherwise REPLY_ORPHAN (R345). -/
def execKioskReplyWrite (word : Nat) (s : State) : Host.Outcome State Fault Refusal :=
  .next (let tn := rf s KIOSK_SEL_TN
    if (box s tn).phase = 2 then s.answer tn word else s.raise KIOSK_EVT_REPLY_ORPHAN)

/-- KIOSK_DB_OUT_WRITE: bits of the selected tenant's TN_DB_OUT are set (R348). -/
def execKioskDbOutWrite (bits : Nat) (s : State) : Host.Outcome State Fault Refusal :=
  .next (let tn := rf s KIOSK_SEL_TN
    s.dbOut tn (rf s (TN_DB_OUT_BITS tn) ||| (bits % 2 ^ 32)))

/-- The section that APPLY_TBT names: the table, or the failing entry. -/
def tbtAt (s : State) (len : Nat) : Except Nat (List Tbe) :=
  let a := rf s KIOSK_CMD_ADDR_ADDR
  match s.boot.cfg.settings with
  | some st => if tcmPoisoned s a len then .error 0 else parseTbt (tcmRead s a len) s.boot.cfg.doms st
  | none => .error 0

/-- APPLY_TBT: accepted once, in ASSEMBLY; a section in place that fails its check is MALFORMED before all else (R12, R364). -/
def execApplyTbt (len : Nat) (s : State) : Host.Outcome State Fault Refusal :=
  .next (let a := rf s KIOSK_CMD_ADDR_ADDR
    let there := a % 8 = 0 && inTcm a len
    match there, tbtAt s len with
    | true, .error e => s.cmdEnd kioskIf 1 .malformed e
    | _, .ok tbt =>
      if !there || mode s ≠ moASSEMBLY || rb s KIOSK_STAT_TBT_APPLIED then s.cmdEnd kioskIf 1 .refusedState
      else ((s.modKiosk fun k => { k with tbt := tbt }).raise KIOSK_STAT_TBT_APPLIED).cmdEnd kioskIf 1 .ok
    | false, .error _ => s.cmdEnd kioskIf 1 .refusedState)

/-- The timers of R347 run. -/
def timersRun (s : State) : Bool := !paused s && !bvHalted s

/-- TAKEN_REQUEST_TIMEOUT: a request taken 1 s ago and unanswered is answered TIMEOUT (R347). -/
def execTakenRequestTimeout (tn : Nat) (s : State) : Host.Outcome State Fault Refusal :=
  .next (let b := box s tn
    if b.phase = 2 && timersRun s then
      ((s.answer tn (rspWord .timeout (bitsAt b.word 24 8) 0)).raise KIOSK_EVT_REQ_TIMEOUT).journal 6 347 srcKIOSK tn .timeout
    else s)

/-- PENDING_REQUEST_TIMEOUT: a request pending for 2 s is withdrawn with BUSY_RETRY and 100 ms (R347). -/
def execPendingRequestTimeout (tn : Nat) (s : State) : Host.Outcome State Fault Refusal :=
  .next (let b := box s tn
    if b.phase = 1 && timersRun s then
      let op := bitsAt b.word 24 8
      let (ms, s) := s.delay (kioskKey tn op) (some 100)
      (s.answer tn (rspWord .busyRetry op ms)).raise KIOSK_EVT_REQ_TIMEOUT
    else s)

/-- The port is configured for Kiosk access and its bank carries it, and the TRANSPORT its accesses have (R56, R57, R341). -/
def kioskPort (s : State) (port : Nat) : Option Access :=
  match s.mtrans.settings with
  | some st =>
    match st.ports[port]? with
    | some p => if p.kiosk && p.role ≠ 0 && !bankFloated s bankMGB then some ⟨if p.role ≤ 2 then 2 else 3, port, 0xFFFF⟩ else none
    | none => none
  | none => none

/-- SMBUS_BLOCK_WRITE: a register write under command code 0x4B; one whose PEC fails is NACKed at the PEC byte and has no effect but its
count (R341). -/
def execSmbusBlockWrite (port tn off value : Nat) (pecOk : Bool) (s : State) : Host.Outcome State Fault Refusal :=
  .next (match kioskPort s port with
    | none => s
    | some a =>
      if !pecOk then (s.bump MTRANS_PEC_ERR_LO MTRANS_PEC_ERR_HI MTRANS_EVT_SAT srcMTRANS).ret .nack
      else s.tnWrite a tn off value)

/-- SMBUS_PROCESS_CALL: a register read (R341). -/
def execSmbusProcessCall (port tn off : Nat) (s : State) : Host.Outcome State Fault Refusal :=
  .next (match kioskPort s port with
    | none => s
    | some a => s.tnRead a tn off)

end Sys2Proof.Machine
end

