-- ==== Sys2Proof/Machine/Lcs.lean ====
section
/-! DEFINITION. Life-cycle transitions and SCRAP (R384 to R387), the debug token and nonce (R390, R392), halts and scan (R390, R394). -/

namespace Sys2Proof.Machine

/-! ### Transitions (R383 to R386) -/

/-- LCS_REQ_STAT takes the outcome of a request, with its event (R384). -/
def State.lcsDecided (s : State) (target : Nat) (c : Code) : State :=
  let s := (s.setF LCS_REQ_STAT_LAST_TARGET target).setF LCS_REQ_STAT_LAST_STATUS c.val
  s.raise (if c = .ok then LCS_EVT_ACCEPTED else LCS_EVT_REFUSED)

/-- The write completes a torn transition: TORN is set and the target is the decided state (R383). -/
def completesTorn (s : State) (target : Nat) : Bool := rb s LCS_STAT_TORN && target = lcState s

/-- The table of R384 has a row from the decided state to the target, for the writer. -/
def lcRow (st target : Nat) (debugger : Bool) : Bool :=
  if debugger then st = lcBLANK && target = lcFACTORY
  else (st = lcFACTORY && (target = lcOWNED || target = lcSCRAP)) || (st = lcOWNED && (target = lcRETURNED || target = lcSCRAP))
    || (st = lcRETURNED && target = lcSCRAP)

/-- The further condition of R384 on a transition. -/
def lcCondition (s : State) (target : Nat) : Bool :=
  if lcState s = lcFACTORY && target = lcOWNED then
    (s.otp.keys.filterMap id).any (fun k => !k.revoked) && rf s LODGE_STAT_VAULT = vrVALID
  else if lcState s = lcOWNED && target = lcRETURNED then rb s LCS_STAT_ARMED
  else true

/-- The decision on a request of LCS_REQUEST (R12, R383, R384); with no spare word left OTP takes no transition (R417), but for the
completion of a torn one, which R383 accepts. -/
def lcsCode (s : State) (target : Nat) (debugger : Bool) : Option Code :=
  firstCode [(lockdown s, .refusedState),
    (!completesTorn s target && (rb s LCS_STAT_PENDING || !lcRow (lcState s) target debugger), .refusedState),
    (!completesTorn s target && !lcCondition s target, .refusedPolicy),
    (!completesTorn s target && spareWordsOut s, .refusedQuota)]

/-- Steps 1 and 2 of R387: holds, ends of jobs, zeroisation of the key store, the Orangery keys and the vault. -/
def State.scrapStart (s : State) : State :=
  let s := s.each (domOrder s) fun s d =>
    if released s d then s.holdDom d
    else if domState s d = stRECOVERING then (s.setDom d stPARKED).recEnd d Code.aborted.val
    else s
  let s := { s with orang := { s.orang with keys := [] } }
  (s.updAbortAll.zeroise 0xFE).modLcs fun l => { l with scrap := 1 }

/-- An accepted transition: the target is latched in an atomic window, one record, and the copies are being programmed; RETURNED
clears the vault's slot copies and SCRAP begins its wipe (R384 to R387). -/
def State.lcsAccept (s : State) (target : Nat) : State :=
  let s := (s.lcsDecided target .ok).journal 0 384 srcLCS target
  let s := (((s.setF LCS_STAT_PENDING 1).setF LCS_STAT_ARMED 0).setF LCS_REQ_STAT_BUSY 1).atomic
  let s := s.modLcs fun l => { l with target := some (max target (l.target.getD 0)) }
  let s := s.when (target = lcRETURNED) (·.vaultClear 256 4096)
  s.when (target = lcSCRAP) State.scrapStart

/-- A write of a target to LCS_REQUEST. A debugger's write outside BLANK, or without L3, is ignored with one record. -/
def State.lcsRequest (s : State) (target : Nat) (debugger : Bool) : State :=
  if debugger && !dbgGrants s .lcsRequest then
    (s.raise LCS_EVT_REFUSED).journal 0 384 srcLCS noUnit .refusedState
  else match lcsCode s target debugger with
    | some c => s.lcsDecided target c
    | none => s.lcsAccept target

/-- LCS_TO_FACTORY (R384). -/
def execLcsToFactory (debugger : Bool) (s : State) : Host.Outcome State Fault Refusal := .next (s.lcsRequest 1 debugger)
/-- LCS_TO_OWNED (R384). -/
def execLcsToOwned (debugger : Bool) (s : State) : Host.Outcome State Fault Refusal := .next (s.lcsRequest 2 debugger)
/-- LCS_TO_RETURNED (R385, R386). -/
def execLcsToReturned (debugger : Bool) (s : State) : Host.Outcome State Fault Refusal := .next (s.lcsRequest 3 debugger)
/-- LCS_TO_SCRAP (R387). -/
def execLcsToScrap (debugger : Bool) (s : State) : Host.Outcome State Fault Refusal := .next (s.lcsRequest 4 debugger)

/-- LCS_PROGRAMMED: the three copies hold the code of the latched target; a SCRAP stays BUSY with its words (R384, R387). -/
def execLcsProgrammed (s : State) : Host.Outcome State Fault Refusal :=
  .next (match s.lcs.target with
    | none => s
    | some t =>
      let s := s.each [0, 1, 2] fun s i => s.otpProgram i (lcWord t)
      let s := (s.modLcs fun l => { l with target := none, scrap := if t = lcSCRAP then 2 else l.scrap }).raise LCS_EVT_PROGRAMMED
      (s.when (t ≠ lcSCRAP) (·.setF LCS_REQ_STAT_BUSY 0)).endTest)

/-- A write of LCS_ARM: KEY 0x52E7 with RETURN sets ARMED; any other word changes nothing (R385). -/
def State.lcsArm (s : State) (word : Nat) : State :=
  if bitsAt word 16 16 = 0x52E7 && word.testBit 0 then s.raise LCS_STAT_ARMED else s

/-- LCS_ARM. -/
def execLcsArm (word : Nat) (s : State) : Host.Outcome State Fault Refusal := .next (s.lcsArm word)

/-- ARMED_EXPIRY: ARMED clears 1 s after it was set (R385). -/
def execArmedExpiry (s : State) : Host.Outcome State Fault Refusal := .next (s.setF LCS_STAT_ARMED 0)

/-- SCRAP_WIPE_DONE: steps 4 to 6 of R387 end with a device reset, which leaves DRAM and every SRAM clear. -/
def execScrapWipeDone (testen : Bool) (s : State) : Host.Outcome State Fault Refusal :=
  .next (if s.lcs.scrap = 2 then ((s.modLcs fun l => { l with scrap := 0 }).burnWords scrapWords).resetNow 0 testen else s)

/-! ### Debug token and nonce (R390, R392) -/

/-- TOKEN_LOAD: the token buffer takes up to 8,192 bytes, at every level (R390 to R392). -/
def execTokenLoad (token : List Byte) (s : State) : Host.Outcome State Fault Refusal :=
  .next (let t := token.take 8192
    (s.modLcs fun l => { l with token := t, tap := .tokenLoad }).setF DEBUG_STAT_TOKEN_LEN t.length)

/-- NONCE_REQ: a debugger's request draws DEBUG_NONCE from the DRBG, or is refused NOT_READY; Belvedere's write is ignored (R392). -/
def execNonceReq (debugger : Bool) (s : State) : Host.Outcome State Fault Refusal :=
  .next (if !debugger then s
    else match s.takeItem with
      | (.error c, s) => s.ret (.code c)
      | (.ok it, s) =>
        let s := (s.setReg DEBUG_NONCE_LO (BitVec.ofNat 32 (fieldAt it 0 4))).setReg DEBUG_NONCE_HI (BitVec.ofNat 32 (fieldAt it 4 4))
        (s.raise DEBUG_STAT_NONCE_VALID).ret (.code .ok))

/-- TOKEN_CLEAR: a debugger empties the token buffer (R390). -/
def execTokenClear (debugger : Bool) (s : State) : Host.Outcome State Fault Refusal :=
  .next (if debugger then (s.modLcs fun l => { l with token := [] }).setF DEBUG_STAT_TOKEN_LEN 0 else s)

/-! ### Halts (R394) -/

/-- Belvedere halts: both pairs together, and the watchdog is frozen with what is left of its count (R60, R394). -/
def State.haltBv (s : State) : State :=
  let left := match s.boot.wdtEnd with | some e => max 1 (e - s.usec) | none => s.boot.wdtLeft
  ((s.modLcs fun l => { l with haltReq := false }).modBoot fun b => { b with wdtEnd := none, wdtLeft := left }).raise DEBUG_STAT_HALTED

/-- HALT_REQ: a debugger at L2 or L3 asks for a halt, which an open atomic window delays (R388, R394). -/
def execHaltReq (debugger : Bool) (s : State) : Host.Outcome State Fault Refusal :=
  .next (if !(debugger && dbgGrants s .halt) then s
    else if atomicOpen s then s.modLcs fun l => { l with haltReq := true }
    else s.haltBv)

/-- HALT: the halt asked for takes effect as the window closes (R394). -/
def execHalt (s : State) : Host.Outcome State Fault Refusal := .next (if s.lcs.haltReq then s.haltBv else s)

/-- BELVEDERE_RESUME: a halted Belvedere runs again and the watchdog counts on from where it was frozen (R60, R394). -/
def execBelvedereResume (s : State) : Host.Outcome State Fault Refusal :=
  .next (if !rb s DEBUG_STAT_HALTED then s
    else
      let s := s.when (s.boot.wdtLeft ≠ 0) (·.modBoot fun b => { b with wdtEnd := some (s.usec + b.wdtLeft), wdtLeft := 0 })
      s.setF DEBUG_STAT_HALTED 0)

/-! ### Scan (R390) -/

/-- TCM, the journal's ring and every word poisoned in an SRAM. -/
def State.zeroTcm (s : State) : State :=
  { s with
    tcm := []
    jnl := { s.jnl with held := s.jnl.held.filter (!·.2.inRing), bad := [] }
    mem := { s.mem with poison := [], mailPoison := [] }
    mtrans := { s.mtrans with sessions := [] } }

/-- Every mailbox, with the words of the requests and replies that wait in it. -/
def State.zeroMail (s : State) : State :=
  let bare (e : Nat × Box) : Nat × Box := (e.1, { e.2 with word := 0, reply := 0 })
  let s := { s with kiosk := { s.kiosk with boxes := (s.kiosk.boxes.map bare).filter (·.2 ≠ Box.init) } }
  s.each (List.range 512) fun s tn => s.resetRegs fun a => a = TN_REQ tn || (TN_REQ tn < a && a < TN_REQ tn + 32)

/-- The operand memories of the engines, which hold the operands and the working key of a running operation. -/
def State.zeroEngines (s : State) : State :=
  let zeros (b : List Byte) : List Byte := List.replicate b.length 0
  let bare (e : Nat × EngOp) : Nat × EngOp :=
    (e.1, { e.2 with args := e.2.args.map zeros, wk := e.2.wk.map fun (k, t, p) => (k, t, zeros p) })
  { s with eng := s.eng.map bare }

/-- The hot tiers. -/
def State.zeroHot (s : State) : State :=
  let s := s.setPlane 0 ⟨(planeOf s 0).mem, (planeOf s 0).tags, []⟩
  s.setPlane 1 ⟨(planeOf s 1).mem, (planeOf s 1).tags, []⟩

/-- The program banks of the ports and the tables of the Orangery. -/
def State.zeroTables (s : State) : State :=
  let bare (e : Nat × Chan) : Nat × Chan := (e.1, { e.2 with prog := none, pend := Chan.init.pend })
  { s with chans := (s.chans.map bare).filter (·.2 ≠ Chan.init), orang := { s.orang with exts := [], ctrs := [], lost := [], grans := [] } }

/-- Slots, working keys and derived secrets. -/
def State.zeroKeys (s : State) : State :=
  (s.each [0, 1, 2, 3] fun s e => s.setWk e none).modKeys fun k =>
    { k with slots := [], l0 := [], kt := [], l1 := [], cfg := none, cmd := none, l2Auto := none }

/-- Every SRAM and the key manager's internal registers are zero (R265, R390). -/
def State.zeroSrams (s : State) : State := s.zeroTcm.zeroMail.zeroHot.zeroTables.zeroEngines.zeroKeys

/-- SCAN_ENTRY: at L3 scan mode is in force once everything secret is zero (R388, R390). -/
def execScanEntry (s : State) : Host.Outcome State Fault Refusal :=
  .next (if dbgGrants s .scan then (s.zeroSrams.modLcs fun l => { l with tap := .scan }).raise DEBUG_STAT_SCAN else s)

/-- SCAN_EXIT: leaving scan forces a device reset (R390). -/
def execScanExit (testen : Bool) (s : State) : Host.Outcome State Fault Refusal :=
  .next (if rb s DEBUG_STAT_SCAN then s.forceReset 0 testen else s)

end Sys2Proof.Machine
end

