-- ==== Sys2Proof/Machine/Spdm.lean ====
section
/-! DEFINITION. The SPDM responder (R357 to R361) and PLDM base (R362). A request that breaks DSP0274 comes with the ERROR code
which that standard gives it. -/

namespace Sys2Proof.Machine

/-! ### Connections -/

def conn (s : State) (tn : Nat) : Conn := ((s.mtrans.conns.find? (·.1 = tn)).map (·.2)).getD Conn.init
def State.setConn (s : State) (tn : Nat) (c : Conn) : State :=
  s.modMt fun m => { m with conns := (tn, c) :: m.conns.filter (·.1 ≠ tn) }

/-- The request code of VENDOR_DEFINED_REQUEST, as DSP0274 has it. -/
def scVENDOR : Nat := 0xFE

/-- An SPDM request, by its request code, of a bound tenant with PERM ATTEST; in LOCKDOWN every one but VENDOR_DEFINED_REQUEST is answered (R353, R359,
R361). -/
def State.spdm (s : State) (o : Origin) (code : Nat) (brk : Option SpdmErr) (inLockdown : Bool) (f : Tbe → State → State) : State :=
  s.request o mtSPDM code inLockdown (·.permAttest) fun t s =>
    match brk with
    | some e => s.ret (.spdmError e)
    | none => f t s

def State.spdmOk (s : State) (_ : Tbe) (data : List Byte) : State := s.ret (.reply .ok data)

/-- A response longer than the requester's DataTransferSize is answered LargeResponse and fetched by CHUNK_GET (R360). -/
def State.spdmData (s : State) (t : Tbe) (data : List Byte) : State :=
  let c := conn s t.tn
  if c.dts ≠ 0 && c.dts < data.length then (s.setConn t.tn { c with large := data }).ret (.spdmError .largeResponse)
  else s.spdmOk t data

/-! ### Version, capabilities, algorithms (R357) -/

/-- GET_VERSION: versions 1.3 and 1.2; the connection starts anew. -/
def execGetVersion (org : Origin) (brk : Option SpdmErr) (s : State) : Host.Outcome State Fault Refusal :=
  .next (s.spdm org 0x84 brk true fun t s => (s.setConn t.tn Conn.init).spdmOk t [0x00, 0x13, 0x00, 0x12])

/-- The capabilities set, at DSP0274's bit places. -/
def capFlags : Nat := 2 ^ 1 + 2 ^ 2 + 2 ^ 4 + 2 ^ 5 + 2 ^ 6 + 2 ^ 7 + 2 ^ 9 + 2 ^ 13 + 2 ^ 14 + 2 ^ 17 + 2 ^ 18

/-- GET_CAPABILITIES: CTExponent 17, the flags, DataTransferSize 4,224 and MaxSPDMmsgSize 65,536. -/
def execGetCapabilities (org : Origin) (version dts : Nat) (brk : Option SpdmErr) (s : State) : Host.Outcome State Fault Refusal :=
  .next (s.spdm org 0xE1 brk true fun t s =>
    if version ≠ 0x13 && version ≠ 0x12 then s.ret (.spdmError .versionMismatch)
    else (s.setConn t.tn { Conn.init with version := version, dts := dts }).spdmOk t
      (leBytes 1 17 ++ leBytes 4 capFlags ++ leBytes 4 4224 ++ leBytes 4 65536))

/-- NEGOTIATE_ALGORITHMS: ECDSA P-384, SHA-384, the DMTF measurement specification, secp384r1, AES-256-GCM, the SPDM key schedule,
no requester algorithm, at DSP0274's bit places. -/
def execNegotiateAlgorithms (org : Origin) (brk : Option SpdmErr) (s : State) : Host.Outcome State Fault Refusal :=
  .next (s.spdm org 0xE3 brk true fun t s =>
    let c := conn s t.tn
    if c.version = 0 then s.ret (.spdmError .unexpectedRequest)
    else (s.setConn t.tn { c with algs := true }).spdmOk t
      (leBytes 1 1 ++ leBytes 4 4 ++ leBytes 4 0x80 ++ leBytes 4 2 ++ leBytes 2 0x10 ++ leBytes 2 2 ++ leBytes 2 1 ++ leBytes 2 0))

/-! ### Certificates (R358) -/

/-- The certificate chain of slot 0. -/
def certChainNow (s : State) : List Byte := Config.certChain (slotPublic s 0) (slotPublic s 1) (slotPublic s 3)

/-- GET_DIGESTS. -/
def execGetDigests (org : Origin) (brk : Option SpdmErr) (s : State) : Host.Outcome State Fault Refusal :=
  .next (s.spdm org 0x81 brk true fun t s => s.spdmOk t (sha384 (certChainNow s)))

/-- GET_CERTIFICATE. -/
def execGetCertificate (org : Origin) (off len : Nat) (brk : Option SpdmErr) (s : State) : Host.Outcome State Fault Refusal :=
  .next (s.spdm org 0x82 brk true fun t s => s.spdmData t (((certChainNow s).drop off).take len))

/-! ### Signed responses (R358, R361) -/

/-- A signature with KS3 over the digest of a transcript; after a Lodge zeroisation KEY_REVOKED, before KS3 is derived NOT_READY. -/
def State.ks3Sign (s : State) (transcript : List Byte) : Except Code (List Byte) × State :=
  if rb s KEYS_STAT_ZEROISED then (.error .keyRevoked, s)
  else if slotState s 3 = slBAD then (.error .keyBad, s)
  else if slotState s 3 ≠ slVALID then (.error .notReady, s)
  else match s.takeItem with
    | (.error c, s) => (.error c, s)
    | (.ok it, s) =>
      match ecdsaSign p384 (beNat (slice (slotPayload s 3) 0 48)) (sha384 transcript) (p384.scalar (beNat it)) with
      | some sig => (.ok sig, s)
      | none => (.error .internalFault, s)

/-- A signed response. -/
def State.spdmSigned (s : State) (t : Tbe) (code : Nat) (transcript data : List Byte) : State :=
  match s.ks3Sign transcript with
  | (.error c, s) => s.respond t.tn mtSPDM code c
  | (.ok sig, s) => s.spdmData t (data ++ sig)

/-- CHALLENGE: a nonce and the chain's digest, signed. -/
def execChallenge (org : Origin) (transcript : List Byte) (brk : Option SpdmErr) (s : State) : Host.Outcome State Fault Refusal :=
  .next (s.spdm org 0x83 brk true fun t s => s.spdmSigned t 0x83 transcript (sha384 (certChainNow s)))

/-! ### Measurements (R360) -/

/-- SHA-384 of the boot ROM. -/
def romDigest : List Byte := sha384 ((List.range 0x80000).map Config.romByte)

/-- The value of a measurement block, none where its source is absent. -/
def measurement (s : State) (index : Nat) : Option (Nat × List Byte) :=
  if index = 1 then some (0, romDigest)
  else if index = 2 then some (1, digestOf s SYSCTL_MEAS_FW)
  else if index = 3 then some (0x87, leBytes 4 (rf s SYSCTL_FW_SVN_FW_SVN))
  else if index = 4 then some (3, digestOf s SYSCTL_MEAS_CFG)
  else if index = 5 then some (0x85, lcCode s ++ leBytes 1 (rf s DEBUG_STAT_LEVEL))
  else if 16 ≤ index && index < 64 then (s.ldr.force.find? (·.1 = index - 16)).map fun e => (1, e.2.digest)
  else if 64 ≤ index && index < 160 then
    match (Sparse.get (fun _ => Chan.init) s.chans (index - 64)).prog with
    | some _ => some (3, digestOf s (CH_TR_MEAS (index - 64)))
    | none => none
  else if index = 160 then
    some (0x89, (List.range 48).flatMap fun d =>
      leBytes 1 (domState s d) ++ leBytes 4 (if domExists s d then domGen s d else 0))
  else none

/-- A measurement block: index, specification 1 (DMTF), sizes, value type, value. -/
def measBlock (s : State) (index : Nat) : List Byte :=
  match measurement s index with
  | some (ty, v) => leBytes 1 index ++ leBytes 1 1 ++ leBytes 2 (v.length + 3) ++ leBytes 1 ty ++ leBytes 2 v.length ++ v
  | none => []

/-- The indices of present blocks. -/
def measPresent (s : State) : List Nat := (List.range 161).filter fun i => (measurement s i).isSome

/-- The blocks an index asks for: 0 their number, 0xFF every present block. -/
def measData (s : State) (index : Nat) : List Byte :=
  if index = 0 then leBytes 1 (measPresent s).length
  else if index = 0xFF then (measPresent s).flatMap (measBlock s)
  else measBlock s index

/-- GET_MEASUREMENTS: an absent block is omitted; a signed response is signed with KS3. -/
def execGetMeasurements (org : Origin) (index : Nat) (signed : Bool) (transcript : List Byte) (brk : Option SpdmErr) (s : State) :
    Host.Outcome State Fault Refusal :=
  .next (s.spdm org 0xE0 brk true fun t s =>
    let data := measData s index
    if signed then s.spdmSigned t 0xE0 transcript data else s.spdmData t data)

/-! ### Sessions (R338, R350, R358, R359) -/

def sess (s : State) (tn id : Nat) : Option Sess := s.mtrans.sessions.find? fun q => q.id = id && q.tn = tn
def State.putSess (s : State) (q : Sess) : State :=
  s.modMt fun m => { m with sessions := m.sessions.map fun r => if r.id = q.id then q else r }
def State.endSess (s : State) (id : Nat) : State := s.modMt fun m => { m with sessions := m.sessions.filter (·.id ≠ id) }

/-- The tenant's SESSIONS or the device limit is reached. -/
def sessFull (s : State) (t : Tbe) : Bool :=
  t.sessions ≤ (s.mtrans.sessions.filter (·.tn = t.tn)).length
    || (match s.mtrans.settings with | some st => st.sessions | none => 0) ≤ s.mtrans.sessions.length

/-- The point of a requester's exchange data: X and Y of a point of secp384r1 (R357). -/
def dhePoint (peer : List Byte) : Point := if peer.length = 96 then p384.decode (4 :: peer) else none

/-- The DHE secret: the X coordinate of the scalar's multiple of the requester's point. -/
def dheSecret (d : Nat) (q : Point) : List Byte := match p384.mul d q with | some (x, _) => beBytes 48 x | none => List.replicate 48 0

/-- KEY_EXCHANGE: SessionLimitExceeded, or a session opens whose secret is that of a fresh DRBG scalar and the requester's point `peer`;
the response carries the scalar's public point and a signature of KS3. A point that is none of the curve breaks DSP0274. -/
def execKeyExchange (org : Origin) (peer transcript : List Byte) (brk : Option SpdmErr) (s : State) : Host.Outcome State Fault Refusal :=
  .next (s.spdm org 0xE4 brk true fun t s =>
    if dhePoint peer = none then s.ret (.spdmError .invalidRequest)
    else if sessFull s t then s.ret (.spdmError .sessionLimitExceeded)
    else if rb s KEYS_STAT_ZEROISED then s.respond t.tn mtSPDM 0xE4 .keyRevoked
    else match s.takeItem with
      | (.error c, s) => s.respond t.tn mtSPDM 0xE4 c
      | (.ok it, s) =>
        let d := p384.scalar (beNat it)
        let pub := p384.encode (p384.mul d p384.base)
        match s.ks3Sign (transcript ++ pub) with
        | (.error c, s) => s.respond t.tn mtSPDM 0xE4 c
        | (.ok sig, s) =>
          let id := s.mtrans.nextSess
          let q : Sess := ⟨id, t.tn, false, dheSecret d (dhePoint peer), 0, s.usec⟩
          let s := s.modMt fun m => { m with sessions := m.sessions ++ [q], nextSess := id + 1 }
          s.spdmData t (leBytes 2 id ++ pub ++ sig))

/-- A secured message that names a lost session is discarded and counted (R363); which counter counts it is the model's choice. -/
def State.lostSession (s : State) : State := (s.bump MTRANS_UNKNOWN_SRC_LO MTRANS_UNKNOWN_SRC_HI MTRANS_EVT_SAT srcMTRANS).ret .none

/-- A request inside session `id`; its moment is the session's last. -/
def State.inSess (s : State) (t : Tbe) (id : Nat) (est : Bool) (f : Sess → State → State) : State :=
  match sess s t.tn id with
  | some q => if q.est = est then f q (s.putSess { q with last := s.usec }) else s.ret (.spdmError .unexpectedRequest)
  | none => s.lostSession

/-- FINISH: the session is established; the response is signed with KS3. -/
def execFinish (org : Origin) (id : Nat) (transcript : List Byte) (brk : Option SpdmErr) (s : State) :
    Host.Outcome State Fault Refusal :=
  .next (s.spdm org 0xE5 brk true fun t s => s.inSess t id false fun q s =>
    match s.ks3Sign transcript with
    | (.error c, s) => s.respond t.tn mtSPDM 0xE5 c
    | (.ok sig, s) => (s.putSess { q with est := true, last := s.usec }).spdmData t sig)

/-- HEARTBEAT. -/
def execHeartbeat (org : Origin) (id : Nat) (brk : Option SpdmErr) (s : State) : Host.Outcome State Fault Refusal :=
  .next (s.spdm org 0xE8 brk true fun t s => s.inSess t id true fun _ s => s.spdmOk t [])

/-- Twice HBEAT has passed since the session's last message; HBEAT 0 disables it (R350, R358). -/
def heartStopped (s : State) (id : Nat) : Bool :=
  match s.mtrans.settings, s.mtrans.sessions.find? (·.id = id) with
  | some st, some q => st.hbeat ≠ 0 && q.last + 2000000 * st.hbeat ≤ s.usec
  | _, _ => false

/-- HEARTBEAT_EXPIRY: twice HBEAT without a message ends the session and wipes its secrets. -/
def execHeartbeatExpiry (id : Nat) (s : State) : Host.Outcome State Fault Refusal :=
  .next (if heartStopped s id then s.endSess id else s)

/-- KEY_UPDATE. -/
def execKeyUpdate (org : Origin) (id : Nat) (brk : Option SpdmErr) (s : State) : Host.Outcome State Fault Refusal :=
  .next (s.spdm org 0xE9 brk true fun t s => s.inSess t id true fun q s =>
    (s.putSess { q with updates := q.updates + 1, last := s.usec }).spdmOk t [])

/-- END_SESSION. -/
def execEndSession (org : Origin) (id : Nat) (brk : Option SpdmErr) (s : State) : Host.Outcome State Fault Refusal :=
  .next (s.spdm org 0xEC brk true fun t s => s.inSess t id true fun _ s => (s.endSess id).spdmOk t [])

/-! ### Chunks and the rest (R357, R360) -/

/-- RESPOND_IF_READY: a response kept back is returned; the HX96 never answers ResponseNotReady, so there is none but a large
one. -/
def execRespondIfReady (org : Origin) (brk : Option SpdmErr) (s : State) : Host.Outcome State Fault Refusal :=
  .next (s.spdm org 0xFF brk true fun t s =>
    if (conn s t.tn).large = [] then s.ret (.spdmError .unexpectedRequest) else s.ret (.spdmError .largeResponse))

/-- CHUNK_GET: the next chunk of a large response, at most the requester's DataTransferSize. -/
def execChunkGet (org : Origin) (brk : Option SpdmErr) (s : State) : Host.Outcome State Fault Refusal :=
  .next (s.spdm org 0x86 brk true fun t s =>
    let c := conn s t.tn
    if c.large = [] then s.ret (.spdmError .unexpectedRequest)
    else (s.setConn t.tn { c with large := c.large.drop c.dts }).spdmOk t (c.large.take c.dts))

/-- SPDM_UNSUPPORTED_REQUEST: ERROR UnsupportedRequest (R357). Which request code it carries is not stated: a free value, which only the
outcome of a refusal keeps. -/
def execSpdmUnsupportedRequest (org : Origin) (s : State) : Host.Outcome State Fault Refusal :=
  .next (let (v, s) := s.free
    s.spdm org (v % 256) none true fun _ s => s.ret (.spdmError .unsupportedRequest))

/-! ### PLDM base (R362) -/

/-- A PLDM request of a bound tenant (R114, R353). -/
def State.pldm (s : State) (o : Origin) (cmd : Nat) (perm : Tbe → Bool) (f : Tbe → State → State) (bad : Bool := false) : State :=
  s.request o mtPLDM cmd false perm f false bad

/-- The PLDM types reported (R362). -/
def pldmTypes : List Nat := [0, 5]

/-- GET_TID. -/
def execGetTid (org : Origin) (s : State) : Host.Outcome State Fault Refusal :=
  .next (s.pldm org 2 (fun _ => true) fun t s => s.respond t.tn mtPLDM 2 .ok [Config.pldmTid])

/-- GET_PLDM_VERSION of a type reported by GetPLDMTypes. -/
def execGetPldmVersion (org : Origin) (typ : Nat) (s : State) : Host.Outcome State Fault Refusal :=
  .next (s.pldm org 3 (fun _ => true) (fun t s =>
    s.respond t.tn mtPLDM 3 .ok (beBytes 4 (Config.typeVersion (256 + typ)).toNat)) (!pldmTypes.contains typ))

/-- GET_PLDM_TYPES: types 0 and 5, and no other. -/
def execGetPldmTypes (org : Origin) (s : State) : Host.Outcome State Fault Refusal :=
  .next (s.pldm org 4 (fun _ => true) fun t s => s.respond t.tn mtPLDM 4 .ok (leBytes 8 0x21))

/-- The command codes reported for a type: base, and firmware update under R368, at the codes of DSP0240 and DSP0267. -/
def pldmCommands (typ : Nat) : List Nat :=
  if typ = 0 then [2, 3, 4, 5]
  else [0x01, 0x02, 0x10, 0x13, 0x14, 0x15, 0x16, 0x17, 0x18, 0x1A, 0x1B, 0x1C, 0x1D]

/-- GET_PLDM_COMMANDS: a bit map of 256 bits. -/
def execGetPldmCommands (org : Origin) (typ : Nat) (s : State) : Host.Outcome State Fault Refusal :=
  .next (s.pldm org 5 (fun _ => true) (fun t s =>
    s.respond t.tn mtPLDM 5 .ok (leBytes 32 ((pldmCommands typ).foldl (fun m c => m ||| 2 ^ c) 0))) (!pldmTypes.contains typ))

end Sys2Proof.Machine
end

