-- ==== Sys2Proof/Machine/Update.lean ====
section
/-! DEFINITION. Update and activation (R366 to R380): the PLDM firmware device and the update engine of the FBUS block. -/

namespace Sys2Proof.Machine

/-! ### Components (R366) -/

/-- The domain of a domain or Nursery component. -/
def compDom (comp : Nat) : Option Nat :=
  if comp < 48 then some comp else if 0x100 ≤ comp && comp < 0x130 then some (comp - 0x100) else none

def compNur (comp : Nat) : Bool := 0x100 ≤ comp && comp < 0x130
def compRoot (comp : Nat) : Bool := comp = 0xFE || comp = 0xFF
/-- The manifest class of a component. -/
def compClass (comp : Nat) : Nat := match compDom comp with | some d => d | none => comp

/-- The manifest in force of a domain. -/
def forceOf (s : State) (d : Nat) : Option Manifest := (s.ldr.force.find? (·.1 = d)).map (·.2)

/-- The partition that mirrors a domain's manifest partition. -/
def mirrorPart (s : State) (d : Nat) : Option Nat :=
  match domCfg s d with
  | some c => match s.fbus.map.parts[c.manPart]? with
    | some p => if p.mirror = 0xFFFF then none else some p.mirror
    | none => none
  | none => none

/-- The Nursery partitions that a manifest names. -/
def manNur (m : Option Manifest) : List Nat := match m with | some m => (m.regions.filter (·.nursery)).map (·.nurPart) | none => []

/-- The Nursery partitions of a domain. -/
def nurParts (s : State) (d : Nat) : List Nat := (mirrorPart s d).toList ++ manNur (forceOf s d)

/-- The component is offered (R366); ROM recovery knows no domain (R70). -/
def compOffered (s : State) (comp : Nat) : Bool :=
  compRoot comp || !recovery s && match compDom comp with
    | some d => domExists s d && (!compNur comp || !(nurParts s d).isEmpty)
    | none => false

/-- The comparison stamp of a component: the SECURITY_VERSION of the manifest in force (R366). -/
def compStamp (s : State) (comp : Nat) : Nat :=
  match compDom comp with
  | some d => match forceOf s d with | some m => m.svn | none => 0
  | none => if comp = 0xFE then rf s SYSCTL_FW_SVN_FW_SVN else rf s SYSCTL_CFG_SVN_CFG_SVN

/-! ### R370 -/

/-- A recovery job reads one of the component's Nursery partitions, or one that the staged manifest `man` has UPD_WRITE write (R262, R370). -/
def nurBusy (s : State) (comp : Nat) (man : Option Manifest := none) : Bool :=
  match compDom comp with
  | some d => compNur comp && s.fbus.recs.any fun (_, r) => match r with
    | some r => r.ranges.any fun g => (nurParts s d ++ manNur man).contains g.nurPart
    | none => false
  | none => false

/-- The mode takes updates and activations (R70, R114). -/
def updMode (s : State) : Bool := modeServe s || recovery s

/-- The conditions of R370 that give REFUSED_STATE; ROM recovery accepts an update in ASSEMBLY (R70). -/
def updState (s : State) (comp : Nat) (man : Option Manifest := none) : Bool :=
  !updMode s || (match compDom comp with | some d => hasJob s d | none => false) || nurBusy s comp man
    || rb s LODGE_STAT_TRANSIT || !vbatOk s

/-! ### PLDM type 5 (R368, R369) -/

/-- Commands of DSP0267. -/
def plQUERY : Nat := 0x01
def plPARAMS : Nat := 0x02
def plREQUEST : Nat := 0x10
def plPASS : Nat := 0x13
def plUPDATE : Nat := 0x14
def plACTIVATE : Nat := 0x1A
def plSTATUS : Nat := 0x1B
def plCANCELCOMP : Nat := 0x1C
def plCANCEL : Nat := 0x1D

/-- QUERY_DEVICE_IDENTIFIERS: one descriptor, the enterprise number. -/
def execQueryDeviceIdentifiers (org : Origin) (s : State) : Host.Outcome State Fault Refusal :=
  .next (s.request org mtPLDM plQUERY false (·.permUpdate) (fun t s =>
    s.respond t.tn mtPLDM plQUERY .ok (leBytes 4 8 ++ leBytes 1 1 ++ leBytes 2 1 ++ leBytes 2 4 ++ leBytes 4 64917)) true)

/-- The components offered, in ascending order of their identifiers. -/
def comps (s : State) : List Nat := ((List.range 0x130).filter fun c => compOffered s c)

/-- GET_FIRMWARE_PARAMETERS: identifier, classification 0xFFFF and comparison stamp of every component offered (R366). -/
def execGetFirmwareParameters (org : Origin) (s : State) : Host.Outcome State Fault Refusal :=
  .next (s.request org mtPLDM plPARAMS false (·.permUpdate) (fun t s =>
    s.respond t.tn mtPLDM plPARAMS .ok ((comps s).flatMap fun c => leBytes 2 0xFFFF ++ leBytes 2 c ++ leBytes 4 (compStamp s c))) true)

/-- A refusal at RequestUpdate or UpdateComponent: UNABLE_TO_INITIATE_UPDATE, with the code kept for GET_OUTCOME (R369). -/
def State.pldmRefuse (s : State) (tn cmd : Nat) (c : Code) : State :=
  let (t, s) := if c = .busyRetry then s.delay (msgKey tn mtPLDM cmd) none else (0, s)
  (s.setOutcome tn mtPLDM cmd c t).ret (.pldm (if c = .busyRetry then .retryRequestUpdate else .unableToInitiateUpdate))

/-- An update command of a tenant, whose R370 conditions are its own to judge. -/
def State.updateMsg (s : State) (o : Origin) (f : Tbe → State → State) : State :=
  if recovery s then f (recoveryTbe o) s else
  match mctpTenant s o with
  | none => s.unknownSrc o.port
  | some t => f t s

/-- REQUEST_UPDATE: a session opens, device-wide; the conditions of R370 that need no component are checked (R368 to R370). -/
def execRequestUpdate (org : Origin) (s : State) : Host.Outcome State Fault Refusal :=
  .next (s.updateMsg org fun t s =>
    if !updMode s then s.pldmRefuse t.tn plREQUEST .refusedState
    else if s.upd.sess.isSome then s.ret (.pldm .alreadyInUpdateMode)
    else match firstCode [(updState s 0xFFFF, .refusedState), (rb s FBUS_UPD_STAT_OWNER_LOCK || !t.permUpdate, .refusedPolicy)] with
      | some c => s.pldmRefuse t.tn plREQUEST c
      | none => (s.modUpd fun u => { u with sess := some { tn := t.tn, phase := 1, comp := 0xFFFF } }).respond t.tn mtPLDM plREQUEST .ok)

/-- A command of the tenant whose session is open; `phases` are those in which it is in order. -/
def State.inSession (s : State) (o : Origin) (cmd : Nat) (phases : List Nat) (f : UpdSess → State → State) : State :=
  s.request o mtPLDM cmd false (·.permUpdate) (fun t s =>
    match s.upd.sess with
    | some u =>
      if u.tn ≠ t.tn then s.ret (.pldm .notInUpdateMode)
      else if phases.contains u.phase then f u s
      else s.ret (.pldm .invalidStateForCommand)
    | none => s.ret (.pldm .notInUpdateMode)) true

def State.setSess (s : State) (u : Option UpdSess) : State := s.modUpd fun v => { v with sess := u }

/-- PASS_COMPONENT_TABLE; the last entry makes the session ready for a transfer. -/
def execPassComponentTable (org : Origin) (last : Bool) (s : State) : Host.Outcome State Fault Refusal :=
  .next (s.inSession org plPASS [1] fun u s =>
    (if last then s.setSess (some { u with phase := 2 }) else s).respond u.tn mtPLDM plPASS .ok)

/-- The decision on UpdateComponent (R370). -/
def updateCode (s : State) (t : Tbe) (comp size svn : Nat) : Option Code :=
  firstCode [(!compOffered s comp, .malformed), (updState s comp, .refusedState),
    (rb s FBUS_UPD_STAT_OWNER_LOCK || !t.permUpdate, .refusedPolicy), (!recovery s && freeMiB s * 1048576 < size, .refusedQuota),
    (255 < svn, .versionExhausted)]

/-- The HX96 asks for the next bytes of the component, at most the transfer size of 1,024, and ends the transfer once all are staged (R368). -/
def UpdSess.requestData (u : UpdSess) : UpdSess :=
  if u.got < u.size then { u with sent := some (plREQDATA, leBytes 4 u.got ++ leBytes 4 (min 1024 (u.size - u.got))) }
  else { u with phase := 4, sent := some (plXFERDONE, [0]) }

/-- UPDATE_COMPONENT: in another mode than those of R114 refused whatever session is open; else the transfer of a component of `size` bytes and comparison stamp `svn` starts, or is refused (R369, R370). -/
def execUpdateComponent (org : Origin) (comp size svn : Nat) (s : State) : Host.Outcome State Fault Refusal :=
  .next (s.updateMsg org fun t s =>
    if !updMode s then s.pldmRefuse t.tn plUPDATE (if compOffered s comp then .refusedState else .malformed) else
    match s.upd.sess with
    | none => s.ret (.pldm .notInUpdateMode)
    | some u =>
      if u.tn ≠ t.tn then s.ret (.pldm .notInUpdateMode)
      else match updateCode s t comp size svn with
        | some c => s.pldmRefuse t.tn plUPDATE c
        | none =>
          if u.phase ≠ 2 then s.ret (.pldm .invalidStateForCommand)
          else (s.setSess (some ({ tn := u.tn, phase := 3, comp, size } : UpdSess).requestData)).respond t.tn mtPLDM plUPDATE .ok)

/-- The component that the open session last named, or none. -/
def sessComp (s : State) : Nat := match s.upd.sess with | some u => u.comp | none => 0xFFFF

/-- ACTIVATE_FIRMWARE: checked under R370, it ends the session; the byte of the answer says that a class 255 component is pending until the
next device reset (R370, R376). -/
def execActivateFirmware (org : Origin) (s : State) : Host.Outcome State Fault Refusal :=
  .next (s.updateMsg org fun t s =>
    if !updMode s then s.respond t.tn mtPLDM plACTIVATE .refusedState else
    match s.upd.sess with
    | none => s.ret (.pldm .notInUpdateMode)
    | some u =>
      if u.tn ≠ t.tn then s.ret (.pldm .notInUpdateMode)
      else match firstCode [(updState s (sessComp s), .refusedState),
          (rb s FBUS_UPD_STAT_OWNER_LOCK || !t.permUpdate, .refusedPolicy)] with
        | some c => s.respond t.tn mtPLDM plACTIVATE c
        | none =>
          if u.phase ≠ 2 then s.ret (.pldm .invalidStateForCommand)
          else (s.setSess none).respond t.tn mtPLDM plACTIVATE .ok (leBytes 1 s.upd.cfgPending.toNat))

/-- GET_STATUS: where the session stands, 0 for none. -/
def execGetStatus (org : Origin) (s : State) : Host.Outcome State Fault Refusal :=
  .next (s.request org mtPLDM plSTATUS false (·.permUpdate) (fun t s =>
    s.respond t.tn mtPLDM plSTATUS .ok (leBytes 1 (match s.upd.sess with | some u => u.phase | none => 0))) true)

/-- CANCEL_UPDATE_COMPONENT: the transfer ends; the session goes on. -/
def execCancelUpdateComponent (org : Origin) (s : State) : Host.Outcome State Fault Refusal :=
  .next (s.inSession org plCANCELCOMP [3, 4, 5] fun u s =>
    (s.setSess (some { tn := u.tn, phase := 2, comp := 0xFFFF })).respond u.tn mtPLDM plCANCELCOMP .ok)

/-- CANCEL_UPDATE: the session ends. -/
def execCancelUpdate (org : Origin) (s : State) : Host.Outcome State Fault Refusal :=
  .next (s.inSession org plCANCEL [1, 2, 3, 4, 5] fun u s => (s.setSess none).respond u.tn mtPLDM plCANCEL .ok)

/-! ### The commands of FBUS_UPD_CMD (R380) -/

def updIf : CmdIf := ⟨FBUS_UPD_CMD_STAT_LAST_OP, FBUS_UPD_CMD_STAT_LAST_STATUS, some FBUS_UPD_CMD_STAT_RESULT, FBUS_UPD_EVT_CMD_DONE⟩
def updArg (s : State) : Nat := rf s FBUS_UPD_ARG_ARG
def updBusy (s : State) : Bool := s.upd.job.isSome

/-- A refused command: a record, except for BUSY_RETRY (R13, R380). -/
def State.updRefuse (s : State) (op comp : Nat) (c : Code) : State :=
  let s := s.cmdRefuse updIf op c
  if c = .busyRetry then s else s.journalDom 5 380 srcFBUS comp c.val

/-- A command: its conditions, those of R370 (`exhausted` for a SECURITY_VERSION above 255) and a running job in the order of R12, then its
effect (R380). The owner update lock does not refuse the command that clears it (R378). -/
def State.updDecide (s : State) (op comp : Nat) (malformed stale state policy exhausted : Bool) (f : State → State) : State :=
  match firstCode [(malformed, .malformed), (stale, .stale), (updState s comp || state, .refusedState),
      (((op ≠ 7 || updArg s ≠ 0) && rb s FBUS_UPD_STAT_OWNER_LOCK) || policy, .refusedPolicy), (delayed s updIf op (updBusy s), .busyRetry),
      (exhausted, .versionExhausted)] with
  | some c => s.updRefuse op comp c
  | none => (f s).cmdEnd updIf op .ok

/-- A job starts. -/
def State.updJob (s : State) (op comp handle : Nat) : State :=
  ((s.modUpd fun u => { u with job := some { op, comp, handle, aborted := false } }).setF FBUS_UPD_STAT_JOB op).setF FBUS_UPD_STAT_WRITTEN 0

/-! ### Component images (R367, R372, R373) -/

/-- The manifest at the start of a staged component image. -/
def stagedMan (o : StageObj) : Option Manifest := parseManifest (stageBytes o 0 65536)

/-- The byte offset of every region's data behind the padded manifest, in descriptor order. -/
def regionOffs : Nat → List Region → List (Region × Nat)
  | _, [] => []
  | off, r :: t => (r, off) :: regionOffs (off + r.length) t

def stagedRegions (m : Manifest) : List (Region × Nat) := regionOffs (pad4096 m.totalLen) m.regions

/-- Every region root recomputed from the staged object equals the manifest's (R372). -/
def rootsOk (o : StageObj) (m : Manifest) : Bool :=
  (stagedRegions m).all fun (r, off) => regionRoot (stageBytes o off r.length) = r.root

/-- The levels of hashes above a list, from the given one up to the last below the root. -/
def hashLevels : Nat → List (List Byte) → List (List (List Byte))
  | 0, l => [l]
  | fuel + 1, l =>
    let n := nextLevel l.length l
    if n.length ≤ 1 then [l] else l :: hashLevels fuel n

/-- The tree image of a region's bytes: levels L − 1 down to 0, each padded with zeros (R125). -/
def treeImage (bs : List Byte) : List Byte :=
  let level0 := (cutLeaves (bs.length / 4096) bs).map leafHash
  ((hashLevels 16 level0).reverse.map fun l => let b := l.flatten; b ++ List.replicate (pad4096 b.length - b.length) 0).flatten

/-- A region that the manifest in force holds with the same ROOT, SRC_PART, SRC_OFF and LENGTH is not written (R373). -/
def unchanged (force : Option Manifest) (r : Region) : Bool :=
  match force with
  | some m => m.regions.any fun q => q.root = r.root && q.srcPart = r.srcPart && q.srcOff = r.srcOff && q.length = r.length
  | none => false

/-- Partition, offset and length of the ranges that UPD_WRITE writes, the manifest's last (R373). -/
def writtenRanges (s : State) (comp : Nat) (m : Manifest) : List (Nat × Nat × Nat) :=
  match compDom comp with
  | some d =>
    let man (p : Nat) : Nat × Nat × Nat := (p, (match domCfg s d with | some c => c.manOff | none => 0), m.totalLen)
    if compNur comp then
      (m.regions.filter (·.nursery)).map (fun r => (r.nurPart, r.nurOff, r.length + treeLen r.leaves)) ++ (mirrorPart s d).toList.map man
    else
      (m.regions.filter fun r => !unchanged (forceOf s d) r).map (fun r => (r.srcPart, r.srcOff, r.length + treeLen r.leaves))
        ++ match domCfg s d with | some c => [man c.manPart] | none => []
  | none => []

/-- The flash devices that UPD_WRITE writes for a component; the root configuration flash is on no F-bus. -/
def writtenDevs (s : State) (comp : Nat) (m : Manifest) : List Nat :=
  ((writtenRanges s comp m).filterMap fun (p, _, _) => (s.fbus.map.parts[p]?).map (·.device)).eraseDups

/-- A written range overlaps a source range of the manifest in force, and the domain is not HELD (R373). -/
def writeClash (s : State) (comp : Nat) (m : Manifest) : Bool :=
  match compDom comp with
  | some d =>
    !compNur comp && domState s d ≠ stHELD && match forceOf s d with
      | some f => (writtenRanges s comp m).any fun (p, a, n) =>
          f.regions.any fun r => r.srcPart = p && overlap a n r.srcOff (r.length + treeLen r.leaves)
      | none => false
  | none => false

/-- What the job writes for a domain or Nursery component, in order: region data with its tree image, then the manifest (R373). -/
def compWrites (s : State) (comp : Nat) (o : StageObj) (m : Manifest) : List (Nat × Nat × List Byte) :=
  match compDom comp with
  | some d =>
    let data (r : Region) (off : Nat) : List Byte := let b := stageBytes o off r.length; b ++ treeImage b
    let man := stageBytes o 0 m.totalLen
    match domCfg s d with
    | some c =>
      if compNur comp then
        ((stagedRegions m).filter fun (r, _) => r.nursery).map (fun (r, off) => (r.nurPart, r.nurOff, data r off))
          ++ (mirrorPart s d).toList.map fun p => (p, c.manOff, man)
      else
        ((stagedRegions m).filter fun (r, _) => !unchanged (forceOf s d) r).map (fun (r, off) => (r.srcPart, r.srcOff, data r off))
          ++ [(c.manPart, c.manOff, man)]
    | none => []
  | none => []

/-- What the job writes to copy T for class 254 or 255: the new image and manifest, and the other class's from the running copy, its
directory last with SEQUENCE one above the running copy's (R373). -/
def rootWrites (s : State) (comp : Nat) (o : StageObj) (m : Manifest) (src : CopyImage) : Out :=
  let man := stageBytes o 0 m.totalLen
  let img := match stagedRegions m with | (r, off) :: _ => stageBytes o off r.length | [] => []
  let seq := match parseBootDir src.dir src.devSize with | some d => some (d.sequence + 1) | none => none
  let parts := if comp = 0xFE then [(254, man, img), (255, src.cfgMan, src.cfgImg)] else [(254, src.fwMan, src.fwImg), (255, man, img)]
  .rootWrite (rf s FBUS_UPD_STAT_T_COPY) parts seq

/-! ### Verification of a staged component (R371) -/

/-- Check 3 of R126: the domain's channels, regions inside their channel's device and the domain's shadow, and partitions that may be a
source. -/
def manFits (s : State) (d : Nat) (m : Manifest) : Bool :=
  match domCfg s d with
  | none => false
  | some c =>
    let src (p : Nat) : Bool := match s.fbus.map.parts[p]? with | some p => p.kind ≠ 2 | none => false
    m.channels = c.channels && m.regions.all fun r =>
      m.channels.testBit r.channel && r.chanOff + r.length ≤ (progOf s r.channel).devSize
        && r.shadowOff + r.length ≤ c.shSize * 1048576 && src r.srcPart
        && (!r.nursery || (s.fbus.map.parts[r.nurPart]?).isSome)

/-- The checks of a staged manifest, in order: 2 to 6 of R126, or 2 to 5 or 7 to 10 of R65 for classes 254 and 255 (R371). -/
def stagedChecks (s : State) (comp : Nat) (o : StageObj) : List (Bool × Code) :=
  match stagedMan o with
  | none => [(false, .malformed)]
  | some m =>
    let key := bootKey s m.keyId m.keyDigest
    match compDom comp with
    | some d =>
      [(m.domain = d, .malformed), (manFits s d m, .refusedPolicy), (key = .ok, key), (m.sig.verify m.digest, .verifyFail),
       (svnMin s d ≤ m.svn, .refusedPolicy)]
    | none =>
      [(m.domain = comp, .malformed), (key = .ok, key), (m.sig.verify m.digest, .verifyFail), (svnMin s comp ≤ m.svn, .refusedPolicy)]

/-- A class 255 component also passes the configuration check of R68, its programs against the bank declarations in force (R371). -/
def stagedCfgOk (s : State) (comp : Nat) (o : StageObj) (m : Manifest) : Bool :=
  comp ≠ 0xFF || match stagedRegions m with
    | (r, off) :: _ =>
      let img := stageBytes o off r.length
      (parseCfg img (rf s SYSCTL_ID_DRAM_CAP)).isSome && (parsePrograms (secBytes img 8) s.boot.cfg.banks).isSome
    | [] => false

/-- The outcome of verification after a STAGE_HASH of the span at `off`: the code of the first check that fails, none while regions remain,
with the regions whose root compared equal so far (R371). -/
def verifyStep (s : State) (u : UpdSess) (o : StageObj) (off len : Nat) : Option Code × List Nat :=
  match firstFail none 0 (stagedChecks s u.comp o), stagedMan o with
  | some (_, c), _ => (some c, u.hashed)
  | none, none => (some .malformed, u.hashed)
  | none, some m =>
    let rs := (stagedRegions m).zipIdx
    let mine := (rs.filter fun ((r, at_), _) => at_ = off && r.length = len).map (·.2)
    let bad := rs.any fun ((r, at_), i) => mine.contains i && regionRoot (stageBytes o at_ r.length) ≠ r.root
    let hashed := (u.hashed ++ mine).eraseDups
    if bad then (some .verifyFail, u.hashed)
    else if rs.all fun (_, i) => hashed.contains i then (some (if stagedCfgOk s u.comp o m then .ok else .malformed), hashed)
    else (none, hashed)

/-- An ORANGERY command on the session's staging object has ended well: data staged lead to the next RequestFirmwareData or to
TransferComplete, a root compared to VerifyComplete (R368, R371). DESIGN CHOICE (log entry 128): the object is the first that a STAGE_WRITE
fills while the component is transferred. -/
def State.stagedFor (s : State) (c : OCmd) : State :=
  match s.upd.sess with
  | none => s
  | some u =>
    if c.op = 2 && u.phase = 3 && (u.handle = none || u.handle = some c.handle) then
      s.setSess (some ({ u with handle := some c.handle, got := max u.got (c.off + c.len) } : UpdSess).requestData)
    else if c.op = 3 && u.phase = 4 && u.handle = some c.handle then
      match stageOf s c.handle with
      | none => s
      | some o =>
        match verifyStep s u o c.off c.len with
        | (none, hashed) => s.setSess (some { u with hashed })
        | (some r, hashed) =>
          (s.when (r = .keyAmbiguous) (·.journal 1 123 srcORANGERY noUnit .keyAmbiguous)).setSess
            (some { u with hashed, phase := if r = .ok then 5 else 4, sent := some (plVERIFYDONE, [fdResult r]) })
    else s

/-- The running ORANGERY command ends (R175, R420), a STAGE_HASH without a hash lane with INTERNAL_FAULT (R418); what it staged or hashed serves an open update session (R371). -/
def execOrangeryCmdDone (s : State) : Host.Outcome State Fault Refusal :=
  .next (match s.orang.cmd with
    | some c =>
      let code : Code := if c.aborted then .aborted else if c.poisoned then .poisoned
        else if c.op = 3 && lanesOn s = 0 then .internalFault
        else .ok
      (s.orangeryEnd c code).when (code = .ok) (·.stagedFor c)
    | none => s)

/-- UPD_WRITE (R372, R373, R380). -/
def execUpdWrite (handle comp : Nat) (s : State) : Host.Outcome State Fault Refusal :=
  .next (
    let man := (stageOf s handle).bind stagedMan
    let fits := match man with | some m => m.domain = compClass comp | none => false
    let clash := match man with | some m => writeClash s comp m | none => false
    let exhausted := match man with | some m => 255 < m.svn | none => false
    s.updDecide 1 comp (!compOffered s comp || !fits) false (nurBusy s comp man) clash exhausted fun s =>
      let devs := match man with | some m => writtenDevs s comp m | none => []
      let s := (s.updJob 1 comp handle).modUpd fun u => { u with job := u.job.map fun j => { j with devs } }
      if compRoot comp then
        (s.modUpd fun u => { u with tWritten := false }).setF FBUS_UPD_STAT_T_COPY (1 - rf s SYSCTL_BOOT_STAT_COPY_USED)
      else s)

/-- UPD_SETTLE (R375, R380). -/
def execUpdSettle (s : State) : Host.Outcome State Fault Refusal :=
  .next (s.updDecide 2 0xFFFF false false (!rb s FBUS_UPD_STAT_SETTLE_DUE) false false fun s => s.updJob 2 0xFFFF 0)

/-- The code with which a write or settle job ends, and what it wrote: ABORTED, TIMEOUT for an operation that timed out, POISONED, VERIFY_FAIL
for a root that differs or a failed read-back, INTERNAL_FAULT where the running copy does not read (R253, R276, R372, R373). -/
def updOutcome (s : State) (j : UpdJob) (failed : Bool) (src : Option CopyImage) : Code × Out :=
  if j.aborted then (.aborted, .none)
  else if j.late then (.timeout, .none)
  else if j.op = 2 then
    if failed then (.verifyFail, .none)
    else match src with
      | some c => (.ok, .rootWrite (1 - rf s FBUS_UPD_STAT_T_COPY) [(254, c.fwMan, c.fwImg), (255, c.cfgMan, c.cfgImg)]
          ((parseBootDir c.dir c.devSize).map (·.sequence)))
      | none => (.internalFault, .none)
  else match stageOf s j.handle with
    | none => (.verifyFail, .none)
    | some o =>
      if o.poisoned then (.poisoned, .none)
      else match stagedMan o with
        | none => (.verifyFail, .none)
        | some m =>
          if !rootsOk o m then (.verifyFail, .none)
          else if failed then (.verifyFail, .none)
          else if compRoot j.comp then
            match src with
            | some c => (.ok, rootWrites s j.comp o m c)
            | none => (.internalFault, .none)
          else (.ok, .flashWrites (compWrites s j.comp o m))

/-- A write job's last operation can have run: its devices are free for it and no higher class waits on their buses (R252, R253). -/
def updServed (s : State) (j : UpdJob) : Bool :=
  j.late || j.aborted || j.devs.all fun d => devFree s d 3 && busServes s (busOfDev s d) 5

/-- DOM of FBUS_WT_FAIL0 for an update job: the domain, or the class of a root component. -/
def updDom (j : UpdJob) : Nat := if j.op = 2 then 0xFF else compClass j.comp

/-- UPD_JOB_DONE: a write or settle job ends. `units` are the 64 KiB units written, `fail` the device and address of the first failed
read-back, `src` what was read of the copy that classes 254 and 255 are copied from (R252, R253, R372, R373, R375, R380). -/
def execUpdJobDone (units : Nat) (fail : Option (Nat × Nat)) (src : Option CopyImage) (s : State) : Host.Outcome State Fault Refusal :=
  .next (match s.upd.job with
    | some j =>
      if (j.op ≠ 1 && j.op ≠ 2) || !updServed s j then s
      else
        let (c, out) := updOutcome s j fail.isSome src
        let s := (s.setF FBUS_UPD_STAT_WRITTEN (min units 0xFFFF)).ret out
        let s := s.each j.devs fun s d => if (devX s d).other = 3 then s.otherDone d else s
        let s := match fail, c with
          | some (dev, addr), .verifyFail => s.wtFailReg (updDom j) c.val (if j.op = 2 || compRoot j.comp then 0xFF else dev) 4 addr
          | _, _ => s
        let s := if c = .ok && j.op = 2 then s.setF FBUS_UPD_STAT_SETTLE_DUE 0
          else if c = .ok && compRoot j.comp then
            (s.raise FBUS_UPD_STAT_SETTLE_DUE).modUpd fun u =>
              { u with tWritten := true, cfgPending := u.cfgPending || j.comp = 0xFF }
          else s
        s.updEnd c
    | none => s)

/-- The ledger is replayed for one domain's WRITABLE regions, from the bytes of its two halves: the newest entry of each leaf is retained for
the domain's ACCEPT (R169, R374). -/
def State.replayDom (s : State) (d : Nat) (h0 h1 : List Byte) : State :=
  if ledger s = 2 && devLive s (ledgerDev s) then
    s.each ((newestEntries (ledgerUsed (klKey s) s.orang.ledSize h0 h1)).filter (·.dom = d)) State.retain
  else s

/-- UPD_SWAP: hold, REVOKE, replay and RELEASE under one job (R374). What the ledger table held of the domain's WRITABLE regions stays retained
for its ACCEPT; `h0` and `h1` are what the ledger's halves read as. -/
def execUpdSwap (comp : Nat) (h0 h1 : List Byte) (s : State) : Host.Outcome State Fault Refusal :=
  .next (
    let d := comp
    s.updDecide 3 comp (48 ≤ comp || !domExists s comp) (updArg s ≠ domGen s d) (!released s d) false false fun s =>
      let s := s.updJob 3 comp 0
      let s := (((s.holdDom d).revokeDom d).replayDom d h0 h1).gateReleaseDom d
      (s.modDomX d fun x => { x with job := jobSWAP }).settle)

/-- The management pause begins, and ends by itself 150 ms later (R345, R375). -/
def State.pauseStart (s : State) : State :=
  (s.raise KIOSK_STAT_PAUSE).modKiosk fun k => { k with pauseEnd := s.usec + 150000 }

/-- UPD_ACTIVATE_BV: PAUSE and a Belvedere restart that reads copy T (R375). -/
def execUpdActivateBv (s : State) : Host.Outcome State Fault Refusal :=
  .next (s.updDecide 4 0xFE false false (!s.upd.tWritten) false false fun s =>
    ((s.updJob 4 0xFE 0).pauseStart).bvRestart (rf s FBUS_UPD_STAT_T_COPY) rcRESTART)

/-- PAUSE_EXPIRY: the pause ends by itself at its time limit (R375). -/
def execPauseExpiry (s : State) : Host.Outcome State Fault Refusal :=
  .next (if s.kiosk.pauseEnd ≤ s.usec then s.setF KIOSK_STAT_PAUSE 0 else s)

/-- RESUME (R380). -/
def execUpdResume (s : State) : Host.Outcome State Fault Refusal :=
  .next (s.updDecide 6 0xFFFF false false (!rb s KIOSK_STAT_PAUSE) false false fun s => s.setF KIOSK_STAT_PAUSE 0)

/-- The command UPD_OWNER_LOCK (R378). -/
def State.ownerLock (s : State) : State :=
  s.updDecide 7 0xFFFF (1 < updArg s) false false false false fun s => s.setF FBUS_UPD_STAT_OWNER_LOCK (updArg s)

/-- UPD_OWNER_LOCK. -/
def execUpdOwnerLock (s : State) : Host.Outcome State Fault Refusal := .next s.ownerLock

/-- ABORT: a write or settle job ends with ABORTED after the erase unit in progress (R380, R420). -/
def execUpdAbort (s : State) : Host.Outcome State Fault Refusal :=
  .next (match s.upd.job with
    | some j =>
      if j.op = 1 || j.op = 2 then
        (s.modUpd fun u => { u with job := some { j with aborted := true } }).cmdEnd updIf 14 .ok
      else s.updRefuse 14 0xFFFF .refusedState
    | none => s.updRefuse 14 0xFFFF .refusedState)

/-! ### Security versions (R377) -/

/-- The SECURITY_VERSION in force for a class. -/
def svnForce (s : State) (cls : Nat) : Nat :=
  if cls = 254 then rf s SYSCTL_FW_SVN_FW_SVN
  else if cls = 255 then rf s SYSCTL_CFG_SVN_CFG_SVN
  else match forceOf s cls with | some m => m.svn | none => 0

/-- The decision on COMMIT_SVN: R12 first, then a minimum that can rise no further. A value that the record's eight bits do not hold is none
that a minimum can take (log entry 127). -/
def commitSvnCode (s : State) (cls : Nat) : Option Code :=
  let lo := svnMin s cls
  let v := updArg s
  firstCode [(updState s 0xFFFF, .refusedState),
    (rb s FBUS_UPD_STAT_OWNER_LOCK || (lo ≠ 255 && (v ≤ lo || svnForce s cls < v || 255 < v)), .refusedPolicy),
    (lo ≠ 255 && ((otpFree s 640 256).isEmpty || spareWordsOut s), .refusedQuota), (delayed s updIf 5 (updBusy s), .busyRetry), (lo = 255, .versionExhausted)]

/-- COMMIT_SVN: the record is programmed into the first blank word of the log (R377). -/
def execCommitSvn (cls : Nat) (s : State) : Host.Outcome State Fault Refusal :=
  .next (match commitSvnCode s (cls % 256) with
    | some c => s.updRefuse 5 cls c
    | none =>
      let w := (otpFree s 640 256).headD 640
      ((s.updJob 5 (cls % 256) 0).modUpd fun u => { u with svn := some (cls % 256, updArg s % 256, w) }).cmdEnd updIf 5 .ok)

/-- COMMIT_SVN_DONE: the record is valid and the class's minimum rises (R377), in a spare word where its program-verify failed
(R279). -/
def execCommitSvnDone (bad : Bool) (s : State) : Host.Outcome State Fault Refusal :=
  .next (match s.upd.svn with
    | some (cls, v, w) =>
      let s := (s.otpBurn w (BitVec.ofNat 64 (3 * 2 ^ 60 + 256 * cls + v)) bad).modUpd fun u => { u with svn := none }
      let s := (s.setF SYSCTL_SVN_MIN_FW_MIN (svnMin s 254)).setF SYSCTL_SVN_MIN_CFG_MIN (svnMin s 255)
      s.updEnd .ok
    | none => s)

end Sys2Proof.Machine
end

