-- ==== Sys2Proof/Machine/Owner.lean ====
section
/-! DEFINITION. Owner-authorised requests by OWNER_OP (R356, R378, R385) and SPDM VENDOR_DEFINED_REQUEST (R355). Once every check of
R356 has passed, the firmware issues the command, and the response carries that command's code. -/

namespace Sys2Proof.Machine

/-- The code that a command interface shows. -/
def shown (s : State) (f : Fld) : Code := codeOf (rf s f)

/-- Firmware writes GATE_CMD_GEN and GATE_CMD. -/
def State.fwGate (s : State) (op dom gen : Nat) : State × Code :=
  let s := (s.setF GATE_CMD_GEN_GEN gen).gateCmd op dom
  (s, shown s GATE_CMD_STAT_LAST_STATUS)

/-- Firmware issues PROVISION_VAULT; one that is accepted runs on to its KEYS_CMD_DONE. -/
def State.fwProvision (s : State) : State × Code :=
  let was := s.keys.cmd.isSome
  let s := s.provisionVault
  (s, if !was && s.keys.cmd.isSome then .ok else shown s KEYS_CMD_STAT_LAST_STATUS)

/-- Firmware writes GATE_CMD_GEN and issues ENTER_LOCKDOWN. -/
def State.fwLockdown (s : State) (dom gen : Nat) : State × Code :=
  let s := (s.setF GATE_CMD_GEN_GEN gen).enterLockdownCmd dom
  (s, shown s GATE_CMD_STAT_LAST_STATUS)

/-- Firmware writes FBUS_UPD_ARG and issues UPD_OWNER_LOCK. -/
def State.fwOwnerLock (s : State) (v : Nat) : State × Code :=
  let s := (s.setF FBUS_UPD_ARG_ARG v).ownerLock
  (s, shown s FBUS_UPD_CMD_STAT_LAST_STATUS)

/-- Firmware writes LCS_REQUEST, after LCS_ARM for RETURNED. -/
def State.fwLcs (s : State) (target : Nat) : State × Code :=
  let s := (s.when (target = lcRETURNED) (·.lcsArm 0x52E70001)).lcsRequest target false
  (s, shown s LCS_REQ_STAT_LAST_STATUS)

/-- The command that firmware issues for an OWNER_OP that passed (R356, R378, R385). -/
def State.ownerRun (s : State) (op : Nat) (payload : List Byte) : State × Code :=
  let dom := fieldAt payload 1 1
  let gen := fieldAt payload 4 4
  if op = 1 then s.fwGate opRELEASE dom gen
  else if op = 2 then s.fwProvision
  else if op = 3 then s.fwLockdown dom gen
  else if op = 4 then s.fwOwnerLock 1
  else if op = 5 then s.fwOwnerLock 0
  else if op = 6 then s.fwLcs lcRETURNED
  else s.fwLcs lcSCRAP

/-- An OWNER_CMD whose OWNER_OP is `op`. -/
def State.ownerMsg (s : State) (org : Origin) (op : Nat) (payload : List Byte) : State :=
  s.ownerCmd org op payload fun s => s.ownerRun op payload

/-- OWNER_RELEASE: a QUARANTINED domain is released (R97). -/
def execOwnerRelease (org : Origin) (payload : List Byte) (s : State) : Host.Outcome State Fault Refusal := .next (s.ownerMsg org 1 payload)
/-- OWNER_PROVISION_VAULT (R303). -/
def execOwnerProvisionVault (org : Origin) (payload : List Byte) (s : State) : Host.Outcome State Fault Refusal := .next (s.ownerMsg org 2 payload)
/-- OWNER_ENTER_LOCKDOWN (R115). -/
def execOwnerEnterLockdown (org : Origin) (payload : List Byte) (s : State) : Host.Outcome State Fault Refusal := .next (s.ownerMsg org 3 payload)
/-- OWNER_LOCK_SET: the owner update lock (R378). -/
def execOwnerLockSet (org : Origin) (payload : List Byte) (s : State) : Host.Outcome State Fault Refusal := .next (s.ownerMsg org 4 payload)
/-- OWNER_LOCK_CLEAR (R378). -/
def execOwnerLockClear (org : Origin) (payload : List Byte) (s : State) : Host.Outcome State Fault Refusal := .next (s.ownerMsg org 5 payload)
/-- OWNER_RETURN_TOKEN: LCS_ARM and RETURNED (R385). -/
def execOwnerReturnToken (org : Origin) (payload : List Byte) (s : State) : Host.Outcome State Fault Refusal := .next (s.ownerMsg org 6 payload)
/-- OWNER_SCRAP (R385). -/
def execOwnerScrap (org : Origin) (payload : List Byte) (s : State) : Host.Outcome State Fault Refusal := .next (s.ownerMsg org 7 payload)

/-- An answer other than OK to a vendor command that SPDM carried is an SPDM ERROR of ErrorCode 0xFF (R359). -/
def State.asSpdm (s : State) (tn : Nat) : State :=
  match s.out with
  | .reply c _ =>
    if c = .ok then s
    else
      let ms := match s.kiosk.outcomes.find? (·.1 = tn) with | some (_, o) => o.retry | none => 0
      (s.setOutcome tn mtSPDM scVENDOR c ms).ret (.reply c (errData mtSPDM scVENDOR c ms))
  | _ => s

/-- VENDOR_DEFINED_REQUEST carries a vendor command under the same enterprise number (R355, R361). -/
def execVendorDefinedRequest (org : Origin) (data : List Byte) (brk : Option SpdmErr) (s : State) :
    Host.Outcome State Fault Refusal :=
  .next (s.spdm org scVENDOR brk false fun t s =>
    let cmd := fieldAt data 4 1
    let rest := data.drop 5
    let s := s.ret .none
    if beNat (slice data 0 4) ≠ 64917 then s.respond t.tn mtSPDM scVENDOR .malformed
    else if cmd = vcKIOSK then (s.vendorKioskMsg org (fieldAt rest 0 2) (fieldAt rest 2 4) (fieldAt rest 6 4)).asSpdm t.tn
    else if cmd = vcNONCE then (s.getNonce org).asSpdm t.tn
    else if cmd = vcOWNER then (s.ownerMsg org (fieldAt rest 0 1) rest).asSpdm t.tn
    else if cmd = vcOUTCOME then (s.getOutcome org).asSpdm t.tn
    else s.respond t.tn mtSPDM scVENDOR .malformed)

/-! ### Requests in chunks (R357, R360) -/

/-- The state after a command that always goes on. -/
def State.after (s : State) (o : Host.Outcome State Fault Refusal) : State := match o with | .next t => t | _ => s

/-- The request that the chunks of CHUNK_SEND carried is executed, its fields at DSP0274's places; its transcript, which no operand
brings, is a free value. One that names a session, which only a secured message does, and a chunk command are out of order. -/
def State.spdmCarried (s : State) (org : Origin) (m : List Byte) : State :=
  let code := fieldAt m 1 1
  let tr := Config.spdmTranscript s.freeIx m
  let s := { s with freeIx := s.freeIx + 1 }
  let brk : Option SpdmErr := if m.length < 4 then some .invalidRequest else none
  if code = 0x84 then s.after (execGetVersion org brk s)
  else if code = 0xE1 then s.after (execGetCapabilities org (fieldAt m 0 1) (fieldAt m 12 4) brk s)
  else if code = 0xE3 then s.after (execNegotiateAlgorithms org brk s)
  else if code = 0x81 then s.after (execGetDigests org brk s)
  else if code = 0x82 then s.after (execGetCertificate org (fieldAt m 4 2) (fieldAt m 6 2) brk s)
  else if code = 0x83 then s.after (execChallenge org tr brk s)
  else if code = 0xE0 then s.after (execGetMeasurements org (fieldAt m 3 1) ((fieldAt m 2 1).testBit 0) tr brk s)
  else if code = 0xE4 then s.after (execKeyExchange org (slice m 40 96) tr brk s)
  else if code = 0xFF then s.after (execRespondIfReady org brk s)
  else if code = scVENDOR then s.after (execVendorDefinedRequest org (slice m 7 4 ++ m.drop 13) brk s)
  else if [0xE5, 0xE8, 0xE9, 0xEC, 0x85, 0x86].contains code then s.ret (.spdmError .unexpectedRequest)
  else s.ret (.spdmError .unsupportedRequest)

/-- CHUNK_SEND: a chunk of a request; the last one has the whole request executed, whose response comes with it; more than
MaxSPDMmsgSize is RequestTooLarge. -/
def execChunkSend (org : Origin) (data : List Byte) (last : Bool) (brk : Option SpdmErr) (s : State) :
    Host.Outcome State Fault Refusal :=
  .next (s.spdm org 0x85 brk true fun t s =>
    let c := conn s t.tn
    let all := c.chunk ++ data
    if 65536 < all.length then (s.setConn t.tn { c with chunk := [] }).ret (.spdmError .requestTooLarge)
    else if last then (s.setConn t.tn { c with chunk := [] }).spdmCarried org all
    else (s.setConn t.tn { c with chunk := all }).spdmOk t [])

end Sys2Proof.Machine
end

