-- ==== Sys2Proof/Machine/MsgOps.lean ====
section
/-! DEFINITION. What becomes of a complete MCTP message: the code with which a request is answered before it reaches firmware, in the
order of R12, and the tenant's quota (R344, R353, R359, R361). -/

namespace Sys2Proof.Machine

/-! ### Vendor commands (R355) -/

/-- The vendor command that a vendor message or an SPDM VENDOR_DEFINED_REQUEST carries: enterprise number, COMMAND and payload. -/
def carried (typ : Nat) (data : List Byte) : Option (Nat × Nat × List Byte) :=
  if typ = mtVENDOR then some (beNat (slice data 1 4), fieldAt data 5 1, data.drop 6)
  else if typ = mtSPDM && msgCmd typ data = scVENDOR then some (beNat (slice data 8 4), fieldAt data 14 1, data.drop 15)
  else none

/-- The enterprise number, COMMAND or the payload's length is none that R355 gives. -/
def vendorBad (ent cmd len : Nat) : Bool :=
  ent ≠ 64917 || !(if cmd = vcKIOSK then len = 10 else if cmd = vcNONCE || cmd = vcOUTCOME then len = 0 else cmd = vcOWNER)

/-- The codes of a vendor command up to REFUSED_POLICY, in the order of R12; an OWNER_CMD is turned away by LOCKDOWN as soon as check 1
has passed (R355, R356, R361). -/
def vendorConds (s : State) (t : Tbe) (v : Nat × Nat × List Byte) : List (Bool × Code) :=
  let (ent, cmd, p) := v
  let head : Bool × Code := (vendorBad ent cmd p.length, .malformed)
  if cmd = vcKIOSK then
    let word := fieldAt p 2 4
    let op := bitsAt word 24 8
    let dom := bitsAt word 16 8
    head :: (kioskEarly s op dom (fieldAt p 6 4) ++
      ((lockdown s, .refusedState) :: kioskMid s t op dom ++ [(!t.permService || t.tn ≠ fieldAt p 0 2, .refusedPolicy)]))
  else if cmd = vcOWNER then
    let op := fieldAt p 0 1
    [head, (!ownerLayout s p op, .malformed), (lockdown s && op ≠ 2, .refusedState), (!nonceOk s t.tn p || !ownerGenOk s p, .stale),
      (mode s = moASSEMBLY, .notReady), (lcState s ≠ lcOWNED, .refusedState), (!t.permOwner, .refusedPolicy)]
  else [head, (mode s = moASSEMBLY, .notReady), (!t.permService, .refusedPolicy)]

/-! ### PLDM (R353, R359, R362, R368) -/

/-- The payload of a PLDM request has not the length that DSP0240 and DSP0267 give its command, at the start of its message for one with a
version string. -/
def pldmLenBad (data : List Byte) : Bool :=
  let n := data.length - 4
  let p := data.drop 4
  let typ := fieldAt data 2 1 % 64
  let cmd := fieldAt data 3 1
  data.length < 4 ||
    if typ = 0 then (if cmd = 3 then n ≠ 6 else if cmd = 5 then n ≠ 5 else (cmd = 2 || cmd = 4) && n ≠ 0)
    else if cmd = plREQUEST then n < 11 || n ≠ 11 + fieldAt p 10 1
    else if cmd = plPASS then n < 12 || n ≠ 12 + fieldAt p 11 1
    else if cmd = plUPDATE then n < 19 || n ≠ 19 + fieldAt p 18 1
    else if cmd = plACTIVATE then n ≠ 1
    else [plQUERY, plPARAMS, plSTATUS, plCANCELCOMP, plCANCEL].contains cmd && n ≠ 0

/-- The codes of a PLDM request up to REFUSED_POLICY: those of type 5 that R370 checks have its conditions. -/
def pldmConds (s : State) (t : Tbe) (data : List Byte) : List (Bool × Code) :=
  let p := data.drop 4
  let typ := fieldAt data 2 1 % 64
  let cmd := fieldAt data 3 1
  let policy : Bool × Code := (rb s FBUS_UPD_STAT_OWNER_LOCK || !t.permUpdate, .refusedPolicy)
  if typ = 5 && cmd = plREQUEST then [(updState s 0xFFFF, .refusedState), policy]
  else if typ = 5 && cmd = plUPDATE then
    [(!compOffered s (fieldAt p 2 2), .malformed), (updState s (fieldAt p 2 2), .refusedState), policy]
  else if typ = 5 && cmd = plACTIVATE then [(updState s (sessComp s), .refusedState), policy]
  else
    [(typ = 0 && (cmd = 3 || cmd = 5) && !(pldmTypes.contains (fieldAt p (if cmd = 3 then 5 else 0) 1)), .malformed),
      (mode s = moASSEMBLY, .notReady), (lockdown s, .refusedState), (typ = 5 && !t.permUpdate, .refusedPolicy)]

/-! ### A complete message -/

/-- The codes of a request message up to REFUSED_POLICY, in the order of R12 (R114, R353, R361). -/
def msgConds (s : State) (t : Tbe) (typ : Nat) (data : List Byte) : List (Bool × Code) :=
  let attest : Bool × Code := (!t.permAttest, .refusedPolicy)
  if typ = mtPLDM then pldmConds s t data
  else if typ = mtCONTROL then []
  else match carried typ data with
    | some v =>
      if typ = mtVENDOR then vendorConds s t v
      else (vendorBad v.1 v.2.1 v.2.2.length, .malformed) :: (mode s = moASSEMBLY, .notReady) :: (lockdown s, .refusedState) :: attest
        :: vendorConds s t v
    | none => [(mode s = moASSEMBLY, .notReady), attest]

/-- A KIOSK or OWNER_CMD message, whose own checks the command makes. -/
def judgesItself (typ : Nat) (data : List Byte) : Bool :=
  typ = mtVENDOR && (msgCmd typ data = vcKIOSK || msgCmd typ data = vcOWNER) && beNat (slice data 1 4) = 64917

/-- The code with which a complete request message is answered before it reaches firmware, the quota and a resend ahead of its time
standing last (R12, R14, R344). A KIOSK or OWNER_CMD that neither turns away goes on to its own checks. -/
def msgCode (s : State) (t : Tbe) (data : List Byte) (quota : Bool) : Option Code :=
  let typ := (fieldAt data 0 1) % 128
  let soon := early s (msgKey t.tn typ (msgCmd typ data))
  if judgesItself typ data && !quota && !soon then none
  else firstCode (msgConds s t typ data ++ [(quota, .refusedQuota), (soon, .busyRetry)])

/-- An OWNER_CMD turned away after its check 2 has consumed its nonce (R356). -/
def nonceSpent (s : State) (typ : Nat) (data : List Byte) : Bool :=
  match carried typ data with
  | some (ent, cmd, p) => ent = 64917 && cmd = vcOWNER && ownerLayout s p (fieldAt p 0 1) && !(lockdown s && fieldAt p 0 1 ≠ 2)
  | none => false

/-- The answer to a request message that is turned away; RequestUpdate and UpdateComponent have completion codes of their own, and a PLDM
length at fault ERROR_INVALID_LENGTH (R359, R369). -/
def State.turnAway (s : State) (t : Tbe) (typ : Nat) (data : List Byte) (c : Code) : State :=
  let cmd := msgCmd typ data
  let s := s.when (nonceSpent s typ data) (·.useNonce t.tn)
  if typ = mtPLDM && fieldAt data 2 1 % 64 = 5 && (cmd = plREQUEST || cmd = plUPDATE) then s.pldmRefuse t.tn cmd c
  else s.respond t.tn typ cmd c

/-- A message is complete: control messages and those of bound tenants go to the ring, a request that is refused is answered, any
other source is counted (R344, R353, R354). -/
def State.msgDone (s : State) (c : Ctx) : State :=
  let typ := (fieldAt c.data 0 1) % 128
  let last := { c with done := true }
  let s := s.dropCtx c
  let queue (s : State) : State := State.fillRing 32 (s.modMt fun m => { m with ctxs := m.ctxs ++ [last] }).showCtx
  match mctpTenant s ⟨c.port, c.src⟩ with
  | none =>
    if typ = mtCONTROL then queue s
    else if recovery s && typ = mtPLDM && (fieldAt c.data 2 1) % 64 = 5 then s else s.stranger ⟨c.port, c.src⟩ typ (msgCmd typ c.data)
  | some t =>
    if !typeKnown typ then s
    else if !c.owner then queue s
    else if typ = mtPLDM && pldmLenBad c.data then ((s.takeToken t.tn).setOutcome t.tn typ (msgCmd typ c.data) .malformed 0).ret (.reply .malformed [3])
    else
      let code := msgCode s t c.data (quotaOut s t.tn)
      let s := s.takeToken t.tn
      match code with
      | some k => s.turnAway t typ c.data k
      | none => queue s

end Sys2Proof.Machine
end

