-- ==== Sys2Proof/Machine/Mctp.lean ====
section
/-! DEFINITION. The management transports' commands: settings, packets, the ring, SEND, arbitration and control messages (R349
to R354, R365). -/

namespace Sys2Proof.Machine

/-! ### Settings (R350, R365) -/

/-- The settings that APPLY_SETTINGS names. -/
def settingsAt (s : State) : Option Settings :=
  let a := rf s MTRANS_CMD_ADDR_ADDR
  if tcmPoisoned s a 64 then none else parseSettings (tcmRead s a 64) (s.boot.cfg.banks.getD bankMGB 0)

/-- APPLY_SETTINGS: accepted once, in ASSEMBLY; a section in place that fails its check is MALFORMED before all else (R12, R365). -/
def execApplySettings (s : State) : Host.Outcome State Fault Refusal :=
  .next (let a := rf s MTRANS_CMD_ADDR_ADDR
    let there := a % 8 = 0 && inTcm a 64
    match there, settingsAt s with
    | true, none => s.cmdEnd mtIf 1 .malformed
    | _, some st =>
      if !there || mode s ≠ moASSEMBLY || rb s MTRANS_STAT_APPLIED then s.cmdEnd mtIf 1 .refusedState
      else (((s.applyBanks [bankMGB]).portsUp st).raise MTRANS_STAT_APPLIED).cmdEnd mtIf 1 .ok
    | false, none => s.cmdEnd mtIf 1 .refusedState)

/-! ### Packets (R349, R351, R352) -/

/-- A packet of a message in progress, in sequence: the message grows, and is complete at its last packet. -/
def State.packetIn (s : State) (c : Ctx) (p : Packet) : State :=
  let c' := { c with data := c.data ++ p.data, seq := (p.seq + 1) % 4 }
  if msgMax < c'.data.length then s.reasmDrop c .malformed
  else if p.eom then s.msgDone c'
  else ((s.dropCtx c).modMt fun m => { m with ctxs := m.ctxs ++ [c'] }).showCtx

/-- A start packet takes a context (R352). -/
def State.packetStart (s : State) (p : Packet) : State :=
  let c : Ctx := ⟨p.port, p.ch, p.src, p.owner, p.tag % 8, [], p.seq % 4, false⟩
  if ctxMax ≤ s.mtrans.ctxs.length then
    ((s.bump MTRANS_REASM_DROP_LO MTRANS_REASM_DROP_HI MTRANS_EVT_SAT srcMTRANS).raise MTRANS_EVT_DROP).raise MTRANS_STAT_REASM_FULL
  else s.packetIn c p

/-- MCTP_PACKET: integrity, address, then reassembly (R349, R351, R352). -/
def execMctpPacket (p : Packet) (s : State) : Host.Outcome State Fault Refusal :=
  .next (if !mctpLive s p.port p.ch then s
    else if p.bad then s.bump MTRANS_PEC_ERR_LO MTRANS_PEC_ERR_HI MTRANS_EVT_SAT srcMTRANS
    else if p.dest ≠ 0 && p.dest ≠ rf s (eidFld p.port) then
      s.bump MTRANS_UNKNOWN_SRC_LO MTRANS_UNKNOWN_SRC_HI MTRANS_EVT_SAT srcMTRANS
    else match ctxOf s p.port p.src (p.tag % 8) p.owner with
      | none => if p.som then s.packetStart p else s
      | some c =>
        if p.som then (s.reasmDrop c .timeout).packetStart p
        else if p.seq % 4 ≠ c.seq then s.reasmDrop c .timeout
        else s.packetIn c p)

/-- REASSEMBLY_TIMEOUT: no packet within REASM_MS (R352). -/
def execReassemblyTimeout (port src tag : Nat) (owner : Bool) (s : State) : Host.Outcome State Fault Refusal :=
  .next (match ctxOf s port src tag owner with
    | none => s
    | some c => s.reasmDrop c .timeout)

/-- RX_SLOT_FREE: firmware advances TAIL; waiting messages enter the ring (R354). -/
def execRxSlotFree (tail : Nat) (s : State) : Host.Outcome State Fault Refusal :=
  .next (State.fillRing 32 (s.setF MTRANS_RX_PTR_TAIL tail))

/-! ### Sending (R351, R354, R365) -/

/-- The transmission unit of a port (R349, R350). -/
def txUnit (s : State) (port : Nat) : Nat :=
  if port = poPCIE then match s.mtrans.settings with | some st => st.txMtu | none => 64 else 64

/-- A message cut into packets of at most `n` bytes. -/
def fragments (n : Nat) : Nat → List Byte → List (List Byte)
  | 0, _ => []
  | fuel + 1, bs => if bs = [] then [] else bs.take n :: fragments n fuel (bs.drop n)

/-- The transport that a SEND names exists: a port that the settings, once applied, bring up (R354, R365). -/
def txPort (s : State) (port : Nat) : Bool := port ≤ 9 && (!rb s MTRANS_STAT_APPLIED || portUp s port)

/-- The header and message at MTRANS_TX_ADDR (R354). -/
def txAt (s : State) : Option Tx :=
  let a := rf s MTRANS_TX_ADDR_ADDR
  let h := tcmRead s a 16
  let n := fieldAt h 0 2
  let port := fieldAt h 2 1
  if inTcm a 16 && 1 ≤ n && n ≤ msgMax && inTcm a (16 + n) && txPort s port && fieldAt h 4 1 < 16 && zeroAt h 8 8
      && (port ≠ poESPI || fieldAt h 5 1 < 96) then
    some ⟨port, fieldAt h 3 1, fieldAt h 5 1, fieldAt h 4 1, fragments (txUnit s port) n (tcmRead s (a + 16) n), tcmPoisoned s a (16 + n), 0⟩
  else none

/-- SEND (R354, R365). -/
def execSend (s : State) : Host.Outcome State Fault Refusal :=
  .next (match firstCode [((txAt s).isNone, Code.malformed), (!rb s MTRANS_STAT_APPLIED, .refusedState),
        (delayed s mtIf 2 s.mtrans.tx.isSome, .busyRetry)] with
    | some c => s.cmdRefuse mtIf 2 c
    | none => s.modMt fun m => { m with tx := txAt s })

/-- SEND_DONE: the last packet has left, or TIMEOUT under R351 (R365); through a mismatched or suspended bank nothing leaves (R56, R57). -/
def execSendDone (ok : Bool) (s : State) : Host.Outcome State Fault Refusal :=
  .next (match s.mtrans.tx with
    | none => s
    | some t =>
      if ok && !mctpLive s t.port t.ch then s else
      let s := s.modMt fun m => { m with tx := none }
      if ok then (s.cmdEnd mtIf 2 .ok).ret (.mctp t.port t.eid t.ch t.tag t.packets t.poisoned)
      else s.cmdEnd mtIf 2 .timeout)

/-- SMB_TIMEOUT: SCL held low for 25 ms releases the port; the packet in progress is lost (R351). A mismatched or suspended bank MGB
ignores its inputs (R56, R57). -/
def execSmbTimeout (port : Nat) (s : State) : Host.Outcome State Fault Refusal :=
  .next (if bankFloated s bankMGB then s else match s.mtrans.settings with
    | some st =>
      match st.ports[port]? with
      | some p =>
        if p.role = 3 || p.role = 4 then (s.raise (MTRANS_I3C_STAT_TIMEOUT_SEEN port)).raise MTRANS_EVT_SMB_TIMEOUT else s
      | none => s
    | none => s)

/-- ARBITRATION_RETRY: an arbitration was lost; the fifth loss abandons the message (R351). -/
def execArbitrationRetry (s : State) : Host.Outcome State Fault Refusal :=
  .next (match s.mtrans.tx with
    | none => s
    | some t =>
      if !mctpLive s t.port t.ch then s else
      if t.losses + 1 < 5 then s.modMt fun m => { m with tx := some { t with losses := t.losses + 1 } }
      else
        let s := s.modMt fun m => { m with tx := none }
        let s := (s.bump MTRANS_ARB_DROP_LO MTRANS_ARB_DROP_HI MTRANS_EVT_SAT srcMTRANS).raise MTRANS_EVT_DROP
        (s.journal 6 351 srcMTRANS t.port .timeout).cmdEnd mtIf 2 .timeout)

/-! ### Control messages (R349, R353) -/

/-- A control message is answered once the endpoint of its port is up, whatever its source. -/
def State.control (s : State) (o : Origin) (f : State → State) : State := if mctpLive s o.port then f s else s

/-- SET_ENDPOINT_ID: the bus owner sets the EID; 0x00 and 0xFF are no EID to take. -/
def execSetEndpointId (org : Origin) (eid : Nat) (s : State) : Host.Outcome State Fault Refusal :=
  .next (s.control org fun s =>
    if 8 ≤ eid && eid ≤ 0xFE then
      ((s.setF (eidFld org.port) eid).raise MTRANS_EVT_EID_SET).ret (.reply .ok (leBytes 1 eid))
    else s.ret (.reply .malformed (leBytes 1 (rf s (eidFld org.port)))))

/-- GET_ENDPOINT_ID. -/
def execGetEndpointId (org : Origin) (s : State) : Host.Outcome State Fault Refusal :=
  .next (s.control org fun s => s.ret (.reply .ok (leBytes 1 (rf s (eidFld org.port)))))

/-- GET_ENDPOINT_UUID; the UUID's value is not stated. -/
def execGetEndpointUuid (org : Origin) (s : State) : Host.Outcome State Fault Refusal :=
  .next (s.control org fun s => s.ret (.reply .ok (beBytes 16 Config.endpointUuid.toNat)))

/-- GET_MCTP_VERSION_SUPPORT: the base specification is DSP0236 1.3 (R349); the versions of other types as the model's
Config gives them. -/
def execGetMctpVersionSupport (org : Origin) (typ : Nat) (s : State) : Host.Outcome State Fault Refusal :=
  .next (s.control org fun s =>
    if typ = 0xFF || typ = 0 then s.ret (.reply .ok [1, 3])
    else if typeKnown typ then s.ret (.reply .ok (beBytes 4 (Config.typeVersion typ).toNat))
    else s.ret (.reply .malformed []))

/-- GET_MESSAGE_TYPE_SUPPORT (R349). -/
def execGetMessageTypeSupport (org : Origin) (s : State) : Host.Outcome State Fault Refusal :=
  .next (s.control org fun s => s.ret (.reply .ok [0, 1, 5, 6, 0x7F]))

/-- GET_VENDOR_DEFINED_MSG_SUPPORT: the one set is IANA enterprise number 64917. -/
def execGetVendorDefinedMsgSupport (org : Origin) (sel : Nat) (s : State) : Host.Outcome State Fault Refusal :=
  .next (s.control org fun s =>
    if sel = 0 then s.ret (.reply .ok (0xFF :: beBytes 4 64917)) else s.ret (.reply .malformed []))

/-- PREPARE_FOR_ENDPOINT_DISCOVERY (R349). -/
def execPrepareForEndpointDiscovery (org : Origin) (s : State) : Host.Outcome State Fault Refusal :=
  .next (s.control org fun s => s.ret (.reply .ok []))

/-- ENDPOINT_DISCOVERY: on PCIe only; elsewhere ERROR_UNSUPPORTED_CMD (R349). -/
def execEndpointDiscovery (org : Origin) (s : State) : Host.Outcome State Fault Refusal :=
  .next (s.control org fun s => if org.port = poPCIE then s.ret (.reply .ok []) else s.ret .unsupportedCmd)

/-- UNSUPPORTED_CONTROL_CMD: any other control command is answered ERROR_UNSUPPORTED_CMD (R349). -/
def execUnsupportedControlCmd (org : Origin) (s : State) : Host.Outcome State Fault Refusal :=
  .next (s.control org fun s => s.ret .unsupportedCmd)

end Sys2Proof.Machine
end

