-- ==== Sys2Proof/Machine/Resets.lean ====
section
/-! DEFINITION. Power and reset events (R48, R49, R58, R59, R83, R89). -/

namespace Sys2Proof.Machine

/-- The monitor classes of the banks are shown (R56; SYSCTL_BANK_V0, SYSCTL_BANK_V1). -/
def State.showBanks (s : State) (banks : List Nat) : State :=
  (s.setReg SYSCTL_BANK_V0 (BitVec.ofNat 32 ((List.range 16).foldl (fun w i => setBits w (2 * i) 2 (banks.getD i 0)) 0))).setReg
    SYSCTL_BANK_V1 (BitVec.ofNat 32 ((List.range 8).foldl (fun w i => setBits w (2 * i) 2 (banks.getD (16 + i) 0)) 0))

/-- Power-on clears the stuck-pin flag, the token buffer and the nonce (R83, R392). -/
def State.powerOnClear (s : State) : State :=
  let s := s.modLcs fun l => { l with token := [] }
  let s := (s.setF SYSCTL_RSTCAUSE_RSTPIN_STUCK 0).setF DEBUG_STAT_NONCE_VALID 0
  ((s.setF DEBUG_STAT_TOKEN_LEN 0).setReg DEBUG_NONCE_LO 0).setReg DEBUG_NONCE_HI 0

/-- MAIN_POWER_GOOD: SYS_PWRGD rises with every monitored supply valid (R48, R89). From DORMANT it is a power-on. -/
def execMainPowerGood (testen : Bool) (banks : List Nat) (s : State) : Host.Outcome State Fault Refusal :=
  .next (if s.boot.stage = .held then
      let s := if mode s = moDORMANT then (s.powerOnClear).modBoot fun b => { b with causes := rcPOR } else s
      let s := ((s.modBoot fun b => { b with supplies := 15 }).raise SYSCTL_PIN_STAT_PWRGD_LVL).showBanks banks
      s.endReset testen
    else s)

/-- PWRGD_FALL: a fall of SYS_PWRGD of 1 µs or more resets at once (R48, R59); a suspended bank SYB ignores its inputs (R57). -/
def execPwrgdFall (s : State) : Host.Outcome State Fault Refusal :=
  .next (if !sybLive s then s else
    let s := s.setF SYSCTL_PIN_STAT_PWRGD_LVL 0
    let s := s.modBoot fun b => { b with supplies := setBits b.supplies 3 1 0 }
    if mode s = moDORMANT then s else s.deviceReset rcPWRGD)

/-- SUPPLY_MONITOR_DROP: a monitor of VDD (0), VDD_SRAM (1) or VDDIO_SYB (2) drops out (R58, R59). -/
def execSupplyMonitorDrop (supply : Nat) (s : State) : Host.Outcome State Fault Refusal :=
  .next (if supply < 3 then
      let s := s.modBoot fun b => { b with supplies := setBits b.supplies supply 1 0 }
      if mode s = moDORMANT then s else s.deviceReset rcMONITOR
    else s)

/-- MAIN_POWER_LOSS: with VDD, VDD_SRAM or VDDIO_SYB lost the mode is DORMANT, and the Lodge alone runs (R88, R89). -/
def execMainPowerLoss (supply : Nat) (s : State) : Host.Outcome State Fault Refusal :=
  .next (if supply < 3 then
      let s := s.modBoot fun b => { b with supplies := setBits b.supplies supply 1 0 }
      if mode s = moDORMANT then s
      else ((s.deviceReset 0).setF SYSCTL_MODE_MODE moDORMANT).setF SYSCTL_RSTCAUSE_PIN_IGNORED 0
    else s)

/-- SYS_RST_N_ASSERT: a low level of 1 µs or more asks for a device reset, unless the pin is ignored (R49, R59, R83). -/
def execSysRstNAssert (s : State) : Host.Outcome State Fault Refusal :=
  .next (if !sybLive s then s else
    let s := s.modBoot fun b => { b with pinLow := true }
    if rb s SYSCTL_RSTCAUSE_PIN_IGNORED || mode s = moDORMANT then s else s.askReset rcPIN false)

/-- SYS_RST_N_RELEASE: the pin rises; reset ends unless a reset still waits or supplies are missing (R61, R83). -/
def execSysRstNRelease (testen : Bool) (s : State) : Host.Outcome State Fault Refusal :=
  .next (if !sybLive s then s else (s.modBoot fun b => { b with pinLow := false }).endReset testen)

/-- RSTPIN_STUCK_TIMEOUT: the pin still low 10 s after its fall, or after a power-on with the pin low, is flagged and ignored, and reset
ends with one record (R83). -/
def execRstpinStuckTimeout (testen : Bool) (s : State) : Host.Outcome State Fault Refusal :=
  .next (if s.boot.stage = .held && s.boot.pinLow && (mode s ≠ moDORMANT || s.boot.supplies = 15) && !rb s SYSCTL_RSTCAUSE_PIN_IGNORED then
      (((s.raise SYSCTL_RSTCAUSE_RSTPIN_STUCK).raise SYSCTL_RSTCAUSE_PIN_IGNORED).endReset testen).journal 7 83 srcSYSCTL noUnit
    else s)

/-- PIN_IGNORED_CLEAR: the pin has been high for 100 ms without a break (R83). -/
def execPinIgnoredClear (s : State) : Host.Outcome State Fault Refusal :=
  .next (if s.boot.pinLow then s else s.setF SYSCTL_RSTCAUSE_PIN_IGNORED 0)

/-- DEFERRED_DEVICE_RESET: the atomic window closes and the reset asked for takes effect (R59). -/
def execDeferredDeviceReset (testen : Bool) (s : State) : Host.Outcome State Fault Refusal :=
  .next (match s.boot.deferred with
    | some c => s.forceReset c testen
    | none => s)

/-- The fields of a SYSCTL_BOOT_CTL word: KEY, RESTART_COPY, BV_RESTART, DEV_RESET. -/
def bootKeyOk (word : Nat) : Bool := bitsAt word 16 16 = 0x5A3C && !(word.testBit 0 && word.testBit 1)

/-- A write of SYSCTL_BOOT_CTL with a wrong KEY or both actions changes nothing and enters one record (R85). -/
def State.bootCtlBad (s : State) : State := s.journal 7 85 srcSYSCTL noUnit

/-- DEV_RESET: a write of SYSCTL_BOOT_CTL that asks for a device reset (R58, R59, R85). -/
def execDevReset (word : Nat) (testen : Bool) (s : State) : Host.Outcome State Fault Refusal :=
  .next (if !bootKeyOk word then s.bootCtlBad
    else if word.testBit 0 then s.askReset rcSWDEV testen else s)

end Sys2Proof.Machine
end

