-- ==== Sys2Proof/Machine/Platform.lean ====
section
/-! DEFINITION. Belvedere restarts, watchdog and failover (R26, R58, R60, R85), clocks (R28, R29), planes (R23, R25, R34, R86), banks
(R57), PCIe pins and link (R46, R351, R445) and die temperature (R446). -/

namespace Sys2Proof.Machine

/-! ### Belvedere -/

/-- BV_RESTART: a write of SYSCTL_BOOT_CTL that asks for a Belvedere restart, from the copy that RESTART_COPY names (R58, R85). -/
def execBvRestart (word : Nat) (s : State) : Host.Outcome State Fault Refusal :=
  .next (if !bootKeyOk word then s.bootCtlBad
    else if word.testBit 1 then s.bvRestart (bitsAt word 2 1) rcRESTART else s)

/-- WDT_KICK: KEY 0xC3D2 restarts the count; any other key enters one record (R60). -/
def execWdtKick (word : Nat) (s : State) : Host.Outcome State Fault Refusal :=
  .next (if bitsAt word 16 16 ≠ 0xC3D2 then s.journal 7 60 srcSYSCTL noUnit
    else if s.boot.wdtEnd.isSome then s.modBoot fun b => { b with wdtEnd := some (s.usec + 1000 * rf s SYSCTL_WDT_CTL_PERIOD_MS) }
    else s)

/-- WDT_EXPIRY: the count reaches the period: one record and a Belvedere restart. A stopped or frozen count, or EN clear, never
expires (R60). -/
def execWdtExpiry (s : State) : Host.Outcome State Fault Refusal :=
  .next (if s.boot.wdtEnd.isSome && rb s SYSCTL_WDT_CTL_EN then (s.journal 7 60 srcSYSCTL noUnit).bvRestart 0 rcWDT else s)

/-- FAILOVER: the running pair fails its lockstep compare or a TCM check (R26, R418). -/
def execFailover (s : State) : Host.Outcome State Fault Refusal := .next s.pairFails

/-! ### Clocks -/

def lockFld (p : Nat) : Fld := if p = 0 then SYSCTL_CLKSTAT_PLL0_LOCK else SYSCTL_CLKSTAT_PLL1_LOCK
def refFld (r : Nat) : Fld := if r = 0 then SYSCTL_CLKSTAT_REFA_OK else SYSCTL_CLKSTAT_REFB_OK
def activePll (s : State) : Nat := rf s SYSCTL_CLKSTAT_ACTIVE_PLL
/-- The reference that a PLL locks to: 0 REFCLK_A, 1 REFCLK_B. -/
def refOf (s : State) (p : Nat) : Nat := if p = 1 && rb s SYSCTL_CLKSEL_REF_B_EN then 1 else 0
/-- PLL_SPARE is 1 while the non-active PLL is locked. -/
def State.showClocks (s : State) : State := s.setB SYSCTL_SPARE_STAT_PLL_SPARE (rb s (lockFld (1 - activePll s)))

/-- The selector moves every divided clock to PLL `p` (R28, R29). -/
def State.clockSwitch (s : State) (p : Nat) : State :=
  (((s.setF SYSCTL_CLKSTAT_ACTIVE_PLL p).setF SYSCTL_CLKSTAT_HOLDOVER 0).raise SYSCTL_CLKEVT_SWITCHED).showClocks

/-- REFCLK_B, the last spare of the reference clock inputs, is brought in: the pool has no bit of its own in SYSCTL_SPARE_EVT, so the records name
it by the number 10 (R31, R32). -/
def State.refSpare (s : State) : State := (s.journalD 7 31 srcSYSCTL 1 0 0 [10]).spareLow 10 1

/-- The active PLL is lost: the other one is brought in if it is locked, or the active one enters holdover (R28, R29, R31). -/
def State.clockLost (s : State) : State :=
  let p := 1 - activePll s
  if rb s SYSCTL_CLKSEL_AUTO_SWITCH && rb s (lockFld p) then (s.clockSwitch p).spareUsed SYSCTL_SPARE_EVT_PLL_USED p true
  else if rb s SYSCTL_CLKSTAT_HOLDOVER then s.showClocks
  else (((s.raise SYSCTL_CLKSTAT_HOLDOVER).raise SYSCTL_CLKEVT_HOLDOVER_ENTERED).journal 7 29 srcSYSCTL (activePll s)).showClocks

/-- PLL_LOCK: PLL `pll` locks to its reference (R27 to R29, R61 step 2). -/
def execPllLock (pll : Nat) (s : State) : Host.Outcome State Fault Refusal :=
  .next (if 2 ≤ pll || s.boot.stage = .held then s
    else
      let s := (s.raise (lockFld pll)).raise (refFld (refOf s pll))
      let s := if !rb s SYSCTL_CLKSTAT_HOLDOVER then s.showClocks
        else if pll = activePll s then (s.setF SYSCTL_CLKSTAT_HOLDOVER 0).showClocks
        else (s.clockSwitch pll).spareUsed SYSCTL_SPARE_EVT_PLL_USED pll true
      if s.boot.stage = .reset1 && pll = activePll s then s.modBoot fun b => { b with stage := .clocks } else s)

/-- REFERENCE_LOST: a monitor declares REFCLK_A (0) or REFCLK_B (1) lost (R28). -/
def execReferenceLost (ref : Nat) (s : State) : Host.Outcome State Fault Refusal :=
  .next (if 2 ≤ ref then s
    else
      let s := (s.setF (refFld ref) 0).raise (if ref = 0 then SYSCTL_CLKEVT_REFA_LOST else SYSCTL_CLKEVT_REFB_LOST)
      if refOf s (activePll s) = ref then
        let was := activePll s
        let s := s.clockLost
        s.when (activePll s ≠ was && refOf s (activePll s) ≠ ref) State.refSpare
      else s)

/-- PLL_UNLOCK: PLL `pll` loses lock (R28, R29). -/
def execPllUnlock (pll : Nat) (s : State) : Host.Outcome State Fault Refusal :=
  .next (if 2 ≤ pll then s
    else
      let s := (s.setF (lockFld pll) 0).raise (if pll = 0 then SYSCTL_CLKEVT_PLL0_UNLOCK else SYSCTL_CLKEVT_PLL1_UNLOCK)
      if pll = activePll s then s.clockLost else s.showClocks)

/-- SWITCH_REQ: a write of 1 moves the divided clocks to the other PLL if it is locked. -/
def execSwitchReq (s : State) : Host.Outcome State Fault Refusal :=
  .next (let p := 1 - activePll s
    if rb s (lockFld p) then s.clockSwitch p else s)

/-! ### Planes -/

/-- PLANE_ISOLATION: a fault of R22; `cause` 0 an uncorrectable error, 1 loss of the interface, 2 a watchdog (R23, R25). -/
def execPlaneIsolation (plane cause : Nat) (s : State) : Host.Outcome State Fault Refusal :=
  .next (if 2 ≤ plane || !(serving s plane || planeSt s plane = plREBUILDING) then s
    else (s.when (cause = 1) (·.setF (trainFld plane) 2)).isolate plane)

/-- The decision on a rebuild of plane `x` (R25, R34). -/
def rebuildCode (s : State) (x word : Nat) : Option Code :=
  let down := planeSt s x = plISOLATED || planeSt s x = plOFF
  firstCode [(word.testBit 0 && word.testBit 1, .malformed),
    (!serving s (1 - x) || !down || !trainPass s x || (planeSt s x = plOFF && s.boot.tableBad.testBit x) || lockdown s, .refusedState)]

/-- A write of SYSCTL_PLANE_CTL that asks for a rebuild of plane `x` (R25). -/
def State.rebuild (s : State) (x word : Nat) : State :=
  if !word.testBit x then s
  else match rebuildCode s x word with
    | some c => s.setF SYSCTL_PLANE_STAT_LAST_STATUS c.val
    | none => (s.setPlaneSt x plREBUILDING).setF SYSCTL_PLANE_STAT_LAST_STATUS 0

/-- REBUILD_A (R25, R34). -/
def execRebuildA (word : Nat) (s : State) : Host.Outcome State Fault Refusal := .next (s.rebuild 0 word)

/-- REBUILD_B (R25, R34). -/
def execRebuildB (word : Nat) (s : State) : Host.Outcome State Fault Refusal := .next (s.rebuild 1 word)

/-- REBUILD_DONE: the copy is whole, and the plane serves from its transaction boundary (R25). -/
def execRebuildDone (plane : Nat) (s : State) : Host.Outcome State Fault Refusal :=
  .next (if plane < 2 && planeSt s plane = plREBUILDING && serving s (1 - plane) then
      (s.setPlane plane (planeOf s (1 - plane))).setPlaneSt plane plSERVING
    else s)

/-- The decision on a retrain command for the interfaces of `ifs` (R86). -/
def retrainCode (s : State) (ifs : List Nat) : Option Code :=
  let up (x : Nat) : Bool := serving s x || planeSt s x = plREBUILDING
  firstCode [(ifs.any up || (ifs.length = 2 && anyServing s), .refusedState)]

/-- A write of SYSCTL_TRAIN_STAT with a retrain bit (R86); where it cuts a training of both short, an interface that has passed in it alone
settles DRAM_CAP (R79). -/
def State.retrain (s : State) (word : Nat) : State :=
  let ifs := [0, 1].filter fun i => word.testBit (16 + i)
  if ifs.isEmpty then s
  else match retrainCode s ifs with
    | some c => s.setF SYSCTL_TRAIN_STAT_LAST_STATUS c.val
    | none =>
      let s := s.setF SYSCTL_TRAIN_STAT_LAST_STATUS 0
      let s := s.each ([0, 1].filter fun i => !ifs.contains i) fun s i =>
        s.when (trainPass s i && rf s SYSCTL_ID_DRAM_CAP = 0) (·.setF SYSCTL_ID_DRAM_CAP (s.boot.trainCap.getD i 0))
      let s := s.each ifs fun s i => (s.setF (trainFld i) 0).setF (attemptsFld i) 0
      s.modBoot fun b =>
        { b with training := ifs.foldl (fun t i => setBits t i 1 1) b.training, retrainBoth := ifs.length = 2 }

/-- RETRAIN_0 (R86). -/
def execRetrain0 (word : Nat) (s : State) : Host.Outcome State Fault Refusal := .next (s.retrain word)

/-- RETRAIN_1 (R86). -/
def execRetrain1 (word : Nat) (s : State) : Host.Outcome State Fault Refusal := .next (s.retrain word)

/-! ### Banks -/

/-- The monitor class of bank `i` is shown. -/
def State.setBankClass (s : State) (i cls : Nat) : State :=
  if i < 16 then s.setF ⟨SYSCTL_BANK_V0, 2 * i, 2⟩ cls else s.setF ⟨SYSCTL_BANK_V1, 2 * (i - 16), 2⟩ cls

def linesOfBank (s : State) (i : Nat) : List Nat := (List.range 144).filter fun k => (pclOf s k).isSome && bankOfPcl k = i
def chansOfBank (i : Nat) : List Nat := (List.range 96).filter fun ch => bankOfChan ch = i

/-- A bank in use has changed class: outputs float, inputs freeze and are invalid, CHANGED and one record (R57). -/
def State.suspendBank (s : State) (i : Nat) : State :=
  let s := s.modBoot fun b => { b with floated := setBits b.floated i 1 1 }
  let s := (s.setMapBit SYSCTL_BANK_EVT_CHANGED i true).journal 7 57 srcSYSCTL i
  let s := s.each (chansOfBank i) fun s ch => s.setF (CH_PORT_STAT_ALERT_OUT ch) 0
  s.each (linesOfBank s i) fun s k =>
    match pclOf s k with
    | some p =>
      if p.output then s.showPcl k
      else
        let was := lineValid s k && lineAsserted s k
        (s.setF (GATE_PCL_STAT_VALID k) 0).inputActs k was
    | none => s

/-- BANK_CLASS_CHANGE: the monitor of a bank shows another class (R56, R57). -/
def execBankClassChange (bank cls : Nat) (s : State) : Host.Outcome State Fault Refusal :=
  .next (if 24 ≤ bank || 4 ≤ cls || bankClass s bank = cls then s
    else
      let s := s.setBankClass bank cls
      if s.gate.applied && s.boot.cfg.banks.getD bank 0 ≠ 0 then s.suspendBank bank else s)

/-- BANK_RESUME: the bank has matched its declaration for 1 ms: its lines are driven again and its channels start as devices just
powered on (R56, R57). -/
def execBankResume (bank : Nat) (s : State) : Host.Outcome State Fault Refusal :=
  .next (if bank < 24 && bankFloated s bank && bankMatches s bank then
      let s := (s.modBoot fun b => { b with floated := setBits b.floated bank 1 0 }).setMapBit SYSCTL_BANK_ERR_MISMATCH bank false
      let s := s.each (linesOfBank s bank) State.showPcl
      s.each (chansOfBank bank) fun s ch => if chanInUse s ch then (s.devPowerOn ch).alertShow ch else s
    else s)

/-! ### PCIe -/

/-- The PCIe link comes up with a speed and width, or goes down. -/
def State.setLink (s : State) (up : Bool) (gen width : Nat) : State :=
  let was := rb s MTRANS_STAT_LINK_UP
  let s := ((s.setB MTRANS_STAT_LINK_UP up).setF MTRANS_STAT_PCIE_GEN (if up then gen else 0)).setF MTRANS_STAT_PCIE_WIDTH (if up then width else 0)
  s.when (was ≠ up) (·.raise MTRANS_EVT_LINK_CHG)

/-- PE_PERST_N_CHANGE: a low level takes the link down and discards the reassembly contexts of PCIe, complete ones included, without
notice (R46, R351); a suspended bank SYB ignores its inputs (R57). -/
def execPePerstNChange (level : Bool) (s : State) : Host.Outcome State Fault Refusal :=
  .next (if !sybLive s then s else
    let s := s.setB SYSCTL_PIN_STAT_PERST_LVL level
    if level then s
    else
      let lost := s.mtrans.ctxs.any fun c => c.port = poPCIE
      (((s.setLink false 0 0).modMt fun m => { m with ctxs := m.ctxs.filter fun c => c.port ≠ poPCIE }).showCtx).when lost (·.raise MTRANS_EVT_DROP))

/-- PCIE_LINK_CHANGE: the link finishes training at a speed and width, or goes down; with PE_PERST_N low or the endpoint disabled it does
not train (R46, R445). -/
def execPcieLinkChange (up : Bool) (gen width : Nat) (s : State) : Host.Outcome State Fault Refusal :=
  .next (if up then
      if rb s SYSCTL_PIN_STAT_PERST_LVL && rb s MTRANS_STAT_PCIE_EN then s.setLink true gen width else s
    else s.setLink false 0 0)

/-! ### Temperature -/

/-- The byte of a signed temperature. -/
def tempByte (t : Int) : Nat := (t % 256).toNat

/-- TEMP_SAMPLE: the hottest of the sensors, each read as a signed byte; WARN at WARN_AT, and again only once TEMP has fallen 5 °C below
it (R446). -/
def execTempSample (temps : List Nat) (s : State) : Host.Outcome State Fault Refusal :=
  .next (match temps with
    | [] => s
    | t0 :: ts =>
      let hot := ts.foldl (fun m t => max m (signed8 (t % 256))) (signed8 (t0 % 256))
      let at_ := signed8 (rf s SYSCTL_TEMP_WARN_AT)
      let peak := if rb s SYSCTL_TEMP_VALID then max hot (signed8 (rf s SYSCTL_TEMP_PEAK)) else hot
      let s := ((s.setF SYSCTL_TEMP_TEMP (tempByte hot)).setF SYSCTL_TEMP_PEAK (tempByte peak)).raise SYSCTL_TEMP_VALID
      if at_ ≤ hot && !s.boot.tempHot then
        ((s.raise SYSCTL_TEMP_WARN).journal 7 446 srcSYSCTL noUnit).modBoot fun b => { b with tempHot := true }
      else if hot + 5 ≤ at_ then s.modBoot fun b => { b with tempHot := false }
      else s)

end Sys2Proof.Machine
end

