-- ==== Sys2Proof/Machine/PortEvents.lean ====
section
/-! DEFINITION. Events at the channel ports beside frames: late lines (R193), alerts (R202, R212), the WIP clear (R194), front
ends (R179), device resets (R205) and the eSPI target (R207 to R210). -/

namespace Sys2Proof.Machine

/-! ### Late lines (R193) -/

/-- The line of plane `plane` had not arrived at the bound and the other plane's was delivered without compare; 16 late lines in
succession isolate the plane (R193, R22). -/
def execLineLate (ch plane : Nat) (s : State) : Host.Outcome State Fault Refusal :=
  .next (if portLive s ch && plane < 2 && serving s plane && serving s (1 - plane) then
      let s := (s.raise (CH_PORT_EVT_LATE ch)).bump (CH_LATE_LO ch) (CH_LATE_HI ch) (CH_PORT_EVT_SAT ch) srcCHAN
      s.lateLines [plane]
    else s)

/-- A late line arrived; `bad` says that it is FAIL or differs from what was delivered: repaired under R159, counted in
DISAGREE (R193). -/
def execLateLineArrival (ch plane dom region off : Nat) (bad : Bool) (s : State) : Host.Outcome State Fault Refusal :=
  let e := extIx dom region
  .next (if ch < 96 && plane < 2 && bad && serving s plane && (extOf s e).valid && off < (extOf s e).len then
      let s := s.bump (CH_DISAGREE_LO ch) (CH_DISAGREE_HI ch) (CH_PORT_EVT_SAT ch) srcCHAN
      let o := { obsOf [] 0 with failA := plane = 0, failB := plane = 1 }
      if serving s (1 - plane) then s.repairLine plane e off false o else s.failLine [plane] e off false o
    else s)

/-! ### Alerts (R202, R212) -/

/-- In pulse mode the ball deasserts 2 µs after the latest cause (R202). -/
def execAlertPulseEnd (ch : Nat) (s : State) : Host.Outcome State Fault Refusal :=
  .next (if ch < 96 && rf s (CH_PORT_CFG_ALERT_MODE ch) = 1 && rf s (CH_PORT_CFG_MODE ch) ≠ modeESPI then
      s.setF (CH_PORT_STAT_ALERT_OUT ch) 0
    else s)

/-- A write of CHn_ALERT_CTL: CLEAR deasserts the ball in level mode and clears CAUSE (R202, R212). -/
def execAlertClear (ch word : Nat) (s : State) : Host.Outcome State Fault Refusal :=
  .next (if ch < 96 && word.testBit 0 then
      let s := s.setF (CH_ALERT_CTL_CAUSE ch) 0
      if rf s (CH_PORT_CFG_ALERT_MODE ch) = 0 && rf s (CH_PORT_CFG_MODE ch) ≠ modeESPI then
        s.setF (CH_PORT_STAT_ALERT_OUT ch) 0
      else s
    else s)

/-! ### WIP, front ends, resets -/

/-- The emulated minimum of the running operations has passed: those whose completion point is reached end (R194, R236). -/
def execWipClear (ch : Nat) (s : State) : Host.Outcome State Fault Refusal :=
  .next (if ch < 96 then
      (s.modChan ch fun c => { c with ops := c.ops.map fun (o : RunOp) =>
        { o with minDone := o.minDone || !o.suspended } }).opEnd ch
    else s)

/-- The driving front-end instance fails its check: the other takes over, or with none left the channel's balls go
high-impedance and the fault is uncovered (R179, R31, R418 cause 0x03). -/
def execFeTakeover (ch : Nat) (s : State) : Host.Outcome State Fault Refusal :=
  .next (if ch < 96 && (chanOf s ch).feBad ≠ 3 then
      let a := rf s (CH_PORT_STAT_FE_ACTIVE ch)
      let bad := setBits (chanOf s ch).feBad a 1 1
      let s := s.modChan ch fun c => { c with feBad := bad }
      if bad = 3 then ((s.setF (CH_PORT_STAT_ALERT_OUT ch) 0).setF (CH_PORT_STAT_FE_SPARE_OK ch) 0).uncovered 3 ch
      else
        let s := (s.setF (CH_PORT_STAT_FE_ACTIVE ch) (1 - a)).setF (CH_PORT_STAT_FE_SPARE_OK ch) 0
        (s.raise (CH_PORT_EVT_FE_SWITCH ch)).spareUsed SYSCTL_SPARE_EVT_FE_USED ch true
    else s)

/-- CHn_RST_N low for 200 ns or longer (R205). -/
def execChnRstNPulse (ch : Nat) (s : State) : Host.Outcome State Fault Refusal :=
  .next (if portLive s ch then s.devReset ch else s)

/-! ### eSPI (R207 to R210) -/

/-- The eSPI target of a channel is live and its flash channel enabled. -/
def espiLive (s : State) (ch : Nat) : Bool :=
  portLive s ch && (progOf s ch).mode = modeESPI && rb s (CH_ESPI_STAT_FLASH_EN ch)

def State.showEspi (s : State) (ch : Nat) : State :=
  s.setF (CH_ESPI_STAT_OUTSTANDING ch) (chanOf s ch).espi.length

/-- A request joins the list under its tag and is answered with DEFER (R208). -/
def State.espiDefer (s : State) (ch : Nat) (q : EspiReq) : State :=
  ((s.modChan ch fun c => { c with espi := c.espi ++ [q] }).showEspi ch).ret .deferred

/-- What the target reports as its options (R207). -/
structure EspiOptions where
  io : Nat                 -- highest I/O mode: 0 single, 1 dual, 2 quad
  freq : Nat               -- highest frequency in MHz
  alertPin : Bool          -- open-drain ALERT# ball or IO1
  crc : Bool
  peripheral : Bool
  virtualWire : Bool
  oob : Bool
  flash : Bool
  maxPayload : Nat
  readRequests : Nat × Nat -- smallest and largest maximum read request size
  erases : List Nat
  requests : Nat           -- outstanding flash requests
  deriving DecidableEq, Repr

/-- The capability and configuration registers of a channel in eSPI mode (R207). -/
def espiOptions (s : State) (ch : Nat) : EspiOptions :=
  { io := (progOf s ch).espiIo, freq := espiFreqs.getD (progOf s ch).espiFreq 0, alertPin := true, crc := true, peripheral := false
    virtualWire := false, oob := true, flash := true, maxPayload := 64, readRequests := (64, 4096), erases := [4096, 65536], requests := 16 }

/-- A request whose tag is already outstanding: NO_RESPONSE and PROT_ERR (R210). -/
def State.espiDup (s : State) (ch tag : Nat) : State :=
  if espiLive s ch && (chanOf s ch).espi.any fun q => q.tag = tag then (s.raise (CH_PORT_EVT_PROT_ERR ch)).ret .noResponse else s

/-- The tag is one of 16 and not outstanding (R207, R210). -/
def tagFree (s : State) (ch tag : Nat) : Bool := tag < 16 && !((chanOf s ch).espi.any fun q => q.tag = tag)

def State.modEspi (s : State) (ch tag : Nat) (g : EspiReq → EspiReq) : State :=
  s.modChan ch fun c => { c with espi := c.espi.map fun q => if q.tag = tag then g q else q }

/-- A request ends unsuccessful with its completion ready. -/
def State.espiFail (s : State) (ch tag : Nat) : State :=
  (s.modEspi ch tag fun q => { q with state := 2, data := [] }).modChan ch fun c =>
    { c with ready := c.ready ++ [tag], refetchWait := c.refetchWait.filter (· ≠ tag) }

/-- Poison on an eSPI read: POISON and its count (R209). -/
def State.espiPoison (s : State) (ch : Nat) : State :=
  (s.raise (CH_PORT_EVT_POISON ch)).bump (CH_POISON_LO ch) (CH_POISON_HI ch) (CH_PORT_EVT_SAT ch) srcCHAN

/-- The lines of an eSPI read are fetched under the program that decided it (R243): its bytes are held with their extents and epochs, or it
waits for the refetch of the leaves that failed; without a refetch to wait for it ends unsuccessful (R208, R209). -/
def State.espiFetch (s : State) (ch tag addr len : Nat) (p : Prog) (lines : List LineObs) : State × Stream :=
  let t := s.readStream ch p (addr % p.devSize) len lines
  let s := t.st
  let s :=
    if t.poison.isSome || t.late.isSome then
      if anyServing s && t.leaves.all fun (e, l) => s.orang.refetch.any fun r => r.ext = e && r.leaf = l then
        (s.modEspi ch tag fun q => { q with leaves := t.leaves.eraseDups }).modChan ch fun c =>
          { c with refetchWait := c.refetchWait.filter (· ≠ tag) ++ [tag] }
      else (s.espiPoison ch).espiFail ch tag
    else s.modEspi ch tag fun q => { q with data := t.bytes, parts := t.parts }
  (s, t)

/-- PUT_FLASH_NP read of at most the size that the controller has set (R207 to R209, R230 to R235); a request fails once. -/
def execEspiFlashRead (ch tag addr len : Nat) (lines : List LineObs) (decDiffer : Bool) (s : State) :
    Host.Outcome State Fault Refusal :=
  .next (if espiLive s ch && tagFree s ch tag && 1 ≤ len && len ≤ (chanOf s ch).espiMax then
      let p := progOf s ch
      let ea := addr % p.devSize
      let (act, j, _) := blockAct p 0 ea
      let s := s.espiDefer ch { tag, kind := 0, addr, len, data := [], state := 0, decided := some p }
      let (s, t) := s.espiFetch ch tag addr len p lines
      let s := s.lastDec ch 1 0 act j
      let s := if t.denied then s.deny ch true else s
      let s := if t.unmapped then s.noExtent ch else s
      let s := s.alertIf ch (rowAlert (p.row 1) || t.alert)
      if decDiffers s ch decDiffer then
        let s := s.decideMismatch ch
        if (chanOf s ch).ready.contains tag then s else (s.espiPoison ch).espiFail ch tag
      else s
    else s.espiDup ch tag)

/-- A write or erase request runs as its frame would, without page wrap; a denial makes its completion unsuccessful
(R208, R229, R231). -/
def State.espiWrite (s : State) (ch opcode cls lo len tag : Nat) (data : List (Option Byte)) (lines recheck : List LineObs) (differ : Bool) :
    State :=
  let p := progOf s ch
  let (act, j) := rangeAct p cls lo len
  let s := s.espiDefer ch { tag, kind := cls, addr := lo, len, data := [], state := 0 }
  let (s, ok) := s.writeFrame ch p opcode cls act j (rowAlert (p.row opcode)) (decDiffers s ch differ)
    ⟨cls, lo, len, data, some tag, lines, recheck⟩
  if ok then s else s.espiFail ch tag

/-- PUT_FLASH_NP write (R208, R229, R232). -/
def execEspiFlashWrite (ch tag addr : Nat) (data : List Byte) (lines recheck : List LineObs) (decDiffer : Bool) (s : State) :
    Host.Outcome State Fault Refusal :=
  .next (let size := (progOf s ch).devSize
    if espiLive s ch && tagFree s ch tag && !data.isEmpty && data.length ≤ 64 && addr % size + data.length ≤ size then
      s.espiWrite ch 2 1 (addr % size) data.length tag (data.map some) lines recheck decDiffer
    else s.espiDup ch tag)

/-- PUT_FLASH_NP erase of the size that row 0x03 gives (R207, R208, R229). -/
def execEspiFlashErase (ch tag addr size : Nat) (recheck : List LineObs) (decDiffer : Bool) (s : State) : Host.Outcome State Fault Refusal :=
  .next (let p := progOf s ch
    if espiLive s ch && tagFree s ch tag && (size = 4096 || size = 65536) then
      let a := addr % p.devSize
      s.espiWrite ch 3 2 (a - a % size) size tag [] [] recheck decDiffer
    else s.espiDup ch tag)

/-- The alert that signals a ready completion, on CHn_ALERT_N or on IO1 as SET_CONFIGURATION selects; CHn_PORT_EVT shows each assertion of
the ball (R208, R211). -/
def State.espiSignal (s : State) (ch : Nat) : State :=
  let on := !(chanOf s ch).ready.isEmpty
  let ball := rb s (CH_ESPI_STAT_ALERT_PIN ch) && on
  let s := if ball && !rb s (CH_PORT_STAT_ALERT_OUT ch) then s.raise (CH_PORT_EVT_ALERT ch) else s
  (s.setB (CH_PORT_STAT_ALERT_OUT ch) ball).modChan ch fun c => { c with io1 := on && !ball }

/-- A deferred completion is ready (R208): a read with its bytes, read again after a refetch; a read whose line has not been
rewritten within 200 µs as unsuccessful (R209); a write or erase at its completion point. -/
def execEspiCompletionReady (ch tag : Nat) (s : State) : Host.Outcome State Fault Refusal :=
  .next (if espiLive s ch then
      match (chanOf s ch).espi.find? (·.tag = tag) with
      | none => s
      | some q =>
        if q.state = 0 && q.kind = 0 then
          if (chanOf s ch).refetchWait.contains tag then ((s.espiPoison ch).espiFail ch tag).espiSignal ch
          else
            let s := if q.data.isEmpty then (s.espiFetch ch tag q.addr q.len (q.decided.getD []) []).1 else s
            if (chanOf s ch).refetchWait.contains tag || (chanOf s ch).ready.contains tag then s.espiSignal ch
            else
              ((s.modEspi ch tag fun q => { q with state := 1 }).modChan ch fun c =>
                { c with ready := c.ready ++ [tag] }).espiSignal ch
        else if (chanOf s ch).ready.contains tag then s.espiSignal ch
        else s
    else s)

/-- A line fetched for a request is no longer current: its extent is invalid, or its epoch neither the extent's nor the predecessor of a
re-encryption that runs on it (R152). -/
def lineStale (s : State) (q : Nat × Nat × Nat) : Bool :=
  let x := extOf s q.2.1
  q.2.1 < 3072 && !(x.valid && (q.2.2 = x.epoch || (rekeying s q.2.1 && q.2.2 = x.prev)))

/-- The lines left of a request after `n` bytes of it. -/
def dropParts : Nat → List (Nat × Nat × Nat) → List (Nat × Nat × Nat)
  | _, [] => []
  | n, (m, e) :: t => if n < m then (m - n, e) :: t else dropParts (n - m) t

/-- GET_FLASH_C: the completion that became ready first, a read in parts of 64 bytes; one with a line that is no longer current ends
unsuccessful without data (R152, R208, R209). -/
def execGetFlashC (ch : Nat) (s : State) : Host.Outcome State Fault Refusal :=
  .next (if espiLive s ch then
      match (chanOf s ch).ready with
      | [] => s
      | tag :: rest =>
        match (chanOf s ch).espi.find? (·.tag = tag) with
        | none => s.modChan ch fun c => { c with ready := rest }
        | some q =>
          let drop (s : State) : State :=
            ((s.modChan ch fun c => { c with ready := rest, espi := c.espi.filter (·.tag ≠ tag) }).showEspi ch).espiSignal ch
          let ok := q.state ≠ 2
          if q.parts.any (lineStale s) then (drop (s.espiPoison ch)).ret (.flashC tag false 0 [])
          else if q.data.length ≤ 64 then
            ((drop s).bumpN (CH_RDBYTES_LO ch) (CH_RDBYTES_HI ch) (CH_PORT_EVT_SAT ch) srcCHAN q.data.length).ret
              (.flashC tag ok (if q.state = 3 then 3 else 0) q.data)
          else
            ((s.modEspi ch tag fun q => { q with state := 3, data := q.data.drop 64, parts := dropParts 64 q.parts }).bumpN (CH_RDBYTES_LO ch)
              (CH_RDBYTES_HI ch) (CH_PORT_EVT_SAT ch) srcCHAN 64).ret
              (.flashC tag ok (if q.state = 3 then 2 else 1) (q.data.take 64))
    else s)

/-- The maximum read request sizes of eSPI: 64 to 4,096 bytes, each twice the one before. -/
def readSizes : List Nat := [64, 128, 256, 512, 1024, 2048, 4096]

/-- SET_CONFIGURATION: frequency and I/O mode within what the program offers, a maximum read request size of R207, the alert pin and the
channel enables (R207). -/
def execSetConfiguration (ch freq io readMax : Nat) (alertPin flashEn oobEn : Bool) (s : State) : Host.Outcome State Fault Refusal :=
  .next (if portLive s ch && (progOf s ch).mode = modeESPI then
      let s := if freq ≤ (progOf s ch).espiFreq then s.setF (CH_ESPI_STAT_FREQ ch) freq else s
      let s := if io ≤ (progOf s ch).espiIo then s.setF (CH_ESPI_STAT_IO ch) io else s
      let s := if readSizes.contains readMax then s.modChan ch fun c => { c with espiMax := readMax } else s
      ((((s.setB (CH_ESPI_STAT_ALERT_PIN ch) alertPin).setB (CH_ESPI_STAT_FLASH_EN ch) flashEn).setB
        (CH_ESPI_STAT_OOB_EN ch) oobEn).setB (CH_PORT_STAT_ESPI_READY ch) flashEn).espiSignal ch
    else s)

/-- A bad CRC, an unknown opcode or a duplicate outstanding tag: NO_RESPONSE and PROT_ERR, no state changes (R210). -/
def execEspiProtocolError (ch : Nat) (s : State) : Host.Outcome State Fault Refusal :=
  .next (if portLive s ch && (progOf s ch).mode = modeESPI then (s.raise (CH_PORT_EVT_PROT_ERR ch)).ret .noResponse else s)

/-- An eSPI reset, in band or on CHn_RST_N (R205, R210). -/
def execEspiReset (ch : Nat) (s : State) : Host.Outcome State Fault Refusal :=
  .next (if portLive s ch && (progOf s ch).mode = modeESPI then s.devReset ch else s)

end Sys2Proof.Machine
end

