-- ==== Sys2Proof/Machine/Rng.lean ====
section
/-! DEFINITION. Random number generation: source events, seeds and items, RNG commands (R336) and the reads of RNG_DATA and
RNG_RAW (R333, R335). -/

namespace Sys2Proof.Machine

/-! ### Sources -/

/-- The start-up test of source `src` ends on its first 1,024 bits, which are discarded, and passes where both tests do: after reset the
source takes its place, 0 and 1 as ACTIVE, 2 and 3 as SPARE or in the place of one that failed; from RETEST it returns to its former state.
One outside SRC_ALLOW becomes SPARE where it would have been ACTIVE, and the selection goes on without it (R322, R323, R325, R326). -/
def execSourceStartupPass (src : Nat) (bits : List Bool) (s : State) : Host.Outcome State Fault Refusal :=
  .next (if 4 ≤ src || !startupOk bits then s
    else if srcFresh s src && srcState s src = srcSPARE then
      let s := s.modRng fun r => { r with fresh := setBits r.fresh src 1 0 }
      if (src < 2 || 0 < s.rng.places) && !srcAllowed s src then
        let s := s.selClamp src
        (if 2 ≤ src then s else if (nextSource s).isSome then s.bringIn else s.modRng fun r => { r with places := r.places + 1 }).showRng
      else if src < 2 then (s.setF (RNG_SRC_STAT_STATE src) srcACTIVE).showRng
      else if 0 < s.rng.places then
        let s := (s.modRng fun r => { r with places := r.places - 1 }).setF (RNG_SRC_STAT_STATE src) srcACTIVE
        (s.spareUsed SYSCTL_SPARE_EVT_NOISE_USED src ((nextSpare s).isNone && !spareTests s)).showRng
      else s.showRng
    else if srcState s src = srcRETEST then
      if s.rng.former.testBit src then
        if srcAllowed s src then (s.setF (RNG_SRC_STAT_STATE src) srcACTIVE).showRng
        else ((s.setF (RNG_SRC_STAT_STATE src) srcSPARE).selClamp src).bringIn.showRng
      else (s.setF (RNG_SRC_STAT_STATE src) srcSPARE).showRng
    else s)

/-- A failure of a health test of source `src` outside a test pattern (R325); `tst` is 0 for the RCT and 1 for the APT. -/
def State.sourceFail (s : State) (src tst : Nat) : State := s.sameCycle fun s =>
  let st := srcState s src
  let wasFresh := srcFresh s src
  let again := rf s (RNG_SRC_STAT_FAILS src) ≠ 0 && s.usec < (s.rng.firstAt.getD src 0) + failSpan
  let s := if again then s.setF (RNG_SRC_STAT_FAILS src) 2
    else (s.setF (RNG_SRC_STAT_FAILS src) 1).modRng fun r => { r with firstAt := setAt r.firstAt src s.usec }
  let s := s.dropWindow src
  let s := (s.bump RNG_HEALTH_LO RNG_HEALTH_HI RNG_EVT_SAT srcRNG).raise RNG_EVT_HEALTH_FAIL
  let outcome := if wasFresh || again then srcFAILED else srcRETEST
  let s := s.journalD 7 325 srcRNG src 0 0 [BitVec.ofNat 8 tst, BitVec.ofNat 8 outcome]
  let active := st = srcACTIVE || (st = srcRETEST && s.rng.former.testBit src)
  if wasFresh then
    let s := s.modRng fun r => { r with fresh := setBits r.fresh src 1 0 }
    (s.retireSource src (src < 2)).showRng
  else if again then (s.retireSource src active).showRng
  else if st = srcTEST then s
  else ((s.setF (RNG_SRC_STAT_STATE src) srcRETEST).modRng fun r =>
    { r with former := setBits r.former src 1 (active.toNat) }).showRng

/-- Bits of source `k` run through its health tests; a failure is R325's. Those of a source in raw-sample mode reach its buffer as well
(R323 to R325, R335). -/
def State.sourceBits (s : State) (k : Nat) (bits : List Bool) : State :=
  let (x, f) := (noiseOf s k).feed bits (taken s k)
  let s := (s.setNoise k x).rawIn k bits
  match f with
  | some t => s.sourceFail k t
  | none => s

/-- Bits of source `src` meet its health tests and fail one: in test-pattern mode the pattern of RNG_CMD_ARG stands in their place, and only
TP_TRIP is raised where it fails (R335); else R325 applies. -/
def execHealthFail (src : Nat) (bits : List Bool) (s : State) : Host.Outcome State Fault Refusal :=
  .next (if 4 ≤ src || srcState s src = srcFAILED then s
    else if srcState s src = srcTEST && s.rng.pattern then
      s.when (NoiseBits.start.feed (patternBits (rf s RNG_CMD_ARG_PATTERN)) false).2.isSome (·.raise RNG_EVT_TP_TRIP)
    else s.sourceBits src bits)

/-! ### Seeds and items -/

/-- The bits of each source since its last event run through its tests, those of start-up tests, of a test pattern and of a FAILED source
apart (R323, R335). -/
def State.noiseIn (s : State) (bits : List (List Bool)) : State :=
  s.each [0, 1, 2, 3] fun s k =>
    if srcFresh s k || srcState s k = srcRETEST || srcState s k = srcFAILED || (s.rng.test = some k && s.rng.pattern) then s
    else s.sourceBits k (bits.getD k [])

/-- The conditioner completes a seed: `bits` are those of sources 0 to 3 since the last event of each. A seed is one compression of bits of
closed passing windows; it ends a stretch, and a later one is discarded while one is buffered (R324, R327, R328, R330). -/
def execSeedReady (bits : List (List Bool)) (s : State) : Host.Outcome State Fault Refusal :=
  .next (let s := s.noiseIn bits
    if !seedFull s then s
    else
      let seed := seedOf s
      let s := s.takeSeed
      if rb s RNG_STAT_SEED_BUF then s
      else
        let s := (s.raise RNG_STAT_SEED_BUF).modRng fun r => { r with seed }
        if drbgState s = drSTRETCHED then s.doReseed else s)

/-- The DRBG instantiates from a seed and the device identity row after its known-answer tests, once that row is sensed; a failed test
leaves it STOPPED (R329, R331). -/
def execDrbgReady (kat : Bool) (s : State) : Host.Outcome State Fault Refusal :=
  .next (if drbgState s = drINIT && rb s RNG_STAT_SEED_BUF && rb s SYSCTL_SPARE_STAT_VALID then
      if kat then
        ((s.setF RNG_STAT_SEED_BUF 0).setF RNG_STAT_DRBG drREADY).modRng fun r =>
          { r with seed := [], drbg := Config.drbgInstantiate r.seed (otpBytes s 8 6) }
      else (((s.setF RNG_STAT_DRBG drSTOPPED).raise RNG_STAT_KAT_FAIL).raise RNG_EVT_ALARM).uncovered 6 0
    else s)

/-- The DRBG produces one item into the queue (R329, R332). -/
def execDrbgGenerate (s : State) : Host.Outcome State Fault Refusal := .next s.produce

/-- An internal consumer asks for an item (R332). -/
def execInternalRngRequest (s : State) : Host.Outcome State Fault Refusal :=
  .next (match s.takeItem with
    | (.ok _, s) => s.ret (.code .ok)
    | (.error c, s) => s.ret (.code c))

/-! ### Commands (R336) -/

def opFLUSH : Nat := 1
def opRESEED : Nat := 2
def opRAW_MODE : Nat := 3
def opTEST_PATTERN : Nat := 4
def opSTOP_TEST : Nat := 5

/-- The key under which the retry-after time of an RNG command is kept (R14). -/
def rngKey (op : Nat) : Nat := RNG_CMD_STAT * 256 + op

/-- The outcome of an RNG command; a refusal enters one record, and a RESEED that finds no seed is delayed by 1 ms (R336). -/
def State.rngEnd (s : State) (op : Nat) (c : Code) : State :=
  let s := (s.setF RNG_CMD_STAT_LAST_OP op).setF RNG_CMD_STAT_LAST_STATUS c.val
  if c = .ok then s
  else
    let s := s.journal 7 336 srcRNG noUnit c
    if c = .busyRetry then
      let (t, s) := s.delay (rngKey op) (some 1)
      s.ret (.retry t)
    else s

/-- RNG FLUSH. -/
def execRngFlush (s : State) : Host.Outcome State Fault Refusal := .next (s.rngFlush.rngEnd opFLUSH .ok)

/-- RNG RESEED: at the next item boundary. -/
def execReseed (s : State) : Host.Outcome State Fault Refusal :=
  .next (match firstCode [(!drbgOn s, .refusedState), (!rb s RNG_STAT_SEED_BUF || early s (rngKey opRESEED), .busyRetry)] with
    | some c => s.rngEnd opRESEED c
    | none => (s.modRng fun r => { r with asked := true }).rngEnd opRESEED .ok)

/-- The life-cycle state FACTORY. -/
def lcsFACTORY : Nat := 1

/-- A test mode may start on source `src` (R335). -/
def testOk (s : State) (src : Nat) : Bool :=
  rf s LCS_STAT_STATE = lcsFACTORY && src < 4 && srcState s src ≠ srcFAILED && s.rng.test.isNone

/-- A source enters TEST (R335). -/
def State.startTest (s : State) (src : Nat) (pattern : Bool) : State :=
  let s := s.modRng fun r =>
    { r with test := some src, pattern, raw := [], fresh := setBits r.fresh src 1 0 }
  (((s.setF (RNG_SRC_STAT_STATE src) srcTEST).setF (RNG_SRC_STAT_RAW_LOST src) 0).dropWindow src).rngFlush

/-- RNG RAW_MODE. -/
def execRawMode (src : Nat) (s : State) : Host.Outcome State Fault Refusal :=
  .next (if testOk s src then (s.startTest src false).rngEnd opRAW_MODE .ok else s.rngEnd opRAW_MODE .refusedState)

/-- RNG TEST_PATTERN. -/
def execTestPattern (src : Nat) (s : State) : Host.Outcome State Fault Refusal :=
  .next (if testOk s src then (s.startTest src true).rngEnd opTEST_PATTERN .ok else s.rngEnd opTEST_PATTERN .refusedState)

/-- RNG STOP_TEST. -/
def execStopTest (s : State) : Host.Outcome State Fault Refusal :=
  .next (if s.rng.test.isSome then s.endTest.rngEnd opSTOP_TEST .ok else s.rngEnd opSTOP_TEST .refusedState)

/-! ### Reads -/

/-- A read of RNG_DATA takes an item or returns its next word. STATUS becomes OK with the item's twelfth word, so that a run of twelve reads
over two items never ends with it; until then it is NOT_READY, the model's choice (R333, R334; log entry 162). -/
def execRngDataRead (s : State) : Host.Outcome State Fault Refusal :=
  .next (
    let w := rf s RNG_OUT_STAT_WORD
    if s.rng.flushed then
      (((s.modRng fun r => { r with flushed := false }).setF RNG_OUT_STAT_STATUS Code.notReady.val).raise
        RNG_OUT_STAT_FLUSHED).ret (.word 0)
    else
      let s := s.setF RNG_OUT_STAT_FLUSHED 0
      if w ≠ 0 then
        ((s.setF RNG_OUT_STAT_WORD (if w = 11 then 0 else w + 1)).setF RNG_OUT_STAT_STATUS (if w = 11 then 0 else Code.notReady.val)).ret
          (.word (BitVec.ofNat 32 (beNat s.rng.item >>> (32 * w))))
      else if rb s RNG_STAT_KAT_FAIL then (s.setF RNG_OUT_STAT_STATUS Code.internalFault.val).ret (.word 0)
      else
        match s.rng.queue with
        | it :: q =>
          if s.rng.queue.length ≤ fwReserve s then
            (s.setF RNG_OUT_STAT_STATUS Code.notReady.val).ret (.word 0)
          else
            ((((s.modRng fun r => { r with queue := q, item := it }).setF RNG_OUT_STAT_STATUS Code.notReady.val).setF RNG_OUT_STAT_WORD
              1).showRng).ret (.word (BitVec.ofNat 32 (beNat it)))
        | [] => (s.setF RNG_OUT_STAT_STATUS Code.notReady.val).ret (.word 0))

/-- A read of RNG_RAW: the bits `arrived` have come since the last read; a full buffer drops bits, and a read that finds fewer than
32 returns zero (R335). -/
def execRngRawRead (arrived : List Bool) (s : State) : Host.Outcome State Fault Refusal :=
  .next (match s.rng.test with
    | none => s.ret (.word 0)
    | some k =>
      if s.rng.pattern then s.ret (.word 0)
      else
        let s := s.rawIn k arrived
        let w := rngRawWord s
        if rawReady s then ((s.modRng fun r => { r with raw := r.raw.drop 32 }).setF RNG_OUT_STAT_RAW_EMPTY 0).ret (.word w)
        else (s.raise RNG_OUT_STAT_RAW_EMPTY).ret (.word 0))

end Sys2Proof.Machine
end

