-- ==== Sys2Proof/Machine/Views.lean ====
section
/-! DEFINITION. What an ordinary read of a register returns (R4): the stored fields, and the read-only fields that follow the
state of their block. -/

namespace Sys2Proof.Machine

/-- A word of one-bit values, bit j for item `j`. -/
def bitWord (n : Nat) (p : Nat → Bool) : Nat := (List.range n).foldl (fun v j => v + (p j).toNat * 2 ^ j) 0

/-- A field of a word being read takes a value. -/
def putF (w : Nat) (f : Fld) (v : Nat) : Nat := setBits w f.lo f.wid v

/-- GATE_DOMn_STAT: BLOCKED, POWERED and SEQ_ACTIVE follow the domain (R98, R107, R108). -/
def domStatView (s : State) (d w : Nat) : Nat :=
  if !domExists s d then w
  else
    let w := putF w (GATE_DOM_STAT_BLOCKED d) (blocked s d).toNat
    let w := putF w (GATE_DOM_STAT_POWERED d) (powered s d).toNat
    putF w (GATE_DOM_STAT_SEQ_ACTIVE d) (if (domX s d).seq = .idle then 0 else 1)

/-- KEYS_SLOT_INFO of the selected slot (R287, R291, R294, R296). -/
def slotInfoView (s : State) : Nat :=
  let i := rf s KEYS_SLOT_SEL_SLOT
  let x := slotOf s i
  let waits := match s.keys.cmd with | some q => q.stage = 0 && q.dst = i && rb s KEYS_STAT_PENDING | none => false
  let w := putF 0 KEYS_SLOT_INFO_LEASES (bitWord 4 (leased s i))
  let w := putF (putF w KEYS_SLOT_INFO_WLOCK x.wlock.toNat) KEYS_SLOT_INFO_PENDING waits.toNat
  let w := putF w KEYS_SLOT_INFO_COPY1_VALID (!x.isSealed && copyValid s i x.c1).toNat
  let w := putF w KEYS_SLOT_INFO_COPY0_VALID (!x.isSealed && copyValid s i x.c0).toNat
  putF w KEYS_SLOT_INFO_STATE (slotState s i)

/-- The metadata of the selected slot's winning copy; a sealed slot has none (R305). -/
def slotMetaView (s : State) : Nat := if (slotOf s (rf s KEYS_SLOT_SEL_SLOT)).isSealed then 0 else slotMd s (rf s KEYS_SLOT_SEL_SLOT)

/-- MEMINT_REMAP_STAT of the selected macro (R278). -/
def remapView (s : State) : Nat :=
  let m := rf s MEMINT_REMAP_SEL_MACRO
  if 291 < m then 0
  else
    let x := macroOf s m
    let w := putF 0 MEMINT_REMAP_STAT_LAST_ROW x.lastRow
    let w := putF w MEMINT_REMAP_STAT_COMMITTED (bitWord 4 fun k => x.used k && match x.spares[k]? with | some e => e.2 | none => false)
    let w := putF w MEMINT_REMAP_STAT_USED (bitWord 4 x.used)
    putF w MEMINT_REMAP_STAT_LEFT x.left

/-- FBUS_PART_STAT of the selected partition (R247, R250). -/
def partView (s : State) : Nat :=
  let i := rf s FBUS_PART_SEL_INDEX
  match s.fbus.map.parts[i]? with
  | none => 0
  | some p =>
    let r := partReason s i
    let w := putF (putF 0 FBUS_PART_STAT_DEVICE p.device) FBUS_PART_STAT_KIND p.kind
    let w := putF (putF w FBUS_PART_STAT_WT p.wt.toNat) FBUS_PART_STAT_REASON r
    putF w FBUS_PART_STAT_AVAILABLE (if r = 0 && rb s FBUS_STAT_DISC_DONE then 1 else 0)

/-- The highest write counter in an extent. -/
def maxCtr (s : State) (x : Ext) : Nat :=
  if !x.writable then 0
  else (s.orang.ctrs.filter fun e => x.ctrBase ≤ e.1 && e.1 < x.ctrBase + x.len / 4096).foldl (fun m e => max m e.2) 0

/-- PLANE_EXT_DATAj of the extent selected in plane `x`; an invalid extent reads as zero (R146). -/
def extView (s : State) (x j : Nat) : Nat :=
  let e := rf s (PLANE_EXT_SEL_INDEX x)
  let t := extOf s e
  if 3072 ≤ e || !t.valid then 0
  else if j = 0 then
    let w := putF (putF 0 (PLANE_EXT_DATA0_CHANNEL x) t.channel) (PLANE_EXT_DATA0_DOM x) (extDom e)
    let w := putF (putF w (PLANE_EXT_DATA0_REGION x) (extRegion e)) (PLANE_EXT_DATA0_REKEY x) (rekeying s e).toNat
    let w := putF (putF w (PLANE_EXT_DATA0_PINNED x) t.pinned.toNat) (PLANE_EXT_DATA0_WRITABLE x) t.writable.toNat
    putF w (PLANE_EXT_DATA0_VALID x) 1
  else if j = 1 then t.epoch
  else if j = 2 then t.base / 4096
  else if j = 3 then t.len / 4096
  else putF (putF 0 (PLANE_EXT_DATA4_CTR_BASE x) t.ctrBase) (PLANE_EXT_DATA4_MAX_CTR x) (maxCtr s t)

/-- SYSCTL_WDT_KICK.REMAIN_MS: whole milliseconds left, 0 while the watchdog is stopped (R60). -/
def wdtRemain (s : State) : Nat :=
  let us := match s.boot.wdtEnd with | some e => e - s.usec | none => s.boot.wdtLeft
  if rb s SYSCTL_WDT_CTL_EN then min (us / 1000) 0xFFFF else 0

/-- FBUS_UPD_SVN: the minimum of the class selected and the record words free (R377). -/
def svnView (s : State) (w : Nat) : Nat :=
  putF (putF w FBUS_UPD_SVN_FREE (otpFree s 640 256).length) FBUS_UPD_SVN_MIN (svnMin s (bitsAt w 0 8))

/-- The bytes of the event-ring entry selected; entries 11 to 15 read as zero (R408). -/
def ringView (s : State) (j : Nat) : Nat :=
  let e := rf s LODGE_EVT_SEL_ENTRY
  if 11 ≤ e then 0 else fieldAt (vaultRead s (80 + 16 * e + 4 * j) 4) 0 4

/-- ORANGERY_RV_STAT and RV_ACTIVE follow the re-verifier, idle while EN is clear or no RELEASED domain has a leaf (R172). -/
def rvNow (s : State) : Option (Nat × Nat × Nat) := if rb s ORANGERY_RV_CTRL_EN then rvAt s else none
def rvStatView (s : State) (w : Nat) : Nat :=
  match rvNow s with
  | some (d, r, _) => putF (putF w ORANGERY_RV_STAT_DOM d) ORANGERY_RV_STAT_REGION r
  | none => putF (putF w ORANGERY_RV_STAT_DOM 0xFF) ORANGERY_RV_STAT_REGION 0

/-- RNG_SRC_STAT: a source's failures count within their span of 2^30 bits (R325). -/
def srcStatView (s : State) (w : Nat) : Nat :=
  (List.range 4).foldl (fun w k =>
    if srcState s k ≠ srcFAILED && s.rng.firstAt.getD k 0 + failSpan ≤ s.usec then putF w (RNG_SRC_STAT_FAILS k) 0 else w) w

/-- The stored word `w` of the register at `a`, with the fields that follow other state in place. -/
def viewWord (s : State) (a w : Nat) : Nat :=
  if a < 0x40010000 then (if a = SYSCTL_WDT_KICK then putF w SYSCTL_WDT_KICK_REMAIN_MS (wdtRemain s) else w)
  else if a < 0x40060000 then
    (if a = RNG_DATA then (rngDataWord s).toNat else if a = RNG_SRC_STAT then srcStatView s w else if a = RNG_RAW then (rngRawWord s).toNat
     else if a = KEYS_SLOT_INFO then slotInfoView s else if a = KEYS_SLOT_META_LO then slotMetaView s % 2 ^ 32
     else if a = KEYS_SLOT_META_HI then slotMetaView s / 2 ^ 32 else w)
  else if a < 0x40070000 then
    (if a = MEMINT_REMAP_STAT then remapView s else if a = MEMINT_STAT then setBits w 12 2 3 else w)
  else if a < 0x40080000 then
    (if a = KIOSK_TAKE then (takeWord s).toNat
     else if a = KIOSK_DB_IN then rf s (TN_DB_IN_BITS (rf s KIOSK_SEL_TN))
     else if a = KIOSK_DB_OUT then rf s (TN_DB_OUT_BITS (rf s KIOSK_SEL_TN))
     else if KIOSK_PEND 0 ≤ a && a < KIOSK_PEND 16 then bitWord 32 fun j => (box s (8 * (a - KIOSK_PEND 0) + j)).phase = 1
     else if KIOSK_DBPEND 0 ≤ a && a < KIOSK_DBPEND 16 then bitWord 32 fun j => rf s (TN_DB_IN_BITS (8 * (a - KIOSK_DBPEND 0) + j)) ≠ 0
     else w)
  else if a < 0x400A0000 then (if LODGE_EVT_DATA 0 ≤ a && a < LODGE_EVT_DATA 4 then ringView s ((a - LODGE_EVT_DATA 0) / 4) else w)
  else if a < 0x400B0000 then
    (if a = GATE_REL0 then bitWord 32 (released s)
     else if a = GATE_REL1 then bitWord 16 fun j => released s (32 + j)
     else if GATE_DOM_STAT 0 ≤ a && a < GATE_DOM_STAT 48 then
      (let d := (a - GATE_DOM_STAT 0) / 8
       if a % 8 = 0 then domStatView s d w else if domExists s d then w else 0)
     else w)
  else if a < 0x40100000 then (if a = FBUS_PART_STAT then partView s else if a = FBUS_UPD_SVN then svnView s w
     else if a = ORANGERY_STAT then putF w ORANGERY_STAT_RV_ACTIVE (rvNow s).isSome.toNat
     else if a = ORANGERY_RV_STAT then rvStatView s w else w)
  else if a < 0x40200000 then
    (let x := if a < 0x40140000 then 0 else 1
     if PLANE_EXT_DATA0 x ≤ a && a ≤ PLANE_EXT_DATA4 x then extView s x ((a - PLANE_EXT_DATA0 x) / 4) else w)
  else if a < 0x40300000 then
    (let ch := (a - 0x40200000) / 0x400
     if a = CH_TR_SREG ch then (List.range 4).foldl (fun v r => setBits v (8 * r) 8 (emuReg s ch r)) w else w)
  else if a = JOURNAL_STAT then
    putF (putF w JOURNAL_STAT_FIFO s.jnl.fifo.length) JOURNAL_STAT_LOST_PEND
      (if (List.range 8).any fun c => rf s (lostFld c) ≠ 0 then 1 else 0)
  else if JOURNAL_RD_DATA 0 ≤ a && a < JOURNAL_RD_DATA 16 then (rdData s ((a - JOURNAL_RD_DATA 0) / 4)).toNat
  else w

/-- What an ordinary read of the register at `a` returns; WO fields and unassigned offsets read as zero (R4, R9). -/
def readWord (s : State) (a : Nat) : Word :=
  if (regRow a).isSome then BitVec.ofNat 32 (viewWord s a (regRead s a).toNat) else 0

end Sys2Proof.Machine
end

