-- ==== Sys2Proof/Machine/Registers.lean ====
section
/-! DEFINITION. Accesses to the Belvedere address map and the Kiosk BAR that no other command stands for (R4 to R10, R30, R267, R268),
and debug accesses (R6, R388, R390). -/

namespace Sys2Proof.Machine

/-! ### Where an access faults (R7, R9, R30) -/

/-- The Kiosk BAR of 16 KiB: 32 bytes per TN, at addresses of its own outside the Belvedere map. -/
def inBar (a : Nat) : Bool := TN_REQ 0 ≤ a && a < TN_REQ 512

/-- An access of `width` bytes raises a bus access fault: a register access other than an aligned word, a boot-ROM write, an address
outside every range. -/
def accessFault (a width : Nat) (write : Bool) : Bool :=
  if inBlocks a || inBar a then !(width = 4 && a % 4 = 0)
  else if a < bootRomSize then write || bootRomSize < a + width
  else !inTcm a width

/-- The span of a TCM access touches the execute-only range (R74). -/
def inXo (s : State) (a : Nat) : Bool := tcmBase ≤ a && a < tcmBase + xoLen s

/-- An access that TCM does not grant: into the execute-only range, or a load of a poisoned word (R74, R276). -/
def tcmFault (s : State) (a width : Nat) (write : Bool) : Bool :=
  inTcm a width && (inXo s a || (!write && tcmPoisoned s a width))

/-- BUS_ACCESS_FAULT: such an access has no effect and is answered with the fault; on PCIe it is an Unsupported Request (R7). -/
def execBusAccessFault (addr width : Nat) (write : Bool) (s : State) : Host.Outcome State Fault Refusal :=
  .next (if !asleep s && (accessFault addr width write || tcmFault s addr width write) then s.ret .busFault else s)

/-! ### Writes -/

/-- Registers whose every writable field has a command of its own in the table. -/
def ownCommand (a : Nat) : Bool :=
  a = KIOSK_DB_OUT || a = MTRANS_RX_PTR || a = MEMINT_FLIP_SEL || (List.range 32).any fun b => a = FBUS_FB_TRIM b

/-- Registers whose field values are limited, or that act on other registers. -/
def limitedRegister (a : Nat) : Bool :=
  [LCS_REQUEST, KIOSK_DB_IN, SYSCTL_WDT_CTL, SYSCTL_TEMP, RNG_CFG, RNG_RESEED, JOURNAL_CFG, ORANGERY_RV_CTRL].contains a

/-- Registers whose write executes a block's command. -/
def commandRegister (a : Nat) : Bool :=
  [KEYS_CMD, ENG_CMD 0, ENG_CMD 1, RNG_CMD, MEMINT_CMD, KIOSK_CMD, MTRANS_CMD, LODGE_CMD, GATE_CMD, LOADER_CMD, ORANGERY_CMD, FBUS_CMD,
    FBUS_UPD_CMD, JOURNAL_CMD].contains a || (List.range 96).any fun n => a = CH_TR_CMD n

/-- Registers that a write only stores in, field by field. -/
def plainRegister (a : Nat) : Bool := !ownCommand a && !limitedRegister a && !commandRegister a

/-- `lo` and `hi` bound a value. -/
def clamp (lo hi v : Nat) : Nat := min hi (max lo v)

/-- The written word with out-of-range field values as the field holds them (R60, R174, R329, R332, R425, R446); `old` is the present
word. -/
def heldWord (a old w : Nat) : Nat :=
  if a = SYSCTL_WDT_CTL then setBits w 0 16 (clamp 10 60000 (bitsAt w 0 16))
  else if a = SYSCTL_TEMP then (if bitsAt w 8 8 = 0x7E || bitsAt w 8 8 = 0x7F then setBits w 8 8 0x7D else w)
  else if a = RNG_CFG then
    (let w := setBits w 8 6 (min 32 (bitsAt w 8 6))
     if bitsAt w 4 2 = 0 || bitsAt w 4 2 = 3 then setBits w 4 2 (bitsAt old 4 2) else w)
  else if a = RNG_RESEED then (if bitsAt w 0 13 = 0 || 4096 < bitsAt w 0 13 then setBits w 0 13 4096 else w)
  else if a = JOURNAL_CFG then (if bitsAt w 0 16 = 0 || 10000 < bitsAt w 0 16 then setBits w 0 16 10000 else w)
  else if a = ORANGERY_RV_CTRL then setBits w 0 11 (min 1000 (bitsAt w 0 11))
  else w

/-- A new period takes effect on a watchdog that is running or frozen (R60). -/
def State.wdtPeriod (s : State) (old : Nat) : State :=
  let new := rf s SYSCTL_WDT_CTL_PERIOD_MS
  s.modBoot fun b =>
    { b with
      wdtEnd := b.wdtEnd.map fun e => e + 1000 * new - 1000 * old
      wdtLeft := if b.wdtLeft = 0 then 0 else max 1 (b.wdtLeft + 1000 * new - 1000 * old) }

/-- The block's outcome for a command code that its table does not have: MALFORMED (R115, R142, R175, R244, R263, R282, R305, R336,
R380, R411, R429). -/
def State.unknownOp (s : State) (a w : Nat) : State :=
  let op := bitsAt w 0 8
  let no (known : List Nat) (f : State → State) : State := if known.contains op then s else f s
  if a = KEYS_CMD then no [1, 2, 3, 4, 5, 6, 7, 8, 9, 10, 11, 14] (·.keyRefuse op noUnit .malformed none)
  else if a = ENG_CMD 0 then no [1, 14] (·.engEnd 0 (bitsAt w 8 8) .malformed 0)
  else if a = ENG_CMD 1 then no [1, 14] (·.engEnd 1 (bitsAt w 8 8) .malformed 0)
  else if a = RNG_CMD then no [1, 2, 3, 4, 5] fun s =>
    (s.setF RNG_CMD_STAT_LAST_OP op).setF RNG_CMD_STAT_LAST_STATUS Code.malformed.val
  else if a = MEMINT_CMD then no [1, 2, 3, 4, 5, 14] (·.cmdEnd memintIf op .malformed)
  else if a = KIOSK_CMD then no [1] (·.cmdEnd kioskIf op .malformed)
  else if a = MTRANS_CMD then no [1, 2] (·.cmdEnd mtIf op .malformed)
  else if a = LODGE_CMD then no [1, 2, 3, 4] (·.cmdEnd lodgeIf op .malformed)
  else if a = GATE_CMD then no [1, 2, 3, 4, 5, 15] (·.gateEnd op (bitsAt w 8 8) .malformed)
  else if a = LOADER_CMD then no [1, 2, 3, 14] fun s =>
    (((s.setF LOADER_CMD_STAT_LAST_DOM (bitsAt w 8 8)).setF LOADER_CMD_STAT_LAST_OP op).setF LOADER_CMD_STAT_LAST_STATUS
      Code.malformed.val).raise LOADER_EVT_CMD_DONE
  else if a = ORANGERY_CMD then no [1, 2, 3, 4, 5, 14] (·.cmdEnd orangeryIf op .malformed)
  else if a = FBUS_CMD then no [1, 2] (·.cmdEnd fbusIf op .malformed)
  else if a = FBUS_UPD_CMD then no [1, 2, 3, 4, 5, 6, 7, 14] (·.cmdEnd updIf op .malformed)
  else if a = JOURNAL_CMD then no [1, 2, 3, 4] (·.cmdEnd jIf op .malformed)
  else if 0x40200000 ≤ a && a < 0x40218000 then
    (let ch := (a - 0x40200000) / 0x400
     if a = CH_TR_CMD ch then no [1, 2, 3] (·.cmdEnd (trellisIf ch) op .malformed) else s)
  else s

/-- A write of a register in a block: the fields by their access codes, and what the block does with them (R4, R10, R348, R384). -/
def State.blockWrite (s : State) (a w : Nat) : State :=
  if ownCommand a then s
  else if a = LCS_REQUEST then (if [1, 2, 3, 4].contains (bitsAt w 0 3) then s else s.lcsRequest (bitsAt w 0 3) false)
  else if a = KIOSK_DB_IN then
    s.setF (TN_DB_IN_BITS (rf s KIOSK_SEL_TN)) (rf s (TN_DB_IN_BITS (rf s KIOSK_SEL_TN)) &&& (0xFFFFFFFF - w))
  else
    let old := rf s SYSCTL_WDT_CTL_PERIOD_MS
    let t := s.regWrite a (heldWord a (reg s a).toNat w)
    if a = SYSCTL_WDT_CTL then t.wdtPeriod old
    else if a = RNG_CTRL || a = RNG_CFG then t.showRng
    else if a = ORANGERY_RV_CTRL then t.rvEnable (rb s ORANGERY_RV_CTRL_EN)
    else if commandRegister a then t.unknownOp a w else t

/-- The KEYS and LODGE blocks. -/
def inKeys (a : Nat) : Bool := 0x40020000 ≤ a && a < 0x40030000
def inLodge (a : Nat) : Bool := 0x40090000 ≤ a && a < 0x400A0000

/-- REGISTER_WRITE: a write of `width` bytes by Belvedere, or of a Kiosk BAR register by a PCIe requester. TCM takes the bytes, a word
written in part keeping its poison (R267, R268); the execute-only range takes none (R74). -/
def execRegisterWrite (addr value width requester : Nat) (s : State) : Host.Outcome State Fault Refusal :=
  .next (let s := s.ret .none
    if asleep s then s
    else if accessFault addr width true then s.ret .busFault
    else if inBar addr then s.tnWrite ⟨1, 0, requester⟩ ((addr - TN_REQ 0) / 32) (addr % 32) value
    else if inTcm addr width then
      if inXo s addr then s.ret .busFault else s.tcmWrite addr (leBytes width (value % 2 ^ (8 * width)))
    else s.blockWrite addr (value % 2 ^ 32))

/-! ### Debug accesses (R6, R388, R390) -/

/-- The level in force grants a debug read of `a` (R388). -/
def dbgReads (s : State) (a : Nat) : Bool :=
  if a = DEBUG_CMD || a = DEBUG_NONCE_LO || a = DEBUG_NONCE_HI then true
  else if inTcm a 4 then dbgGrants s .tcm
  else dbgGrants s .mapRead && !inKeys a && !inLodge a

/-- DEBUG_READ: the value an ordinary read would return, with no change of state; a read that the level does not grant returns
nothing. The boot ROM's contents are not given by the spec. -/
def execDebugRead (addr : Nat) (s : State) : Host.Outcome State Fault Refusal :=
  .next (if asleep s then s
    else if inBar addr || accessFault addr 4 false then s.ret .busFault
    else if !dbgReads s addr then s.ret .none
    else if addr < bootRomSize then s.ret (.word (BitVec.ofNat 32 (fieldAt ((List.range 4).map fun i => Config.romByte (addr + i)) 0 4)))
    else if inTcm addr 4 then
      if inXo s addr || tcmPoisoned s addr 4 then s.ret .busFault
      else s.ret (.word (BitVec.ofNat 32 (fieldAt (tcmRead s addr 4) 0 4)))
    else s.ret (.word (readWord s addr)))

/-- The level in force grants a debugger's write of `a` (R388, R390). -/
def dbgWrites (s : State) (a : Nat) : Bool :=
  dbgGrants s .regWrite && !(0x40010000 ≤ a && a < 0x40030000) && a ≠ SYSCTL_BOOT_CTL && a ≠ SYSCTL_WDT_KICK

/-- DEBUG_WRITE: a debugger's write of a word, performed as the level grants and otherwise without effect; LCS_REQUEST is judged by
R384, and the watchdog is never serviced (R60, R388, R390). -/
def execDebugWrite (addr value : Nat) (s : State) : Host.Outcome State Fault Refusal :=
  .next (if asleep s then s
    else if inBar addr || accessFault addr 4 true then s.ret .busFault
    else if addr = LCS_REQUEST then s.lcsRequest (bitsAt value 0 3) true
    else if !dbgWrites s addr then s
    else if inTcm addr 4 then if inXo s addr then s.ret .busFault else s.tcmWrite addr (leBytes 4 value)
    else s.blockWrite addr (value % 2 ^ 32))

end Sys2Proof.Machine
end

