-- ==== Sys2Proof/Machine/Dispatch.lean ====
section
/-! DEFINITION. One arm per command: a direct call of its meaning. -/

namespace Sys2Proof.Machine

/-- The effect of a command on everything but the queue. -/
def exec (i : Instr) (s : State) : Host.Outcome State Fault Refusal :=
  match i with
  | .registerWrite addr value width requester => Sys2Proof.Machine.execRegisterWrite addr value width requester s
  | .debugRead addr => Sys2Proof.Machine.execDebugRead addr s
  | .busAccessFault addr width write => Sys2Proof.Machine.execBusAccessFault addr width write s
  | .mainPowerGood testen banks => Sys2Proof.Machine.execMainPowerGood testen banks s
  | .pwrgdFall => Sys2Proof.Machine.execPwrgdFall s
  | .supplyMonitorDrop supply => Sys2Proof.Machine.execSupplyMonitorDrop supply s
  | .mainPowerLoss supply => Sys2Proof.Machine.execMainPowerLoss supply s
  | .sysRstNAssert => Sys2Proof.Machine.execSysRstNAssert s
  | .sysRstNRelease testen => Sys2Proof.Machine.execSysRstNRelease testen s
  | .rstpinStuckTimeout testen => Sys2Proof.Machine.execRstpinStuckTimeout testen s
  | .pinIgnoredClear => Sys2Proof.Machine.execPinIgnoredClear s
  | .deferredDeviceReset testen => Sys2Proof.Machine.execDeferredDeviceReset testen s
  | .pllLock pll => Sys2Proof.Machine.execPllLock pll s
  | .otpSenseDone corrected unreadable => Sys2Proof.Machine.execOtpSenseDone corrected unreadable s
  | .romStart bad => Sys2Proof.Machine.execRomStart bad s
  | .copyReadDone img => Sys2Proof.Machine.execCopyReadDone img s
  | .romRecoveryImage cls manifest image => Sys2Proof.Machine.execRomRecoveryImage cls manifest image s
  | .handover => Sys2Proof.Machine.execHandover s
  | .trainingDone iface pass cap => Sys2Proof.Machine.execTrainingDone iface pass cap s
  | .assemblyEnd badLanes badFe levels => Sys2Proof.Machine.execAssemblyEnd badLanes badFe levels s
  | .ledgerReplayDone h0 h1 => Sys2Proof.Machine.execLedgerReplayDone h0 h1 s
  | .devReset word testen => Sys2Proof.Machine.execDevReset word testen s
  | .bvRestart word => Sys2Proof.Machine.execBvRestart word s
  | .wdtKick word => Sys2Proof.Machine.execWdtKick word s
  | .wdtExpiry => Sys2Proof.Machine.execWdtExpiry s
  | .failover => Sys2Proof.Machine.execFailover s
  | .referenceLost ref => Sys2Proof.Machine.execReferenceLost ref s
  | .pllUnlock pll => Sys2Proof.Machine.execPllUnlock pll s
  | .switchReq => Sys2Proof.Machine.execSwitchReq s
  | .planeIsolation plane cause => Sys2Proof.Machine.execPlaneIsolation plane cause s
  | .rebuildA word => Sys2Proof.Machine.execRebuildA word s
  | .rebuildB word => Sys2Proof.Machine.execRebuildB word s
  | .rebuildDone plane => Sys2Proof.Machine.execRebuildDone plane s
  | .retrain0 word => Sys2Proof.Machine.execRetrain0 word s
  | .retrain1 word => Sys2Proof.Machine.execRetrain1 word s
  | .bankClassChange bank cls => Sys2Proof.Machine.execBankClassChange bank cls s
  | .bankResume bank => Sys2Proof.Machine.execBankResume bank s
  | .pePerstNChange level => Sys2Proof.Machine.execPePerstNChange level s
  | .gateHold dom => Sys2Proof.Machine.execGateHold dom s
  | .gateRelease dom => Sys2Proof.Machine.execGateRelease dom s
  | .resetCycle dom => Sys2Proof.Machine.execResetCycle dom s
  | .recover dom => Sys2Proof.Machine.execRecover dom s
  | .quarantine dom => Sys2Proof.Machine.execQuarantine dom s
  | .enterLockdown dom => Sys2Proof.Machine.execEnterLockdown dom s
  | .holdStep dom => Sys2Proof.Machine.execHoldStep dom s
  | .domainPass dom => Sys2Proof.Machine.execDomainPass dom s
  | .releaseDelayExpiry dom => Sys2Proof.Machine.execReleaseDelayExpiry dom s
  | .releaseStep dom => Sys2Proof.Machine.execReleaseStep dom s
  | .pgTimeout dom => Sys2Proof.Machine.execPgTimeout dom s
  | .pclInputChange pcl level => Sys2Proof.Machine.execPclInputChange pcl level s
  | .rstPulseEnd dom => Sys2Proof.Machine.execRstPulseEnd dom s
  | .rstreqStuck pcl => Sys2Proof.Machine.execRstreqStuck pcl s
  | .rstreqIgnoredClear pcl => Sys2Proof.Machine.execRstreqIgnoredClear pcl s
  | .manifestReadDone dom bytes => Sys2Proof.Machine.execManifestReadDone dom bytes s
  | .manReady => Sys2Proof.Machine.execManReady s
  | .accept dom => Sys2Proof.Machine.execAccept dom s
  | .reject dom code => Sys2Proof.Machine.execReject dom code s
  | .reverify dom => Sys2Proof.Machine.execReverify dom s
  | .loaderAbort dom => Sys2Proof.Machine.execLoaderAbort dom s
  | .loadBurstDone b => Sys2Proof.Machine.execLoadBurstDone b s
  | .burstTimeout dom fb => Sys2Proof.Machine.execBurstTimeout dom fb s
  | .reverifyDone dom => Sys2Proof.Machine.execReverifyDone dom s
  | .stageAlloc => Sys2Proof.Machine.execStageAlloc s
  | .stageWrite handle => Sys2Proof.Machine.execStageWrite handle s
  | .stageHash handle => Sys2Proof.Machine.execStageHash handle s
  | .stageFree handle => Sys2Proof.Machine.execStageFree handle s
  | .revoke dom => Sys2Proof.Machine.execRevoke dom s
  | .orangeryAbort => Sys2Proof.Machine.execOrangeryAbort s
  | .orangeryCmdDone => Sys2Proof.Machine.execOrangeryCmdDone s
  | .refetchDone dom region leaf data reread => Sys2Proof.Machine.execRefetchDone dom region leaf data reread s
  | .lostLeafRefetch dom region leaf data reread => Sys2Proof.Machine.execLostLeafRefetch dom region leaf data reread s
  | .rekeyStart => Sys2Proof.Machine.execRekeyStart s
  | .rekeyDone => Sys2Proof.Machine.execRekeyDone s
  | .ledgerAppendDone typ ok code differ => Sys2Proof.Machine.execLedgerAppendDone typ ok code differ s
  | .ledgerSwitchRetry => Sys2Proof.Machine.execLedgerSwitchRetry s
  | .rvLeaf dom region leaf data reread badA badB => Sys2Proof.Machine.execRvLeaf dom region leaf data reread badA badB s
  | .read f => Sys2Proof.Machine.execRead f s
  | .program f => Sys2Proof.Machine.execProgram f s
  | .eraseSector f => Sys2Proof.Machine.execEraseSector f s
  | .eraseChip f => Sys2Proof.Machine.execEraseChip f s
  | .writeEnable f => Sys2Proof.Machine.execWriteEnable f s
  | .writeDisable f => Sys2Proof.Machine.execWriteDisable f s
  | .readStatus f => Sys2Proof.Machine.execReadStatus f s
  | .writeStatus f => Sys2Proof.Machine.execWriteStatus f s
  | .readId f => Sys2Proof.Machine.execReadId f s
  | .readSfdp f => Sys2Proof.Machine.execReadSfdp f s
  | .suspend f => Sys2Proof.Machine.execSuspend f s
  | .resume f => Sys2Proof.Machine.execResume f s
  | .resetEnable f => Sys2Proof.Machine.execResetEnable f s
  | .flashReset f => Sys2Proof.Machine.execFlashReset f s
  | .modeAddr4Set f => Sys2Proof.Machine.execModeAddr4Set f s
  | .modeAddr4Clear f => Sys2Proof.Machine.execModeAddr4Clear f s
  | .modeQpiSet f => Sys2Proof.Machine.execModeQpiSet f s
  | .modeQpiClear f => Sys2Proof.Machine.execModeQpiClear f s
  | .modeOctal8dSet f => Sys2Proof.Machine.execModeOctal8dSet f s
  | .modeOctal8dClear f => Sys2Proof.Machine.execModeOctal8dClear f s
  | .modeFailClear f => Sys2Proof.Machine.execModeFailClear f s
  | .invalidFrame f => Sys2Proof.Machine.execInvalidFrame f s
  | .lineLate ch plane => Sys2Proof.Machine.execLineLate ch plane s
  | .lateLineArrival ch plane dom region off bad => Sys2Proof.Machine.execLateLineArrival ch plane dom region off bad s
  | .alertPulseEnd ch => Sys2Proof.Machine.execAlertPulseEnd ch s
  | .alertClear ch word => Sys2Proof.Machine.execAlertClear ch word s
  | .wipClear ch => Sys2Proof.Machine.execWipClear ch s
  | .feTakeover ch => Sys2Proof.Machine.execFeTakeover ch s
  | .chnRstNPulse ch => Sys2Proof.Machine.execChnRstNPulse ch s
  | .espiFlashRead ch tag addr len lines decDiffer => Sys2Proof.Machine.execEspiFlashRead ch tag addr len lines decDiffer s
  | .espiFlashWrite ch tag addr data lines recheck decDiffer => Sys2Proof.Machine.execEspiFlashWrite ch tag addr data lines recheck decDiffer s
  | .espiFlashErase ch tag addr size recheck decDiffer => Sys2Proof.Machine.execEspiFlashErase ch tag addr size recheck decDiffer s
  | .espiCompletionReady ch tag => Sys2Proof.Machine.execEspiCompletionReady ch tag s
  | .getFlashC ch => Sys2Proof.Machine.execGetFlashC ch s
  | .setConfiguration ch freq io readMax alertPin flashEn oobEn => Sys2Proof.Machine.execSetConfiguration ch freq io readMax alertPin flashEn oobEn s
  | .espiProtocolError ch => Sys2Proof.Machine.execEspiProtocolError ch s
  | .espiReset ch => Sys2Proof.Machine.execEspiReset ch s
  | .load ch len => Sys2Proof.Machine.execLoad ch len s
  | .loadDone ch => Sys2Proof.Machine.execLoadDone ch s
  | .activate ch => Sys2Proof.Machine.execActivate ch s
  | .discard ch => Sys2Proof.Machine.execDiscard ch s
  | .swap ch => Sys2Proof.Machine.execSwap ch s
  | .applyMap len => Sys2Proof.Machine.execApplyMap len s
  | .discoveryDone devs => Sys2Proof.Machine.execDiscoveryDone devs s
  | .rediscover dev => Sys2Proof.Machine.execRediscover dev s
  | .trimTrack dev below above taps => Sys2Proof.Machine.execTrimTrack dev below above taps s
  | .trimWrite bus word => Sys2Proof.Machine.execTrimWrite bus word s
  | .busyPoll dev busy erasing => Sys2Proof.Machine.execBusyPoll dev busy erasing s
  | .flashOpTimeout dev addr taps => Sys2Proof.Machine.execFlashOpTimeout dev addr taps s
  | .flashOpDone dev ok addr => Sys2Proof.Machine.execFlashOpDone dev ok addr s
  | .recoveryBurstDone dom src nur fail bad badEnt => Sys2Proof.Machine.execRecoveryBurstDone dom src nur fail bad badEnt s
  | .recoveryDone dom => Sys2Proof.Machine.execRecoveryDone dom s
  | .fill cls => Sys2Proof.Machine.execFill cls s
  | .fillDone cls => Sys2Proof.Machine.execFillDone cls s
  | .markInit cls => Sys2Proof.Machine.execMarkInit cls s
  | .retireRow => Sys2Proof.Machine.execRetireRow s
  | .commitRepair => Sys2Proof.Machine.execCommitRepair s
  | .applyBounds => Sys2Proof.Machine.execApplyBounds s
  | .memintAbort cls => Sys2Proof.Machine.execMemintAbort cls s
  | .flipArm word => Sys2Proof.Machine.execFlipArm word s
  | .flipApply kind bit => Sys2Proof.Machine.execFlipApply kind bit s
  | .scrubRow cls blk row word kind bit func => Sys2Proof.Machine.execScrubRow cls blk row word kind bit func s
  | .dramScrubLine what dom region off failA failB => Sys2Proof.Machine.execDramScrubLine what dom region off failA failB s
  | .sweepEnd cls => Sys2Proof.Machine.execSweepEnd cls s
  | .scrubOverrun cls => Sys2Proof.Machine.execScrubOverrun cls s
  | .bucketLeak cls => Sys2Proof.Machine.execBucketLeak cls s
  | .generate dst => Sys2Proof.Machine.execGenerate dst s
  | .derive dst src => Sys2Proof.Machine.execDerive dst src s
  | .deriveSealed dst => Sys2Proof.Machine.execDeriveSealed dst s
  | .loadWk src engine => Sys2Proof.Machine.execLoadWk src engine s
  | .clearWk engine => Sys2Proof.Machine.execClearWk engine s
  | .erase dst => Sys2Proof.Machine.execErase dst s
  | .lockSlot dst => Sys2Proof.Machine.execLockSlot dst s
  | .certify src => Sys2Proof.Machine.execCertify src s
  | .publicKey src => Sys2Proof.Machine.execPublicKey src s
  | .deriveL2 => Sys2Proof.Machine.execDeriveL2 s
  | .ks3AutoDerive => Sys2Proof.Machine.execKs3AutoDerive s
  | .provisionVault => Sys2Proof.Machine.execProvisionVault s
  | .keysAbort => Sys2Proof.Machine.execKeysAbort s
  | .rewriteRelease => Sys2Proof.Machine.execRewriteRelease s
  | .keysCmdDone => Sys2Proof.Machine.execKeysCmdDone s
  | .engStart b e => Sys2Proof.Machine.execEngStart b e s
  | .engAbort b e => Sys2Proof.Machine.execEngAbort b e s
  | .engDone e obs => Sys2Proof.Machine.execEngDone e obs s
  | .kmEngineTake e => Sys2Proof.Machine.execKmEngineTake e s
  | .sourceStartupPass src bits => Sys2Proof.Machine.execSourceStartupPass src bits s
  | .healthFail src bits => Sys2Proof.Machine.execHealthFail src bits s
  | .seedReady bits => Sys2Proof.Machine.execSeedReady bits s
  | .drbgReady kat => Sys2Proof.Machine.execDrbgReady kat s
  | .drbgGenerate => Sys2Proof.Machine.execDrbgGenerate s
  | .rngFlush => Sys2Proof.Machine.execRngFlush s
  | .reseed => Sys2Proof.Machine.execReseed s
  | .rawMode src => Sys2Proof.Machine.execRawMode src s
  | .testPattern src => Sys2Proof.Machine.execTestPattern src s
  | .stopTest => Sys2Proof.Machine.execStopTest s
  | .rngDataRead => Sys2Proof.Machine.execRngDataRead s
  | .rngRawRead arrived => Sys2Proof.Machine.execRngRawRead arrived s
  | .internalRngRequest => Sys2Proof.Machine.execInternalRngRequest s
  | .kioskState acc tn dom arg => Sys2Proof.Machine.execKioskState acc tn dom arg s
  | .kioskHold acc tn dom arg => Sys2Proof.Machine.execKioskHold acc tn dom arg s
  | .kioskResetCycle acc tn dom arg => Sys2Proof.Machine.execKioskResetCycle acc tn dom arg s
  | .service acc tn op dom arg => Sys2Proof.Machine.execService acc tn op dom arg s
  | .replyPlace tn => Sys2Proof.Machine.execReplyPlace tn s
  | .tnRspRead acc tn => Sys2Proof.Machine.execTnRspRead acc tn s
  | .unbound acc tn write => Sys2Proof.Machine.execUnbound acc tn write s
  | .tnDbInWrite acc tn bits => Sys2Proof.Machine.execTnDbInWrite acc tn bits s
  | .kioskTakeRead => Sys2Proof.Machine.execKioskTakeRead s
  | .kioskReplyWrite word => Sys2Proof.Machine.execKioskReplyWrite word s
  | .kioskDbOutWrite bits => Sys2Proof.Machine.execKioskDbOutWrite bits s
  | .applyTbt len => Sys2Proof.Machine.execApplyTbt len s
  | .takenRequestTimeout tn => Sys2Proof.Machine.execTakenRequestTimeout tn s
  | .pendingRequestTimeout tn => Sys2Proof.Machine.execPendingRequestTimeout tn s
  | .smbusBlockWrite port tn off value pecOk => Sys2Proof.Machine.execSmbusBlockWrite port tn off value pecOk s
  | .smbusProcessCall port tn off => Sys2Proof.Machine.execSmbusProcessCall port tn off s
  | .applySettings => Sys2Proof.Machine.execApplySettings s
  | .send => Sys2Proof.Machine.execSend s
  | .mctpPacket p => Sys2Proof.Machine.execMctpPacket p s
  | .reassemblyTimeout port src tag owner => Sys2Proof.Machine.execReassemblyTimeout port src tag owner s
  | .rxSlotFree tail => Sys2Proof.Machine.execRxSlotFree tail s
  | .smbTimeout port => Sys2Proof.Machine.execSmbTimeout port s
  | .arbitrationRetry => Sys2Proof.Machine.execArbitrationRetry s
  | .setEndpointId org eid => Sys2Proof.Machine.execSetEndpointId org eid s
  | .getEndpointId org => Sys2Proof.Machine.execGetEndpointId org s
  | .getEndpointUuid org => Sys2Proof.Machine.execGetEndpointUuid org s
  | .getMctpVersionSupport org typ => Sys2Proof.Machine.execGetMctpVersionSupport org typ s
  | .getMessageTypeSupport org => Sys2Proof.Machine.execGetMessageTypeSupport org s
  | .getVendorDefinedMsgSupport org sel => Sys2Proof.Machine.execGetVendorDefinedMsgSupport org sel s
  | .prepareForEndpointDiscovery org => Sys2Proof.Machine.execPrepareForEndpointDiscovery org s
  | .endpointDiscovery org => Sys2Proof.Machine.execEndpointDiscovery org s
  | .unsupportedControlCmd org => Sys2Proof.Machine.execUnsupportedControlCmd org s
  | .vendorKiosk org tn word gen => Sys2Proof.Machine.execVendorKiosk org tn word gen s
  | .getNonce org => Sys2Proof.Machine.execGetNonce org s
  | .getOutcome org => Sys2Proof.Machine.execGetOutcome org s
  | .ownerRelease org payload => Sys2Proof.Machine.execOwnerRelease org payload s
  | .ownerProvisionVault org payload => Sys2Proof.Machine.execOwnerProvisionVault org payload s
  | .ownerEnterLockdown org payload => Sys2Proof.Machine.execOwnerEnterLockdown org payload s
  | .ownerLockSet org payload => Sys2Proof.Machine.execOwnerLockSet org payload s
  | .ownerLockClear org payload => Sys2Proof.Machine.execOwnerLockClear org payload s
  | .ownerReturnToken org payload => Sys2Proof.Machine.execOwnerReturnToken org payload s
  | .ownerScrap org payload => Sys2Proof.Machine.execOwnerScrap org payload s
  | .getVersion org brk => Sys2Proof.Machine.execGetVersion org brk s
  | .getCapabilities org version dts brk => Sys2Proof.Machine.execGetCapabilities org version dts brk s
  | .negotiateAlgorithms org brk => Sys2Proof.Machine.execNegotiateAlgorithms org brk s
  | .getDigests org brk => Sys2Proof.Machine.execGetDigests org brk s
  | .getCertificate org off len brk => Sys2Proof.Machine.execGetCertificate org off len brk s
  | .challenge org transcript brk => Sys2Proof.Machine.execChallenge org transcript brk s
  | .getMeasurements org index signed transcript brk => Sys2Proof.Machine.execGetMeasurements org index signed transcript brk s
  | .keyExchange org peer transcript brk => Sys2Proof.Machine.execKeyExchange org peer transcript brk s
  | .finish org id transcript brk => Sys2Proof.Machine.execFinish org id transcript brk s
  | .heartbeat org id brk => Sys2Proof.Machine.execHeartbeat org id brk s
  | .heartbeatExpiry id => Sys2Proof.Machine.execHeartbeatExpiry id s
  | .keyUpdate org id brk => Sys2Proof.Machine.execKeyUpdate org id brk s
  | .endSession org id brk => Sys2Proof.Machine.execEndSession org id brk s
  | .respondIfReady org brk => Sys2Proof.Machine.execRespondIfReady org brk s
  | .chunkSend org data last brk => Sys2Proof.Machine.execChunkSend org data last brk s
  | .chunkGet org brk => Sys2Proof.Machine.execChunkGet org brk s
  | .vendorDefinedRequest org data brk => Sys2Proof.Machine.execVendorDefinedRequest org data brk s
  | .spdmUnsupportedRequest org => Sys2Proof.Machine.execSpdmUnsupportedRequest org s
  | .getTid org => Sys2Proof.Machine.execGetTid org s
  | .getPldmVersion org typ => Sys2Proof.Machine.execGetPldmVersion org typ s
  | .getPldmTypes org => Sys2Proof.Machine.execGetPldmTypes org s
  | .getPldmCommands org typ => Sys2Proof.Machine.execGetPldmCommands org typ s
  | .queryDeviceIdentifiers org => Sys2Proof.Machine.execQueryDeviceIdentifiers org s
  | .getFirmwareParameters org => Sys2Proof.Machine.execGetFirmwareParameters org s
  | .requestUpdate org => Sys2Proof.Machine.execRequestUpdate org s
  | .passComponentTable org last => Sys2Proof.Machine.execPassComponentTable org last s
  | .updateComponent org comp size svn => Sys2Proof.Machine.execUpdateComponent org comp size svn s
  | .activateFirmware org => Sys2Proof.Machine.execActivateFirmware org s
  | .getStatus org => Sys2Proof.Machine.execGetStatus org s
  | .cancelUpdateComponent org => Sys2Proof.Machine.execCancelUpdateComponent org s
  | .cancelUpdate org => Sys2Proof.Machine.execCancelUpdate org s
  | .updWrite handle comp => Sys2Proof.Machine.execUpdWrite handle comp s
  | .updSettle => Sys2Proof.Machine.execUpdSettle s
  | .updJobDone units fail src => Sys2Proof.Machine.execUpdJobDone units fail src s
  | .updSwap comp h0 h1 => Sys2Proof.Machine.execUpdSwap comp h0 h1 s
  | .updActivateBv => Sys2Proof.Machine.execUpdActivateBv s
  | .pauseExpiry => Sys2Proof.Machine.execPauseExpiry s
  | .commitSvn cls => Sys2Proof.Machine.execCommitSvn cls s
  | .updResume => Sys2Proof.Machine.execUpdResume s
  | .updOwnerLock => Sys2Proof.Machine.execUpdOwnerLock s
  | .updAbort => Sys2Proof.Machine.execUpdAbort s
  | .lcsToFactory debugger => Sys2Proof.Machine.execLcsToFactory debugger s
  | .lcsToOwned debugger => Sys2Proof.Machine.execLcsToOwned debugger s
  | .lcsToReturned debugger => Sys2Proof.Machine.execLcsToReturned debugger s
  | .lcsToScrap debugger => Sys2Proof.Machine.execLcsToScrap debugger s
  | .lcsProgrammed => Sys2Proof.Machine.execLcsProgrammed s
  | .lcsArm word => Sys2Proof.Machine.execLcsArm word s
  | .armedExpiry => Sys2Proof.Machine.execArmedExpiry s
  | .scrapWipeDone testen => Sys2Proof.Machine.execScrapWipeDone testen s
  | .tokenLoad token => Sys2Proof.Machine.execTokenLoad token s
  | .nonceReq debugger => Sys2Proof.Machine.execNonceReq debugger s
  | .tokenClear debugger => Sys2Proof.Machine.execTokenClear debugger s
  | .haltReq debugger => Sys2Proof.Machine.execHaltReq debugger s
  | .halt => Sys2Proof.Machine.execHalt s
  | .debugWrite addr value => Sys2Proof.Machine.execDebugWrite addr value s
  | .scanEntry => Sys2Proof.Machine.execScanEntry s
  | .scanExit testen => Sys2Proof.Machine.execScanExit testen s
  | .railToVbat => Sys2Proof.Machine.execRailToVbat s
  | .railToVddAon => Sys2Proof.Machine.execRailToVddAon s
  | .meshBurst one both reads glitch => Sys2Proof.Machine.execMeshBurst one both reads glitch s
  | .sensorSample temps mvs => Sys2Proof.Machine.execSensorSample temps mvs s
  | .applyRules len => Sys2Proof.Machine.execApplyRules len s
  | .setRtc => Sys2Proof.Machine.execSetRtc s
  | .evtAck n => Sys2Proof.Machine.execEvtAck n s
  | .clearFired r => Sys2Proof.Machine.execClearFired r s
  | .journalStart => Sys2Proof.Machine.execJournalStart s
  | .journalFlush => Sys2Proof.Machine.execJournalFlush s
  | .journalWrite => Sys2Proof.Machine.execJournalWrite s
  | .journalVerify count => Sys2Proof.Machine.execJournalVerify count s
  | .journalDrain => Sys2Proof.Machine.execJournalDrain s
  | .logFlush written count ok => Sys2Proof.Machine.execLogFlush written count ok s
  | .tempSample temps => Sys2Proof.Machine.execTempSample temps s
  | .belvedereResume => Sys2Proof.Machine.execBelvedereResume s
  | .pcieLinkChange up gen width => Sys2Proof.Machine.execPcieLinkChange up gen width s
  | .rekeyBlockPassed => Sys2Proof.Machine.execRekeyBlockPassed s
  | .commitRepairDone bad => Sys2Proof.Machine.execCommitRepairDone bad s
  | .commitSvnDone bad => Sys2Proof.Machine.execCommitSvnDone bad s
  | .rediscoverDone obs => Sys2Proof.Machine.execRediscoverDone obs s
  | .journalVerifyDone => Sys2Proof.Machine.execJournalVerifyDone s
  | .sendDone ok => Sys2Proof.Machine.execSendDone ok s
  | .vbatBrownout mv => Sys2Proof.Machine.execVbatBrownout mv s
  | .vbatBrownoutEnd => Sys2Proof.Machine.execVbatBrownoutEnd s

end Sys2Proof.Machine
end

