-- ==== Sys2Proof/Machine/Step.lean ====
section
/-! DEFINITION. One step: the command at the front of the queue runs on the state with the queue's rest; with no command waiting,
one microsecond passes. -/

namespace Sys2Proof.Machine

/-- One microsecond passes: the time since the end of the device reset, and the real-time clock of the Lodge (R409, R422). -/
def State.tick (s : State) : State := { s with usec := s.usec + 1 }.rtcStep

/-- The command at the front of the queue, or the tick of an empty queue. -/
def step (s : State) : Host.Outcome State Fault Refusal :=
  match s.pending with
  | [] => .next s.tick
  | c :: rest => exec c { s with pending := rest }

/-- The command that a word spells goes to the front of the queue; where the word spells none, nothing changes. -/
def State.withFetchWord (s : State) (nbits w : Nat) : State :=
  match Sys2Proof.decodeTableWord nbits w with
  | some c => { s with pending := c :: s.pending }
  | none => s

end Sys2Proof.Machine
end

