-- ==== Sys2Proof/Machine/Balls.lean ====
section
/-! DEFINITION. The balls (R40 to R57): what the HX96 shows on each between commands, as a view of the state that decides it: the supplies
and bank classes, the stage of the start, the sections applied, training and the domains. Within a command a bus moves as its protocol
has it, and drives a chip select low only to address the device behind it. -/

namespace Sys2Proof.Machine

/-- What the HX96 does at a ball. -/
inductive Level where
  | highZ         -- high-impedance, no internal pull
  | low           -- driven low
  | high          -- driven high
  | weakLow       -- receiver off, internal weak pull-down
  | weakHigh      -- receiver on, internal weak pull-up
  | keeper        -- the I3C high-keeper
  | input         -- receiver on, no internal pull
  | active        -- driven and sampled as its protocol has it
  deriving DecidableEq, Repr

/-- The supply of bank `i` and VDD are present (R54). DESIGN CHOICE (log entry 158): a supply out of range, or at 3.3 V where the bank does not
permit it, is present, so that the balls take the levels they have in reset. -/
def bankUp (s : State) (i : Nat) : Bool :=
  s.boot.supplies.testBit 0 && bankClass s i ≠ 0 && (i ≠ bankSYB || s.boot.supplies.testBit 2)

/-- The bank keeps its reset state because its class does not match (R56); a floated bank that matches its declaration's class bit is
suspended (R57). -/
def bankMismatched (s : State) (i : Nat) : Bool := bankFloated s i && mapBit s SYSCTL_BANK_ERR_MISMATCH i
def bankSuspended (s : State) (i : Nat) : Bool := bankFloated s i && !mapBit s SYSCTL_BANK_ERR_MISMATCH i

/-! ### F-buses and the root configuration flash (R41, R42, R55) -/

/-- The balls of a flash bus: chip selects, clock, RESET#, and data with its strobe. -/
structure FlashBalls where
  cs : List Level
  sck : Level
  rstN : Level
  data : Level
  deriving DecidableEq, Repr

/-- Every ball of a bus of `n` chip selects at one level. -/
def FlashBalls.all (n : Nat) (l : Level) : FlashBalls := ⟨List.replicate n l, l, l, l⟩

/-- Deselected and in reset: chip selects high, clock low, reset low (R41). -/
def FlashBalls.reset (n : Nat) : FlashBalls := ⟨List.replicate n .high, .low, .low, .highZ⟩

/-- Idle: chip selects high, unused ones too, and RESET# released (R41, R55). -/
def FlashBalls.idle (n : Nat) : FlashBalls := ⟨List.replicate n .high, .low, .high, .highZ⟩

/-- The balls of F-bus `b`. -/
def fbBalls (s : State) (b : Nat) : FlashBalls :=
  let i := bankOfFb b
  if !bankUp s i || bankSuspended s i then .all 4 .highZ
  else if bankMismatched s i || !rb s FBUS_STAT_MAP_APPLIED then .reset 4
  else match s.fbus.map.buses[b]? with
    | some e => if e.used then .idle 4 else .all 4 .weakLow
    | none => .all 4 .weakLow

/-- The balls of the root configuration flash, CFG_CS0_N for copy A and CFG_CS1_N for copy B. -/
def cfgBalls (s : State) : FlashBalls :=
  if !bankUp s bankSYB || bankSuspended s bankSYB then .all 2 .highZ
  else if bankMismatched s bankSYB then .reset 2
  else if s.boot.cfgBus then .idle 2
  else .reset 2

/-! ### LPDDR5X and PCIe (R45, R46) -/

/-- The balls of one LPDDR5X interface: LPn_RESET_N; clocks, CA and CS; data, mask, strobe and WCK. -/
structure LpBalls where
  rstN : Level
  cmd : Level
  data : Level
  deriving DecidableEq, Repr

/-- The balls of interface `n`. DESIGN CHOICE (log entry 152): VDDQn, which no command shows, is valid when VDD is. -/
def lpBalls (s : State) (n : Nat) : LpBalls :=
  if !s.boot.supplies.testBit 0 then ⟨.highZ, .highZ, .highZ⟩
  else if s.boot.training.testBit n || rf s (if n = 0 then SYSCTL_TRAIN_STAT_IF0_RESULT else SYSCTL_TRAIN_STAT_IF1_RESULT) = 1 then
    ⟨.high, .active, .active⟩
  else ⟨.low, .low, .highZ⟩

/-- The settings in force leave the PCIe endpoint unused (R55). -/
def pcieUnused (s : State) : Bool := match s.mtrans.settings with | some st => !st.pcieEn | none => false

/-- PE_CLKREQ_N: released until Belvedere enables the endpoint; pulled low where the endpoint is unused. -/
def clkreqBall (s : State) : Level :=
  if !bankUp s bankSYB || bankFloated s bankSYB then .highZ
  else if pcieUnused s then .weakLow
  else if rb s MTRANS_STAT_PCIE_EN then .low else .highZ

/-- PE_PERST_N, and PE_REFCLK and PE_RX, whose receivers are off where the endpoint is unused (R54, R55). -/
def pcieInput (s : State) : Level :=
  if !bankUp s bankSYB || bankSuspended s bankSYB then .highZ else if pcieUnused s then .weakLow else .input

/-- The PCIe transmitters are in electrical idle: PE_PERST_N low, or the endpoint not enabled. -/
def pcieIdle (s : State) : Bool := !rb s SYSCTL_PIN_STAT_PERST_LVL || !rb s MTRANS_STAT_PCIE_EN

/-! ### Management ports and system signals (R47, R50, R55) -/

/-- Each ball of I3Ck: high-impedance until the port is configured, which ROM recovery does for I3C0 alone (R70); a controller port supplies the
high-keeper, any other leaves the bus to its external pull-ups, and an unused port is pulled low. -/
def i3cBall (s : State) (k : Nat) : Level :=
  if !bankUp s bankMGB || bankFloated s bankMGB then .highZ
  else match s.mtrans.settings with
    | none => .highZ
    | some st => match st.ports[k]? with
      | some p => if p.role = 0 then (if recovery s then .highZ else .weakLow) else if p.role = 2 then .keeper else .highZ
      | none => .highZ

/-- HX_FAULT_N, open-drain. -/
def faultBall (s : State) : Level :=
  if bankUp s bankSYB && !bankFloated s bankSYB && rb s SYSCTL_PIN_STAT_FAULT_OUT then .low else .highZ

/-- The system inputs, each with the pull of R50's table: REFCLK_A, REFCLK_B, SYS_RST_N, SYS_PWRGD, TESTEN, JTAG_TCK, JTAG_TMS, JTAG_TDI and
JTAG_TRST_N; REFCLK_B is unused while REF_B_EN is 0 (R54, R55). -/
def sysInputs (s : State) : List Level :=
  if !bankUp s bankSYB then List.replicate 9 .highZ
  else [.input, if rb s SYSCTL_CLKSEL_REF_B_EN then .input else .weakLow, .weakHigh, .weakLow, .weakLow, .weakLow, .weakHigh, .weakHigh, .weakLow]

/-- JTAG_TDO is driven only while the TAP shifts. -/
def tdoBall (_ : State) : Level := .highZ

/-! ### Channel ports and platform control lines (R40, R43, R55) -/

/-- The balls of a channel port: the inputs SCK, CS# and RESET#; the data lines, inputs between frames, of which DQ1 carries an eSPI alert
on IO1 (R208); the strobe; the alert (R38). -/
structure ChanBalls where
  inputs : Level
  data : Level
  dqs : Level
  alert : Level
  deriving DecidableEq, Repr

/-- The configuration leaves channel `ch` unused (R55, R215). -/
def chanUnused (s : State) (ch : Nat) : Bool := s.gate.applied && !chanUsed s.boot.cfg.progs s.boot.cfg.banks ch

/-- The balls of channel `ch` between frames: every output is high-impedance, CHn_ALERT_N but for an alert driven while the domain is
RELEASED; an unused channel's receivers are off and its balls pulled low (R40, R54 to R57). -/
def chanBalls (s : State) (ch : Nat) : ChanBalls :=
  let i := bankOfChan ch
  if !bankUp s i || bankSuspended s i then ⟨.highZ, .highZ, .highZ, .highZ⟩
  else if chanUnused s ch then ⟨.weakLow, .weakLow, .weakLow, .weakLow⟩
  else
    let alert := !bankFloated s i && rb s (CH_PORT_STAT_ENABLED ch) && rb s (CH_PORT_STAT_ALERT_OUT ch)
    let io1 := portLive s ch && (chanOf s ch).io1
    ⟨.input, if io1 then .low else .highZ, .highZ, if alert then .low else .highZ⟩

/-- PCLk: high-impedance until the map is applied; an output as its line is driven, an unused line pulled low. -/
def pclBall (s : State) (k : Nat) : Level :=
  if !bankUp s (bankOfPcl k) then .highZ
  else match pclOf s k with
    | none => .highZ
    | some p =>
      if p.output then
        if !rb s (GATE_PCL_STAT_DRIVEN k) then .highZ else if rb s (GATE_PCL_STAT_LEVEL k) then .high else .low
      else if p.input || bankFloated s (bankOfPcl k) then .highZ
      else .weakLow

/-! ### The TAP (R51) -/

/-- The instructions that the TAP offers: at L0 three alone (R51); the access of L1 and L2 and, at L3, scan and the memory built-in
self-test (R388). -/
def tapOffers (s : State) : List TapInstr :=
  [.bypass, .idcode, .tokenLoad] ++ (if dbgGrants s .mapRead then [.access] else [])
    ++ (if dbgGrants s .scan then [.scan] else []) ++ (if dbgGrants s .memBist then [.memBist] else [])

/-- The IDCODE register: die major revision, part number, the vendor's JEDEC code, 1. -/
def tapIdcode (s : State) : Word :=
  BitVec.ofNat 32 (rf s SYSCTL_ID_DIE_MAJOR * 2 ^ 28 + 0x0960 * 2 ^ 12 + Config.jedecCode.toNat * 2 + 1)

/-- What the register of the TAP's instruction captures: BYPASS one zero bit, IDCODE its word, TOKEN_LOAD the length held.
DESIGN CHOICE (log entry 158): R51 names what the data register of TOKEN_LOAD carries, not what it captures. -/
def tapCapture (s : State) : Nat :=
  match s.lcs.tap with
  | .bypass => 0
  | .idcode => (tapIdcode s).toNat
  | .tokenLoad => rf s DEBUG_STAT_TOKEN_LEN
  | .access => (Config.tapRegister 0).toNat
  | .scan => (Config.tapRegister 1).toNat
  | .memBist => (Config.tapRegister 2).toNat

end Sys2Proof.Machine
end

