-- ==== Sys2Proof/Machine/Dram.lean ====
section
/-! DEFINITION. What the two LPDDR5X interfaces hold: the areas of each (R144), the place of a line's MAC (R145), the ciphertext of a line
(R148) and its MAC (R149), as views of State. State keeps each line of the active shadow as plaintext beside the freshness (EPOCH, CTR) under
which it was written; DEDUCED (log entry 156): a line passes its check where that freshness is the one required of it, which is when the MAC
stored for it is the MAC computed under the required freshness, but for a collision of AES-CMAC. -/

namespace Sys2Proof.Machine

/-! ### The areas of an interface (R144) -/

/-- The areas into which an interface is divided. -/
inductive Area where
  | shadow | staging | nodeStore | ledgerTable | overflow | metadata
  deriving DecidableEq, Repr

/-- Base of an area, with 32 GiB parts or with 16 GiB parts. -/
def areaBase (big : Bool) : Area → Nat
  | .shadow => 0
  | .staging => if big then 0x600000000 else 0x300000000
  | .nodeStore => if big then 0x700000000 else 0x380000000
  | .ledgerTable => if big then 0x719000000 else 0x38C800000
  | .overflow => if big then 0x71A000000 else 0x38D000000
  | .metadata => if big then 0x71C000000 else 0x38E000000

/-- Last address of an area. -/
def areaLimit (big : Bool) : Area → Nat
  | .shadow => if big then 0x5FFFFFFFF else 0x2FFFFFFFF
  | .staging => if big then 0x6FFFFFFFF else 0x37FFFFFFF
  | .nodeStore => if big then 0x718FFFFFF else 0x38C7FFFFF
  | .ledgerTable => if big then 0x719FFFFFF else 0x38CFFFFFF
  | .overflow => if big then 0x71BFFFFFF else 0x38DFFFFFF
  | .metadata => if big then 0x7FFFFFFFF else 0x3FFFFFFFF

/-- Every area in ascending order of address. -/
def areas : List Area := [.shadow, .staging, .nodeStore, .ledgerTable, .overflow, .metadata]

/-- The area that holds an address. -/
def areaAt (big : Bool) (a : Nat) : Option Area := areas.find? fun r => areaBase big r ≤ a && a ≤ areaLimit big r

/-- First address of the metadata that is never read or written (R145). -/
def metaUnused (big : Bool) : Nat := if big then 0x7FF800000 else 0x3FFC00000

/-- The address of the 8-byte MAC of the line at address `a`, a multiple of 64 below the metadata (R145). -/
def macAddr (big : Bool) (a : Nat) : Option Nat :=
  if a % 64 = 0 && a < areaBase big .metadata then some (areaBase big .metadata + a / 8) else none

/-! ### Ciphertext and MAC of a line (R148, R149) -/

/-- The tweak of line index `la` under an epoch: LA + 2^64 × EPOCH, 16 bytes, least significant first. -/
def xtsTweak (la epoch : Nat) : List Byte := leBytes 16 (la + 2 ^ 64 * epoch)

/-- The ciphertext of a 64-byte line under K1 and K2. -/
def lineCipher (s : State) (la epoch : Nat) (plain : List Byte) : List Byte :=
  Config.xtsAes (s.orang.keys.getD 0 []) (s.orang.keys.getD 1 []) (xtsTweak la epoch) plain

/-- The message whose AES-CMAC is a line's MAC: ciphertext, LA, EPOCH, CTR, two zero bytes. -/
def macMessage (cipher : List Byte) (la : Nat) (t : Tag) : List Byte :=
  cipher ++ leBytes 8 la ++ leBytes 4 t.epoch ++ leBytes 2 t.ctr ++ [0, 0]

/-- The 8-byte MAC of a line under KM. -/
def lineMac (s : State) (cipher : List Byte) (la : Nat) (t : Tag) : List Byte :=
  (beBytes 16 (Config.aesCmac (s.orang.keys.getD 2 []) (macMessage cipher la t)).toNat).take 8

/-- The freshness under which plane `x` holds line `la` of the active shadow. -/
def heldTag (s : State) (x la : Nat) : Tag := Sparse.get noTag (planeOf s x).tags la

/-- The plaintext of line `la` of the active shadow in plane `x`. -/
def linePlain (s : State) (x la : Nat) : List Byte :=
  (List.range 64).map fun i => Sparse.get dramFill (planeOf s x).mem (64 * la + i)

/-- The ciphertext that plane `x` holds for line `la` of the active shadow. -/
def shadowCipher (s : State) (x la : Nat) : List Byte := lineCipher s la (heldTag s x la).epoch (linePlain s x la)

/-- The MAC that plane `x` holds for line `la` of the active shadow. -/
def shadowMac (s : State) (x la : Nat) : List Byte := lineMac s (shadowCipher s x la) la (heldTag s x la)

/-- The MAC that the check computes over the ciphertext held for the line of byte `off` of extent `e`, under the freshness required of it
now (R149, R150, R154). -/
def checkMac (s : State) (x e off : Nat) : List Byte :=
  let la := ((extOf s e).base + off) / 64
  lineMac s (shadowCipher s x la) la (freshTag s e (off / 4096))

/-! ### The ledger table (R149, R167) -/

/-- The epoch of the ledger table (R151). -/
def ledgerEpoch : Nat := 2

/-- The line index of line `i` of the slot entry of counter slot `slot`. -/
def tableLine (s : State) (slot i : Nat) : Nat := (areaBase (cap32 s) .ledgerTable + 128 * slot) / 64 + i

/-- The 128 bytes of an entry. -/
def tableBytes (y : LEnt) : List Byte := Config.tableEntry [y.dom, y.region, y.leaf, y.seq, y.opn.toNat] (y.mroot ++ y.old ++ y.new)

/-- The ciphertext and the MAC of line `i`, 0 or 1, of the slot entry of `slot`, written under the ledger epoch with the entry's counter. -/
def tableCipher (s : State) (slot i : Nat) (y : LEnt) : List Byte :=
  lineCipher s (tableLine s slot i) ledgerEpoch (((tableBytes y).drop (64 * i)).take 64)

def tableMac (s : State) (slot i : Nat) (y : LEnt) : List Byte :=
  lineMac s (tableCipher s slot i y) (tableLine s slot i) ⟨ledgerEpoch, y.ctr⟩

/-- A slot entry passes its check: its lines were written with the slot's present write counter. -/
def tableFresh (s : State) (slot : Nat) : Bool :=
  match ltabOf s slot with | some y => y.ctr = ctrOf s slot | none => true

/-! ### The bytes of an interface -/

/-- The epoch of the journal overflow (R151). -/
def overflowEpoch : Nat := 1

/-- The plaintext that plane `x` holds for line `la` below the metadata and the freshness under which it was written: a line of the active
shadow, a slot or retained entry of the ledger table, a staged line, a line of the node store under its manifest's tree epoch, a record of the
journal overflow (R149, R151). None where nothing has been written; where spec/ gives no place inside an area, the place is free
(log entry 156). -/
def areaLine (s : State) (x la : Nat) : Option (List Byte × Tag) :=
  let big := cap32 s
  match areaAt big (64 * la) with
  | some .shadow => if heldTag s x la = ⟨0, 0⟩ then none else some (linePlain s x la, heldTag s x la)
  | some .ledgerTable =>
    let k := la - areaBase big .ledgerTable / 64
    let part (y : LEnt) (ctr : Nat) : List Byte × Tag := (((tableBytes y).drop (64 * (k % 2))).take 64, ⟨ledgerEpoch, ctr⟩)
    if k / 2 < slotMax s then (ltabOf s (k / 2)).map fun y => part y y.ctr
    else ((Config.retainedPlace s.orang.lret.length (k / 2 - slotMax s)).bind fun i => s.orang.lret[i]?).map fun y => part y 0
  | some .staging =>
    let k := la - areaBase big .staging / 64
    let objs := s.orang.stage.filterMap fun p => p.2.map fun o => (p.1, o.mib)
    (Config.stagePlace objs (k / 16384)).bind fun (h, u) => (stageOf s h).bind fun o =>
      let bs := stageBytes o (1048576 * u + 64 * (k % 16384)) 64
      if bs.all (· == 0xFF) then none else some (bs, ⟨o.epoch, 0⟩)
  | some .nodeStore =>
    (Config.nodeLine s.orang.nodes (la - areaBase big .nodeStore / 64)).map fun (e, bs) => (bs, ⟨(extOf s e).tree, 0⟩)
  | some .overflow =>
    let seqs := (s.jnl.held.filter fun e => !e.2.inRing).map (·.1)
    (Config.overflowPlace seqs (la - areaBase big .overflow / 64)).map fun q => (recBytes s q, ⟨overflowEpoch, 0⟩)
  | _ => none

/-- The byte that plane `x`'s interface holds at address `a`: of the ciphertext of a line, or of its MAC; none where no line has been written
or the address is never read or written (R145, R148, R149). -/
def dramByte (s : State) (x a : Nat) : Option Byte :=
  let big := cap32 s
  let cipher (la : Nat) : Option (List Byte × Tag) := (areaLine s x la).map fun p => (lineCipher s la p.2.epoch p.1, p.2)
  match areaAt big a with
  | some .metadata =>
    if metaUnused big ≤ a then none
    else
      let k := a - areaBase big .metadata
      (cipher (k / 8)).bind fun p => (lineMac s p.1 (k / 8) p.2)[k % 8]?
  | some _ => (cipher (a / 64)).bind fun p => p.1[a % 64]?
  | none => none

end Sys2Proof.Machine
end

