-- ==== Sys2Proof/Safety.lean ====
section
/-! DEFINITION. What claims about runs of the HX96 are stated in: canonical tables, bits of OTP that stay programmed, and a step
that completes. -/

namespace Sys2Proof.Machine

/-- TCM, the register table and the vault are in their canonical form, so that equal contents are equal data. -/
def State.tablesWf (s : State) : Bool :=
  Sparse.wf resetWord s.regs && Sparse.wf tcmFill s.tcm && Sparse.wf vaultFill s.lodge.vault

/-- Every bit of `bits` is programmed in OTP word `w`. -/
def programmed (w : Nat) (bits : BitVec 64) (s : State) : Prop := otpRaw s w &&& bits = bits

/-- The command runs to a next state that satisfies `p`. -/
def completes (c : Instr) (s : State) (p : State → Prop) : Prop := ∃ t, exec c s = .next t ∧ p t

/-- Nothing outside the command queue tells the two states apart. -/
def sameButQueue (s t : State) : Prop := { s with pending := [] } = { t with pending := [] }

/-- Registers of the blocks of which a device reset keeps nothing: all but SYSCTL, the Lodge and DEBUG (R58, R83, R392). -/
def resetClears (a : Nat) : Bool :=
  0x40010000 ≤ a && a < 0x40400000 && !(0x40090000 ≤ a && a < 0x400A0000)

/-- `t` is what a device reset leaves of `s`: the vault, the queue and the way out are kept; TCM, the working state of every block and
their registers are at their reset values (R58). -/
def afterReset (s t : State) : Prop :=
  t.pending = s.pending ∧ t.lodge.vault = s.lodge.vault ∧ t.lodge.rules = s.lodge.rules ∧ t.tcm = [] ∧ t.keys = State.reset.keys
    ∧ t.eng = [] ∧ t.chans = [] ∧ t.orang = State.reset.orang ∧ t.kiosk = State.reset.kiosk ∧ t.mtrans = State.reset.mtrans
    ∧ t.gate = State.reset.gate ∧ t.ldr = State.reset.ldr ∧ t.fbus = State.reset.fbus ∧ t.jnl = State.reset.jnl ∧ t.upd = State.reset.upd
    ∧ t.rng = State.reset.rng ∧ t.mem = State.reset.mem ∧ ∀ a, resetClears a = true → reg t a = resetWord a

/-- The frame decodes as `d` to class `cls` and is not ignored while the port is busy (R197, R218, R219). -/
def executes (s : State) (f : Frame) (cls : Nat) (d : Dec) : Prop :=
  frameDecode s f = some d ∧ d.cls = cls ∧ busyIgnores s f.ch cls d.row = false

/-- A complete frame of a class whose action is EMULATE, on which the planes' sequencers agree (R231, R235). -/
def emulated (s : State) (f : Frame) (cls : Nat) (d : Dec) : Prop :=
  executes s f cls d ∧ complete f = true ∧ f.decDiffer = false ∧ d.p.globalAct cls % 8 = acEMULATE

/-- The state in which an executed frame is decided: any frame disarms RESET_ENABLE (R239). -/
def atFrame (s : State) (f : Frame) : State := (s.ret .none).modChan f.ch fun c => { c with rstArmed := false }

/-- Outside the addresses from `lo` to `hi` and outside the journal's block, every register holds what it held. -/
def regsOutside (lo hi : Nat) (s t : State) : Prop :=
  ∀ a, a < lo ∨ hi ≤ a → a < 0x40300000 ∨ 0x40310000 ≤ a → reg t a = reg s a

/-- The window of a channel port is all that changed among the registers outside the journal. -/
def onlyPort (ch : Nat) (s t : State) : Prop := regsOutside (0x40200000 + 0x400 * ch) (0x40200400 + 0x400 * ch) s t

end Sys2Proof.Machine
end

