-- ==== Sys2Proof/WellFormed.lean ====
section
/-! DEFINITION. Well-formed commands: every operand fits the field, the instance number or the access that carries it. A meaning is
total and does not rest on this; a statement that ranges over what an interface can carry does. -/

namespace Sys2Proof

/-- An access of 1, 2, 4 or 8 bytes. -/
def accessWidth (w : Nat) : Bool := w = 1 || w = 2 || w = 4 || w = 8

/-- An address of the Belvedere map, or of the Kiosk BAR, which stands at 2 ^ 32 and above. -/
def mapAddr (a : Nat) : Bool := decide (a < 0x100004000)

/-- TRANSPORT 1 to 4, a port byte and a 16-bit source (R338). -/
def Access.wf (a : Access) : Bool := decide (1 ≤ a.transport) && decide (a.transport ≤ 4) && decide (a.port < 256) && decide (a.source < 65536)

/-- A transport of R354 and an EID. -/
def Origin.wf (o : Origin) : Bool := decide (o.port < 10) && decide (o.eid < 256)

/-- The fields of an MCTP packet header (R349). -/
def Packet.wf (p : Packet) : Bool :=
  decide (p.port < 10) && decide (p.ch < 256) && decide (p.dest < 256) && decide (p.src < 256) && decide (p.tag < 8) && decide (p.seq < 4)

/-- A frame of one of the 96 channels: an opcode byte, an address of at most 32 bits, CS# rising in one of three phases (R181). -/
def Frame.wf (f : Frame) : Bool :=
  decide (f.ch < 96) && (match f.opcode with | some o => decide (o < 256) | none => true) && decide (f.addr < 0x100000000) && decide (f.modeBits < 256)
    && decide (f.phase < 3)

/-- The command is one that its interface can carry. -/
def Instr.wellFormed : Instr → Bool
  | .registerWrite addr value width requester => mapAddr addr && decide (value < 0x100000000) && accessWidth width && decide (requester < 65536)
  | .debugRead addr => mapAddr addr
  | .busAccessFault addr width _ => mapAddr addr && accessWidth width
  | .mainPowerGood _ _ => true
  | .pwrgdFall => true
  | .supplyMonitorDrop supply => decide (supply < 3)
  | .mainPowerLoss supply => decide (supply < 3)
  | .sysRstNAssert => true
  | .sysRstNRelease _ => true
  | .rstpinStuckTimeout _ => true
  | .pinIgnoredClear => true
  | .deferredDeviceReset _ => true
  | .pllLock pll => decide (pll < 2)
  | .otpSenseDone _ _ => true
  | .romStart _ => true
  | .copyReadDone _ => true
  | .romRecoveryImage cls _ _ => decide (cls < 256)
  | .handover => true
  | .trainingDone iface _ _ => decide (iface < 2)
  | .assemblyEnd _ _ _ => true
  | .ledgerReplayDone _ _ => true
  | .devReset word _ => decide (word < 0x100000000)
  | .bvRestart word => decide (word < 0x100000000)
  | .wdtKick word => decide (word < 0x100000000)
  | .wdtExpiry => true
  | .failover => true
  | .referenceLost ref => decide (ref < 2)
  | .pllUnlock pll => decide (pll < 2)
  | .switchReq => true
  | .planeIsolation plane _ => decide (plane < 2)
  | .rebuildA word => decide (word < 0x100000000)
  | .rebuildB word => decide (word < 0x100000000)
  | .rebuildDone plane => decide (plane < 2)
  | .retrain0 word => decide (word < 0x100000000)
  | .retrain1 word => decide (word < 0x100000000)
  | .bankClassChange bank cls => decide (bank < 24) && decide (cls < 256)
  | .bankResume bank => decide (bank < 24)
  | .pePerstNChange _ => true
  | .gateHold dom => decide (dom < 256)
  | .gateRelease dom => decide (dom < 256)
  | .resetCycle dom => decide (dom < 256)
  | .recover dom => decide (dom < 256)
  | .quarantine dom => decide (dom < 256)
  | .enterLockdown dom => decide (dom < 256)
  | .holdStep dom => decide (dom < 256)
  | .domainPass dom => decide (dom < 256)
  | .releaseDelayExpiry dom => decide (dom < 256)
  | .releaseStep dom => decide (dom < 256)
  | .pgTimeout dom => decide (dom < 256)
  | .pclInputChange pcl _ => decide (pcl < 144)
  | .rstPulseEnd dom => decide (dom < 256)
  | .rstreqStuck pcl => decide (pcl < 144)
  | .rstreqIgnoredClear pcl => decide (pcl < 144)
  | .manifestReadDone dom _ => decide (dom < 256)
  | .manReady => true
  | .accept dom => decide (dom < 256)
  | .reject dom code => decide (dom < 256) && decide (code < 256)
  | .reverify dom => decide (dom < 256)
  | .loaderAbort dom => decide (dom < 256)
  | .loadBurstDone _ => true
  | .burstTimeout dom fb => decide (dom < 256) && decide (fb < 32)
  | .reverifyDone dom => decide (dom < 256)
  | .stageAlloc => true
  | .stageWrite handle => decide (handle < 256)
  | .stageHash handle => decide (handle < 256)
  | .stageFree handle => decide (handle < 256)
  | .revoke dom => decide (dom < 256)
  | .orangeryAbort => true
  | .orangeryCmdDone => true
  | .refetchDone dom region _ _ _ => decide (dom < 256) && decide (region < 64)
  | .lostLeafRefetch dom region _ _ _ => decide (dom < 256) && decide (region < 64)
  | .rekeyStart => true
  | .rekeyDone => true
  | .ledgerAppendDone typ _ code _ => decide (typ < 5) && decide (code < 256)
  | .ledgerSwitchRetry => true
  | .rvLeaf dom region _ _ _ _ _ => decide (dom < 256) && decide (region < 64)
  | .read f => f.wf
  | .program f => f.wf
  | .eraseSector f => f.wf
  | .eraseChip f => f.wf
  | .writeEnable f => f.wf
  | .writeDisable f => f.wf
  | .readStatus f => f.wf
  | .writeStatus f => f.wf
  | .readId f => f.wf
  | .readSfdp f => f.wf
  | .suspend f => f.wf
  | .resume f => f.wf
  | .resetEnable f => f.wf
  | .flashReset f => f.wf
  | .modeAddr4Set f => f.wf
  | .modeAddr4Clear f => f.wf
  | .modeQpiSet f => f.wf
  | .modeQpiClear f => f.wf
  | .modeOctal8dSet f => f.wf
  | .modeOctal8dClear f => f.wf
  | .modeFailClear f => f.wf
  | .invalidFrame f => f.wf
  | .lineLate ch plane => decide (ch < 96) && decide (plane < 2)
  | .lateLineArrival ch plane dom region _ _ => decide (ch < 96) && decide (plane < 2) && decide (dom < 48) && decide (region < 64)
  | .alertPulseEnd ch => decide (ch < 96)
  | .alertClear ch word => decide (ch < 96) && decide (word < 0x100000000)
  | .wipClear ch => decide (ch < 96)
  | .feTakeover ch => decide (ch < 96)
  | .chnRstNPulse ch => decide (ch < 96)
  | .espiFlashRead ch tag _ len _ _ => decide (ch < 96) && decide (tag < 16) && decide (len < 65536)
  | .espiFlashWrite ch tag _ _ _ _ _ => decide (ch < 96) && decide (tag < 16)
  | .espiFlashErase ch tag _ _ _ _ => decide (ch < 96) && decide (tag < 16)
  | .espiCompletionReady ch tag => decide (ch < 96) && decide (tag < 16)
  | .getFlashC ch => decide (ch < 96)
  | .setConfiguration ch _ _ readMax _ _ _ => decide (ch < 96) && decide (readMax < 65536)
  | .espiProtocolError ch => decide (ch < 96)
  | .espiReset ch => decide (ch < 96)
  | .load ch len => decide (ch < 96) && decide (len < 8192)
  | .loadDone ch => decide (ch < 96)
  | .activate ch => decide (ch < 96)
  | .discard ch => decide (ch < 96)
  | .swap ch => decide (ch < 96)
  | .applyMap len => decide (len < 65536)
  | .discoveryDone _ => true
  | .rediscover dev => decide (dev < 128)
  | .trimTrack dev _ _ _ => decide (dev < 128)
  | .trimWrite bus word => decide (bus < 32) && decide (word < 0x100000000)
  | .busyPoll dev _ _ => decide (dev < 128)
  | .flashOpTimeout dev _ _ => decide (dev < 128)
  | .flashOpDone dev _ _ => decide (dev < 128)
  | .recoveryBurstDone dom _ _ _ _ _ => decide (dom < 256)
  | .recoveryDone dom => decide (dom < 256)
  | .fill cls => decide (cls < 256)
  | .fillDone cls => decide (cls < 256)
  | .markInit cls => decide (cls < 256)
  | .retireRow => true
  | .commitRepair => true
  | .applyBounds => true
  | .memintAbort cls => decide (cls < 256)
  | .flipArm word => decide (word < 0x100000000)
  | .flipApply _ _ => true
  | .scrubRow cls _ _ word _ _ _ => decide (cls < 13) && decide (word < 32)
  | .dramScrubLine what dom region _ _ _ => decide (what < 4) && decide (dom < 256) && decide (region < 128)
  | .sweepEnd cls => decide (cls < 14)
  | .scrubOverrun cls => decide (cls < 256)
  | .bucketLeak cls => decide (cls < 256)
  | .generate dst => decide (dst < 256)
  | .derive dst src => decide (dst < 256) && decide (src < 256)
  | .deriveSealed dst => decide (dst < 256)
  | .loadWk src engine => decide (src < 256) && decide (engine < 256)
  | .clearWk engine => decide (engine < 256)
  | .erase dst => decide (dst < 256)
  | .lockSlot dst => decide (dst < 256)
  | .certify src => decide (src < 256)
  | .publicKey src => decide (src < 256)
  | .deriveL2 => true
  | .ks3AutoDerive => true
  | .provisionVault => true
  | .keysAbort => true
  | .rewriteRelease => true
  | .keysCmdDone => true
  | .engStart b e => decide (b < 2) && decide (e < 4)
  | .engAbort b e => decide (b < 2) && decide (e < 4)
  | .engDone e _ => decide (e < 4)
  | .kmEngineTake e => decide (e < 4)
  | .sourceStartupPass src _ => decide (src < 4)
  | .healthFail src _ => decide (src < 4)
  | .seedReady _ => true
  | .drbgReady _ => true
  | .drbgGenerate => true
  | .rngFlush => true
  | .reseed => true
  | .rawMode src => decide (src < 4)
  | .testPattern src => decide (src < 4)
  | .stopTest => true
  | .rngDataRead => true
  | .rngRawRead _ => true
  | .internalRngRequest => true
  | .kioskState acc tn dom arg => acc.wf && decide (tn < 512) && decide (dom < 256) && decide (arg < 65536)
  | .kioskHold acc tn dom arg => acc.wf && decide (tn < 512) && decide (dom < 256) && decide (arg < 65536)
  | .kioskResetCycle acc tn dom arg => acc.wf && decide (tn < 512) && decide (dom < 256) && decide (arg < 65536)
  | .service acc tn op dom arg => acc.wf && decide (tn < 512) && decide (op < 256) && decide (dom < 256) && decide (arg < 65536)
  | .replyPlace tn => decide (tn < 512)
  | .tnRspRead acc tn => acc.wf && decide (tn < 512)
  | .unbound acc tn _ => acc.wf && decide (tn < 512)
  | .tnDbInWrite acc tn bits => acc.wf && decide (tn < 512) && decide (bits < 0x100000000)
  | .kioskTakeRead => true
  | .kioskReplyWrite word => decide (word < 0x100000000)
  | .kioskDbOutWrite bits => decide (bits < 0x100000000)
  | .applyTbt len => decide (len < 65536)
  | .takenRequestTimeout tn => decide (tn < 512)
  | .pendingRequestTimeout tn => decide (tn < 512)
  | .smbusBlockWrite port tn _ value _ => decide (port < 10) && decide (tn < 512) && decide (value < 0x100000000)
  | .smbusProcessCall port tn _ => decide (port < 10) && decide (tn < 512)
  | .applySettings => true
  | .send => true
  | .mctpPacket p => p.wf
  | .reassemblyTimeout port src tag _ => decide (port < 10) && decide (src < 256) && decide (tag < 8)
  | .rxSlotFree tail => decide (tail < 16)
  | .smbTimeout port => decide (port < 10)
  | .arbitrationRetry => true
  | .setEndpointId org eid => org.wf && decide (eid < 256)
  | .getEndpointId org => org.wf
  | .getEndpointUuid org => org.wf
  | .getMctpVersionSupport org typ => org.wf && decide (typ < 256)
  | .getMessageTypeSupport org => org.wf
  | .getVendorDefinedMsgSupport org sel => org.wf && decide (sel < 256)
  | .prepareForEndpointDiscovery org => org.wf
  | .endpointDiscovery org => org.wf
  | .unsupportedControlCmd org => org.wf
  | .vendorKiosk org tn word gen => org.wf && decide (tn < 65536) && decide (word < 0x100000000) && decide (gen < 0x100000000)
  | .getNonce org => org.wf
  | .getOutcome org => org.wf
  | .ownerRelease org _ => org.wf
  | .ownerProvisionVault org _ => org.wf
  | .ownerEnterLockdown org _ => org.wf
  | .ownerLockSet org _ => org.wf
  | .ownerLockClear org _ => org.wf
  | .ownerReturnToken org _ => org.wf
  | .ownerScrap org _ => org.wf
  | .getVersion org _ => org.wf
  | .getCapabilities org _ _ _ => org.wf
  | .negotiateAlgorithms org _ => org.wf
  | .getDigests org _ => org.wf
  | .getCertificate org _ len _ => org.wf && decide (len < 65536)
  | .challenge org _ _ => org.wf
  | .getMeasurements org index _ _ _ => org.wf && decide (index < 256)
  | .keyExchange org _ _ _ => org.wf
  | .finish org id _ _ => org.wf && decide (id < 0x100000000)
  | .heartbeat org id _ => org.wf && decide (id < 0x100000000)
  | .heartbeatExpiry id => decide (id < 0x100000000)
  | .keyUpdate org id _ => org.wf && decide (id < 0x100000000)
  | .endSession org id _ => org.wf && decide (id < 0x100000000)
  | .respondIfReady org _ => org.wf
  | .chunkSend org _ _ _ => org.wf
  | .chunkGet org _ => org.wf
  | .vendorDefinedRequest org _ _ => org.wf
  | .spdmUnsupportedRequest org => org.wf
  | .getTid org => org.wf
  | .getPldmVersion org typ => org.wf && decide (typ < 256)
  | .getPldmTypes org => org.wf
  | .getPldmCommands org typ => org.wf && decide (typ < 256)
  | .queryDeviceIdentifiers org => org.wf
  | .getFirmwareParameters org => org.wf
  | .requestUpdate org => org.wf
  | .passComponentTable org _ => org.wf
  | .updateComponent org comp _ svn => org.wf && decide (comp < 65536) && decide (svn < 256)
  | .activateFirmware org => org.wf
  | .getStatus org => org.wf
  | .cancelUpdateComponent org => org.wf
  | .cancelUpdate org => org.wf
  | .updWrite handle comp => decide (handle < 256) && decide (comp < 65536)
  | .updSettle => true
  | .updJobDone _ _ _ => true
  | .updSwap comp _ _ => decide (comp < 65536)
  | .updActivateBv => true
  | .pauseExpiry => true
  | .commitSvn cls => decide (cls < 256)
  | .updResume => true
  | .updOwnerLock => true
  | .updAbort => true
  | .lcsToFactory _ => true
  | .lcsToOwned _ => true
  | .lcsToReturned _ => true
  | .lcsToScrap _ => true
  | .lcsProgrammed => true
  | .lcsArm word => decide (word < 0x100000000)
  | .armedExpiry => true
  | .scrapWipeDone _ => true
  | .tokenLoad _ => true
  | .nonceReq _ => true
  | .tokenClear _ => true
  | .haltReq _ => true
  | .halt => true
  | .debugWrite addr value => mapAddr addr && decide (value < 0x100000000)
  | .scanEntry => true
  | .scanExit _ => true
  | .railToVbat => true
  | .railToVddAon => true
  | .meshBurst _ _ _ _ => true
  | .sensorSample _ _ => true
  | .applyRules len => decide (len < 65536)
  | .setRtc => true
  | .evtAck n => decide (n < 256)
  | .clearFired r => decide (r < 256)
  | .journalStart => true
  | .journalFlush => true
  | .journalWrite => true
  | .journalVerify count => decide (count < 65536)
  | .journalDrain => true
  | .logFlush _ count _ => decide (count < 65536)
  | .tempSample _ => true
  | .belvedereResume => true
  | .pcieLinkChange _ gen _ => decide (gen < 8)
  | .rekeyBlockPassed => true
  | .commitRepairDone _ => true
  | .commitSvnDone _ => true
  | .rediscoverDone _ => true
  | .journalVerifyDone => true
  | .sendDone _ => true
  | .vbatBrownout _ => true
  | .vbatBrownoutEnd => true

end Sys2Proof
end

