-- ==== Sys2Proof/Certificates/Slice0/Obligations.lean ====
section
/-! DEFINITION. The statements about the HX96 that are to be proved. -/

open Sys2Proof Sys2Proof.Machine

/-- R10: every field of a written register acts by its own access code; R4: RO fields keep their value, RW fields take the written
one, W1C and W1S bits are cleared and set by ones. For every register that a write stores in (no command register, no command of its own),
where the write breaks no lock; a value out of a register's range is written as `heldWord` says, which OutOfRangeValuesAreHeld states.
No other register changes, but for RNG_STAT, RNG_EVT and SYSCTL_SPARE_STAT where a setting of the random number block is written: they
follow MIN_ACTIVE (R327). -/
def Obligations.RegisterWriteByAccessCode : Prop :=
  ∀ (s : State) (a v req : Nat) (row : RegRow), asleep s = false → regRow a = some row → inBlocks a = true → a % 4 = 0 →
    ownCommand a = false → commandRegister a = false → a ≠ LCS_REQUEST → a ≠ KIOSK_DB_IN →
    lockBreak (lockedAt s a) (reg s a).toNat (heldWord a (reg s a).toNat (v % 2 ^ 32)) row.flds = false →
    ∃ t, exec (.registerWrite a v 4 req) s = .next t
      ∧ (∀ f ∈ row.flds, fieldOf (reg t a).toNat f
          = writeField (lockedAt s a) (reg s a).toNat (heldWord a (reg s a).toNat (v % 2 ^ 32)) f)
      ∧ (∀ b, b ≠ a → (a = RNG_CTRL ∨ a = RNG_CFG → b ≠ RNG_STAT ∧ b ≠ RNG_EVT ∧ b ≠ SYSCTL_SPARE_STAT) → reg t b = reg s b)
      ∧ t.tcm = s.tcm

/-- R60, R174, R329, R332, R425: a value out of range is held at the limit: the watchdog period at 10 to 60,000 ms, the rate of the
rolling verification at 1,000, the firmware reserve at 32, the reseed interval at 4,096 and the flush time at 10,000 ms. -/
def Obligations.OutOfRangeValuesAreHeld : Prop :=
  ∀ (s : State) (v req : Nat), asleep s = false →
    (rb s SYSCTL_LOCK_LOCK = false →
      ∃ t, exec (.registerWrite SYSCTL_WDT_CTL v 4 req) s = .next t ∧ rf t SYSCTL_WDT_CTL_PERIOD_MS = min 60000 (max 10 (v % 2 ^ 16)))
    ∧ (rb s ORANGERY_CTRL_LOCK = false →
      ∃ t, exec (.registerWrite ORANGERY_RV_CTRL v 4 req) s = .next t ∧ rf t ORANGERY_RV_CTRL_RATE = min 1000 (v % 2 ^ 11))
    ∧ (rb s RNG_CTRL_LOCK = false →
      ∃ t, exec (.registerWrite RNG_CFG v 4 req) s = .next t ∧ rf t RNG_CFG_FW_RESERVE = min 32 (v / 2 ^ 8 % 2 ^ 6))
    ∧ (rb s RNG_CTRL_LOCK = false →
      ∃ t, exec (.registerWrite RNG_RESEED v 4 req) s = .next t
        ∧ rf t RNG_RESEED_RESEED_INT = (if v % 2 ^ 13 = 0 ∨ 4096 < v % 2 ^ 13 then 4096 else v % 2 ^ 13))
    ∧ (rb s JOURNAL_CTRL_LOCK = false →
      ∃ t, exec (.registerWrite JOURNAL_CFG v 4 req) s = .next t
        ∧ rf t JOURNAL_CFG_FLUSH_MS = (if v % 2 ^ 16 = 0 ∨ 10000 < v % 2 ^ 16 then 10000 else v % 2 ^ 16))

/-- R5: under a set lock, a write leaves every RWL field of the register as it is, and every other field acts by its own access code. A
write that would change an RWL field sets the block's LOCK_VIOL bit and enters one record of the block and the offset; one that gives every
RWL field the value it holds does neither. The lock bit stays set. -/
def Obligations.LockedFieldKeepsItsValue : Prop :=
  ∀ (s : State) (a v req lk : Nat) (row : RegRow), asleep s = false → regRow a = some row → inBlocks a = true → a % 4 = 0 →
    ownCommand a = false → commandRegister a = false → a ≠ LCS_REQUEST → a ≠ KIOSK_DB_IN → lockReg a = some lk → rb s ⟨lk, 0, 1⟩ = true →
    ∃ t, exec (.registerWrite a v 4 req) s = .next t
      ∧ (∀ f ∈ row.flds, f.acc = .rwl → fieldOf (reg t a).toNat f = fieldOf (reg s a).toNat f)
      ∧ rb t ⟨lk, 0, 1⟩ = true
      ∧ (lockBreak true (reg s a).toNat (heldWord a (reg s a).toNat (v % 2 ^ 32)) row.flds = true →
        rb t ⟨lk, 1, 1⟩ = true
          ∧ (∀ f ∈ row.flds, f.acc ≠ .rwl → ¬ (a = lk ∧ f.lo = 1) → fieldOf (reg t a).toNat f
            = writeField true (reg s a).toNat (heldWord a (reg s a).toNat (v % 2 ^ 32)) f)
          ∧ ∃ u : State, u.jnl = s.jnl ∧ t.jnl = (u.journalD 6 5 (srcOfAddr a) noUnit 0 0 (leBytes 4 (a % 65536))).jnl)
      ∧ (lockBreak true (reg s a).toNat (heldWord a (reg s a).toNat (v % 2 ^ 32)) row.flds = false →
        (a ≠ lk → rb t ⟨lk, 1, 1⟩ = rb s ⟨lk, 1, 1⟩)
          ∧ (∀ f ∈ row.flds, fieldOf (reg t a).toNat f
            = writeField true (reg s a).toNat (heldWord a (reg s a).toNat (v % 2 ^ 32)) f)
          ∧ t.jnl = s.jnl)

/-- R7, R9, R30, R268: a store into part of a poisoned TCM word completes and the word stays poisoned; a store of a whole word clears its
poison. An access of a register by anything but an aligned 32-bit word, a write of the boot ROM, and an access outside every range of the
address map are answered with a bus access fault and change nothing; a write, a debug read or a debug write of such an address is answered
the same way. R74, R268, R276: an access into the execute-only range of TCM, and a load that meets a poisoned word of TCM, end with the
fault too. -/
def Obligations.FaultingAccessAndNarrowStore : Prop :=
  (∀ (s : State) (a v req : Nat), asleep s = false → a % 4 = 0 → inTcm a 4 = true → inXo s a = false → (a / 4) ∈ s.mem.poison →
     (∃ t, exec (.registerWrite a v 1 req) s = .next t ∧ tcmByte t a = BitVec.ofNat 8 v ∧ (a / 4) ∈ t.mem.poison)
     ∧ (∃ t, exec (.registerWrite a v 4 req) s = .next t ∧ tcmByte t a = BitVec.ofNat 8 v ∧ (a / 4) ∉ t.mem.poison
         ∧ ∀ b, b < a ∨ a + 4 ≤ b → tcmByte t b = tcmByte s b))
  ∧ (∀ (s : State) (a n : Nat) (w : Bool), 0 < n → asleep s = false →
        (((inBlocks a = true ∨ inBar a = true) ∧ (n ≠ 4 ∨ a % 4 ≠ 0)
          ∨ (a < 0x80000 ∧ w = true)
          ∨ (0x80000 ≤ a ∧ inBlocks a = false ∧ inBar a = false ∧ (a < 0x10000000 ∨ 0x10200000 ≤ a))) →
        exec (.busAccessFault a n w) s = .next (s.ret .busFault)
          ∧ (∀ v req, w = true → exec (.registerWrite a v n req) s = .next (s.ret .busFault))
          ∧ (n = 4 → w = true → ∀ v, exec (.debugWrite a v) s = .next (s.ret .busFault))
          ∧ (n = 4 → w = false → exec (.debugRead a) s = .next (s.ret .busFault)))
        ∧ (inTcm a n = true → inXo s a = true ∨ (w = false ∧ tcmPoisoned s a n = true) →
          exec (.busAccessFault a n w) s = .next (s.ret .busFault)
          ∧ ∀ v req, w = true → exec (.registerWrite a v n req) s = .next (s.ret .busFault)))

/-- R6: a read with the debug attribute changes no state: its only effect is what it returns, and that is what an ordinary read returns
at that moment, at every address that the level in force grants. For a register: the stored fields with WO fields zero, and the fields that
follow other state. For TCM: the word, or the fault that an ordinary read of a poisoned word raises; a data read of the execute-only range
faults too. -/
def Obligations.DebugReadChangesNothing : Prop :=
  ∀ (s : State) (a : Nat), (∃ o, exec (.debugRead a) s = .next (s.ret o))
    ∧ (asleep s = false → inBlocks a = true → a % 4 = 0 → dbgReads s a = true → exec (.debugRead a) s = .next (s.ret (.word (readWord s a))))
    ∧ (asleep s = false → inTcm a 4 = true → dbgReads s a = true →
      exec (.debugRead a) s = .next (s.ret (if inXo s a || tcmPoisoned s a 4 then .busFault
        else .word (BitVec.ofNat 32 (fieldAt (tcmRead s a 4) 0 4)))))

/-- R388, R390: at L0 and L1 a debugger's write changes nothing; at L2 and L3 it writes TCM outside the execute-only range and the
registers outside LCS, KEYS and SYSCTL_BOOT_CTL. -/
def Obligations.DebugWriteByLevel : Prop :=
  ∀ (s : State) (a v : Nat), accessFault a 4 true = false → inBar a = false → a ≠ LCS_REQUEST →
    (rf s DEBUG_STAT_LEVEL < 2 → exec (.debugWrite a v) s = .next s)
    ∧ (0x40010000 ≤ a → a < 0x40030000 → exec (.debugWrite a v) s = .next s)
    ∧ (exec (.debugWrite SYSCTL_BOOT_CTL v) s = .next s)
    ∧ (asleep s = false → 2 ≤ rf s DEBUG_STAT_LEVEL → inTcm a 4 = true → inXo s a = false →
        exec (.debugWrite a v) s = .next (s.tcmWrite a (leBytes 4 v)))
    ∧ (asleep s = false → 2 ≤ rf s DEBUG_STAT_LEVEL → inBlocks a = true → a < 0x40010000 ∨ 0x40030000 ≤ a → a ≠ SYSCTL_BOOT_CTL → a ≠ SYSCTL_WDT_KICK →
        exec (.debugWrite a v) s = .next (s.blockWrite a (v % 2 ^ 32)))

/-- R48, R51, R61, R84: with the supplies valid and SYS_RST_N high, the rise of SYS_PWRGD ends a reset that was in progress: the
start sequence begins in ASSEMBLY with TESTEN sampled, time starts, and SYSCTL_RSTCAUSE shows exactly the causes of that reset; from
DORMANT the cause is power-on. -/
def Obligations.MainPowerGoodStartsTheDevice : Prop :=
  ∀ (s : State) (testen : Bool) (banks : List Nat), s.boot.stage = .held → s.boot.pinLow = false →
    ∃ t, exec (.mainPowerGood testen banks) s = .next t
      ∧ t.boot.stage = .reset1 ∧ t.usec = 0 ∧ mode t = moASSEMBLY ∧ t.boot.testen = testen
      ∧ rf t ⟨SYSCTL_RSTCAUSE, 0, 7⟩ = (if mode s = moDORMANT then rcPOR else s.boot.causes % 128)
      ∧ t.otp = s.otp ∧ t.lodge = s.lodge

/-- R48, R58, R59: outside DORMANT a fall of SYS_PWRGD, a supply monitor that drops out and a key-correct DEV_RESET outside an atomic
window and outside a SCRAP wipe reset the device: command queue, OTP words and vault apart, every group of the state is at its reset value. The balls of bank SYB
are sampled while the bank's supply is of the declared class (R57). -/
def Obligations.DeviceResetClears : Prop :=
  ∀ (s : State), mode s ≠ moDORMANT →
    (sybLive s = true → ∃ t, exec .pwrgdFall s = .next t ∧ t.boot.stage = .held ∧ afterReset s t)
    ∧ (∀ k, k < 3 → ∃ t, exec (.supplyMonitorDrop k) s = .next t ∧ t.boot.stage = .held ∧ afterReset s t)
    ∧ (∀ w testen, bitsAt w 16 16 = 0x5A3C → w.testBit 0 = true → w.testBit 1 = false → s.atomicUntil ≤ s.usec → s.lcs.scrap = 0 →
        ∃ t, exec (.devReset w testen) s = .next t ∧ afterReset s t)

/-- R59, R83, R88, R89: a device reset that SYS_RST_N or DEV_RESET asks for while an atomic window is open changes nothing yet but the
request, and takes effect when the window closes. A wipe of SCRAP that runs has its own rule (R387). What the remaining power and reset
events do. Losing VDD, VDD_SRAM or VDDIO_SYB enters DORMANT; SYS_RST_N low holds the device and its release lets the reset end; a pin low
for 10 s, from power-on too, is flagged and ignored, and honoured again once it has been high. -/
def Obligations.PowerAndPinEvents : Prop :=
  (∀ (s : State), s.usec < s.atomicUntil →
     (∀ w testen, bitsAt w 16 16 = 0x5A3C → w.testBit 0 = true → w.testBit 1 = false →
       ∃ t, exec (.devReset w testen) s = .next t ∧ t.boot.deferred.isSome = true ∧ t.regs = s.regs ∧ t.keys = s.keys ∧ t.tcm = s.tcm)
     ∧ (sybLive s = true → mode s ≠ moDORMANT → rb s SYSCTL_RSTCAUSE_PIN_IGNORED = false →
       ∃ t, exec .sysRstNAssert s = .next t ∧ t.boot.deferred.isSome = true ∧ t.boot.pinLow = true ∧ t.regs = s.regs ∧ t.keys = s.keys)
     ∧ (∀ c testen, s.boot.deferred = some c → s.lcs.scrap = 0 → ∃ t, exec (.deferredDeviceReset testen) s = .next t ∧ afterReset s t))
  ∧ (∀ (s : State),
        (∀ k, k < 3 → mode s ≠ moDORMANT → ∃ t, exec (.mainPowerLoss k) s = .next t ∧ mode t = moDORMANT ∧ t.boot.stage = .held
          ∧ t.boot.supplies.testBit k = false)
        ∧ (sybLive s = true → mode s ≠ moDORMANT → rb s SYSCTL_RSTCAUSE_PIN_IGNORED = false → s.atomicUntil ≤ s.usec →
          s.lcs.scrap = 0 →
          ∃ t, exec .sysRstNAssert s = .next t ∧ t.boot.stage = .held ∧ t.boot.pinLow = true ∧ afterReset s t)
        ∧ (∀ testen, sybLive s = true → s.boot.stage = .held → s.boot.supplies = 15 →
          ∃ t, exec (.sysRstNRelease testen) s = .next t ∧ t.boot.stage = .reset1 ∧ mode t = moASSEMBLY)
        ∧ (∀ testen, s.boot.stage = .held → s.boot.supplies = 15 → s.boot.pinLow = true →
          rb s SYSCTL_RSTCAUSE_PIN_IGNORED = false →
          ∃ t, exec (.rstpinStuckTimeout testen) s = .next t ∧ t.boot.stage = .reset1
            ∧ rb t SYSCTL_RSTCAUSE_RSTPIN_STUCK = true ∧ rb t SYSCTL_RSTCAUSE_PIN_IGNORED = true)
        ∧ (s.boot.pinLow = false → exec .pinIgnoredClear s = .next (s.setF SYSCTL_RSTCAUSE_PIN_IGNORED 0)))

/-- R61: steps 2 to 5 of the start. The active PLL locks; the hardware stage senses OTP and latches the life-cycle state; the ROM
starts with TCM filled and, with every memory sound, starts training of both interfaces. -/
def Obligations.StartSequenceAdvances : Prop :=
  ∀ (s : State),
    (∀ p, p < 2 → s.boot.stage = .reset1 → p = activePll s → rb s SYSCTL_CLKSTAT_HOLDOVER = false →
      ∃ t, exec (.pllLock p) s = .next t ∧ t.boot.stage = .clocks ∧ rb t (lockFld p) = true ∧ rb t (refFld (refOf s p)) = true)
    ∧ (∀ c u, s.boot.stage = .clocks → ∃ t, exec (.otpSenseDone c u) s = .next t ∧ t.boot.stage = .otp)
    ∧ (s.boot.stage = .otp → s.boot.testen = false → s.boot.restart = none →
      ∃ t, exec (.romStart []) s = .next t ∧ t.boot.stage = .rom ∧ t.boot.training = 3 ∧ t.tcm = [])

/-- R65, R66, R67, R70, R71, R77: a copy whose twelve checks pass is selected; a copy that fails leaves the other to be read, and when
neither passes ROM recovery begins in FACTORY, OWNED and RETURNED, while BLANK, SCRAP and INVALID end without handover. A recovery image
that passes is written to copy B and the device resets; after a handover firmware runs and the image of the copy that passed stands at the
start of TCM. -/
def Obligations.CopiesRecoveryAndHandover : Prop :=
  (∀ (s : State) (img : CopyImage) (k : Nat), s.boot.stage = .rom → nextCopy s = some k → s.upd.job = none →
     (firstFail img.timeoutAt 1 (copyChecks s img) = none →
       ∃ t, exec (.copyReadDone img) s = .next t ∧ t.boot.stage = .passed ∧ rf t SYSCTL_BOOT_STAT_COPY_USED = k % 2)
     ∧ (firstFail img.timeoutAt 1 (copyChecks s img) ≠ none → s.boot.restart = none → s.boot.bootCopies = 1 →
       ∃ t, exec (.copyReadDone img) s = .next t
         ∧ t.boot.stage = (if lcState s = lcFACTORY ∨ lcState s = lcOWNED ∨ lcState s = lcRETURNED then .recovery else .noHandover)
         ∧ rb t SYSCTL_PIN_STAT_FAULT_OUT = true))
  ∧ ((∀ (s : State) (cls : Nat) (man img : List Byte), s.boot.stage = .recovery → cls = 254 ∨ cls = 255 →
        firstFail none 2 (classChecks s cls man img img.length
          ++ [((cls = 254 || (parseCfg img (rf s SYSCTL_ID_DRAM_CAP)).isSome) && img.length ≤ (if cls = 254 then 917504 else 786432)
            && man.length ≤ 65536, .malformed)]) = none →
        ∃ t, exec (.romRecoveryImage cls man img) s = .next t ∧ t.out = .rootWrite 1 [(cls, man, img)] none ∧ afterReset s t)
      ∧ (∀ (s : State) (m : BootImg), s.boot.stage = .passed → s.boot.img = some m →
        m.fwImg.length ≤ cfgBase - fwBase →
        ∃ t, exec .handover s = .next t ∧ t.boot.stage = .firmware ∧ t.boot.img = some m ∧ t.boot.restart = none
          ∧ tcmRead t fwBase m.fwImg.length = m.fwImg))

/-- R81, R82, R89, R163: ASSEMBLY ends into a running mode once firmware runs with every section applied, training is over, a plane can serve and the DRBG gives the
Orangery keys; the ledger replay adopts the writes it finds, and the write-throughs that waited go on, unless the found half stops the
ledger. -/
def Obligations.AssemblyEndsAndLedgerReplays : Prop :=
  (∀ (s u : State) (lanes : List Nat) (fe : List (Nat × Nat)) (lv : Nat), mode s = moASSEMBLY → s.boot.stage = .firmware →
    s.boot.training = 0 → sectionsApplied s = true → planeAble s = true → s.loadPlaneKeys = (u, true) →
    exec (.assemblyEnd lanes fe lv) s = .next (((u.assemblyDone lanes fe lv).leaveAssembly).showStage))
  ∧ (∀ (s : State) (h0 h1 : List Byte), ledger s = 1 → devLive s (ledgerDev s) = true →
    ∀ u : State, u = (s.ledgerReplay h0 h1).each ((s.ledgerReplay h0 h1).ldr.force.map (·.1)) State.adoptEntries →
      (ledger u = 6 → exec (.ledgerReplayDone h0 h1) s = .next u)
      ∧ (ledger u ≠ 6 → exec (.ledgerReplayDone h0 h1) s
        = .next { u with orang := { u.orang with wts := u.orang.wts.map fun (w : Wt) => { w with held := false } } }.ledgerCheck))

/-- R58, R60, R85: BV_RESTART with its KEY starts a Belvedere restart, as the watchdog's expiry does; a kick with its KEY restarts
the count and any other word changes no count; an expiry with EN clear does nothing. R363: of TCM, a restart keeps the receive ring. -/
def Obligations.BelvedereRestartAndWatchdog : Prop :=
  ∀ (s : State),
    (∀ w, bitsAt w 16 16 = 0x5A3C → w.testBit 1 = true → w.testBit 0 = false → s.boot.stage = .firmware → rb s KEYS_STAT_L0_VALID = true →
      ∃ t, exec (.bvRestart w) s = .next t ∧ t.boot.stage = .otp ∧ t.boot.restart = some (bitsAt w 2 1) ∧ t.tcm = ringCells s ∧ t.orang.exts = s.orang.exts
        ∧ t.gate = s.gate ∧ t.ldr.force = s.ldr.force)
    ∧ (∀ e w, s.boot.wdtEnd = some e → bitsAt w 16 16 = 0xC3D2 →
      ∃ t, exec (.wdtKick w) s = .next t ∧ t.boot.wdtEnd = some (s.usec + 1000 * rf s SYSCTL_WDT_CTL_PERIOD_MS) ∧ t.regs = s.regs)
    ∧ (∀ w, bitsAt w 16 16 ≠ 0xC3D2 → ∃ t, exec (.wdtKick w) s = .next t ∧ t.boot = s.boot)
    ∧ (∀ e, s.boot.wdtEnd = some e → rb s SYSCTL_WDT_CTL_EN = true → s.boot.stage = .firmware →
      ∃ t, exec .wdtExpiry s = .next t ∧ t.boot.stage = .otp ∧ t.boot.causes = rcWDT ∧ t.gate = s.gate)
    ∧ (rb s SYSCTL_WDT_CTL_EN = false → exec .wdtExpiry s = .next s)

/-- R26, R28, R29, R31, R32: a failure of the running pair brings in the standby: pair 1 runs, no standby is left, and SPARE_LOW is set;
Belvedere's TCM, the domains and the requests taken are as before. When the active PLL unlocks, or the reference it follows is lost, the
other PLL is switched to if AUTO_SWITCH is set and it is locked; otherwise holdover begins. SWITCH_REQ switches to a locked PLL and is
ignored otherwise. -/
def Obligations.FailoverAndClocks : Prop :=
  (∀ (s : State), s.boot.stage = .firmware → rb s SYSCTL_SPARE_STAT_BV_STANDBY = true →
     ∃ t, exec .failover s = .next t ∧ t.boot.bvPair = 1 ∧ rb t SYSCTL_SPARE_STAT_BV_STANDBY = false ∧ rb t SYSCTL_SPARE_EVT_SPARE_LOW = true
       ∧ t.tcm = s.tcm ∧ t.kiosk = s.kiosk ∧ t.gate = s.gate ∧ t.keys = s.keys ∧ t.eng = s.eng)
  ∧ (∀ (s : State) (p : Nat), p < 2 → activePll s = p →
        (rb s SYSCTL_CLKSEL_AUTO_SWITCH = true → rb s (lockFld (1 - p)) = true →
          ∃ t, exec (.pllUnlock p) s = .next t ∧ activePll t = 1 - p ∧ rb t SYSCTL_CLKSTAT_HOLDOVER = false ∧ rb t (lockFld p) = false
            ∧ rb t SYSCTL_CLKEVT_SWITCHED = true)
        ∧ (rb s SYSCTL_CLKSEL_AUTO_SWITCH = false →
          ∃ t, exec (.pllUnlock p) s = .next t ∧ activePll t = p ∧ rb t SYSCTL_CLKSTAT_HOLDOVER = true)
        ∧ (∀ r, r < 2 → refOf s p = r → rb s SYSCTL_CLKSEL_AUTO_SWITCH = false →
          ∃ t, exec (.referenceLost r) s = .next t ∧ rb t (refFld r) = false ∧ rb t SYSCTL_CLKSTAT_HOLDOVER = true)
        ∧ (rb s (lockFld (1 - p)) = true → ∃ t, exec .switchReq s = .next t ∧ activePll t = 1 - p ∧ rb t SYSCTL_CLKEVT_SWITCHED = true)
        ∧ (rb s (lockFld (1 - p)) = false → exec .switchReq s = .next s))

/-- R22 to R25, R34: an isolated plane shows ISOLATED and its fellow serves on; a rebuild is accepted for a plane that is down and
trained while the other one serves outside LOCKDOWN, and ends with the plane SERVING and equal to the other. -/
def Obligations.PlaneIsolationAndRebuild : Prop :=
  ∀ (s : State) (x : Nat), x < 2 → planeSt s (1 - x) = plSERVING →
    (∀ cause, planeSt s x = plSERVING → ∃ t, exec (.planeIsolation x cause) s = .next t ∧ planeSt t x = plISOLATED
      ∧ planeSt t (1 - x) = plSERVING ∧ t.orang = s.orang)
    ∧ (∀ w, planeSt s x = plISOLATED → trainPass s x = true → lockdown s = false → w % 4 = x + 1 →
      ∃ t, exec (if x = 0 then .rebuildA w else .rebuildB w) s = .next t ∧ planeSt t x = plREBUILDING ∧ rf t SYSCTL_PLANE_STAT_LAST_STATUS = 0)
    ∧ (planeSt s x = plREBUILDING → ∃ t, exec (.rebuildDone x) s = .next t ∧ planeSt t x = plSERVING ∧ planeOf t x = planeOf s (1 - x)
      ∧ planeOf t (1 - x) = planeOf s (1 - x))

/-- R78, R79, R86: the third failed attempt on an interface is a failure, a passed attempt with a capacity is a pass, and the attempts are
counted. A retrain of interfaces whose planes are down, one at a time while the other plane serves, is accepted: the results and attempts of
those interfaces are cleared and training runs; an interface of a plane that serves or rebuilds is refused with REFUSED_STATE. -/
def Obligations.TrainingAndRetrain : Prop :=
  (∀ (s : State) (cap : Nat), s.boot.training = 1 → s.boot.retrainBoth = false → s.boot.trainCap.length = 2 → cap = 1 ∨ cap = 2 →
     (rf s SYSCTL_ID_DRAM_CAP = 0 ∨ rf s SYSCTL_ID_DRAM_CAP = cap →
       ∃ t, exec (.trainingDone 0 true cap) s = .next t ∧ trainPass t 0 = true ∧ t.boot.training = 0 ∧ rf t SYSCTL_ID_DRAM_CAP = cap)
     ∧ (rf s SYSCTL_TRAIN_STAT_IF0_ATTEMPTS = 2 →
       ∃ t, exec (.trainingDone 0 false 0) s = .next t ∧ rf t SYSCTL_TRAIN_STAT_IF0_RESULT = 2 ∧ rf t SYSCTL_TRAIN_STAT_IF0_ATTEMPTS = 3))
  ∧ (∀ (s : State) (w : Nat),
        (w / 65536 % 4 = 1 → planeSt s 0 = plISOLATED →
          ∃ t, exec (.retrain0 w) s = .next t ∧ t.boot.training.testBit 0 = true ∧ rf t SYSCTL_TRAIN_STAT_IF0_RESULT = 0
            ∧ rf t SYSCTL_TRAIN_STAT_IF0_ATTEMPTS = 0 ∧ rf t SYSCTL_TRAIN_STAT_LAST_STATUS = 0)
        ∧ (w / 65536 % 4 = 2 → planeSt s 1 = plISOLATED →
          ∃ t, exec (.retrain1 w) s = .next t ∧ t.boot.training.testBit 1 = true ∧ rf t SYSCTL_TRAIN_STAT_IF1_RESULT = 0
            ∧ rf t SYSCTL_TRAIN_STAT_LAST_STATUS = 0)
        ∧ (w / 65536 % 4 = 1 → planeSt s 0 = plSERVING →
          exec (.retrain0 w) s = .next (s.setF SYSCTL_TRAIN_STAT_LAST_STATUS 4)))

/-- R46, R57, R351, R445, R446: a bank that changes class is shown, a bank whose class matches again is resumed, PE_PERST_N low takes the
PCIe link down and discards the messages under reassembly there, a change of the link is shown, and a die at its warning threshold sets WARN. -/
def Obligations.BanksPinsAndTemperature : Prop :=
  ∀ (s : State),
    (∀ b c, b < 24 → c < 4 → bankClass s b ≠ c → s.gate.applied = false → ∃ t, exec (.bankClassChange b c) s = .next t ∧ bankClass t b = c)
    ∧ (∀ b, b < 24 → bankFloated s b = true → bankMatches s b = true →
      ∃ t, exec (.bankResume b) s = .next t ∧ bankFloated t b = false)
    ∧ (sybLive s = true → ∃ t, exec (.pePerstNChange false) s = .next t ∧ rb t SYSCTL_PIN_STAT_PERST_LVL = false ∧ rb t MTRANS_STAT_LINK_UP = false
      ∧ ∀ c ∈ t.mtrans.ctxs, c.port ≠ poPCIE)
    ∧ (sybLive s = true → ∃ t, exec (.pePerstNChange true) s = .next t ∧ rb t SYSCTL_PIN_STAT_PERST_LVL = true ∧ t.mtrans = s.mtrans)
    ∧ (∀ g w, 1 ≤ g → g < 8 → w < 32 → rb s SYSCTL_PIN_STAT_PERST_LVL = true → rb s MTRANS_STAT_PCIE_EN = true →
      ∃ t, exec (.pcieLinkChange true g w) s = .next t ∧ rb t MTRANS_STAT_LINK_UP = true)
    ∧ (∀ d, d < 128 → s.boot.tempHot = false → rf s SYSCTL_TEMP_WARN_AT ≤ d →
      ∃ t, exec (.tempSample [d]) s = .next t ∧ t.boot.tempHot = true ∧ rb t SYSCTL_TEMP_WARN = true ∧ rf t SYSCTL_TEMP_TEMP = d)

/-- R96, R100, R109, R115: RELEASE of a QUARANTINED domain clears FAIL_COUNT and gathers it; RELEASE of a HELD, present domain gathers it,
or, when it is VERIFIED, lets it wait for its predecessors alone. Without a hash lane no domain stays VERIFYING (R418). HOLD of a RELEASED
or VERIFYING domain takes it to HELD with a new generation, and QUARANTINE of any domain that is not QUARANTINED takes it to QUARANTINED;
RECOVER of a PARKED domain that has a Nursery source starts its recovery; RESET_CYCLE of a RELEASED domain starts a reset pulse. Each is
shown with status OK. The domain exists, GATE_CMD_GEN holds its generation and a running mode is in force (HOLD and QUARANTINE: LOCKDOWN
too). -/
def Obligations.GateCommandsAct : Prop :=
  (∀ (s : State) (d : Nat), asleep s = false → d < 48 → domExists s d = true → rf s GATE_CMD_GEN_GEN = domGen s d → modeRun s = true →
     releaseOk s d = true →
     exec (.gateRelease d) s = .next ((s.gateReleaseDom d).settle.gateEnd opRELEASE d .ok)
     ∧ (lanesOn s ≠ 0 → domState (s.gateReleaseDom d) d = stVERIFYING)
     ∧ (domState s d = stQUARANTINED → rf (s.gateReleaseDom d) (GATE_DOM_STAT_FAIL_COUNT d) = 0)
     ∧ (domState s d = stHELD → verified s d = true → (domX (s.gateReleaseDom d) d).passed = true))
  ∧ (∀ (s : State) (d : Nat), asleep s = false → d < 48 → domExists s d = true → rf s GATE_CMD_GEN_GEN = domGen s d → mode s ≠ moASSEMBLY →
        (released s d = true ∨ domState s d = stVERIFYING →
          exec (.gateHold d) s = .next ((s.holdDom d).settle.gateEnd opHOLD d .ok)
          ∧ domState (s.holdDom d) d = stHELD ∧ domGen (s.holdDom d) d = genNext (domGen s d))
        ∧ (domState s d ≠ stQUARANTINED →
          exec (.quarantine d) s = .next ((s.gateQuarantineDom d).settle.gateEnd opQUARANTINE d .ok)
          ∧ domState (s.gateQuarantineDom d) d = stQUARANTINED)
        ∧ (modeRun s = true → domState s d = stPARKED → (domX s d).nursery = true →
          exec (.recover d) s = .next ((s.recoverDom d).settle.gateEnd opRECOVER d .ok)
          ∧ domState (s.recoverDom d) d = stRECOVERING ∧ (recOf (s.recoverDom d) d).isSome = true)
        ∧ (modeRun s = true → released s d = true →
          exec (.resetCycle d) s = .next ((s.resetCycle d none).settle.gateEnd opRESET_CYCLE d .ok)
          ∧ (domX (s.resetCycle d none) d).seq = .pulse ∧ domGen (s.resetCycle d none) d = genNext (domGen s d)
          ∧ domState (s.resetCycle d none) d = stRELEASED))

/-- R12, R91, R92, R101, R115: a GATE command that names no domain is MALFORMED, one with another generation STALE, and one that the state
or the mode does not allow REFUSED_STATE, in this order; it changes nothing but the outcome registers and the journal. ENTER_LOCKDOWN in a
mode that runs, with DOM 0xFF and the mode's generation, enters LOCKDOWN with LD_CAUSE 4: the store is frozen and HX_FAULT_N is asserted;
with another DOM it is MALFORMED and with another generation STALE. -/
def Obligations.LockdownAndRefusals : Prop :=
  (∀ (s : State) (d : Nat) (c : Instr) (op : Nat),
     (c = .gateHold d ∧ op = opHOLD) ∨ (c = .gateRelease d ∧ op = opRELEASE) ∨ (c = .resetCycle d ∧ op = opRESET_CYCLE)
       ∨ (c = .recover d ∧ op = opRECOVER) ∨ (c = .quarantine d ∧ op = opQUARANTINE) → asleep s = false →
     (domExists s d = false → exec c s = .next (s.gateEnd op d .malformed))
     ∧ (domExists s d = true → rf s GATE_CMD_GEN_GEN ≠ domGen s d → exec c s = .next (s.gateEnd op d .stale))
     ∧ (domExists s d = true → rf s GATE_CMD_GEN_GEN = domGen s d → gateStateOk s op d = false →
         exec c s = .next (s.gateEnd op d .refusedState))
     ∧ ∀ code, (s.gateEnd op d code).gate = s.gate ∧ (s.gateEnd op d code).ldr = s.ldr ∧ (s.gateEnd op d code).orang = s.orang
         ∧ (s.gateEnd op d code).chans = s.chans ∧ (s.gateEnd op d code).keys = s.keys
         ∧ rf (s.gateEnd op d code) GATE_CMD_STAT_LAST_STATUS = code.val
         ∧ ∀ e, e < 48 → domState (s.gateEnd op d code) e = domState s e)
  ∧ (∀ (s : State), asleep s = false →
        (rf s GATE_CMD_GEN_GEN = rf s SYSCTL_MODE_GEN_GEN → modeRun s = true →
          ∃ t, exec (.enterLockdown 0xFF) s = .next t ∧ t = (s.enterLockdown 4).gateEnd opENTER_LOCKDOWN 0xFF .ok
            ∧ rf t SYSCTL_MODE_LD_CAUSE = 4 ∧ rb t SYSCTL_PIN_STAT_FAULT_OUT = true)
        ∧ (∀ d, d ≠ 0xFF → exec (.enterLockdown d) s = .next (s.gateEnd opENTER_LOCKDOWN d .malformed))
        ∧ (rf s GATE_CMD_GEN_GEN ≠ rf s SYSCTL_MODE_GEN_GEN → exec (.enterLockdown 0xFF) s = .next (s.gateEnd opENTER_LOCKDOWN 0xFF .stale)))

/-- R96, R108, R109, R111: what time and the load engine do to a domain. A waiting step of its hold or release sequence executes, a
power-good wait that is too long ends in the hold sequence with PG_TIMEOUT, a reset pulse ends unless its request still asserts, a pass
sets VERIFIED, and an elapsed RELEASE_DELAY is noted. -/
def Obligations.DomainSequences : Prop :=
  ∀ (s : State) (d : Nat), d < 48 →
    (∀ u, (domX s d).seq = .hold u → exec (.holdStep d) s = .next ((s.powerDown d u).holdFrom d 17 u))
    ∧ (∀ u, (domX s d).seq = .rel u → (stepWaitsPg s d u = false ∨ pgOk s d = true) →
      exec (.releaseStep d) s = .next ((s.execStep d u).relFrom d 17 (u + 1)))
    ∧ (∀ u, (domX s d).seq = .rel u → stepWaitsPg s d u = true →
      exec (.pgTimeout d) s = .next ((((s.holdDom d).raise (GATE_DOM_STAT_PG_TIMEOUT d)).raise GATE_EVT_PG_TIMEOUT).journalDom 2 108
        srcGATE d Code.timeout.val).settle)
    ∧ ((domX s d).seq = .pulse → (domX s d).reqLine = none →
      ∃ t, exec (.rstPulseEnd d) s = .next t ∧ t = (s.modDomX d fun x => { x with pulseOver := true }).pulseEnd d ∧ t.keys = s.keys)
    ∧ ((domX s d).seq = .pulse → (domX s d).reqLine.isSome = true →
      ∃ t, exec (.rstPulseEnd d) s = .next t ∧ (domX t d).seq = .pulse ∧ (domX t d).pulseOver = true ∧ t.regs = s.regs)
    ∧ (domState s d = stVERIFYING → allAdmitted s d = true → exec (.domainPass d) s = .next (s.passDom d))
    ∧ ((predsOf s d).any (released s) = true →
      exec (.releaseDelayExpiry d) s = .next (s.modDomX d fun x => { x with delayDone := true }).settle)

/-- R57, R107, R112: a filtered input takes its new level and is valid; a reset request held too long is ignored with one record, and honoured
again once it has been deasserted. -/
def Obligations.LinesFollowTheirInputs : Prop :=
  ∀ (s : State) (k : Nat) (p : Pcl), k < 144 → pclOf s k = some p →
    (∀ level, p.input = true → bankFloated s (bankOfPcl k) = false →
      ∃ u, exec (.pclInputChange k level) s = .next (u.inputActs k (lineValid s k && lineAsserted s k))
        ∧ rb u (GATE_PCL_STAT_LEVEL k) = level ∧ lineAsserted u k = (level != p.activeLow) ∧ lineValid u k = true)
    ∧ (p.resetReq = true → lineValid s k = true → lineAsserted s k = true → rb s (GATE_PCL_STAT_IGNORED k) = false →
      (domX s p.domain).seq ≠ .pulse → p.domain < 48 →
      ∃ t, exec (.rstreqStuck k) s = .next t ∧ rb t (GATE_PCL_STAT_IGNORED k) = true ∧ rb t (GATE_DOM_STAT_RSTREQ_STUCK p.domain) = true
        ∧ t.gate = s.gate)
    ∧ (rb s (GATE_PCL_STAT_IGNORED k) = true → lineAsserted s k = false →
      ∃ t, exec (.rstreqIgnoredClear k) s = .next t ∧ rb t (GATE_PCL_STAT_IGNORED k) = false ∧ t.gate = s.gate)

/-- R126, R128, R132: a manifest read from flash that passes check 1 is queued undecided with its bytes; one that fails check 1 parks its
domain with MALFORMED, and one whose partition is unavailable with TIMEOUT. The first manifest of the load order is delivered, once read, to
the buffer in TCM with MAN_READY. -/
def Obligations.ManifestsReachFirmware : Prop :=
  ∀ (s : State) (d : Nat) (l : Load) (c : Dom) (bytes : List Byte), d < 48 →
    (loadOf s d = some l → domCfg s d = some c → l.phase = 0 → l.reverify = false → manTurn s d = true →
      rb s FBUS_STAT_DISC_DONE = true → lanesOn s ≠ 0 → fbLive s (manBus s d) = true →
      (partReason s c.manPart ≠ 0 →
        exec (.manifestReadDone d bytes) s = .next (s.verifyFail d 1 0 false 0 Code.timeout.val).settle)
      ∧ (partReason s c.manPart = 0 → devIdle s (devOfPart s c.manPart) = true → busServes s (manBus s d) 3 = true →
      (∀ m, check1 s c bytes = some m →
        ∃ t, exec (.manifestReadDone d bytes) s = .next t
          ∧ loadOf t d = some { l with man := some m, phase := 1, raw := bytes.take m.totalLen } ∧ t.orang = s.orang ∧ triesOf t (32 + d) = 0)
      ∧ (check1 s c bytes = none →
        exec (.manifestReadDone d bytes) s = .next (s.verifyFail d 1 0 false 0 Code.malformed.val).settle)))
    ∧ (∀ (m : Manifest), s.ldr.buf = none → (manQueue s).head? = some d → (undecided s).contains d = true → loadOf s d = some l → l.man = some m → manBufOk s = true →
      ∃ t, exec .manReady s = .next t ∧ t.ldr.buf = some d ∧ rb t LOADER_EVT_MAN_READY = true ∧ rf t LOADER_MAN_INFO_DOM = d
        ∧ tcmRead t (manBuf s) l.raw.length = l.raw)

/-- R12, R126, R141, R142: ACCEPT of the manifest in the buffer, with the domain's generation, goes on to check 7 and frees the buffer;
REJECT with a code of the table fails the verification with it; both are answered OK, and an ACCEPT of another domain is REFUSED_STATE.
REVERIFY of a RELEASED domain without a job in SERVE or MAINTAIN starts a job that reads every region of the manifest in force; an ABORT
marks a running one, and the job ends once everything is read or after an ABORT. -/
def Obligations.LoaderCommands : Prop :=
  (∀ (s : State) (d : Nat), d < 48 → domExists s d = true → rf s LOADER_CMD_GEN_GEN = domGen s d →
     (manDecidable s d = true →
       exec (.accept d) s = .next ((s.acceptDom d).loaderEnd opACCEPT d .ok)
       ∧ ∀ code, code ∈ [0x03, 0x08, 0x09, 0x0A, 0x0B, 0x0F] →
         exec (.reject d code) s = .next (((s.freeBuf.verifyFail d (rejectCheck code) 0 false 0 code).settle).loaderEnd opREJECT d .ok)
         ∧ rf (s.freeBuf.verifyFail d (rejectCheck code) 0 false 0 code) (LOADER_DOM_FAIL_CODE d) = code)
     ∧ (manDecidable s d = false → exec (.accept d) s = .next (s.loaderEnd opACCEPT d .refusedState))
     ∧ ∀ op code, rf (s.loaderEnd op d code) LOADER_CMD_STAT_LAST_STATUS = code.val ∧ (s.loaderEnd op d code).ldr = s.ldr
         ∧ (s.loaderEnd op d code).gate = s.gate)
  ∧ (∀ (s : State) (d : Nat), d < 48 → domExists s d = true → rf s LOADER_CMD_GEN_GEN = domGen s d →
        (released s d = true → hasJob s d = false → modeServe s = true →
          ∃ t, exec (.reverify d) s = .next t ∧ rf t LOADER_CMD_STAT_LAST_STATUS = 0 ∧ reverifying t d = true ∧ t.tcm = s.tcm)
        ∧ (reverifying s d = true →
          ∃ t, exec (.loaderAbort d) s = .next t ∧ rf t LOADER_CMD_STAT_LAST_STATUS = 0 ∧ reverifying t d = false ∧ t.gate = s.gate)
        ∧ (∀ l, loadOf s d = some l → l.reverify = true → l.aborted = false → allRead l = true →
          exec (.reverifyDone d) s = .next (s.loadDrop d).settle ∧ loadOf (s.loadDrop d) d = none
            ∧ rb (s.loadDrop d) LOADER_EVT_REVERIFY_DONE = true ∧ (domX (s.loadDrop d) d).job ≠ jobREVERIFY))

/-- R130, R132: a burst that comes in full is taken leaf by leaf for the region in progress on its bus, here the last leaf of a burst of sixteen; the first
three bursts that do not come in time are retried and counted. -/
def Obligations.LoadBursts : Prop :=
  ∀ (s : State),
    (∀ (b : Burst) (d r : Nat) (l : Load) (m : Manifest) (g : Region), s.ldr.cur.find? (·.1 = b.fb) = some (b.fb, d, r) →
      loadOf s d = some l → l.man = some m → m.regions[r]? = some g → lanesOn s ≠ 0 → l.aborted = false → l.reverify = false →
      (g.writable = false ∨ ledger s ≠ 1) → devIdle s (devOfPart s g.srcPart) = true → busServes s b.fb 3 = true →
      s.ldr.raBad.contains b.fb = false → b.tree = false → b.badLanes = [] → b.reread = [] → b.poison = [] → b.data.length = 4096 →
      manWaits s b.fb = false ∨ s.fbus.passed.contains b.fb = false → r < l.admitted.length → b.first = l.admitted.getD r 0 → b.first % 16 = 15 → b.first + 1 < g.leaves → chunkRead s d r 0 b.first = true →
      (gatherHashes s (extIx d r) b.first).contains (leafHash b.data) = true →
      ∃ t, exec (.loadBurstDone b) s = .next t ∧ (loadOf t d).map (·.admitted.getD r 0) = some (b.first + 1))
    ∧ (∀ (d fb : Nat) (l : Load), fb < 32 → loadOf s d = some l → l.phase = 0 → l.aborted = false → manTurn s d = true → fb = manBus s d → fbLive s fb = true →
      triesOf s (32 + d) < 3 →
      ∃ t, exec (.burstTimeout d fb) s = .next t ∧ triesOf t (32 + d) = triesOf s (32 + d) + 1
        ∧ rf t (LOADER_FB_STAT_LAST_STATUS fb) = Code.timeout.val ∧ t.gate = s.gate)

/-- R12, R170, R175: the four STAGE commands on an idle ORANGERY interface. STAGE_ALLOC of a size that fits answers the lowest free handle,
STAGE_WRITE copies the span of TCM into the object, STAGE_HASH runs until its end, and STAGE_FREE frees the object; a size of zero and a
handle that is not allocated are MALFORMED, with no effect on the objects. -/
def Obligations.StagingCommands : Prop :=
  ∀ (s : State),
    (stageAllocCode s = none →
      ∃ h t, exec .stageAlloc s = .next t ∧ freeHandle s = some h ∧ rf t ORANGERY_CMD_STAT_LAST_STATUS = 0
        ∧ (∃ o, stageOf t h = some o ∧ o.mib = arg0 s ∧ o.capsule = none ∧ o.mem = []) ∧ t.tcm = s.tcm ∧ t.orang.exts = s.orang.exts)
    ∧ (∀ h o, stageOf s h = some o → stageWriteCode s h = none → tcmPoisoned s (arg1 s) (arg2 s) = false →
      ∃ t, exec (.stageWrite h) s = .next t
        ∧ stageOf t h = some (o.write (arg0 s) (tcmRead s (arg1 s) (arg2 s))) ∧ t.orang.cmd.isSome = true ∧ t.tcm = s.tcm)
    ∧ (∀ h, stageHashCode s h = none →
      ∃ t, exec (.stageHash h) s = .next t ∧ (t.orang.cmd.map fun c => (c.op, c.handle, c.off, c.len)) = some (3, h, arg0 s, arg2 s)
        ∧ t.orang.stage = s.orang.stage)
    ∧ (∀ h, stageFreeCode s h = none →
      ∃ t, exec (.stageFree h) s = .next t ∧ stageOf t h = none ∧ rf t ORANGERY_CMD_STAT_LAST_STATUS = 0)
    ∧ (arg0 s = 0 → ∃ t, exec .stageAlloc s = .next t ∧ rf t ORANGERY_CMD_STAT_LAST_STATUS = 0x0F ∧ t.orang = s.orang)
    ∧ (∀ h, stageOf s h = none → ∃ t, exec (.stageFree h) s = .next t ∧ rf t ORANGERY_CMD_STAT_LAST_STATUS = 0x0F ∧ t.orang = s.orang)

/-- R175, R276, R418, R420: an ABORT marks the running ORANGERY command; the command's own end shows ABORTED, POISONED, INTERNAL_FAULT for a hash without a lane, or OK, and frees the
interface, and a hash that ends with OK shows the Merkle root of its span; an ABORT with nothing running is REFUSED_STATE. REVOKE
takes a HELD, PARKED or QUARANTINED domain's manifest out of force. -/
def Obligations.OrangeryEndsAndRevoke : Prop :=
  ∀ (s : State),
    (∀ c, s.orang.cmd = some c → c.aborted = false →
      ∃ t, exec .orangeryAbort s = .next t ∧ t.orang.cmd = some { c with aborted := true } ∧ rf t ORANGERY_CMD_STAT_LAST_STATUS = 0)
    ∧ (s.orang.cmd = none → ∃ t, exec .orangeryAbort s = .next t ∧ rf t ORANGERY_CMD_STAT_LAST_STATUS = 4 ∧ t.orang = s.orang)
    ∧ (∀ c o, s.orang.cmd = some c → stageOf s c.handle = some o →
      ∃ t, exec .orangeryCmdDone s = .next t ∧ t.orang.cmd = none ∧ rb t ORANGERY_STAT_CMD_BUSY = false
        ∧ rf t ORANGERY_CMD_STAT_LAST_STATUS = (if c.aborted then 0x0E else if c.poisoned then 7
            else if c.op = 3 ∧ lanesOn s = 0 then Code.internalFault.val else 0)
        ∧ (c.op = 3 → 0 < c.len → lanesOn s ≠ 0 → c.aborted = false → c.poisoned = false → digestOf t ORANGERY_DIGEST = regionRoot (stageBytes o c.off c.len)))
    ∧ (∀ d, d < 48 → revokeCode s d = none →
      ∃ t, exec (.revoke d) s = .next t ∧ (t.ldr.force.find? (·.1 = d)) = none ∧ verified t d = false
        ∧ rf t ORANGERY_CMD_STAT_LAST_STATUS = 0)

/-- R151, R152, R154, R166, R168, R450: a queued re-encryption starts with a new epoch and keeps the old one as its predecessor, passes
block after block, and ends after the last with the predecessor gone. The entries of the ledger as they end. A WRITE entry that fails starts
no physical operation and marks its domain DIVERGED; an entry whose MACs of the two planes differ is not written (R164); a HEAD makes the
other half the active one with the next generation; a failed switch is tried again. -/
def Obligations.ReencryptionAndLedger : Prop :=
  (∀ (s : State),
     (∀ e q, s.orang.rekeyQ = e :: q → e < 3072 → rb s ORANGERY_STAT_REKEY_ACTIVE = false → lockdown s = false → epochsLeft s 1 = true →
       ∃ t, exec .rekeyStart s = .next t ∧ rb t ORANGERY_STAT_REKEY_ACTIVE = true ∧ rf t ORANGERY_REKEY_STAT_BLOCK = 0
         ∧ t.orang.rekeyQ = q ∧ (extOf t e).prev = (extOf s e).epoch ∧ (extOf t e).epoch = s.newEpoch.1)
     ∧ (rb s ORANGERY_STAT_REKEY_ACTIVE = true → rf s ORANGERY_REKEY_STAT_BLOCK < (extOf s (rekeyExt s)).len / 4096 →
       ∃ u, exec .rekeyBlockPassed s = .next u.releaseHeld ∧ rf u ORANGERY_REKEY_STAT_BLOCK = (rf s ORANGERY_REKEY_STAT_BLOCK + 1) % 2 ^ 17
         ∧ ctrOf u ((extOf s (rekeyExt s)).ctrBase + rf s ORANGERY_REKEY_STAT_BLOCK) = 0)
     ∧ (rb s ORANGERY_STAT_REKEY_ACTIVE = true → (extOf s (rekeyExt s)).len / 4096 ≤ rf s ORANGERY_REKEY_STAT_BLOCK →
       ∃ t, exec .rekeyDone s = .next t ∧ rb t ORANGERY_STAT_REKEY_ACTIVE = false ∧ (extOf t (rekeyExt s)).prev = 0))
  ∧ (∀ (s : State),
        (∀ code, ledger s = 2 → ledgerFull s = false → devIdle s (ledgerDev s) = true → busServes s (busOfDev s (ledgerDev s)) 2 = true →
          (devX s (ledgerDev s)).other ≠ 1 →
          exec (.ledgerAppendDone 1 true code false) s = .next (s.writeEntryOk.busServed (busOfDev s (ledgerDev s)) 2)
          ∧ exec (.ledgerAppendDone 1 false code false) s = .next ((s.writeEntryFail code).busServed (busOfDev s (ledgerDev s)) 2))
        ∧ (∀ typ ok code, serving s 0 = true → serving s 1 = true → exec (.ledgerAppendDone typ ok code true) s = .next s)
        ∧ (ledger s = 4 → s.orang.snap = [] → s.orang.retry = false → devIdle s (ledgerDev s) = true →
          busServes s (busOfDev s (ledgerDev s)) 2 = true →
          ∃ t, exec (.ledgerAppendDone 2 true 0 false) s = .next t ∧ ledger t = 3 ∧ t.orang.ledHalf = 1 - s.orang.ledHalf
            ∧ t.orang.ledGen = (s.orang.ledGen + 1) % 2 ^ 32 ∧ t.orang.snap = ledgerEntries s ∧ ∀ w ∈ t.orang.wts, w.held = false)
        ∧ (∀ code, ledger s = 4 → s.orang.snap = [] → s.orang.retry = false →
          ∃ t, exec (.ledgerAppendDone 2 false code false) s = .next t ∧ ledger t = (if s.orang.wts.any (·.held) then 5 else 2) ∧ t.orang.retry = true)
        ∧ (ledger s = 2 ∨ ledger s = 5 → s.orang.retry = true →
          ∃ t, exec .ledgerSwitchRetry s = .next t ∧ ledger t = (if ledger s = 5 then 5 else 4) ∧ t.orang.retry = false))

/-- R135, R160, R161, R172, R173: the next refetched leaf of a bus that matches an expected hash is rewritten and no longer waits; one that
matches none enters the lost-leaf table. The same judgement is made of a failing leaf outside a full table. A leaf that the re-verifier
reads, with no write-through open on it and its device idle, and that matches an expected hash, only moves it on. -/
def Obligations.LeavesAreJudged : Prop :=
  (∀ (s : State) (d r l : Nat) (data again : List Byte), lanesOn s ≠ 0 →
     (((nextRefetch s (busOfDev s (devOfPart s (extOf s (extIx d r)).srcPart))).any fun q => q.ext = extIx d r && q.leaf = l) = true →
       leafRead (expectedHashes s (extIx d r) l) data again = true →
       exec (.refetchDone d r l data again) s = .next ((s.judgeLeaf (extIx d r) l data again).busServed
         (busOfDev s (devOfPart s (extOf s (extIx d r)).srcPart)) 1)
       ∧ ((∀ w ∈ s.orang.wts, w.stage ≠ 0) → (expectedHashes s (extIx d r) l).head? = some (leafHash data) →
           (s.judgeLeaf (extIx d r) l data again).orang.lost = s.orang.lost
           ∧ (s.judgeLeaf (extIx d r) l data again).orang.refetch
             = s.orang.refetch.filter fun q => !(q.ext = extIx d r && q.leaf = l))
       ∧ ((∀ w ∈ s.orang.wts, w.stage ≠ 0) → expectedHashes s (extIx d r) l = [] → s.orang.lost.length < 256 →
           (s.judgeLeaf (extIx d r) l data again).orang.lost.contains (extIx d r, l) = true))
     ∧ (s.orang.lost.length = 256 → s.orang.lost.contains (extIx d r, l) = false → (extOf s (extIx d r)).valid = true →
       4096 * l < (extOf s (extIx d r)).len → extReadable s (extIx d r) = true →
       leafRead (expectedHashes s (extIx d r) l) data again = true →
       exec (.lostLeafRefetch d r l data again) s = .next (s.judgeLeaf (extIx d r) l data again)
       ∧ ((∀ w ∈ s.orang.wts, w.stage ≠ 0) → (s.judgeLeaf (extIx d r) l data again).orang.lost = s.orang.lost)))
  ∧ (∀ (s : State) (d r l : Nat) (data : List Byte), d < 48 → rb s ORANGERY_RV_CTRL_EN = true → rf s ORANGERY_RV_CTRL_RATE ≠ 0 → rvAt s = some (d, r, l) → lanesOn s ≠ 0 →
        rb s ORANGERY_RV_CTRL_SHADOW_EN = false → (expectedHashes s (extIx d r) l).contains (leafHash data) = true →
        (s.orang.wts.any fun w => w.ext = extIx d r && (blocksOf w.off w.len).contains l) = false →
        ∀ dev, dev = devOfPart s (extOf s (extIx d r)).srcPart → devIdle s dev = true → busServes s (busOfDev s dev) 4 = true →
        exec (.rvLeaf d r l data [] false false) s = .next ((s.busServed (busOfDev s dev) 4).rvAdvance d r l)
          ∧ ((s.busServed (busOfDev s dev) 4).rvAdvance d r l).ldr = s.ldr)

/-- R41, R42, R45, R145, R148, R149: a line of the active shadow that has been written stands at its address as the ciphertext of its
plaintext under its line index and its epoch, and its MAC at M + A/8; where it passes its check the stored MAC is the one that the check computes under the
freshness required. An F-bus whose bank loses its supply floats; until the map is applied an F-bus of a present bank is deselected and in reset, and
the root configuration flash is so until the ROM of a start reads copy A. An interface that a RETRAIN trains leaves its reset levels. -/
def Obligations.StoredLinesAndIdleBalls : Prop :=
  (∀ (s : State) (x la : Nat), cap32 s = true → 64 * la ≤ 0x5FFFFFFFF → heldTag s x la ≠ ⟨0, 0⟩ →
     (∀ k, k < 64 → dramByte s x (64 * la + k) = (shadowCipher s x la)[k]?)
     ∧ (∀ k, k < 8 → dramByte s x (0x71C000000 + 8 * la + k) = (shadowMac s x la)[k]?)
     ∧ dramByte s x 0x7FF800000 = none)
  ∧ (∀ (s : State) (x e off : Nat), lineFresh s x e off = true →
       shadowMac s x (((extOf s e).base + off) / 64) = checkMac s x e off)
  ∧ (∀ (s : State) (b : Nat), b < 32 →
       (s.gate.applied = false → bankClass s (bankOfFb b) ≠ 0 →
         ∃ t, exec (.bankClassChange (bankOfFb b) 0) s = .next t ∧ fbBalls t b = ⟨[.highZ, .highZ, .highZ, .highZ], .highZ, .highZ, .highZ⟩)
       ∧ (bankUp s (bankOfFb b) = true → bankFloated s (bankOfFb b) = false → rb s FBUS_STAT_MAP_APPLIED = false →
         fbBalls s b = ⟨[.high, .high, .high, .high], .low, .low, .highZ⟩))
  ∧ (∀ (s : State), bankUp s bankSYB = true → bankFloated s bankSYB = false →
       (s.boot.cfgBus = false → cfgBalls s = ⟨[.high, .high], .low, .low, .highZ⟩)
       ∧ (s.boot.cfgBus = true → cfgBalls s = ⟨[.high, .high], .low, .high, .highZ⟩))
  ∧ (∀ (s : State) (w : Nat), w / 65536 % 4 = 1 → planeSt s 0 = plISOLATED → s.boot.supplies.testBit 0 = true →
       ∃ t, exec (.retrain0 w) s = .next t ∧ lpBalls t 0 = ⟨.high, .active, .active⟩)

/-- R231, R238, R239: a complete frame of a non-addressed class whose action is EMULATE. WRITE_ENABLE and WRITE_DISABLE set and clear WEL;
RESET_ENABLE arms a RESET, which takes the device to its protocol reset; MODE rows set and clear the address, QPI and octal modes;
READ_STATUS and READ_ID give the emulated register and the JEDEC bytes. -/
def Obligations.EmulatedFrames : Prop :=
  ∀ (s : State) (f : Frame) (d : Dec),
    (emulated s f 4 d → ∃ t, exec (.writeEnable f) s = .next t ∧ rb t (CH_PORT_STAT_WEL f.ch) = true ∧ t.orang = s.orang)
    ∧ (emulated s f 5 d → ∃ t, exec (.writeDisable f) s = .next t ∧ rb t (CH_PORT_STAT_WEL f.ch) = false ∧ t.orang = s.orang)
    ∧ (emulated s f 12 d → ∃ t, exec (.resetEnable f) s = .next t ∧ (chanOf t f.ch).rstArmed = true ∧ t.orang = s.orang)
    ∧ (emulated s f 13 d → rowArg d.row = 0 ∨ (chanOf s f.ch).rstArmed = true →
      ∃ t, exec (.flashReset f) s = .next t ∧ rb t (CH_PORT_STAT_WEL f.ch) = false ∧ rb t (CH_PORT_STAT_SUSPENDED f.ch) = false
        ∧ rb t (CH_PORT_EVT_HOST_RESET f.ch) = true ∧ (chanOf t f.ch).rstArmed = false ∧ t.orang = s.orang)
    ∧ (emulated s f 6 d → 0 < outLen (atFrame s f) f d →
      ∃ t, exec (.readStatus f) s = .next t ∧ t.out = .bytes (List.replicate (outLen (atFrame s f) f d) (BitVec.ofNat 8 (emuReg s f.ch (rowArg d.row))))
        ∧ t.orang = s.orang)
    ∧ (emulated s f 8 d → 0 < outLen (atFrame s f) f d →
      ∃ t, exec (.readId f) s = .next t ∧ t.out = .bytes ((List.range (outLen (atFrame s f) f d)).map fun i => d.p.jedec.getD i 0) ∧ t.orang = s.orang)
    ∧ (emulated s f 14 d → rowNeedsWel d.row = false →
      (rowArg d.row = 1 → ∃ t, exec (.modeAddr4Set f) s = .next t ∧ rb t (CH_PORT_STAT_ADDR4 f.ch) = true)
      ∧ (rowArg d.row = 2 → ∃ t, exec (.modeAddr4Clear f) s = .next t ∧ rb t (CH_PORT_STAT_ADDR4 f.ch) = false)
      ∧ (rowArg d.row = 3 → ∃ t, exec (.modeQpiSet f) s = .next t ∧ rb t (CH_PORT_STAT_QPI f.ch) = true)
      ∧ (rowArg d.row = 4 → ∃ t, exec (.modeQpiClear f) s = .next t ∧ rb t (CH_PORT_STAT_QPI f.ch) = false)
      ∧ (rowArg d.row = 5 → ∃ t, exec (.modeOctal8dSet f) s = .next t ∧ rb t (CH_PORT_STAT_OCTAL_8D f.ch) = true)
      ∧ (rowArg d.row = 6 → ∃ t, exec (.modeOctal8dClear f) s = .next t ∧ rb t (CH_PORT_STAT_OCTAL_8D f.ch) = false)
      ∧ (rowArg d.row = 7 → d.p.hasRole roleEFAIL = true → d.p.role roleEFAIL < 32 →
          ∃ t, exec (.modeFailClear f) s = .next t ∧ roleBit t f.ch roleEFAIL true = false))

/-- R219, R225, R236, R238: WRITE_STATUS puts the bytes received into the register under WMASK and sets WIP; an invalid frame is counted, marked
INVALID_OP and has no other effect on the device; SUSPEND and RESUME move WIP and SUSPENDED. -/
def Obligations.StatusWritesAndSuspend : Prop :=
  ∀ (s : State) (f : Frame) (d : Dec),
    (emulated s f 7 d → (rowNeedsWel d.row = false ∨ rb s (CH_PORT_STAT_WEL f.ch) = true) → f.wpLow = false →
      rowArg d.row < d.p.regCount → rowArg d.row < 4 → ∀ b, dataIn (atFrame s f) f d = [b] →
      ∃ t, exec (.writeStatus f) s = .next t ∧ rb t (CH_PORT_STAT_WIP f.ch) = true ∧ t.orang = s.orang
        ∧ rf t (sregFld f.ch (rowArg d.row)) = (rf s (sregFld f.ch (rowArg d.row)) &&& (255 - d.p.wmask (rowArg d.row)))
            ||| (b.toNat &&& d.p.wmask (rowArg d.row)))
    ∧ (executes s f 15 d →
      ∃ t, exec (.invalidFrame f) s = .next t ∧ rb t (CH_TR_EVT_INVALID_OP f.ch) = true ∧ t.orang = s.orang ∧ t.out = .none
        ∧ rf t (CH_TR_LASTDEC_CLASS f.ch) = 15 ∧ rb t (CH_PORT_STAT_WIP f.ch) = rb s (CH_PORT_STAT_WIP f.ch))
    ∧ (emulated s f 10 d → rb s (CH_PORT_STAT_WIP f.ch) = true → canSuspend (chanOf s f.ch) = true →
      ∃ t, exec (.suspend f) s = .next t ∧ rb t (CH_PORT_STAT_SUSPENDED f.ch) = true ∧ rb t (CH_PORT_STAT_WIP f.ch) = false)
    ∧ (emulated s f 11 d → rb s (CH_PORT_STAT_SUSPENDED f.ch) = true →
      ∃ t, exec (.resume f) s = .next t ∧ rb t (CH_PORT_STAT_SUSPENDED f.ch) = false ∧ rb t (CH_PORT_STAT_WIP f.ch) = true)

/-- R184, R185, R189, R190, R191, R192, R200, R231: a READ within one line of a served region delivers the plane's bytes: of the hot tier
where the action is SERVE_PINNED and the leaf has a granule, else of the DRAM shadow. Every line of the channel passes in every serving
plane, the planes agree and no leaf is lost, so that the lines requested ahead change nothing of the shadow either. READ_SFDP under EMULATE
delivers the SFDP image and 0xFF past its end while a plane serves; without a serving plane every byte is POISON_FILL and POISON is set. -/
def Obligations.ReadsDeliver : Prop :=
  (∀ (s : State) (f : Frame) (d : Dec) (e ea n off : Nat), executes s f 0 d → f.phase = 2 → f.decDiffer = false → f.shortAt = none → f.lines = [] →
     n = outLen (atFrame s f) f d → 0 < n → ea = effAddr (atFrame s f) f.ch d.p d.row (frameAddr f d) → ea % 64 + n ≤ 64 →
     (blockAct d.p 0 ea).1 % 8 ≤ 1 → extAt s f.ch ea = some e → off = ea - (extOf s e).chanOff → serving s 0 = true → s.orang.lost = [] →
     (∀ b e', extAt s f.ch b = some e' → ∀ x, x < 2 → serving s x = true → ∀ hot, lineFresh s x e' (b - (extOf s e').chanOff) = true
       ∧ planeByteIn s x e' (b - (extOf s e').chanOff) hot = planeByteIn s 0 e' (b - (extOf s e').chanOff) hot) →
     (∀ i, i < n → extAt s f.ch (ea + i) = some e) →
     ∃ t, exec (.read f) s = .next t ∧ t.orang = s.orang
       ∧ t.out = .bytes ((List.range n).map fun i =>
           planeByteIn s 0 e (off + i) (decide ((blockAct d.p 0 ea).1 % 8 = acPINNED) && inHot s e off)))
  ∧ (∀ (s : State) (f : Frame) (d : Dec) (n : Nat), executes s f 9 d → f.phase = 2 → f.decDiffer = false → f.shortAt = none →
        n = outLen (atFrame s f) f d → 0 < n → d.p.globalAct 9 % 8 = acEMULATE →
        (anyServing s = true → ∃ t, exec (.readSfdp f) s = .next t ∧ t.orang = s.orang ∧ t.out = .bytes ((List.range n).map fun i =>
            if frameAddr f d + i < d.p.sfdp.length then d.p.sfdp.getD (frameAddr f d + i) 0 else 0xFF))
        ∧ (anyServing s = false → ∃ t, exec (.readSfdp f) s = .next t ∧ t.out = .bytes (List.replicate n d.p.poisonFill)
            ∧ rb t (CH_PORT_EVT_POISON f.ch) = true))

/-- R194, R204, R230: with WEL set, a PROGRAM, ERASE_SECTOR or ERASE_CHIP frame is decided for its whole range, and outside a suspended range its
action is applied; under DENY_SILENT the frame is counted, WIP is set and the shadow stays as it is. Without WEL nothing happens. -/
def Obligations.WriteFramesAreDecided : Prop :=
  ∀ (s : State) (f : Frame) (d : Dec),
    (executes s f 1 d → f.phase = 2 → f.whole = true → dataIn (atFrame s f) f d ≠ [] → rb s (CH_PORT_STAT_WEL f.ch) = true →
      ∀ ea base data act j, ea = effAddr (atFrame s f) f.ch d.p d.row (frameAddr f d) → data = (pageSpan d.p.pageSize ea (dataIn (atFrame s f) f d)).2 →
        base = ea - ea % d.p.pageSize + (pageSpan d.p.pageSize ea (dataIn (atFrame s f) f d)).1 → touchesSuspended (atFrame s f) f.ch base data.length = false →
        rangeAct d.p 1 base data.length = (act, j) →
        exec (.program f) s = .next ((atFrame s f).writeFrame f.ch d.p d.opc 1 act j (rowAlert d.row) (decMismatch (atFrame s f) f)
          ⟨1, base, data.length, data, none, f.lines, f.recheck⟩).1)
    ∧ (executes s f 2 d → rb s (CH_PORT_STAT_WEL f.ch) = true →
      ∀ lo act j, lo = effAddr (atFrame s f) f.ch d.p d.row (frameAddr f d) - effAddr (atFrame s f) f.ch d.p d.row (frameAddr f d) % 2 ^ rowArg d.row →
        touchesSuspended (atFrame s f) f.ch lo (2 ^ rowArg d.row) = false → rangeAct d.p 2 lo (2 ^ rowArg d.row) = (act, j) →
        exec (.eraseSector f) s = .next ((atFrame s f).writeFrame f.ch d.p d.opc 2 act j (rowAlert d.row) (decMismatch (atFrame s f) f)
          ⟨2, lo, 2 ^ rowArg d.row, [], none, [], f.recheck⟩).1)
    ∧ (executes s f 3 d → rb s (CH_PORT_STAT_WEL f.ch) = true → touchesSuspended (atFrame s f) f.ch 0 d.p.devSize = false →
      exec (.eraseChip f) s = .next ((atFrame s f).writeFrame f.ch d.p d.opc 3 (d.p.globalAct 3) 0xFF (rowAlert d.row)
        (decMismatch (atFrame s f) f) ⟨3, 0, d.p.devSize, [], none, [], f.recheck⟩).1)
    ∧ (∀ p opc cls act j al q, f.ch < 96 → act % 8 = acSILENT → anyServing s = true → q.tag = none →
      rb (s.writeFrame f.ch p opc cls act j al false q).1 (CH_PORT_STAT_WIP f.ch) = true
      ∧ (s.writeFrame f.ch p opc cls act j al false q).1.orang = s.orang)
    ∧ (executes s f 1 d → rb s (CH_PORT_STAT_WEL f.ch) = false → exec (.program f) s = .next (atFrame s f))
    ∧ (executes s f 2 d → rb s (CH_PORT_STAT_WEL f.ch) = false → exec (.eraseSector f) s = .next (atFrame s f))
    ∧ (executes s f 3 d → rb s (CH_PORT_STAT_WEL f.ch) = false → exec (.eraseChip f) s = .next (atFrame s f))

/-- R179, R193, R194, R202, R205: events at a port beside frames. A late line of a plane is counted, and the 16th in succession isolates the
plane; a late line that fails is repaired from the other plane; the pulse and CHn_ALERT_CTL.CLEAR deassert the alert; WIP clears behind
the emulated minimum; a failed front end hands over to the spare, and with none left the fault is uncovered; CHn_RST_N resets the device. -/
def Obligations.PortEventsAct : Prop :=
  ∀ (s : State) (ch : Nat),
    (∀ x, x < 2 → portLive s ch = true → serving s 0 = true → serving s 1 = true →
      (lateOf s x < 15 → ∃ t, exec (.lineLate ch x) s = .next t ∧ rb t (CH_PORT_EVT_LATE ch) = true ∧ lateOf t x = lateOf s x + 1
        ∧ planeSt t x = plSERVING ∧ onlyPort ch s t ∧ t.orang = s.orang)
      ∧ (15 ≤ lateOf s x → ∃ t, exec (.lineLate ch x) s = .next t ∧ rb t (CH_PORT_EVT_LATE ch) = true ∧ lateOf t x = 0
        ∧ planeSt t x = plISOLATED ∧ planeSt t (1 - x) = plSERVING ∧ t.orang = s.orang))
    ∧ (∀ x dom r off, x < 2 → ch < 96 → serving s 0 = true → serving s 1 = true → (extOf s (extIx dom r)).valid = true →
      (extOf s (extIx dom r)).base % 64 = 0 → off < (extOf s (extIx dom r)).len →
      ∃ t, exec (.lateLineArrival ch x dom r off true) s = .next t
        ∧ (∀ i, i < 64 → planeByte t x (extIx dom r) (off / 64 * 64 + i) = planeByte s (1 - x) (extIx dom r) (off / 64 * 64 + i))
        ∧ planeOf t (1 - x) = planeOf s (1 - x))
    ∧ (∀ x dom r off, exec (.lateLineArrival ch x dom r off false) s = .next s)
    ∧ (ch < 96 → rf s (CH_PORT_CFG_MODE ch) ≠ modeESPI → rf s (CH_PORT_CFG_ALERT_MODE ch) = 1 →
      exec (.alertPulseEnd ch) s = .next (s.setF (CH_PORT_STAT_ALERT_OUT ch) 0))
    ∧ (ch < 96 → ∀ w, w.testBit 0 = true →
      ∃ t, exec (.alertClear ch w) s = .next t ∧ rf t (CH_ALERT_CTL_CAUSE ch) = 0 ∧ onlyPort ch s t
        ∧ (rf s (CH_PORT_CFG_MODE ch) ≠ modeESPI → rf s (CH_PORT_CFG_ALERT_MODE ch) = 0 → rb t (CH_PORT_STAT_ALERT_OUT ch) = false))
    ∧ (ch < 96 → (chanOf s ch).ops ≠ [] → (∀ o ∈ (chanOf s ch).ops, o.compDone = true ∧ o.suspended = false ∧ o.kind ≠ 7) →
      ∃ t, exec (.wipClear ch) s = .next t ∧ (chanOf t ch).ops = [] ∧ rb t (CH_PORT_STAT_WIP ch) = false
        ∧ rb t (CH_PORT_STAT_WEL ch) = false ∧ rb t (CH_PORT_EVT_WRITE_DONE ch) = true ∧ onlyPort ch s t)
    ∧ (ch < 96 → (chanOf s ch).feBad = 0 → rf s (CH_PORT_STAT_FE_ACTIVE ch) = 0 →
      ∃ t, exec (.feTakeover ch) s = .next t ∧ rf t (CH_PORT_STAT_FE_ACTIVE ch) = 1 ∧ rb t (CH_PORT_STAT_FE_SPARE_OK ch) = false
        ∧ rb t (CH_PORT_EVT_FE_SWITCH ch) = true ∧ rb t SYSCTL_SPARE_EVT_FE_USED = true ∧ t.orang = s.orang)
    ∧ (ch < 96 → (chanOf s ch).feBad = 1 → rf s (CH_PORT_STAT_FE_ACTIVE ch) = 1 → rb s SYSCTL_FAULT_LATCHED = false →
      ∃ t, exec (.feTakeover ch) s = .next t ∧ (chanOf t ch).feBad = 3 ∧ rf t SYSCTL_FAULT_CAUSE = 3 ∧ rf t SYSCTL_FAULT_UNIT = ch
        ∧ rb t SYSCTL_PIN_STAT_FAULT_OUT = true)
    ∧ (portLive s ch = true →
      ∃ t, exec (.chnRstNPulse ch) s = .next t ∧ rb t (CH_PORT_STAT_WEL ch) = false ∧ rb t (CH_PORT_STAT_CONT_READ ch) = false
        ∧ rb t (CH_PORT_STAT_SUSPENDED ch) = false ∧ rb t (CH_PORT_EVT_HOST_RESET ch) = true
        ∧ rb t (CH_PORT_STAT_WIP ch) = ((chanOf s ch).ops.any fun o => o.kind ≠ 7 && !o.compDone) ∧ onlyPort ch s t ∧ t.orang = s.orang)

/-- R207 to R210: eSPI. A flash request, a read of at most the size that the controller has set, is answered with DEFER under its free tag; a read within one served line holds the shadow's bytes; a
denied write or erase ends unsuccessful and changes no shadow; a completion joins the ready list and is collected in parts of 64 bytes in
the order the completions became ready, and one whose lines are no longer current ends unsuccessful; a request under a tag that is outstanding
is not answered; SET_CONFIGURATION, a protocol error and an eSPI reset act on the link. -/
def Obligations.EspiRequestsAndCompletions : Prop :=
  ∀ (s : State) (ch tag : Nat),
    (∀ addr len dd ls, espiLive s ch = true → tagFree s ch tag = true → 1 ≤ len → len ≤ (chanOf s ch).espiMax →
      ∃ t, exec (.espiFlashRead ch tag addr len ls dd) s = .next t ∧ t.out = .deferred
        ∧ ((chanOf t ch).espi.any fun q => q.tag = tag && q.addr = addr && q.len = len) = true)
    ∧ (∀ addr len ea e, espiLive s ch = true → tagFree s ch tag = true → 1 ≤ len → len ≤ (chanOf s ch).espiMax → ea = addr % (progOf s ch).devSize →
      ea % 64 + len ≤ 64 → ea + len ≤ (progOf s ch).devSize → (blockAct (progOf s ch) 0 ea).1 % 8 ≤ 1 → extAt s ch ea = some e →
      serving s 0 = true → serving s 1 = false → lineFresh s 0 e (ea - (extOf s e).chanOff) = true →
      s.orang.lost.contains (e, (ea - (extOf s e).chanOff) / 4096) = false →
      ∃ t, exec (.espiFlashRead ch tag addr len [] false) s = .next t ∧ t.orang = s.orang
        ∧ ((chanOf t ch).espi.find? (·.tag = tag)).map (·.data)
          = some ((List.range len).map fun i => planeByteIn s 0 e (ea - (extOf s e).chanOff + i)
            (decide ((blockAct (progOf s ch) 0 ea).1 % 8 = acPINNED) && inHot s e (ea - (extOf s e).chanOff))))
    ∧ (∀ addr len dd ls, espiLive s ch = true → ((chanOf s ch).espi.any fun q => q.tag = tag) = true →
      exec (.espiFlashRead ch tag addr len ls dd) s = .next ((s.raise (CH_PORT_EVT_PROT_ERR ch)).ret .noResponse))
    ∧ (∀ addr data lo act j ls rc, espiLive s ch = true → tagFree s ch tag = true → data ≠ [] → data.length ≤ 64 →
      lo = addr % (progOf s ch).devSize → lo + data.length ≤ (progOf s ch).devSize →
      rangeAct (progOf s ch) 1 lo data.length = (act, j) →
      exec (.espiFlashWrite ch tag addr data ls rc false) s = .next (s.espiWrite ch 2 1 lo data.length tag (data.map some) ls rc false)
      ∧ (act % 8 = acDENYFILL → ∃ t, exec (.espiFlashWrite ch tag addr data ls rc false) s = .next t ∧ t.out = .deferred
          ∧ tag ∈ (chanOf t ch).ready ∧ t.orang = s.orang))
    ∧ (∀ addr size lo act j rc, espiLive s ch = true → tagFree s ch tag = true → size = 4096 ∨ size = 65536 →
      lo = addr % (progOf s ch).devSize - addr % (progOf s ch).devSize % size → rangeAct (progOf s ch) 2 lo size = (act, j) →
      exec (.espiFlashErase ch tag addr size rc false) s = .next (s.espiWrite ch 3 2 lo size tag [] [] rc false)
      ∧ (act % 8 = acSILENT → anyServing s = true → ∃ t, exec (.espiFlashErase ch tag addr size rc false) s = .next t ∧ t.out = .deferred
          ∧ ((chanOf t ch).ops.any fun o => o.kind = 2 && o.lo = lo && o.len = size && o.tag = some tag) = true
          ∧ rb t (CH_PORT_STAT_WIP ch) = true ∧ t.orang = s.orang))
    ∧ (∀ q, espiLive s ch = true → (chanOf s ch).espi.find? (·.tag = tag) = some q → q.state = 0 → q.kind = 0 →
      (q.data ≠ [] → tag ∉ (chanOf s ch).refetchWait → tag ∉ (chanOf s ch).ready →
        ∃ t, exec (.espiCompletionReady ch tag) s = .next t ∧ (chanOf t ch).ready = (chanOf s ch).ready ++ [tag]
          ∧ rb t (CH_PORT_STAT_ALERT_OUT ch) = rb s (CH_ESPI_STAT_ALERT_PIN ch) ∧ t.orang = s.orang)
      ∧ (tag ∈ (chanOf s ch).refetchWait →
        ∃ t, exec (.espiCompletionReady ch tag) s = .next t ∧ (chanOf t ch).ready = (chanOf s ch).ready ++ [tag]
          ∧ ((chanOf t ch).espi.find? (·.tag = tag)).map (fun q => (q.state, q.data)) = some (2, [])
          ∧ rb t (CH_PORT_EVT_POISON ch) = true ∧ t.orang = s.orang))
    ∧ (∀ rest q, espiLive s ch = true → (chanOf s ch).ready = tag :: rest → (chanOf s ch).espi.find? (·.tag = tag) = some q →
      (q.parts.any (lineStale s) = true → ∃ t, exec (.getFlashC ch) s = .next t ∧ (chanOf t ch).ready = rest
        ∧ t.out = .flashC tag false 0 [] ∧ rb t (CH_PORT_EVT_POISON ch) = true)
      ∧ (q.parts.any (lineStale s) = false → q.data.length ≤ 64 → ∃ t, exec (.getFlashC ch) s = .next t ∧ (chanOf t ch).ready = rest
        ∧ t.out = .flashC tag (decide (q.state ≠ 2)) (if q.state = 3 then 3 else 0) q.data
        ∧ (chanOf t ch).espi = (chanOf s ch).espi.filter (·.tag ≠ tag) ∧ t.orang = s.orang)
      ∧ (q.parts.any (lineStale s) = false → 64 < q.data.length → ∃ t, exec (.getFlashC ch) s = .next t ∧ (chanOf t ch).ready = tag :: rest
        ∧ t.out = .flashC tag (decide (q.state ≠ 2)) (if q.state = 3 then 2 else 1) (q.data.take 64)
        ∧ ((chanOf t ch).espi.find? (·.tag = tag)).map (·.data) = some (q.data.drop 64) ∧ t.orang = s.orang))
    ∧ (portLive s ch = true → (progOf s ch).mode = modeESPI →
      (∀ freq io mx pin fl oob, ∃ t, exec (.setConfiguration ch freq io mx pin fl oob) s = .next t
        ∧ rf t (CH_ESPI_STAT_FREQ ch) = (if freq ≤ (progOf s ch).espiFreq then freq else rf s (CH_ESPI_STAT_FREQ ch))
        ∧ rf t (CH_ESPI_STAT_IO ch) = (if io ≤ (progOf s ch).espiIo then io else rf s (CH_ESPI_STAT_IO ch))
        ∧ (chanOf t ch).espiMax = (if readSizes.contains mx then mx else (chanOf s ch).espiMax)
        ∧ rb t (CH_ESPI_STAT_ALERT_PIN ch) = pin ∧ rb t (CH_ESPI_STAT_FLASH_EN ch) = fl ∧ rb t (CH_ESPI_STAT_OOB_EN ch) = oob
        ∧ rb t (CH_PORT_STAT_ESPI_READY ch) = fl ∧ onlyPort ch s t)
      ∧ exec (.espiProtocolError ch) s = .next ((s.raise (CH_PORT_EVT_PROT_ERR ch)).ret .noResponse)
      ∧ ∃ t, exec (.espiReset ch) s = .next t ∧ (chanOf t ch).espi = [] ∧ (chanOf t ch).ready = []
        ∧ rb t (CH_PORT_STAT_ESPI_READY ch) = false ∧ rb t (CH_PORT_STAT_WEL ch) = false ∧ onlyPort ch s t ∧ t.orang = s.orang)

/-- R240 to R244: the Trellis commands. LOAD copies the program into the pending slot; its end measures it and leaves LOADED, or EMPTY with the
check index; ACTIVATE takes every LOADED channel it names to SWAP_PENDING; DISCARD empties the slot; the swap makes the pending program
the active one, moves its measurement, and leaves WEL, WIP, SUSPENDED, CONT_READ and the emulated registers where a program was active
before. No earlier LOAD of the channel still has retry-after time left (R14). -/
def Obligations.TrellisCommandsAndSwap : Prop :=
  ∀ (s : State) (ch : Nat), ch < 96 → early s ((trellisIf ch).key 1) = false →
    (∀ len, 3200 ≤ len → len ≤ 5120 → rf s (CH_TR_CMD_ADDR_ADDR ch) % 8 = 0 → inTcm (rf s (CH_TR_CMD_ADDR_ADDR ch)) len = true →
      (pendOf s ch ≠ pendLOADING → pendOf s ch ≠ pendSWAP →
        ∃ t, exec (.load ch len) s = .next t ∧ pendOf t ch = pendLOADING
          ∧ (chanOf t ch).pend = tcmRead s (rf s (CH_TR_CMD_ADDR_ADDR ch)) len ∧ (chanOf t ch).prog = (chanOf s ch).prog
          ∧ onlyPort ch s t ∧ t.tcm = s.tcm)
      ∧ (pendOf s ch = pendSWAP → ∃ t, exec (.load ch len) s = .next t ∧ rf t (CH_TR_CMD_STAT_LAST_STATUS ch) = 1
          ∧ rf t (CH_TR_CMD_STAT_RESULT ch) = 1 ∧ chanOf t ch = chanOf s ch))
    ∧ (∀ len, len < 3200 ∨ 5120 < len → ∃ t, exec (.load ch len) s = .next t ∧ rf t (CH_TR_CMD_STAT_LAST_STATUS ch) = 0xF
        ∧ chanOf t ch = chanOf s ch ∧ onlyPort ch s t)
    ∧ (pendOf s ch = pendLOADING →
      ∃ t, exec (.loadDone ch) s = .next t ∧ rf t (CH_TR_CMD_STAT_LAST_OP ch) = 1 ∧ rb t (CH_TR_EVT_CMD_DONE ch) = true ∧ onlyPort ch s t
        ∧ (∀ i, i < 12 → reg t (CH_TR_PMEAS ch i) = BitVec.ofNat 32 (fieldAt (sha384 (chanOf s ch).pend) (4 * i) 4))
        ∧ ((chanOf s ch).loadCode = 0 → pendOf t ch = pendLOADED ∧ rf t (CH_TR_CMD_STAT_LAST_STATUS ch) = 0
            ∧ (chanOf t ch).pend = (chanOf s ch).pend)
        ∧ (0 < (chanOf s ch).loadCode → (chanOf s ch).loadCode < 2 ^ 16 → pendOf t ch = pendEMPTY
            ∧ rf t (CH_TR_CMD_STAT_LAST_STATUS ch) = 0xF ∧ rf t (CH_TR_CMD_STAT_RESULT ch) = (chanOf s ch).loadCode))
    ∧ (activateCode s ch = none →
      ∃ t, exec (.activate ch) s = .next t ∧ rf t (CH_TR_CMD_STAT_LAST_STATUS ch) = 0
        ∧ (∀ c, c < 96 → pendOf t c = if c ∈ activateSet s ch ∧ pendOf s c = pendLOADED then pendSWAP else pendOf s c))
    ∧ (∀ d, domOfChan s ch = some d → rf s (CH_TR_CMD_GEN_GEN ch) ≠ domGen s d →
      ∃ t, exec (.activate ch) s = .next t ∧ rf t (CH_TR_CMD_STAT_LAST_STATUS ch) = 5 ∧ t.chans = s.chans ∧ onlyPort ch s t)
    ∧ (pendOf s ch = pendLOADED →
      ∃ t, exec (.discard ch) s = .next t ∧ pendOf t ch = pendEMPTY ∧ (chanOf t ch).pend = [] ∧ (chanOf t ch).prog = (chanOf s ch).prog
        ∧ rf t (CH_TR_CMD_STAT_LAST_STATUS ch) = 0 ∧ onlyPort ch s t)
    ∧ (pendOf s ch ≠ pendLOADED → ∃ t, exec (.discard ch) s = .next t ∧ rf t (CH_TR_CMD_STAT_LAST_STATUS ch) = 4 ∧ t.chans = s.chans)
    ∧ (pendOf s ch = pendSWAP →
      ∃ t, exec (.swap ch) s = .next t ∧ (chanOf t ch).prog = some (chanOf s ch).pend ∧ (chanOf t ch).pend = []
        ∧ pendOf t ch = pendEMPTY ∧ rf t (CH_TR_STAT_ACTIVE_BANK ch) = 1 - rf s (CH_TR_STAT_ACTIVE_BANK ch)
        ∧ rb t (CH_TR_EVT_SWAPPED ch) = true ∧ (∀ i, i < 12 → reg t (CH_TR_MEAS ch i) = reg s (CH_TR_PMEAS ch i)) ∧ onlyPort ch s t
        ∧ ((chanOf s ch).first = false → reg t (CH_TR_SREG ch) = reg s (CH_TR_SREG ch) ∧ reg t (CH_PORT_STAT ch) = reg s (CH_PORT_STAT ch)))
    ∧ (pendOf s ch ≠ pendSWAP → exec (.swap ch) s = .next s)

/-- R249 to R251, R263: APPLY_MAP copies the map and begins discovery; discovery leaves every configured device READY or FAILED by the steps of
R249; REDISCOVER takes one FAILED device through them again; the tap follows the passing side within its bounds; a write of the bounds
narrows them until the lock. -/
def Obligations.MapDiscoveryAndTrim : Prop :=
  ∀ (s : State),
    (∀ len m, mapAt s len = some m → mode s = moASSEMBLY → rb s FBUS_STAT_MAP_APPLIED = false →
      ∃ t, exec (.applyMap len) s = .next t ∧ t.fbus.map = m ∧ t.fbus.discovering = true ∧ rb t FBUS_STAT_MAP_APPLIED = true
        ∧ (∀ i b, i < 32 → m.buses[i]? = some b → rf t (FBUS_FB_TRIM_TRIM_MIN i) = b.trimMin % 256
            ∧ rf t (FBUS_FB_TRIM_TRIM_MAX i) = b.trimMax % 256 ∧ rb t (FBUS_FB_TRIM_TRACK_EN i) = b.track))
    ∧ (∀ len, mapAt s len = none → ∃ t, exec (.applyMap len) s = .next t ∧ rf t FBUS_CMD_STAT_LAST_STATUS = 0xF ∧ t.fbus = s.fbus)
    ∧ (∀ devs, s.fbus.discovering = true → s.fbus.map.devs.length ≤ 128 → (∀ d ∈ s.fbus.map.devs, d.bus < 32) →
      ∃ t, exec (.discoveryDone devs) s = .next t ∧ t.fbus.discovering = false ∧ rb t FBUS_STAT_DISC_DONE = true
        ∧ rf t FBUS_CMD_STAT_LAST_STATUS = 0
        ∧ ∀ i d, s.fbus.map.devs[i]? = some d → rf t (FBUS_DEV_STAT_STATE i) =
            (match devs.find? (·.dev = i) with
              | some o => if fbLive s d.bus = true ∧ (judgeDev s d o).1 = .ok then dvREADY else dvFAILED
              | none => dvFAILED))
    ∧ (∀ dev, dev < s.fbus.map.devs.length → rf s (FBUS_DEV_STAT_STATE dev) = dvFAILED → lockdown s = false →
      exec (.rediscover dev) s = .next { s with fbus := { s.fbus with redisc := s.fbus.redisc ++ [dev] } })
    ∧ (∀ dev, s.fbus.map.devs.length ≤ dev →
      ∃ t, exec (.rediscover dev) s = .next t ∧ rf t FBUS_CMD_STAT_LAST_STATUS = 0xF ∧ t.fbus = s.fbus)
    ∧ (∀ i d o, s.fbus.redisc.contains i = true → s.fbus.map.devs[i]? = some d → i < 128 → d.bus < 32 → o.dev = i → fbLive s d.bus = true →
      ∃ t, exec (.rediscoverDone o) s = .next t ∧ t.fbus.redisc = s.fbus.redisc.erase i ∧ rf t FBUS_CMD_STAT_LAST_OP = 2
        ∧ rf t (FBUS_DEV_STAT_STATE i) = (if (judgeDev s d o).1 = .ok then dvREADY else dvFAILED)
        ∧ rf t FBUS_CMD_STAT_LAST_STATUS = (judgeDev s d o).1.val)
    ∧ (∀ dev d taps b lo hi tap u, s.fbus.map.devs[dev]? = some d → d.bus = b → b < 32 → dev < 128 → rb s (FBUS_FB_TRIM_TRACK_EN b) = true →
      rf s (FBUS_DEV_STAT_STATE dev) = dvREADY → devIdle s dev = true → busServes s b 4 = true → lo = rf s (FBUS_FB_TRIM_TRIM_MIN b) →
      hi = rf s (FBUS_FB_TRIM_TRIM_MAX b) → tap = (devX s dev).tap → u = s.busServed b 4 →
      exec (.trimTrack dev true true taps) s = .next (u.setTap dev b tap)
      ∧ (lo < tap → tap ≤ hi + 1 → exec (.trimTrack dev true false taps) s = .next (u.setTap dev b (tap - 1)))
      ∧ (lo ≤ tap + 1 → tap < hi → exec (.trimTrack dev false true taps) s = .next (u.setTap dev b (tap + 1)))
      ∧ (tap ≤ lo → exec (.trimTrack dev true false taps) s = .next ((u.setTap dev b lo).trimClamp b))
      ∧ (lo ≤ tap + 1 → hi ≤ tap → exec (.trimTrack dev false true taps) s = .next ((u.setTap dev b hi).trimClamp b))
      ∧ (∀ c, centreTap taps lo hi = some c → exec (.trimTrack dev false false taps) s = .next (u.setTap dev b c))
      ∧ (centreTap taps lo hi = none →
          ∃ t, exec (.trimTrack dev false false taps) s = .next t ∧ rf t (FBUS_DEV_STAT_STATE dev) = dvFAILED
            ∧ rf t (FBUS_DEV_STAT_FAIL_CODE dev) = 0xB ∧ rb t FBUS_EVT_DEV_FAILED = true)
      ∧ (∀ v, (devX (u.setTap dev b v) dev).tap = v ∧ rf (u.setTap dev b v) (FBUS_FB_TRIM_TAP b) = v % 128))
    ∧ (∀ b w, b < 32 → rb s FBUS_CTRL_LOCK = false →
      (trimOk s b w = true → ∃ t, exec (.trimWrite b w) s = .next t ∧ rf t (FBUS_FB_TRIM_TRIM_MIN b) = bitsAt w 8 8
        ∧ rf t (FBUS_FB_TRIM_TRIM_MAX b) = bitsAt w 16 8 ∧ rf t (FBUS_FB_TRIM_TAP b) = rf s (FBUS_FB_TRIM_TAP b) ∧ t.fbus = s.fbus)
      ∧ (trimOk s b w = false → exec (.trimWrite b w) s = .next (s.journal 5 251 srcFBUS b)))
    ∧ (∀ b w, b < 32 → rb s FBUS_CTRL_LOCK = true →
      ∃ t, exec (.trimWrite b w) s = .next t ∧ rf t (FBUS_FB_TRIM_TRIM_MIN b) = rf s (FBUS_FB_TRIM_TRIM_MIN b)
        ∧ rf t (FBUS_FB_TRIM_TRIM_MAX b) = rf s (FBUS_FB_TRIM_TRIM_MAX b))

/-- R253, R256, R259, R261: physical operations and recovery. An operation read back well moves its frame on, the last one ends the
write-through; a failed one ends it with WT_FAIL and DIVERGED, and past its time with OP_TIMEOUT; a running erase is suspended for a waiting
refetch and resumed after it; a poll that finds an operation beside the queue ended frees its device; a recovery compares its bursts once
devices, buses and ledger can take what it restores, and its end takes the domain to VERIFYING. -/
def Obligations.PhysicalOperationsAndRecovery : Prop :=
  ∀ (s : State),
    (∀ dev w addr n, (devX s dev).queue.head?.bind (wtOf s) = some w → dev < 128 → extDom w.ext < 48 → n = (devX s dev).step →
      (devX s dev).other = 0 → devLive s dev = true →
      (rf s (FBUS_DEV_STAT_STATE dev) ≠ dvSUSP → busServes s (busOfDev s dev) 2 = true →
        (n + 1 < (physOps s w).length → ∀ u, u = s.busServed (busOfDev s dev) 2 →
          exec (.flashOpDone dev true addr) s
            = .next (({ u with fbus := { u.fbus with writes := ((physOps s w)[n]?).toList } }).setDevX dev { devX s dev with step := n + 1 }))
        ∧ ((physOps s w).length ≤ n + 1 →
          ∃ t, exec (.flashOpDone dev true addr) s = .next t ∧ wtOf t w.id = none ∧ (devX t dev).queue = (devX s dev).queue.drop 1
            ∧ (devX t dev).step = 0 ∧ t.tcm = s.tcm ∧ t.ldr = s.ldr)
        ∧ ∃ t, exec (.flashOpDone dev false addr) s = .next t ∧ wtOf t w.id = none ∧ rb t FBUS_EVT_WT_FAIL = true
          ∧ rb t (GATE_DOM_STAT_DIVERGED (extDom w.ext)) = true ∧ rf t FBUS_WT_FAIL0_CODE = 0xB ∧ rf t FBUS_WT_FAIL0_DEVICE = dev)
      ∧ (∀ taps, ∃ t, exec (.flashOpTimeout dev addr taps) s = .next t ∧ wtOf t w.id = none ∧ rb t FBUS_EVT_OP_TIMEOUT = true
          ∧ rb t FBUS_EVT_WT_FAIL = true ∧ rf t FBUS_WT_FAIL0_CODE = 0x11
          ∧ (∀ d, s.fbus.map.devs[dev]? = some d →
            centreTap taps (rf s (FBUS_FB_TRIM_TRIM_MIN d.bus)) (rf s (FBUS_FB_TRIM_TRIM_MAX d.bus)) = none →
            rf t (FBUS_DEV_STAT_STATE dev) = dvFAILED)))
    ∧ (∀ dev w wait, (devX s dev).queue.head?.bind (wtOf s) = some w →
      wait = (s.orang.refetch.any fun r => !r.afterWt && devOfExt s r.ext = dev) → (devX s dev).other = 0 → devLive s dev = true → ∀ e,
      (wait = true → rf s (FBUS_DEV_STAT_STATE dev) = dvBUSY → w.kind ≠ 1 → rb s (FBUS_DEV_STAT_SUSPEND_OK dev) = true →
        exec (.busyPoll dev true e) s = .next (s.setF (FBUS_DEV_STAT_STATE dev) dvSUSP))
      ∧ (wait = false → rf s (FBUS_DEV_STAT_STATE dev) = dvSUSP → ∀ b,
        exec (.busyPoll dev b e) s = .next (s.setF (FBUS_DEV_STAT_STATE dev) dvBUSY))
      ∧ (wait = false → rf s (FBUS_DEV_STAT_STATE dev) = dvBUSY → ∀ b, exec (.busyPoll dev b e) s = .next s))
    ∧ (∀ dev e, (devX s dev).other ≠ 0 → devLive s dev = true → rf s (FBUS_DEV_STAT_STATE dev) = dvBUSY →
      exec (.busyPoll dev false e) s = .next (s.otherDone dev))
    ∧ (∀ dom rc g rest src nur n dev, recOf s dom = some rc → rc.ranges = g :: rest → rc.code = 0 →
      n = min nur.length (min 65536 (g.len - rc.pos)) → dev = devOfPart s g.srcPart →
      (∀ fail bad ent, 0 < fail → exec (.recoveryBurstDone dom src nur fail bad ent) s = .next (s.setRec dom (some { rc with code := fail })))
      ∧ (∀ need, devIdle s dev = true → devIdle s (devOfPart s g.nurPart) = true → busServes s (busOfDev s dev) 3 = true →
        busServes s (busOfDev s (devOfPart s g.nurPart)) 3 = true →
        need = recNeeds s dom g (recDiff s g (rc.pos - rc.nur.length) (rc.src ++ src.take n) (rc.nur ++ nur.take n) (decide (g.len ≤ rc.pos + n))) →
        (need = 0 ∨ ledgerTakes s need = true) →
        ∃ t rc', exec (.recoveryBurstDone dom src nur 0 none none) s = .next t ∧ t.tcm = s.tcm ∧ recOf t dom = some rc' ∧ rc'.code = 0
          ∧ rc'.ranges = (if g.len ≤ rc.pos + n then rest else g :: rest) ∧ rc'.pos = (if g.len ≤ rc.pos + n then 0 else rc.pos + n)
          ∧ (rc.src = rc.nur → src.take n = nur.take n → rc'.units = min rc.units 0xFFFF ∧ t.fbus.writes = [] ∧ t.orang = s.orang)))
    ∧ (∀ dom rc, recOf s dom = some rc → dom < 48 → rc.code = 0 → rc.ranges = [] →
      (rc.devs.any fun d => rf s (FBUS_DEV_STAT_STATE d) = dvFAILED) = false →
      exec (.recoveryDone dom) s = .next (((s.recEnd dom 0).raise FBUS_EVT_REC_DONE).verifyDom dom).settle
      ∧ recOf (s.recEnd dom 0) dom = none ∧ rf (s.recEnd dom 0) FBUS_REC_STAT_DOM = dom
      ∧ rf (s.recEnd dom 0) FBUS_REC_STAT_UNITS = min rc.units 0xFFFF)
    ∧ (∀ dom rc, recOf s dom = some rc → 0 < rc.code →
      exec (.recoveryDone dom) s = .next ((((s.recEnd dom rc.code).raise FBUS_EVT_REC_FAILED).journalDom 2 261 srcFBUS dom rc.code).parkDom dom rc.code).settle)

/-- R265, R266, R270 to R275, R277, R280 to R282: memory integrity. FILL and MARK_INIT initialise a class; rows are retired onto spares and the
repairs programmed into OTP; the scrub bounds are applied; flip masks are armed and used once; the scrubbers' findings are counted and the
row replaced; a sweep's end sets the next period within its bounds. -/
def Obligations.MemoryIntegrityActs : Prop :=
  ∀ (s : State),
    (∀ c, fillClass c = true →
      (classInit s c = false → mode s = moASSEMBLY → filling s c = false →
        ∃ t, exec (.fill c) s = .next t ∧ t.mem.fills = s.mem.fills ++ [(c, false, fillPattern s c)]
          ∧ rb t MEMINT_STAT_FILL_BUSY = true ∧ classInit t c = false)
      ∧ (classInit s c = true → ∃ t, exec (.fill c) s = .next t ∧ rf t MEMINT_CMD_STAT_LAST_STATUS = 4 ∧ t.mem = s.mem)
      ∧ (∀ p, s.mem.fills.find? (·.1 = c) = some (c, false, p) →
        (∃ t, exec (.fillDone c) s = .next t ∧ classInit t c = true ∧ filling t c = false ∧ rf t MEMINT_CMD_STAT_LAST_STATUS = 0)
        ∧ ∃ t, exec (.memintAbort c) s = .next t ∧ t.mem.fills.find? (·.1 = c) = some (c, true, p)
          ∧ rf t MEMINT_CMD_STAT_LAST_STATUS = 0 ∧ rf t MEMINT_CMD_STAT_LAST_OP = 14)
      ∧ (∀ p, s.mem.fills.find? (·.1 = c) = some (c, true, p) →
        ∃ t, exec (.fillDone c) s = .next t ∧ classInit t c = classInit s c ∧ filling t c = false ∧ rf t MEMINT_CMD_STAT_LAST_STATUS = 0xE)
      ∧ (classInit s c = false → ∃ t, exec (.markInit c) s = .next t ∧ classInit t c = true ∧ rf t MEMINT_CMD_STAT_LAST_STATUS = 0))
    ∧ (∀ c, fillClass c = false → ∃ t, exec (.fill c) s = .next t ∧ rf t MEMINT_CMD_STAT_LAST_STATUS = 0xF ∧ t.mem = s.mem)
    ∧ (∀ m r, retireCode s = none → m = bitsAt (memArg0 s) 0 10 → r = bitsAt (memArg0 s) 16 11 →
      ∃ t, exec .retireRow s = .next t ∧ (macroOf t m).spares = takeSpare (macroOf s m).spares r
        ∧ rb t MEMINT_EVT_REMAP = true ∧ rb t SYSCTL_SPARE_EVT_SRAM_USED = true ∧ rf t MEMINT_CMD_STAT_LAST_STATUS = 0)
    ∧ (commitCode s = none → exec .commitRepair s = .next (s.raise MEMINT_STAT_COMMIT_BUSY))
    ∧ (rb s MEMINT_STAT_COMMIT_BUSY = true → (uncommitted s).length ≤ (otpFree s 896 64).length →
      ∃ t, exec (.commitRepairDone []) s = .next t ∧ rb t MEMINT_STAT_COMMIT_BUSY = false ∧ rf t MEMINT_STAT_UNCOMMITTED = 0
        ∧ rf t MEMINT_CMD_STAT_LAST_STATUS = 0 ∧ (∀ x ∈ t.mem.macros, ∀ p ∈ x.2.spares, p.2 = true)
        ∧ (∀ (k m i row w : Nat), (uncommitted s)[k]? = some (m, i, row) → (otpFree s 896 64)[k]? = some w → programmed w (rowRecord m i row) t))
    ∧ (∀ es, boundsAddrOk s = true → parseBounds (tcmRead s (memArg0 s) 232) (rf s SYSCTL_ID_DRAM_CAP) = some es → mode s = moASSEMBLY →
      rb s MEMINT_STAT_BOUNDS_APPLIED = false →
      ∃ t, exec .applyBounds s = .next t ∧ t.mem.bounds = es ∧ rb t MEMINT_STAT_BOUNDS_APPLIED = true
        ∧ ∀ c e, c < 14 → es[c]? = some e → rf t (MEMINT_C_SCRUB_PERIOD_S c) = e.pInit % 2 ^ 16)
    ∧ (boundsAddrOk s = false → ∃ t, exec .applyBounds s = .next t ∧ rf t MEMINT_CMD_STAT_LAST_STATUS = 0xF ∧ t.mem = s.mem)
    ∧ (∀ w, rb s MEMINT_CTRL_LOCK = false → ∃ t, exec (.flipArm w) s = .next t ∧ rf t MEMINT_FLIP_SEL_CLASS = bitsAt w 0 4
        ∧ rb t MEMINT_FLIP_SEL_ARMED = (rb s MEMINT_FLIP_SEL_ARMED || (w.testBit 8 && [0, 1, 8, 9, 12].contains (bitsAt w 0 4))))
    ∧ (∀ w, rb s MEMINT_CTRL_LOCK = true → ∃ t, exec (.flipArm w) s = .next t
        ∧ rb t MEMINT_FLIP_SEL_ARMED = rb s MEMINT_FLIP_SEL_ARMED ∧ rf t MEMINT_FLIP_SEL_CLASS = rf s MEMINT_FLIP_SEL_CLASS)
    ∧ (∀ k b, b < 256 → rb s MEMINT_FLIP_SEL_ARMED = true → ∃ t, exec (.flipApply k b) s = .next t ∧ rb t MEMINT_FLIP_SEL_ARMED = false
        ∧ rf t MEMINT_FLIP_STAT_KIND = (flipSeen (if rf s MEMINT_FLIP_SEL_CLASS = 0 then 32 else 64) (flipMask s) k b).1
        ∧ rf t MEMINT_FLIP_STAT_BIT = (flipSeen (if rf s MEMINT_FLIP_SEL_CLASS = 0 then 32 else 64) (flipMask s) k b).2
        ∧ rf t MEMINT_FLIP_STAT_COUNT = min (rf s MEMINT_FLIP_STAT_COUNT + 1) 0xFFFF)
    ∧ (∀ c m row w b, c < 12 → m ≤ 291 → macroClass m = c → row < macroRows m → w < rowWords c →
      (scrubbed s c = true →
        exec (.scrubRow c m row w 1 b false) s = .next ((s.corrected c m b row w).rowHit c m row)
        ∧ exec (.scrubRow c m row w 3 b false) s = .next (s.lastErr 3 c m 0xFE row w)
        ∧ exec (.scrubRow c m row w 2 b false) s = .next (s.sameCycle fun u => ((u.uncorrectable c m row w).retireRow m row).classOutcome c m row w)
        ∧ ((c = 7 ∨ c = 11) → 0 < (macroOf s m).left →
            ∃ t, exec (.scrubRow c m row w 2 b false) s = .next t ∧ rb t MEMINT_EVT_UE = true
              ∧ (macroOf t m).spares = takeSpare (macroOf s m).spares row ∧ t.orang = s.orang ∧ t.keys = s.keys)
        ∧ (c = 5 → ∃ t, exec (.scrubRow c m row w 2 b false) s = .next t ∧ rb t MEMINT_EVT_UE = true
            ∧ t.mem.mailPoison = s.mem.mailPoison ++ [32 * row + w])
        ∧ exec (.scrubRow c m row w 0 b false) s = .next s)
      ∧ (classInit s c = true → exec (.scrubRow c m row w 1 b true) s = .next ((s.corrected c m b row w).rowHit c m row))
      ∧ (classInit s c = false → exec (.scrubRow c m row w 1 b true) s = .next (s.corrected c m b row w)))
    ∧ (∀ h o, scrubbed s 13 = true → stageOf s h = some o → anyServing s = true →
      ∃ t, exec (.dramScrubLine 3 0 h 0 true true) s = .next t ∧ stageOf t h = some { o with poisoned := true })
    ∧ (∀ d r off a b, scrubbed s 13 = true → (extOf s (extIx d r)).valid = true →
      (off < (extOf s (extIx d r)).len → exec (.dramScrubLine 0 d r off a b) s = .next (s.scrubLine (extIx d r) (off / 64 * 64) a b))
      ∧ ((nodeAt s (extIx d r) 0 0).isSome = true → exec (.dramScrubLine 1 d r off a b) s = .next (s.scrubMirror a b).1)
      ∧ ((ltabOf s off).isSome = true → exec (.dramScrubLine 2 d r off a b) s = .next (s.scrubMirror a b).1))
    ∧ (∀ c b e, boundOf s c = some b → scrubbed s c = true → c < 14 → e = Sparse.get (fun _ => 0) s.mem.errs c →
      ∃ t, exec (.sweepEnd c) s = .next t ∧ rf t (MEMINT_C_SWEEP_LAST_E c) = min e 0xFF ∧ Sparse.get (fun _ => 0) t.mem.errs c = 0
        ∧ (b.adapt = false → rf t (MEMINT_C_SCRUB_PERIOD_S c) = b.pInit % 2 ^ 16)
        ∧ (b.adapt = true → b.upThresh ≤ e → rf t (MEMINT_C_SCRUB_PERIOD_S c)
            = max b.pMin (min (rf s (MEMINT_C_SCRUB_PERIOD_S c) / 2) b.pMax) % 2 ^ 16)
        ∧ (b.adapt = true → e < b.upThresh → 0 < e → rf t (MEMINT_C_SCRUB_PERIOD_S c) = rf s (MEMINT_C_SCRUB_PERIOD_S c)))
    ∧ (∀ c, c < 14 → scrubbed s c = true → ∃ t, exec (.scrubOverrun c) s = .next t ∧ rb t MEMINT_EVT_SCRUB_OVERRUN = true
        ∧ rf t (MEMINT_C_SCRUB_PERIOD_S c) = rf s (MEMINT_C_SCRUB_PERIOD_S c))
    ∧ (∀ c, c < 14 → (boundOf s c).isSome = true →
      exec (.bucketLeak c) s = .next (s.setF (MEMINT_C_SCRUB_BUCKET c) (rf s (MEMINT_C_SCRUB_BUCKET c) - 1)))

/-- R293 to R296, R298 to R300, R302, R303, R305: the decisions on KEYS commands. An accepted command that takes time is held with CMD_BUSY and asks for
its engines, a rewrite of a leased slot waits with PENDING; LOAD_WK and CLEAR_WK take and release a lease, with CLEAR_WK
waiting for the end of an operation that uses the key (R320); ERASE and LOCK_SLOT act at
once; an ambiguous KEY_ID, a slot out of range and LOCKDOWN refuse without touching a slot. -/
def Obligations.KeyCommandsAreDecided : Prop :=
  ∀ (s : State) (dst src : Nat),
    (generateCode s dst = none → exec (.generate dst) s = .next (s.keyStart opGENERATE dst 0 (genEngines (newType s)) true))
    ∧ (deriveCode s dst src = none → exec (.derive dst src) s = .next (s.keyStart opDERIVE dst (srcIx s src) 12 true (src = 0xFF)))
    ∧ (deriveSealedCode s dst = none → exec (.deriveSealed dst) s = .next (s.keyStart opDERIVE_SEALED dst 0 12 true))
    ∧ (certifyCode s src = none → exec (.certify src) s = .next (s.keyStart opCERTIFY 0 src 9 false))
    ∧ (src ≠ 0 → slotState s src = slVALID → mdType (slotMdSeen s src) = 4 → tbsOk s src (tcmRead s (keyArg s 0) (keyArg s 1)) = false →
      ∃ t, exec (.certify src) s = .next t ∧ rf t KEYS_CMD_STAT_LAST_STATUS = 0xF ∧ t.keys = s.keys ∧ t.tcm = s.tcm)
    ∧ (publicCode s src = none → exec (.publicKey src) s
        = .next (s.keyStart opPUBLIC 0 (srcIx s src) (if mdType (srcMd s src) = 4 then 1 else 2) false (src = 0xFF)))
    ∧ (deriveL2Code s = none → exec .deriveL2 s = .next (s.keyStart opDERIVE_L2 3 0 12 false))
    ∧ (provisionCode s = none → exec .provisionVault s = .next (s.keyStart opPROVISION_VAULT 0 0 0 false))
    ∧ (∀ op need rw lk, need < 16 →
      let t := s.keyStart op dst src need rw lk
      rb t KEYS_STAT_CMD_BUSY = true ∧ t.keys.slots = s.keys.slots ∧ t.tcm = s.tcm
        ∧ (rw = false ∨ anyLease s dst = false → t.keys.cmd.map (fun q => (q.op, q.dst, q.src, q.need, q.stage, q.aborted))
              = some (op, dst, src, need, 1, false)
            ∧ ∀ e, e < 4 → need.testBit e = true → kmHold t e = true)
        ∧ (rw = true → anyLease s dst = true → rb t KEYS_STAT_PENDING = true
            ∧ t.keys.cmd.map (fun q => (q.op, q.dst, q.src, q.need, q.stage, q.aborted)) = some (op, dst, src, need, 0, false)))
    ∧ (∀ e, loadWkCode s src e = none →
      ∃ t, exec (.loadWk src e) s = .next t ∧ leased t (srcIx s src) e = true ∧ t.keys.slots = s.keys.slots
        ∧ wkOf t e = some (srcIx s src, mdType (slotMd s (srcIx s src)), slotPayload s (srcIx s src))
        ∧ rf t KEYS_CMD_STAT_LAST_STATUS = 0 ∧ t.atomicUntil = s.usec + 2)
    ∧ (∀ e, clearWkCode s e = none →
      ∃ t, exec (.clearWk e) s = .next t ∧ t.keys.slots = s.keys.slots
        ∧ (∀ o, engOp s e = some o → wkInUse s e = true →
          engOp t e = some { o with ends := if o.ends = Code.keyRevoked.val then o.ends else 0xE, clear := true } ∧ t.keys = s.keys ∧ t.regs = s.regs)
        ∧ (wkInUse s e = false → rf t (wkFld e) = 0xFF ∧ wkOf t e = none ∧ rf t KEYS_CMD_STAT_LAST_STATUS = 0 ∧ t.eng = s.eng))
    ∧ (eraseCode s dst = none → anyLease s dst = false → dst < 40 →
      ∃ t, exec (.erase dst) s = .next t ∧ slotOf t dst = { Slot.empty with wlock := (slotOf s dst).wlock }
        ∧ (∀ i, i ≠ dst → slotOf t i = slotOf s i) ∧ rf t KEYS_CMD_STAT_LAST_STATUS = 0)
    ∧ (eraseCode s dst = none → anyLease s dst = true ∨ 40 ≤ dst → exec (.erase dst) s = .next (s.keyStart opERASE dst 0 0 true))
    ∧ (lockSlotCode s dst = none →
      ∃ t, exec (.lockSlot dst) s = .next t ∧ slotOf t dst = { slotOf s dst with wlock := true }
        ∧ (∀ i, i ≠ dst → slotOf t i = slotOf s i) ∧ rf t KEYS_CMD_STAT_LAST_STATUS = 0)
    ∧ (dst < 64 → lockdown s = true →
      (∃ t, exec (.erase dst) s = .next t ∧ rf t KEYS_CMD_STAT_LAST_STATUS = 4 ∧ t.keys = s.keys)
      ∧ (∃ t, exec (.lockSlot dst) s = .next t ∧ rf t KEYS_CMD_STAT_LAST_STATUS = 4 ∧ t.keys = s.keys)
      ∧ (arg0Ok s = true → kdfDscOk s = true →
          ∃ t, exec (.deriveSealed dst) s = .next t ∧ rf t KEYS_CMD_STAT_LAST_STATUS = 4 ∧ t.keys = s.keys)
      ∧ (arg0Ok s = true → outOk s (pubLen (newType s)) = true →
          ∃ t, exec (.generate dst) s = .next t ∧ rf t KEYS_CMD_STAT_LAST_STATUS = 4 ∧ t.keys = s.keys))
    ∧ (64 ≤ dst → ∃ t, exec (.generate dst) s = .next t ∧ rf t KEYS_CMD_STAT_LAST_STATUS = 0xF ∧ t.keys = s.keys)
    ∧ (∀ e i j rest, e < 4 → slotsWithId s (keyArg s 1) = i :: j :: rest → lockdown s = false → rb s KEYS_STAT_ZEROISED = false →
      keyBusy s = false → wkInUse s e = false → early s (keyIf.key opLOAD_WK) = false →
      ∃ t, exec (.loadWk 0xFF e) s = .next t ∧ rf t KEYS_CMD_STAT_LAST_STATUS = 9 ∧ rb t KEYS_EVT_AMBIGUOUS = true ∧ t.keys = s.keys)

/-- R290, R291, R295, R297 to R300, R303, R305, R317, R420: how KEYS commands run and end. A waiting rewrite asks for its engines at the last release;
a command that has them runs, or ends with the code of a slot that can no longer be used; a commit writes the losing copy with the next GEN and leaves the winner's; a persistent one ends behind its vault
tag; ABORT before the commit ends with ABORTED and leaves the slot. -/
def Obligations.KeyCommandsRunAndCommit : Prop :=
  ∀ (s : State) (q : KeyCmd), s.keys.cmd = some q →
    (q.stage = 0 → anyLease s q.dst = false →
      ∃ t, exec .rewriteRelease s = .next t ∧ t.keys.cmd = some { q with stage := 1 } ∧ rb t KEYS_STAT_PENDING = false
        ∧ t.keys.slots = s.keys.slots)
    ∧ (q.stage = 0 → anyLease s q.dst = true → exec .rewriteRelease s = .next s)
    ∧ (∀ e, q.stage = 1 → q.need.testBit e = true → engBusy s e = false → coreTaken s e = false →
      exec (.kmEngineTake e) s = .next (s.modKeys fun k => { k with cmd := some { q with taken := setBits q.taken e 1 1 } }))
    ∧ (∀ e, engBusy s e = true → exec (.kmEngineTake e) s = .next s)
    ∧ (q.stage < 2 → ∃ t, exec .keysAbort s = .next t ∧ t.keys.cmd = some { q with aborted := true } ∧ rf t KEYS_CMD_STAT_LAST_STATUS = 0
        ∧ rf t KEYS_CMD_STAT_LAST_OP = 14 ∧ t.keys.slots = s.keys.slots)
    ∧ (2 ≤ q.stage → ∃ t, exec .keysAbort s = .next t ∧ rf t KEYS_CMD_STAT_LAST_STATUS = 4 ∧ t.keys = s.keys)
    ∧ (q.aborted = true → ∃ t, exec .keysCmdDone s = .next t ∧ t.keys = { s.keys with cmd := none } ∧ rf t KEYS_CMD_STAT_LAST_STATUS = 0xE
        ∧ rb t KEYS_STAT_CMD_BUSY = false ∧ t.tcm = s.tcm)
    ∧ (q.aborted = false → q.stage = 2 → ∃ t, exec .keysCmdDone s = .next t ∧ t.keys = { s.keys with cmd := none }
        ∧ rf t KEYS_CMD_STAT_LAST_STATUS = 0 ∧ t.lodge.vault = (s.vaultPhase2 q.dst q.copy).lodge.vault)
    ∧ (q.aborted = false → q.stage = 1 → q.taken = q.need →
      exec .keysCmdDone s = .next (s.keyRun q)
      ∧ (∀ i c, cmdGone s q = some (i, c) → exec .keysCmdDone s = .next ((s.foundBad i).keyCmdEnd c))
      ∧ (q.op = opERASE → q.dst < 40 → ∃ t, exec .keysCmdDone s = .next t ∧ slotOf t q.dst = { Slot.empty with wlock := (slotOf s q.dst).wlock }
          ∧ (∀ i, i ≠ q.dst → slotOf t i = slotOf s i) ∧ rf t KEYS_CMD_STAT_LAST_STATUS = 0)
      ∧ (q.op = opPUBLIC → cmdGone s q = none → ∃ t, exec .keysCmdDone s = .next t ∧ t.tcm = (s.tcmWrite (q.args.getD 2 0) (slotPublic s q.src)).tcm
          ∧ t.keys.slots = s.keys.slots ∧ rf t KEYS_CMD_STAT_LAST_STATUS = 0)
      ∧ (q.op = opDERIVE_L2 → ∀ root svn, s.keys.cfg = some (root, svn) → ∃ t, exec .keysCmdDone s = .next t ∧ rb t KEYS_STAT_L2_DONE = true
          ∧ ((slotOf s 3).isSealed = false → (slotOf t 3).wlock = true) ∧ rf t SYSCTL_CFG_SVN_CFG_SVN = svn % 2 ^ 32 ∧ rf t KEYS_CMD_STAT_LAST_STATUS = 0)
      ∧ (q.op = opGENERATE → bitsAt (q.args.getD 0 0) 12 4 = 1 → ∀ m s1, s.takeItems 1 = (.ok m, s1) →
          exec .keysCmdDone s = .next (s1.keyCommit q (slice m 0 48) 2))
      ∧ (q.op = opGENERATE → bitsAt (q.args.getD 0 0) 12 4 = 1 → rb s RNG_STAT_KAT_FAIL = false → s.rng.queue = [] → drbgOn s = false →
          ∃ t, exec .keysCmdDone s = .next t ∧ t.keys.slots = s.keys.slots ∧ rf t KEYS_CMD_STAT_LAST_STATUS = 0x10))
    ∧ (∀ t0, q.op = opDERIVE_L2 → s.keys.l2Auto = some t0 → t0 ≤ s.usec → rb s KEYS_STAT_L2_DONE = false → rb s KEYS_STAT_ZEROISED = false → ∀ root svn,
      s.keys.cfg = some (root, svn) → (deriveBlocked s = true → exec .ks3AutoDerive s = .next (s.holdEngines 12 true))
        ∧ (deriveBlocked s = false → ∃ t, exec .ks3AutoDerive s = .next t ∧ rb t KEYS_STAT_L2_DONE = true ∧ t.keys.l2Auto = none
          ∧ t.keys.cmd = none ∧ ((slotOf s 3).isSealed = false → (slotOf t 3).wlock = true)))
    ∧ (∀ i p md, i < 64 →
      let t := s.commitSram i p md
      let gen := match winner s i with | some w => (mdGen ((slotOf s i).copy w).md + 1) % 65536 | none => 0
      (slotOf t i).copy (loser s i)
          = ⟨slice p 0 64, md + gen * 2 ^ 16, copyTag s.keys.kt (slice p 0 64) (md + gen * 2 ^ 16) i, false⟩
        ∧ (slotOf t i).copy (1 - loser s i) = (slotOf s i).copy (1 - loser s i) ∧ (∀ j, j ≠ i → slotOf t j = slotOf s j))

/-- R306, R308, R310, R313 to R319, R321: the arithmetic engines. START copies the operands of a well-placed descriptor into an idle engine, and
answers BUSY_RETRY with the remaining time where the engine, its core or the key manager is in the way, or a retry-after time still runs; ABORT marks the operation; its end
writes the output or zeros, the STATUS byte, the DONE register and the event, and frees the engine; it ends a CLEAR_WK that waited for it. -/
def Obligations.EnginesRunOperations : Prop :=
  ∀ (s : State) (b e a : Nat), b < 2 → e < 4 → a = rf s (ENG_CMD_ADDR_ADDR b) →
    (engInBlk b e = true → a % 4 = 0 → tcmFree s a 32 = true → early s (engKey b e) = false →
      (startRetry s e = none → ∃ t, exec (.engStart b e) s = .next t ∧ engOp t e = some (startOpOf s e a)
        ∧ mapBit t (ENG_STAT_BUSY (engBlk e)) e = true ∧ rf t (ENG_CMD_STAT_LAST_STATUS b) = 0 ∧ rf t (ENG_CMD_STAT_LAST_ENGINE b) = e
        ∧ t.tcm = s.tcm ∧ t.keys = s.keys ∧ ∀ k, k ≠ e → engOp t k = engOp s k)
      ∧ (∀ ms, startRetry s e = some ms → ∃ t, exec (.engStart b e) s = .next t ∧ rf t (ENG_CMD_STAT_LAST_STATUS b) = 1
        ∧ rf t (ENG_CMD_STAT_RESULT b) = max 1 (min 65535 ms) ∧ t.eng = s.eng))
    ∧ (engInBlk b e = true → a % 4 = 0 → tcmFree s a 32 = true → early s (engKey b e) = true →
      ∃ t, exec (.engStart b e) s = .next t ∧ rf t (ENG_CMD_STAT_LAST_STATUS b) = 1
        ∧ rf t (ENG_CMD_STAT_RESULT b) = retryLeft s (engKey b e) % 2 ^ 16 ∧ t.eng = s.eng)
    ∧ (engInBlk b e = false ∨ a % 4 ≠ 0 ∨ tcmFree s a 32 = false →
      ∃ t, exec (.engStart b e) s = .next t ∧ rf t (ENG_CMD_STAT_LAST_STATUS b) = 0xF ∧ t.eng = s.eng ∧ t.tcm = s.tcm)
    ∧ (∀ o, engInBlk b e = true → engOp s e = some o → ∃ t, exec (.engAbort b e) s = .next t ∧ engOp t e = some { o with ends := if o.ends = Code.keyRevoked.val then o.ends else 0xE }
        ∧ rf t (ENG_CMD_STAT_LAST_STATUS b) = 0 ∧ t.tcm = s.tcm)
    ∧ (engInBlk b e = true → engBusy s e = false →
      ∃ t, exec (.engAbort b e) s = .next t ∧ rf t (ENG_CMD_STAT_LAST_STATUS b) = 4 ∧ t.eng = s.eng)
    ∧ (∀ o c out, let t := s.engFinish e o c out
      engOp t e = none ∧ mapBit t (ENG_STAT_BUSY (engBlk e)) e = false ∧ rf t (ENG_DONE_STATUS (engBlk e)) = c.val
        ∧ rf t (ENG_DONE_ENGINE (engBlk e)) = e ∧ mapBit t (ENG_EVT_DONE (engBlk e)) e = true ∧ tcmByte t (o.addr + 1) = BitVec.ofNat 8 c.val
        ∧ (o.clear = false → t.keys = s.keys) ∧ (o.clear = true → wkOf t e = none ∧ rf t KEYS_CMD_STAT_LAST_STATUS = 0)
        ∧ (∀ k, k ≠ e → engOp t k = engOp s k)
        ∧ (c = .ok → t.tcm = ((s.tcmWrite (dscDst o.desc) out).tcmWrite (o.addr + 1) [0]).tcm)
        ∧ (c = .aborted → t.tcm = ((s.tcmWrite (dscDst o.desc) (List.replicate (dstLen o) 0)).tcmWrite (o.addr + 1) [0xE]).tcm)
        ∧ (c = .verifyFail → t.tcm = (s.tcmWrite (o.addr + 1) [0xB]).tcm))
    ∧ (∀ o, engOp s e = some o →
      (o.ends = 0 → o.args = [] → ∀ k, exec (.engDone e k) s = .next (s.engFinish e o .malformed []))
      ∧ (o.ends = 0xE → ∀ k, exec (.engDone e k) s = .next (s.engFinish e o .aborted []))
      ∧ (o.ends = 0xA → ∀ k, exec (.engDone e k) s = .next (s.engFinish e o .keyRevoked []))
      ∧ (o.args ≠ [] → o.ends = 0 → o.pre = 0xB → ∀ k, exec (.engDone e k) s = .next (s.engFinish e o .verifyFail []))
      ∧ (o.args ≠ [] → o.ends = 0 → o.pre = 7 → ∀ k, exec (.engDone e k) s = .next (s.engFinish e o .poisoned []))
      ∧ (o.args ≠ [] → o.ends = 0 → o.pre = 0 →
          (∀ w, exec (.engDone e (w + 2)) s = .next ((s.engUe e w).engFinish e o .poisoned [])) ∧ exec (.engDone e 1) s = .next (s.engFinish e o .internalFault [])
          ∧ exec (.engDone e 0) s = .next ((engCompute s o).2.engFinish e o (engCompute s o).1.1 (engCompute s o).1.2)))
    ∧ (∀ o x y z w, o.args = [x, y, z, w] →
      (dscOp o.desc = 0x01 → engCompute s o = ((.ok, leBytes (4 * dscLen o.desc) ((leNat x + leNat y) % leNat z)), s))
      ∧ (dscOp o.desc = 0x03 → engCompute s o = ((.ok, leBytes (4 * dscLen o.desc) (leNat x * leNat y % leNat z)), s))
      ∧ (dscOp o.desc = 0x38 → engCompute s o = ((.ok, sha384 x), s))
      ∧ (dscOp o.desc = 0x11 → (engCompute s o).1.1 = if ecdsaVerify (dscCurve o.desc) y x z then .ok else .verifyFail)
      ∧ (dscOp o.desc = 0x22 → (engCompute s o).1.1 = if Config.lmsVerify x z y then .ok else .verifyFail))

/-- R322, R325 to R336: the generator. A source passes its start-up test into its place, fails a health test into RETEST and a second time within the
span into FAILED; seeds are buffered and used; items enter a queue of 64 and leave it in order; FLUSH, RESEED, RAW_MODE, TEST_PATTERN and
STOP_TEST act; reads of RNG_DATA deliver an item word by word while the reserve allows, and RNG_RAW the raw bits of a source under test. -/
def Obligations.GeneratorActs : Prop :=
  ∀ (s : State) (k : Nat), k < 4 →
    (∀ bs, startupOk bs = true → srcState s k = srcRETEST → s.rng.former.testBit k = false ∨ srcAllowed s k = true →
      ∃ t, exec (.sourceStartupPass k bs) s = .next t
      ∧ srcState t k = (if s.rng.former.testBit k then srcACTIVE else srcSPARE) ∧ t.rng = s.rng)
    ∧ (∀ bs, startupOk bs = true → k < 2 → srcFresh s k = true → srcState s k = srcSPARE → srcAllowed s k = true →
      ∃ t, exec (.sourceStartupPass k bs) s = .next t ∧ srcState t k = srcACTIVE ∧ srcFresh t k = false)
    ∧ (∀ bs, startupOk bs = false → exec (.sourceStartupPass k bs) s = .next s)
    ∧ (∀ n, srcState s k = srcTEST → s.rng.pattern = true → exec (.healthFail k n) s
        = .next (s.when (NoiseBits.start.feed (patternBits (rf s RNG_CMD_ARG_PATTERN)) false).2.isSome (·.raise RNG_EVT_TP_TRIP)))
    ∧ (∀ n x, srcState s k = srcACTIVE → (noiseOf s k).feed n (taken s k) = (x, none) →
      exec (.healthFail k n) s = .next ((s.setNoise k x).rawIn k n))
    ∧ (∀ n x f, srcState s k = srcACTIVE → srcFresh s k = false → rf s (RNG_SRC_STAT_FAILS k) = 0 →
      (noiseOf s k).feed n (taken s k) = (x, some f) → ∃ t, exec (.healthFail k n) s = .next t ∧ srcState t k = srcRETEST ∧ t.rng.former.testBit k = true
        ∧ rf t (RNG_SRC_STAT_FAILS k) = 1 ∧ rb t RNG_EVT_HEALTH_FAIL = true ∧ t.rng.queue = s.rng.queue
        ∧ noiseOf t k = x.drop)
    ∧ (∀ n x f, srcState s k = srcACTIVE → srcFresh s k = false → rf s (RNG_SRC_STAT_FAILS k) ≠ 0 → s.usec < s.rng.firstAt.getD k 0 + failSpan →
      (noiseOf s k).feed n (taken s k) = (x, some f) → ∃ t, exec (.healthFail k n) s = .next t ∧ srcState t k = srcFAILED ∧ rb t RNG_EVT_RETIRED = true)
    ∧ (∀ n, seedFull (s.noiseIn n) = false → exec (.seedReady n) s = .next (s.noiseIn n))
    ∧ (∀ n u, u = s.noiseIn n → seedFull u = true →
      (rb u RNG_STAT_SEED_BUF = true → exec (.seedReady n) s = .next u.takeSeed)
      ∧ (rb u RNG_STAT_SEED_BUF = false → drbgState u ≠ drSTRETCHED →
          exec (.seedReady n) s = .next ((u.takeSeed.raise RNG_STAT_SEED_BUF).modRng fun r => { r with seed := seedOf u }))
      ∧ (rb u RNG_STAT_SEED_BUF = false → drbgState u = drSTRETCHED → ∃ t, exec (.seedReady n) s = .next t ∧ drbgState t = drREADY
          ∧ rb t RNG_STAT_SEED_BUF = false ∧ t.rng.since = 0 ∧ t.rng.drbg = Config.drbgReseed u.rng.drbg (seedOf u)))
    ∧ noiseOf (s.dropWindow k) k = (noiseOf s k).drop
    ∧ (∀ b tk, (NoiseBits.start.feed (List.replicate 81 b) tk).2 = some 0 ∧ (NoiseBits.start.feed (List.replicate 80 b) tk).2 = none)
    ∧ (∀ (x : NoiseBits) b tk, x.win < 1023 → (x.push b tk).close.win = x.win + 1 ∧ (x.push b tk).close.buf = x.buf)
    ∧ (∀ (x : NoiseBits) b tk, x.win = 1023 → (x.push b tk).close.win = 0 ∧ (x.push b tk).close.fed = []
      ∧ (x.push b tk).close.buf = x.buf ++ (x.push b tk).fed.reverse)
    ∧ (drbgState s = drINIT → rb s RNG_STAT_SEED_BUF = true → rb s SYSCTL_SPARE_STAT_VALID = true →
      (∃ t, exec (.drbgReady true) s = .next t ∧ drbgState t = drREADY ∧ rb t RNG_STAT_SEED_BUF = false)
      ∧ ∃ t, exec (.drbgReady false) s = .next t ∧ drbgState t = drSTOPPED ∧ rb t RNG_STAT_KAT_FAIL = true ∧ rb t RNG_EVT_ALARM = true)
    ∧ (drbgState s = drREADY → s.rng.asked = false → s.rng.since + 1 < reseedInt s →
      (s.rng.queue.length < 64 → ∃ t, exec .drbgGenerate s = .next t ∧ t.rng.queue = s.rng.queue ++ [(s.drbg).1]
        ∧ t.rng.since = s.rng.since + 1 ∧ t.rng.drbg = Config.drbgNext s.rng.drbg)
      ∧ (64 ≤ s.rng.queue.length → exec .drbgGenerate s = .next s))
    ∧ (∃ t, exec .rngFlush s = .next t ∧ t.rng.queue = [] ∧ t.rng.item = [] ∧ t.rng.flushed = true ∧ rf t RNG_CMD_STAT_LAST_STATUS = 0
        ∧ rb t RNG_EVT_FLUSHED_EVT = true)
    ∧ (drbgOn s = true → rb s RNG_STAT_SEED_BUF = true → early s (rngKey opRESEED) = false →
      ∃ t, exec .reseed s = .next t ∧ t.rng = { s.rng with asked := true } ∧ rf t RNG_CMD_STAT_LAST_STATUS = 0)
    ∧ (drbgOn s = true → rb s RNG_STAT_SEED_BUF = false → early s (rngKey opRESEED) = false →
      ∃ t, exec .reseed s = .next t ∧ t.rng = s.rng ∧ rf t RNG_CMD_STAT_LAST_STATUS = 1 ∧ t.out = .retry 1)
    ∧ (drbgOn s = false → ∃ t, exec .reseed s = .next t ∧ t.rng = s.rng ∧ rf t RNG_CMD_STAT_LAST_STATUS = 4)
    ∧ (testOk s k = true →
      (∃ t, exec (.rawMode k) s = .next t ∧ srcState t k = srcTEST ∧ t.rng.test = some k ∧ t.rng.pattern = false ∧ t.rng.queue = []
        ∧ rf t RNG_CMD_STAT_LAST_STATUS = 0)
      ∧ ∃ t, exec (.testPattern k) s = .next t ∧ srcState t k = srcTEST ∧ t.rng.test = some k ∧ t.rng.pattern = true
        ∧ rf t RNG_CMD_STAT_LAST_STATUS = 0)
    ∧ (testOk s k = false → ∃ t, exec (.rawMode k) s = .next t ∧ t.rng = s.rng ∧ rf t RNG_CMD_STAT_LAST_STATUS = 4)
    ∧ (s.rng.test = some k → ∃ t, exec .stopTest s = .next t ∧ srcState t k = srcRETEST ∧ t.rng.test = none ∧ rf t RNG_CMD_STAT_LAST_STATUS = 0)
    ∧ (s.rng.flushed = true → ∃ t, exec .rngDataRead s = .next t ∧ t.out = .word 0 ∧ rf t RNG_OUT_STAT_STATUS = 0x10
        ∧ rb t RNG_OUT_STAT_FLUSHED = true ∧ t.rng = { s.rng with flushed := false })
    ∧ (s.rng.flushed = false → 0 < rf s RNG_OUT_STAT_WORD → ∃ t, exec .rngDataRead s = .next t
        ∧ t.out = .word (BitVec.ofNat 32 (beNat s.rng.item >>> (32 * rf s RNG_OUT_STAT_WORD)))
        ∧ rf t RNG_OUT_STAT_WORD = (if rf s RNG_OUT_STAT_WORD = 11 then 0 else (rf s RNG_OUT_STAT_WORD + 1) % 16)
        ∧ rf t RNG_OUT_STAT_STATUS = (if rf s RNG_OUT_STAT_WORD = 11 then 0 else 0x10) ∧ t.rng = s.rng)
    ∧ (∀ it q, s.rng.flushed = false → rf s RNG_OUT_STAT_WORD = 0 → rb s RNG_STAT_KAT_FAIL = false → s.rng.queue = it :: q →
      (fwReserve s ≤ q.length → ∃ t, exec .rngDataRead s = .next t ∧ t.out = .word (BitVec.ofNat 32 (beNat it))
        ∧ t.rng.queue = q ∧ t.rng.item = it ∧ rf t RNG_OUT_STAT_WORD = 1 ∧ rf t RNG_OUT_STAT_STATUS = 0x10)
      ∧ (q.length < fwReserve s → ∃ t, exec .rngDataRead s = .next t ∧ t.out = .word 0 ∧ t.rng = s.rng
        ∧ rf t RNG_OUT_STAT_STATUS = 0x10))
    ∧ (∀ bs, s.rng.test = some k → s.rng.pattern = false → let all := (s.rng.raw ++ bs).take 8192
      (32 ≤ all.length → ∃ t, exec (.rngRawRead bs) s = .next t ∧ t.out = .word (BitVec.ofNat 32 (bitsNat (all.take 32)))
        ∧ t.rng = { s.rng with raw := all.drop 32 } ∧ (8192 < (s.rng.raw ++ bs).length → rb t (RNG_SRC_STAT_RAW_LOST k) = true))
      ∧ (all.length < 32 → ∃ t, exec (.rngRawRead bs) s = .next t ∧ t.out = .word 0 ∧ rb t RNG_OUT_STAT_RAW_EMPTY = true
        ∧ t.rng = { s.rng with raw := all }))
    ∧ (∀ it q, rb s RNG_STAT_KAT_FAIL = false → s.rng.queue = it :: q →
      ∃ t, exec .internalRngRequest s = .next t ∧ t.rng = { s.rng with queue := q } ∧ t.out = .code .ok)
    ∧ (rb s RNG_STAT_KAT_FAIL = false → s.rng.queue = [] → drbgOn s = false →
      ∃ t, exec .internalRngRequest s = .next t ∧ t.rng = s.rng ∧ t.out = .code .notReady)

/-- R338 to R348, R364: the Kiosk. An access that matches no entry is counted and answered zero; a request is decided in the order of R12 and its
reply placed while RSP_FULL is clear; a SERVICE request waits for firmware, which takes each tenant's in its turn (R416) and answers it; a second request is an overrun;
doorbells, the tenant table and the timers of R347 act as their rules say. -/
def Obligations.KioskServesTenants : Prop :=
  ∀ (s : State) (acc : Access) (tn op dom arg : Nat), tn < 512 →
    (bound s acc tn = none → asleep s = false →
      exec (.service acc tn op dom arg) s = .next (s.unboundAccess tn) ∧ exec (.unbound acc tn true) s = .next (s.unboundAccess tn)
      ∧ exec (.unbound acc tn false) s = .next ((s.unboundAccess tn).ret (.word 0)) ∧ rb (s.unboundAccess tn) KIOSK_EVT_UNBOUND = true
      ∧ (s.unboundAccess tn).kiosk.boxes = s.kiosk.boxes)
    ∧ (∀ e, bound s acc tn = some e → rb s (TN_STAT_REQ_FULL tn) = true →
      ∃ t, exec (.service acc tn op dom arg) s = .next t ∧ rb t (TN_STAT_OVERRUN tn) = true ∧ rb t KIOSK_EVT_OVERRUN = true
        ∧ t.kiosk = s.kiosk)
    ∧ (∀ e, bound s acc tn = some e → rb s (TN_STAT_REQ_FULL tn) = false → rb s (TN_STAT_RSP_FULL tn) = false →
      mailPoisoned s tn 8 = false → op < 256 → dom < 256 → arg < 65536 →
      (∀ c, kioskCode s e op dom (rf s (TN_GEN_GEN tn)) (quotaOut s tn) = some c → c ≠ .busyRetry →
        ∃ t, exec (.service acc tn op dom arg) s = .next t ∧ reg t (TN_RSP tn) = BitVec.ofNat 32 (rspWord c op 0)
          ∧ rb t (TN_STAT_RSP_FULL tn) = true ∧ rb t (TN_STAT_REQ_FULL tn) = false ∧ rb t (TN_STAT_EMPTY tn) = true
          ∧ t.gate = s.gate ∧ t.orang = s.orang)
      ∧ (kopService op = true → kioskCode s e op dom (rf s (TN_GEN_GEN tn)) (quotaOut s tn) = none →
        ∃ t, exec (.service acc tn op dom arg) s = .next t ∧ (box t tn).phase = 1 ∧ (box t tn).word = reqWord op dom arg
          ∧ rb t (TN_STAT_REQ_FULL tn) = true ∧ rb t KIOSK_EVT_REQ_PEND = true ∧ t.gate = s.gate)
      ∧ (kioskCode s e kopSTATE dom (rf s (TN_GEN_GEN tn)) (quotaOut s tn) = none → domExists s dom = true →
        ∃ t, exec (.kioskState acc tn dom arg) s = .next t
          ∧ reg t (TN_RSP tn) = BitVec.ofNat 32 (rspWord .ok kopSTATE (s.stateData dom).1) ∧ t.gate = s.gate)
      ∧ (∀ k c, (k = kopHOLD ∧ c = Instr.kioskHold acc tn dom arg) ∨ (k = kopRESET ∧ c = Instr.kioskResetCycle acc tn dom arg) →
        kioskCode s e k dom (rf s (TN_GEN_GEN tn)) (quotaOut s tn) = none →
        ∃ u, exec c s = .next ((u.gateApply (kopGate k) dom).answer tn (rspWord .ok k 0)) ∧ u.gate = s.gate ∧ u.orang = s.orang
          ∧ u.keys = s.keys ∧ (box u tn).word = reqWord k dom arg))
    ∧ ((box s tn).phase = 3 → rb s (TN_STAT_RSP_FULL tn) = false → (box s tn).vendor = none →
      ∃ t, exec (.replyPlace tn) s = .next t ∧ reg t (TN_RSP tn) = BitVec.ofNat 32 (box s tn).reply ∧ rb t (TN_STAT_RSP_FULL tn) = true
        ∧ rb t (TN_STAT_REQ_FULL tn) = false ∧ box t tn = Box.init ∧ rf t (TN_RGEN_GEN tn) = (box s tn).rgen % 2 ^ 32)
    ∧ (∀ e, bound s acc tn = some e → mailPoisoned s tn 4 = false →
      ∃ t, exec (.tnRspRead acc tn) s = .next t ∧ t.out = .word (reg s (TN_RSP tn)) ∧ reg t (TN_RSP tn) = 0
        ∧ rb t (TN_STAT_RSP_FULL tn) = false ∧ (rb s (TN_STAT_RSP_FULL tn) = true → rb t KIOSK_EVT_RSP_TAKEN = true))
    ∧ (∀ e bits, bound s acc tn = some e → e.permService = true → ∃ t, exec (.tnDbInWrite acc tn bits) s = .next t
        ∧ rf t (TN_DB_IN_BITS tn) = rf s (TN_DB_IN_BITS tn) ||| (bits % 2 ^ 32) ∧ t.kiosk = s.kiosk)
    ∧ (∀ e bits, bound s acc tn = some e → e.permService = false → exec (.tnDbInWrite acc tn bits) s = .next s)
    ∧ (∀ n, nextTaken s = some n → ∃ t, exec .kioskTakeRead s = .next t ∧ t.out = .word (BitVec.ofNat 32 (2 ^ 31 + n))
        ∧ (box t n).phase = 2 ∧ rf t KIOSK_SEL_TN = n ∧ rf t KIOSK_REQ_WORD = (box s n).word % 2 ^ 32 ∧ t.kiosk.lastTn = n)
    ∧ (nextTaken s = none → ∃ t, exec .kioskTakeRead s = .next t ∧ t.out = .word 0 ∧ t.regs = s.regs ∧ t.kiosk = { s.kiosk with credit := 0 })
    ∧ (takesAgain s = true → nextTaken s = some s.kiosk.lastTn)
    ∧ (∀ w, tn = rf s KIOSK_SEL_TN → ((box s tn).phase = 2 → exec (.kioskReplyWrite w) s = .next (s.answer tn w))
        ∧ ((box s tn).phase ≠ 2 → exec (.kioskReplyWrite w) s = .next (s.raise KIOSK_EVT_REPLY_ORPHAN)))
    ∧ (∀ bits, tn = rf s KIOSK_SEL_TN → ∃ t, exec (.kioskDbOutWrite bits) s = .next t
        ∧ rf t (TN_DB_OUT_BITS tn) = rf s (TN_DB_OUT_BITS tn) ||| (bits % 2 ^ 32)
        ∧ rb t (TN_STAT_DB_OUT_PEND tn) = decide (rf s (TN_DB_OUT_BITS tn) ||| (bits % 2 ^ 32) ≠ 0))
    ∧ (∀ len tbt, rf s KIOSK_CMD_ADDR_ADDR % 8 = 0 → inTcm (rf s KIOSK_CMD_ADDR_ADDR) len = true → mode s = moASSEMBLY →
      rb s KIOSK_STAT_TBT_APPLIED = false → tbtAt s len = .ok tbt →
      ∃ t, exec (.applyTbt len) s = .next t ∧ t.kiosk.tbt = tbt ∧ rb t KIOSK_STAT_TBT_APPLIED = true ∧ rf t KIOSK_CMD_STAT_LAST_STATUS = 0)
    ∧ (∀ len tbt, mode s ≠ moASSEMBLY → tbtAt s len = .ok tbt →
      ∃ t, exec (.applyTbt len) s = .next t ∧ t.kiosk = s.kiosk ∧ rf t KIOSK_CMD_STAT_LAST_STATUS = 4)
    ∧ (∀ len e, rf s KIOSK_CMD_ADDR_ADDR % 8 = 0 → inTcm (rf s KIOSK_CMD_ADDR_ADDR) len = true → tbtAt s len = .error e →
      ∃ t, exec (.applyTbt len) s = .next t ∧ t.kiosk = s.kiosk ∧ rf t KIOSK_CMD_STAT_LAST_STATUS = 0xF)
    ∧ (timersRun s = true → rb s (TN_STAT_RSP_FULL tn) = false → mailPoisoned s tn 0 = false → mailPoisoned s tn 8 = false →
      (box s tn).vendor = none →
      ((box s tn).phase = 2 → ∃ t, exec (.takenRequestTimeout tn) s = .next t ∧ rb t KIOSK_EVT_REQ_TIMEOUT = true
          ∧ reg t (TN_RSP tn) = BitVec.ofNat 32 (rspWord .timeout (bitsAt (box s tn).word 24 8) 0) ∧ rb t (TN_STAT_REQ_FULL tn) = false)
      ∧ ((box s tn).phase = 1 → early s (kioskKey tn (bitsAt (box s tn).word 24 8)) = false → ∃ t, exec (.pendingRequestTimeout tn) s = .next t ∧ rb t KIOSK_EVT_REQ_TIMEOUT = true
          ∧ reg t (TN_RSP tn) = BitVec.ofNat 32 (rspWord .busyRetry (bitsAt (box s tn).word 24 8) 100) ∧ rb t (TN_STAT_REQ_FULL tn) = false))
    ∧ (timersRun s = false → exec (.takenRequestTimeout tn) s = .next s ∧ exec (.pendingRequestTimeout tn) s = .next s)
    ∧ (∀ port a off v, kioskPort s port = some a →
      exec (.smbusBlockWrite port tn off v true) s = .next (s.tnWrite a tn off v)
      ∧ exec (.smbusProcessCall port tn off) s = .next (s.tnRead a tn off)
      ∧ ∃ t, exec (.smbusBlockWrite port tn off v false) s = .next t ∧ t.out = .nack ∧ t.kiosk = s.kiosk
        ∧ ctr t MTRANS_PEC_ERR_LO MTRANS_PEC_ERR_HI = min (ctr s MTRANS_PEC_ERR_LO MTRANS_PEC_ERR_HI + 1) ctrMax)

/-- R349, R350, R365: the transports' settings are applied once, in ASSEMBLY; SEND takes one message at a time, cut at the unit of its
transport, and ends at its last packet or by TIMEOUT; the fifth lost arbitration abandons the message (R351); each MCTP control command is
answered from the endpoint of its port. -/
def Obligations.ManagementTransportActs : Prop :=
  ∀ s : State,
    (∀ st, rf s MTRANS_CMD_ADDR_ADDR % 8 = 0 → inTcm (rf s MTRANS_CMD_ADDR_ADDR) 64 = true → mode s = moASSEMBLY →
      rb s MTRANS_STAT_APPLIED = false → settingsAt s = some st →
      ∃ t, exec .applySettings s = .next t ∧ t.mtrans = { s.mtrans with settings := some st } ∧ rb t MTRANS_STAT_APPLIED = true
        ∧ rb t MTRANS_STAT_PCIE_EN = st.pcieEn ∧ rf t MTRANS_CMD_STAT_LAST_STATUS = 0 ∧ t.kiosk = s.kiosk ∧ t.keys = s.keys
        ∧ ∀ k p, k < 8 → st.ports.length = 8 → st.ports[k]? = some p →
          rf t (MTRANS_I3C_STAT_EID k) = p.eid % 256 ∧ rf t (MTRANS_I3C_STAT_ADDR k) = p.addr % 256)
    ∧ (rf s MTRANS_CMD_ADDR_ADDR % 8 = 0 → inTcm (rf s MTRANS_CMD_ADDR_ADDR) 64 = true → settingsAt s = none →
      ∃ t, exec .applySettings s = .next t ∧ t.mtrans = s.mtrans ∧ rf t MTRANS_CMD_STAT_LAST_STATUS = 0xF)
    ∧ (mode s ≠ moASSEMBLY ∨ rb s MTRANS_STAT_APPLIED = true → (settingsAt s).isSome = true →
      ∃ t, exec .applySettings s = .next t ∧ t.mtrans = s.mtrans ∧ rf t MTRANS_CMD_STAT_LAST_STATUS = 4)
    ∧ (∀ x, rb s MTRANS_STAT_APPLIED = true → txAt s = some x →
      (s.mtrans.tx = none → early s (mtIf.key 2) = false → exec .send s = .next { s with mtrans := { s.mtrans with tx := some x } })
      ∧ (s.mtrans.tx.isSome = true → ∃ t, exec .send s = .next t ∧ t.mtrans = s.mtrans ∧ rf t MTRANS_CMD_STAT_LAST_STATUS = 1))
    ∧ (rb s MTRANS_STAT_APPLIED = false → (txAt s).isSome = true →
      ∃ t, exec .send s = .next t ∧ t.mtrans = s.mtrans ∧ rf t MTRANS_CMD_STAT_LAST_STATUS = 4)
    ∧ (txAt s = none → ∃ t, exec .send s = .next t ∧ t.mtrans = s.mtrans ∧ rf t MTRANS_CMD_STAT_LAST_STATUS = 0xF)
    ∧ (∀ x, s.mtrans.tx = some x →
      (mctpLive s x.port x.ch = true → ∃ t, exec (.sendDone true) s = .next t ∧ t.mtrans = { s.mtrans with tx := none }
        ∧ t.out = .mctp x.port x.eid x.ch x.tag x.packets x.poisoned ∧ rf t MTRANS_CMD_STAT_LAST_STATUS = 0)
      ∧ (mctpLive s x.port x.ch = false → exec (.sendDone true) s = .next s)
      ∧ (∃ t, exec (.sendDone false) s = .next t ∧ t.mtrans = { s.mtrans with tx := none } ∧ rf t MTRANS_CMD_STAT_LAST_STATUS = 17)
      ∧ (mctpLive s x.port x.ch = true → x.losses < 4 → exec .arbitrationRetry s = .next { s with mtrans := { s.mtrans with tx := some { x with losses := x.losses + 1 } } })
      ∧ (mctpLive s x.port x.ch = true → 4 ≤ x.losses → ∃ t, exec .arbitrationRetry s = .next t ∧ t.mtrans = { s.mtrans with tx := none }
        ∧ ctr t MTRANS_ARB_DROP_LO MTRANS_ARB_DROP_HI = min (ctr s MTRANS_ARB_DROP_LO MTRANS_ARB_DROP_HI + 1) ctrMax
        ∧ rb t MTRANS_EVT_DROP = true))
    ∧ (∀ st p port, s.mtrans.settings = some st → st.ports[port]? = some p → port < 8 → p.role = 3 ∨ p.role = 4 →
      bankFloated s bankMGB = false →
      ∃ t, exec (.smbTimeout port) s = .next t ∧ rb t (MTRANS_I3C_STAT_TIMEOUT_SEEN port) = true ∧ rb t MTRANS_EVT_SMB_TIMEOUT = true
        ∧ t.mtrans = s.mtrans)
    ∧ (∀ o : Origin, o.port ≤ 9 → mctpLive s o.port = true →
      (∀ eid, 8 ≤ eid → eid ≤ 0xFE → ∃ t, exec (.setEndpointId o eid) s = .next t ∧ rf t (eidFld o.port) = eid
        ∧ rb t MTRANS_EVT_EID_SET = true ∧ t.out = .reply .ok [BitVec.ofNat 8 eid] ∧ t.mtrans = s.mtrans)
      ∧ exec (.getEndpointId o) s = .next (s.ret (.reply .ok [BitVec.ofNat 8 (rf s (eidFld o.port))]))
      ∧ exec (.getEndpointUuid o) s = .next (s.ret (.reply .ok (beBytes 16 Config.endpointUuid.toNat)))
      ∧ exec (.getMctpVersionSupport o 0) s = .next (s.ret (.reply .ok [1, 3]))
      ∧ exec (.getMessageTypeSupport o) s = .next (s.ret (.reply .ok [0x00, 0x01, 0x05, 0x06, 0x7F]))
      ∧ exec (.getVendorDefinedMsgSupport o 0) s = .next (s.ret (.reply .ok [0xFF, 0x00, 0x00, 0xFD, 0x95]))
      ∧ exec (.prepareForEndpointDiscovery o) s = .next (s.ret (.reply .ok []))
      ∧ exec (.endpointDiscovery o) s = .next (s.ret (if o.port = 0 then .reply .ok [] else .unsupportedCmd))
      ∧ exec (.unsupportedControlCmd o) s = .next (s.ret .unsupportedCmd))

/-- R349, R351, R352, R354: a packet with a failed check or for another endpoint is only counted; a start packet takes one of 32 contexts and
each packet in sequence lengthens its message; a message out of sequence, timed out or beyond 4,224 bytes is discarded whole, with a notice
to a bound source; a complete control message enters the receive ring while the ring has a slot, and TAIL frees slots. -/
def Obligations.PacketsAreReassembled : Prop :=
  ∀ (s : State) (p : Packet), mctpLive s p.port p.ch = true →
    (p.bad = true → ∃ t, exec (.mctpPacket p) s = .next t ∧ t.mtrans = s.mtrans
      ∧ ctr t MTRANS_PEC_ERR_LO MTRANS_PEC_ERR_HI = min (ctr s MTRANS_PEC_ERR_LO MTRANS_PEC_ERR_HI + 1) ctrMax)
    ∧ (p.bad = false → p.dest ≠ 0 → p.dest ≠ rf s (eidFld p.port) → ∃ t, exec (.mctpPacket p) s = .next t ∧ t.mtrans = s.mtrans
      ∧ ctr t MTRANS_UNKNOWN_SRC_LO MTRANS_UNKNOWN_SRC_HI = min (ctr s MTRANS_UNKNOWN_SRC_LO MTRANS_UNKNOWN_SRC_HI + 1) ctrMax)
    ∧ (p.bad = false → p.dest = 0 ∨ p.dest = rf s (eidFld p.port) →
      (ctxOf s p.port p.src (p.tag % 8) p.owner = none → p.som = true →
        (32 ≤ s.mtrans.ctxs.length → ∃ t, exec (.mctpPacket p) s = .next t ∧ t.mtrans = s.mtrans ∧ rb t MTRANS_STAT_REASM_FULL = true
          ∧ ctr t MTRANS_REASM_DROP_LO MTRANS_REASM_DROP_HI = min (ctr s MTRANS_REASM_DROP_LO MTRANS_REASM_DROP_HI + 1) ctrMax
          ∧ t.kiosk = s.kiosk)
        ∧ (s.mtrans.ctxs.length < 32 → p.data.length ≤ 4224 → p.eom = false → ∃ t, exec (.mctpPacket p) s = .next t
          ∧ t.mtrans = { s.mtrans with ctxs := s.mtrans.ctxs ++ [⟨p.port, p.ch, p.src, p.owner, p.tag % 8, p.data, (p.seq + 1) % 4, false⟩] }
          ∧ t.kiosk = s.kiosk ∧ rf t MTRANS_STAT_REASM_USED = s.mtrans.ctxs.length + 1)
        ∧ (s.mtrans.ctxs.length < 32 → p.data.length ≤ 4224 → p.eom = true → fieldAt p.data 0 1 % 128 = 0 →
          mctpTenant s ⟨p.port, p.src⟩ = none → (∀ c ∈ s.mtrans.ctxs, c.done = false) → ringFull s = false → s.boot.bvDown = false → inTcm (rf s MTRANS_RX_BASE_ADDR + slotSize * ringHead s) slotSize = true →
          ∃ t, exec (.mctpPacket p) s = .next t ∧ t.mtrans.ctxs = s.mtrans.ctxs ∧ rf t MTRANS_RX_PTR_HEAD = (ringHead s + 1) % 16
            ∧ rb t MTRANS_EVT_RX = true ∧ rf t MTRANS_RX_PTR_TAIL = rf s MTRANS_RX_PTR_TAIL
            ∧ tcmRead t (rf s MTRANS_RX_BASE_ADDR + slotSize * ringHead s) (16 + p.data.length)
              = slotHeader s ⟨p.port, p.ch, p.src, p.owner, p.tag % 8, p.data, (p.seq + 1) % 4, true⟩ ++ p.data))
      ∧ (ctxOf s p.port p.src (p.tag % 8) p.owner = none → p.som = false → exec (.mctpPacket p) s = .next s)
      ∧ (∀ c, ctxOf s p.port p.src (p.tag % 8) p.owner = some c → p.som = false →
        (p.seq % 4 = c.seq → (c.data ++ p.data).length ≤ 4224 → p.eom = false → ∃ t, exec (.mctpPacket p) s = .next t
          ∧ { c with data := c.data ++ p.data, seq := (p.seq + 1) % 4 } ∈ t.mtrans.ctxs ∧ t.kiosk = s.kiosk
          ∧ ∀ d ∈ s.mtrans.ctxs, d.is p.port p.src (p.tag % 8) p.owner = false → d ∈ t.mtrans.ctxs)
        ∧ (p.seq % 4 ≠ c.seq → exec (.mctpPacket p) s = .next (s.reasmDrop c .timeout))
        ∧ (p.seq % 4 = c.seq → 4224 < (c.data ++ p.data).length → exec (.mctpPacket p) s = .next (s.reasmDrop c .malformed))))
    ∧ (∀ src tag owner c, ctxOf s p.port src tag owner = some c →
      exec (.reassemblyTimeout p.port src tag owner) s = .next (s.reasmDrop c .timeout))
    ∧ (∀ c code, ctr (s.reasmDrop c code) MTRANS_REASM_DROP_LO MTRANS_REASM_DROP_HI
          = min (ctr s MTRANS_REASM_DROP_LO MTRANS_REASM_DROP_HI + 1) ctrMax
        ∧ rb (s.reasmDrop c code) MTRANS_EVT_DROP = true ∧ ctxOf (s.reasmDrop c code) c.port c.src c.tag c.owner = none
        ∧ (s.reasmDrop c code).kiosk.sent = if (mctpTenant s ⟨c.port, c.src⟩).isSome
          then s.kiosk.sent ++ [.reasmAbort c.port c.src c.tag code.val] else s.kiosk.sent)
    ∧ (∀ tail, (∀ c ∈ s.mtrans.ctxs, c.done = false) → ∃ t, exec (.rxSlotFree tail) s = .next t ∧ rf t MTRANS_RX_PTR_TAIL = tail % 16
        ∧ t.mtrans = s.mtrans ∧ t.tcm = s.tcm)
    ∧ (∀ tail c cs, s.mtrans.ctxs = c :: cs → c.done = true → (∀ d ∈ cs, d.done = false) → ctxTn s c < 513 → s.boot.bvDown = false →
        (ringHead s + 1) % 16 ≠ tail % 16 → ∃ t, exec (.rxSlotFree tail) s = .next t ∧ t.mtrans.ctxs = cs
        ∧ rf t MTRANS_RX_PTR_HEAD = (ringHead s + 1) % 16 ∧ rb t MTRANS_EVT_RX = true)

/-- R353, R355, R356: a vendor request from no tenant is counted; one from a tenant without PERM SERVICE is answered REFUSED_POLICY;
GET_NONCE issues one DRBG item; GET_OUTCOME tells the last non-OK response; KIOSK reaches only the tenant's own mailbox,
where an accepted STATE, HOLD or RESET_CYCLE is answered at once and a SERVICE request waits for firmware. An owner request is
checked in the order of R356, its nonce is used up whatever the outcome, and the command that follows a pass gives the code of the
response. -/
def Obligations.VendorAndOwnerRequests : Prop :=
  ∀ (s : State) (o : Origin) (tn word gen : Nat) (payload : List Byte),
    let owner : List (Nat × Instr) := [(1, .ownerRelease o payload), (2, .ownerProvisionVault o payload), (3, .ownerEnterLockdown o payload),
      (4, .ownerLockSet o payload), (5, .ownerLockClear o payload), (6, .ownerReturnToken o payload), (7, .ownerScrap o payload)]
    (mctpTenant s o = none → ∀ k c, (k, c) ∈ [(1, .vendorKiosk o tn word gen), (2, .getNonce o), (4, .getOutcome o)] ++ owner.map (fun x => ((3 : Byte), x.2)) →
      exec c s = .next (if s.boot.stage = .recovery then s.ret (.reply .refusedState (beBytes 4 64917 ++ [k, 4, 0, 0])) else s.unknownSrc o.port))
    ∧ (∀ t, mctpTenant s o = some t → mode s ≠ moASSEMBLY →
      (t.permService = false → exec (.getNonce o) s = .next (s.respond t.tn 0x7F 2 .refusedPolicy)
        ∧ exec (.getOutcome o) s = .next (s.respond t.tn 0x7F 4 .refusedPolicy))
      ∧ (t.permService = true →
        (∀ it u, s.takeItem = (.ok it, u) → ∃ v, exec (.getNonce o) s = .next v
          ∧ v.out = .reply .ok (beBytes 4 64917 ++ [2, 0] ++ slice it 0 32)
          ∧ v.kiosk.nonces.find? (·.1 = t.tn) = some (t.tn, slice it 0 32, s.usec) ∧ v.rng = u.rng ∧ v.gate = s.gate)
        ∧ (∀ r, s.kiosk.outcomes.find? (·.1 = t.tn) = some (t.tn, r) → exec (.getOutcome o) s
            = .next (s.ret (.reply .ok (beBytes 4 64917 ++ [4, 0] ++ leBytes 1 r.code ++ leBytes 2 r.retry ++ leBytes 1 r.typ ++ leBytes 1 r.cmd))))
        ∧ (lockdown s = false → tn ≠ t.tn → exec (.vendorKiosk o tn word gen) s
            = .next (s.respond t.tn 0x7F 1 (kioskDenied s (bitsAt word 24 8) (bitsAt word 16 8) gen)))
        ∧ (firstCode (kioskEarly s (bitsAt word 24 8) (bitsAt word 16 8) gen) = none → kopService (bitsAt word 24 8) = true →
            kioskDenied s (bitsAt word 24 8) (bitsAt word 16 8) gen = .refusedPolicy)
        ∧ (∀ b c, lockdown s = false → tn = t.tn → tn < 512 → word < 2 ^ 32 → bound s ⟨4, o.port, o.eid⟩ tn = some b →
          rb s (TN_STAT_REQ_FULL tn) = false → rb s (TN_STAT_RSP_FULL tn) = false →
          kioskCode (s.setF (TN_GEN_GEN tn) gen) b (bitsAt word 24 8) (bitsAt word 16 8) (gen % 2 ^ 32) false = some c → c ≠ .busyRetry →
          ∃ v, exec (.vendorKiosk o tn word gen) s = .next v ∧ v.gate = s.gate ∧ rb v (TN_STAT_REQ_FULL tn) = false
            ∧ v.out = .reply .ok (beBytes 4 64917 ++ [1, 0] ++ leBytes 4 (rspWord c (bitsAt word 24 8) 0) ++ leBytes 4 (boundGen s tn)))
        ∧ (∀ b, lockdown s = false → tn = t.tn → tn < 512 → word < 2 ^ 32 → bound s ⟨4, o.port, o.eid⟩ tn = some b →
          rb s (TN_STAT_REQ_FULL tn) = false → rb s (TN_STAT_RSP_FULL tn) = false →
          kioskCode (s.setF (TN_GEN_GEN tn) gen) b (bitsAt word 24 8) (bitsAt word 16 8) (gen % 2 ^ 32) false = none →
          (bitsAt word 24 8 = kopSTATE → ∃ v d, exec (.vendorKiosk o tn word gen) s = .next v ∧ v.gate = s.gate
            ∧ (domExists s (bitsAt word 16 8) = true → d = (s.stateData (bitsAt word 16 8)).1) ∧ rb v (TN_STAT_REQ_FULL tn) = false
            ∧ v.out = .reply .ok (beBytes 4 64917 ++ [1, 0] ++ leBytes 4 (rspWord .ok kopSTATE d) ++ leBytes 4 (boundGen s tn)))
          ∧ (bitsAt word 24 8 = kopHOLD ∨ bitsAt word 24 8 = kopRESET → ∃ v, exec (.vendorKiosk o tn word gen) s = .next v
            ∧ rb v (TN_STAT_REQ_FULL tn) = false ∧ box v tn = Box.init
            ∧ v.out = .reply .ok (beBytes 4 64917 ++ [1, 0] ++ leBytes 4 (rspWord .ok (bitsAt word 24 8) 0) ++ leBytes 4 (boundGen v tn)))
          ∧ (kopService (bitsAt word 24 8) = true → ∃ v, exec (.vendorKiosk o tn word gen) s = .next v
            ∧ box v tn = ⟨1, word, gen % 2 ^ 32, 0, 0, some o⟩ ∧ rb v (TN_STAT_REQ_FULL tn) = true ∧ rb v KIOSK_EVT_REQ_PEND = true
            ∧ v.out = s.out ∧ v.gate = s.gate)))
      ∧ (t.permService = false → lockdown s = false → exec (.vendorKiosk o tn word gen) s
            = .next (s.respond t.tn 0x7F 1 (kioskDenied s (bitsAt word 24 8) (bitsAt word 16 8) gen)))
      ∧ (lockdown s = true → firstCode (kioskEarly s (bitsAt word 24 8) (bitsAt word 16 8) gen) = none →
          exec (.vendorKiosk o tn word gen) s = .next (s.respond t.tn 0x7F 1 .refusedState)))
    ∧ (∀ t k c, mctpTenant s o = some t → (k, c) ∈ owner →
      (ownerLayout s payload k = false → exec c s = .next (s.respond t.tn 0x7F 3 .malformed))
      ∧ (ownerLayout s payload k = true → lockdown s = true → k ≠ 2 → exec c s = .next (s.respond t.tn 0x7F 3 .refusedState))
      ∧ (ownerLayout s payload k = true → mode s = moASSEMBLY → nonceOk s t.tn payload = true → ownerGenOk s payload = true →
        exec c s = .next ((s.useNonce t.tn).respond t.tn 0x7F 3 .notReady))
      ∧ (ownerLayout s payload k = true → lockdown s = false ∨ k = 2 → mode s ≠ moASSEMBLY →
        (nonceOk s t.tn payload = false → exec c s = .next ((s.useNonce t.tn).respond t.tn 0x7F 3 .stale))
        ∧ (nonceOk s t.tn payload = true →
          (∀ e, ownerCode s t payload = some e → ∃ v, exec c s = .next v ∧ v.out = .reply e (beBytes 4 64917 ++ [3, BitVec.ofNat 8 e.val, 0, 0]) ∧ v.gate = s.gate ∧ v.lodge = s.lodge
            ∧ v.upd = s.upd ∧ v.lcs = s.lcs ∧ v.keys = s.keys ∧ v.kiosk.nonces.find? (·.1 = t.tn) = none
            ∧ v.kiosk.outcomes.find? (·.1 = t.tn) = some (t.tn, ⟨e.val, 0, 0x7F, 3⟩))
          ∧ (ownerCode s t payload = none →
            exec c s = .next (((s.useNonce t.tn).ownerRun k payload).1.respond t.tn 0x7F 3 ((s.useNonce t.tn).ownerRun k payload).2))
          ∧ (ownerCode s t payload = none → k = 4 → updState s 0xFFFF = false → rb s FBUS_UPD_STAT_OWNER_LOCK = false →
            updBusy s = false → early s (updIf.key 7) = false → ∃ v, exec c s = .next v
            ∧ v.out = .reply .ok (beBytes 4 64917 ++ [3, 0]) ∧ rb v FBUS_UPD_STAT_OWNER_LOCK = true ∧ v.gate = s.gate)
          ∧ (ownerCode s t payload = none → k = 5 → updState s 0xFFFF = false →
            updBusy s = false → early s (updIf.key 7) = false → ∃ v, exec c s = .next v
            ∧ v.out = .reply .ok (beBytes 4 64917 ++ [3, 0]) ∧ rb v FBUS_UPD_STAT_OWNER_LOCK = false ∧ v.gate = s.gate)
          ∧ (ownerCode s t payload = none → k = 3 → modeRun s = true → asleep s = false → ∃ v, exec c s = .next v ∧ v.out = .reply .ok (beBytes 4 64917 ++ [3, 0]) ∧ lockdown v = true)
          ∧ (ownerCode s t payload = none → k = 7 → rb s LCS_STAT_PENDING = false →
            spareWordsOut s = false → ∃ v, exec c s = .next v ∧ v.out = .reply .ok (beBytes 4 64917 ++ [3, 0])
            ∧ v.lcs.target = some (max lcSCRAP (s.lcs.target.getD 0)) ∧ rb v LCS_STAT_PENDING = true))))

/-- R357 to R361, R363: an SPDM request of a tenant with PERM ATTEST is answered, in LOCKDOWN too; one that breaks DSP0274 gets that
standard's error; versions, capabilities and algorithms are those of R357; a signed response needs KS3; a measurement block carries what the
registers hold; a session opens at KEY_EXCHANGE within its limits, is established by FINISH and ends with its secret; a long response is
fetched in chunks and a request that came in chunks is executed; VENDOR_DEFINED_REQUEST carries the vendor commands. -/
def Obligations.AttestationIsAnswered : Prop :=
  ∀ (s : State) (o : Origin) (t : Tbe) (tr data peer : List Byte) (id off len ver dts idx : Nat) (last sg : Bool),
    let reqs (b : Option SpdmErr) : List Instr := [.getVersion o b, .getCapabilities o ver dts b, .negotiateAlgorithms o b, .getDigests o b,
      .getCertificate o off len b, .challenge o tr b, .getMeasurements o idx sg tr b, .keyExchange o peer tr b, .finish o id tr b,
      .heartbeat o id b, .keyUpdate o id b, .endSession o id b, .respondIfReady o b, .chunkSend o data last b, .chunkGet o b]
    (mctpTenant s o = none → ∀ c ∈ reqs none,
      exec c s = .next (if s.boot.stage = .recovery then s.ret (.reply .refusedState ([0xFF, 0] ++ beBytes 4 64917 ++ [4, 0, 0])) else s.unknownSrc o.port))
    ∧ (mctpTenant s o = some t → mode s ≠ moASSEMBLY → t.permAttest = true →
      (∀ e, ∀ c ∈ reqs (some e), exec c s = .next (s.ret (.spdmError e)))
      ∧ (∃ v, exec (.getVersion o none) s = .next v ∧ v.out = .reply .ok [0x00, 0x13, 0x00, 0x12] ∧ conn v t.tn = Conn.init)
      ∧ (ver = 0x12 ∨ ver = 0x13 → ∃ v, exec (.getCapabilities o ver dts none) s = .next v ∧ conn v t.tn = { Conn.init with version := ver, dts := dts }
        ∧ v.out = .reply .ok (leBytes 1 17 ++ leBytes 4 capFlags ++ leBytes 4 4224 ++ leBytes 4 65536))
      ∧ (ver ≠ 0x12 → ver ≠ 0x13 → exec (.getCapabilities o ver dts none) s = .next (s.ret (.spdmError .versionMismatch)))
      ∧ ((conn s t.tn).version ≠ 0 → ∃ v, exec (.negotiateAlgorithms o none) s = .next v ∧ conn v t.tn = { conn s t.tn with algs := true })
      ∧ exec (.getDigests o none) s = .next (s.ret (.reply .ok (sha384 (certChainNow s))))
      ∧ ((conn s t.tn).dts = 0 → exec (.getCertificate o off len none) s = .next (s.ret (.reply .ok (((certChainNow s).drop off).take len)))
        ∧ exec (.getMeasurements o idx false tr none) s = .next (s.ret (.reply .ok (measData s idx))))
      ∧ ((conn s t.tn).dts ≠ 0 → (conn s t.tn).dts < (measData s idx).length → ∃ v, exec (.getMeasurements o idx false tr none) s = .next v
        ∧ v.out = .spdmError .largeResponse ∧ conn v t.tn = { conn s t.tn with large := measData s idx })
      ∧ measBlock s 3 = [3, 1, 7, 0, 0x87, 4, 0] ++ leBytes 4 (rf s SYSCTL_FW_SVN_FW_SVN)
      ∧ measBlock s 5 = [5, 1, 12, 0, 0x85, 9, 0] ++ leBytes 4 (rf s LCS_CODE_LO_CODE) ++ leBytes 4 (rf s LCS_CODE_HI_CODE)
        ++ leBytes 1 (rf s DEBUG_STAT_LEVEL)
      ∧ (rb s KEYS_STAT_ZEROISED = true → exec (.challenge o tr none) s = .next (s.respond t.tn 5 0x83 .keyRevoked)
        ∧ exec (.getMeasurements o idx true tr none) s = .next (s.respond t.tn 5 0xE0 .keyRevoked)
        ∧ (sessFull s t = false → dhePoint peer ≠ none → exec (.keyExchange o peer tr none) s = .next (s.respond t.tn 5 0xE4 .keyRevoked)))
      ∧ (∀ g u, s.ks3Sign tr = (.ok g, u) → (conn s t.tn).dts = 0 →
        exec (.challenge o tr none) s = .next (u.ret (.reply .ok (sha384 (certChainNow s) ++ g)))
        ∧ exec (.getMeasurements o idx true tr none) s = .next (u.ret (.reply .ok (measData s idx ++ g))))
      ∧ (dhePoint peer = none → exec (.keyExchange o peer tr none) s = .next (s.ret (.spdmError .invalidRequest)))
      ∧ (sessFull s t = true → dhePoint peer ≠ none → exec (.keyExchange o peer tr none) s = .next (s.ret (.spdmError .sessionLimitExceeded)))
      ∧ (∀ it u g w, dhePoint peer ≠ none → sessFull s t = false → rb s KEYS_STAT_ZEROISED = false → s.takeItem = (.ok it, u) →
        u.ks3Sign (tr ++ p384.encode (p384.mul (p384.scalar (beNat it)) p384.base)) = (.ok g, w) →
        ∃ v, exec (.keyExchange o peer tr none) s = .next v ∧ v.mtrans.nextSess = s.mtrans.nextSess + 1
          ∧ v.mtrans.sessions = s.mtrans.sessions
            ++ [⟨s.mtrans.nextSess, t.tn, false, dheSecret (p384.scalar (beNat it)) (dhePoint peer), 0, s.usec⟩])
      ∧ (∀ q, sess s t.tn id = some q →
        (∀ g u, q.est = false → (s.putSess { q with last := s.usec }).ks3Sign tr = (.ok g, u) →
          ∃ v, exec (.finish o id tr none) s = .next v ∧ sess v t.tn id = some { q with est := true, last := s.usec } ∧ v.gate = s.gate)
        ∧ (q.est = true →
          (∃ v, exec (.heartbeat o id none) s = .next v ∧ sess v t.tn id = some { q with last := s.usec } ∧ v.out = .reply .ok [])
          ∧ (∃ v, exec (.keyUpdate o id none) s = .next v ∧ sess v t.tn id = some { q with updates := q.updates + 1, last := s.usec })
          ∧ (∃ v, exec (.endSession o id none) s = .next v ∧ sess v t.tn id = none ∧ v.out = .reply .ok [])))
      ∧ ((conn s t.tn).large = [] → exec (.respondIfReady o none) s = .next (s.ret (.spdmError .unexpectedRequest))
        ∧ exec (.chunkGet o none) s = .next (s.ret (.spdmError .unexpectedRequest)))
      ∧ ((conn s t.tn).large ≠ [] → exec (.respondIfReady o none) s = .next (s.ret (.spdmError .largeResponse))
        ∧ ∃ v, exec (.chunkGet o none) s = .next v ∧ v.out = .reply .ok ((conn s t.tn).large.take (conn s t.tn).dts)
          ∧ (conn v t.tn).large = (conn s t.tn).large.drop (conn s t.tn).dts)
      ∧ (((conn s t.tn).chunk ++ data).length ≤ 65536 → ∃ v, exec (.chunkSend o data false none) s = .next v
        ∧ conn v t.tn = { conn s t.tn with chunk := (conn s t.tn).chunk ++ data })
      ∧ (65536 < ((conn s t.tn).chunk ++ data).length → ∃ v, exec (.chunkSend o data last none) s = .next v
        ∧ conn v t.tn = { conn s t.tn with chunk := [] } ∧ v.out = .spdmError .requestTooLarge)
      ∧ (((conn s t.tn).chunk ++ data).length ≤ 65536 →
        exec (.chunkSend o data true none) s
            = .next ((s.setConn t.tn { conn s t.tn with chunk := [] }).spdmCarried o ((conn s t.tn).chunk ++ data))
        ∧ (4 ≤ ((conn s t.tn).chunk ++ data).length → fieldAt ((conn s t.tn).chunk ++ data) 1 1 = 0x84 →
          ∃ v, exec (.chunkSend o data true none) s = .next v ∧ v.out = .reply .ok [0x00, 0x13, 0x00, 0x12] ∧ conn v t.tn = Conn.init))
      ∧ (lockdown s = false → t.permService = false → ∀ k, k = 2 ∨ k = 4 →
        ∃ v, exec (.vendorDefinedRequest o (beBytes 4 64917 ++ [k]) none) s = .next v
          ∧ v.out = .reply .refusedPolicy ([0xFF, 0] ++ beBytes 4 64917 ++ [BitVec.ofNat 8 Code.refusedPolicy.val, 0, 0]))
      ∧ (∀ r, lockdown s = false → t.permService = true → s.kiosk.outcomes.find? (·.1 = t.tn) = some (t.tn, r) →
        ∃ v, exec (.vendorDefinedRequest o (beBytes 4 64917 ++ [4]) none) s = .next v ∧ v.out = .reply .ok
          (beBytes 4 64917 ++ [4, 0] ++ leBytes 1 r.code ++ leBytes 2 r.retry ++ leBytes 1 r.typ ++ leBytes 1 r.cmd))
      ∧ (lockdown s = false → beNat (slice data 0 4) ≠ 64917 →
        exec (.vendorDefinedRequest o data none) s = .next ((s.ret .none).respond t.tn 5 0xFE .malformed))
      ∧ (∀ it u, lockdown s = false → t.permService = true → s.takeItem = (.ok it, u) →
        ∃ v, exec (.vendorDefinedRequest o (beBytes 4 64917 ++ [2]) none) s = .next v
          ∧ v.out = .reply .ok (beBytes 4 64917 ++ [2, 0] ++ slice it 0 32))
      ∧ (lockdown s = true → exec (.vendorDefinedRequest o data none) s = .next (s.respond t.tn 5 0xFE .refusedState))
      ∧ (∃ v, exec (.spdmUnsupportedRequest o) s = .next v ∧ v.out = .spdmError .unsupportedRequest ∧ v.mtrans = s.mtrans ∧ v.kiosk = s.kiosk))
    ∧ (mctpTenant s o = some t → mode s ≠ moASSEMBLY → t.permAttest = false →
      exec (.getDigests o none) s = .next (s.respond t.tn 5 0x81 .refusedPolicy)
      ∧ exec (.challenge o tr none) s = .next (s.respond t.tn 5 0x83 .refusedPolicy))
    ∧ (∀ st q, s.mtrans.settings = some st → st.hbeat ≠ 0 → s.mtrans.sessions.find? (·.id = id) = some q →
      (s.usec < q.last + 2000000 * st.hbeat → exec (.heartbeatExpiry id) s = .next s)
      ∧ (q.last + 2000000 * st.hbeat ≤ s.usec →
      exec (.heartbeatExpiry id) s = .next { s with mtrans := { s.mtrans with sessions := s.mtrans.sessions.filter (·.id ≠ id) } }))

/-- R70, R114, R353, R362, R366, R368 to R370: PLDM base answers any bound tenant; an update session belongs to the one tenant that opened it, moves
through the phases of DSP0267, in which the HX96 asks for the component's bytes, ends the transfer and tells what its verification found, and is refused under the conditions of R370, with the exact code kept for GET_OUTCOME; ROM recovery, which has no tenants, runs the session of any source. -/
def Obligations.FirmwareUpdateSession : Prop :=
  ∀ (s : State) (o : Origin) (t : Tbe) (comp size svn typ : Nat),
   (recovery s = true →
    exec (.queryDeviceIdentifiers o) s = .next (s.ret (.reply .ok [8, 0, 0, 0, 1, 1, 0, 4, 0, 0x95, 0xFD, 0, 0]))
    ∧ (s.upd.sess = none → exec (.getStatus o) s = .next (s.ret (.reply .ok [0]))
      ∧ (updState s 0xFFFF = false → rb s FBUS_UPD_STAT_OWNER_LOCK = false → ∃ v, exec (.requestUpdate o) s = .next v
        ∧ v.upd = { s.upd with sess := some { tn := (recoveryTbe o).tn, phase := 1, comp := 0xFFFF } } ∧ v.out = .reply .ok [])))
   ∧ (mctpTenant s o = some t → recovery s = false →
    (mode s ≠ moASSEMBLY → lockdown s = false →
      exec (.getTid o) s = .next (s.ret (.reply .ok [Config.pldmTid]))
      ∧ exec (.getPldmTypes o) s = .next (s.ret (.reply .ok [0x21, 0, 0, 0, 0, 0, 0, 0]))
      ∧ (typ = 0 ∨ typ = 5 →
        exec (.getPldmVersion o typ) s = .next (s.ret (.reply .ok (beBytes 4 (Config.typeVersion (256 + typ)).toNat)))
        ∧ exec (.getPldmCommands o typ) s
          = .next (s.ret (.reply .ok (leBytes 32 ((pldmCommands typ).foldl (fun m c => m ||| 2 ^ c) 0)))))
      ∧ (typ ≠ 0 → typ ≠ 5 → exec (.getPldmCommands o typ) s = .next (s.respond t.tn 1 5 .malformed))
      ∧ (t.permUpdate = false → exec (.getStatus o) s = .next (s.respond t.tn 1 0x1B .refusedPolicy)
        ∧ exec (.queryDeviceIdentifiers o) s = .next (s.respond t.tn 1 1 .refusedPolicy))
      ∧ (t.permUpdate = true →
        exec (.queryDeviceIdentifiers o) s = .next (s.ret (.reply .ok [8, 0, 0, 0, 1, 1, 0, 4, 0, 0x95, 0xFD, 0, 0]))
        ∧ exec (.getFirmwareParameters o) s
          = .next (s.ret (.reply .ok ((comps s).flatMap fun c => leBytes 2 0xFFFF ++ leBytes 2 c ++ leBytes 4 (compStamp s c))))
        ∧ (s.upd.sess = none → exec (.getStatus o) s = .next (s.ret (.reply .ok [0]))
          ∧ exec (.passComponentTable o true) s = .next (s.ret (.pldm .notInUpdateMode)))
        ∧ (∀ u, s.upd.sess = some u → u.tn ≠ t.tn → exec (.cancelUpdate o) s = .next (s.ret (.pldm .notInUpdateMode)))
        ∧ (∀ u, s.upd.sess = some u → u.tn = t.tn → exec (.getStatus o) s = .next (s.ret (.reply .ok (leBytes 1 u.phase)))
          ∧ (u.phase = 1 → (∃ v, exec (.passComponentTable o true) s = .next v ∧ v.upd = { s.upd with sess := some { u with phase := 2 } })
            ∧ exec (.passComponentTable o false) s = .next (s.ret (.reply .ok [])))
          ∧ (u.phase = 3 ∨ u.phase = 4 ∨ u.phase = 5 → ∃ v, exec (.cancelUpdateComponent o) s = .next v
            ∧ v.upd = { s.upd with sess := some { tn := u.tn, phase := 2, comp := 0xFFFF } })
          ∧ (1 ≤ u.phase → u.phase ≤ 5 → ∃ v, exec (.cancelUpdate o) s = .next v ∧ v.upd = { s.upd with sess := none }))))
    ∧ (∀ u, s.upd.sess = some u → updMode s = true → exec (.requestUpdate o) s = .next (s.ret (.pldm .alreadyInUpdateMode)))
    ∧ (s.upd.sess = none → updState s 0xFFFF = false →
      (rb s FBUS_UPD_STAT_OWNER_LOCK = false → t.permUpdate = true → ∃ v, exec (.requestUpdate o) s = .next v
        ∧ v.upd = { s.upd with sess := some { tn := t.tn, phase := 1, comp := 0xFFFF } } ∧ v.out = .reply .ok [])
      ∧ (rb s FBUS_UPD_STAT_OWNER_LOCK = true → exec (.requestUpdate o) s = .next (s.pldmRefuse t.tn 0x10 .refusedPolicy)))
    ∧ (s.upd.sess = none → updState s 0xFFFF = true → exec (.requestUpdate o) s = .next (s.pldmRefuse t.tn 0x10 .refusedState)
      ∧ (s.pldmRefuse t.tn 0x10 .refusedState).out = .pldm .unableToInitiateUpdate
      ∧ (s.pldmRefuse t.tn 0x10 .refusedState).kiosk.outcomes.find? (·.1 = t.tn) = some (t.tn, ⟨4, 0, 1, 0x10⟩))
    ∧ (∀ u, s.upd.sess = some u → u.tn = t.tn →
      (∀ c, updMode s = true → updateCode s t comp size svn = some c →
        exec (.updateComponent o comp size svn) s = .next (s.pldmRefuse t.tn 0x14 c))
      ∧ (updateCode s t comp size svn = none → u.phase = 2 → ∃ v v', exec (.updateComponent o comp size svn) s = .next v
        ∧ v.upd = { s.upd with sess := some v' } ∧ v.out = .reply .ok [] ∧ v'.tn = t.tn ∧ v'.comp = comp ∧ v'.size = size ∧ v'.handle = none
        ∧ (0 < size → v'.phase = 3 ∧ v'.sent = some (0x15, leBytes 4 0 ++ leBytes 4 (min 1024 size))))
      ∧ (updateCode s t comp size svn = none → u.phase ≠ 2 →
        exec (.updateComponent o comp size svn) s = .next (s.ret (.pldm .invalidStateForCommand)))
      ∧ (updState s u.comp = false → rb s FBUS_UPD_STAT_OWNER_LOCK = false → t.permUpdate = true →
        u.phase = 2 → ∃ v, exec (.activateFirmware o) s = .next v ∧ v.upd = { s.upd with sess := none }
          ∧ v.out = .reply .ok [BitVec.ofNat 8 s.upd.cfgPending.toNat]))
    ∧ (updMode s = false → (compOffered s comp = true → exec (.updateComponent o comp size svn) s = .next (s.pldmRefuse t.tn 0x14 .refusedState))
      ∧ exec (.activateFirmware o) s = .next (s.respond t.tn 1 0x1A .refusedState)))
   ∧ (∀ u c, s.upd.sess = some u → s.orang.cmd = some c → c.aborted = false → c.poisoned = false →
    (c.op = 2 → u.phase = 3 → u.handle = none ∨ u.handle = some c.handle → c.off + c.len < u.size → u.got ≤ c.off + c.len →
      ∃ v, exec .orangeryCmdDone s = .next v ∧ v.upd = { s.upd with sess := some { u with
        handle := some c.handle
        got := c.off + c.len
        sent := some (0x15, leBytes 4 (c.off + c.len) ++ leBytes 4 (min 1024 (u.size - (c.off + c.len)))) } })
    ∧ (c.op = 2 → u.phase = 3 → u.handle = none ∨ u.handle = some c.handle → u.size ≤ c.off + c.len →
      ∃ v v', exec .orangeryCmdDone s = .next v ∧ v.upd = { s.upd with sess := some v' } ∧ v'.phase = 4 ∧ v'.sent = some (plXFERDONE, [0]))
    ∧ (∀ b r l, c.op = 3 → lanesOn s ≠ 0 → u.phase = 4 → u.handle = some c.handle → stageOf s c.handle = some b →
      verifyStep s u b c.off c.len = (some r, l) →
      ∃ v, exec .orangeryCmdDone s = .next v ∧ v.upd = { s.upd with sess := some { u with
        hashed := l
        phase := if r = .ok then 5 else 4
        sent := some (plVERIFYDONE, [BitVec.ofNat 8 (if r = .ok then 0 else 0x90 + r.val)]) } }))

/-- R370, R372 to R378, R380: the update engine runs one job at a time. UPD_WRITE of a staged image of the component offered, UPD_SETTLE,
UPD_SWAP, UPD_ACTIVATE_BV and COMMIT_SVN start a job whose end shows its code; a root that differs ends the write before anything reaches
flash; a security-version record raises the minimum of its class; RESUME and the pause's own end clear PAUSE. -/
def Obligations.UpdateJobsRun : Prop :=
  ∀ (s : State) (h comp units : Nat) (fail : Option (Nat × Nat)) (src : Option CopyImage), updBusy s = false → updState s 0xFFFF = false →
    rb s FBUS_UPD_STAT_OWNER_LOCK = false → (∀ op, early s (updIf.key op) = false) →
    (∀ o m, stageOf s h = some o → stagedMan o = some m → m.domain = compClass comp → compOffered s comp = true → updState s comp = false →
      nurBusy s comp (some m) = false →
      (writeClash s comp m = false → m.svn ≤ 255 → ∃ t, exec (.updWrite h comp) s = .next t ∧ t.upd.job = some { op := 1, comp, handle := h, aborted := false, devs := writtenDevs s comp m }
        ∧ rf t FBUS_UPD_STAT_JOB = 1 ∧ rf t FBUS_UPD_STAT_WRITTEN = 0 ∧ rf t FBUS_UPD_CMD_STAT_LAST_STATUS = 0 ∧ t.gate = s.gate
        ∧ (comp = 0xFE ∨ comp = 0xFF → rf t FBUS_UPD_STAT_T_COPY = (1 - rf s SYSCTL_BOOT_STAT_COPY_USED)))
      ∧ (writeClash s comp m = false → 255 < m.svn → ∃ t, exec (.updWrite h comp) s = .next t ∧ t.upd = s.upd
        ∧ rf t FBUS_UPD_CMD_STAT_LAST_STATUS = 12)
      ∧ (writeClash s comp m = true → ∃ t, exec (.updWrite h comp) s = .next t ∧ t.upd = s.upd ∧ rf t FBUS_UPD_CMD_STAT_LAST_STATUS = 3))
    ∧ (stageOf s h = none → ∃ t, exec (.updWrite h comp) s = .next t ∧ t.upd = s.upd ∧ rf t FBUS_UPD_CMD_STAT_LAST_STATUS = 15)
    ∧ (rb s FBUS_UPD_STAT_SETTLE_DUE = true → ∃ t, exec .updSettle s = .next t ∧ t.upd.job = some { op := 2, comp := 0xFFFF, handle := 0, aborted := false }
      ∧ rf t FBUS_UPD_CMD_STAT_LAST_STATUS = 0)
    ∧ (rb s FBUS_UPD_STAT_SETTLE_DUE = false → ∃ t, exec .updSettle s = .next t ∧ t.upd = s.upd ∧ rf t FBUS_UPD_CMD_STAT_LAST_STATUS = 4)
    ∧ (∀ d h0 h1, d < 48 → lanesOn s ≠ 0 → domExists s d = true → updState s d = false → (∀ e, (domX s e).job ≠ jobSWAP) →
      (released s d = true → updArg s = domGen s d → ∃ t, exec (.updSwap d h0 h1) s = .next t ∧ rf t FBUS_UPD_CMD_STAT_LAST_STATUS = 0
        ∧ t.upd.job = some { op := 3, comp := d, handle := 0, aborted := false } ∧ (domX t d).job = jobSWAP ∧ domGen t d = genNext (genNext (domGen s d))
        ∧ domState t d = stVERIFYING ∧ (loadOf t d).isSome = true)
      ∧ (updArg s ≠ domGen s d → ∃ t, exec (.updSwap d h0 h1) s = .next t ∧ t.upd = s.upd ∧ rf t FBUS_UPD_CMD_STAT_LAST_STATUS = 5))
    ∧ (updState s 0xFE = false → s.upd.tWritten = true → bvRuns s = true → ∃ t, exec .updActivateBv s = .next t
      ∧ t.upd.job = some { op := 4, comp := 0xFE, handle := 0, aborted := false } ∧ rb t KIOSK_STAT_PAUSE = true ∧ t.boot.stage = .otp ∧ t.tcm = ringCells s ∧ t.mtrans.sessions = []
      ∧ t.kiosk.pauseEnd = s.usec + 150000)
    ∧ (rb s KIOSK_STAT_PAUSE = true → ∃ t, exec .updResume s = .next t ∧ rb t KIOSK_STAT_PAUSE = false ∧ t.upd = s.upd)
    ∧ (s.usec < s.kiosk.pauseEnd → exec .pauseExpiry s = .next s)
    ∧ (s.kiosk.pauseEnd ≤ s.usec → ∃ t, exec .pauseExpiry s = .next t ∧ rb t KIOSK_STAT_PAUSE = false ∧ regsOutside 0x40070000 0x40080000 s t ∧ t.gate = s.gate)
    ∧ (updArg s ≤ 1 → ∃ t, exec .updOwnerLock s = .next t ∧ rf t FBUS_UPD_STAT_OWNER_LOCK = updArg s ∧ t.upd = s.upd)
    ∧ (∀ cls w, cls < 256 → commitSvnCode s cls = none → (otpFree s 640 256).head? = some w → ∃ t, exec (.commitSvn cls) s = .next t
      ∧ t.upd.svn = some (cls, updArg s % 256, w) ∧ t.upd.job = some { op := 5, comp := cls, handle := 0, aborted := false } ∧ t.otp = s.otp)
    ∧ (∀ j, s.upd.svn = none → (j.op = 1 ∨ j.op = 2) →
      let r : State := { s with upd := { s.upd with job := some j } }
      (∃ t, exec .updAbort r = .next t ∧ t.upd.job = some { j with aborted := true }
        ∧ rf t FBUS_UPD_CMD_STAT_LAST_STATUS = 0)
      ∧ (updServed r j = false → exec (.updJobDone units fail src) r = .next r)
      ∧ (updServed r j = true → ∃ t, exec (.updJobDone units fail src) r = .next t ∧ t.upd.job = none ∧ t.out = (updOutcome r j fail.isSome src).2
        ∧ rf t FBUS_UPD_CMD_STAT_LAST_STATUS = (updOutcome r j fail.isSome src).1.val ∧ rf t FBUS_UPD_STAT_JOB = 0
        ∧ rb t FBUS_UPD_EVT_JOB_DONE = true ∧ rf t FBUS_UPD_STAT_WRITTEN = min units 0xFFFF
        ∧ ((updOutcome r j fail.isSome src).1 ≠ .ok → rb t FBUS_UPD_EVT_JOB_FAIL = true ∧ (updOutcome r j fail.isSome src).2 = .none)))
    ∧ (∀ o m, stageOf s h = some o → o.poisoned = false → stagedMan o = some m → rootsOk o m = false →
      updOutcome s { op := 1, comp, handle := h, aborted := false } false src = (.verifyFail, .none))
    ∧ (∀ cls v w, cls < 256 → v < 256 → 640 ≤ w → w < 896 → otpRaw s w = 0 →
      let r : State := { s with upd := { s.upd with job := some { op := 5, comp := cls, handle := 0, aborted := false }, svn := some (cls, v, w) } }
      ∃ t, exec (.commitSvnDone false) r = .next t ∧ otpRaw t w = BitVec.ofNat 64 (3 * 2 ^ 60 + 256 * cls + v) ∧ t.upd.svn = none
        ∧ t.upd.job = none ∧ rf t FBUS_UPD_CMD_STAT_LAST_STATUS = 0)

/-- R383 to R388, R390, R392, R394: a life-cycle request is decided by the table of R384; an accepted one latches its target and programs
the three copies; SCRAP wipes and burns, and a reset asked for meanwhile waits; the debug token, the nonce, halts and scan answer only the writer and the level that their rules
allow. -/
def Obligations.LifeCycleAndDebugAct : Prop :=
  ∀ (s : State) (dbg testen : Bool),
    (∀ k c, (k, c) ∈ [(1, Instr.lcsToFactory dbg), (2, .lcsToOwned dbg), (3, .lcsToReturned dbg), (4, .lcsToScrap dbg)] →
      (dbg = true → (lcState s ≠ lcBLANK ∨ rf s DEBUG_STAT_LEVEL ≠ 3) → ∃ t, exec c s = .next t ∧ t.lcs = s.lcs ∧ t.otp = s.otp
        ∧ rb t LCS_EVT_REFUSED = true ∧ reg t LCS_REQ_STAT = reg s LCS_REQ_STAT)
      ∧ ((dbg = true → lcState s = lcBLANK ∧ rf s DEBUG_STAT_LEVEL = 3) →
        (∀ e, lcsCode s k dbg = some e → ∃ t, exec c s = .next t ∧ t.lcs = s.lcs ∧ t.otp = s.otp ∧ rf t LCS_REQ_STAT_LAST_TARGET = k
          ∧ rf t LCS_REQ_STAT_LAST_STATUS = e.val ∧ rb t LCS_EVT_REFUSED = true ∧ t.gate = s.gate)
        ∧ (lcsCode s k dbg = none → ∃ t, exec c s = .next t ∧ t.lcs.target = some (max k (s.lcs.target.getD 0))
          ∧ rb t LCS_STAT_PENDING = true ∧ rb t LCS_STAT_ARMED = false ∧ rb t LCS_REQ_STAT_BUSY = true ∧ rf t LCS_REQ_STAT_LAST_TARGET = k
          ∧ rf t LCS_REQ_STAT_LAST_STATUS = 0 ∧ rb t LCS_EVT_ACCEPTED = true ∧ t.otp = s.otp
          ∧ (k = 3 → vaultRead t 256 3840 = List.replicate 3840 0)
          ∧ (k = 4 → t.lcs.scrap = 1 ∧ t.orang.keys = [] ∧ fieldAt (vaultRead t 0 1) 0 1 = 0x5A ∧ (modeRun s = true → lockdown t = true)))))
    ∧ (lockdown s = false → spareWordsOut s = false → rb s LCS_STAT_TORN = false → rb s LCS_STAT_PENDING = false →
      (lcState s = lcBLANK → lcsCode s 1 true = none ∧ lcsCode s 1 false = some .refusedState)
      ∧ (lcState s = lcFACTORY → lcsCode s 4 false = none ∧ lcsCode s 3 false = some .refusedState)
      ∧ (lcState s = lcOWNED → lcsCode s 4 false = none
        ∧ lcsCode s 3 false = if rb s LCS_STAT_ARMED then none else some .refusedPolicy)
      ∧ (lcState s = lcRETURNED → lcsCode s 4 false = none ∧ lcsCode s 2 false = some .refusedState)
      ∧ (lcState s = lcSCRAP → ∀ k, lcsCode s k false = some .refusedState))
    ∧ (∀ k, s.lcs.target = some k → ∃ t, exec .lcsProgrammed s = .next t ∧ t.lcs.target = none ∧ rb t LCS_EVT_PROGRAMMED = true
      ∧ (∀ w, w < 3 → otpRaw t w = otpRaw s w ||| lcWord k) ∧ (∀ w, 3 ≤ w → otpRaw t w = otpRaw s w)
      ∧ (k ≠ 4 → rb t LCS_REQ_STAT_BUSY = false ∧ t.lcs.scrap = s.lcs.scrap) ∧ (k = 4 → t.lcs.scrap = 2))
    ∧ (∀ w, (bitsAt w 16 16 = 0x52E7 ∧ w.testBit 0 = true → ∃ t, exec (.lcsArm w) s = .next t ∧ rb t LCS_STAT_ARMED = true ∧ t.lcs = s.lcs)
      ∧ (bitsAt w 16 16 ≠ 0x52E7 → exec (.lcsArm w) s = .next s))
    ∧ (∃ t, exec .armedExpiry s = .next t ∧ rb t LCS_STAT_ARMED = false ∧ t.lcs = s.lcs ∧ lcState t = lcState s)
    ∧ (s.lcs.scrap = 2 → mode s ≠ moDORMANT → ∃ t, exec (.scrapWipeDone testen) s = .next t ∧ t.tcm = [] ∧ t.chans = [] ∧ t.keys = State.reset.keys
      ∧ ∀ w, (3 ≤ w ∧ w < 7) ∨ (64 ≤ w ∧ w < 128) → otpRaw t w = 0xFFFFFFFFFFFFFFFF)
    ∧ (∀ tok, ∃ t, exec (.tokenLoad tok) s = .next t ∧ t.lcs = { s.lcs with token := tok.take 8192, tap := .tokenLoad }
      ∧ rf t DEBUG_STAT_TOKEN_LEN = min tok.length 8192)
    ∧ (∃ t, exec (.tokenClear true) s = .next t ∧ t.lcs = { s.lcs with token := [] } ∧ rf t DEBUG_STAT_TOKEN_LEN = 0)
    ∧ (exec (.tokenClear false) s = .next s ∧ exec (.nonceReq false) s = .next s)
    ∧ (∀ it u, s.takeItem = (.ok it, u) → ∃ t, exec (.nonceReq true) s = .next t ∧ t.out = .code .ok ∧ rb t DEBUG_STAT_NONCE_VALID = true
      ∧ reg t DEBUG_NONCE_LO = BitVec.ofNat 32 (fieldAt it 0 4) ∧ reg t DEBUG_NONCE_HI = BitVec.ofNat 32 (fieldAt it 4 4))
    ∧ (∀ e u, s.takeItem = (.error e, u) → exec (.nonceReq true) s = .next (u.ret (.code e)))
    ∧ (2 ≤ rf s DEBUG_STAT_LEVEL →
      (s.usec < s.atomicUntil → exec (.haltReq true) s = .next { s with lcs := { s.lcs with haltReq := true } })
      ∧ (s.atomicUntil ≤ s.usec → ∃ t, exec (.haltReq true) s = .next t ∧ rb t DEBUG_STAT_HALTED = true ∧ t.boot.wdtEnd = none ∧ t.tcm = s.tcm
        ∧ (∀ e, s.boot.wdtEnd = some e → t.boot.wdtLeft = max 1 (e - s.usec))))
    ∧ (rf s DEBUG_STAT_LEVEL < 2 → exec (.haltReq true) s = .next s)
    ∧ (s.lcs.haltReq = true → ∃ t, exec .halt s = .next t ∧ rb t DEBUG_STAT_HALTED = true ∧ t.lcs.haltReq = false)
    ∧ (rb s DEBUG_STAT_HALTED = true → ∃ t, exec .belvedereResume s = .next t ∧ rb t DEBUG_STAT_HALTED = false
      ∧ (s.boot.wdtLeft ≠ 0 → t.boot.wdtEnd = some (s.usec + s.boot.wdtLeft)))
    ∧ (rf s DEBUG_STAT_LEVEL = 3 → ∃ t, exec .scanEntry s = .next t ∧ rb t DEBUG_STAT_SCAN = true ∧ t.tcm = [] ∧ t.keys.slots = [] ∧ t.keys.l0 = []
      ∧ t.otp = s.otp ∧ t.lodge = s.lodge)
    ∧ (rf s DEBUG_STAT_LEVEL ≠ 3 → exec .scanEntry s = .next s)
    ∧ (s.lcs.scrap ≠ 0 → (rb s DEBUG_STAT_SCAN = true → exec (.scanExit testen) s = .next (s.deferReset 0))
      ∧ (sybLive s = true → rb s SYSCTL_RSTCAUSE_PIN_IGNORED = false → mode s ≠ moDORMANT →
        exec .sysRstNAssert s = .next ((s.modBoot fun b => { b with pinLow := true }).deferReset rcPIN))
      ∧ ∀ w, bootKeyOk w = true → w.testBit 0 = true → exec (.devReset w testen) s = .next (s.deferReset rcSWDEV))
    ∧ (rb s DEBUG_STAT_SCAN = true → s.lcs.scrap = 0 → mode s ≠ moDORMANT → ∃ t, exec (.scanExit testen) s = .next t ∧ afterReset s t)

/-- R395, R396, R398, R401, R405 to R408, R411: the Lodge follows its rail; a burst and a sensor sample move its sense registers and fire the
rules whose count is reached, once, with their actions, ZEROISE first; a brownout loses the vault below 1.6 V; its commands are decided by
R411. -/
def Obligations.LodgeActs : Prop :=
  ∀ s : State,
    (railVbat s = false → ∃ t, exec .railToVbat s = .next t ∧ railVbat t = true ∧ rb t LODGE_EVT_RAIL_CHG = true ∧ t.lodge = s.lodge)
    ∧ (railVbat s = true → ∃ t, exec .railToVddAon s = .next t ∧ railVbat t = false ∧ t.lodge = { s.lodge with sampling := true })
    ∧ (∀ mv, railVbat s = true →
      (2400 ≤ mv → exec (.vbatBrownout mv) s = .next s)
      ∧ (1600 ≤ mv → mv < 2000 → ∃ t, exec (.vbatBrownout mv) s = .next t ∧ t.lodge = { s.lodge with sampling := false }
        ∧ rb t LODGE_STAT_VBAT_OK = false)
      ∧ (mv < 1600 → ∃ t, exec (.vbatBrownout mv) s = .next t ∧ t.lodge.lost = true ∧ t.lodge.sampling = false
        ∧ rf t LODGE_STAT_VAULT = vrCORRUPT ∧ t.keys = s.keys))
    ∧ exec .vbatBrownoutEnd s = .next { s with lodge := { s.lodge with sampling := true } }
    ∧ (∀ one both reads g temps mvs, s.lodge.sampling = false →
      exec (.meshBurst one both reads g) s = .next s ∧ exec (.sensorSample temps mvs) s = .next s)
    ∧ (∀ one both reads g temp mv, s.lodge.sampling = true → s.lodge.rules = none →
      exec (.meshBurst one both reads g) s = .next (s.setB LODGE_SENSE_GLITCH g)
      ∧ ∃ t, exec (.sensorSample [temp] [mv]) s = .next t ∧ rf t LODGE_SENSE_VBAT_MV = mv % 2 ^ LODGE_SENSE_VBAT_MV.wid
        ∧ rb t LODGE_STAT_VBAT_OK = decide (2400 ≤ mv) ∧ t.lodge = s.lodge)
    ∧ (∀ t0 last g, s.lodge.sampling = true → s.lodge.rules = some t0 → t0.rules = [] →
      ∃ t, exec (.meshBurst 0 0 [last] g) s = .next t ∧ rf t LODGE_SENSE_CASE_LVL = (bitsAt last 0 4 &&& bitsAt t0.caseCfg 0 4) ∧ rb t LODGE_SENSE_TRANSIT_LVL = last.testBit 4
        ∧ rb t LODGE_STAT_TRANSIT = transitOn t0 last ∧ t.lodge.vault = s.lodge.vault)
    ∧ (∀ t0 e last, s.lodge.sampling = true → s.lodge.rules = some t0 → t0.rules = [e] → e.source = 0x40 → ruleApplies s e = true →
      ruleFired s 0 = false → ruleWindow s 0 = [] → 1 ≤ e.n → e.k = 1 → transitOn t0 last = true →
      (e.action % 16 = 1 → ∃ t, exec (.meshBurst 0 0 [last] false) s = .next t ∧ ruleFired t 0 = true ∧ rb t LODGE_EVT_FIRE = true
        ∧ rf t LODGE_EVT_TOTAL_TOTAL = min (fieldAt (vaultRead s 76 4) 0 4 + 1) 0xFFFFFFFF)
      ∧ (e.action % 16 = 8 → ∃ t, exec (.meshBurst 0 0 [last] false) s = .next t ∧ ruleFired t 0 = true ∧ rb t LODGE_EVT_ZEROISED = true
        ∧ vaultRead t 0 2 = [0x5A, 0] ∧ vaultRead t 8 68 = List.replicate 68 0 ∧ (modeRun s = true → lockdown t = true)))
    ∧ (∀ len t0, mode s = moASSEMBLY → rb s LODGE_STAT_RULES_APPLIED = false → lodgeSection s len = .ok t0 → ∃ t, exec (.applyRules len) s = .next t
      ∧ t.lodge = { s.lodge with rules := some t0, windows := [] } ∧ rf t LODGE_FIRED_FIRED = 0 ∧ rb t LODGE_STAT_RULES_APPLIED = true
      ∧ rf t LODGE_CMD_STAT_LAST_STATUS = 0)
    ∧ (∀ len i, lodgeSection s len = .error i → ∃ t, exec (.applyRules len) s = .next t ∧ t.lodge = s.lodge
      ∧ rf t LODGE_CMD_STAT_LAST_STATUS = 15)
    ∧ (rb s LODGE_CTRL_LOCK = false → ∃ t, exec .setRtc s = .next t ∧ rf t LODGE_RTC_SEC_SEC = rf s LODGE_CMD_ARG_ARG
      ∧ rf t LODGE_RTC_TICK_TICK = 0 ∧ t.lodge = { s.lodge with rtcFrac := 0 } ∧ rf t LODGE_CMD_STAT_LAST_STATUS = 0)
    ∧ (rb s LODGE_CTRL_LOCK = true → ∃ t, exec .setRtc s = .next t ∧ t.lodge = s.lodge ∧ rf t LODGE_CMD_STAT_LAST_STATUS = 4)
    ∧ (∀ n, (1 ≤ n → n ≤ 11 → ∃ t, exec (.evtAck n) s = .next t ∧ rb t LODGE_STAT_WAKE_PEND = false ∧ t.lodge = s.lodge
        ∧ rf t LODGE_CMD_STAT_LAST_STATUS = 0)
      ∧ (n = 0 ∨ 12 ≤ n → ∃ t, exec (.evtAck n) s = .next t ∧ rf t LODGE_CMD_STAT_LAST_STATUS = 15))
    ∧ (∀ r, r < 32 → r < (lRules s).length → lockdown s = false → ∃ t, exec (.clearFired r) s = .next t ∧ ruleFired t r = false
      ∧ ruleWindow t r = [] ∧ rf t LODGE_CMD_STAT_LAST_STATUS = 0)
    ∧ (∀ r, r < (lRules s).length → lockdown s = true → ∃ t, exec (.clearFired r) s = .next t ∧ t.lodge = s.lodge
      ∧ rf t LODGE_CMD_STAT_LAST_STATUS = 4)

/-- R424 to R429: START opens the journal with the pre-boot records behind its own; WRITE enters firmware's record while the intake has room;
the chaining engine gives the record at the head of the intake the next SEQ and the chain over it, and keeps it unless every place is taken;
a flush moves the oldest records to the log; VERIFY recomputes the chain. -/
def Obligations.JournalActs : Prop :=
  ∀ s : State,
    (rb s JOURNAL_STAT_STARTED = false → classInit s 4 = true → classInit s 5 = true → ∃ t, exec .journalStart s = .next t
      ∧ rb t JOURNAL_STAT_STARTED = true ∧ rf t JOURNAL_CMD_STAT_LAST_STATUS = 0 ∧ t.jnl.preboot = []
      ∧ ∃ r rest, t.jnl.fifo = r :: rest ∧ r.event = 0 ∧ r.cls = 7 ∧ ∃ tail, rest = s.jnl.preboot ++ tail)
    ∧ (rb s JOURNAL_STAT_STARTED = true → ∃ t, exec .journalStart s = .next t ∧ t.jnl = s.jnl ∧ rf t JOURNAL_CMD_STAT_LAST_STATUS = 4)
    ∧ (rb s JOURNAL_STAT_STARTED = true → s.jnl.fifo.length < 256 → early s (jIf.key 3) = false → ∃ t r, exec .journalWrite s = .next t ∧ (∃ tail, t.jnl.fifo = s.jnl.fifo ++ r :: tail)
      ∧ rf t JOURNAL_CMD_STAT_LAST_STATUS = 0 ∧ r.src = 0xFF ∧ r.cls = fieldAt (leBytes 4 (reg s (JOURNAL_FW_DATA 0)).toNat) 0 1
      ∧ r.gen = (reg s (JOURNAL_FW_DATA 2)).toNat)
    ∧ (rb s JOURNAL_STAT_STARTED = true → 256 ≤ s.jnl.fifo.length → ∃ t, exec .journalWrite s = .next t ∧ t.jnl = s.jnl
      ∧ rf t JOURNAL_CMD_STAT_LAST_STATUS = 1)
    ∧ (s.jnl.fifo = [] → exec .journalDrain s = .next s)
    ∧ (∀ r rest, s.jnl.fifo = r :: rest → jPlace s = none →
      (anyServing s = true → exec .journalDrain s = .next (s.setF JOURNAL_STAT_OVF_FULL 1))
      ∧ (anyServing s = false → exec .journalDrain s = .next s))
    ∧ (∀ r rest drop ring, s.jnl.fifo = r :: rest → jPlace s = some (drop, ring) → (lostCounts s).all (· = 0) = true →
      ∃ t, exec .journalDrain s = .next t ∧ t.jnl.fifo = rest ∧ jSeq t = (jSeq s + 1) % 2 ^ 32
        ∧ t.jnl.chain = chainOf s.jnl.kj s.jnl.chain (jSeq s) r ∧ (jSeq s, ⟨r, t.jnl.chain, ring⟩) ∈ t.jnl.held ∧ t.jnl.kj = s.jnl.kj)
    ∧ (rb s JOURNAL_STAT_STARTED = true → rb s JOURNAL_CFG_LOG_EN = true → unflushed s ≠ 0 →
      (∃ t, exec .journalFlush s = .next t ∧ t.jnl = { s.jnl with flushing := true } ∧ rb t JOURNAL_STAT_FLUSH_BUSY = true
        ∧ rf t JOURNAL_CMD_STAT_LAST_STATUS = 0)
      ∧ (∀ written count, logSectors s ≠ 0 → ∃ t, exec (.logFlush written count true) s = .next t
        ∧ jFlushed t = (jFlushed s + min count (unflushed s)) % 2 ^ 32 ∧ rb t JOURNAL_EVT_FLUSHED = true ∧ rb t JOURNAL_STAT_FLUSH_BUSY = false
        ∧ rb t JOURNAL_STAT_LOG_FAIL = false ∧ t.jnl.held = s.jnl.held ∧ t.jnl.flushing = false
        ∧ ∃ er places, t.out = .logWrite er places
            ((List.range (min count (unflushed s))).flatMap fun i => recBytes s ((jFlushed s + i) % 2 ^ 32)))
      ∧ (∀ written count, logSectors s ≠ 0 → ∃ t, exec (.logFlush written count false) s = .next t
        ∧ rb t JOURNAL_STAT_LOG_FAIL = true ∧ rb t JOURNAL_EVT_LOG_FAIL = true ∧ jFlushed t = jFlushed s))
    ∧ (rb s JOURNAL_CFG_LOG_EN = false → ∃ t, exec .journalFlush s = .next t ∧ t.jnl = s.jnl ∧ rf t JOURNAL_CMD_STAT_LAST_STATUS = 4)
    ∧ (∀ n, n < 65536 →
      (n ≠ 0 → (∀ i, i < n → (heldAt s ((rf s JOURNAL_RD_SEL_SEQ + i) % 2 ^ 32)).isSome = true) →
        (s.jnl.verify = none → early s (jIf.key 4) = false → ∃ t, exec (.journalVerify n) s = .next t
          ∧ t.jnl = { s.jnl with verify := some (rf s JOURNAL_RD_SEL_SEQ, n) } ∧ rf t JOURNAL_CMD_STAT_LAST_STATUS = 0)
        ∧ (∀ m, s.jnl.verify = some m → ∃ t, exec (.journalVerify n) s = .next t ∧ t.jnl = s.jnl ∧ rf t JOURNAL_CMD_STAT_LAST_STATUS = 1))
      ∧ (n = 0 → ∃ t, exec (.journalVerify n) s = .next t ∧ t.jnl = s.jnl ∧ rf t JOURNAL_CMD_STAT_LAST_STATUS = 15))
    ∧ (∀ q n, s.jnl.verify = some (q, n) →
      (verifyFrom s n 0 q (chainBefore s q) = none → ∃ t, exec .journalVerifyDone s = .next t
        ∧ t.jnl = { s.jnl with verify := none } ∧ rf t JOURNAL_CMD_STAT_LAST_STATUS = 0)
      ∧ (∀ i, verifyFrom s n 0 q (chainBefore s q) = some i → i < 65536 →
        ∃ t, exec .journalVerifyDone s = .next t ∧ t.jnl = { s.jnl with verify := none } ∧ rf t JOURNAL_CMD_STAT_LAST_STATUS = 11
          ∧ rf t JOURNAL_CMD_STAT_RESULT = i))

/-- A step runs the command at the front of the queue, with the queue's rest in the state; on an empty queue one microsecond passes (the model's
choice: log entry 2). -/
def Obligations.StepRunsTheFrontCommand : Prop :=
  (∀ (s : State) (c : Instr) (rest : List Instr), s.pending = c :: rest → step s = exec c { s with pending := rest })
    ∧ ∀ s : State, s.pending = [] → step s = .next s.tick ∧ s.tick.usec = s.usec + 1 ∧ s.tick.tcm = s.tcm ∧ s.tick.otp = s.otp

/-- R381: OTP bits are programmed once and for all. Whatever command runs, and also across every reset and every cut of a programming, no
bit of an OTP word that was programmed before the step reads 0 after it. -/
def Obligations.NoStepClearsAnOtpBit : Prop :=
  ∀ (s t : State) (w : Nat) (bits : BitVec 64), programmed w bits s → step s = .next t → programmed w bits t

/-- What State.reset is: no command waits, no table lists anything, every register word is that of the register tables, and the mode is
ASSEMBLY, as right after a device reset (R58, R61, R88). That the three life-cycle copies hold the FACTORY code is the model's choice (log entry 6). -/
def Obligations.ResetStateIsAsStated : Prop :=
  State.reset.pending = [] ∧ State.reset.tablesWf = true ∧ mode State.reset = moASSEMBLY ∧ State.reset.tcm = [] ∧ State.reset.chans = []
    ∧ State.reset.keys.slots = [] ∧ State.reset.usec = 0 ∧ rf State.reset (planeFld 0) = plOFF ∧ rf State.reset (planeFld 1) = plOFF
    ∧ (∀ d, d < 48 → domState State.reset d = stHELD ∧ domGen State.reset d = 1)
    ∧ (∀ w, w < 3 → programmed w (lcWord lcFACTORY) State.reset)
    ∧ ∀ a, reg State.reset a = resetWord a

/-- R4, R6, R26, R28, R48, R58, R59, R60, R61, R83, R85, R86: register, power, reset, clock, plane, bank and boot commands run to a next
state, each under conditions on the state and its operands alone. -/
def Obligations.BusPowerAndBootCommandsComplete : Prop :=
  ∀ s : State,
    (∀ a v n q, asleep s = false → accessFault a n true = false → inBar a = false → inTcm a n = true → inXo s a = false →
      exec (.registerWrite a v n q) s = .next ((s.ret .none).tcmWrite a (leBytes n (v % 2 ^ (8 * n)))))
    ∧ (∀ a v q, asleep s = false → accessFault a 4 true = false → inBar a = false → inTcm a 4 = false →
      exec (.registerWrite a v 4 q) s = .next ((s.ret .none).blockWrite a (v % 2 ^ 32)))
    ∧ (∀ a v n q, asleep s = false → accessFault a n true = false → inBar a = true →
      exec (.registerWrite a v n q) s = .next ((s.ret .none).tnWrite ⟨1, 0, q⟩ ((a - TN_REQ 0) / 32) (a % 32) v))
    ∧ (∀ a, asleep s = false → accessFault a 4 false = false → inBar a = false → dbgReads s a = true → bootRomSize ≤ a → inTcm a 4 = false →
      exec (.debugRead a) s = .next (s.ret (.word (readWord s a))))
    ∧ (∀ a n w, asleep s = false → accessFault a n w = true ∨ tcmFault s a n w = true → exec (.busAccessFault a n w) s = .next (s.ret .busFault))
    ∧ (∀ a v, asleep s = false → accessFault a 4 true = false → inBar a = false → a ≠ LCS_REQUEST → dbgWrites s a = true → inTcm a 4 = false →
      exec (.debugWrite a v) s = .next (s.blockWrite a (v % 2 ^ 32)))
    ∧ (∀ te bs, s.boot.stage = .held → mode s ≠ moDORMANT →
      exec (.mainPowerGood te bs) s
        = .next ((((s.modBoot fun b => { b with supplies := 15 }).raise SYSCTL_PIN_STAT_PWRGD_LVL).showBanks bs).endReset te))
    ∧ (sybLive s = true → mode s ≠ moDORMANT →
      completes .pwrgdFall s fun t => t.boot.stage = .held ∧ t.boot.supplies = setBits s.boot.supplies 3 1 0 ∧ t.tcm = [] ∧ t.chans = [] ∧ t.lodge.vault = s.lodge.vault)
    ∧ (∀ k, k < 3 → mode s ≠ moDORMANT →
      exec (.supplyMonitorDrop k) s = .next ((s.modBoot fun b => { b with supplies := setBits b.supplies k 1 0 }).deviceReset rcMONITOR))
    ∧ (∀ k, k < 3 → mode s ≠ moDORMANT →
      exec (.mainPowerLoss k) s = .next ((((s.modBoot fun b => { b with supplies := setBits b.supplies k 1 0 }).deviceReset 0).setF SYSCTL_MODE_MODE
        moDORMANT).setF SYSCTL_RSTCAUSE_PIN_IGNORED 0))
    ∧ (sybLive s = true → mode s ≠ moDORMANT → rb s SYSCTL_RSTCAUSE_PIN_IGNORED = false → s.atomicUntil ≤ s.usec → s.lcs.scrap = 0 →
      completes .sysRstNAssert s fun t => t.boot.stage = .held ∧ t.boot.pinLow = true ∧ t.tcm = [] ∧ t.chans = [] ∧ t.lodge.vault = s.lodge.vault)
    ∧ (∀ te, sybLive s = true → exec (.sysRstNRelease te) s = .next ((s.modBoot fun b => { b with pinLow := false }).endReset te))
    ∧ (∀ te, s.boot.stage = .held → s.boot.pinLow = true → s.boot.supplies = 15 → rb s SYSCTL_RSTCAUSE_PIN_IGNORED = false →
      exec (.rstpinStuckTimeout te) s = .next ((((s.raise SYSCTL_RSTCAUSE_RSTPIN_STUCK).raise SYSCTL_RSTCAUSE_PIN_IGNORED).endReset te).journal
        7 83 srcSYSCTL noUnit))
    ∧ (s.boot.pinLow = false → exec .pinIgnoredClear s = .next (s.setF SYSCTL_RSTCAUSE_PIN_IGNORED 0))
    ∧ (∀ c te, s.boot.deferred = some c → s.lcs.scrap = 0 → exec (.deferredDeviceReset te) s = .next (s.resetNow c te))
    ∧ (∀ w te, bootKeyOk w = true → w.testBit 0 = true → s.atomicUntil ≤ s.usec → s.lcs.scrap = 0 → exec (.devReset w te) s = .next (s.resetNow rcSWDEV te))
    ∧ (∀ p, p < 2 → s.boot.stage = .reset1 → p = activePll s → rb s SYSCTL_CLKSTAT_HOLDOVER = false →
      completes (.pllLock p) s fun t => t.boot.stage = .clocks ∧ rb t (lockFld p) = true)
    ∧ (∀ w, bootKeyOk w = true → w.testBit 1 = true → exec (.bvRestart w) s = .next (s.bvRestart (bitsAt w 2 1) rcRESTART))
    ∧ (∀ w e, bitsAt w 16 16 = 0xC3D2 → s.boot.wdtEnd = some e →
      exec (.wdtKick w) s = .next (s.modBoot fun b => { b with wdtEnd := some (s.usec + 1000 * rf s SYSCTL_WDT_CTL_PERIOD_MS) }))
    ∧ (∀ e, s.boot.wdtEnd = some e → rb s SYSCTL_WDT_CTL_EN = true →
      exec .wdtExpiry s = .next ((s.journal 7 60 srcSYSCTL noUnit).bvRestart 0 rcWDT))
    ∧ (bvRuns s = true → standby s = true → exec .failover s = .next s.failover)
    ∧ (∀ r u, r < 2 → u = (s.setF (refFld r) 0).raise (if r = 0 then SYSCTL_CLKEVT_REFA_LOST else SYSCTL_CLKEVT_REFB_LOST) →
      (refOf u (activePll u) ≠ r → exec (.referenceLost r) s = .next u)
      ∧ (refOf u (activePll u) = r → activePll u.clockLost = activePll u → exec (.referenceLost r) s = .next u.clockLost)
      ∧ (refOf u (activePll u) = r → activePll u.clockLost ≠ activePll u → refOf u.clockLost (activePll u.clockLost) ≠ r →
        exec (.referenceLost r) s = .next u.clockLost.refSpare))
    ∧ (∀ p, p < 2 → p = activePll s → completes (.pllUnlock p) s fun t => rb t (lockFld p) = false
        ∧ rb t (if p = 0 then SYSCTL_CLKEVT_PLL0_UNLOCK else SYSCTL_CLKEVT_PLL1_UNLOCK) = true)
    ∧ (rb s (lockFld (1 - activePll s)) = true → exec .switchReq s = .next (s.clockSwitch (1 - activePll s)))
    ∧ (∀ x c, x < 2 → serving s x = true → c ≠ 1 → exec (.planeIsolation x c) s = .next (s.isolate x))
    ∧ (∀ w, w.testBit 0 = true → rebuildCode s 0 w = none →
      exec (.rebuildA w) s = .next ((s.setPlaneSt 0 plREBUILDING).setF SYSCTL_PLANE_STAT_LAST_STATUS 0))
    ∧ (∀ w, w.testBit 1 = true → rebuildCode s 1 w = none →
      exec (.rebuildB w) s = .next ((s.setPlaneSt 1 plREBUILDING).setF SYSCTL_PLANE_STAT_LAST_STATUS 0))
    ∧ (∀ x, x < 2 → planeSt s x = plREBUILDING → serving s (1 - x) = true →
      exec (.rebuildDone x) s = .next ((s.setPlane x (planeOf s (1 - x))).setPlaneSt x plSERVING))
    ∧ (∀ w, w / 65536 % 4 = 1 → planeSt s 0 = plISOLATED →
      completes (.retrain0 w) s fun t => t.boot.training.testBit 0 = true ∧ rf t SYSCTL_TRAIN_STAT_IF0_RESULT = 0 ∧ rf t SYSCTL_TRAIN_STAT_LAST_STATUS = 0)
    ∧ (∀ w, w / 65536 % 4 = 2 → planeSt s 1 = plISOLATED →
      completes (.retrain1 w) s fun t => t.boot.training.testBit 1 = true ∧ rf t SYSCTL_TRAIN_STAT_IF1_RESULT = 0 ∧ rf t SYSCTL_TRAIN_STAT_LAST_STATUS = 0)
    ∧ (∀ b c, b < 24 → c < 4 → bankClass s b ≠ c → s.gate.applied = false → exec (.bankClassChange b c) s = .next (s.setBankClass b c))
    ∧ (∀ b, b < 24 → bankFloated s b = true → bankMatches s b = true → completes (.bankResume b) s fun t => bankFloated t b = false)
    ∧ (sybLive s = true → exec (.pePerstNChange true) s = .next (s.setB SYSCTL_PIN_STAT_PERST_LVL true))
    ∧ (∀ d, d < 128 → rf s SYSCTL_TEMP_WARN_AT ≤ d → rb s SYSCTL_TEMP_VALID = false → s.boot.tempHot = false →
      completes (.tempSample [d]) s fun t => rf t SYSCTL_TEMP_TEMP = d ∧ rf t SYSCTL_TEMP_PEAK = d ∧ rb t SYSCTL_TEMP_WARN = true)
    ∧ (∀ g w, rb s SYSCTL_PIN_STAT_PERST_LVL = true → rb s MTRANS_STAT_PCIE_EN = true → exec (.pcieLinkChange true g w) s = .next (s.setLink true g w))
    ∧ (∀ c u, s.boot.stage = .clocks → completes (.otpSenseDone c u) s fun t => t.boot.stage = .otp)
    ∧ (s.boot.stage = .otp → s.boot.testen = false → s.boot.restart = none →
      completes (.romStart []) s fun t => t.boot.stage = .rom ∧ t.boot.training = 3 ∧ t.tcm = [])
    ∧ (∀ img k, s.boot.stage = .rom → nextCopy s = some k → s.upd.job = none → firstFail img.timeoutAt 1 (copyChecks s img) = none →
      completes (.copyReadDone img) s fun t => t.boot.stage = .passed ∧ rf t SYSCTL_BOOT_STAT_COPY_USED = k % 2)
    ∧ (∀ cls man img, s.boot.stage = .recovery → cls = 254 →
      firstFail none 2 (classChecks s cls man img img.length ++ [(img.length ≤ 917504 && man.length ≤ 65536, .malformed)]) = none →
      exec (.romRecoveryImage cls man img) s = .next ((s.ret (.rootWrite 1 [(cls, man, img)] none)).resetNow 0 s.boot.testen))
    ∧ (∀ m, s.boot.stage = .passed → s.boot.img = some m → completes .handover s fun t => t.boot.stage = .firmware ∧ t.boot.restart = none)
    ∧ (∀ i cap, i < 2 → s.boot.training.testBit i = true → cap = 1 ∨ cap = 2 →
      exec (.trainingDone i true cap) s = .next ((s.setF (attemptsFld i) (rf s (attemptsFld i) + 1)).trainOne i 1 cap))
    ∧ (∀ u bl bf lv, mode s = moASSEMBLY → s.boot.stage = .firmware → s.boot.training = 0 → sectionsApplied s = true → planeAble s = true →
      s.loadPlaneKeys = (u, true) → exec (.assemblyEnd bl bf lv) s = .next (((u.assemblyDone bl bf lv).leaveAssembly).showStage))

/-- R96, R100, R107, R109, R111, R112, R115, R128, R131, R132, R141, R142: GATE and LOADER commands and the events of domains, lines and
manifests run to a next state, each under conditions on the state and its operands alone. -/
def Obligations.DomainAndLoaderCommandsComplete : Prop :=
  ∀ s : State,
    (∀ d, asleep s = false → domExists s d = true → rf s GATE_CMD_GEN_GEN = domGen s d → mode s ≠ moASSEMBLY → released s d = true ∨ domState s d = stVERIFYING →
      exec (.gateHold d) s = .next ((s.holdDom d).settle.gateEnd opHOLD d .ok))
    ∧ (∀ d, asleep s = false → domExists s d = true → rf s GATE_CMD_GEN_GEN = domGen s d → modeRun s = true → releaseOk s d = true →
      exec (.gateRelease d) s = .next ((s.gateReleaseDom d).settle.gateEnd opRELEASE d .ok))
    ∧ (∀ d, asleep s = false → domExists s d = true → rf s GATE_CMD_GEN_GEN = domGen s d → modeRun s = true → released s d = true →
      exec (.resetCycle d) s = .next ((s.resetCycle d none).settle.gateEnd opRESET_CYCLE d .ok))
    ∧ (∀ d, asleep s = false → domExists s d = true → rf s GATE_CMD_GEN_GEN = domGen s d → modeRun s = true → domState s d = stPARKED → (domX s d).nursery = true →
      exec (.recover d) s = .next ((s.recoverDom d).settle.gateEnd opRECOVER d .ok))
    ∧ (∀ d, asleep s = false → domExists s d = true → rf s GATE_CMD_GEN_GEN = domGen s d → mode s ≠ moASSEMBLY → domState s d ≠ stQUARANTINED →
      exec (.quarantine d) s = .next ((s.gateQuarantineDom d).settle.gateEnd opQUARANTINE d .ok))
    ∧ (asleep s = false → rf s GATE_CMD_GEN_GEN = rf s SYSCTL_MODE_GEN_GEN → modeRun s = true →
      exec (.enterLockdown 0xFF) s = .next ((s.enterLockdown 4).gateEnd opENTER_LOCKDOWN 0xFF .ok))
    ∧ (∀ d u, (domX s d).seq = .hold u → exec (.holdStep d) s = .next ((s.powerDown d u).holdFrom d 17 u))
    ∧ (∀ d, domState s d = stVERIFYING → allAdmitted s d = true → exec (.domainPass d) s = .next (s.passDom d))
    ∧ (∀ d, (predsOf s d).any (released s) = true →
      exec (.releaseDelayExpiry d) s = .next (s.modDomX d fun x => { x with delayDone := true }).settle)
    ∧ (∀ d u, (domX s d).seq = .rel u → (stepWaitsPg s d u = false ∨ pgOk s d = true) →
      exec (.releaseStep d) s = .next ((s.execStep d u).relFrom d 17 (u + 1)))
    ∧ (∀ d u, (domX s d).seq = .rel u → stepWaitsPg s d u = true →
      exec (.pgTimeout d) s = .next ((((s.holdDom d).raise (GATE_DOM_STAT_PG_TIMEOUT d)).raise GATE_EVT_PG_TIMEOUT).journalDom 2 108
        srcGATE d Code.timeout.val).settle)
    ∧ (∀ k p level, pclOf s k = some p → p.input = true → bankFloated s (bankOfPcl k) = false →
      exec (.pclInputChange k level) s = .next ((((s.setB (GATE_PCL_STAT_LEVEL k) level).setB (GATE_PCL_STAT_ASSERTED k)
        (level != p.activeLow)).raise (GATE_PCL_STAT_VALID k)).inputActs k (lineValid s k && lineAsserted s k)))
    ∧ (∀ d, (domX s d).seq = .pulse → (domX s d).reqLine = none → d < 48 →
      exec (.rstPulseEnd d) s = .next ((s.modDomX d fun x => { x with pulseOver := true }).pulseEnd d))
    ∧ (∀ k p, k < 144 → pclOf s k = some p → p.resetReq = true → lineValid s k = true → lineAsserted s k = true → rb s (GATE_PCL_STAT_IGNORED k) = false →
      (domX s p.domain).seq ≠ .pulse → p.domain < 48 →
      completes (.rstreqStuck k) s fun t => rb t (GATE_PCL_STAT_IGNORED k) = true ∧ rb t GATE_EVT_RSTREQ_STUCK = true)
    ∧ (∀ k, rb s (GATE_PCL_STAT_IGNORED k) = true → lineAsserted s k = false →
      exec (.rstreqIgnoredClear k) s = .next (s.setF (GATE_PCL_STAT_IGNORED k) 0))
    ∧ (∀ d l c bytes m, loadOf s d = some l → domCfg s d = some c → l.phase = 0 → l.reverify = false → manTurn s d = true →
      rb s FBUS_STAT_DISC_DONE = true → lanesOn s ≠ 0 → fbLive s (manBus s d) = true → partReason s c.manPart = 0 →
      devIdle s (devOfPart s c.manPart) = true → busServes s (manBus s d) 3 = true → check1 s c bytes = some m →
      exec (.manifestReadDone d bytes) s
        = .next ((s.clearTries (32 + d)).setLoad d { l with man := some m, phase := 1, raw := bytes.take m.totalLen }).refill)
    ∧ (∀ d l m, s.ldr.buf = none → (manQueue s).head? = some d → (undecided s).contains d = true → manBufOk s = true → loadOf s d = some l →
      l.man = some m → exec .manReady s = .next (s.deliverManifest d l m))
    ∧ (∀ d, domExists s d = true → rf s LOADER_CMD_GEN_GEN = domGen s d → manDecidable s d = true → exec (.accept d) s = .next ((s.acceptDom d).loaderEnd opACCEPT d .ok))
    ∧ (∀ d, domExists s d = true → rf s LOADER_CMD_GEN_GEN = domGen s d → manDecidable s d = true → ∀ code, code ∈ [0x03, 0x08, 0x09, 0x0A, 0x0B, 0x0F] →
      exec (.reject d code) s = .next (((s.freeBuf.verifyFail d (rejectCheck code) 0 false 0 code).settle).loaderEnd opREJECT d .ok))
    ∧ (∀ d, domExists s d = true → rf s LOADER_CMD_GEN_GEN = domGen s d → released s d = true → hasJob s d = false → modeServe s = true →
      completes (.reverify d) s fun t => rf t LOADER_CMD_STAT_LAST_STATUS = 0 ∧ rf t LOADER_CMD_STAT_LAST_OP = opREVERIFY)
    ∧ (∀ d, domExists s d = true → rf s LOADER_CMD_GEN_GEN = domGen s d → reverifying s d = true →
      exec (.loaderAbort d) s = .next ((s.modLoad d fun l => { l with aborted := true }).loaderEnd opABORT d .ok))
    ∧ (∀ d l, loadOf s d = some l → l.phase = 0 → l.aborted = false → manTurn s d = true → fbLive s (manBus s d) = true → triesOf s (32 + d) < 3 →
      exec (.burstTimeout d (manBus s d)) s = .next ((((s.setTries (32 + d) (triesOf s (32 + d) + 1)).setF
        (LOADER_FB_STAT_LAST_STATUS (manBus s d)) Code.timeout.val).raise LOADER_EVT_READ_RETRY).bump LOADER_RETRY_LO LOADER_RETRY_HI
        LOADER_EVT_SAT srcLOADER))
    ∧ (∀ d l, loadOf s d = some l → l.reverify = true → l.aborted = false → allRead l = true →
      exec (.reverifyDone d) s = .next (s.loadDrop d).settle ∧ loadOf (s.loadDrop d) d = none
        ∧ rb (s.loadDrop d) LOADER_EVT_REVERIFY_DONE = true ∧ (domX (s.loadDrop d) d).job ≠ jobREVERIFY)

/-- R154, R160, R161, R165, R166, R168, R169, R170, R172, R175, R420: ORANGERY commands and the events of refetches, the ledger, re-
encryption and the re-verifier run to a next state, each under conditions on the state and its operands alone. -/
def Obligations.StoreCommandsComplete : Prop :=
  ∀ s : State,
    (∀ h0 h1 u, ledger s = 1 → devLive s (ledgerDev s) = true → u = (s.ledgerReplay h0 h1).each ((s.ledgerReplay h0 h1).ldr.force.map (·.1)) State.adoptEntries → ledger u ≠ 6 →
      exec (.ledgerReplayDone h0 h1) s
        = .next { u with orang := { u.orang with wts := u.orang.wts.map fun (w : Wt) => { w with held := false } } }.ledgerCheck)
    ∧ (∀ h u, stageAllocCode s = none → s.stageAlloc (arg0 s) none = some (h, u) → exec .stageAlloc s = .next (u.cmdEnd orangeryIf 1 .ok h))
    ∧ (∀ h o, stageWriteCode s h = none → stageOf s h = some o → tcmPoisoned s (arg1 s) (arg2 s) = false →
      exec (.stageWrite h) s = .next ((s.setStage h (some (o.write (arg0 s) (tcmRead s (arg1 s) (arg2 s))))).startCmd
        ⟨2, h, arg0 s, arg2 s, false, false⟩))
    ∧ (∀ h o, stageHashCode s h = none → stageOf s h = some o → exec (.stageHash h) s = .next (s.startCmd ⟨3, h, arg0 s, arg2 s, false, o.poisoned⟩))
    ∧ (∀ h, stageFreeCode s h = none → exec (.stageFree h) s = .next ((s.stageFree h).cmdEnd orangeryIf 4 .ok))
    ∧ (∀ d, revokeCode s d = none → exec (.revoke d) s = .next ((s.revokeDom d).cmdEnd orangeryIf 5 .ok))
    ∧ (∀ c, s.orang.cmd = some c → c.aborted = false →
      exec .orangeryAbort s = .next (({ s with orang := { s.orang with cmd := some { c with aborted := true } } }).cmdEnd orangeryIf 14 .ok))
    ∧ (∀ c, s.orang.cmd = some c → c.aborted = false → c.poisoned = false → c.op ≠ 3 ∨ lanesOn s ≠ 0 →
      exec .orangeryCmdDone s = .next ((s.orangeryEnd c .ok).stagedFor c))
    ∧ (∀ d r l data again e, e = extIx d r → lanesOn s ≠ 0 →
      ((nextRefetch s (busOfDev s (devOfPart s (extOf s e).srcPart))).any fun q => q.ext = e && q.leaf = l) = true → leafRead (expectedHashes s e l) data again = true →
      exec (.refetchDone d r l data again) s = .next ((s.judgeLeaf e l data again).busServed (busOfDev s (devOfPart s (extOf s e).srcPart)) 1))
    ∧ (∀ d r l data again e, e = extIx d r → s.orang.lost.length = 256 → s.orang.lost.contains (e, l) = false → (extOf s e).valid = true → lanesOn s ≠ 0 →
      4096 * l < (extOf s e).len → extReadable s e = true → leafRead (expectedHashes s e l) data again = true →
      exec (.lostLeafRefetch d r l data again) s = .next (s.judgeLeaf e l data again))
    ∧ (∀ e q, s.orang.rekeyQ = e :: q → e < 3072 → rb s ORANGERY_STAT_REKEY_ACTIVE = false → lockdown s = false → epochsLeft s 1 = true →
      completes .rekeyStart s fun t => rb t ORANGERY_STAT_REKEY_ACTIVE = true ∧ t.orang.rekeyQ = q ∧ (extOf t e).prev = (extOf s e).epoch)
    ∧ (rb s ORANGERY_STAT_REKEY_ACTIVE = true → (extOf s (rekeyExt s)).len / 4096 ≤ rf s ORANGERY_REKEY_STAT_BLOCK →
      exec .rekeyDone s = .next ((((s.setExt (rekeyExt s) { extOf s (rekeyExt s) with prev := 0 }).setF ORANGERY_STAT_REKEY_ACTIVE 0).raise
        ORANGERY_EVT_REKEY_DONE).journalDom 3 154 srcORANGERY (extDom (rekeyExt s)) 0 [BitVec.ofNat 8 (extRegion (rekeyExt s))]))
    ∧ (∀ code, ledger s = 2 → ledgerFull s = false → devFree s (ledgerDev s) 1 = true → busServes s (busOfDev s (ledgerDev s)) 2 = true →
      (devX s (ledgerDev s)).other ≠ 1 →
      exec (.ledgerAppendDone 1 true code false) s = .next (s.writeEntryOk.busServed (busOfDev s (ledgerDev s)) 2))
    ∧ (ledger s = 2 → s.orang.retry = true →
      exec .ledgerSwitchRetry s = .next (({ s with orang := { s.orang with retry := false } }).setF ORANGERY_STAT_LEDGER 4))
    ∧ (∀ d r l data again e dev, e = extIx d r → dev = devOfPart s (extOf s e).srcPart → rb s ORANGERY_RV_CTRL_EN = true → rf s ORANGERY_RV_CTRL_RATE ≠ 0 → rvAt s = some (d, r, l) →
      lanesOn s ≠ 0 → (s.orang.wts.any fun w => w.ext = e && (blocksOf w.off w.len).contains l) = false → devIdle s dev = true →
      busServes s (busOfDev s dev) 4 = true → leafRead (expectedHashes s e l) data again = true → ∀ u,
      u = (s.busServed (busOfDev s dev) 4).rvJudge d r l data again → rb u ORANGERY_RV_CTRL_SHADOW_EN = false →
      exec (.rvLeaf d r l data again false false) s = .next (u.rvAdvance d r l))
    ∧ (rb s ORANGERY_STAT_REKEY_ACTIVE = true → rf s ORANGERY_REKEY_STAT_BLOCK < (extOf s (rekeyExt s)).len / 4096 →
      completes .rekeyBlockPassed s fun t => ∃ u, t = State.releaseHeld u ∧ rf u ORANGERY_REKEY_STAT_BLOCK = (rf s ORANGERY_REKEY_STAT_BLOCK + 1) % 2 ^ 17)

/-- R179, R184, R193, R194, R196, R202, R205, R208, R231, R232, R238, R240: frames of every class, the events of a channel port, eSPI
requests and TRELLIS commands run to a next state, each under conditions on the state and its operands alone. -/
def Obligations.PortCommandsComplete : Prop :=
  ∀ s : State,
    (∀ f d, executes s f 0 d → exec (.read f) s = .next (State.runRead f (atFrame s f) d))
    ∧ (∀ f d ea base data act j, executes s f 1 d → f.phase = 2 → f.whole = true → dataIn (atFrame s f) f d ≠ [] → rb s (CH_PORT_STAT_WEL f.ch) = true →
      ea = effAddr (atFrame s f) f.ch d.p d.row (frameAddr f d) → data = (pageSpan d.p.pageSize ea (dataIn (atFrame s f) f d)).2 →
      base = ea - ea % d.p.pageSize + (pageSpan d.p.pageSize ea (dataIn (atFrame s f) f d)).1 →
      touchesSuspended (atFrame s f) f.ch base data.length = false → rangeAct d.p 1 base data.length = (act, j) →
      exec (.program f) s = .next ((atFrame s f).writeFrame f.ch d.p d.opc 1 act j (rowAlert d.row) (decMismatch (atFrame s f) f)
        ⟨1, base, data.length, data, none, f.lines, f.recheck⟩).1)
    ∧ (∀ f d lo act j, executes s f 2 d → rb s (CH_PORT_STAT_WEL f.ch) = true →
      lo = effAddr (atFrame s f) f.ch d.p d.row (frameAddr f d) - effAddr (atFrame s f) f.ch d.p d.row (frameAddr f d) % 2 ^ rowArg d.row →
      touchesSuspended (atFrame s f) f.ch lo (2 ^ rowArg d.row) = false → rangeAct d.p 2 lo (2 ^ rowArg d.row) = (act, j) →
      exec (.eraseSector f) s = .next ((atFrame s f).writeFrame f.ch d.p d.opc 2 act j (rowAlert d.row) (decMismatch (atFrame s f) f)
        ⟨2, lo, 2 ^ rowArg d.row, [], none, [], f.recheck⟩).1)
    ∧ (∀ f d, executes s f 3 d → rb s (CH_PORT_STAT_WEL f.ch) = true → touchesSuspended (atFrame s f) f.ch 0 d.p.devSize = false →
      exec (.eraseChip f) s = .next ((atFrame s f).writeFrame f.ch d.p d.opc 3 (d.p.globalAct 3) 0xFF (rowAlert d.row) (decMismatch (atFrame s f) f)
        ⟨3, 0, d.p.devSize, [], none, [], f.recheck⟩).1)
    ∧ (∀ f d, executes s f 4 d → complete f = true →
      exec (.writeEnable f) s = .next ((atFrame s f).plain f d (fun s => s.raise (CH_PORT_STAT_WEL f.ch)) id))
    ∧ (∀ f d, executes s f 5 d → complete f = true →
      exec (.writeDisable f) s = .next ((atFrame s f).plain f d (fun s => s.setF (CH_PORT_STAT_WEL f.ch) 0) id))
    ∧ (∀ f d, emulated s f 6 d → 0 < outLen (atFrame s f) f d →
      completes (.readStatus f) s fun t => t.out = .bytes (List.replicate (outLen (atFrame s f) f d) (BitVec.ofNat 8 (emuReg s f.ch (rowArg d.row)))))
    ∧ (∀ f d, emulated s f 7 d → (rowNeedsWel d.row = false ∨ rb s (CH_PORT_STAT_WEL f.ch) = true) → srpBlocks (atFrame s f) f d = false →
      completes (.writeStatus f) s fun t => rb t (CH_PORT_STAT_WIP f.ch) = true)
    ∧ (∀ f d, emulated s f 8 d → 0 < outLen (atFrame s f) f d →
      completes (.readId f) s fun t => t.out = .bytes ((List.range (outLen (atFrame s f) f d)).map fun i => d.p.jedec.getD i 0))
    ∧ (∀ f d, executes s f 9 d → f.phase = 2 → f.decDiffer = false → f.shortAt = none → 0 < outLen (atFrame s f) f d →
      d.p.globalAct 9 % 8 = acEMULATE → anyServing s = true →
      completes (.readSfdp f) s fun t => t.out = .bytes ((List.range (outLen (atFrame s f) f d)).map fun i =>
        if frameAddr f d + i < d.p.sfdp.length then d.p.sfdp.getD (frameAddr f d + i) 0 else 0xFF))
    ∧ (∀ f d, emulated s f 10 d → rb s (CH_PORT_STAT_WIP f.ch) = true → canSuspend (chanOf s f.ch) = true →
      completes (.suspend f) s fun t => rb t (CH_PORT_STAT_SUSPENDED f.ch) = true ∧ rb t (CH_PORT_STAT_WIP f.ch) = false)
    ∧ (∀ f d, emulated s f 11 d → rb s (CH_PORT_STAT_SUSPENDED f.ch) = true →
      completes (.resume f) s fun t => rb t (CH_PORT_STAT_SUSPENDED f.ch) = false ∧ rb t (CH_PORT_STAT_WIP f.ch) = true)
    ∧ (∀ f d, executes s f 12 d → complete f = true →
      exec (.resetEnable f) s = .next ((atFrame s f).plain f d (fun s => s.modChan f.ch fun c => { c with rstArmed := true }) id))
    ∧ (∀ f d, executes s f 13 d → complete f = true → rowArg d.row = 0 ∨ (chanOf s f.ch).rstArmed = true →
      exec (.flashReset f) s = .next ((atFrame s f).plain f d (fun s => s.devReset f.ch) id))
    ∧ (∀ f d, executes s f 14 d → complete f = true → rowNeedsWel d.row = false → rowArg d.row = 1 →
      exec (.modeAddr4Set f) s = .next ((atFrame s f).plain f d (fun s => s.raise (CH_PORT_STAT_ADDR4 f.ch)) fun s => s.setF (CH_PORT_STAT_WEL f.ch) 0))
    ∧ (∀ f d, executes s f 14 d → complete f = true → rowNeedsWel d.row = false → rowArg d.row = 2 →
      exec (.modeAddr4Clear f) s = .next ((atFrame s f).plain f d (fun s => s.setF (CH_PORT_STAT_ADDR4 f.ch) 0) fun s => s.setF (CH_PORT_STAT_WEL f.ch) 0))
    ∧ (∀ f d, executes s f 14 d → complete f = true → rowNeedsWel d.row = false → rowArg d.row = 3 →
      exec (.modeQpiSet f) s = .next ((atFrame s f).plain f d (fun s => s.raise (CH_PORT_STAT_QPI f.ch)) fun s => s.setF (CH_PORT_STAT_WEL f.ch) 0))
    ∧ (∀ f d, executes s f 14 d → complete f = true → rowNeedsWel d.row = false → rowArg d.row = 4 →
      exec (.modeQpiClear f) s = .next ((atFrame s f).plain f d (fun s => s.setF (CH_PORT_STAT_QPI f.ch) 0) fun s => s.setF (CH_PORT_STAT_WEL f.ch) 0))
    ∧ (∀ f d, executes s f 14 d → complete f = true → rowNeedsWel d.row = false → rowArg d.row = 5 →
      exec (.modeOctal8dSet f) s = .next ((atFrame s f).plain f d (fun s => s.raise (CH_PORT_STAT_OCTAL_8D f.ch)) fun s => s.setF (CH_PORT_STAT_WEL f.ch) 0))
    ∧ (∀ f d, executes s f 14 d → complete f = true → rowNeedsWel d.row = false → rowArg d.row = 6 →
      exec (.modeOctal8dClear f) s = .next ((atFrame s f).plain f d (fun s => s.setF (CH_PORT_STAT_OCTAL_8D f.ch) 0)
        fun s => s.setF (CH_PORT_STAT_WEL f.ch) 0))
    ∧ (∀ f d, executes s f 14 d → complete f = true → rowNeedsWel d.row = false → rowArg d.row = 7 →
      exec (.modeFailClear f) s = .next ((atFrame s f).plain f d (fun s => (s.setRole f.ch rolePFAIL false).setRole f.ch roleEFAIL false)
        fun s => s.setF (CH_PORT_STAT_WEL f.ch) 0))
    ∧ (∀ f d, executes s f 15 d → completes (.invalidFrame f) s fun t => rb t (CH_TR_EVT_INVALID_OP f.ch) = true ∧ t.orang = s.orang)
    ∧ (∀ ch x, portLive s ch = true → x < 2 → serving s 0 = true → serving s 1 = true → lateOf s x < 15 →
      completes (.lineLate ch x) s fun t => lateOf t x = lateOf s x + 1)
    ∧ (∀ ch x d r off e, e = extIx d r → ch < 96 → x < 2 → serving s 0 = true → serving s 1 = true → (extOf s e).valid = true → off < (extOf s e).len →
      completes (.lateLineArrival ch x d r off true) s fun t => planeOf t (1 - x) = planeOf s (1 - x))
    ∧ (∀ ch, ch < 96 → rf s (CH_PORT_CFG_ALERT_MODE ch) = 1 → rf s (CH_PORT_CFG_MODE ch) ≠ modeESPI →
      exec (.alertPulseEnd ch) s = .next (s.setF (CH_PORT_STAT_ALERT_OUT ch) 0))
    ∧ (∀ ch w, ch < 96 → w.testBit 0 = true → completes (.alertClear ch w) s fun t => rf t (CH_ALERT_CTL_CAUSE ch) = 0)
    ∧ (∀ ch, ch < 96 → exec (.wipClear ch) s = .next ((s.modChan ch fun c => { c with ops := c.ops.map fun (o : RunOp) =>
        { o with minDone := o.minDone || !o.suspended } }).opEnd ch))
    ∧ (∀ ch, ch < 96 → (chanOf s ch).feBad = 0 → rf s (CH_PORT_STAT_FE_ACTIVE ch) = 0 →
      completes (.feTakeover ch) s fun t => rf t (CH_PORT_STAT_FE_ACTIVE ch) = 1 ∧ rb t (CH_PORT_EVT_FE_SWITCH ch) = true)
    ∧ (∀ ch, portLive s ch = true → exec (.chnRstNPulse ch) s = .next (s.devReset ch))
    ∧ (∀ ch tag addr len dd ls, espiLive s ch = true → tagFree s ch tag = true → 1 ≤ len → len ≤ (chanOf s ch).espiMax →
      completes (.espiFlashRead ch tag addr len ls dd) s fun t => t.out = .deferred)
    ∧ (∀ ch tag addr data ls rs dd, espiLive s ch = true → tagFree s ch tag = true → data ≠ [] → data.length ≤ 64 →
      addr % (progOf s ch).devSize + data.length ≤ (progOf s ch).devSize →
      exec (.espiFlashWrite ch tag addr data ls rs dd) s
        = .next (s.espiWrite ch 2 1 (addr % (progOf s ch).devSize) data.length tag (data.map some) ls rs dd))
    ∧ (∀ ch tag addr size rs dd, espiLive s ch = true → tagFree s ch tag = true → size = 4096 ∨ size = 65536 →
      exec (.espiFlashErase ch tag addr size rs dd) s
        = .next (s.espiWrite ch 3 2 (addr % (progOf s ch).devSize - addr % (progOf s ch).devSize % size) size tag [] [] rs dd))
    ∧ (∀ ch tag q, espiLive s ch = true → (chanOf s ch).espi.find? (·.tag = tag) = some q → q.state = 0 → q.kind = 0 → q.data ≠ [] →
      (chanOf s ch).refetchWait.contains tag = false → (chanOf s ch).ready.contains tag = false →
      exec (.espiCompletionReady ch tag) s = .next (((s.modEspi ch tag fun q => { q with state := 1 }).modChan ch fun c =>
        { c with ready := c.ready ++ [tag] }).espiSignal ch))
    ∧ (∀ ch tag rest q, espiLive s ch = true → (chanOf s ch).ready = tag :: rest → (chanOf s ch).espi.find? (·.tag = tag) = some q →
      q.parts.any (lineStale s) = false → q.data.length ≤ 64 → q.state = 1 →
      completes (.getFlashC ch) s fun t => t.out = .flashC tag true 0 q.data)
    ∧ (∀ ch freq io rm pin fl oob, portLive s ch = true → (progOf s ch).mode = modeESPI →
      completes (.setConfiguration ch freq io rm pin fl oob) s fun t => rb t (CH_ESPI_STAT_FLASH_EN ch) = fl ∧ rb t (CH_ESPI_STAT_ALERT_PIN ch) = pin)
    ∧ (∀ ch, portLive s ch = true → (progOf s ch).mode = modeESPI →
      exec (.espiProtocolError ch) s = .next ((s.raise (CH_PORT_EVT_PROT_ERR ch)).ret .noResponse))
    ∧ (∀ ch, portLive s ch = true → (progOf s ch).mode = modeESPI → exec (.espiReset ch) s = .next (s.devReset ch))
    ∧ (∀ ch len, ch < 96 → trLoadCode s ch len = none → exec (.load ch len) s = .next (((s.tableWritten ch).setF (CH_TR_STAT_PEND ch) pendLOADING).modChan ch fun c =>
        { c with pend := tcmRead s (rf s (CH_TR_CMD_ADDR_ADDR ch)) len
                 loadCode := progCheck (tcmRead s (rf s (CH_TR_CMD_ADDR_ADDR ch)) len) len ch (s.boot.cfg.banks.getD (bankOfChan ch) 0) }))
    ∧ (∀ ch, ch < 96 → pendOf s ch = pendLOADING → (chanOf s ch).loadCode = 0 →
      completes (.loadDone ch) s fun t => pendOf t ch = pendLOADED ∧ rf t (CH_TR_CMD_STAT_LAST_STATUS ch) = 0)
    ∧ (∀ ch, ch < 96 → activateCode s ch = none → exec (.activate ch) s = .next ((s.each ((activateSet s ch).filter fun c => pendOf s c = pendLOADED)
        fun s c => s.setF (CH_TR_STAT_PEND c) pendSWAP).cmdEnd (trellisIf ch) 2 .ok))
    ∧ (∀ ch, ch < 96 → pendOf s ch = pendLOADED →
      exec (.discard ch) s = .next (((s.setF (CH_TR_STAT_PEND ch) pendEMPTY).modChan ch fun c => { c with pend := [] }).cmdEnd (trellisIf ch) 3 .ok))
    ∧ (∀ ch, ch < 96 → pendOf s ch = pendSWAP → exec (.swap ch) s = .next (s.swap ch) ∧ (chanOf (s.swap ch) ch).prog = some (chanOf s ch).pend)
end

