-- ==== Sys2Proof/Laws/Sparse.lean ====
section
/-! SUPPORT. Sparse tables: what a write leaves, and that every operation keeps the canonical form. -/

namespace Sys2Proof.Machine

variable {α : Type} [DecidableEq α] (d : Nat → α)

omit [DecidableEq α] in
@[simp] theorem Sparse.get_nil (k : Nat) : Sparse.get d [] k = d k := rfl

omit [DecidableEq α] in
theorem Sparse.get_ins (t : List (Nat × α)) (k j : Nat) (v : α) :
    Sparse.get d (Sparse.ins t k v) j = if j = k then v else Sparse.get d t j := by
  induction t with
  | nil => simp [Sparse.ins, Sparse.get]
  | cons p t ih =>
    unfold Sparse.ins
    split
    · simp [Sparse.get]
    · split
      · simp only [Sparse.get]; split <;> simp_all
      · simp only [Sparse.get, ih]; split <;> split <;> simp_all

omit [DecidableEq α] in
theorem Sparse.get_del (t : List (Nat × α)) (k j : Nat) :
    Sparse.get d (Sparse.del t k) j = if j = k then d k else Sparse.get d t j := by
  induction t with
  | nil => simp only [Sparse.del, Sparse.get]; split <;> simp_all
  | cons p t ih =>
    unfold Sparse.del
    split
    · rw [ih]; simp only [Sparse.get]; split <;> simp_all
    · simp only [Sparse.get, ih]; split <;> split <;> simp_all

/-- A read after a write: the value written at its key, the old one elsewhere. -/
theorem Sparse.get_put (t : List (Nat × α)) (k j : Nat) (v : α) :
    Sparse.get d (Sparse.put d t k v) j = if j = k then v else Sparse.get d t j := by
  unfold Sparse.put
  split
  · rename_i h; rw [Sparse.get_del, h]
  · rw [Sparse.get_ins]

theorem Sparse.wfAbove_mono (t : List (Nat × α)) (b : Option Nat) (c : Nat)
    (hb : ∀ x, b = some x → x ≤ c) (h : Sparse.wfAbove d (some c) t = true) : Sparse.wfAbove d b t = true := by
  cases t with
  | nil => rfl
  | cons p t =>
    simp only [Sparse.wfAbove, Bool.and_eq_true, decide_eq_true_eq] at h ⊢
    refine ⟨⟨?_, h.1.2⟩, h.2⟩
    cases b with
    | none => rfl
    | some x => have := hb x rfl; simp only [decide_eq_true_eq]; omega

theorem Sparse.wfAbove_ins (t : List (Nat × α)) (b : Option Nat) (k : Nat) (v : α) (hv : v ≠ d k)
    (hk : ∀ x, b = some x → x < k) (h : Sparse.wfAbove d b t = true) : Sparse.wfAbove d b (Sparse.ins t k v) = true := by
  induction t generalizing b with
  | nil => cases b <;> simp_all [Sparse.ins, Sparse.wfAbove]
  | cons p t ih =>
    unfold Sparse.ins
    have h0 := h
    simp only [Sparse.wfAbove, Bool.and_eq_true] at h
    split
    · simp only [Sparse.wfAbove, Bool.and_eq_true]
      refine ⟨⟨?_, by simp [hv]⟩, ⟨⟨by simpa, h.1.2⟩, h.2⟩⟩
      cases b with
      | none => rfl
      | some x => simpa using hk x rfl
    · split
      · rename_i hp
        simp only [Sparse.wfAbove, Bool.and_eq_true]
        refine ⟨⟨?_, by simp [hv]⟩, hp ▸ h.2⟩
        cases b with
        | none => rfl
        | some x => simpa using hk x rfl
      · simp only [Sparse.wfAbove, Bool.and_eq_true]
        refine ⟨h.1, ih _ ?_ h.2⟩
        intro x hx
        injection hx; omega

theorem Sparse.wfAbove_del (t : List (Nat × α)) (b : Option Nat) (k : Nat)
    (h : Sparse.wfAbove d b t = true) : Sparse.wfAbove d b (Sparse.del t k) = true := by
  induction t generalizing b with
  | nil => exact h
  | cons p t ih =>
    unfold Sparse.del
    simp only [Sparse.wfAbove, Bool.and_eq_true] at h
    split
    · refine ih _ (Sparse.wfAbove_mono d t b p.1 ?_ h.2)
      intro x hx
      subst hx
      have := h.1.1
      simp only [decide_eq_true_eq] at this
      omega
    · simp only [Sparse.wfAbove, Bool.and_eq_true]
      exact ⟨h.1, ih _ h.2⟩

/-- A write keeps the canonical form. -/
theorem Sparse.wf_put (t : List (Nat × α)) (k : Nat) (v : α) (h : Sparse.wf d t = true) :
    Sparse.wf d (Sparse.put d t k v) = true := by
  unfold Sparse.put Sparse.wf at *
  split
  · exact Sparse.wfAbove_del d t none k h
  · rename_i hv
    exact Sparse.wfAbove_ins d t none k v hv (by simp) h

theorem Sparse.filter_above (p : Nat × α → Bool) (t : List (Nat × α)) (b : Option Nat)
    (h : Sparse.wfAbove d b t = true) : Sparse.wfAbove d b (t.filter p) = true := by
  induction t generalizing b with
  | nil => exact h
  | cons q t ih =>
    simp only [Sparse.wfAbove, Bool.and_eq_true] at h
    simp only [List.filter]
    split
    · simp only [Sparse.wfAbove, Bool.and_eq_true]
      exact ⟨h.1, ih _ h.2⟩
    · refine ih _ (Sparse.wfAbove_mono d t b q.1 ?_ h.2)
      intro x hx
      subst hx
      have := h.1.1
      simp only [decide_eq_true_eq] at this
      omega

/-- Returning keys to their default keeps the canonical form. -/
theorem Sparse.wf_clear (p : Nat → Bool) (t : List (Nat × α)) (h : Sparse.wf d t = true) :
    Sparse.wf d (Sparse.clear p t) = true := Sparse.filter_above d _ t none h

omit [DecidableEq α] in
/-- A key returned to its default reads so, every other key as before. -/
theorem Sparse.get_clear (p : Nat → Bool) (t : List (Nat × α)) (j : Nat) :
    Sparse.get d (Sparse.clear p t) j = if p j then d j else Sparse.get d t j := by
  unfold Sparse.clear
  induction t with
  | nil => simp [Sparse.get]
  | cons q t ih =>
    rw [List.filter_cons]
    by_cases hj : j = q.1 <;> by_cases hq : p q.1 = true <;> simp_all [Sparse.get]

end Sys2Proof.Machine
end

