-- ==== Sys2Proof/Laws/Canon.lean ====
section
/-! SUPPORT. Every operation over a memory keeps its canonical form: TCM, the vault, the register table, OTP, the DRAM of a plane with
its freshness tags, and a staging object. -/

namespace Sys2Proof.Machine

/-- Puts at successive places, folded over any list, keep the form. -/
theorem Sparse.wf_foldl_put {α β : Type} [DecidableEq α] (d : Nat → α) (k : β → Nat) (v : β → α) (l : List β) (t : List (Nat × α))
    (h : Sparse.wf d t = true) : Sparse.wf d (l.foldl (fun m x => Sparse.put d m (k x) (v x)) t) = true := by
  induction l generalizing t with
  | nil => exact h
  | cons x xs ih => exact ih _ (Sparse.wf_put d t (k x) (v x) h)

theorem tcmPut_wf (m : List Host.Cell) (a : Nat) (bs : List Byte) (h : Sparse.wf tcmFill m = true) :
    Sparse.wf tcmFill (tcmPut m a bs) = true := by
  induction bs generalizing m a with
  | nil => exact h
  | cons b bs ih => exact ih _ _ (Sparse.wf_put _ m a b h)

theorem vaultPut_wf (m : List Host.Cell) (a : Nat) (bs : List Byte) (h : Sparse.wf vaultFill m = true) :
    Sparse.wf vaultFill (vaultPut m a bs) = true := by
  induction bs generalizing m a with
  | nil => exact h
  | cons b bs ih => exact ih _ _ (Sparse.wf_put _ m a b h)

theorem putBytes_wf (m : PlaneMem) (a : Nat) (bs : List Byte) (hot : Bool)
    (h : Sparse.wf dramFill m.mem = true ∧ Sparse.wf dramFill m.hot = true) :
    Sparse.wf dramFill (m.putBytes a bs hot).mem = true ∧ Sparse.wf dramFill (m.putBytes a bs hot).hot = true := by
  refine ⟨Sparse.wf_foldl_put dramFill (fun x : Byte × Nat => a + x.2) (·.1) bs.zipIdx m.mem h.1, ?_⟩
  cases hot
  · exact h.2
  · exact Sparse.wf_foldl_put dramFill (fun x : Byte × Nat => a + x.2) (·.1) bs.zipIdx m.hot h.2

theorem tagLines_wf (m : PlaneMem) (line n : Nat) (t : Tag) (h : Sparse.wf noTag m.tags = true) :
    Sparse.wf noTag (m.tagLines line n t).tags = true :=
  Sparse.wf_foldl_put noTag (line + ·) (fun _ => t) (List.range n) m.tags h

theorem stageWrite_wf (o : StageObj) (off : Nat) (bs : List Byte) (h : Sparse.wf stageFill o.mem = true) :
    Sparse.wf stageFill (o.write off bs).mem = true :=
  Sparse.wf_foldl_put stageFill (fun x : Byte × Nat => off + x.2) (·.1) bs.zipIdx o.mem h

theorem otpProgram_wf (s : State) (w : Nat) (v : BitVec 64) (h : Sparse.wf (fun _ => 0) s.otp.words = true) :
    Sparse.wf (fun _ => 0) (s.otpProgram w v).otp.words = true := Sparse.wf_put _ s.otp.words w _ h

variable {s : State}

theorem setReg_tablesWf (a : Nat) (w : Word) (h : s.tablesWf = true) : (s.setReg a w).tablesWf = true := by
  simp only [State.tablesWf, Bool.and_eq_true] at h ⊢
  exact ⟨⟨Sparse.wf_put _ s.regs a w h.1.1, h.1.2⟩, h.2⟩

theorem setF_tablesWf (f : Fld) (v : Nat) (h : s.tablesWf = true) : (s.setF f v).tablesWf = true := setReg_tablesWf _ _ h

theorem resetRegs_tablesWf (p : Nat → Bool) (h : s.tablesWf = true) : (s.resetRegs p).tablesWf = true := by
  simp only [State.tablesWf, Bool.and_eq_true] at h ⊢
  exact ⟨⟨Sparse.wf_clear _ p s.regs h.1.1, h.1.2⟩, h.2⟩

theorem setDigest_tablesWf (base : Nat → Nat) (d : List Byte) (h : s.tablesWf = true) : (s.setDigest base d).tablesWf = true := by
  unfold State.setDigest
  generalize List.range 12 = l
  induction l generalizing s with
  | nil => exact h
  | cons i l ih => exact ih (setReg_tablesWf _ _ h)

theorem tcmWrite_tablesWf (a : Nat) (bs : List Byte) (h : s.tablesWf = true) : (s.tcmWrite a bs).tablesWf = true := by
  simp only [State.tablesWf, Bool.and_eq_true] at h ⊢
  exact ⟨⟨h.1.1, tcmPut_wf s.tcm a bs h.1.2⟩, h.2⟩

theorem showVault_tablesWf (h : s.tablesWf = true) : s.showVault.tablesWf = true := setF_tablesWf _ _ (setF_tablesWf _ _ h)

theorem vaultWrite_tablesWf (a : Nat) (bs : List Byte) (h : s.tablesWf = true) : (s.vaultWrite a bs).tablesWf = true := by
  refine showVault_tablesWf ?_
  simp only [State.tablesWf, State.modLodge, Bool.and_eq_true] at h ⊢
  exact ⟨h.1, vaultPut_wf s.lodge.vault a bs h.2⟩

theorem vaultClear_tablesWf (lo hi : Nat) (h : s.tablesWf = true) : (s.vaultClear lo hi).tablesWf = true := by
  refine showVault_tablesWf ?_
  simp only [State.tablesWf, State.modLodge, Bool.and_eq_true] at h ⊢
  exact ⟨h.1, Sparse.wf_clear _ _ s.lodge.vault h.2⟩

theorem reset_tablesWf : State.reset.tablesWf = true := by decide

end Sys2Proof.Machine
end

