-- ==== Sys2Proof/Laws/Dram.lean ====
section
/-! SUPPORT. What the check of a line says of its MAC (R149), and where the areas of an interface lie (R144, R145). -/

namespace Sys2Proof.Machine

/-- A line that passes its check holds the MAC that the check computes. -/
theorem shadowMac_of_fresh (s : State) (x e off : Nat) (h : lineFresh s x e off = true) :
    shadowMac s x (((extOf s e).base + off) / 64) = checkMac s x e off := by
  simp only [lineFresh, Bool.and_eq_true, decide_eq_true_eq] at h
  unfold shadowMac checkMac
  rw [show heldTag s x (((extOf s e).base + off) / 64) = freshTag s e (off / 4096) from h.1.2]

/-- The MAC of every line below the metadata lies in the metadata, below the part that is never used. -/
theorem macAddr_used (big : Bool) (a m : Nat) (h : macAddr big a = some m) : areaBase big .metadata ≤ m ∧ m + 8 ≤ metaUnused big := by
  unfold macAddr at h
  split at h <;> simp only [Option.some.injEq, reduceCtorEq] at h
  rename_i g
  simp only [Bool.and_eq_true, decide_eq_true_eq] at g
  subst h
  cases big <;> simp only [areaBase, metaUnused] at g ⊢ <;> simp at g ⊢ <;> omega

end Sys2Proof.Machine
end

