-- ==== Sys2Proof/Laws/Fields.lean ====
section
/-! SUPPORT. Registers and their fields: what a write of one leaves in it and in every other. -/

namespace Sys2Proof.Machine

theorem reg_setReg (s : State) (a b : Nat) (w : Word) : reg (s.setReg a w) b = if b = a then w else reg s b :=
  Sparse.get_put _ _ _ _ _

@[simp] theorem reg_setReg_same (s : State) (a : Nat) (w : Word) : reg (s.setReg a w) a = w := by simp [reg_setReg]

theorem reg_setReg_ne (s : State) (a b : Nat) (w : Word) (h : b ≠ a) : reg (s.setReg a w) b = reg s b := by
  simp [reg_setReg, h]

theorem bitsAt_testBit (v lo wid i : Nat) : (bitsAt v lo wid).testBit i = (decide (i < wid) && v.testBit (lo + i)) := by
  simp [bitsAt, Nat.testBit_mod_two_pow, Nat.testBit_shiftRight]

theorem setBits_testBit (v lo wid x i : Nat) : (setBits v lo wid x).testBit i =
    if lo ≤ i ∧ i < lo + wid then x.testBit (i - lo) else v.testBit i := by
  unfold setBits
  simp only [Nat.testBit_or, Nat.testBit_mod_two_pow, Nat.testBit_shiftLeft, Nat.testBit_shiftRight]
  by_cases h1 : i < lo
  · have e1 : decide (i ≥ lo) = false := by simp; omega
    have e2 : decide (i ≥ lo + wid) = false := by simp; omega
    simp [h1, e1, e2] <;> omega
  · by_cases h2 : i < lo + wid
    · have e2 : decide (i ≥ lo + wid) = false := by simp; omega
      have e3 : decide (i - lo < wid) = true := by simp; omega
      have e4 : decide (i ≥ lo) = true := by simp; omega
      have e5 : lo ≤ i ∧ i < lo + wid := by omega
      simp [h1, e2, e3, e5]
    · have e3 : decide (i - lo < wid) = false := by simp; omega
      have e5 : ¬ (lo ≤ i ∧ i < lo + wid) := by omega
      have e6 : lo + wid + (i - (lo + wid)) = i := by omega
      have e7 : decide (i ≥ lo + wid) = true := by simp; omega
      simp [h1, e3, e5, e6, e7]

theorem bitsAt_setBits_same (v lo wid x : Nat) : bitsAt (setBits v lo wid x) lo wid = x % 2 ^ wid := by
  apply Nat.eq_of_testBit_eq
  intro i
  rw [bitsAt_testBit, setBits_testBit, Nat.testBit_mod_two_pow]
  by_cases h : i < wid
  · have : lo ≤ lo + i ∧ lo + i < lo + wid := by omega
    simp [h, this]
  · simp [h]

theorem bitsAt_setBits_disj (v lo wid x l w : Nat) (h : l + w ≤ lo ∨ lo + wid ≤ l) :
    bitsAt (setBits v lo wid x) l w = bitsAt v l w := by
  apply Nat.eq_of_testBit_eq
  intro i
  rw [bitsAt_testBit, bitsAt_testBit, setBits_testBit]
  by_cases h' : i < w
  · have : ¬ (lo ≤ l + i ∧ l + i < lo + wid) := by omega
    simp [h', this]
  · simp [h']

theorem bitsAt_mod32 (v lo wid : Nat) (h : lo + wid ≤ 32) : bitsAt (v % 2 ^ 32) lo wid = bitsAt v lo wid := by
  apply Nat.eq_of_testBit_eq
  intro i
  rw [bitsAt_testBit, bitsAt_testBit, Nat.testBit_mod_two_pow]
  by_cases h' : i < wid
  · have : lo + i < 32 := by omega
    simp [h', this]
  · simp [h']

/-- A field of at most 32 bits that is written reads as the value's low bits. -/
theorem rf_setF_same (s : State) (f : Fld) (v : Nat) (h : f.lo + f.wid ≤ 32) : rf (s.setF f v) f = v % 2 ^ f.wid := by
  unfold rf State.setF
  rw [reg_setReg_same, BitVec.toNat_ofNat, bitsAt_mod32 _ _ _ h, bitsAt_setBits_same]

/-- A field that shares no bit with the one written keeps its value. -/
theorem rf_setF_ne (s : State) (f g : Fld) (v : Nat)
    (h : f.addr ≠ g.addr ∨ ((g.lo + g.wid ≤ f.lo ∨ f.lo + f.wid ≤ g.lo) ∧ g.lo + g.wid ≤ 32)) : rf (s.setF f v) g = rf s g := by
  unfold rf State.setF
  by_cases ha : f.addr = g.addr
  · obtain ⟨h1, h2⟩ := h.resolve_left (fun k => k ha)
    rw [← ha, reg_setReg_same, BitVec.toNat_ofNat, bitsAt_mod32 _ _ _ h2, bitsAt_setBits_disj _ _ _ _ _ _ h1]
  · rw [reg_setReg_ne _ _ _ _ (fun k => ha k.symm)]

theorem rb_setF_same (s : State) (f : Fld) (v : Nat) (h : f.lo + f.wid ≤ 32) : rb (s.setF f v) f = (v % 2 ^ f.wid != 0) := by
  unfold rb; rw [rf_setF_same s f v h]

theorem rb_setF_ne (s : State) (f g : Fld) (v : Nat)
    (h : f.addr ≠ g.addr ∨ ((g.lo + g.wid ≤ f.lo ∨ f.lo + f.wid ≤ g.lo) ∧ g.lo + g.wid ≤ 32)) : rb (s.setF f v) g = rb s g := by
  unfold rb; rw [rf_setF_ne s f g v h]

/-- A field of a register whose address is another is untouched by a write of a whole register. -/
theorem rf_setReg_ne (s : State) (a : Nat) (w : Word) (g : Fld) (h : g.addr ≠ a) : rf (s.setReg a w) g = rf s g := by
  unfold rf; rw [reg_setReg_ne _ _ _ _ h]

/-- Fields depend on the registers alone. -/
theorem rf_congr (s t : State) (h : t.regs = s.regs) (g : Fld) : rf t g = rf s g := by simp [rf, reg, h]
theorem rb_congr (s t : State) (h : t.regs = s.regs) (g : Fld) : rb t g = rb s g := by simp [rb, rf_congr s t h]

/-! ### Updates of other groups -/

@[simp] theorem reg_ret (s : State) (o : Out) (a : Nat) : reg (s.ret o) a = reg s a := rfl
@[simp] theorem rf_ret (s : State) (o : Out) (g : Fld) : rf (s.ret o) g = rf s g := rfl
@[simp] theorem rb_ret (s : State) (o : Out) (g : Fld) : rb (s.ret o) g = rb s g := rfl
@[simp] theorem reg_modBoot (s : State) (f : Boot → Boot) (a : Nat) : reg (s.modBoot f) a = reg s a := rfl
@[simp] theorem rf_modBoot (s : State) (f : Boot → Boot) (g : Fld) : rf (s.modBoot f) g = rf s g := rfl
@[simp] theorem rb_modBoot (s : State) (f : Boot → Boot) (g : Fld) : rb (s.modBoot f) g = rb s g := rfl
@[simp] theorem reg_modLcs (s : State) (f : Lcs → Lcs) (a : Nat) : reg (s.modLcs f) a = reg s a := rfl
@[simp] theorem rf_modLcs (s : State) (f : Lcs → Lcs) (g : Fld) : rf (s.modLcs f) g = rf s g := rfl
@[simp] theorem rb_modLcs (s : State) (f : Lcs → Lcs) (g : Fld) : rb (s.modLcs f) g = rb s g := rfl
@[simp] theorem reg_modKeys (s : State) (f : Keys → Keys) (a : Nat) : reg (s.modKeys f) a = reg s a := rfl
@[simp] theorem rf_modKeys (s : State) (f : Keys → Keys) (g : Fld) : rf (s.modKeys f) g = rf s g := rfl
@[simp] theorem rb_modKeys (s : State) (f : Keys → Keys) (g : Fld) : rb (s.modKeys f) g = rb s g := rfl
@[simp] theorem reg_modRng (s : State) (f : Rng → Rng) (a : Nat) : reg (s.modRng f) a = reg s a := rfl
@[simp] theorem rf_modRng (s : State) (f : Rng → Rng) (g : Fld) : rf (s.modRng f) g = rf s g := rfl
@[simp] theorem rb_modRng (s : State) (f : Rng → Rng) (g : Fld) : rb (s.modRng f) g = rb s g := rfl
@[simp] theorem reg_modMem (s : State) (f : MemInt → MemInt) (a : Nat) : reg (s.modMem f) a = reg s a := rfl
@[simp] theorem rf_modMem (s : State) (f : MemInt → MemInt) (g : Fld) : rf (s.modMem f) g = rf s g := rfl
@[simp] theorem rb_modMem (s : State) (f : MemInt → MemInt) (g : Fld) : rb (s.modMem f) g = rb s g := rfl
@[simp] theorem reg_modKiosk (s : State) (f : Kiosk → Kiosk) (a : Nat) : reg (s.modKiosk f) a = reg s a := rfl
@[simp] theorem rf_modKiosk (s : State) (f : Kiosk → Kiosk) (g : Fld) : rf (s.modKiosk f) g = rf s g := rfl
@[simp] theorem rb_modKiosk (s : State) (f : Kiosk → Kiosk) (g : Fld) : rb (s.modKiosk f) g = rb s g := rfl
@[simp] theorem reg_modUpd (s : State) (f : Upd → Upd) (a : Nat) : reg (s.modUpd f) a = reg s a := rfl
@[simp] theorem rf_modUpd (s : State) (f : Upd → Upd) (g : Fld) : rf (s.modUpd f) g = rf s g := rfl
@[simp] theorem rb_modUpd (s : State) (f : Upd → Upd) (g : Fld) : rb (s.modUpd f) g = rb s g := rfl
@[simp] theorem reg_modLodge (s : State) (f : Lodge → Lodge) (a : Nat) : reg (s.modLodge f) a = reg s a := rfl
@[simp] theorem rf_modLodge (s : State) (f : Lodge → Lodge) (g : Fld) : rf (s.modLodge f) g = rf s g := rfl
@[simp] theorem rb_modLodge (s : State) (f : Lodge → Lodge) (g : Fld) : rb (s.modLodge f) g = rb s g := rfl
@[simp] theorem reg_otpProgram (s : State) (w : Nat) (v : BitVec 64) (a : Nat) : reg (s.otpProgram w v) a = reg s a := rfl
@[simp] theorem rf_otpProgram (s : State) (w : Nat) (v : BitVec 64) (g : Fld) : rf (s.otpProgram w v) g = rf s g := rfl
@[simp] theorem rb_otpProgram (s : State) (w : Nat) (v : BitVec 64) (g : Fld) : rb (s.otpProgram w v) g = rb s g := rfl
@[simp] theorem reg_tcmWrite (s : State) (c : Nat) (bs : List Byte) (a : Nat) : reg (s.tcmWrite c bs) a = reg s a := rfl
@[simp] theorem rf_tcmWrite (s : State) (a : Nat) (bs : List Byte) (g : Fld) : rf (s.tcmWrite a bs) g = rf s g := rfl
@[simp] theorem rb_tcmWrite (s : State) (a : Nat) (bs : List Byte) (g : Fld) : rb (s.tcmWrite a bs) g = rb s g := rfl
@[simp] theorem reg_atomic (s : State) (a : Nat) : reg (s.atomic) a = reg s a := rfl
@[simp] theorem rf_atomic (s : State) (g : Fld) : rf (s.atomic) g = rf s g := rfl
@[simp] theorem rb_atomic (s : State) (g : Fld) : rb (s.atomic) g = rb s g := rfl

/-! A record update that leaves the registers leaves every field of them. -/

@[simp] theorem reg_mk (u : State) (a : Nat) (pending tcm usec atomicUntil freeIx retries out jnl boot otp gate chans ldr orang fbus mem lateA lateB rng eng keys lodge lcs kiosk mtrans upd) : reg (State.mk pending u.regs tcm usec atomicUntil freeIx retries out jnl boot otp gate chans ldr orang fbus mem lateA lateB rng eng keys lodge lcs kiosk mtrans upd) a = reg u a := rfl
@[simp] theorem rf_mk (u : State) (g : Fld) (pending tcm usec atomicUntil freeIx retries out jnl boot otp gate chans ldr orang fbus mem lateA lateB rng eng keys lodge lcs kiosk mtrans upd) : rf (State.mk pending u.regs tcm usec atomicUntil freeIx retries out jnl boot otp gate chans ldr orang fbus mem lateA lateB rng eng keys lodge lcs kiosk mtrans upd) g = rf u g := rfl
@[simp] theorem rb_mk (u : State) (g : Fld) (pending tcm usec atomicUntil freeIx retries out jnl boot otp gate chans ldr orang fbus mem lateA lateB rng eng keys lodge lcs kiosk mtrans upd) : rb (State.mk pending u.regs tcm usec atomicUntil freeIx retries out jnl boot otp gate chans ldr orang fbus mem lateA lateB rng eng keys lodge lcs kiosk mtrans upd) g = rb u g := rfl

end Sys2Proof.Machine
end

