-- ==== Sys2Proof/Laws/State.lean ====
section
/-! SUPPORT. What each update of the state leaves: one lemma per field per update, so that no later proof unfolds a record
update. -/

namespace Sys2Proof.Machine

variable (s : State)

@[simp] theorem State.setReg_pending (a : Nat) (w : Word) : (s.setReg a w).pending = s.pending := rfl
@[simp] theorem State.setReg_tcm (a : Nat) (w : Word) : (s.setReg a w).tcm = s.tcm := rfl
@[simp] theorem State.setReg_usec (a : Nat) (w : Word) : (s.setReg a w).usec = s.usec := rfl
@[simp] theorem State.setReg_atomicUntil (a : Nat) (w : Word) : (s.setReg a w).atomicUntil = s.atomicUntil := rfl
@[simp] theorem State.setReg_freeIx (a : Nat) (w : Word) : (s.setReg a w).freeIx = s.freeIx := rfl
@[simp] theorem State.setReg_retries (a : Nat) (w : Word) : (s.setReg a w).retries = s.retries := rfl
@[simp] theorem State.setReg_out (a : Nat) (w : Word) : (s.setReg a w).out = s.out := rfl
@[simp] theorem State.setReg_jnl (a : Nat) (w : Word) : (s.setReg a w).jnl = s.jnl := rfl
@[simp] theorem State.setReg_boot (a : Nat) (w : Word) : (s.setReg a w).boot = s.boot := rfl
@[simp] theorem State.setReg_otp (a : Nat) (w : Word) : (s.setReg a w).otp = s.otp := rfl
@[simp] theorem State.setReg_gate (a : Nat) (w : Word) : (s.setReg a w).gate = s.gate := rfl
@[simp] theorem State.setReg_chans (a : Nat) (w : Word) : (s.setReg a w).chans = s.chans := rfl
@[simp] theorem State.setReg_ldr (a : Nat) (w : Word) : (s.setReg a w).ldr = s.ldr := rfl
@[simp] theorem State.setReg_orang (a : Nat) (w : Word) : (s.setReg a w).orang = s.orang := rfl
@[simp] theorem State.setReg_fbus (a : Nat) (w : Word) : (s.setReg a w).fbus = s.fbus := rfl
@[simp] theorem State.setReg_mem (a : Nat) (w : Word) : (s.setReg a w).mem = s.mem := rfl
@[simp] theorem State.setReg_lateA (a : Nat) (w : Word) : (s.setReg a w).lateA = s.lateA := rfl
@[simp] theorem State.setReg_lateB (a : Nat) (w : Word) : (s.setReg a w).lateB = s.lateB := rfl
@[simp] theorem State.setReg_rng (a : Nat) (w : Word) : (s.setReg a w).rng = s.rng := rfl
@[simp] theorem State.setReg_eng (a : Nat) (w : Word) : (s.setReg a w).eng = s.eng := rfl
@[simp] theorem State.setReg_keys (a : Nat) (w : Word) : (s.setReg a w).keys = s.keys := rfl
@[simp] theorem State.setReg_lodge (a : Nat) (w : Word) : (s.setReg a w).lodge = s.lodge := rfl
@[simp] theorem State.setReg_lcs (a : Nat) (w : Word) : (s.setReg a w).lcs = s.lcs := rfl
@[simp] theorem State.setReg_kiosk (a : Nat) (w : Word) : (s.setReg a w).kiosk = s.kiosk := rfl
@[simp] theorem State.setReg_mtrans (a : Nat) (w : Word) : (s.setReg a w).mtrans = s.mtrans := rfl
@[simp] theorem State.setReg_upd (a : Nat) (w : Word) : (s.setReg a w).upd = s.upd := rfl

@[simp] theorem State.setF_pending (f : Fld) (v : Nat) : (s.setF f v).pending = s.pending := rfl
@[simp] theorem State.setF_tcm (f : Fld) (v : Nat) : (s.setF f v).tcm = s.tcm := rfl
@[simp] theorem State.setF_usec (f : Fld) (v : Nat) : (s.setF f v).usec = s.usec := rfl
@[simp] theorem State.setF_atomicUntil (f : Fld) (v : Nat) : (s.setF f v).atomicUntil = s.atomicUntil := rfl
@[simp] theorem State.setF_freeIx (f : Fld) (v : Nat) : (s.setF f v).freeIx = s.freeIx := rfl
@[simp] theorem State.setF_retries (f : Fld) (v : Nat) : (s.setF f v).retries = s.retries := rfl
@[simp] theorem State.setF_out (f : Fld) (v : Nat) : (s.setF f v).out = s.out := rfl
@[simp] theorem State.setF_jnl (f : Fld) (v : Nat) : (s.setF f v).jnl = s.jnl := rfl
@[simp] theorem State.setF_boot (f : Fld) (v : Nat) : (s.setF f v).boot = s.boot := rfl
@[simp] theorem State.setF_otp (f : Fld) (v : Nat) : (s.setF f v).otp = s.otp := rfl
@[simp] theorem State.setF_gate (f : Fld) (v : Nat) : (s.setF f v).gate = s.gate := rfl
@[simp] theorem State.setF_chans (f : Fld) (v : Nat) : (s.setF f v).chans = s.chans := rfl
@[simp] theorem State.setF_ldr (f : Fld) (v : Nat) : (s.setF f v).ldr = s.ldr := rfl
@[simp] theorem State.setF_orang (f : Fld) (v : Nat) : (s.setF f v).orang = s.orang := rfl
@[simp] theorem State.setF_fbus (f : Fld) (v : Nat) : (s.setF f v).fbus = s.fbus := rfl
@[simp] theorem State.setF_mem (f : Fld) (v : Nat) : (s.setF f v).mem = s.mem := rfl
@[simp] theorem State.setF_lateA (f : Fld) (v : Nat) : (s.setF f v).lateA = s.lateA := rfl
@[simp] theorem State.setF_lateB (f : Fld) (v : Nat) : (s.setF f v).lateB = s.lateB := rfl
@[simp] theorem State.setF_rng (f : Fld) (v : Nat) : (s.setF f v).rng = s.rng := rfl
@[simp] theorem State.setF_eng (f : Fld) (v : Nat) : (s.setF f v).eng = s.eng := rfl
@[simp] theorem State.setF_keys (f : Fld) (v : Nat) : (s.setF f v).keys = s.keys := rfl
@[simp] theorem State.setF_lodge (f : Fld) (v : Nat) : (s.setF f v).lodge = s.lodge := rfl
@[simp] theorem State.setF_lcs (f : Fld) (v : Nat) : (s.setF f v).lcs = s.lcs := rfl
@[simp] theorem State.setF_kiosk (f : Fld) (v : Nat) : (s.setF f v).kiosk = s.kiosk := rfl
@[simp] theorem State.setF_mtrans (f : Fld) (v : Nat) : (s.setF f v).mtrans = s.mtrans := rfl
@[simp] theorem State.setF_upd (f : Fld) (v : Nat) : (s.setF f v).upd = s.upd := rfl

@[simp] theorem State.setB_pending (f : Fld) (b : Bool) : (s.setB f b).pending = s.pending := rfl
@[simp] theorem State.setB_tcm (f : Fld) (b : Bool) : (s.setB f b).tcm = s.tcm := rfl
@[simp] theorem State.setB_usec (f : Fld) (b : Bool) : (s.setB f b).usec = s.usec := rfl
@[simp] theorem State.setB_atomicUntil (f : Fld) (b : Bool) : (s.setB f b).atomicUntil = s.atomicUntil := rfl
@[simp] theorem State.setB_freeIx (f : Fld) (b : Bool) : (s.setB f b).freeIx = s.freeIx := rfl
@[simp] theorem State.setB_retries (f : Fld) (b : Bool) : (s.setB f b).retries = s.retries := rfl
@[simp] theorem State.setB_out (f : Fld) (b : Bool) : (s.setB f b).out = s.out := rfl
@[simp] theorem State.setB_jnl (f : Fld) (b : Bool) : (s.setB f b).jnl = s.jnl := rfl
@[simp] theorem State.setB_boot (f : Fld) (b : Bool) : (s.setB f b).boot = s.boot := rfl
@[simp] theorem State.setB_otp (f : Fld) (b : Bool) : (s.setB f b).otp = s.otp := rfl
@[simp] theorem State.setB_gate (f : Fld) (b : Bool) : (s.setB f b).gate = s.gate := rfl
@[simp] theorem State.setB_chans (f : Fld) (b : Bool) : (s.setB f b).chans = s.chans := rfl
@[simp] theorem State.setB_ldr (f : Fld) (b : Bool) : (s.setB f b).ldr = s.ldr := rfl
@[simp] theorem State.setB_orang (f : Fld) (b : Bool) : (s.setB f b).orang = s.orang := rfl
@[simp] theorem State.setB_fbus (f : Fld) (b : Bool) : (s.setB f b).fbus = s.fbus := rfl
@[simp] theorem State.setB_mem (f : Fld) (b : Bool) : (s.setB f b).mem = s.mem := rfl
@[simp] theorem State.setB_lateA (f : Fld) (b : Bool) : (s.setB f b).lateA = s.lateA := rfl
@[simp] theorem State.setB_lateB (f : Fld) (b : Bool) : (s.setB f b).lateB = s.lateB := rfl
@[simp] theorem State.setB_rng (f : Fld) (b : Bool) : (s.setB f b).rng = s.rng := rfl
@[simp] theorem State.setB_eng (f : Fld) (b : Bool) : (s.setB f b).eng = s.eng := rfl
@[simp] theorem State.setB_keys (f : Fld) (b : Bool) : (s.setB f b).keys = s.keys := rfl
@[simp] theorem State.setB_lodge (f : Fld) (b : Bool) : (s.setB f b).lodge = s.lodge := rfl
@[simp] theorem State.setB_lcs (f : Fld) (b : Bool) : (s.setB f b).lcs = s.lcs := rfl
@[simp] theorem State.setB_kiosk (f : Fld) (b : Bool) : (s.setB f b).kiosk = s.kiosk := rfl
@[simp] theorem State.setB_mtrans (f : Fld) (b : Bool) : (s.setB f b).mtrans = s.mtrans := rfl
@[simp] theorem State.setB_upd (f : Fld) (b : Bool) : (s.setB f b).upd = s.upd := rfl

@[simp] theorem State.raise_pending (f : Fld) : (s.raise f).pending = s.pending := rfl
@[simp] theorem State.raise_tcm (f : Fld) : (s.raise f).tcm = s.tcm := rfl
@[simp] theorem State.raise_usec (f : Fld) : (s.raise f).usec = s.usec := rfl
@[simp] theorem State.raise_atomicUntil (f : Fld) : (s.raise f).atomicUntil = s.atomicUntil := rfl
@[simp] theorem State.raise_freeIx (f : Fld) : (s.raise f).freeIx = s.freeIx := rfl
@[simp] theorem State.raise_retries (f : Fld) : (s.raise f).retries = s.retries := rfl
@[simp] theorem State.raise_out (f : Fld) : (s.raise f).out = s.out := rfl
@[simp] theorem State.raise_jnl (f : Fld) : (s.raise f).jnl = s.jnl := rfl
@[simp] theorem State.raise_boot (f : Fld) : (s.raise f).boot = s.boot := rfl
@[simp] theorem State.raise_otp (f : Fld) : (s.raise f).otp = s.otp := rfl
@[simp] theorem State.raise_gate (f : Fld) : (s.raise f).gate = s.gate := rfl
@[simp] theorem State.raise_chans (f : Fld) : (s.raise f).chans = s.chans := rfl
@[simp] theorem State.raise_ldr (f : Fld) : (s.raise f).ldr = s.ldr := rfl
@[simp] theorem State.raise_orang (f : Fld) : (s.raise f).orang = s.orang := rfl
@[simp] theorem State.raise_fbus (f : Fld) : (s.raise f).fbus = s.fbus := rfl
@[simp] theorem State.raise_mem (f : Fld) : (s.raise f).mem = s.mem := rfl
@[simp] theorem State.raise_lateA (f : Fld) : (s.raise f).lateA = s.lateA := rfl
@[simp] theorem State.raise_lateB (f : Fld) : (s.raise f).lateB = s.lateB := rfl
@[simp] theorem State.raise_rng (f : Fld) : (s.raise f).rng = s.rng := rfl
@[simp] theorem State.raise_eng (f : Fld) : (s.raise f).eng = s.eng := rfl
@[simp] theorem State.raise_keys (f : Fld) : (s.raise f).keys = s.keys := rfl
@[simp] theorem State.raise_lodge (f : Fld) : (s.raise f).lodge = s.lodge := rfl
@[simp] theorem State.raise_lcs (f : Fld) : (s.raise f).lcs = s.lcs := rfl
@[simp] theorem State.raise_kiosk (f : Fld) : (s.raise f).kiosk = s.kiosk := rfl
@[simp] theorem State.raise_mtrans (f : Fld) : (s.raise f).mtrans = s.mtrans := rfl
@[simp] theorem State.raise_upd (f : Fld) : (s.raise f).upd = s.upd := rfl

@[simp] theorem State.setMapBit_pending (f : Fld) (i : Nat) (b : Bool) : (s.setMapBit f i b).pending = s.pending := rfl
@[simp] theorem State.setMapBit_tcm (f : Fld) (i : Nat) (b : Bool) : (s.setMapBit f i b).tcm = s.tcm := rfl
@[simp] theorem State.setMapBit_usec (f : Fld) (i : Nat) (b : Bool) : (s.setMapBit f i b).usec = s.usec := rfl
@[simp] theorem State.setMapBit_atomicUntil (f : Fld) (i : Nat) (b : Bool) : (s.setMapBit f i b).atomicUntil = s.atomicUntil := rfl
@[simp] theorem State.setMapBit_freeIx (f : Fld) (i : Nat) (b : Bool) : (s.setMapBit f i b).freeIx = s.freeIx := rfl
@[simp] theorem State.setMapBit_retries (f : Fld) (i : Nat) (b : Bool) : (s.setMapBit f i b).retries = s.retries := rfl
@[simp] theorem State.setMapBit_out (f : Fld) (i : Nat) (b : Bool) : (s.setMapBit f i b).out = s.out := rfl
@[simp] theorem State.setMapBit_jnl (f : Fld) (i : Nat) (b : Bool) : (s.setMapBit f i b).jnl = s.jnl := rfl
@[simp] theorem State.setMapBit_boot (f : Fld) (i : Nat) (b : Bool) : (s.setMapBit f i b).boot = s.boot := rfl
@[simp] theorem State.setMapBit_otp (f : Fld) (i : Nat) (b : Bool) : (s.setMapBit f i b).otp = s.otp := rfl
@[simp] theorem State.setMapBit_gate (f : Fld) (i : Nat) (b : Bool) : (s.setMapBit f i b).gate = s.gate := rfl
@[simp] theorem State.setMapBit_chans (f : Fld) (i : Nat) (b : Bool) : (s.setMapBit f i b).chans = s.chans := rfl
@[simp] theorem State.setMapBit_ldr (f : Fld) (i : Nat) (b : Bool) : (s.setMapBit f i b).ldr = s.ldr := rfl
@[simp] theorem State.setMapBit_orang (f : Fld) (i : Nat) (b : Bool) : (s.setMapBit f i b).orang = s.orang := rfl
@[simp] theorem State.setMapBit_fbus (f : Fld) (i : Nat) (b : Bool) : (s.setMapBit f i b).fbus = s.fbus := rfl
@[simp] theorem State.setMapBit_mem (f : Fld) (i : Nat) (b : Bool) : (s.setMapBit f i b).mem = s.mem := rfl
@[simp] theorem State.setMapBit_lateA (f : Fld) (i : Nat) (b : Bool) : (s.setMapBit f i b).lateA = s.lateA := rfl
@[simp] theorem State.setMapBit_lateB (f : Fld) (i : Nat) (b : Bool) : (s.setMapBit f i b).lateB = s.lateB := rfl
@[simp] theorem State.setMapBit_rng (f : Fld) (i : Nat) (b : Bool) : (s.setMapBit f i b).rng = s.rng := rfl
@[simp] theorem State.setMapBit_eng (f : Fld) (i : Nat) (b : Bool) : (s.setMapBit f i b).eng = s.eng := rfl
@[simp] theorem State.setMapBit_keys (f : Fld) (i : Nat) (b : Bool) : (s.setMapBit f i b).keys = s.keys := rfl
@[simp] theorem State.setMapBit_lodge (f : Fld) (i : Nat) (b : Bool) : (s.setMapBit f i b).lodge = s.lodge := rfl
@[simp] theorem State.setMapBit_lcs (f : Fld) (i : Nat) (b : Bool) : (s.setMapBit f i b).lcs = s.lcs := rfl
@[simp] theorem State.setMapBit_kiosk (f : Fld) (i : Nat) (b : Bool) : (s.setMapBit f i b).kiosk = s.kiosk := rfl
@[simp] theorem State.setMapBit_mtrans (f : Fld) (i : Nat) (b : Bool) : (s.setMapBit f i b).mtrans = s.mtrans := rfl
@[simp] theorem State.setMapBit_upd (f : Fld) (i : Nat) (b : Bool) : (s.setMapBit f i b).upd = s.upd := rfl

@[simp] theorem State.resetRegs_pending (p : Nat → Bool) : (s.resetRegs p).pending = s.pending := rfl
@[simp] theorem State.resetRegs_tcm (p : Nat → Bool) : (s.resetRegs p).tcm = s.tcm := rfl
@[simp] theorem State.resetRegs_usec (p : Nat → Bool) : (s.resetRegs p).usec = s.usec := rfl
@[simp] theorem State.resetRegs_atomicUntil (p : Nat → Bool) : (s.resetRegs p).atomicUntil = s.atomicUntil := rfl
@[simp] theorem State.resetRegs_freeIx (p : Nat → Bool) : (s.resetRegs p).freeIx = s.freeIx := rfl
@[simp] theorem State.resetRegs_retries (p : Nat → Bool) : (s.resetRegs p).retries = s.retries := rfl
@[simp] theorem State.resetRegs_out (p : Nat → Bool) : (s.resetRegs p).out = s.out := rfl
@[simp] theorem State.resetRegs_jnl (p : Nat → Bool) : (s.resetRegs p).jnl = s.jnl := rfl
@[simp] theorem State.resetRegs_boot (p : Nat → Bool) : (s.resetRegs p).boot = s.boot := rfl
@[simp] theorem State.resetRegs_otp (p : Nat → Bool) : (s.resetRegs p).otp = s.otp := rfl
@[simp] theorem State.resetRegs_gate (p : Nat → Bool) : (s.resetRegs p).gate = s.gate := rfl
@[simp] theorem State.resetRegs_chans (p : Nat → Bool) : (s.resetRegs p).chans = s.chans := rfl
@[simp] theorem State.resetRegs_ldr (p : Nat → Bool) : (s.resetRegs p).ldr = s.ldr := rfl
@[simp] theorem State.resetRegs_orang (p : Nat → Bool) : (s.resetRegs p).orang = s.orang := rfl
@[simp] theorem State.resetRegs_fbus (p : Nat → Bool) : (s.resetRegs p).fbus = s.fbus := rfl
@[simp] theorem State.resetRegs_mem (p : Nat → Bool) : (s.resetRegs p).mem = s.mem := rfl
@[simp] theorem State.resetRegs_lateA (p : Nat → Bool) : (s.resetRegs p).lateA = s.lateA := rfl
@[simp] theorem State.resetRegs_lateB (p : Nat → Bool) : (s.resetRegs p).lateB = s.lateB := rfl
@[simp] theorem State.resetRegs_rng (p : Nat → Bool) : (s.resetRegs p).rng = s.rng := rfl
@[simp] theorem State.resetRegs_eng (p : Nat → Bool) : (s.resetRegs p).eng = s.eng := rfl
@[simp] theorem State.resetRegs_keys (p : Nat → Bool) : (s.resetRegs p).keys = s.keys := rfl
@[simp] theorem State.resetRegs_lodge (p : Nat → Bool) : (s.resetRegs p).lodge = s.lodge := rfl
@[simp] theorem State.resetRegs_lcs (p : Nat → Bool) : (s.resetRegs p).lcs = s.lcs := rfl
@[simp] theorem State.resetRegs_kiosk (p : Nat → Bool) : (s.resetRegs p).kiosk = s.kiosk := rfl
@[simp] theorem State.resetRegs_mtrans (p : Nat → Bool) : (s.resetRegs p).mtrans = s.mtrans := rfl
@[simp] theorem State.resetRegs_upd (p : Nat → Bool) : (s.resetRegs p).upd = s.upd := rfl

@[simp] theorem State.ret_pending (o : Out) : (s.ret o).pending = s.pending := rfl
@[simp] theorem State.ret_regs (o : Out) : (s.ret o).regs = s.regs := rfl
@[simp] theorem State.ret_tcm (o : Out) : (s.ret o).tcm = s.tcm := rfl
@[simp] theorem State.ret_usec (o : Out) : (s.ret o).usec = s.usec := rfl
@[simp] theorem State.ret_atomicUntil (o : Out) : (s.ret o).atomicUntil = s.atomicUntil := rfl
@[simp] theorem State.ret_freeIx (o : Out) : (s.ret o).freeIx = s.freeIx := rfl
@[simp] theorem State.ret_retries (o : Out) : (s.ret o).retries = s.retries := rfl
@[simp] theorem State.ret_jnl (o : Out) : (s.ret o).jnl = s.jnl := rfl
@[simp] theorem State.ret_boot (o : Out) : (s.ret o).boot = s.boot := rfl
@[simp] theorem State.ret_otp (o : Out) : (s.ret o).otp = s.otp := rfl
@[simp] theorem State.ret_gate (o : Out) : (s.ret o).gate = s.gate := rfl
@[simp] theorem State.ret_chans (o : Out) : (s.ret o).chans = s.chans := rfl
@[simp] theorem State.ret_ldr (o : Out) : (s.ret o).ldr = s.ldr := rfl
@[simp] theorem State.ret_orang (o : Out) : (s.ret o).orang = s.orang := rfl
@[simp] theorem State.ret_fbus (o : Out) : (s.ret o).fbus = s.fbus := rfl
@[simp] theorem State.ret_mem (o : Out) : (s.ret o).mem = s.mem := rfl
@[simp] theorem State.ret_lateA (o : Out) : (s.ret o).lateA = s.lateA := rfl
@[simp] theorem State.ret_lateB (o : Out) : (s.ret o).lateB = s.lateB := rfl
@[simp] theorem State.ret_rng (o : Out) : (s.ret o).rng = s.rng := rfl
@[simp] theorem State.ret_eng (o : Out) : (s.ret o).eng = s.eng := rfl
@[simp] theorem State.ret_keys (o : Out) : (s.ret o).keys = s.keys := rfl
@[simp] theorem State.ret_lodge (o : Out) : (s.ret o).lodge = s.lodge := rfl
@[simp] theorem State.ret_lcs (o : Out) : (s.ret o).lcs = s.lcs := rfl
@[simp] theorem State.ret_kiosk (o : Out) : (s.ret o).kiosk = s.kiosk := rfl
@[simp] theorem State.ret_mtrans (o : Out) : (s.ret o).mtrans = s.mtrans := rfl
@[simp] theorem State.ret_upd (o : Out) : (s.ret o).upd = s.upd := rfl
@[simp] theorem State.ret_out (o : Out) : (s.ret o).out = o := rfl

@[simp] theorem State.modBoot_pending (f : Boot → Boot) : (s.modBoot f).pending = s.pending := rfl
@[simp] theorem State.modBoot_regs (f : Boot → Boot) : (s.modBoot f).regs = s.regs := rfl
@[simp] theorem State.modBoot_tcm (f : Boot → Boot) : (s.modBoot f).tcm = s.tcm := rfl
@[simp] theorem State.modBoot_usec (f : Boot → Boot) : (s.modBoot f).usec = s.usec := rfl
@[simp] theorem State.modBoot_atomicUntil (f : Boot → Boot) : (s.modBoot f).atomicUntil = s.atomicUntil := rfl
@[simp] theorem State.modBoot_freeIx (f : Boot → Boot) : (s.modBoot f).freeIx = s.freeIx := rfl
@[simp] theorem State.modBoot_retries (f : Boot → Boot) : (s.modBoot f).retries = s.retries := rfl
@[simp] theorem State.modBoot_out (f : Boot → Boot) : (s.modBoot f).out = s.out := rfl
@[simp] theorem State.modBoot_jnl (f : Boot → Boot) : (s.modBoot f).jnl = s.jnl := rfl
@[simp] theorem State.modBoot_otp (f : Boot → Boot) : (s.modBoot f).otp = s.otp := rfl
@[simp] theorem State.modBoot_gate (f : Boot → Boot) : (s.modBoot f).gate = s.gate := rfl
@[simp] theorem State.modBoot_chans (f : Boot → Boot) : (s.modBoot f).chans = s.chans := rfl
@[simp] theorem State.modBoot_ldr (f : Boot → Boot) : (s.modBoot f).ldr = s.ldr := rfl
@[simp] theorem State.modBoot_orang (f : Boot → Boot) : (s.modBoot f).orang = s.orang := rfl
@[simp] theorem State.modBoot_fbus (f : Boot → Boot) : (s.modBoot f).fbus = s.fbus := rfl
@[simp] theorem State.modBoot_mem (f : Boot → Boot) : (s.modBoot f).mem = s.mem := rfl
@[simp] theorem State.modBoot_lateA (f : Boot → Boot) : (s.modBoot f).lateA = s.lateA := rfl
@[simp] theorem State.modBoot_lateB (f : Boot → Boot) : (s.modBoot f).lateB = s.lateB := rfl
@[simp] theorem State.modBoot_rng (f : Boot → Boot) : (s.modBoot f).rng = s.rng := rfl
@[simp] theorem State.modBoot_eng (f : Boot → Boot) : (s.modBoot f).eng = s.eng := rfl
@[simp] theorem State.modBoot_keys (f : Boot → Boot) : (s.modBoot f).keys = s.keys := rfl
@[simp] theorem State.modBoot_lodge (f : Boot → Boot) : (s.modBoot f).lodge = s.lodge := rfl
@[simp] theorem State.modBoot_lcs (f : Boot → Boot) : (s.modBoot f).lcs = s.lcs := rfl
@[simp] theorem State.modBoot_kiosk (f : Boot → Boot) : (s.modBoot f).kiosk = s.kiosk := rfl
@[simp] theorem State.modBoot_mtrans (f : Boot → Boot) : (s.modBoot f).mtrans = s.mtrans := rfl
@[simp] theorem State.modBoot_upd (f : Boot → Boot) : (s.modBoot f).upd = s.upd := rfl
@[simp] theorem State.modBoot_boot (f : Boot → Boot) : (s.modBoot f).boot = f s.boot := rfl

@[simp] theorem State.modLcs_pending (f : Lcs → Lcs) : (s.modLcs f).pending = s.pending := rfl
@[simp] theorem State.modLcs_regs (f : Lcs → Lcs) : (s.modLcs f).regs = s.regs := rfl
@[simp] theorem State.modLcs_tcm (f : Lcs → Lcs) : (s.modLcs f).tcm = s.tcm := rfl
@[simp] theorem State.modLcs_usec (f : Lcs → Lcs) : (s.modLcs f).usec = s.usec := rfl
@[simp] theorem State.modLcs_atomicUntil (f : Lcs → Lcs) : (s.modLcs f).atomicUntil = s.atomicUntil := rfl
@[simp] theorem State.modLcs_freeIx (f : Lcs → Lcs) : (s.modLcs f).freeIx = s.freeIx := rfl
@[simp] theorem State.modLcs_retries (f : Lcs → Lcs) : (s.modLcs f).retries = s.retries := rfl
@[simp] theorem State.modLcs_out (f : Lcs → Lcs) : (s.modLcs f).out = s.out := rfl
@[simp] theorem State.modLcs_jnl (f : Lcs → Lcs) : (s.modLcs f).jnl = s.jnl := rfl
@[simp] theorem State.modLcs_boot (f : Lcs → Lcs) : (s.modLcs f).boot = s.boot := rfl
@[simp] theorem State.modLcs_otp (f : Lcs → Lcs) : (s.modLcs f).otp = s.otp := rfl
@[simp] theorem State.modLcs_gate (f : Lcs → Lcs) : (s.modLcs f).gate = s.gate := rfl
@[simp] theorem State.modLcs_chans (f : Lcs → Lcs) : (s.modLcs f).chans = s.chans := rfl
@[simp] theorem State.modLcs_ldr (f : Lcs → Lcs) : (s.modLcs f).ldr = s.ldr := rfl
@[simp] theorem State.modLcs_orang (f : Lcs → Lcs) : (s.modLcs f).orang = s.orang := rfl
@[simp] theorem State.modLcs_fbus (f : Lcs → Lcs) : (s.modLcs f).fbus = s.fbus := rfl
@[simp] theorem State.modLcs_mem (f : Lcs → Lcs) : (s.modLcs f).mem = s.mem := rfl
@[simp] theorem State.modLcs_lateA (f : Lcs → Lcs) : (s.modLcs f).lateA = s.lateA := rfl
@[simp] theorem State.modLcs_lateB (f : Lcs → Lcs) : (s.modLcs f).lateB = s.lateB := rfl
@[simp] theorem State.modLcs_rng (f : Lcs → Lcs) : (s.modLcs f).rng = s.rng := rfl
@[simp] theorem State.modLcs_eng (f : Lcs → Lcs) : (s.modLcs f).eng = s.eng := rfl
@[simp] theorem State.modLcs_keys (f : Lcs → Lcs) : (s.modLcs f).keys = s.keys := rfl
@[simp] theorem State.modLcs_lodge (f : Lcs → Lcs) : (s.modLcs f).lodge = s.lodge := rfl
@[simp] theorem State.modLcs_kiosk (f : Lcs → Lcs) : (s.modLcs f).kiosk = s.kiosk := rfl
@[simp] theorem State.modLcs_mtrans (f : Lcs → Lcs) : (s.modLcs f).mtrans = s.mtrans := rfl
@[simp] theorem State.modLcs_upd (f : Lcs → Lcs) : (s.modLcs f).upd = s.upd := rfl
@[simp] theorem State.modLcs_lcs (f : Lcs → Lcs) : (s.modLcs f).lcs = f s.lcs := rfl

@[simp] theorem State.modKeys_pending (f : Keys → Keys) : (s.modKeys f).pending = s.pending := rfl
@[simp] theorem State.modKeys_regs (f : Keys → Keys) : (s.modKeys f).regs = s.regs := rfl
@[simp] theorem State.modKeys_tcm (f : Keys → Keys) : (s.modKeys f).tcm = s.tcm := rfl
@[simp] theorem State.modKeys_usec (f : Keys → Keys) : (s.modKeys f).usec = s.usec := rfl
@[simp] theorem State.modKeys_atomicUntil (f : Keys → Keys) : (s.modKeys f).atomicUntil = s.atomicUntil := rfl
@[simp] theorem State.modKeys_freeIx (f : Keys → Keys) : (s.modKeys f).freeIx = s.freeIx := rfl
@[simp] theorem State.modKeys_retries (f : Keys → Keys) : (s.modKeys f).retries = s.retries := rfl
@[simp] theorem State.modKeys_out (f : Keys → Keys) : (s.modKeys f).out = s.out := rfl
@[simp] theorem State.modKeys_jnl (f : Keys → Keys) : (s.modKeys f).jnl = s.jnl := rfl
@[simp] theorem State.modKeys_boot (f : Keys → Keys) : (s.modKeys f).boot = s.boot := rfl
@[simp] theorem State.modKeys_otp (f : Keys → Keys) : (s.modKeys f).otp = s.otp := rfl
@[simp] theorem State.modKeys_gate (f : Keys → Keys) : (s.modKeys f).gate = s.gate := rfl
@[simp] theorem State.modKeys_chans (f : Keys → Keys) : (s.modKeys f).chans = s.chans := rfl
@[simp] theorem State.modKeys_ldr (f : Keys → Keys) : (s.modKeys f).ldr = s.ldr := rfl
@[simp] theorem State.modKeys_orang (f : Keys → Keys) : (s.modKeys f).orang = s.orang := rfl
@[simp] theorem State.modKeys_fbus (f : Keys → Keys) : (s.modKeys f).fbus = s.fbus := rfl
@[simp] theorem State.modKeys_mem (f : Keys → Keys) : (s.modKeys f).mem = s.mem := rfl
@[simp] theorem State.modKeys_lateA (f : Keys → Keys) : (s.modKeys f).lateA = s.lateA := rfl
@[simp] theorem State.modKeys_lateB (f : Keys → Keys) : (s.modKeys f).lateB = s.lateB := rfl
@[simp] theorem State.modKeys_rng (f : Keys → Keys) : (s.modKeys f).rng = s.rng := rfl
@[simp] theorem State.modKeys_eng (f : Keys → Keys) : (s.modKeys f).eng = s.eng := rfl
@[simp] theorem State.modKeys_lodge (f : Keys → Keys) : (s.modKeys f).lodge = s.lodge := rfl
@[simp] theorem State.modKeys_lcs (f : Keys → Keys) : (s.modKeys f).lcs = s.lcs := rfl
@[simp] theorem State.modKeys_kiosk (f : Keys → Keys) : (s.modKeys f).kiosk = s.kiosk := rfl
@[simp] theorem State.modKeys_mtrans (f : Keys → Keys) : (s.modKeys f).mtrans = s.mtrans := rfl
@[simp] theorem State.modKeys_upd (f : Keys → Keys) : (s.modKeys f).upd = s.upd := rfl
@[simp] theorem State.modKeys_keys (f : Keys → Keys) : (s.modKeys f).keys = f s.keys := rfl

@[simp] theorem State.modRng_pending (f : Rng → Rng) : (s.modRng f).pending = s.pending := rfl
@[simp] theorem State.modRng_regs (f : Rng → Rng) : (s.modRng f).regs = s.regs := rfl
@[simp] theorem State.modRng_tcm (f : Rng → Rng) : (s.modRng f).tcm = s.tcm := rfl
@[simp] theorem State.modRng_usec (f : Rng → Rng) : (s.modRng f).usec = s.usec := rfl
@[simp] theorem State.modRng_atomicUntil (f : Rng → Rng) : (s.modRng f).atomicUntil = s.atomicUntil := rfl
@[simp] theorem State.modRng_freeIx (f : Rng → Rng) : (s.modRng f).freeIx = s.freeIx := rfl
@[simp] theorem State.modRng_retries (f : Rng → Rng) : (s.modRng f).retries = s.retries := rfl
@[simp] theorem State.modRng_out (f : Rng → Rng) : (s.modRng f).out = s.out := rfl
@[simp] theorem State.modRng_jnl (f : Rng → Rng) : (s.modRng f).jnl = s.jnl := rfl
@[simp] theorem State.modRng_boot (f : Rng → Rng) : (s.modRng f).boot = s.boot := rfl
@[simp] theorem State.modRng_otp (f : Rng → Rng) : (s.modRng f).otp = s.otp := rfl
@[simp] theorem State.modRng_gate (f : Rng → Rng) : (s.modRng f).gate = s.gate := rfl
@[simp] theorem State.modRng_chans (f : Rng → Rng) : (s.modRng f).chans = s.chans := rfl
@[simp] theorem State.modRng_ldr (f : Rng → Rng) : (s.modRng f).ldr = s.ldr := rfl
@[simp] theorem State.modRng_orang (f : Rng → Rng) : (s.modRng f).orang = s.orang := rfl
@[simp] theorem State.modRng_fbus (f : Rng → Rng) : (s.modRng f).fbus = s.fbus := rfl
@[simp] theorem State.modRng_mem (f : Rng → Rng) : (s.modRng f).mem = s.mem := rfl
@[simp] theorem State.modRng_lateA (f : Rng → Rng) : (s.modRng f).lateA = s.lateA := rfl
@[simp] theorem State.modRng_lateB (f : Rng → Rng) : (s.modRng f).lateB = s.lateB := rfl
@[simp] theorem State.modRng_eng (f : Rng → Rng) : (s.modRng f).eng = s.eng := rfl
@[simp] theorem State.modRng_keys (f : Rng → Rng) : (s.modRng f).keys = s.keys := rfl
@[simp] theorem State.modRng_lodge (f : Rng → Rng) : (s.modRng f).lodge = s.lodge := rfl
@[simp] theorem State.modRng_lcs (f : Rng → Rng) : (s.modRng f).lcs = s.lcs := rfl
@[simp] theorem State.modRng_kiosk (f : Rng → Rng) : (s.modRng f).kiosk = s.kiosk := rfl
@[simp] theorem State.modRng_mtrans (f : Rng → Rng) : (s.modRng f).mtrans = s.mtrans := rfl
@[simp] theorem State.modRng_upd (f : Rng → Rng) : (s.modRng f).upd = s.upd := rfl
@[simp] theorem State.modRng_rng (f : Rng → Rng) : (s.modRng f).rng = f s.rng := rfl

@[simp] theorem State.modMem_pending (f : MemInt → MemInt) : (s.modMem f).pending = s.pending := rfl
@[simp] theorem State.modMem_regs (f : MemInt → MemInt) : (s.modMem f).regs = s.regs := rfl
@[simp] theorem State.modMem_tcm (f : MemInt → MemInt) : (s.modMem f).tcm = s.tcm := rfl
@[simp] theorem State.modMem_usec (f : MemInt → MemInt) : (s.modMem f).usec = s.usec := rfl
@[simp] theorem State.modMem_atomicUntil (f : MemInt → MemInt) : (s.modMem f).atomicUntil = s.atomicUntil := rfl
@[simp] theorem State.modMem_freeIx (f : MemInt → MemInt) : (s.modMem f).freeIx = s.freeIx := rfl
@[simp] theorem State.modMem_retries (f : MemInt → MemInt) : (s.modMem f).retries = s.retries := rfl
@[simp] theorem State.modMem_out (f : MemInt → MemInt) : (s.modMem f).out = s.out := rfl
@[simp] theorem State.modMem_jnl (f : MemInt → MemInt) : (s.modMem f).jnl = s.jnl := rfl
@[simp] theorem State.modMem_boot (f : MemInt → MemInt) : (s.modMem f).boot = s.boot := rfl
@[simp] theorem State.modMem_otp (f : MemInt → MemInt) : (s.modMem f).otp = s.otp := rfl
@[simp] theorem State.modMem_gate (f : MemInt → MemInt) : (s.modMem f).gate = s.gate := rfl
@[simp] theorem State.modMem_chans (f : MemInt → MemInt) : (s.modMem f).chans = s.chans := rfl
@[simp] theorem State.modMem_ldr (f : MemInt → MemInt) : (s.modMem f).ldr = s.ldr := rfl
@[simp] theorem State.modMem_orang (f : MemInt → MemInt) : (s.modMem f).orang = s.orang := rfl
@[simp] theorem State.modMem_fbus (f : MemInt → MemInt) : (s.modMem f).fbus = s.fbus := rfl
@[simp] theorem State.modMem_lateA (f : MemInt → MemInt) : (s.modMem f).lateA = s.lateA := rfl
@[simp] theorem State.modMem_lateB (f : MemInt → MemInt) : (s.modMem f).lateB = s.lateB := rfl
@[simp] theorem State.modMem_rng (f : MemInt → MemInt) : (s.modMem f).rng = s.rng := rfl
@[simp] theorem State.modMem_eng (f : MemInt → MemInt) : (s.modMem f).eng = s.eng := rfl
@[simp] theorem State.modMem_keys (f : MemInt → MemInt) : (s.modMem f).keys = s.keys := rfl
@[simp] theorem State.modMem_lodge (f : MemInt → MemInt) : (s.modMem f).lodge = s.lodge := rfl
@[simp] theorem State.modMem_lcs (f : MemInt → MemInt) : (s.modMem f).lcs = s.lcs := rfl
@[simp] theorem State.modMem_kiosk (f : MemInt → MemInt) : (s.modMem f).kiosk = s.kiosk := rfl
@[simp] theorem State.modMem_mtrans (f : MemInt → MemInt) : (s.modMem f).mtrans = s.mtrans := rfl
@[simp] theorem State.modMem_upd (f : MemInt → MemInt) : (s.modMem f).upd = s.upd := rfl
@[simp] theorem State.modMem_mem (f : MemInt → MemInt) : (s.modMem f).mem = f s.mem := rfl

@[simp] theorem State.modKiosk_pending (f : Kiosk → Kiosk) : (s.modKiosk f).pending = s.pending := rfl
@[simp] theorem State.modKiosk_regs (f : Kiosk → Kiosk) : (s.modKiosk f).regs = s.regs := rfl
@[simp] theorem State.modKiosk_tcm (f : Kiosk → Kiosk) : (s.modKiosk f).tcm = s.tcm := rfl
@[simp] theorem State.modKiosk_usec (f : Kiosk → Kiosk) : (s.modKiosk f).usec = s.usec := rfl
@[simp] theorem State.modKiosk_atomicUntil (f : Kiosk → Kiosk) : (s.modKiosk f).atomicUntil = s.atomicUntil := rfl
@[simp] theorem State.modKiosk_freeIx (f : Kiosk → Kiosk) : (s.modKiosk f).freeIx = s.freeIx := rfl
@[simp] theorem State.modKiosk_retries (f : Kiosk → Kiosk) : (s.modKiosk f).retries = s.retries := rfl
@[simp] theorem State.modKiosk_out (f : Kiosk → Kiosk) : (s.modKiosk f).out = s.out := rfl
@[simp] theorem State.modKiosk_jnl (f : Kiosk → Kiosk) : (s.modKiosk f).jnl = s.jnl := rfl
@[simp] theorem State.modKiosk_boot (f : Kiosk → Kiosk) : (s.modKiosk f).boot = s.boot := rfl
@[simp] theorem State.modKiosk_otp (f : Kiosk → Kiosk) : (s.modKiosk f).otp = s.otp := rfl
@[simp] theorem State.modKiosk_gate (f : Kiosk → Kiosk) : (s.modKiosk f).gate = s.gate := rfl
@[simp] theorem State.modKiosk_chans (f : Kiosk → Kiosk) : (s.modKiosk f).chans = s.chans := rfl
@[simp] theorem State.modKiosk_ldr (f : Kiosk → Kiosk) : (s.modKiosk f).ldr = s.ldr := rfl
@[simp] theorem State.modKiosk_orang (f : Kiosk → Kiosk) : (s.modKiosk f).orang = s.orang := rfl
@[simp] theorem State.modKiosk_fbus (f : Kiosk → Kiosk) : (s.modKiosk f).fbus = s.fbus := rfl
@[simp] theorem State.modKiosk_mem (f : Kiosk → Kiosk) : (s.modKiosk f).mem = s.mem := rfl
@[simp] theorem State.modKiosk_lateA (f : Kiosk → Kiosk) : (s.modKiosk f).lateA = s.lateA := rfl
@[simp] theorem State.modKiosk_lateB (f : Kiosk → Kiosk) : (s.modKiosk f).lateB = s.lateB := rfl
@[simp] theorem State.modKiosk_rng (f : Kiosk → Kiosk) : (s.modKiosk f).rng = s.rng := rfl
@[simp] theorem State.modKiosk_eng (f : Kiosk → Kiosk) : (s.modKiosk f).eng = s.eng := rfl
@[simp] theorem State.modKiosk_keys (f : Kiosk → Kiosk) : (s.modKiosk f).keys = s.keys := rfl
@[simp] theorem State.modKiosk_lodge (f : Kiosk → Kiosk) : (s.modKiosk f).lodge = s.lodge := rfl
@[simp] theorem State.modKiosk_lcs (f : Kiosk → Kiosk) : (s.modKiosk f).lcs = s.lcs := rfl
@[simp] theorem State.modKiosk_mtrans (f : Kiosk → Kiosk) : (s.modKiosk f).mtrans = s.mtrans := rfl
@[simp] theorem State.modKiosk_upd (f : Kiosk → Kiosk) : (s.modKiosk f).upd = s.upd := rfl
@[simp] theorem State.modKiosk_kiosk (f : Kiosk → Kiosk) : (s.modKiosk f).kiosk = f s.kiosk := rfl

@[simp] theorem State.modUpd_pending (f : Upd → Upd) : (s.modUpd f).pending = s.pending := rfl
@[simp] theorem State.modUpd_regs (f : Upd → Upd) : (s.modUpd f).regs = s.regs := rfl
@[simp] theorem State.modUpd_tcm (f : Upd → Upd) : (s.modUpd f).tcm = s.tcm := rfl
@[simp] theorem State.modUpd_usec (f : Upd → Upd) : (s.modUpd f).usec = s.usec := rfl
@[simp] theorem State.modUpd_atomicUntil (f : Upd → Upd) : (s.modUpd f).atomicUntil = s.atomicUntil := rfl
@[simp] theorem State.modUpd_freeIx (f : Upd → Upd) : (s.modUpd f).freeIx = s.freeIx := rfl
@[simp] theorem State.modUpd_retries (f : Upd → Upd) : (s.modUpd f).retries = s.retries := rfl
@[simp] theorem State.modUpd_out (f : Upd → Upd) : (s.modUpd f).out = s.out := rfl
@[simp] theorem State.modUpd_jnl (f : Upd → Upd) : (s.modUpd f).jnl = s.jnl := rfl
@[simp] theorem State.modUpd_boot (f : Upd → Upd) : (s.modUpd f).boot = s.boot := rfl
@[simp] theorem State.modUpd_otp (f : Upd → Upd) : (s.modUpd f).otp = s.otp := rfl
@[simp] theorem State.modUpd_gate (f : Upd → Upd) : (s.modUpd f).gate = s.gate := rfl
@[simp] theorem State.modUpd_chans (f : Upd → Upd) : (s.modUpd f).chans = s.chans := rfl
@[simp] theorem State.modUpd_ldr (f : Upd → Upd) : (s.modUpd f).ldr = s.ldr := rfl
@[simp] theorem State.modUpd_orang (f : Upd → Upd) : (s.modUpd f).orang = s.orang := rfl
@[simp] theorem State.modUpd_fbus (f : Upd → Upd) : (s.modUpd f).fbus = s.fbus := rfl
@[simp] theorem State.modUpd_mem (f : Upd → Upd) : (s.modUpd f).mem = s.mem := rfl
@[simp] theorem State.modUpd_lateA (f : Upd → Upd) : (s.modUpd f).lateA = s.lateA := rfl
@[simp] theorem State.modUpd_lateB (f : Upd → Upd) : (s.modUpd f).lateB = s.lateB := rfl
@[simp] theorem State.modUpd_rng (f : Upd → Upd) : (s.modUpd f).rng = s.rng := rfl
@[simp] theorem State.modUpd_eng (f : Upd → Upd) : (s.modUpd f).eng = s.eng := rfl
@[simp] theorem State.modUpd_keys (f : Upd → Upd) : (s.modUpd f).keys = s.keys := rfl
@[simp] theorem State.modUpd_lodge (f : Upd → Upd) : (s.modUpd f).lodge = s.lodge := rfl
@[simp] theorem State.modUpd_lcs (f : Upd → Upd) : (s.modUpd f).lcs = s.lcs := rfl
@[simp] theorem State.modUpd_kiosk (f : Upd → Upd) : (s.modUpd f).kiosk = s.kiosk := rfl
@[simp] theorem State.modUpd_mtrans (f : Upd → Upd) : (s.modUpd f).mtrans = s.mtrans := rfl
@[simp] theorem State.modUpd_upd (f : Upd → Upd) : (s.modUpd f).upd = f s.upd := rfl

@[simp] theorem State.modLodge_pending (f : Lodge → Lodge) : (s.modLodge f).pending = s.pending := rfl
@[simp] theorem State.modLodge_regs (f : Lodge → Lodge) : (s.modLodge f).regs = s.regs := rfl
@[simp] theorem State.modLodge_tcm (f : Lodge → Lodge) : (s.modLodge f).tcm = s.tcm := rfl
@[simp] theorem State.modLodge_usec (f : Lodge → Lodge) : (s.modLodge f).usec = s.usec := rfl
@[simp] theorem State.modLodge_atomicUntil (f : Lodge → Lodge) : (s.modLodge f).atomicUntil = s.atomicUntil := rfl
@[simp] theorem State.modLodge_freeIx (f : Lodge → Lodge) : (s.modLodge f).freeIx = s.freeIx := rfl
@[simp] theorem State.modLodge_retries (f : Lodge → Lodge) : (s.modLodge f).retries = s.retries := rfl
@[simp] theorem State.modLodge_out (f : Lodge → Lodge) : (s.modLodge f).out = s.out := rfl
@[simp] theorem State.modLodge_jnl (f : Lodge → Lodge) : (s.modLodge f).jnl = s.jnl := rfl
@[simp] theorem State.modLodge_boot (f : Lodge → Lodge) : (s.modLodge f).boot = s.boot := rfl
@[simp] theorem State.modLodge_otp (f : Lodge → Lodge) : (s.modLodge f).otp = s.otp := rfl
@[simp] theorem State.modLodge_gate (f : Lodge → Lodge) : (s.modLodge f).gate = s.gate := rfl
@[simp] theorem State.modLodge_chans (f : Lodge → Lodge) : (s.modLodge f).chans = s.chans := rfl
@[simp] theorem State.modLodge_ldr (f : Lodge → Lodge) : (s.modLodge f).ldr = s.ldr := rfl
@[simp] theorem State.modLodge_orang (f : Lodge → Lodge) : (s.modLodge f).orang = s.orang := rfl
@[simp] theorem State.modLodge_fbus (f : Lodge → Lodge) : (s.modLodge f).fbus = s.fbus := rfl
@[simp] theorem State.modLodge_mem (f : Lodge → Lodge) : (s.modLodge f).mem = s.mem := rfl
@[simp] theorem State.modLodge_lateA (f : Lodge → Lodge) : (s.modLodge f).lateA = s.lateA := rfl
@[simp] theorem State.modLodge_lateB (f : Lodge → Lodge) : (s.modLodge f).lateB = s.lateB := rfl
@[simp] theorem State.modLodge_rng (f : Lodge → Lodge) : (s.modLodge f).rng = s.rng := rfl
@[simp] theorem State.modLodge_eng (f : Lodge → Lodge) : (s.modLodge f).eng = s.eng := rfl
@[simp] theorem State.modLodge_keys (f : Lodge → Lodge) : (s.modLodge f).keys = s.keys := rfl
@[simp] theorem State.modLodge_lcs (f : Lodge → Lodge) : (s.modLodge f).lcs = s.lcs := rfl
@[simp] theorem State.modLodge_kiosk (f : Lodge → Lodge) : (s.modLodge f).kiosk = s.kiosk := rfl
@[simp] theorem State.modLodge_mtrans (f : Lodge → Lodge) : (s.modLodge f).mtrans = s.mtrans := rfl
@[simp] theorem State.modLodge_upd (f : Lodge → Lodge) : (s.modLodge f).upd = s.upd := rfl
@[simp] theorem State.modLodge_lodge (f : Lodge → Lodge) : (s.modLodge f).lodge = f s.lodge := rfl

@[simp] theorem State.otpProgram_pending (w : Nat) (v : BitVec 64) : (s.otpProgram w v).pending = s.pending := rfl
@[simp] theorem State.otpProgram_regs (w : Nat) (v : BitVec 64) : (s.otpProgram w v).regs = s.regs := rfl
@[simp] theorem State.otpProgram_tcm (w : Nat) (v : BitVec 64) : (s.otpProgram w v).tcm = s.tcm := rfl
@[simp] theorem State.otpProgram_usec (w : Nat) (v : BitVec 64) : (s.otpProgram w v).usec = s.usec := rfl
@[simp] theorem State.otpProgram_atomicUntil (w : Nat) (v : BitVec 64) : (s.otpProgram w v).atomicUntil = s.atomicUntil := rfl
@[simp] theorem State.otpProgram_freeIx (w : Nat) (v : BitVec 64) : (s.otpProgram w v).freeIx = s.freeIx := rfl
@[simp] theorem State.otpProgram_retries (w : Nat) (v : BitVec 64) : (s.otpProgram w v).retries = s.retries := rfl
@[simp] theorem State.otpProgram_out (w : Nat) (v : BitVec 64) : (s.otpProgram w v).out = s.out := rfl
@[simp] theorem State.otpProgram_jnl (w : Nat) (v : BitVec 64) : (s.otpProgram w v).jnl = s.jnl := rfl
@[simp] theorem State.otpProgram_boot (w : Nat) (v : BitVec 64) : (s.otpProgram w v).boot = s.boot := rfl
@[simp] theorem State.otpProgram_gate (w : Nat) (v : BitVec 64) : (s.otpProgram w v).gate = s.gate := rfl
@[simp] theorem State.otpProgram_chans (w : Nat) (v : BitVec 64) : (s.otpProgram w v).chans = s.chans := rfl
@[simp] theorem State.otpProgram_ldr (w : Nat) (v : BitVec 64) : (s.otpProgram w v).ldr = s.ldr := rfl
@[simp] theorem State.otpProgram_orang (w : Nat) (v : BitVec 64) : (s.otpProgram w v).orang = s.orang := rfl
@[simp] theorem State.otpProgram_fbus (w : Nat) (v : BitVec 64) : (s.otpProgram w v).fbus = s.fbus := rfl
@[simp] theorem State.otpProgram_mem (w : Nat) (v : BitVec 64) : (s.otpProgram w v).mem = s.mem := rfl
@[simp] theorem State.otpProgram_lateA (w : Nat) (v : BitVec 64) : (s.otpProgram w v).lateA = s.lateA := rfl
@[simp] theorem State.otpProgram_lateB (w : Nat) (v : BitVec 64) : (s.otpProgram w v).lateB = s.lateB := rfl
@[simp] theorem State.otpProgram_rng (w : Nat) (v : BitVec 64) : (s.otpProgram w v).rng = s.rng := rfl
@[simp] theorem State.otpProgram_eng (w : Nat) (v : BitVec 64) : (s.otpProgram w v).eng = s.eng := rfl
@[simp] theorem State.otpProgram_keys (w : Nat) (v : BitVec 64) : (s.otpProgram w v).keys = s.keys := rfl
@[simp] theorem State.otpProgram_lodge (w : Nat) (v : BitVec 64) : (s.otpProgram w v).lodge = s.lodge := rfl
@[simp] theorem State.otpProgram_lcs (w : Nat) (v : BitVec 64) : (s.otpProgram w v).lcs = s.lcs := rfl
@[simp] theorem State.otpProgram_kiosk (w : Nat) (v : BitVec 64) : (s.otpProgram w v).kiosk = s.kiosk := rfl
@[simp] theorem State.otpProgram_mtrans (w : Nat) (v : BitVec 64) : (s.otpProgram w v).mtrans = s.mtrans := rfl
@[simp] theorem State.otpProgram_upd (w : Nat) (v : BitVec 64) : (s.otpProgram w v).upd = s.upd := rfl

@[simp] theorem State.tcmWrite_pending (a : Nat) (bs : List Byte) : (s.tcmWrite a bs).pending = s.pending := rfl
@[simp] theorem State.tcmWrite_regs (a : Nat) (bs : List Byte) : (s.tcmWrite a bs).regs = s.regs := rfl
@[simp] theorem State.tcmWrite_usec (a : Nat) (bs : List Byte) : (s.tcmWrite a bs).usec = s.usec := rfl
@[simp] theorem State.tcmWrite_atomicUntil (a : Nat) (bs : List Byte) : (s.tcmWrite a bs).atomicUntil = s.atomicUntil := rfl
@[simp] theorem State.tcmWrite_freeIx (a : Nat) (bs : List Byte) : (s.tcmWrite a bs).freeIx = s.freeIx := rfl
@[simp] theorem State.tcmWrite_retries (a : Nat) (bs : List Byte) : (s.tcmWrite a bs).retries = s.retries := rfl
@[simp] theorem State.tcmWrite_out (a : Nat) (bs : List Byte) : (s.tcmWrite a bs).out = s.out := rfl
@[simp] theorem State.tcmWrite_jnl (a : Nat) (bs : List Byte) : (s.tcmWrite a bs).jnl = s.jnl := rfl
@[simp] theorem State.tcmWrite_boot (a : Nat) (bs : List Byte) : (s.tcmWrite a bs).boot = s.boot := rfl
@[simp] theorem State.tcmWrite_otp (a : Nat) (bs : List Byte) : (s.tcmWrite a bs).otp = s.otp := rfl
@[simp] theorem State.tcmWrite_gate (a : Nat) (bs : List Byte) : (s.tcmWrite a bs).gate = s.gate := rfl
@[simp] theorem State.tcmWrite_chans (a : Nat) (bs : List Byte) : (s.tcmWrite a bs).chans = s.chans := rfl
@[simp] theorem State.tcmWrite_ldr (a : Nat) (bs : List Byte) : (s.tcmWrite a bs).ldr = s.ldr := rfl
@[simp] theorem State.tcmWrite_orang (a : Nat) (bs : List Byte) : (s.tcmWrite a bs).orang = s.orang := rfl
@[simp] theorem State.tcmWrite_fbus (a : Nat) (bs : List Byte) : (s.tcmWrite a bs).fbus = s.fbus := rfl
@[simp] theorem State.tcmWrite_lateA (a : Nat) (bs : List Byte) : (s.tcmWrite a bs).lateA = s.lateA := rfl
@[simp] theorem State.tcmWrite_lateB (a : Nat) (bs : List Byte) : (s.tcmWrite a bs).lateB = s.lateB := rfl
@[simp] theorem State.tcmWrite_rng (a : Nat) (bs : List Byte) : (s.tcmWrite a bs).rng = s.rng := rfl
@[simp] theorem State.tcmWrite_eng (a : Nat) (bs : List Byte) : (s.tcmWrite a bs).eng = s.eng := rfl
@[simp] theorem State.tcmWrite_keys (a : Nat) (bs : List Byte) : (s.tcmWrite a bs).keys = s.keys := rfl
@[simp] theorem State.tcmWrite_lodge (a : Nat) (bs : List Byte) : (s.tcmWrite a bs).lodge = s.lodge := rfl
@[simp] theorem State.tcmWrite_lcs (a : Nat) (bs : List Byte) : (s.tcmWrite a bs).lcs = s.lcs := rfl
@[simp] theorem State.tcmWrite_kiosk (a : Nat) (bs : List Byte) : (s.tcmWrite a bs).kiosk = s.kiosk := rfl
@[simp] theorem State.tcmWrite_mtrans (a : Nat) (bs : List Byte) : (s.tcmWrite a bs).mtrans = s.mtrans := rfl
@[simp] theorem State.tcmWrite_upd (a : Nat) (bs : List Byte) : (s.tcmWrite a bs).upd = s.upd := rfl

@[simp] theorem State.atomic_pending : (s.atomic).pending = s.pending := rfl
@[simp] theorem State.atomic_regs : (s.atomic).regs = s.regs := rfl
@[simp] theorem State.atomic_tcm : (s.atomic).tcm = s.tcm := rfl
@[simp] theorem State.atomic_usec : (s.atomic).usec = s.usec := rfl
@[simp] theorem State.atomic_freeIx : (s.atomic).freeIx = s.freeIx := rfl
@[simp] theorem State.atomic_retries : (s.atomic).retries = s.retries := rfl
@[simp] theorem State.atomic_out : (s.atomic).out = s.out := rfl
@[simp] theorem State.atomic_jnl : (s.atomic).jnl = s.jnl := rfl
@[simp] theorem State.atomic_boot : (s.atomic).boot = s.boot := rfl
@[simp] theorem State.atomic_otp : (s.atomic).otp = s.otp := rfl
@[simp] theorem State.atomic_gate : (s.atomic).gate = s.gate := rfl
@[simp] theorem State.atomic_chans : (s.atomic).chans = s.chans := rfl
@[simp] theorem State.atomic_ldr : (s.atomic).ldr = s.ldr := rfl
@[simp] theorem State.atomic_orang : (s.atomic).orang = s.orang := rfl
@[simp] theorem State.atomic_fbus : (s.atomic).fbus = s.fbus := rfl
@[simp] theorem State.atomic_mem : (s.atomic).mem = s.mem := rfl
@[simp] theorem State.atomic_lateA : (s.atomic).lateA = s.lateA := rfl
@[simp] theorem State.atomic_lateB : (s.atomic).lateB = s.lateB := rfl
@[simp] theorem State.atomic_rng : (s.atomic).rng = s.rng := rfl
@[simp] theorem State.atomic_eng : (s.atomic).eng = s.eng := rfl
@[simp] theorem State.atomic_keys : (s.atomic).keys = s.keys := rfl
@[simp] theorem State.atomic_lodge : (s.atomic).lodge = s.lodge := rfl
@[simp] theorem State.atomic_lcs : (s.atomic).lcs = s.lcs := rfl
@[simp] theorem State.atomic_kiosk : (s.atomic).kiosk = s.kiosk := rfl
@[simp] theorem State.atomic_mtrans : (s.atomic).mtrans = s.mtrans := rfl
@[simp] theorem State.atomic_upd : (s.atomic).upd = s.upd := rfl

@[simp] theorem State.setCtr_pending (lo hi n : Nat) : (s.setCtr lo hi n).pending = s.pending := rfl
@[simp] theorem State.setCtr_tcm (lo hi n : Nat) : (s.setCtr lo hi n).tcm = s.tcm := rfl
@[simp] theorem State.setCtr_usec (lo hi n : Nat) : (s.setCtr lo hi n).usec = s.usec := rfl
@[simp] theorem State.setCtr_atomicUntil (lo hi n : Nat) : (s.setCtr lo hi n).atomicUntil = s.atomicUntil := rfl
@[simp] theorem State.setCtr_freeIx (lo hi n : Nat) : (s.setCtr lo hi n).freeIx = s.freeIx := rfl
@[simp] theorem State.setCtr_retries (lo hi n : Nat) : (s.setCtr lo hi n).retries = s.retries := rfl
@[simp] theorem State.setCtr_out (lo hi n : Nat) : (s.setCtr lo hi n).out = s.out := rfl
@[simp] theorem State.setCtr_jnl (lo hi n : Nat) : (s.setCtr lo hi n).jnl = s.jnl := rfl
@[simp] theorem State.setCtr_boot (lo hi n : Nat) : (s.setCtr lo hi n).boot = s.boot := rfl
@[simp] theorem State.setCtr_otp (lo hi n : Nat) : (s.setCtr lo hi n).otp = s.otp := rfl
@[simp] theorem State.setCtr_gate (lo hi n : Nat) : (s.setCtr lo hi n).gate = s.gate := rfl
@[simp] theorem State.setCtr_chans (lo hi n : Nat) : (s.setCtr lo hi n).chans = s.chans := rfl
@[simp] theorem State.setCtr_ldr (lo hi n : Nat) : (s.setCtr lo hi n).ldr = s.ldr := rfl
@[simp] theorem State.setCtr_orang (lo hi n : Nat) : (s.setCtr lo hi n).orang = s.orang := rfl
@[simp] theorem State.setCtr_fbus (lo hi n : Nat) : (s.setCtr lo hi n).fbus = s.fbus := rfl
@[simp] theorem State.setCtr_mem (lo hi n : Nat) : (s.setCtr lo hi n).mem = s.mem := rfl
@[simp] theorem State.setCtr_lateA (lo hi n : Nat) : (s.setCtr lo hi n).lateA = s.lateA := rfl
@[simp] theorem State.setCtr_lateB (lo hi n : Nat) : (s.setCtr lo hi n).lateB = s.lateB := rfl
@[simp] theorem State.setCtr_rng (lo hi n : Nat) : (s.setCtr lo hi n).rng = s.rng := rfl
@[simp] theorem State.setCtr_eng (lo hi n : Nat) : (s.setCtr lo hi n).eng = s.eng := rfl
@[simp] theorem State.setCtr_keys (lo hi n : Nat) : (s.setCtr lo hi n).keys = s.keys := rfl
@[simp] theorem State.setCtr_lodge (lo hi n : Nat) : (s.setCtr lo hi n).lodge = s.lodge := rfl
@[simp] theorem State.setCtr_lcs (lo hi n : Nat) : (s.setCtr lo hi n).lcs = s.lcs := rfl
@[simp] theorem State.setCtr_kiosk (lo hi n : Nat) : (s.setCtr lo hi n).kiosk = s.kiosk := rfl
@[simp] theorem State.setCtr_mtrans (lo hi n : Nat) : (s.setCtr lo hi n).mtrans = s.mtrans := rfl
@[simp] theorem State.setCtr_upd (lo hi n : Nat) : (s.setCtr lo hi n).upd = s.upd := rfl

end Sys2Proof.Machine
end

