-- ==== Sys2Proof/Laws/Shared.lean ====
section
/-! SUPPORT. What the operations that every family shares leave as it is: outcomes of commands, records and counters change registers
and the journal intake and nothing else. -/

namespace Sys2Proof.Machine

variable (s : State)

@[simp] theorem State.intake_pending (r : JRec) : (s.intake r).1.pending = s.pending := by
  unfold State.intake
  dsimp only
  repeat' split
  all_goals simp
@[simp] theorem State.intake_tcm (r : JRec) : (s.intake r).1.tcm = s.tcm := by
  unfold State.intake
  dsimp only
  repeat' split
  all_goals simp
@[simp] theorem State.intake_usec (r : JRec) : (s.intake r).1.usec = s.usec := by
  unfold State.intake
  dsimp only
  repeat' split
  all_goals simp
@[simp] theorem State.intake_atomicUntil (r : JRec) : (s.intake r).1.atomicUntil = s.atomicUntil := by
  unfold State.intake
  dsimp only
  repeat' split
  all_goals simp
@[simp] theorem State.intake_freeIx (r : JRec) : (s.intake r).1.freeIx = s.freeIx := by
  unfold State.intake
  dsimp only
  repeat' split
  all_goals simp
@[simp] theorem State.intake_retries (r : JRec) : (s.intake r).1.retries = s.retries := by
  unfold State.intake
  dsimp only
  repeat' split
  all_goals simp
@[simp] theorem State.intake_out (r : JRec) : (s.intake r).1.out = s.out := by
  unfold State.intake
  dsimp only
  repeat' split
  all_goals simp
@[simp] theorem State.intake_boot (r : JRec) : (s.intake r).1.boot = s.boot := by
  unfold State.intake
  dsimp only
  repeat' split
  all_goals simp
@[simp] theorem State.intake_otp (r : JRec) : (s.intake r).1.otp = s.otp := by
  unfold State.intake
  dsimp only
  repeat' split
  all_goals simp
@[simp] theorem State.intake_gate (r : JRec) : (s.intake r).1.gate = s.gate := by
  unfold State.intake
  dsimp only
  repeat' split
  all_goals simp
@[simp] theorem State.intake_chans (r : JRec) : (s.intake r).1.chans = s.chans := by
  unfold State.intake
  dsimp only
  repeat' split
  all_goals simp
@[simp] theorem State.intake_ldr (r : JRec) : (s.intake r).1.ldr = s.ldr := by
  unfold State.intake
  dsimp only
  repeat' split
  all_goals simp
@[simp] theorem State.intake_orang (r : JRec) : (s.intake r).1.orang = s.orang := by
  unfold State.intake
  dsimp only
  repeat' split
  all_goals simp
@[simp] theorem State.intake_fbus (r : JRec) : (s.intake r).1.fbus = s.fbus := by
  unfold State.intake
  dsimp only
  repeat' split
  all_goals simp
@[simp] theorem State.intake_mem (r : JRec) : (s.intake r).1.mem = s.mem := by
  unfold State.intake
  dsimp only
  repeat' split
  all_goals simp
@[simp] theorem State.intake_lateA (r : JRec) : (s.intake r).1.lateA = s.lateA := by
  unfold State.intake
  dsimp only
  repeat' split
  all_goals simp
@[simp] theorem State.intake_lateB (r : JRec) : (s.intake r).1.lateB = s.lateB := by
  unfold State.intake
  dsimp only
  repeat' split
  all_goals simp
@[simp] theorem State.intake_rng (r : JRec) : (s.intake r).1.rng = s.rng := by
  unfold State.intake
  dsimp only
  repeat' split
  all_goals simp
@[simp] theorem State.intake_eng (r : JRec) : (s.intake r).1.eng = s.eng := by
  unfold State.intake
  dsimp only
  repeat' split
  all_goals simp
@[simp] theorem State.intake_keys (r : JRec) : (s.intake r).1.keys = s.keys := by
  unfold State.intake
  dsimp only
  repeat' split
  all_goals simp
@[simp] theorem State.intake_lodge (r : JRec) : (s.intake r).1.lodge = s.lodge := by
  unfold State.intake
  dsimp only
  repeat' split
  all_goals simp
@[simp] theorem State.intake_lcs (r : JRec) : (s.intake r).1.lcs = s.lcs := by
  unfold State.intake
  dsimp only
  repeat' split
  all_goals simp
@[simp] theorem State.intake_kiosk (r : JRec) : (s.intake r).1.kiosk = s.kiosk := by
  unfold State.intake
  dsimp only
  repeat' split
  all_goals simp
@[simp] theorem State.intake_mtrans (r : JRec) : (s.intake r).1.mtrans = s.mtrans := by
  unfold State.intake
  dsimp only
  repeat' split
  all_goals simp
@[simp] theorem State.intake_upd (r : JRec) : (s.intake r).1.upd = s.upd := by
  unfold State.intake
  dsimp only
  repeat' split
  all_goals simp

@[simp] theorem State.bumpRaw_pending (lo hi : Nat) (e : Fld) (src n : Nat) : (s.bumpRaw lo hi e src n).pending = s.pending := by
  unfold State.bumpRaw State.intakeEvt
  dsimp only
  split <;> simp
@[simp] theorem State.bumpRaw_tcm (lo hi : Nat) (e : Fld) (src n : Nat) : (s.bumpRaw lo hi e src n).tcm = s.tcm := by
  unfold State.bumpRaw State.intakeEvt
  dsimp only
  split <;> simp
@[simp] theorem State.bumpRaw_usec (lo hi : Nat) (e : Fld) (src n : Nat) : (s.bumpRaw lo hi e src n).usec = s.usec := by
  unfold State.bumpRaw State.intakeEvt
  dsimp only
  split <;> simp
@[simp] theorem State.bumpRaw_atomicUntil (lo hi : Nat) (e : Fld) (src n : Nat) : (s.bumpRaw lo hi e src n).atomicUntil = s.atomicUntil := by
  unfold State.bumpRaw State.intakeEvt
  dsimp only
  split <;> simp
@[simp] theorem State.bumpRaw_freeIx (lo hi : Nat) (e : Fld) (src n : Nat) : (s.bumpRaw lo hi e src n).freeIx = s.freeIx := by
  unfold State.bumpRaw State.intakeEvt
  dsimp only
  split <;> simp
@[simp] theorem State.bumpRaw_retries (lo hi : Nat) (e : Fld) (src n : Nat) : (s.bumpRaw lo hi e src n).retries = s.retries := by
  unfold State.bumpRaw State.intakeEvt
  dsimp only
  split <;> simp
@[simp] theorem State.bumpRaw_out (lo hi : Nat) (e : Fld) (src n : Nat) : (s.bumpRaw lo hi e src n).out = s.out := by
  unfold State.bumpRaw State.intakeEvt
  dsimp only
  split <;> simp
@[simp] theorem State.bumpRaw_boot (lo hi : Nat) (e : Fld) (src n : Nat) : (s.bumpRaw lo hi e src n).boot = s.boot := by
  unfold State.bumpRaw State.intakeEvt
  dsimp only
  split <;> simp
@[simp] theorem State.bumpRaw_otp (lo hi : Nat) (e : Fld) (src n : Nat) : (s.bumpRaw lo hi e src n).otp = s.otp := by
  unfold State.bumpRaw State.intakeEvt
  dsimp only
  split <;> simp
@[simp] theorem State.bumpRaw_gate (lo hi : Nat) (e : Fld) (src n : Nat) : (s.bumpRaw lo hi e src n).gate = s.gate := by
  unfold State.bumpRaw State.intakeEvt
  dsimp only
  split <;> simp
@[simp] theorem State.bumpRaw_chans (lo hi : Nat) (e : Fld) (src n : Nat) : (s.bumpRaw lo hi e src n).chans = s.chans := by
  unfold State.bumpRaw State.intakeEvt
  dsimp only
  split <;> simp
@[simp] theorem State.bumpRaw_ldr (lo hi : Nat) (e : Fld) (src n : Nat) : (s.bumpRaw lo hi e src n).ldr = s.ldr := by
  unfold State.bumpRaw State.intakeEvt
  dsimp only
  split <;> simp
@[simp] theorem State.bumpRaw_orang (lo hi : Nat) (e : Fld) (src n : Nat) : (s.bumpRaw lo hi e src n).orang = s.orang := by
  unfold State.bumpRaw State.intakeEvt
  dsimp only
  split <;> simp
@[simp] theorem State.bumpRaw_fbus (lo hi : Nat) (e : Fld) (src n : Nat) : (s.bumpRaw lo hi e src n).fbus = s.fbus := by
  unfold State.bumpRaw State.intakeEvt
  dsimp only
  split <;> simp
@[simp] theorem State.bumpRaw_mem (lo hi : Nat) (e : Fld) (src n : Nat) : (s.bumpRaw lo hi e src n).mem = s.mem := by
  unfold State.bumpRaw State.intakeEvt
  dsimp only
  split <;> simp
@[simp] theorem State.bumpRaw_lateA (lo hi : Nat) (e : Fld) (src n : Nat) : (s.bumpRaw lo hi e src n).lateA = s.lateA := by
  unfold State.bumpRaw State.intakeEvt
  dsimp only
  split <;> simp
@[simp] theorem State.bumpRaw_lateB (lo hi : Nat) (e : Fld) (src n : Nat) : (s.bumpRaw lo hi e src n).lateB = s.lateB := by
  unfold State.bumpRaw State.intakeEvt
  dsimp only
  split <;> simp
@[simp] theorem State.bumpRaw_rng (lo hi : Nat) (e : Fld) (src n : Nat) : (s.bumpRaw lo hi e src n).rng = s.rng := by
  unfold State.bumpRaw State.intakeEvt
  dsimp only
  split <;> simp
@[simp] theorem State.bumpRaw_eng (lo hi : Nat) (e : Fld) (src n : Nat) : (s.bumpRaw lo hi e src n).eng = s.eng := by
  unfold State.bumpRaw State.intakeEvt
  dsimp only
  split <;> simp
@[simp] theorem State.bumpRaw_keys (lo hi : Nat) (e : Fld) (src n : Nat) : (s.bumpRaw lo hi e src n).keys = s.keys := by
  unfold State.bumpRaw State.intakeEvt
  dsimp only
  split <;> simp
@[simp] theorem State.bumpRaw_lodge (lo hi : Nat) (e : Fld) (src n : Nat) : (s.bumpRaw lo hi e src n).lodge = s.lodge := by
  unfold State.bumpRaw State.intakeEvt
  dsimp only
  split <;> simp
@[simp] theorem State.bumpRaw_lcs (lo hi : Nat) (e : Fld) (src n : Nat) : (s.bumpRaw lo hi e src n).lcs = s.lcs := by
  unfold State.bumpRaw State.intakeEvt
  dsimp only
  split <;> simp
@[simp] theorem State.bumpRaw_kiosk (lo hi : Nat) (e : Fld) (src n : Nat) : (s.bumpRaw lo hi e src n).kiosk = s.kiosk := by
  unfold State.bumpRaw State.intakeEvt
  dsimp only
  split <;> simp
@[simp] theorem State.bumpRaw_mtrans (lo hi : Nat) (e : Fld) (src n : Nat) : (s.bumpRaw lo hi e src n).mtrans = s.mtrans := by
  unfold State.bumpRaw State.intakeEvt
  dsimp only
  split <;> simp
@[simp] theorem State.bumpRaw_upd (lo hi : Nat) (e : Fld) (src n : Nat) : (s.bumpRaw lo hi e src n).upd = s.upd := by
  unfold State.bumpRaw State.intakeEvt
  dsimp only
  split <;> simp

@[simp] theorem State.enter_pending (r : JRec) : (s.enter r).pending = s.pending := by
  unfold State.enter
  dsimp only
  split <;> simp
@[simp] theorem State.enter_tcm (r : JRec) : (s.enter r).tcm = s.tcm := by
  unfold State.enter
  dsimp only
  split <;> simp
@[simp] theorem State.enter_usec (r : JRec) : (s.enter r).usec = s.usec := by
  unfold State.enter
  dsimp only
  split <;> simp
@[simp] theorem State.enter_atomicUntil (r : JRec) : (s.enter r).atomicUntil = s.atomicUntil := by
  unfold State.enter
  dsimp only
  split <;> simp
@[simp] theorem State.enter_freeIx (r : JRec) : (s.enter r).freeIx = s.freeIx := by
  unfold State.enter
  dsimp only
  split <;> simp
@[simp] theorem State.enter_retries (r : JRec) : (s.enter r).retries = s.retries := by
  unfold State.enter
  dsimp only
  split <;> simp
@[simp] theorem State.enter_out (r : JRec) : (s.enter r).out = s.out := by
  unfold State.enter
  dsimp only
  split <;> simp
@[simp] theorem State.enter_boot (r : JRec) : (s.enter r).boot = s.boot := by
  unfold State.enter
  dsimp only
  split <;> simp
@[simp] theorem State.enter_otp (r : JRec) : (s.enter r).otp = s.otp := by
  unfold State.enter
  dsimp only
  split <;> simp
@[simp] theorem State.enter_gate (r : JRec) : (s.enter r).gate = s.gate := by
  unfold State.enter
  dsimp only
  split <;> simp
@[simp] theorem State.enter_chans (r : JRec) : (s.enter r).chans = s.chans := by
  unfold State.enter
  dsimp only
  split <;> simp
@[simp] theorem State.enter_ldr (r : JRec) : (s.enter r).ldr = s.ldr := by
  unfold State.enter
  dsimp only
  split <;> simp
@[simp] theorem State.enter_orang (r : JRec) : (s.enter r).orang = s.orang := by
  unfold State.enter
  dsimp only
  split <;> simp
@[simp] theorem State.enter_fbus (r : JRec) : (s.enter r).fbus = s.fbus := by
  unfold State.enter
  dsimp only
  split <;> simp
@[simp] theorem State.enter_mem (r : JRec) : (s.enter r).mem = s.mem := by
  unfold State.enter
  dsimp only
  split <;> simp
@[simp] theorem State.enter_lateA (r : JRec) : (s.enter r).lateA = s.lateA := by
  unfold State.enter
  dsimp only
  split <;> simp
@[simp] theorem State.enter_lateB (r : JRec) : (s.enter r).lateB = s.lateB := by
  unfold State.enter
  dsimp only
  split <;> simp
@[simp] theorem State.enter_rng (r : JRec) : (s.enter r).rng = s.rng := by
  unfold State.enter
  dsimp only
  split <;> simp
@[simp] theorem State.enter_eng (r : JRec) : (s.enter r).eng = s.eng := by
  unfold State.enter
  dsimp only
  split <;> simp
@[simp] theorem State.enter_keys (r : JRec) : (s.enter r).keys = s.keys := by
  unfold State.enter
  dsimp only
  split <;> simp
@[simp] theorem State.enter_lodge (r : JRec) : (s.enter r).lodge = s.lodge := by
  unfold State.enter
  dsimp only
  split <;> simp
@[simp] theorem State.enter_lcs (r : JRec) : (s.enter r).lcs = s.lcs := by
  unfold State.enter
  dsimp only
  split <;> simp
@[simp] theorem State.enter_kiosk (r : JRec) : (s.enter r).kiosk = s.kiosk := by
  unfold State.enter
  dsimp only
  split <;> simp
@[simp] theorem State.enter_mtrans (r : JRec) : (s.enter r).mtrans = s.mtrans := by
  unfold State.enter
  dsimp only
  split <;> simp
@[simp] theorem State.enter_upd (r : JRec) : (s.enter r).upd = s.upd := by
  unfold State.enter
  dsimp only
  split <;> simp

@[simp] theorem State.journalD_pending (c t u n d g : Nat) (l : List Byte) : (s.journalD c t u n d g l).pending = s.pending := by simp [State.journalD]
@[simp] theorem State.journalD_tcm (c t u n d g : Nat) (l : List Byte) : (s.journalD c t u n d g l).tcm = s.tcm := by simp [State.journalD]
@[simp] theorem State.journalD_usec (c t u n d g : Nat) (l : List Byte) : (s.journalD c t u n d g l).usec = s.usec := by simp [State.journalD]
@[simp] theorem State.journalD_atomicUntil (c t u n d g : Nat) (l : List Byte) : (s.journalD c t u n d g l).atomicUntil = s.atomicUntil := by simp [State.journalD]
@[simp] theorem State.journalD_freeIx (c t u n d g : Nat) (l : List Byte) : (s.journalD c t u n d g l).freeIx = s.freeIx := by simp [State.journalD]
@[simp] theorem State.journalD_retries (c t u n d g : Nat) (l : List Byte) : (s.journalD c t u n d g l).retries = s.retries := by simp [State.journalD]
@[simp] theorem State.journalD_out (c t u n d g : Nat) (l : List Byte) : (s.journalD c t u n d g l).out = s.out := by simp [State.journalD]
@[simp] theorem State.journalD_boot (c t u n d g : Nat) (l : List Byte) : (s.journalD c t u n d g l).boot = s.boot := by simp [State.journalD]
@[simp] theorem State.journalD_otp (c t u n d g : Nat) (l : List Byte) : (s.journalD c t u n d g l).otp = s.otp := by simp [State.journalD]
@[simp] theorem State.journalD_gate (c t u n d g : Nat) (l : List Byte) : (s.journalD c t u n d g l).gate = s.gate := by simp [State.journalD]
@[simp] theorem State.journalD_chans (c t u n d g : Nat) (l : List Byte) : (s.journalD c t u n d g l).chans = s.chans := by simp [State.journalD]
@[simp] theorem State.journalD_ldr (c t u n d g : Nat) (l : List Byte) : (s.journalD c t u n d g l).ldr = s.ldr := by simp [State.journalD]
@[simp] theorem State.journalD_orang (c t u n d g : Nat) (l : List Byte) : (s.journalD c t u n d g l).orang = s.orang := by simp [State.journalD]
@[simp] theorem State.journalD_fbus (c t u n d g : Nat) (l : List Byte) : (s.journalD c t u n d g l).fbus = s.fbus := by simp [State.journalD]
@[simp] theorem State.journalD_mem (c t u n d g : Nat) (l : List Byte) : (s.journalD c t u n d g l).mem = s.mem := by simp [State.journalD]
@[simp] theorem State.journalD_lateA (c t u n d g : Nat) (l : List Byte) : (s.journalD c t u n d g l).lateA = s.lateA := by simp [State.journalD]
@[simp] theorem State.journalD_lateB (c t u n d g : Nat) (l : List Byte) : (s.journalD c t u n d g l).lateB = s.lateB := by simp [State.journalD]
@[simp] theorem State.journalD_rng (c t u n d g : Nat) (l : List Byte) : (s.journalD c t u n d g l).rng = s.rng := by simp [State.journalD]
@[simp] theorem State.journalD_eng (c t u n d g : Nat) (l : List Byte) : (s.journalD c t u n d g l).eng = s.eng := by simp [State.journalD]
@[simp] theorem State.journalD_keys (c t u n d g : Nat) (l : List Byte) : (s.journalD c t u n d g l).keys = s.keys := by simp [State.journalD]
@[simp] theorem State.journalD_lodge (c t u n d g : Nat) (l : List Byte) : (s.journalD c t u n d g l).lodge = s.lodge := by simp [State.journalD]
@[simp] theorem State.journalD_lcs (c t u n d g : Nat) (l : List Byte) : (s.journalD c t u n d g l).lcs = s.lcs := by simp [State.journalD]
@[simp] theorem State.journalD_kiosk (c t u n d g : Nat) (l : List Byte) : (s.journalD c t u n d g l).kiosk = s.kiosk := by simp [State.journalD]
@[simp] theorem State.journalD_mtrans (c t u n d g : Nat) (l : List Byte) : (s.journalD c t u n d g l).mtrans = s.mtrans := by simp [State.journalD]
@[simp] theorem State.journalD_upd (c t u n d g : Nat) (l : List Byte) : (s.journalD c t u n d g l).upd = s.upd := by simp [State.journalD]

@[simp] theorem State.journal_pending (c t u n : Nat) (d : Code) : (s.journal c t u n d).pending = s.pending := by simp [State.journal]
@[simp] theorem State.journal_tcm (c t u n : Nat) (d : Code) : (s.journal c t u n d).tcm = s.tcm := by simp [State.journal]
@[simp] theorem State.journal_usec (c t u n : Nat) (d : Code) : (s.journal c t u n d).usec = s.usec := by simp [State.journal]
@[simp] theorem State.journal_atomicUntil (c t u n : Nat) (d : Code) : (s.journal c t u n d).atomicUntil = s.atomicUntil := by simp [State.journal]
@[simp] theorem State.journal_freeIx (c t u n : Nat) (d : Code) : (s.journal c t u n d).freeIx = s.freeIx := by simp [State.journal]
@[simp] theorem State.journal_retries (c t u n : Nat) (d : Code) : (s.journal c t u n d).retries = s.retries := by simp [State.journal]
@[simp] theorem State.journal_out (c t u n : Nat) (d : Code) : (s.journal c t u n d).out = s.out := by simp [State.journal]
@[simp] theorem State.journal_boot (c t u n : Nat) (d : Code) : (s.journal c t u n d).boot = s.boot := by simp [State.journal]
@[simp] theorem State.journal_otp (c t u n : Nat) (d : Code) : (s.journal c t u n d).otp = s.otp := by simp [State.journal]
@[simp] theorem State.journal_gate (c t u n : Nat) (d : Code) : (s.journal c t u n d).gate = s.gate := by simp [State.journal]
@[simp] theorem State.journal_chans (c t u n : Nat) (d : Code) : (s.journal c t u n d).chans = s.chans := by simp [State.journal]
@[simp] theorem State.journal_ldr (c t u n : Nat) (d : Code) : (s.journal c t u n d).ldr = s.ldr := by simp [State.journal]
@[simp] theorem State.journal_orang (c t u n : Nat) (d : Code) : (s.journal c t u n d).orang = s.orang := by simp [State.journal]
@[simp] theorem State.journal_fbus (c t u n : Nat) (d : Code) : (s.journal c t u n d).fbus = s.fbus := by simp [State.journal]
@[simp] theorem State.journal_mem (c t u n : Nat) (d : Code) : (s.journal c t u n d).mem = s.mem := by simp [State.journal]
@[simp] theorem State.journal_lateA (c t u n : Nat) (d : Code) : (s.journal c t u n d).lateA = s.lateA := by simp [State.journal]
@[simp] theorem State.journal_lateB (c t u n : Nat) (d : Code) : (s.journal c t u n d).lateB = s.lateB := by simp [State.journal]
@[simp] theorem State.journal_rng (c t u n : Nat) (d : Code) : (s.journal c t u n d).rng = s.rng := by simp [State.journal]
@[simp] theorem State.journal_eng (c t u n : Nat) (d : Code) : (s.journal c t u n d).eng = s.eng := by simp [State.journal]
@[simp] theorem State.journal_keys (c t u n : Nat) (d : Code) : (s.journal c t u n d).keys = s.keys := by simp [State.journal]
@[simp] theorem State.journal_lodge (c t u n : Nat) (d : Code) : (s.journal c t u n d).lodge = s.lodge := by simp [State.journal]
@[simp] theorem State.journal_lcs (c t u n : Nat) (d : Code) : (s.journal c t u n d).lcs = s.lcs := by simp [State.journal]
@[simp] theorem State.journal_kiosk (c t u n : Nat) (d : Code) : (s.journal c t u n d).kiosk = s.kiosk := by simp [State.journal]
@[simp] theorem State.journal_mtrans (c t u n : Nat) (d : Code) : (s.journal c t u n d).mtrans = s.mtrans := by simp [State.journal]
@[simp] theorem State.journal_upd (c t u n : Nat) (d : Code) : (s.journal c t u n d).upd = s.upd := by simp [State.journal]

@[simp] theorem State.journalDom_pending (c t u d k : Nat) (l : List Byte) : (s.journalDom c t u d k l).pending = s.pending := by simp [State.journalDom]
@[simp] theorem State.journalDom_tcm (c t u d k : Nat) (l : List Byte) : (s.journalDom c t u d k l).tcm = s.tcm := by simp [State.journalDom]
@[simp] theorem State.journalDom_usec (c t u d k : Nat) (l : List Byte) : (s.journalDom c t u d k l).usec = s.usec := by simp [State.journalDom]
@[simp] theorem State.journalDom_atomicUntil (c t u d k : Nat) (l : List Byte) : (s.journalDom c t u d k l).atomicUntil = s.atomicUntil := by simp [State.journalDom]
@[simp] theorem State.journalDom_freeIx (c t u d k : Nat) (l : List Byte) : (s.journalDom c t u d k l).freeIx = s.freeIx := by simp [State.journalDom]
@[simp] theorem State.journalDom_retries (c t u d k : Nat) (l : List Byte) : (s.journalDom c t u d k l).retries = s.retries := by simp [State.journalDom]
@[simp] theorem State.journalDom_out (c t u d k : Nat) (l : List Byte) : (s.journalDom c t u d k l).out = s.out := by simp [State.journalDom]
@[simp] theorem State.journalDom_boot (c t u d k : Nat) (l : List Byte) : (s.journalDom c t u d k l).boot = s.boot := by simp [State.journalDom]
@[simp] theorem State.journalDom_otp (c t u d k : Nat) (l : List Byte) : (s.journalDom c t u d k l).otp = s.otp := by simp [State.journalDom]
@[simp] theorem State.journalDom_gate (c t u d k : Nat) (l : List Byte) : (s.journalDom c t u d k l).gate = s.gate := by simp [State.journalDom]
@[simp] theorem State.journalDom_chans (c t u d k : Nat) (l : List Byte) : (s.journalDom c t u d k l).chans = s.chans := by simp [State.journalDom]
@[simp] theorem State.journalDom_ldr (c t u d k : Nat) (l : List Byte) : (s.journalDom c t u d k l).ldr = s.ldr := by simp [State.journalDom]
@[simp] theorem State.journalDom_orang (c t u d k : Nat) (l : List Byte) : (s.journalDom c t u d k l).orang = s.orang := by simp [State.journalDom]
@[simp] theorem State.journalDom_fbus (c t u d k : Nat) (l : List Byte) : (s.journalDom c t u d k l).fbus = s.fbus := by simp [State.journalDom]
@[simp] theorem State.journalDom_mem (c t u d k : Nat) (l : List Byte) : (s.journalDom c t u d k l).mem = s.mem := by simp [State.journalDom]
@[simp] theorem State.journalDom_lateA (c t u d k : Nat) (l : List Byte) : (s.journalDom c t u d k l).lateA = s.lateA := by simp [State.journalDom]
@[simp] theorem State.journalDom_lateB (c t u d k : Nat) (l : List Byte) : (s.journalDom c t u d k l).lateB = s.lateB := by simp [State.journalDom]
@[simp] theorem State.journalDom_rng (c t u d k : Nat) (l : List Byte) : (s.journalDom c t u d k l).rng = s.rng := by simp [State.journalDom]
@[simp] theorem State.journalDom_eng (c t u d k : Nat) (l : List Byte) : (s.journalDom c t u d k l).eng = s.eng := by simp [State.journalDom]
@[simp] theorem State.journalDom_keys (c t u d k : Nat) (l : List Byte) : (s.journalDom c t u d k l).keys = s.keys := by simp [State.journalDom]
@[simp] theorem State.journalDom_lodge (c t u d k : Nat) (l : List Byte) : (s.journalDom c t u d k l).lodge = s.lodge := by simp [State.journalDom]
@[simp] theorem State.journalDom_lcs (c t u d k : Nat) (l : List Byte) : (s.journalDom c t u d k l).lcs = s.lcs := by simp [State.journalDom]
@[simp] theorem State.journalDom_kiosk (c t u d k : Nat) (l : List Byte) : (s.journalDom c t u d k l).kiosk = s.kiosk := by simp [State.journalDom]
@[simp] theorem State.journalDom_mtrans (c t u d k : Nat) (l : List Byte) : (s.journalDom c t u d k l).mtrans = s.mtrans := by simp [State.journalDom]
@[simp] theorem State.journalDom_upd (c t u d k : Nat) (l : List Byte) : (s.journalDom c t u d k l).upd = s.upd := by simp [State.journalDom]

@[simp] theorem State.bumpN_pending (lo hi : Nat) (e : Fld) (src n : Nat) : (s.bumpN lo hi e src n).pending = s.pending := by
  unfold State.bumpN
  dsimp only
  split <;> simp
@[simp] theorem State.bumpN_tcm (lo hi : Nat) (e : Fld) (src n : Nat) : (s.bumpN lo hi e src n).tcm = s.tcm := by
  unfold State.bumpN
  dsimp only
  split <;> simp
@[simp] theorem State.bumpN_usec (lo hi : Nat) (e : Fld) (src n : Nat) : (s.bumpN lo hi e src n).usec = s.usec := by
  unfold State.bumpN
  dsimp only
  split <;> simp
@[simp] theorem State.bumpN_atomicUntil (lo hi : Nat) (e : Fld) (src n : Nat) : (s.bumpN lo hi e src n).atomicUntil = s.atomicUntil := by
  unfold State.bumpN
  dsimp only
  split <;> simp
@[simp] theorem State.bumpN_freeIx (lo hi : Nat) (e : Fld) (src n : Nat) : (s.bumpN lo hi e src n).freeIx = s.freeIx := by
  unfold State.bumpN
  dsimp only
  split <;> simp
@[simp] theorem State.bumpN_retries (lo hi : Nat) (e : Fld) (src n : Nat) : (s.bumpN lo hi e src n).retries = s.retries := by
  unfold State.bumpN
  dsimp only
  split <;> simp
@[simp] theorem State.bumpN_out (lo hi : Nat) (e : Fld) (src n : Nat) : (s.bumpN lo hi e src n).out = s.out := by
  unfold State.bumpN
  dsimp only
  split <;> simp
@[simp] theorem State.bumpN_boot (lo hi : Nat) (e : Fld) (src n : Nat) : (s.bumpN lo hi e src n).boot = s.boot := by
  unfold State.bumpN
  dsimp only
  split <;> simp
@[simp] theorem State.bumpN_otp (lo hi : Nat) (e : Fld) (src n : Nat) : (s.bumpN lo hi e src n).otp = s.otp := by
  unfold State.bumpN
  dsimp only
  split <;> simp
@[simp] theorem State.bumpN_gate (lo hi : Nat) (e : Fld) (src n : Nat) : (s.bumpN lo hi e src n).gate = s.gate := by
  unfold State.bumpN
  dsimp only
  split <;> simp
@[simp] theorem State.bumpN_chans (lo hi : Nat) (e : Fld) (src n : Nat) : (s.bumpN lo hi e src n).chans = s.chans := by
  unfold State.bumpN
  dsimp only
  split <;> simp
@[simp] theorem State.bumpN_ldr (lo hi : Nat) (e : Fld) (src n : Nat) : (s.bumpN lo hi e src n).ldr = s.ldr := by
  unfold State.bumpN
  dsimp only
  split <;> simp
@[simp] theorem State.bumpN_orang (lo hi : Nat) (e : Fld) (src n : Nat) : (s.bumpN lo hi e src n).orang = s.orang := by
  unfold State.bumpN
  dsimp only
  split <;> simp
@[simp] theorem State.bumpN_fbus (lo hi : Nat) (e : Fld) (src n : Nat) : (s.bumpN lo hi e src n).fbus = s.fbus := by
  unfold State.bumpN
  dsimp only
  split <;> simp
@[simp] theorem State.bumpN_mem (lo hi : Nat) (e : Fld) (src n : Nat) : (s.bumpN lo hi e src n).mem = s.mem := by
  unfold State.bumpN
  dsimp only
  split <;> simp
@[simp] theorem State.bumpN_lateA (lo hi : Nat) (e : Fld) (src n : Nat) : (s.bumpN lo hi e src n).lateA = s.lateA := by
  unfold State.bumpN
  dsimp only
  split <;> simp
@[simp] theorem State.bumpN_lateB (lo hi : Nat) (e : Fld) (src n : Nat) : (s.bumpN lo hi e src n).lateB = s.lateB := by
  unfold State.bumpN
  dsimp only
  split <;> simp
@[simp] theorem State.bumpN_rng (lo hi : Nat) (e : Fld) (src n : Nat) : (s.bumpN lo hi e src n).rng = s.rng := by
  unfold State.bumpN
  dsimp only
  split <;> simp
@[simp] theorem State.bumpN_eng (lo hi : Nat) (e : Fld) (src n : Nat) : (s.bumpN lo hi e src n).eng = s.eng := by
  unfold State.bumpN
  dsimp only
  split <;> simp
@[simp] theorem State.bumpN_keys (lo hi : Nat) (e : Fld) (src n : Nat) : (s.bumpN lo hi e src n).keys = s.keys := by
  unfold State.bumpN
  dsimp only
  split <;> simp
@[simp] theorem State.bumpN_lodge (lo hi : Nat) (e : Fld) (src n : Nat) : (s.bumpN lo hi e src n).lodge = s.lodge := by
  unfold State.bumpN
  dsimp only
  split <;> simp
@[simp] theorem State.bumpN_lcs (lo hi : Nat) (e : Fld) (src n : Nat) : (s.bumpN lo hi e src n).lcs = s.lcs := by
  unfold State.bumpN
  dsimp only
  split <;> simp
@[simp] theorem State.bumpN_kiosk (lo hi : Nat) (e : Fld) (src n : Nat) : (s.bumpN lo hi e src n).kiosk = s.kiosk := by
  unfold State.bumpN
  dsimp only
  split <;> simp
@[simp] theorem State.bumpN_mtrans (lo hi : Nat) (e : Fld) (src n : Nat) : (s.bumpN lo hi e src n).mtrans = s.mtrans := by
  unfold State.bumpN
  dsimp only
  split <;> simp
@[simp] theorem State.bumpN_upd (lo hi : Nat) (e : Fld) (src n : Nat) : (s.bumpN lo hi e src n).upd = s.upd := by
  unfold State.bumpN
  dsimp only
  split <;> simp

@[simp] theorem State.bump_pending (lo hi : Nat) (e : Fld) (src : Nat) : (s.bump lo hi e src).pending = s.pending := by simp [State.bump]
@[simp] theorem State.bump_tcm (lo hi : Nat) (e : Fld) (src : Nat) : (s.bump lo hi e src).tcm = s.tcm := by simp [State.bump]
@[simp] theorem State.bump_usec (lo hi : Nat) (e : Fld) (src : Nat) : (s.bump lo hi e src).usec = s.usec := by simp [State.bump]
@[simp] theorem State.bump_atomicUntil (lo hi : Nat) (e : Fld) (src : Nat) : (s.bump lo hi e src).atomicUntil = s.atomicUntil := by simp [State.bump]
@[simp] theorem State.bump_freeIx (lo hi : Nat) (e : Fld) (src : Nat) : (s.bump lo hi e src).freeIx = s.freeIx := by simp [State.bump]
@[simp] theorem State.bump_retries (lo hi : Nat) (e : Fld) (src : Nat) : (s.bump lo hi e src).retries = s.retries := by simp [State.bump]
@[simp] theorem State.bump_out (lo hi : Nat) (e : Fld) (src : Nat) : (s.bump lo hi e src).out = s.out := by simp [State.bump]
@[simp] theorem State.bump_boot (lo hi : Nat) (e : Fld) (src : Nat) : (s.bump lo hi e src).boot = s.boot := by simp [State.bump]
@[simp] theorem State.bump_otp (lo hi : Nat) (e : Fld) (src : Nat) : (s.bump lo hi e src).otp = s.otp := by simp [State.bump]
@[simp] theorem State.bump_gate (lo hi : Nat) (e : Fld) (src : Nat) : (s.bump lo hi e src).gate = s.gate := by simp [State.bump]
@[simp] theorem State.bump_chans (lo hi : Nat) (e : Fld) (src : Nat) : (s.bump lo hi e src).chans = s.chans := by simp [State.bump]
@[simp] theorem State.bump_ldr (lo hi : Nat) (e : Fld) (src : Nat) : (s.bump lo hi e src).ldr = s.ldr := by simp [State.bump]
@[simp] theorem State.bump_orang (lo hi : Nat) (e : Fld) (src : Nat) : (s.bump lo hi e src).orang = s.orang := by simp [State.bump]
@[simp] theorem State.bump_fbus (lo hi : Nat) (e : Fld) (src : Nat) : (s.bump lo hi e src).fbus = s.fbus := by simp [State.bump]
@[simp] theorem State.bump_mem (lo hi : Nat) (e : Fld) (src : Nat) : (s.bump lo hi e src).mem = s.mem := by simp [State.bump]
@[simp] theorem State.bump_lateA (lo hi : Nat) (e : Fld) (src : Nat) : (s.bump lo hi e src).lateA = s.lateA := by simp [State.bump]
@[simp] theorem State.bump_lateB (lo hi : Nat) (e : Fld) (src : Nat) : (s.bump lo hi e src).lateB = s.lateB := by simp [State.bump]
@[simp] theorem State.bump_rng (lo hi : Nat) (e : Fld) (src : Nat) : (s.bump lo hi e src).rng = s.rng := by simp [State.bump]
@[simp] theorem State.bump_eng (lo hi : Nat) (e : Fld) (src : Nat) : (s.bump lo hi e src).eng = s.eng := by simp [State.bump]
@[simp] theorem State.bump_keys (lo hi : Nat) (e : Fld) (src : Nat) : (s.bump lo hi e src).keys = s.keys := by simp [State.bump]
@[simp] theorem State.bump_lodge (lo hi : Nat) (e : Fld) (src : Nat) : (s.bump lo hi e src).lodge = s.lodge := by simp [State.bump]
@[simp] theorem State.bump_lcs (lo hi : Nat) (e : Fld) (src : Nat) : (s.bump lo hi e src).lcs = s.lcs := by simp [State.bump]
@[simp] theorem State.bump_kiosk (lo hi : Nat) (e : Fld) (src : Nat) : (s.bump lo hi e src).kiosk = s.kiosk := by simp [State.bump]
@[simp] theorem State.bump_mtrans (lo hi : Nat) (e : Fld) (src : Nat) : (s.bump lo hi e src).mtrans = s.mtrans := by simp [State.bump]
@[simp] theorem State.bump_upd (lo hi : Nat) (e : Fld) (src : Nat) : (s.bump lo hi e src).upd = s.upd := by simp [State.bump]

@[simp] theorem State.cmdEnd_pending (c : CmdIf) (op : Nat) (k : Code) (r : Nat) : (s.cmdEnd c op k r).pending = s.pending := by
  unfold State.cmdEnd
  dsimp only
  split <;> simp
@[simp] theorem State.cmdEnd_tcm (c : CmdIf) (op : Nat) (k : Code) (r : Nat) : (s.cmdEnd c op k r).tcm = s.tcm := by
  unfold State.cmdEnd
  dsimp only
  split <;> simp
@[simp] theorem State.cmdEnd_usec (c : CmdIf) (op : Nat) (k : Code) (r : Nat) : (s.cmdEnd c op k r).usec = s.usec := by
  unfold State.cmdEnd
  dsimp only
  split <;> simp
@[simp] theorem State.cmdEnd_atomicUntil (c : CmdIf) (op : Nat) (k : Code) (r : Nat) : (s.cmdEnd c op k r).atomicUntil = s.atomicUntil := by
  unfold State.cmdEnd
  dsimp only
  split <;> simp
@[simp] theorem State.cmdEnd_freeIx (c : CmdIf) (op : Nat) (k : Code) (r : Nat) : (s.cmdEnd c op k r).freeIx = s.freeIx := by
  unfold State.cmdEnd
  dsimp only
  split <;> simp
@[simp] theorem State.cmdEnd_retries (c : CmdIf) (op : Nat) (k : Code) (r : Nat) : (s.cmdEnd c op k r).retries = s.retries := by
  unfold State.cmdEnd
  dsimp only
  split <;> simp
@[simp] theorem State.cmdEnd_out (c : CmdIf) (op : Nat) (k : Code) (r : Nat) : (s.cmdEnd c op k r).out = s.out := by
  unfold State.cmdEnd
  dsimp only
  split <;> simp
@[simp] theorem State.cmdEnd_jnl (c : CmdIf) (op : Nat) (k : Code) (r : Nat) : (s.cmdEnd c op k r).jnl = s.jnl := by
  unfold State.cmdEnd
  dsimp only
  split <;> simp
@[simp] theorem State.cmdEnd_boot (c : CmdIf) (op : Nat) (k : Code) (r : Nat) : (s.cmdEnd c op k r).boot = s.boot := by
  unfold State.cmdEnd
  dsimp only
  split <;> simp
@[simp] theorem State.cmdEnd_otp (c : CmdIf) (op : Nat) (k : Code) (r : Nat) : (s.cmdEnd c op k r).otp = s.otp := by
  unfold State.cmdEnd
  dsimp only
  split <;> simp
@[simp] theorem State.cmdEnd_gate (c : CmdIf) (op : Nat) (k : Code) (r : Nat) : (s.cmdEnd c op k r).gate = s.gate := by
  unfold State.cmdEnd
  dsimp only
  split <;> simp
@[simp] theorem State.cmdEnd_chans (c : CmdIf) (op : Nat) (k : Code) (r : Nat) : (s.cmdEnd c op k r).chans = s.chans := by
  unfold State.cmdEnd
  dsimp only
  split <;> simp
@[simp] theorem State.cmdEnd_ldr (c : CmdIf) (op : Nat) (k : Code) (r : Nat) : (s.cmdEnd c op k r).ldr = s.ldr := by
  unfold State.cmdEnd
  dsimp only
  split <;> simp
@[simp] theorem State.cmdEnd_orang (c : CmdIf) (op : Nat) (k : Code) (r : Nat) : (s.cmdEnd c op k r).orang = s.orang := by
  unfold State.cmdEnd
  dsimp only
  split <;> simp
@[simp] theorem State.cmdEnd_fbus (c : CmdIf) (op : Nat) (k : Code) (r : Nat) : (s.cmdEnd c op k r).fbus = s.fbus := by
  unfold State.cmdEnd
  dsimp only
  split <;> simp
@[simp] theorem State.cmdEnd_mem (c : CmdIf) (op : Nat) (k : Code) (r : Nat) : (s.cmdEnd c op k r).mem = s.mem := by
  unfold State.cmdEnd
  dsimp only
  split <;> simp
@[simp] theorem State.cmdEnd_lateA (c : CmdIf) (op : Nat) (k : Code) (r : Nat) : (s.cmdEnd c op k r).lateA = s.lateA := by
  unfold State.cmdEnd
  dsimp only
  split <;> simp
@[simp] theorem State.cmdEnd_lateB (c : CmdIf) (op : Nat) (k : Code) (r : Nat) : (s.cmdEnd c op k r).lateB = s.lateB := by
  unfold State.cmdEnd
  dsimp only
  split <;> simp
@[simp] theorem State.cmdEnd_rng (c : CmdIf) (op : Nat) (k : Code) (r : Nat) : (s.cmdEnd c op k r).rng = s.rng := by
  unfold State.cmdEnd
  dsimp only
  split <;> simp
@[simp] theorem State.cmdEnd_eng (c : CmdIf) (op : Nat) (k : Code) (r : Nat) : (s.cmdEnd c op k r).eng = s.eng := by
  unfold State.cmdEnd
  dsimp only
  split <;> simp
@[simp] theorem State.cmdEnd_keys (c : CmdIf) (op : Nat) (k : Code) (r : Nat) : (s.cmdEnd c op k r).keys = s.keys := by
  unfold State.cmdEnd
  dsimp only
  split <;> simp
@[simp] theorem State.cmdEnd_lodge (c : CmdIf) (op : Nat) (k : Code) (r : Nat) : (s.cmdEnd c op k r).lodge = s.lodge := by
  unfold State.cmdEnd
  dsimp only
  split <;> simp
@[simp] theorem State.cmdEnd_lcs (c : CmdIf) (op : Nat) (k : Code) (r : Nat) : (s.cmdEnd c op k r).lcs = s.lcs := by
  unfold State.cmdEnd
  dsimp only
  split <;> simp
@[simp] theorem State.cmdEnd_kiosk (c : CmdIf) (op : Nat) (k : Code) (r : Nat) : (s.cmdEnd c op k r).kiosk = s.kiosk := by
  unfold State.cmdEnd
  dsimp only
  split <;> simp
@[simp] theorem State.cmdEnd_mtrans (c : CmdIf) (op : Nat) (k : Code) (r : Nat) : (s.cmdEnd c op k r).mtrans = s.mtrans := by
  unfold State.cmdEnd
  dsimp only
  split <;> simp
@[simp] theorem State.cmdEnd_upd (c : CmdIf) (op : Nat) (k : Code) (r : Nat) : (s.cmdEnd c op k r).upd = s.upd := by
  unfold State.cmdEnd
  dsimp only
  split <;> simp

@[simp] theorem State.delay_pending (key : Nat) (ms : Option Nat) : (s.delay key ms).2.pending = s.pending := by
  unfold State.delay State.retryTime
  split
  · rfl
  · cases ms <;> rfl
@[simp] theorem State.delay_regs (key : Nat) (ms : Option Nat) : (s.delay key ms).2.regs = s.regs := by
  unfold State.delay State.retryTime
  split
  · rfl
  · cases ms <;> rfl
@[simp] theorem State.delay_tcm (key : Nat) (ms : Option Nat) : (s.delay key ms).2.tcm = s.tcm := by
  unfold State.delay State.retryTime
  split
  · rfl
  · cases ms <;> rfl
@[simp] theorem State.delay_usec (key : Nat) (ms : Option Nat) : (s.delay key ms).2.usec = s.usec := by
  unfold State.delay State.retryTime
  split
  · rfl
  · cases ms <;> rfl
@[simp] theorem State.delay_atomicUntil (key : Nat) (ms : Option Nat) : (s.delay key ms).2.atomicUntil = s.atomicUntil := by
  unfold State.delay State.retryTime
  split
  · rfl
  · cases ms <;> rfl
@[simp] theorem State.delay_out (key : Nat) (ms : Option Nat) : (s.delay key ms).2.out = s.out := by
  unfold State.delay State.retryTime
  split
  · rfl
  · cases ms <;> rfl
@[simp] theorem State.delay_jnl (key : Nat) (ms : Option Nat) : (s.delay key ms).2.jnl = s.jnl := by
  unfold State.delay State.retryTime
  split
  · rfl
  · cases ms <;> rfl
@[simp] theorem State.delay_boot (key : Nat) (ms : Option Nat) : (s.delay key ms).2.boot = s.boot := by
  unfold State.delay State.retryTime
  split
  · rfl
  · cases ms <;> rfl
@[simp] theorem State.delay_otp (key : Nat) (ms : Option Nat) : (s.delay key ms).2.otp = s.otp := by
  unfold State.delay State.retryTime
  split
  · rfl
  · cases ms <;> rfl
@[simp] theorem State.delay_gate (key : Nat) (ms : Option Nat) : (s.delay key ms).2.gate = s.gate := by
  unfold State.delay State.retryTime
  split
  · rfl
  · cases ms <;> rfl
@[simp] theorem State.delay_chans (key : Nat) (ms : Option Nat) : (s.delay key ms).2.chans = s.chans := by
  unfold State.delay State.retryTime
  split
  · rfl
  · cases ms <;> rfl
@[simp] theorem State.delay_ldr (key : Nat) (ms : Option Nat) : (s.delay key ms).2.ldr = s.ldr := by
  unfold State.delay State.retryTime
  split
  · rfl
  · cases ms <;> rfl
@[simp] theorem State.delay_orang (key : Nat) (ms : Option Nat) : (s.delay key ms).2.orang = s.orang := by
  unfold State.delay State.retryTime
  split
  · rfl
  · cases ms <;> rfl
@[simp] theorem State.delay_fbus (key : Nat) (ms : Option Nat) : (s.delay key ms).2.fbus = s.fbus := by
  unfold State.delay State.retryTime
  split
  · rfl
  · cases ms <;> rfl
@[simp] theorem State.delay_mem (key : Nat) (ms : Option Nat) : (s.delay key ms).2.mem = s.mem := by
  unfold State.delay State.retryTime
  split
  · rfl
  · cases ms <;> rfl
@[simp] theorem State.delay_lateA (key : Nat) (ms : Option Nat) : (s.delay key ms).2.lateA = s.lateA := by
  unfold State.delay State.retryTime
  split
  · rfl
  · cases ms <;> rfl
@[simp] theorem State.delay_lateB (key : Nat) (ms : Option Nat) : (s.delay key ms).2.lateB = s.lateB := by
  unfold State.delay State.retryTime
  split
  · rfl
  · cases ms <;> rfl
@[simp] theorem State.delay_rng (key : Nat) (ms : Option Nat) : (s.delay key ms).2.rng = s.rng := by
  unfold State.delay State.retryTime
  split
  · rfl
  · cases ms <;> rfl
@[simp] theorem State.delay_eng (key : Nat) (ms : Option Nat) : (s.delay key ms).2.eng = s.eng := by
  unfold State.delay State.retryTime
  split
  · rfl
  · cases ms <;> rfl
@[simp] theorem State.delay_keys (key : Nat) (ms : Option Nat) : (s.delay key ms).2.keys = s.keys := by
  unfold State.delay State.retryTime
  split
  · rfl
  · cases ms <;> rfl
@[simp] theorem State.delay_lodge (key : Nat) (ms : Option Nat) : (s.delay key ms).2.lodge = s.lodge := by
  unfold State.delay State.retryTime
  split
  · rfl
  · cases ms <;> rfl
@[simp] theorem State.delay_lcs (key : Nat) (ms : Option Nat) : (s.delay key ms).2.lcs = s.lcs := by
  unfold State.delay State.retryTime
  split
  · rfl
  · cases ms <;> rfl
@[simp] theorem State.delay_kiosk (key : Nat) (ms : Option Nat) : (s.delay key ms).2.kiosk = s.kiosk := by
  unfold State.delay State.retryTime
  split
  · rfl
  · cases ms <;> rfl
@[simp] theorem State.delay_mtrans (key : Nat) (ms : Option Nat) : (s.delay key ms).2.mtrans = s.mtrans := by
  unfold State.delay State.retryTime
  split
  · rfl
  · cases ms <;> rfl
@[simp] theorem State.delay_upd (key : Nat) (ms : Option Nat) : (s.delay key ms).2.upd = s.upd := by
  unfold State.delay State.retryTime
  split
  · rfl
  · cases ms <;> rfl

@[simp] theorem State.cmdRefuse_pending (c : CmdIf) (op : Nat) (k : Code) (ms : Option Nat) : (s.cmdRefuse c op k ms).pending = s.pending := by
  unfold State.cmdRefuse State.ret
  dsimp only
  repeat' split
  all_goals simp
@[simp] theorem State.cmdRefuse_tcm (c : CmdIf) (op : Nat) (k : Code) (ms : Option Nat) : (s.cmdRefuse c op k ms).tcm = s.tcm := by
  unfold State.cmdRefuse State.ret
  dsimp only
  repeat' split
  all_goals simp
@[simp] theorem State.cmdRefuse_usec (c : CmdIf) (op : Nat) (k : Code) (ms : Option Nat) : (s.cmdRefuse c op k ms).usec = s.usec := by
  unfold State.cmdRefuse State.ret
  dsimp only
  repeat' split
  all_goals simp
@[simp] theorem State.cmdRefuse_atomicUntil (c : CmdIf) (op : Nat) (k : Code) (ms : Option Nat) : (s.cmdRefuse c op k ms).atomicUntil = s.atomicUntil := by
  unfold State.cmdRefuse State.ret
  dsimp only
  repeat' split
  all_goals simp
@[simp] theorem State.cmdRefuse_jnl (c : CmdIf) (op : Nat) (k : Code) (ms : Option Nat) : (s.cmdRefuse c op k ms).jnl = s.jnl := by
  unfold State.cmdRefuse State.ret
  dsimp only
  repeat' split
  all_goals simp
@[simp] theorem State.cmdRefuse_boot (c : CmdIf) (op : Nat) (k : Code) (ms : Option Nat) : (s.cmdRefuse c op k ms).boot = s.boot := by
  unfold State.cmdRefuse State.ret
  dsimp only
  repeat' split
  all_goals simp
@[simp] theorem State.cmdRefuse_otp (c : CmdIf) (op : Nat) (k : Code) (ms : Option Nat) : (s.cmdRefuse c op k ms).otp = s.otp := by
  unfold State.cmdRefuse State.ret
  dsimp only
  repeat' split
  all_goals simp
@[simp] theorem State.cmdRefuse_gate (c : CmdIf) (op : Nat) (k : Code) (ms : Option Nat) : (s.cmdRefuse c op k ms).gate = s.gate := by
  unfold State.cmdRefuse State.ret
  dsimp only
  repeat' split
  all_goals simp
@[simp] theorem State.cmdRefuse_chans (c : CmdIf) (op : Nat) (k : Code) (ms : Option Nat) : (s.cmdRefuse c op k ms).chans = s.chans := by
  unfold State.cmdRefuse State.ret
  dsimp only
  repeat' split
  all_goals simp
@[simp] theorem State.cmdRefuse_ldr (c : CmdIf) (op : Nat) (k : Code) (ms : Option Nat) : (s.cmdRefuse c op k ms).ldr = s.ldr := by
  unfold State.cmdRefuse State.ret
  dsimp only
  repeat' split
  all_goals simp
@[simp] theorem State.cmdRefuse_orang (c : CmdIf) (op : Nat) (k : Code) (ms : Option Nat) : (s.cmdRefuse c op k ms).orang = s.orang := by
  unfold State.cmdRefuse State.ret
  dsimp only
  repeat' split
  all_goals simp
@[simp] theorem State.cmdRefuse_fbus (c : CmdIf) (op : Nat) (k : Code) (ms : Option Nat) : (s.cmdRefuse c op k ms).fbus = s.fbus := by
  unfold State.cmdRefuse State.ret
  dsimp only
  repeat' split
  all_goals simp
@[simp] theorem State.cmdRefuse_mem (c : CmdIf) (op : Nat) (k : Code) (ms : Option Nat) : (s.cmdRefuse c op k ms).mem = s.mem := by
  unfold State.cmdRefuse State.ret
  dsimp only
  repeat' split
  all_goals simp
@[simp] theorem State.cmdRefuse_lateA (c : CmdIf) (op : Nat) (k : Code) (ms : Option Nat) : (s.cmdRefuse c op k ms).lateA = s.lateA := by
  unfold State.cmdRefuse State.ret
  dsimp only
  repeat' split
  all_goals simp
@[simp] theorem State.cmdRefuse_lateB (c : CmdIf) (op : Nat) (k : Code) (ms : Option Nat) : (s.cmdRefuse c op k ms).lateB = s.lateB := by
  unfold State.cmdRefuse State.ret
  dsimp only
  repeat' split
  all_goals simp
@[simp] theorem State.cmdRefuse_rng (c : CmdIf) (op : Nat) (k : Code) (ms : Option Nat) : (s.cmdRefuse c op k ms).rng = s.rng := by
  unfold State.cmdRefuse State.ret
  dsimp only
  repeat' split
  all_goals simp
@[simp] theorem State.cmdRefuse_eng (c : CmdIf) (op : Nat) (k : Code) (ms : Option Nat) : (s.cmdRefuse c op k ms).eng = s.eng := by
  unfold State.cmdRefuse State.ret
  dsimp only
  repeat' split
  all_goals simp
@[simp] theorem State.cmdRefuse_keys (c : CmdIf) (op : Nat) (k : Code) (ms : Option Nat) : (s.cmdRefuse c op k ms).keys = s.keys := by
  unfold State.cmdRefuse State.ret
  dsimp only
  repeat' split
  all_goals simp
@[simp] theorem State.cmdRefuse_lodge (c : CmdIf) (op : Nat) (k : Code) (ms : Option Nat) : (s.cmdRefuse c op k ms).lodge = s.lodge := by
  unfold State.cmdRefuse State.ret
  dsimp only
  repeat' split
  all_goals simp
@[simp] theorem State.cmdRefuse_lcs (c : CmdIf) (op : Nat) (k : Code) (ms : Option Nat) : (s.cmdRefuse c op k ms).lcs = s.lcs := by
  unfold State.cmdRefuse State.ret
  dsimp only
  repeat' split
  all_goals simp
@[simp] theorem State.cmdRefuse_kiosk (c : CmdIf) (op : Nat) (k : Code) (ms : Option Nat) : (s.cmdRefuse c op k ms).kiosk = s.kiosk := by
  unfold State.cmdRefuse State.ret
  dsimp only
  repeat' split
  all_goals simp
@[simp] theorem State.cmdRefuse_mtrans (c : CmdIf) (op : Nat) (k : Code) (ms : Option Nat) : (s.cmdRefuse c op k ms).mtrans = s.mtrans := by
  unfold State.cmdRefuse State.ret
  dsimp only
  repeat' split
  all_goals simp
@[simp] theorem State.cmdRefuse_upd (c : CmdIf) (op : Nat) (k : Code) (ms : Option Nat) : (s.cmdRefuse c op k ms).upd = s.upd := by
  unfold State.cmdRefuse State.ret
  dsimp only
  repeat' split
  all_goals simp

@[simp] theorem State.assertFault_pending : (s.assertFault).pending = s.pending := by simp [State.assertFault]
@[simp] theorem State.assertFault_tcm : (s.assertFault).tcm = s.tcm := by simp [State.assertFault]
@[simp] theorem State.assertFault_usec : (s.assertFault).usec = s.usec := by simp [State.assertFault]
@[simp] theorem State.assertFault_atomicUntil : (s.assertFault).atomicUntil = s.atomicUntil := by simp [State.assertFault]
@[simp] theorem State.assertFault_freeIx : (s.assertFault).freeIx = s.freeIx := by simp [State.assertFault]
@[simp] theorem State.assertFault_retries : (s.assertFault).retries = s.retries := by simp [State.assertFault]
@[simp] theorem State.assertFault_out : (s.assertFault).out = s.out := by simp [State.assertFault]
@[simp] theorem State.assertFault_jnl : (s.assertFault).jnl = s.jnl := by simp [State.assertFault]
@[simp] theorem State.assertFault_boot : (s.assertFault).boot = s.boot := by simp [State.assertFault]
@[simp] theorem State.assertFault_otp : (s.assertFault).otp = s.otp := by simp [State.assertFault]
@[simp] theorem State.assertFault_gate : (s.assertFault).gate = s.gate := by simp [State.assertFault]
@[simp] theorem State.assertFault_chans : (s.assertFault).chans = s.chans := by simp [State.assertFault]
@[simp] theorem State.assertFault_ldr : (s.assertFault).ldr = s.ldr := by simp [State.assertFault]
@[simp] theorem State.assertFault_orang : (s.assertFault).orang = s.orang := by simp [State.assertFault]
@[simp] theorem State.assertFault_fbus : (s.assertFault).fbus = s.fbus := by simp [State.assertFault]
@[simp] theorem State.assertFault_mem : (s.assertFault).mem = s.mem := by simp [State.assertFault]
@[simp] theorem State.assertFault_lateA : (s.assertFault).lateA = s.lateA := by simp [State.assertFault]
@[simp] theorem State.assertFault_lateB : (s.assertFault).lateB = s.lateB := by simp [State.assertFault]
@[simp] theorem State.assertFault_rng : (s.assertFault).rng = s.rng := by simp [State.assertFault]
@[simp] theorem State.assertFault_eng : (s.assertFault).eng = s.eng := by simp [State.assertFault]
@[simp] theorem State.assertFault_keys : (s.assertFault).keys = s.keys := by simp [State.assertFault]
@[simp] theorem State.assertFault_lodge : (s.assertFault).lodge = s.lodge := by simp [State.assertFault]
@[simp] theorem State.assertFault_lcs : (s.assertFault).lcs = s.lcs := by simp [State.assertFault]
@[simp] theorem State.assertFault_kiosk : (s.assertFault).kiosk = s.kiosk := by simp [State.assertFault]
@[simp] theorem State.assertFault_mtrans : (s.assertFault).mtrans = s.mtrans := by simp [State.assertFault]
@[simp] theorem State.assertFault_upd : (s.assertFault).upd = s.upd := by simp [State.assertFault]

@[simp] theorem State.spareLow_pending (p u : Nat) : (s.spareLow p u).pending = s.pending := by simp [State.spareLow]
@[simp] theorem State.spareLow_tcm (p u : Nat) : (s.spareLow p u).tcm = s.tcm := by simp [State.spareLow]
@[simp] theorem State.spareLow_usec (p u : Nat) : (s.spareLow p u).usec = s.usec := by simp [State.spareLow]
@[simp] theorem State.spareLow_atomicUntil (p u : Nat) : (s.spareLow p u).atomicUntil = s.atomicUntil := by simp [State.spareLow]
@[simp] theorem State.spareLow_freeIx (p u : Nat) : (s.spareLow p u).freeIx = s.freeIx := by simp [State.spareLow]
@[simp] theorem State.spareLow_retries (p u : Nat) : (s.spareLow p u).retries = s.retries := by simp [State.spareLow]
@[simp] theorem State.spareLow_out (p u : Nat) : (s.spareLow p u).out = s.out := by simp [State.spareLow]
@[simp] theorem State.spareLow_boot (p u : Nat) : (s.spareLow p u).boot = s.boot := by simp [State.spareLow]
@[simp] theorem State.spareLow_otp (p u : Nat) : (s.spareLow p u).otp = s.otp := by simp [State.spareLow]
@[simp] theorem State.spareLow_gate (p u : Nat) : (s.spareLow p u).gate = s.gate := by simp [State.spareLow]
@[simp] theorem State.spareLow_chans (p u : Nat) : (s.spareLow p u).chans = s.chans := by simp [State.spareLow]
@[simp] theorem State.spareLow_ldr (p u : Nat) : (s.spareLow p u).ldr = s.ldr := by simp [State.spareLow]
@[simp] theorem State.spareLow_orang (p u : Nat) : (s.spareLow p u).orang = s.orang := by simp [State.spareLow]
@[simp] theorem State.spareLow_fbus (p u : Nat) : (s.spareLow p u).fbus = s.fbus := by simp [State.spareLow]
@[simp] theorem State.spareLow_mem (p u : Nat) : (s.spareLow p u).mem = s.mem := by simp [State.spareLow]
@[simp] theorem State.spareLow_lateA (p u : Nat) : (s.spareLow p u).lateA = s.lateA := by simp [State.spareLow]
@[simp] theorem State.spareLow_lateB (p u : Nat) : (s.spareLow p u).lateB = s.lateB := by simp [State.spareLow]
@[simp] theorem State.spareLow_rng (p u : Nat) : (s.spareLow p u).rng = s.rng := by simp [State.spareLow]
@[simp] theorem State.spareLow_eng (p u : Nat) : (s.spareLow p u).eng = s.eng := by simp [State.spareLow]
@[simp] theorem State.spareLow_keys (p u : Nat) : (s.spareLow p u).keys = s.keys := by simp [State.spareLow]
@[simp] theorem State.spareLow_lodge (p u : Nat) : (s.spareLow p u).lodge = s.lodge := by simp [State.spareLow]
@[simp] theorem State.spareLow_lcs (p u : Nat) : (s.spareLow p u).lcs = s.lcs := by simp [State.spareLow]
@[simp] theorem State.spareLow_kiosk (p u : Nat) : (s.spareLow p u).kiosk = s.kiosk := by simp [State.spareLow]
@[simp] theorem State.spareLow_mtrans (p u : Nat) : (s.spareLow p u).mtrans = s.mtrans := by simp [State.spareLow]
@[simp] theorem State.spareLow_upd (p u : Nat) : (s.spareLow p u).upd = s.upd := by simp [State.spareLow]

@[simp] theorem State.spareUsed_pending (e : Fld) (p : Nat) (b : Bool) : (s.spareUsed e p b).pending = s.pending := by
  unfold State.spareUsed State.spareLow
  dsimp only
  split <;> simp
@[simp] theorem State.spareUsed_tcm (e : Fld) (p : Nat) (b : Bool) : (s.spareUsed e p b).tcm = s.tcm := by
  unfold State.spareUsed State.spareLow
  dsimp only
  split <;> simp
@[simp] theorem State.spareUsed_usec (e : Fld) (p : Nat) (b : Bool) : (s.spareUsed e p b).usec = s.usec := by
  unfold State.spareUsed State.spareLow
  dsimp only
  split <;> simp
@[simp] theorem State.spareUsed_atomicUntil (e : Fld) (p : Nat) (b : Bool) : (s.spareUsed e p b).atomicUntil = s.atomicUntil := by
  unfold State.spareUsed State.spareLow
  dsimp only
  split <;> simp
@[simp] theorem State.spareUsed_freeIx (e : Fld) (p : Nat) (b : Bool) : (s.spareUsed e p b).freeIx = s.freeIx := by
  unfold State.spareUsed State.spareLow
  dsimp only
  split <;> simp
@[simp] theorem State.spareUsed_retries (e : Fld) (p : Nat) (b : Bool) : (s.spareUsed e p b).retries = s.retries := by
  unfold State.spareUsed State.spareLow
  dsimp only
  split <;> simp
@[simp] theorem State.spareUsed_out (e : Fld) (p : Nat) (b : Bool) : (s.spareUsed e p b).out = s.out := by
  unfold State.spareUsed State.spareLow
  dsimp only
  split <;> simp
@[simp] theorem State.spareUsed_boot (e : Fld) (p : Nat) (b : Bool) : (s.spareUsed e p b).boot = s.boot := by
  unfold State.spareUsed State.spareLow
  dsimp only
  split <;> simp
@[simp] theorem State.spareUsed_otp (e : Fld) (p : Nat) (b : Bool) : (s.spareUsed e p b).otp = s.otp := by
  unfold State.spareUsed State.spareLow
  dsimp only
  split <;> simp
@[simp] theorem State.spareUsed_gate (e : Fld) (p : Nat) (b : Bool) : (s.spareUsed e p b).gate = s.gate := by
  unfold State.spareUsed State.spareLow
  dsimp only
  split <;> simp
@[simp] theorem State.spareUsed_chans (e : Fld) (p : Nat) (b : Bool) : (s.spareUsed e p b).chans = s.chans := by
  unfold State.spareUsed State.spareLow
  dsimp only
  split <;> simp
@[simp] theorem State.spareUsed_ldr (e : Fld) (p : Nat) (b : Bool) : (s.spareUsed e p b).ldr = s.ldr := by
  unfold State.spareUsed State.spareLow
  dsimp only
  split <;> simp
@[simp] theorem State.spareUsed_orang (e : Fld) (p : Nat) (b : Bool) : (s.spareUsed e p b).orang = s.orang := by
  unfold State.spareUsed State.spareLow
  dsimp only
  split <;> simp
@[simp] theorem State.spareUsed_fbus (e : Fld) (p : Nat) (b : Bool) : (s.spareUsed e p b).fbus = s.fbus := by
  unfold State.spareUsed State.spareLow
  dsimp only
  split <;> simp
@[simp] theorem State.spareUsed_mem (e : Fld) (p : Nat) (b : Bool) : (s.spareUsed e p b).mem = s.mem := by
  unfold State.spareUsed State.spareLow
  dsimp only
  split <;> simp
@[simp] theorem State.spareUsed_lateA (e : Fld) (p : Nat) (b : Bool) : (s.spareUsed e p b).lateA = s.lateA := by
  unfold State.spareUsed State.spareLow
  dsimp only
  split <;> simp
@[simp] theorem State.spareUsed_lateB (e : Fld) (p : Nat) (b : Bool) : (s.spareUsed e p b).lateB = s.lateB := by
  unfold State.spareUsed State.spareLow
  dsimp only
  split <;> simp
@[simp] theorem State.spareUsed_rng (e : Fld) (p : Nat) (b : Bool) : (s.spareUsed e p b).rng = s.rng := by
  unfold State.spareUsed State.spareLow
  dsimp only
  split <;> simp
@[simp] theorem State.spareUsed_eng (e : Fld) (p : Nat) (b : Bool) : (s.spareUsed e p b).eng = s.eng := by
  unfold State.spareUsed State.spareLow
  dsimp only
  split <;> simp
@[simp] theorem State.spareUsed_keys (e : Fld) (p : Nat) (b : Bool) : (s.spareUsed e p b).keys = s.keys := by
  unfold State.spareUsed State.spareLow
  dsimp only
  split <;> simp
@[simp] theorem State.spareUsed_lodge (e : Fld) (p : Nat) (b : Bool) : (s.spareUsed e p b).lodge = s.lodge := by
  unfold State.spareUsed State.spareLow
  dsimp only
  split <;> simp
@[simp] theorem State.spareUsed_lcs (e : Fld) (p : Nat) (b : Bool) : (s.spareUsed e p b).lcs = s.lcs := by
  unfold State.spareUsed State.spareLow
  dsimp only
  split <;> simp
@[simp] theorem State.spareUsed_kiosk (e : Fld) (p : Nat) (b : Bool) : (s.spareUsed e p b).kiosk = s.kiosk := by
  unfold State.spareUsed State.spareLow
  dsimp only
  split <;> simp
@[simp] theorem State.spareUsed_mtrans (e : Fld) (p : Nat) (b : Bool) : (s.spareUsed e p b).mtrans = s.mtrans := by
  unfold State.spareUsed State.spareLow
  dsimp only
  split <;> simp
@[simp] theorem State.spareUsed_upd (e : Fld) (p : Nat) (b : Bool) : (s.spareUsed e p b).upd = s.upd := by
  unfold State.spareUsed State.spareLow
  dsimp only
  split <;> simp

@[simp] theorem State.uncovered_pending (c u : Nat) : (s.uncovered c u).pending = s.pending := by
  unfold State.uncovered
  dsimp only
  split <;> simp
@[simp] theorem State.uncovered_tcm (c u : Nat) : (s.uncovered c u).tcm = s.tcm := by
  unfold State.uncovered
  dsimp only
  split <;> simp
@[simp] theorem State.uncovered_usec (c u : Nat) : (s.uncovered c u).usec = s.usec := by
  unfold State.uncovered
  dsimp only
  split <;> simp
@[simp] theorem State.uncovered_atomicUntil (c u : Nat) : (s.uncovered c u).atomicUntil = s.atomicUntil := by
  unfold State.uncovered
  dsimp only
  split <;> simp
@[simp] theorem State.uncovered_freeIx (c u : Nat) : (s.uncovered c u).freeIx = s.freeIx := by
  unfold State.uncovered
  dsimp only
  split <;> simp
@[simp] theorem State.uncovered_retries (c u : Nat) : (s.uncovered c u).retries = s.retries := by
  unfold State.uncovered
  dsimp only
  split <;> simp
@[simp] theorem State.uncovered_out (c u : Nat) : (s.uncovered c u).out = s.out := by
  unfold State.uncovered
  dsimp only
  split <;> simp
@[simp] theorem State.uncovered_boot (c u : Nat) : (s.uncovered c u).boot = s.boot := by
  unfold State.uncovered
  dsimp only
  split <;> simp
@[simp] theorem State.uncovered_otp (c u : Nat) : (s.uncovered c u).otp = s.otp := by
  unfold State.uncovered
  dsimp only
  split <;> simp
@[simp] theorem State.uncovered_gate (c u : Nat) : (s.uncovered c u).gate = s.gate := by
  unfold State.uncovered
  dsimp only
  split <;> simp
@[simp] theorem State.uncovered_chans (c u : Nat) : (s.uncovered c u).chans = s.chans := by
  unfold State.uncovered
  dsimp only
  split <;> simp
@[simp] theorem State.uncovered_ldr (c u : Nat) : (s.uncovered c u).ldr = s.ldr := by
  unfold State.uncovered
  dsimp only
  split <;> simp
@[simp] theorem State.uncovered_orang (c u : Nat) : (s.uncovered c u).orang = s.orang := by
  unfold State.uncovered
  dsimp only
  split <;> simp
@[simp] theorem State.uncovered_fbus (c u : Nat) : (s.uncovered c u).fbus = s.fbus := by
  unfold State.uncovered
  dsimp only
  split <;> simp
@[simp] theorem State.uncovered_mem (c u : Nat) : (s.uncovered c u).mem = s.mem := by
  unfold State.uncovered
  dsimp only
  split <;> simp
@[simp] theorem State.uncovered_lateA (c u : Nat) : (s.uncovered c u).lateA = s.lateA := by
  unfold State.uncovered
  dsimp only
  split <;> simp
@[simp] theorem State.uncovered_lateB (c u : Nat) : (s.uncovered c u).lateB = s.lateB := by
  unfold State.uncovered
  dsimp only
  split <;> simp
@[simp] theorem State.uncovered_rng (c u : Nat) : (s.uncovered c u).rng = s.rng := by
  unfold State.uncovered
  dsimp only
  split <;> simp
@[simp] theorem State.uncovered_eng (c u : Nat) : (s.uncovered c u).eng = s.eng := by
  unfold State.uncovered
  dsimp only
  split <;> simp
@[simp] theorem State.uncovered_keys (c u : Nat) : (s.uncovered c u).keys = s.keys := by
  unfold State.uncovered
  dsimp only
  split <;> simp
@[simp] theorem State.uncovered_lodge (c u : Nat) : (s.uncovered c u).lodge = s.lodge := by
  unfold State.uncovered
  dsimp only
  split <;> simp
@[simp] theorem State.uncovered_lcs (c u : Nat) : (s.uncovered c u).lcs = s.lcs := by
  unfold State.uncovered
  dsimp only
  split <;> simp
@[simp] theorem State.uncovered_kiosk (c u : Nat) : (s.uncovered c u).kiosk = s.kiosk := by
  unfold State.uncovered
  dsimp only
  split <;> simp
@[simp] theorem State.uncovered_mtrans (c u : Nat) : (s.uncovered c u).mtrans = s.mtrans := by
  unfold State.uncovered
  dsimp only
  split <;> simp
@[simp] theorem State.uncovered_upd (c u : Nat) : (s.uncovered c u).upd = s.upd := by
  unfold State.uncovered
  dsimp only
  split <;> simp

@[simp] theorem State.sameCycle_pending (f : State → State) : (s.sameCycle f).pending = (f s).pending := rfl
@[simp] theorem State.sameCycle_regs (f : State → State) : (s.sameCycle f).regs = (f s).regs := rfl
@[simp] theorem State.sameCycle_tcm (f : State → State) : (s.sameCycle f).tcm = (f s).tcm := rfl
@[simp] theorem State.sameCycle_usec (f : State → State) : (s.sameCycle f).usec = (f s).usec := rfl
@[simp] theorem State.sameCycle_atomicUntil (f : State → State) : (s.sameCycle f).atomicUntil = (f s).atomicUntil := rfl
@[simp] theorem State.sameCycle_freeIx (f : State → State) : (s.sameCycle f).freeIx = (f s).freeIx := rfl
@[simp] theorem State.sameCycle_retries (f : State → State) : (s.sameCycle f).retries = (f s).retries := rfl
@[simp] theorem State.sameCycle_out (f : State → State) : (s.sameCycle f).out = (f s).out := rfl
@[simp] theorem State.sameCycle_boot (f : State → State) : (s.sameCycle f).boot = (f s).boot := rfl
@[simp] theorem State.sameCycle_otp (f : State → State) : (s.sameCycle f).otp = (f s).otp := rfl
@[simp] theorem State.sameCycle_gate (f : State → State) : (s.sameCycle f).gate = (f s).gate := rfl
@[simp] theorem State.sameCycle_chans (f : State → State) : (s.sameCycle f).chans = (f s).chans := rfl
@[simp] theorem State.sameCycle_ldr (f : State → State) : (s.sameCycle f).ldr = (f s).ldr := rfl
@[simp] theorem State.sameCycle_orang (f : State → State) : (s.sameCycle f).orang = (f s).orang := rfl
@[simp] theorem State.sameCycle_fbus (f : State → State) : (s.sameCycle f).fbus = (f s).fbus := rfl
@[simp] theorem State.sameCycle_mem (f : State → State) : (s.sameCycle f).mem = (f s).mem := rfl
@[simp] theorem State.sameCycle_lateA (f : State → State) : (s.sameCycle f).lateA = (f s).lateA := rfl
@[simp] theorem State.sameCycle_lateB (f : State → State) : (s.sameCycle f).lateB = (f s).lateB := rfl
@[simp] theorem State.sameCycle_rng (f : State → State) : (s.sameCycle f).rng = (f s).rng := rfl
@[simp] theorem State.sameCycle_eng (f : State → State) : (s.sameCycle f).eng = (f s).eng := rfl
@[simp] theorem State.sameCycle_keys (f : State → State) : (s.sameCycle f).keys = (f s).keys := rfl
@[simp] theorem State.sameCycle_lodge (f : State → State) : (s.sameCycle f).lodge = (f s).lodge := rfl
@[simp] theorem State.sameCycle_lcs (f : State → State) : (s.sameCycle f).lcs = (f s).lcs := rfl
@[simp] theorem State.sameCycle_kiosk (f : State → State) : (s.sameCycle f).kiosk = (f s).kiosk := rfl
@[simp] theorem State.sameCycle_mtrans (f : State → State) : (s.sameCycle f).mtrans = (f s).mtrans := rfl
@[simp] theorem State.sameCycle_upd (f : State → State) : (s.sameCycle f).upd = (f s).upd := rfl

/-! ### Registers -/

/-- The address lies outside the journal's block. -/
abbrev offJournal (a : Nat) : Prop := a < 0x40300000 ∨ 0x40310000 ≤ a

theorem lostFld_addr (c : Nat) (h : c < 8) (a : Nat) (ha : offJournal a) : (lostFld c).addr ≠ a := by
  unfold offJournal at ha
  unfold lostFld JOURNAL_LOSTP_EVEN JOURNAL_LOSTP_ODD JOURNAL_LOSTP
  split <;> simp only <;> omega

theorem reg_setF_ne (f : Fld) (v a : Nat) (h : f.addr ≠ a) : reg (s.setF f v) a = reg s a :=
  reg_setReg_ne _ _ _ _ fun k => h k.symm

theorem reg_intake (r : JRec) (a : Nat) (hc : r.cls < 8) (h : offJournal a) : reg (s.intake r).1 a = reg s a := by
  unfold State.intake
  dsimp only
  repeat' split
  · rfl
  · rfl
  · exact reg_setF_ne _ _ _ _ (lostFld_addr _ (by simpa [stamp] using hc) _ h)

theorem reg_setCtr (lo hi n a : Nat) (h : lo ≠ a) (h' : hi ≠ a) : reg (s.setCtr lo hi n) a = reg s a := by
  unfold State.setCtr
  rw [reg_setF_ne _ _ _ _ h', reg_setReg_ne _ _ _ _ (Ne.symm h)]

theorem reg_bumpRaw (lo hi : Nat) (e : Fld) (src n a : Nat) (hl : lo ≠ a) (hh : hi ≠ a) (he : e.addr ≠ a) (h : offJournal a) :
    reg (s.bumpRaw lo hi e src n) a = reg s a := by
  unfold State.bumpRaw State.intakeEvt State.raise
  dsimp only
  split
  · rw [reg_intake _ _ _ (show 7 < 8 by decide) h, reg_setF_ne _ _ _ _ he, reg_setF_ne _ _ _ _ hh, reg_setCtr _ _ _ _ _ hl hh]
  · rw [reg_setCtr _ _ _ _ _ hl hh]

theorem reg_enter (r : JRec) (a : Nat) (hc : r.cls < 8) (h : offJournal a) : reg (s.enter r) a = reg s a := by
  have k : ∀ b, 0x40300000 ≤ b → b < 0x40310000 → b ≠ a := by unfold offJournal at h; omega
  unfold State.enter
  dsimp only
  split
  · rw [reg_bumpRaw _ _ _ _ _ _ _ (k _ (by decide) (by decide)) (k _ (by decide) (by decide)) (k _ (by decide) (by decide)) h, reg_intake _ _ _ hc h]
  · rw [reg_bumpRaw _ _ _ _ _ _ _ (k _ (by decide) (by decide)) (k _ (by decide) (by decide)) (k _ (by decide) (by decide)) h, reg_intake _ _ _ hc h]

/-- A record of the journal changes no register outside the journal's block. -/
theorem reg_journalD (c t u n d g : Nat) (l : List Byte) (a : Nat) (hc : c < 8) (h : offJournal a) :
    reg (s.journalD c t u n d g l) a = reg s a := reg_enter _ _ _ hc h

theorem reg_journal (c t u n : Nat) (d : Code) (a : Nat) (hc : c < 8) (h : offJournal a) : reg (s.journal c t u n d) a = reg s a :=
  reg_journalD _ _ _ _ _ _ _ _ _ hc h

/-- A statistics counter changes its own registers, its SAT event and the journal's. -/
theorem reg_bumpN (lo hi : Nat) (e : Fld) (src n a : Nat) (hl : lo ≠ a) (hh : hi ≠ a) (he : e.addr ≠ a) (h : offJournal a) :
    reg (s.bumpN lo hi e src n) a = reg s a := by
  unfold State.bumpN State.raise
  dsimp only
  split
  · rw [reg_journal _ _ _ _ _ _ _ (by decide) h, reg_setF_ne _ _ _ _ he, reg_setF_ne _ _ _ _ hh, reg_setCtr _ _ _ _ _ hl hh]
  · rw [reg_setCtr _ _ _ _ _ hl hh]

theorem reg_bump (lo hi : Nat) (e : Fld) (src a : Nat) (hl : lo ≠ a) (hh : hi ≠ a) (he : e.addr ≠ a) (h : offJournal a) :
    reg (s.bump lo hi e src) a = reg s a := reg_bumpN _ _ _ _ _ _ _ hl hh he h

theorem rf_journalD (c t u n d v : Nat) (l : List Byte) (g : Fld) (hc : c < 8) (h : offJournal g.addr) : rf (s.journalD c t u n d v l) g = rf s g := by
  unfold rf; rw [reg_journalD _ _ _ _ _ _ _ _ _ hc h]
theorem rf_journal (c t u n : Nat) (d : Code) (g : Fld) (hc : c < 8) (h : offJournal g.addr) : rf (s.journal c t u n d) g = rf s g := by
  unfold rf; rw [reg_journal _ _ _ _ _ _ _ hc h]
theorem rf_bumpN (lo hi : Nat) (e : Fld) (src n : Nat) (g : Fld) (hl : lo ≠ g.addr) (hh : hi ≠ g.addr) (he : e.addr ≠ g.addr) (h : offJournal g.addr) : rf (s.bumpN lo hi e src n) g = rf s g := by
  unfold rf; rw [reg_bumpN _ _ _ _ _ _ _ hl hh he h]
theorem rf_bump (lo hi : Nat) (e : Fld) (src : Nat) (g : Fld) (hl : lo ≠ g.addr) (hh : hi ≠ g.addr) (he : e.addr ≠ g.addr) (h : offJournal g.addr) : rf (s.bump lo hi e src) g = rf s g := by
  unfold rf; rw [reg_bump _ _ _ _ _ _ hl hh he h]
theorem rb_journalD (c t u n d v : Nat) (l : List Byte) (g : Fld) (hc : c < 8) (h : offJournal g.addr) : rb (s.journalD c t u n d v l) g = rb s g := by
  unfold rb; unfold rf; rw [reg_journalD _ _ _ _ _ _ _ _ _ hc h]
theorem rb_journal (c t u n : Nat) (d : Code) (g : Fld) (hc : c < 8) (h : offJournal g.addr) : rb (s.journal c t u n d) g = rb s g := by
  unfold rb; unfold rf; rw [reg_journal _ _ _ _ _ _ _ hc h]
theorem rb_bumpN (lo hi : Nat) (e : Fld) (src n : Nat) (g : Fld) (hl : lo ≠ g.addr) (hh : hi ≠ g.addr) (he : e.addr ≠ g.addr) (h : offJournal g.addr) : rb (s.bumpN lo hi e src n) g = rb s g := by
  unfold rb; unfold rf; rw [reg_bumpN _ _ _ _ _ _ _ hl hh he h]
theorem rb_bump (lo hi : Nat) (e : Fld) (src : Nat) (g : Fld) (hl : lo ≠ g.addr) (hh : hi ≠ g.addr) (he : e.addr ≠ g.addr) (h : offJournal g.addr) : rb (s.bump lo hi e src) g = rb s g := by
  unfold rb; unfold rf; rw [reg_bump _ _ _ _ _ _ hl hh he h]

end Sys2Proof.Machine
end

