-- ==== Sys2Proof/Laws/Reset.lean ====
section
/-! SUPPORT. What a device reset leaves (R58), and what its end changes (R61). -/

namespace Sys2Proof.Machine

/-- An update that keeps a part of the state keeps it over a list. -/
theorem State.each_keeps {α β : Type} (g : State → β) (l : List α) (f : State → α → State) (h : ∀ s a, g (f s a) = g s) (s : State) :
    g (s.each l f) = g s := by
  unfold State.each
  induction l generalizing s with
  | nil => rfl
  | cons a l ih => rw [List.foldl_cons, ih, h]

/-- A conditional update keeps what its body keeps. -/
theorem State.when_keeps {β : Type} (g : State → β) (b : Bool) (f : State → State) (h : ∀ s, g (f s) = g s) (s : State) :
    g (s.when b f) = g s := by
  unfold State.when; split
  · exact h s
  · rfl

/-- All of the state but OTP and the free-value counter. -/
def butOtp (s : State) : State := { s with otp := State.reset.otp, freeIx := 0 }

theorem butOtp_burnWords (ws : List Nat) (s : State) : butOtp (s.burnWords ws) = butOtp s := by
  unfold State.burnWords
  apply State.each_keeps butOtp
  intros; rfl

theorem butOtp_cutCodes (s : State) : butOtp s.cutCodes = butOtp s := by
  unfold State.cutCodes
  split
  · rfl
  · dsimp only
    rw [State.each_keeps butOtp]
    · rfl
    · intros; rfl

theorem butOtp_cutRows (s : State) : butOtp s.cutRows = butOtp s := by
  unfold State.cutRows
  split
  · rfl
  · dsimp only
    show butOtp (State.each _ _ _) = _
    rw [State.each_keeps butOtp]
    · rfl
    · intros; rfl

theorem butOtp_cutScrap (s : State) : butOtp s.cutScrap = butOtp s := by
  unfold State.cutScrap
  split
  · rfl
  · show butOtp (State.burnWords _ _) = _
    rw [butOtp_burnWords]; rfl

theorem butOtp_cutSvn (s : State) : butOtp s.cutSvn = butOtp s := by
  unfold State.cutSvn
  split
  · rfl
  · dsimp only; split <;> rfl

/-- What a cut of the programming of OTP changes is OTP alone. -/
theorem butOtp_otpCut (s : State) : butOtp s.otpCut = butOtp s := by
  unfold State.otpCut
  rw [butOtp_cutSvn, butOtp_cutScrap, butOtp_cutRows, butOtp_cutCodes]

theorem State.otpCut_pending (s : State) : s.otpCut.pending = s.pending := by
  have h := congrArg State.pending (butOtp_otpCut s); exact h
theorem State.otpCut_regs (s : State) : s.otpCut.regs = s.regs := by
  have h := congrArg State.regs (butOtp_otpCut s); exact h
theorem State.otpCut_boot (s : State) : s.otpCut.boot = s.boot := by
  have h := congrArg State.boot (butOtp_otpCut s); exact h
theorem State.otpCut_lodge (s : State) : s.otpCut.lodge = s.lodge := by
  have h := congrArg State.lodge (butOtp_otpCut s); exact h

/-- Putting the kept fields back changes registers alone. -/
theorem keepFields_keeps {β : Type} (g : State → β) (h : ∀ s f v, g (State.setF s f v) = g s) (t s : State) :
    g (t.keepFields s) = g t := by
  unfold State.keepFields
  exact State.each_keeps g _ _ (fun _ _ => h _ _ _) _

/-- Putting the kept fields back changes their registers alone. -/
theorem keepFields_reg (t s : State) (a : Nat) (h : ∀ f ∈ keptFields, f.addr ≠ a) : reg (t.keepFields s) a = reg t a := by
  unfold State.keepFields State.each
  generalize keptFields = l at h ⊢
  induction l generalizing t with
  | nil => rfl
  | cons f l ih =>
    rw [List.foldl_cons, ih _ (fun g hg => h g (List.mem_cons_of_mem _ hg)), reg_setF_ne _ _ _ _ (h f List.mem_cons_self)]

theorem keepFields_rf (t s : State) (g : Fld) (h : ∀ f ∈ keptFields, f.addr ≠ g.addr ∨
    ((g.lo + g.wid ≤ f.lo ∨ f.lo + f.wid ≤ g.lo) ∧ g.lo + g.wid ≤ 32)) : rf (t.keepFields s) g = rf t g := by
  unfold State.keepFields State.each
  generalize keptFields = l at h ⊢
  induction l generalizing t with
  | nil => rfl
  | cons f l ih =>
    rw [List.foldl_cons, ih _ (fun g hg => h g (List.mem_cons_of_mem _ hg)), rf_setF_ne _ _ _ _ (h f List.mem_cons_self)]

/-- A device reset leaves of the state what `afterReset` says. -/
theorem deviceReset_after (s : State) (c : Nat) : afterReset s (s.deviceReset c) := by
  unfold afterReset State.deviceReset
  refine ⟨(keepFields_keeps State.pending (fun _ _ _ => rfl) _ _).trans (State.otpCut_pending s),
    (keepFields_keeps (·.lodge.vault) (fun _ _ _ => rfl) _ _).trans ?_, (keepFields_keeps (·.lodge.rules) (fun _ _ _ => rfl) _ _).trans ?_,
    keepFields_keeps State.tcm (fun _ _ _ => rfl) _ _, keepFields_keeps State.keys (fun _ _ _ => rfl) _ _,
    keepFields_keeps State.eng (fun _ _ _ => rfl) _ _, keepFields_keeps State.chans (fun _ _ _ => rfl) _ _,
    keepFields_keeps State.orang (fun _ _ _ => rfl) _ _, keepFields_keeps State.kiosk (fun _ _ _ => rfl) _ _,
    keepFields_keeps State.mtrans (fun _ _ _ => rfl) _ _, keepFields_keeps State.gate (fun _ _ _ => rfl) _ _,
    keepFields_keeps State.ldr (fun _ _ _ => rfl) _ _, keepFields_keeps State.fbus (fun _ _ _ => rfl) _ _,
    keepFields_keeps State.jnl (fun _ _ _ => rfl) _ _, keepFields_keeps State.upd (fun _ _ _ => rfl) _ _,
    keepFields_keeps State.rng (fun _ _ _ => rfl) _ _, keepFields_keeps State.mem (fun _ _ _ => rfl) _ _, ?_⟩
  · show s.otpCut.lodge.vault = _; rw [State.otpCut_lodge]
  · show s.otpCut.lodge.rules = _; rw [State.otpCut_lodge]
  · intro a ha
    rw [keepFields_reg]
    · rfl
    · intro f hf hfa
      have : ∀ f ∈ keptFields, resetClears f.addr = false := by decide
      have := this f hf
      rw [hfa, ha] at this
      exact absurd this (by decide)

theorem deviceReset_stage (s : State) (c : Nat) : (s.deviceReset c).boot.stage = .held := by
  unfold State.deviceReset
  exact keepFields_keeps (·.boot.stage) (fun _ _ _ => rfl) _ _

/-- The end of a reset changes the time, the stage and fields of SYSCTL, so a reset that ends leaves what a reset leaves. -/
theorem endReset_after (s t : State) (b : Bool) (h : afterReset s t) : afterReset s (t.endReset b) := by
  unfold State.endReset
  split
  · exact h
  · unfold afterReset at *
    simp only [State.setB, State.setF_pending, State.setF_lodge, State.setF_tcm, State.setF_keys, State.setF_eng, State.setF_chans,
      State.setF_orang, State.setF_kiosk, State.setF_mtrans, State.setF_gate, State.setF_ldr, State.setF_fbus, State.setF_jnl, State.setF_upd,
      State.setF_rng, State.setF_mem]
    obtain ⟨h1, h2, h3, h4, h5, h6, h7, h8, h9, h10, h11, h12, h13, h14, h15, h16, h17, h18⟩ := h
    refine ⟨h1, h2, h3, h4, h5, h6, h7, h8, h9, h10, h11, h12, h13, h14, h15, h16, h17, fun a ha => ?_⟩
    have k : ∀ f : Fld, resetClears f.addr = false → f.addr ≠ a := by
      intro f hf e; rw [e, ha] at hf; exact absurd hf (by decide)
    rw [reg_setF_ne _ _ _ _ (k _ (by decide)), reg_setF_ne _ _ _ _ (k _ (by decide)), reg_mk, reg_setF_ne _ _ _ _ (k _ (by decide)), h18 a ha]

/-- A reset by command, ended or not. -/
theorem resetNow_after (s : State) (c : Nat) (b : Bool) : afterReset s (s.resetNow c b) :=
  endReset_after _ _ _ (deviceReset_after s c)

/-- Once supplies and the pin allow it the reset ends: the start sequence begins in ASSEMBLY. -/
theorem endReset_runs (s : State) (b : Bool) (h1 : s.boot.stage = .held) (h2 : s.boot.supplies = 15) (h3 : pinHolds s = false) :
    (s.endReset b).boot.stage = .reset1 ∧ mode (s.endReset b) = moASSEMBLY ∧ (s.endReset b).usec = 0 := by
  unfold State.endReset
  rw [if_neg (by simp [h1, h2, h3])]
  refine ⟨rfl, ?_, rfl⟩
  unfold mode State.setB
  rw [rf_setF_ne _ _ _ _ (by decide), rf_setF_same _ _ _ (by decide)]
  decide

end Sys2Proof.Machine
end

