-- ==== Sys2Proof/Laws/Otp.lean ====
section
/-! SUPPORT. What each operation leaves of OTP: nearly all leave it as it is, and those that program it clear no bit (R381). -/

namespace Sys2Proof.Machine

set_option linter.unusedSimpArgs false
set_option linter.tactic.unusedName false

theorem ite_otp {c : Prop} [Decidable c] {a b s : State} (ha : a.otp = s.otp) (hb : b.otp = s.otp) : (if c then a else b).otp = s.otp := by
  split
  · exact ha
  · exact hb
@[simp] theorem State.setDigest_otp (s : State) (base : Nat → Nat) (d : List Byte) : (State.setDigest s base d).otp = s.otp := by
  unfold State.setDigest
  generalize List.range 12 = l
  induction l generalizing s with
  | nil => rfl
  | cons i l ih => exact ih _
@[simp] theorem each_otp {α : Type} (s : State) (l : List α) (f : State → α → State) (h : ∀ s a, (f s a).otp = s.otp) : (s.each l f).otp = s.otp :=
  State.each_keeps State.otp l f h s
@[simp] theorem foldl_otp {α : Type} (s : State) (l : List α) (f : State → α → State) (h : ∀ s a, (f s a).otp = s.otp) : (l.foldl f s).otp = s.otp :=
  State.each_keeps State.otp l f h s
@[simp] theorem when_otp (s : State) (b : Bool) (f : State → State) (h : ∀ s, (f s).otp = s.otp) : (s.when b f).otp = s.otp :=
  State.when_keeps State.otp b f h s
@[simp] theorem foldl1_otp {α β : Type} (p : State × β) (l : List α) (f : State × β → α → State × β) (h : ∀ p a, (f p a).1.otp = p.1.otp) :
    (l.foldl f p).1.otp = p.1.otp := by
  induction l generalizing p with
  | nil => rfl
  | cons a l ih => rw [List.foldl_cons, ih, h]
theorem foldl2_otp {α β : Type} (p : β × State) (l : List α) (f : β × State → α → β × State) (h : ∀ p a, (f p a).2.otp = p.2.otp) :
    (l.foldl f p).2.otp = p.2.otp := by
  induction l generalizing p with
  | nil => rfl
  | cons a l ih => rw [List.foldl_cons, ih, h]
theorem snd_otp {α : Type} {p : α × State} {a : α} {t s : State} (e : p = (a, t)) (h : p.2.otp = s.otp) : t.otp = s.otp := by
  rw [e] at h; exact h
theorem takeAll_otp (f : State → Nat → State × Bool) (h : ∀ s i, (f s i).1.otp = s.otp) (s : State) (l : List Nat) :
    (takeAll f s l).1.otp = s.otp := by
  induction l generalizing s with
  | nil => rfl
  | cons i l ih =>
    unfold takeAll
    split
    · rename_i e; rw [ih]; exact (congrArg (fun x => x.1.otp) e).symm.trans (h s i)
    · rename_i e; exact (congrArg (fun x => x.1.otp) e).symm.trans (h s i)
theorem ite1_otp {β : Type} {c : Prop} [Decidable c] {a b : State × β} {s : State} (ha : a.1.otp = s.otp) (hb : b.1.otp = s.otp) :
    (if c then a else b).1.otp = s.otp := by
  split
  · exact ha
  · exact hb
@[simp] theorem State.free_otp (s : State) : (State.free s).2.otp = s.otp := by
  simp [State.free]
@[simp] theorem State.drbg_otp (s : State) : (State.drbg s).2.otp = s.otp := by
  simp [State.drbg]
@[simp] theorem State.retryTime_otp (s : State) : (State.retryTime s).2.otp = s.otp := by
  simp [State.retryTime]
@[simp] theorem State.intakeEvt_otp (s : State) (cls tag src unit : Nat) (code : Nat) : (State.intakeEvt s cls tag src unit code).otp = s.otp := by
  simp [State.intakeEvt]
@[simp] theorem State.setChan_otp (s : State) (ch : Nat) (c : Chan) : (State.setChan s ch c).otp = s.otp := by
  simp [State.setChan]
@[simp] theorem State.modChan_otp (s : State) (ch : Nat) (f : Chan → Chan) : (State.modChan s ch f).otp = s.otp := by
  simp [State.modChan]
@[simp] theorem State.setRole_otp (s : State) (ch role : Nat) (b : Bool) : (State.setRole s ch role b).otp = s.otp := by
  simp [State.setRole]
  (repeat' split) <;> simp_all
@[simp] theorem State.protoPowerOn_otp (s : State) (ch : Nat) (keepWip : Bool) : (State.protoPowerOn s ch keepWip).otp = s.otp := by
  unfold State.protoPowerOn
  (repeat' split) <;> simp
@[simp] theorem State.alert_otp (s : State) (ch cause : Nat) : (State.alert s ch cause).otp = s.otp := by
  simp [State.alert]
  (repeat' split) <;> simp_all
@[simp] theorem State.mirrorCfg_otp (s : State) (ch : Nat) (p : Prog) : (State.mirrorCfg s ch p).otp = s.otp := by
  simp [State.mirrorCfg]
@[simp] theorem State.opEnd_otp (s : State) (ch : Nat) : (State.opEnd s ch).otp = s.otp := by
  simp [State.opEnd]
  (repeat' split) <;> simp_all
@[simp] theorem State.setPlane_otp (s : State) (x : Nat) (m : PlaneMem) : (State.setPlane s x m).otp = s.otp := by
  unfold State.setPlane
  (repeat' split) <;> simp
@[simp] theorem State.modPlanes_otp (s : State) (f : PlaneMem → PlaneMem) : (State.modPlanes s f).otp = s.otp := by
  simp [State.modPlanes]
  (repeat' split) <;> simp_all
@[simp] theorem State.setExt_otp (s : State) (e : Nat) (x : Ext) : (State.setExt s e x).otp = s.otp := by
  simp [State.setExt]
@[simp] theorem State.setCtrSlot_otp (s : State) (slot v : Nat) : (State.setCtrSlot s slot v).otp = s.otp := by
  simp [State.setCtrSlot]
@[simp] theorem State.newEpoch_otp (s : State) : (State.newEpoch s).2.otp = s.otp := by
  simp [State.newEpoch]
@[simp] theorem State.setLtab_otp (s : State) (slot : Nat) (x : Option LEnt) : (State.setLtab s slot x).otp = s.otp := by
  simp [State.setLtab]
@[simp] theorem State.moveRun_otp (s : State) (src dst n : Nat) : (State.moveRun s src dst n).otp = s.otp := by
  unfold State.moveRun
  (repeat' split) <;> simp
@[simp] theorem State.compact_otp (s : State) : (State.compact s).otp = s.otp := by
  simp [State.compact]
@[simp] theorem State.retain_otp (s : State) (x : LEnt) : (State.retain s x).otp = s.otp := by
  simp [State.retain]
  (repeat' split) <;> simp_all
@[simp] theorem State.putNode_otp (s : State) (e lvl i : Nat) (h : List Byte) : (State.putNode s e lvl i h).otp = s.otp := by
  simp [State.putNode]
@[simp] theorem State.dropNodes_otp (s : State) (e : Nat) : (State.dropNodes s e).otp = s.otp := by
  simp [State.dropNodes]
@[simp] theorem State.writeLeaf_otp (s : State) (e l : Nat) (bs : List Byte) : (State.writeLeaf s e l bs).otp = s.otp := by
  simp [State.writeLeaf]
@[simp] theorem State.loseLeaf_otp (s : State) (e l : Nat) : (State.loseLeaf s e l).otp = s.otp := by
  unfold State.loseLeaf
  (repeat' split) <;> simp
@[simp] theorem State.queueRekey_otp (s : State) (e : Nat) : (State.queueRekey s e).otp = s.otp := by
  unfold State.queueRekey
  (repeat' split) <;> simp
@[simp] theorem State.mirrorLine_otp (s : State) (x e off : Nat) : (State.mirrorLine s x e off).otp = s.otp := by
  simp [State.mirrorLine]
@[simp] theorem State.countMac_otp (s : State) (x : Nat) : (State.countMac s x).otp = s.otp := by
  simp [State.countMac]
@[simp] theorem State.mendBlock_otp (s : State) (e b off len : Nat) (bad : List (Nat × Nat)) : (State.mendBlock s e b off len bad).otp = s.otp := by
  simp [State.mendBlock]
@[simp] theorem State.bumpBlock_otp (s : State) (e off len : Nat) (bad : List (Nat × Nat)) (b : Nat) : (State.bumpBlock s e off len bad b).otp = s.otp := by
  unfold State.bumpBlock
  (repeat' (first | with_reducible rfl | intro _ | with_reducible apply ite_otp | split | (simp -implicitDefEqProofs; done) | refine (each_otp _ _ _ ?_).trans ?_ | refine (foldl_otp _ _ _ ?_).trans ?_ | refine (when_otp _ _ _ ?_).trans ?_ | refine (foldl1_otp _ _ _ ?_).trans ?_ | simp -implicitDefEqProofs))
@[simp] theorem State.storeThrough_otp (s : State) (e off : Nat) (bs : List Byte) (bad : List (Nat × Nat)) : (State.storeThrough s e off bs bad).otp = s.otp := by
  simp [State.storeThrough]
@[simp] theorem State.showStage_otp (s : State) : (State.showStage s).otp = s.otp := by
  simp [State.showStage]
@[simp] theorem State.setStage_otp (s : State) (h : Nat) (o : Option StageObj) : (State.setStage s h o).otp = s.otp := by
  simp [State.setStage]
@[simp] theorem State.opFail_otp (s : State) (ch w : Nat) : (State.opFail s ch w).otp = s.otp := by
  simp [State.opFail]
  (repeat' split) <;> simp_all
@[simp] theorem State.opComplete_otp (s : State) (ch w : Nat) : (State.opComplete s ch w).otp = s.otp := by
  simp [State.opComplete]
@[simp] theorem State.dropWt_otp (s : State) (w : Nat) : (State.dropWt s w).otp = s.otp := by
  simp [State.dropWt]
@[simp] theorem State.modWt_otp (s : State) (w : Nat) (f : Wt → Wt) : (State.modWt s w f).otp = s.otp := by
  simp [State.modWt]
@[simp] theorem State.held_otp (s : State) (cause : Nat) : (State.held s cause).otp = s.otp := by
  simp [State.held]
@[simp] theorem State.dropFrame_otp (s : State) (w : Wt) : (State.dropFrame s w).otp = s.otp := by
  simp [State.dropFrame]
@[simp] theorem State.dropExt_otp (s : State) (e : Nat) : (State.dropExt s e).otp = s.otp := by
  unfold State.dropExt
  (repeat' (first | with_reducible rfl | intro _ | with_reducible apply ite_otp | split | (simp -implicitDefEqProofs; done) | refine (each_otp _ _ _ ?_).trans ?_ | refine (foldl_otp _ _ _ ?_).trans ?_ | refine (when_otp _ _ _ ?_).trans ?_ | refine (foldl1_otp _ _ _ ?_).trans ?_ | simp -implicitDefEqProofs))
@[simp] theorem State.dropManifest_otp (s : State) (d : Nat) : (State.dropManifest s d).otp = s.otp := by
  simp [State.dropManifest]
@[simp] theorem State.setMode_otp (s : State) (m : Nat) : (State.setMode s m).otp = s.otp := by
  simp [State.setMode]
@[simp] theorem State.setDomX_otp (s : State) (d : Nat) (x : DomX) : (State.setDomX s d x).otp = s.otp := by
  simp [State.setDomX]
@[simp] theorem State.modDomX_otp (s : State) (d : Nat) (f : DomX → DomX) : (State.modDomX s d f).otp = s.otp := by
  simp [State.modDomX]
@[simp] theorem State.refillBus_otp (s : State) (b : Nat) : (State.refillBus s b).otp = s.otp := by
  unfold State.refillBus
  (repeat' split) <;> simp
@[simp] theorem State.refill_otp (s : State) : (State.refill s).otp = s.otp := by
  simp [State.refill]
@[simp] theorem State.setLoad_otp (s : State) (d : Nat) (l : Load) : (State.setLoad s d l).otp = s.otp := by
  simp [State.setLoad]
@[simp] theorem State.endReverify_otp (s : State) (d : Nat) : (State.endReverify s d).otp = s.otp := by
  simp [State.endReverify]
  (repeat' split) <;> simp_all
@[simp] theorem State.stopReads_otp (s : State) (d : Nat) : (State.stopReads s d).otp = s.otp := by
  simp [State.stopReads]
@[simp] theorem State.loadStart_otp (s : State) (d : Nat) : (State.loadStart s d).otp = s.otp := by
  unfold State.loadStart
  (repeat' split) <;> simp
@[simp] theorem State.loadDrop_otp (s : State) (d : Nat) : (State.loadDrop s d).otp = s.otp := by
  simp [State.loadDrop]
  (repeat' split) <;> simp_all
@[simp] theorem State.setRec_otp (s : State) (d : Nat) (r : Option Rec) : (State.setRec s d r).otp = s.otp := by
  simp [State.setRec]
@[simp] theorem State.recStart_otp (s : State) (d : Nat) : (State.recStart s d).otp = s.otp := by
  simp [State.recStart]
@[simp] theorem State.recEnd_otp (s : State) (d : Nat) (code : Nat) : (State.recEnd s d code).otp = s.otp := by
  unfold State.recEnd
  (repeat' split) <;> simp
@[simp] theorem State.showRng_otp (s : State) : (State.showRng s).otp = s.otp := by
  simp [State.showRng]
  (repeat' split) <;> simp_all
@[simp] theorem State.bumpClamp_otp (s : State) : (State.bumpClamp s).otp = s.otp := by
  simp [State.bumpClamp]
@[simp] theorem State.selClamp_otp (s : State) (k : Nat) : (State.selClamp s k).otp = s.otp := by
  simp [State.selClamp]
@[simp] theorem State.bringIn_otp (s : State) : (State.bringIn s).otp = s.otp := by
  simp [State.bringIn]
  (repeat' split) <;> simp_all
@[simp] theorem State.selectSource_otp (s : State) : (State.selectSource s).otp = s.otp := by
  simp [State.selectSource]
  (repeat' split) <;> simp_all
@[simp] theorem State.rngFlush_otp (s : State) : (State.rngFlush s).otp = s.otp := by
  simp [State.rngFlush]
@[simp] theorem State.retireSource_otp (s : State) (k : Nat) (wasActive : Bool) : (State.retireSource s k wasActive).otp = s.otp := by
  unfold State.retireSource
  dsimp only
  (repeat' split) <;> simp
@[simp] theorem State.doReseed_otp (s : State) : (State.doReseed s).otp = s.otp := by
  simp [State.doReseed]
@[simp] theorem State.drbgStop_otp (s : State) : (State.drbgStop s).otp = s.otp := by
  simp [State.drbgStop]
@[simp] theorem State.itemBoundary_otp (s : State) : (State.itemBoundary s).otp = s.otp := by
  unfold State.itemBoundary
  (repeat' split) <;> simp
@[simp] theorem State.produce_otp (s : State) : (State.produce s).otp = s.otp := by
  simp [State.produce]
  (repeat' split) <;> simp_all
@[simp] theorem State.takeItem_otp (s : State) : (State.takeItem s).2.otp = s.otp := by
  simp [State.takeItem]
  (repeat' split) <;> simp_all
@[simp] theorem State.rngZeroise_otp (s : State) : (State.rngZeroise s).otp = s.otp := by
  simp [State.rngZeroise]
  (repeat' split) <;> simp_all
@[simp] theorem State.setNoise_otp (s : State) (k : Nat) (x : NoiseBits) : (State.setNoise s k x).otp = s.otp := by
  simp [State.setNoise]
@[simp] theorem State.dropWindow_otp (s : State) (k : Nat) : (State.dropWindow s k).otp = s.otp := by
  simp [State.dropWindow]
@[simp] theorem State.endTest_otp (s : State) : (State.endTest s).otp = s.otp := by
  unfold State.endTest
  (repeat' (first | with_reducible rfl | intro _ | with_reducible apply ite_otp | split | (simp -implicitDefEqProofs; done) | refine (each_otp _ _ _ ?_).trans ?_ | refine (foldl_otp _ _ _ ?_).trans ?_ | refine (when_otp _ _ _ ?_).trans ?_ | refine (foldl1_otp _ _ _ ?_).trans ?_ | simp -implicitDefEqProofs))
@[simp] theorem State.setEng_otp (s : State) (e : Nat) (o : Option EngOp) : (State.setEng s e o).otp = s.otp := by
  simp [State.setEng]
@[simp] theorem State.setKmHold_otp (s : State) (e : Nat) (b : Bool) : (State.setKmHold s e b).otp = s.otp := by
  simp [State.setKmHold]
@[simp] theorem State.engStop_otp (s : State) (e : Nat) (c : Code) : (State.engStop s e c).otp = s.otp := by
  unfold State.engStop
  (repeat' split) <;> simp
@[simp] theorem State.engReset_otp (s : State) : (State.engReset s).otp = s.otp := by
  simp [State.engReset]
@[simp] theorem State.showVault_otp (s : State) : (State.showVault s).otp = s.otp := by
  simp [State.showVault]
@[simp] theorem State.vaultWrite_otp (s : State) (a : Nat) (bs : List Byte) : (State.vaultWrite s a bs).otp = s.otp := by
  simp [State.vaultWrite]
@[simp] theorem State.vaultClear_otp (s : State) (lo hi : Nat) : (State.vaultClear s lo hi).otp = s.otp := by
  simp [State.vaultClear]
@[simp] theorem State.vaultProvision_otp (s : State) (sec : List Byte) : (State.vaultProvision s sec).otp = s.otp := by
  unfold State.vaultProvision
  (repeat' split) <;> simp
@[simp] theorem State.vaultZeroise_otp (s : State) (cause : Nat) : (State.vaultZeroise s cause).otp = s.otp := by
  unfold State.vaultZeroise
  (repeat' split) <;> simp
@[simp] theorem State.vaultLoss_otp (s : State) : (State.vaultLoss s).otp = s.otp := by
  simp [State.vaultLoss]
@[simp] theorem State.putSlot_otp (s : State) (i : Nat) (x : Slot) : (State.putSlot s i x).otp = s.otp := by
  simp [State.putSlot]
@[simp] theorem State.showPersist_otp (s : State) : (State.showPersist s).otp = s.otp := by
  simp [State.showPersist]
@[simp] theorem State.foundBad_otp (s : State) (i : Nat) : (State.foundBad s i).otp = s.otp := by
  unfold State.foundBad
  (repeat' split) <;> simp
@[simp] theorem State.setWk_otp (s : State) (e : Nat) (k : Option (Nat × Nat × List Byte)) : (State.setWk s e k).otp = s.otp := by
  simp [State.setWk]
@[simp] theorem State.commitSram_otp (s : State) (i : Nat) (payload : List Byte) (md : Nat) : (State.commitSram s i payload md).otp = s.otp := by
  simp [State.commitSram]
@[simp] theorem State.vaultPhase1_otp (s : State) (i k : Nat) : (State.vaultPhase1 s i k).otp = s.otp := by
  simp [State.vaultPhase1]
@[simp] theorem State.vaultPhase2_otp (s : State) (i k : Nat) : (State.vaultPhase2 s i k).otp = s.otp := by
  simp [State.vaultPhase2]
@[simp] theorem State.eraseSlot_otp (s : State) (i : Nat) : (State.eraseSlot s i).otp = s.otp := by
  simp [State.eraseSlot]
@[simp] theorem State.bootSlot_otp (s : State) (i ty usage : Nat) (payload : List Byte) (lock : Bool) : (State.bootSlot s i ty usage payload lock).otp = s.otp := by
  simp [State.bootSlot]
  (repeat' split) <;> simp_all
@[simp] theorem State.deriveL1_otp (s : State) (m : BootImg) : (State.deriveL1 s m).otp = s.otp := by
  simp [State.deriveL1]
  (repeat' split) <;> simp_all
@[simp] theorem State.deriveL0_otp (s : State) (secret label ctx : List Byte) : (State.deriveL0 s secret label ctx).otp = s.otp := by
  simp [State.deriveL0]
  (repeat' split) <;> simp_all
@[simp] theorem State.deriveL2_otp (s : State) : (State.deriveL2 s).otp = s.otp := by
  unfold State.deriveL2
  (repeat' split) <;> simp
@[simp] theorem State.loadPersist_otp (s : State) : (State.loadPersist s).otp = s.otp := by
  unfold State.loadPersist
  dsimp only
  (repeat' split) <;> simp (disch := (intros; (repeat' split) <;> simp))
@[simp] theorem State.holdEngines_otp (s : State) (need : Nat) (b : Bool) : (State.holdEngines s need b).otp = s.otp := by
  simp [State.holdEngines]
@[simp] theorem State.keyIdle_otp (s : State) : (State.keyIdle s).otp = s.otp := by
  simp [State.keyIdle]
@[simp] theorem State.sealSlot_otp (s : State) (i : Nat) : (State.sealSlot s i).otp = s.otp := by
  simp [State.sealSlot]
  (repeat' split) <;> simp_all
@[simp] theorem State.showPcl_otp (s : State) (k : Nat) : (State.showPcl s k).otp = s.otp := by
  unfold State.showPcl
  (repeat' split) <;> simp
@[simp] theorem State.drive_otp (s : State) (k : Nat) (on : Bool) : (State.drive s k on).otp = s.otp := by
  simp [State.drive]
@[simp] theorem State.setSeq_otp (s : State) (d : Nat) (q : Seq) : (State.setSeq s d q).otp = s.otp := by
  simp [State.setSeq]
@[simp] theorem State.powerDown_otp (s : State) (d u : Nat) : (State.powerDown s d u).otp = s.otp := by
  simp [State.powerDown]
@[simp] theorem State.bumpGen_otp (s : State) (d : Nat) : (State.bumpGen s d).otp = s.otp := by
  simp [State.bumpGen]
@[simp] theorem State.modeEdge_otp (s : State) : (State.modeEdge s).otp = s.otp := by
  simp [State.modeEdge]
  (repeat' split) <;> simp_all
@[simp] theorem State.setLaneOn_otp (s : State) (i : Nat) (b : Bool) : (State.setLaneOn s i b).otp = s.otp := by
  unfold State.setLaneOn
  (repeat' split) <;> simp
@[simp] theorem State.setLaneBad_otp (s : State) (i : Nat) : (State.setLaneBad s i).otp = s.otp := by
  unfold State.setLaneBad
  (repeat' split) <;> simp
@[simp] theorem State.failLane_otp (s : State) (i : Nat) : (State.failLane s i).otp = s.otp := by
  simp [State.failLane]
  (repeat' split) <;> simp_all
@[simp] theorem State.modLoad_otp (s : State) (d : Nat) (f : Load → Load) : (State.modLoad s d f).otp = s.otp := by
  simp [State.modLoad]
@[simp] theorem State.showProg_otp (s : State) (d : Nat) : (State.showProg s d).otp = s.otp := by
  unfold State.showProg
  (repeat' split) <;> simp
@[simp] theorem State.leafDone_otp (s : State) (d r : Nat) (reverify : Bool) : (State.leafDone s d r reverify).otp = s.otp := by
  unfold State.leafDone
  (repeat' split) <;> simp
@[simp] theorem State.emuReset_otp (s : State) (ch : Nat) (all : Bool) : (State.emuReset s ch all).otp = s.otp := by
  simp -implicitDefEqProofs [State.emuReset]
@[simp] theorem State.swap_otp (s : State) (ch : Nat) : (State.swap s ch).otp = s.otp := by
  unfold State.swap
  split
  · rfl
  · dsimp only
    rw [State.journalD_otp]
    split <;> simp -implicitDefEqProofs
@[simp] theorem State.devPowerOn_otp (s : State) (ch : Nat) : (State.devPowerOn s ch).otp = s.otp := by
  simp -implicitDefEqProofs [State.devPowerOn]
@[simp] theorem State.alertShow_otp (s : State) (ch : Nat) : (State.alertShow s ch).otp = s.otp := by
  unfold State.alertShow
  (repeat' split) <;> simp
@[simp] theorem State.chanOpen_otp (s : State) (ch : Nat) : (State.chanOpen s ch).otp = s.otp := by
  simp -implicitDefEqProofs [State.chanOpen]
@[simp] theorem State.chanClose_otp (s : State) (ch : Nat) : (State.chanClose s ch).otp = s.otp := by
  simp -implicitDefEqProofs [State.chanClose]
@[simp] theorem State.abortReads_otp (s : State) (d : Nat) : (State.abortReads s d).otp = s.otp := by
  unfold State.abortReads
  (repeat' (first | with_reducible rfl | intro _ | with_reducible apply ite_otp | split | (simp -implicitDefEqProofs; done) | refine (each_otp _ _ _ ?_).trans ?_ | refine (foldl_otp _ _ _ ?_).trans ?_ | refine (when_otp _ _ _ ?_).trans ?_ | refine (foldl1_otp _ _ _ ?_).trans ?_ | simp -implicitDefEqProofs))
@[simp] theorem State.applyComplete_otp (s : State) (j : UpdJob) (c : Code) : (State.applyComplete s j c).otp = s.otp := by
  simp [State.applyComplete]
  (repeat' split) <;> simp_all
@[simp] theorem State.updEnd_otp (s : State) (c : Code) : (State.updEnd s c).otp = s.otp := by
  unfold State.updEnd
  (repeat' split) <;> simp -implicitDefEqProofs
@[simp] theorem State.swapEnd_otp (s : State) (d : Nat) (c : Code) : (State.swapEnd s d c).otp = s.otp := by
  unfold State.swapEnd
  (repeat' split) <;> simp -implicitDefEqProofs
@[simp] theorem State.setDom_otp (s : State) (d st : Nat) : (State.setDom s d st).otp = s.otp := by
  unfold State.setDom
  (repeat' (first | with_reducible rfl | intro _ | with_reducible apply ite_otp | split | (simp -implicitDefEqProofs; done) | refine (each_otp _ _ _ ?_).trans ?_ | refine (foldl_otp _ _ _ ?_).trans ?_ | refine (when_otp _ _ _ ?_).trans ?_ | refine (foldl1_otp _ _ _ ?_).trans ?_ | refine (foldl2_otp _ _ _ ?_).trans ?_ | simp -implicitDefEqProofs))
@[simp] theorem State.recoverDom_otp (s : State) (d : Nat) : (State.recoverDom s d).otp = s.otp := by
  unfold State.recoverDom
  (repeat' split) <;> simp
@[simp] theorem State.parkDom_otp (s : State) (d code : Nat) : (State.parkDom s d code).otp = s.otp := by
  simp [State.parkDom]
  (repeat' split) <;> simp_all
@[simp] theorem State.verifyFail_otp (s : State) (d check region : Nat) (node : Bool) (index code : Nat) : (State.verifyFail s d check region node index code).otp = s.otp := by
  simp -implicitDefEqProofs [State.verifyFail]
@[simp] theorem State.burstStatus_otp (s : State) (d r c : Nat) : (State.burstStatus s d r c).otp = s.otp := by
  simp [State.burstStatus]
  (repeat' split) <;> simp_all
@[simp] theorem State.rereadOk_otp (s : State) (d r : Nat) : (State.rereadOk s d r).otp = s.otp := by
  simp [State.rereadOk]
@[simp] theorem State.settleEntry_otp (s : State) (e l : Nat) (h : List Byte) : (State.settleEntry s e l h).otp = s.otp := by
  simp [State.settleEntry]
  (repeat' split) <;> simp_all
@[simp] theorem State.adoptEntries_otp (s : State) (d : Nat) : (State.adoptEntries s d).otp = s.otp := by
  unfold State.adoptEntries
  dsimp only
  (repeat' split) <;> simp (disch := (intros; (repeat' split) <;> simp))
@[simp] theorem State.makeExt_otp (s : State) (d tree base : Nat) (p : Region × Nat) : (State.makeExt s d tree base p).otp = s.otp := by
  simp [State.makeExt]
  (repeat' split) <;> simp_all
@[simp] theorem State.acceptMan_otp (s : State) (d : Nat) (m : Manifest) : (State.acceptMan s d m).otp = s.otp := by
  simp [State.acceptMan]
  (repeat' split) <;> simp_all
@[simp] theorem State.deliverManifest_otp (s : State) (d : Nat) (l : Load) (m : Manifest) : (State.deliverManifest s d l m).otp = s.otp := by
  simp [State.deliverManifest]
@[simp] theorem State.loaderEnd_otp (s : State) (op d : Nat) (c : Code) : (State.loaderEnd s op d c).otp = s.otp := by
  simp [State.loaderEnd]
  (repeat' split) <;> simp_all
@[simp] theorem State.freeBuf_otp (s : State) : (State.freeBuf s).otp = s.otp := by
  simp [State.freeBuf]
@[simp] theorem State.clearTries_otp (s : State) (k : Nat) : (State.clearTries s k).otp = s.otp := by
  simp [State.clearTries]
@[simp] theorem State.setTries_otp (s : State) (k n : Nat) : (State.setTries s k n).otp = s.otp := by
  simp [State.setTries]
@[simp] theorem State.switchStart_otp (s : State) : (State.switchStart s).otp = s.otp := by
  unfold State.switchStart
  (repeat' split) <;> simp
@[simp] theorem State.seqNext_otp (s : State) : (State.seqNext s).otp = s.otp := by
  simp [State.seqNext]
@[simp] theorem State.setDevX_otp (s : State) (d : Nat) (x : DevX) : (State.setDevX s d x).otp = s.otp := by
  simp [State.setDevX]
@[simp] theorem State.showDev_otp (s : State) (d : Nat) : (State.showDev s d).otp = s.otp := by
  simp [State.showDev]
  (repeat' split) <;> simp_all
@[simp] theorem State.queuePhys_otp (s : State) (w : Wt) : (State.queuePhys s w).otp = s.otp := by
  simp [State.queuePhys]
@[simp] theorem State.openEntry_otp (s : State) (e l seq : Nat) : (State.openEntry s e l seq).otp = s.otp := by
  simp [State.openEntry]
@[simp] theorem State.ledgerCheck_otp (s : State) : (State.ledgerCheck s).otp = s.otp := by
  unfold State.ledgerCheck
  (repeat' split) <;> simp
@[simp] theorem State.wtStore_otp (s : State) (w : Wt) : (State.wtStore s w).otp = s.otp := by
  unfold State.wtStore
  (repeat' (first | with_reducible rfl | intro _ | with_reducible apply ite_otp | split | (simp -implicitDefEqProofs; done) | refine (each_otp _ _ _ ?_).trans ?_ | refine (foldl_otp _ _ _ ?_).trans ?_ | refine (when_otp _ _ _ ?_).trans ?_ | refine (foldl1_otp _ _ _ ?_).trans ?_ | simp -implicitDefEqProofs))
@[simp] theorem State.needRefetchFor_otp (s : State) (e l : Nat) (hot : List Nat) : (State.needRefetchFor s e l hot).otp = s.otp := by
  unfold State.needRefetchFor
  (repeat' split) <;> simp
@[simp] theorem State.needRefetch_otp (s : State) (e l : Nat) : (State.needRefetch s e l).otp = s.otp := by
  unfold State.needRefetch
  (repeat' (first | with_reducible rfl | intro _ | with_reducible apply ite_otp | split | (simp -implicitDefEqProofs; done) | refine (each_otp _ _ _ ?_).trans ?_ | refine (foldl_otp _ _ _ ?_).trans ?_ | refine (when_otp _ _ _ ?_).trans ?_ | refine (foldl1_otp _ _ _ ?_).trans ?_ | simp -implicitDefEqProofs))
@[simp] theorem State.wtStart_otp (s : State) (ch e kind off frame : Nat) (data : List Byte) (bad : List (Nat × Nat)) : (State.wtStart s ch e kind off frame data bad).2.otp = s.otp := by
  unfold State.wtStart
  (repeat' (first | with_reducible rfl | intro _ | with_reducible apply ite_otp | split | (simp -implicitDefEqProofs; done) | refine (each_otp _ _ _ ?_).trans ?_ | refine (foldl_otp _ _ _ ?_).trans ?_ | refine (when_otp _ _ _ ?_).trans ?_ | refine (foldl1_otp _ _ _ ?_).trans ?_ | simp -implicitDefEqProofs))
@[simp] theorem State.wtFailReg_otp (s : State) (dom code dev kind addr : Nat) : (State.wtFailReg s dom code dev kind addr).otp = s.otp := by
  simp [State.wtFailReg]
@[simp] theorem State.portFail_otp (s : State) (w : Wt) : (State.portFail s w).otp = s.otp := by
  simp [State.portFail]
@[simp] theorem State.modEntry_otp (s : State) (d r l : Nat) (g : LEnt → Option LEnt) : (State.modEntry s d r l g).otp = s.otp := by
  simp [State.modEntry]
  (repeat' split) <;> simp_all
@[simp] theorem State.closeEntries_otp (s : State) (w : Wt) : (State.closeEntries s w).otp = s.otp := by
  simp [State.closeEntries]
@[simp] theorem State.orangeryRefuse_otp (s : State) (op : Nat) (c : Code) : (State.orangeryRefuse s op c).otp = s.otp := by
  unfold State.orangeryRefuse
  (repeat' split) <;> simp
@[simp] theorem State.startCmd_otp (s : State) (c : OCmd) : (State.startCmd s c).otp = s.otp := by
  simp [State.startCmd]
@[simp] theorem State.stageFree_otp (s : State) (h : Nat) : (State.stageFree s h).otp = s.otp := by
  unfold State.stageFree
  (repeat' split) <;> simp
@[simp] theorem State.revokeDom_otp (s : State) (d : Nat) : (State.revokeDom s d).otp = s.otp := by
  unfold State.revokeDom
  dsimp only
  (repeat' split) <;> simp (disch := (intros; (repeat' split) <;> simp))
@[simp] theorem State.orangeryEnd_otp (s : State) (c : OCmd) (code : Code) : (State.orangeryEnd s c code).otp = s.otp := by
  simp [State.orangeryEnd]
  (repeat' split) <;> simp_all
@[simp] theorem State.refetchEspi_otp (s : State) (e l : Nat) (ok : Bool) : (State.refetchEspi s e l ok).otp = s.otp := by
  unfold State.refetchEspi
  (repeat' split) <;> simp
@[simp] theorem State.releaseHeld_otp (s : State) : (State.releaseHeld s).otp = s.otp := by
  unfold State.releaseHeld
  (repeat' (first | with_reducible rfl | intro _ | with_reducible apply ite_otp | split | (simp -implicitDefEqProofs; done) | refine (each_otp _ _ _ ?_).trans ?_ | refine (foldl_otp _ _ _ ?_).trans ?_ | refine (when_otp _ _ _ ?_).trans ?_ | refine (foldl1_otp _ _ _ ?_).trans ?_ | simp -implicitDefEqProofs))
@[simp] theorem State.leafJudged_otp (s : State) (e l : Nat) (ok : Bool) : (State.leafJudged s e l ok).otp = s.otp := by
  simp [State.leafJudged]
@[simp] theorem State.leafGone_otp (s : State) (e l : Nat) : (State.leafGone s e l).otp = s.otp := by
  simp [State.leafGone]
@[simp] theorem State.afterWt_otp (s : State) (w : Wt) (ok : Bool) : (State.afterWt s w ok).otp = s.otp := by
  unfold State.afterWt
  (repeat' split) <;> simp
@[simp] theorem State.rereadDone_otp (s : State) (want : List (List Byte)) (d : Nat) (data again : List Byte) : (State.rereadDone s want d data again).otp = s.otp := by
  unfold State.rereadDone
  (repeat' split) <;> simp
@[simp] theorem State.refetched_otp (s : State) (e l : Nat) (refill : Bool) : (State.refetched s e l refill).otp = s.otp := by
  unfold State.refetched
  (repeat' split) <;> simp
@[simp] theorem State.judgeLeaf_otp (s : State) (e l : Nat) (data again : List Byte) : (State.judgeLeaf s e l data again).otp = s.otp := by
  unfold State.judgeLeaf
  (repeat' (first | with_reducible rfl | intro _ | with_reducible apply ite_otp | split | (simp -implicitDefEqProofs; done) | refine (each_otp _ _ _ ?_).trans ?_ | refine (foldl_otp _ _ _ ?_).trans ?_ | refine (when_otp _ _ _ ?_).trans ?_ | refine (foldl1_otp _ _ _ ?_).trans ?_ | simp -implicitDefEqProofs))
@[simp] theorem State.ledgerWrote_otp (s : State) (bs : List Byte) : (State.ledgerWrote s bs).otp = s.otp := by
  simp [State.ledgerWrote]
@[simp] theorem State.writeEntryOk_otp (s : State) : (State.writeEntryOk s).otp = s.otp := by
  unfold State.writeEntryOk
  (repeat' (first | with_reducible rfl | intro _ | with_reducible apply ite_otp | split | (simp -implicitDefEqProofs; done) | refine (each_otp _ _ _ ?_).trans ?_ | refine (foldl_otp _ _ _ ?_).trans ?_ | refine (when_otp _ _ _ ?_).trans ?_ | refine (foldl1_otp _ _ _ ?_).trans ?_ | simp -implicitDefEqProofs))
@[simp] theorem State.ledgerLost_otp (s : State) : (State.ledgerLost s).otp = s.otp := by
  simp [State.ledgerLost]
@[simp] theorem State.undoEntry_otp (s : State) (w : Wt) (l : Nat) : (State.undoEntry s w l).otp = s.otp := by
  simp [State.undoEntry]
  (repeat' split) <;> simp_all
@[simp] theorem State.writeEntryFail_otp (s : State) (code : Nat) : (State.writeEntryFail s code).otp = s.otp := by
  unfold State.writeEntryFail
  (repeat' (first | with_reducible rfl | intro _ | with_reducible apply ite_otp | split | (simp -implicitDefEqProofs; done) | refine (each_otp _ _ _ ?_).trans ?_ | refine (foldl_otp _ _ _ ?_).trans ?_ | refine (when_otp _ _ _ ?_).trans ?_ | refine (foldl1_otp _ _ _ ?_).trans ?_ | simp -implicitDefEqProofs))
@[simp] theorem State.headOk_otp (s : State) : (State.headOk s).otp = s.otp := by
  simp [State.headOk]
@[simp] theorem State.ledgerFresh_otp (s : State) (erase : Bool) : (State.ledgerFresh s erase).otp = s.otp := by
  simp [State.ledgerFresh]
@[simp] theorem State.ledgerAlso_otp (s : State) (bs : List Byte) : (State.ledgerAlso s bs).otp = s.otp := by
  simp [State.ledgerAlso]
  (repeat' split) <;> simp_all
@[simp] theorem State.ledgerFinish_otp (s : State) (ents : List LEnt) : (State.ledgerFinish s ents).otp = s.otp := by
  simp [State.ledgerFinish]
@[simp] theorem State.ledgerReplay_otp (s : State) (h0 h1 : List Byte) : (State.ledgerReplay s h0 h1).otp = s.otp := by
  unfold State.ledgerReplay
  (repeat' (first | with_reducible rfl | intro _ | with_reducible apply ite_otp | split | (simp -implicitDefEqProofs; done) | refine (each_otp _ _ _ ?_).trans ?_ | refine (foldl_otp _ _ _ ?_).trans ?_ | refine (when_otp _ _ _ ?_).trans ?_ | refine (foldl1_otp _ _ _ ?_).trans ?_ | simp -implicitDefEqProofs))
@[simp] theorem State.rvAdvance_otp (s : State) (d r l : Nat) : (State.rvAdvance s d r l).otp = s.otp := by
  unfold State.rvAdvance
  (repeat' split) <;> simp
@[simp] theorem State.mirrorLeaf_otp (s : State) (x e l : Nat) : (State.mirrorLeaf s x e l).otp = s.otp := by
  unfold State.mirrorLeaf
  (repeat' (first | with_reducible rfl | intro _ | with_reducible apply ite_otp | split | (simp -implicitDefEqProofs; done) | refine (each_otp _ _ _ ?_).trans ?_ | refine (foldl_otp _ _ _ ?_).trans ?_ | refine (when_otp _ _ _ ?_).trans ?_ | refine (foldl1_otp _ _ _ ?_).trans ?_ | simp -implicitDefEqProofs))
@[simp] theorem State.trellisRefuse_otp (s : State) (ch op : Nat) (c : Code) : (State.trellisRefuse s ch op c).otp = s.otp := by
  unfold State.trellisRefuse
  (repeat' split) <;> simp
@[simp] theorem State.gateEnd_otp (s : State) (op d : Nat) (c : Code) : (State.gateEnd s op d c).otp = s.otp := by
  unfold State.gateEnd
  (repeat' split) <;> simp
@[simp] theorem State.setBox_otp (s : State) (tn : Nat) (b : Box) : (State.setBox s tn b).otp = s.otp := by
  simp [State.setBox]
@[simp] theorem State.unboundAccess_otp (s : State) (tn : Nat) : (State.unboundAccess s tn).otp = s.otp := by
  simp [State.unboundAccess]
  (repeat' split) <;> simp_all
@[simp] theorem State.takeToken_otp (s : State) (tn : Nat) : (State.takeToken s tn).otp = s.otp := by
  simp [State.takeToken]
  (repeat' split) <;> simp_all
@[simp] theorem State.tenantIrq_otp (s : State) (tn : Nat) : (State.tenantIrq s tn).otp = s.otp := by
  unfold State.tenantIrq
  (repeat' split) <;> simp
@[simp] theorem State.mailClean_otp (s : State) (tn off : Nat) : (State.mailClean s tn off).otp = s.otp := by
  simp [State.mailClean]
@[simp] theorem State.placeReply_otp (s : State) (tn : Nat) : (State.placeReply s tn).otp = s.otp := by
  simp [State.placeReply]
  (repeat' split) <;> simp_all
@[simp] theorem State.showPending_otp (s : State) : (State.showPending s).otp = s.otp := by
  simp [State.showPending]
@[simp] theorem State.answer_otp (s : State) (tn word : Nat) : (State.answer s tn word).otp = s.otp := by
  simp [State.answer]
  (repeat' split) <;> simp_all
@[simp] theorem State.stateData_otp (s : State) (dom : Nat) : (State.stateData s dom).2.otp = s.otp := by
  simp [State.stateData]
  (repeat' split) <;> simp_all
@[simp] theorem State.dbOut_otp (s : State) (tn new : Nat) : (State.dbOut s tn new).otp = s.otp := by
  simp [State.dbOut]
@[simp] theorem State.answerTaken_otp (s : State) (c : Code) : (State.answerTaken s c).otp = s.otp := by
  simp [State.answerTaken]
@[simp] theorem State.loseStandby_otp (s : State) : (State.loseStandby s).otp = s.otp := by
  simp [State.loseStandby]
@[simp] theorem State.failover_otp (s : State) : (State.failover s).otp = s.otp := by
  simp [State.failover]
@[simp] theorem State.trellisRestart_otp (s : State) (ch : Nat) : (State.trellisRestart s ch).otp = s.otp := by
  unfold State.trellisRestart
  (repeat' split) <;> simp
@[simp] theorem State.setMacro_otp (s : State) (m : Nat) (x : SramBlk) : (State.setMacro s m x).otp = s.otp := by
  simp [State.setMacro]
@[simp] theorem State.memBump_otp (s : State) (lo hi : Nat) : (State.memBump s lo hi).otp = s.otp := by
  simp [State.memBump]
@[simp] theorem State.bucketUp_otp (s : State) (c : Nat) : (State.bucketUp s c).otp = s.otp := by
  simp [State.bucketUp]
  (repeat' split) <;> simp_all
@[simp] theorem State.lastErr_otp (s : State) (kind cls mid bit row word : Nat) : (State.lastErr s kind cls mid bit row word).otp = s.otp := by
  simp [State.lastErr]
@[simp] theorem State.sweepErr_otp (s : State) (c : Nat) : (State.sweepErr s c).otp = s.otp := by
  simp [State.sweepErr]
@[simp] theorem State.corrected_otp (s : State) (cls mid bit row word : Nat) : (State.corrected s cls mid bit row word).otp = s.otp := by
  simp [State.corrected]
@[simp] theorem State.uncorrectable_otp (s : State) (cls mid row word : Nat) : (State.uncorrectable s cls mid row word).otp = s.otp := by
  simp [State.uncorrectable]
@[simp] theorem State.macFailure_otp (s : State) : (State.macFailure s).otp = s.otp := by
  simp [State.macFailure]
@[simp] theorem State.showSpares_otp (s : State) : (State.showSpares s).otp = s.otp := by
  simp [State.showSpares]
@[simp] theorem State.retireRow_otp (s : State) (mid row : Nat) : (State.retireRow s mid row).otp = s.otp := by
  simp [State.retireRow]
  (repeat' split) <;> simp_all
@[simp] theorem State.rowHit_otp (s : State) (cls mid row : Nat) : (State.rowHit s cls mid row).otp = s.otp := by
  simp [State.rowHit]
  (repeat' split) <;> simp_all
@[simp] theorem State.endReset_otp (s : State) (testen : Bool) : (State.endReset s testen).otp = s.otp := by
  unfold State.endReset
  (repeat' split) <;> simp
@[simp] theorem State.modMt_otp (s : State) (f : Mtrans → Mtrans) : (State.modMt s f).otp = s.otp := by
  simp [State.modMt]
@[simp] theorem State.unknownSrc_otp (s : State) (port : Nat) : (State.unknownSrc s port).otp = s.otp := by
  simp [State.unknownSrc]
  (repeat' split) <;> simp_all
@[simp] theorem State.setOutcome_otp (s : State) (tn typ cmd : Nat) (c : Code) (retry : Nat) : (State.setOutcome s tn typ cmd c retry).otp = s.otp := by
  simp [State.setOutcome]
@[simp] theorem State.respond_otp (s : State) (tn typ cmd : Nat) (c : Code) (data : List Byte := []) : (State.respond s tn typ cmd c data).otp = s.otp := by
  simp [State.respond]
  (repeat' split) <;> simp_all
@[simp] theorem State.showCtx_otp (s : State) : (State.showCtx s).otp = s.otp := by
  simp [State.showCtx]
@[simp] theorem State.dropCtx_otp (s : State) (c : Ctx) : (State.dropCtx s c).otp = s.otp := by
  simp [State.dropCtx]
@[simp] theorem State.useNonce_otp (s : State) (tn : Nat) : (State.useNonce s tn).otp = s.otp := by
  simp [State.useNonce]
@[simp] theorem State.modJnl_otp (s : State) (f : Jnl → Jnl) : (State.modJnl s f).otp = s.otp := by
  simp [State.modJnl]
@[simp] theorem State.showOldest_otp (s : State) : (State.showOldest s).otp = s.otp := by
  simp [State.showOldest]
@[simp] theorem State.jStart_otp (s : State) : (State.jStart s).otp = s.otp := by
  simp [State.jStart]
@[simp] theorem State.lcLatch_otp (s : State) : (State.lcLatch s).otp = s.otp := by
  simp [State.lcLatch]
@[simp] theorem State.applyRepair_otp (s : State) (w : Nat) : (State.applyRepair s w).otp = s.otp := by
  simp [State.applyRepair]
  (repeat' split) <;> simp_all
@[simp] theorem State.tokenCheck_otp (s : State) : (State.tokenCheck s).otp = s.otp := by
  simp [State.tokenCheck]
  (repeat' split) <;> simp_all
@[simp] theorem State.layer0_otp (s : State) : (State.layer0 s).otp = s.otp := by
  unfold State.layer0
  (repeat' split) <;> simp
@[simp] theorem State.wdtStart_otp (s : State) : (State.wdtStart s).otp = s.otp := by
  unfold State.wdtStart
  (repeat' split) <;> simp
@[simp] theorem State.firstHandover_otp (s : State) : (State.firstHandover s).otp = s.otp := by
  simp [State.firstHandover]
@[simp] theorem State.lodgeEvent_otp (s : State) (source rule action value : Nat) : (State.lodgeEvent s source rule action value).otp = s.otp := by
  simp [State.lodgeEvent]
@[simp] theorem State.setWindow_otp (s : State) (r : Nat) (w : List Bool) : (State.setWindow s r w).otp = s.otp := by
  simp [State.setWindow]
@[simp] theorem State.ruleSample_otp (s : State) (r : Nat) (e : LRule) (one : Bool) : (State.ruleSample s r e one).otp = s.otp := by
  simp [State.ruleSample]
@[simp] theorem State.setPair_otp (s : State) (p v : Nat) : (State.setPair s p v).otp = s.otp := by
  simp [State.setPair]
@[simp] theorem State.showMesh_otp (s : State) : (State.showMesh s).otp = s.otp := by
  simp [State.showMesh]
@[simp] theorem State.meshSample_otp (s : State) (one both : Nat) : (State.meshSample s one both).2.otp = s.otp := by
  simp [State.meshSample]
  (repeat' split) <;> simp_all
@[simp] theorem State.lodgeEnd_otp (s : State) (op : Nat) (c : Code) (result : Nat) : (State.lodgeEnd s op c result).otp = s.otp := by
  unfold State.lodgeEnd
  (repeat' split) <;> simp
@[simp] theorem State.lastDec_otp (s : State) (ch opcode cls act region : Nat) : (State.lastDec s ch opcode cls act region).otp = s.otp := by
  simp [State.lastDec]
@[simp] theorem State.planeMacFail_otp (s : State) (x : Nat) : (State.planeMacFail s x).otp = s.otp := by
  unfold State.planeMacFail
  (repeat' (first | with_reducible rfl | intro _ | with_reducible apply ite_otp | split | (simp -implicitDefEqProofs; done) | refine (each_otp _ _ _ ?_).trans ?_ | refine (foldl_otp _ _ _ ?_).trans ?_ | refine (when_otp _ _ _ ?_).trans ?_ | refine (foldl1_otp _ _ _ ?_).trans ?_ | simp -implicitDefEqProofs))
@[simp] theorem State.hotRefill_otp (s : State) (x e off : Nat) : (State.hotRefill s x e off).otp = s.otp := by
  simp [State.hotRefill]
@[simp] theorem State.hotUe_otp (s : State) (x e off : Nat) : (State.hotUe s x e off).otp = s.otp := by
  simp [State.hotUe]
  (repeat' split) <;> simp_all
@[simp] theorem State.repairLine_otp (s : State) (x e off : Nat) (hot : Bool) (o : LineObs) : (State.repairLine s x e off hot o).otp = s.otp := by
  simp [State.repairLine]
  (repeat' split) <;> simp_all
@[simp] theorem State.failLine_otp (s : State) (xs : List Nat) (e off : Nat) (hot : Bool) (o : LineObs) : (State.failLine s xs e off hot o).otp = s.otp := by
  unfold State.failLine
  (repeat' (first | with_reducible rfl | intro _ | with_reducible apply ite_otp | split | (simp -implicitDefEqProofs; done) | refine (each_otp _ _ _ ?_).trans ?_ | refine (foldl_otp _ _ _ ?_).trans ?_ | refine (when_otp _ _ _ ?_).trans ?_ | refine (foldl1_otp _ _ _ ?_).trans ?_ | simp -implicitDefEqProofs))
@[simp] theorem State.disagree_otp (s : State) (ch e off : Nat) : (State.disagree s ch e off).otp = s.otp := by
  simp [State.disagree]
@[simp] theorem State.inTime_otp (s : State) (o : LineObs) : (State.inTime s o).otp = s.otp := by
  simp [State.inTime]
@[simp] theorem State.deny_otp (s : State) (ch : Nat) (count : Bool) : (State.deny s ch count).otp = s.otp := by
  unfold State.deny
  (repeat' split) <;> simp
@[simp] theorem State.alertIf_otp (s : State) (ch : Nat) (b : Bool) : (State.alertIf s ch b).otp = s.otp := by
  unfold State.alertIf
  (repeat' split) <;> simp
@[simp] theorem State.decideMismatch_otp (s : State) (ch : Nat) : (State.decideMismatch s ch).otp = s.otp := by
  simp [State.decideMismatch]
@[simp] theorem State.denyWrite_otp (s : State) (ch kind : Nat) (al : Bool) (cause : Nat) : (State.denyWrite s ch kind al cause).otp = s.otp := by
  unfold State.denyWrite
  (repeat' split) <;> simp
@[simp] theorem State.startOp_otp (s : State) (ch kind lo len : Nat) (tag : Option Nat) (wt : List Nat) (silent : Bool) (cap : Bool := false) : (State.startOp s ch kind lo len tag wt silent cap).otp = s.otp := by
  unfold State.startOp
  (repeat' split) <;> simp
@[simp] theorem State.capsuleRefuse_otp (s : State) (ch kind cause : Nat) : (State.capsuleRefuse s ch kind cause).otp = s.otp := by
  simp [State.capsuleRefuse]
@[simp] theorem State.setPlaneSt_otp (s : State) (x st : Nat) : (State.setPlaneSt s x st).otp = s.otp := by
  simp [State.setPlaneSt]
@[simp] theorem State.noPlane_otp (s : State) : (State.noPlane s).otp = s.otp := by
  unfold State.noPlane
  (repeat' split) <;> simp
@[simp] theorem State.isolate_otp (s : State) (x : Nat) : (State.isolate s x).otp = s.otp := by
  simp [State.isolate]
  (repeat' split) <;> simp_all
@[simp] theorem State.lockViol_otp (s : State) (a : Nat) : (State.lockViol s a).otp = s.otp := by
  unfold State.lockViol
  (repeat' split) <;> simp
@[simp] theorem State.regWrite_otp (s : State) (a w : Nat) : (State.regWrite s a w).otp = s.otp := by
  simp [State.regWrite]
  (repeat' split) <;> simp_all
@[simp] theorem State.memRefuse_otp (s : State) (op : Nat) (c : Code) (result : Nat := 0) : (State.memRefuse s op c result).otp = s.otp := by
  unfold State.memRefuse
  (repeat' split) <;> simp
@[simp] theorem State.initClass_otp (s : State) (c : Nat) : (State.initClass s c).otp = s.otp := by
  simp [State.initClass]
@[simp] theorem State.damageCopy_otp (s : State) (row word : Nat) : (State.damageCopy s row word).otp = s.otp := by
  simp [State.damageCopy]
  (repeat' split) <;> simp_all
@[simp] theorem State.poisonOp_otp (s : State) (e : Nat) : (State.poisonOp s e).otp = s.otp := by
  unfold State.poisonOp
  (repeat' split) <;> simp
@[simp] theorem State.hotBad_otp (s : State) (x mid row word : Nat) : (State.hotBad s x mid row word).otp = s.otp := by
  simp [State.hotBad]
  (repeat' split) <;> simp_all
@[simp] theorem State.classOutcome_otp (s : State) (cls mid row word : Nat) : (State.classOutcome s cls mid row word).otp = s.otp := by
  unfold State.classOutcome
  (repeat' (first | with_reducible rfl | intro _ | with_reducible apply ite_otp | split | (simp -implicitDefEqProofs; done) | refine (each_otp _ _ _ ?_).trans ?_ | refine (foldl_otp _ _ _ ?_).trans ?_ | refine (when_otp _ _ _ ?_).trans ?_ | refine (foldl1_otp _ _ _ ?_).trans ?_ | simp -implicitDefEqProofs))
@[simp] theorem State.scrubMirror_otp (s : State) (failA failB : Bool) : (State.scrubMirror s failA failB).1.otp = s.otp := by
  simp [State.scrubMirror]
@[simp] theorem State.scrubStage_otp (s : State) (h : Nat) (failA failB : Bool) : (State.scrubStage s h failA failB).otp = s.otp := by
  have k : (s.scrubMirror failA failB).1.otp = s.otp := State.scrubMirror_otp _ _ _
  unfold State.scrubStage
  split
  · rfl
  · split <;> (rename_i e; rw [e] at k; first | exact k | exact (State.setStage_otp _ _ _).trans k)
@[simp] theorem State.setPeriod_otp (s : State) (c : Nat) (e : Bound) (p : Nat) : (State.setPeriod s c e p).otp = s.otp := by
  simp [State.setPeriod]
  (repeat' split) <;> simp_all
@[simp] theorem State.leakRows_otp (s : State) (c : Nat) : (State.leakRows s c).otp = s.otp := by
  simp [State.leakRows]
@[simp] theorem State.romHalt_otp (s : State) : (State.romHalt s).otp = s.otp := by
  simp [State.romHalt]
@[simp] theorem State.checkerFail_otp (s : State) : (State.checkerFail s).otp = s.otp := by
  simp [State.checkerFail]
@[simp] theorem State.flipTest_otp (s : State) (cls : Nat) (sound : Bool) : (State.flipTest s cls sound).otp = s.otp := by
  simp [State.flipTest]
  (repeat' split) <;> simp_all
@[simp] theorem State.checkerTest_otp (s : State) (bad : List Nat) (again : Bool) : (State.checkerTest s bad again).otp = s.otp := by
  simp [State.checkerTest]
  (repeat' split) <;> simp_all
@[simp] theorem State.testStart_otp (s : State) : (State.testStart s).otp = s.otp := by
  simp [State.testStart]
@[simp] theorem State.copyPass_otp (s : State) (copy : Nat) (img : CopyImage) : (State.copyPass s copy img).otp = s.otp := by
  simp [State.copyPass]
@[simp] theorem State.trainEnd_otp (s : State) : (State.trainEnd s).otp = s.otp := by
  simp [State.trainEnd]
  (repeat' split) <;> simp_all
@[simp] theorem State.trainOne_otp (s : State) (i r cap : Nat) : (State.trainOne s i r cap).otp = s.otp := by
  unfold State.trainOne
  dsimp only
  (repeat' split) <;> simp -implicitDefEqProofs
@[simp] theorem State.assemblyDefaults_otp (s : State) : (State.assemblyDefaults s).otp = s.otp := by
  unfold State.assemblyDefaults
  dsimp only
  (repeat' split) <;> simp (disch := (intros; (repeat' split) <;> simp))
@[simp] theorem State.startTests_otp (s : State) (badLanes : List Nat) (badFe : List (Nat × Nat)) : (State.startTests s badLanes badFe).otp = s.otp := by
  unfold State.startTests
  (repeat' (first | with_reducible rfl | intro _ | with_reducible apply ite_otp | (simp -implicitDefEqProofs; done) | refine (each_otp _ _ _ ?_).trans ?_ | refine (foldl_otp _ _ _ ?_).trans ?_ | split))
@[simp] theorem State.planesServe_otp (s : State) : (State.planesServe s).otp = s.otp := by
  simp [State.planesServe]
@[simp] theorem State.applyBanks_otp (s : State) (l : List Nat) : (State.applyBanks s l).otp = s.otp := by
  simp [State.applyBanks]
@[simp] theorem State.markHeld_otp (s : State) : (State.markHeld s).otp = s.otp := by
  unfold State.markHeld
  (repeat' (first | with_reducible rfl | intro _ | with_reducible apply ite_otp | split | (simp -implicitDefEqProofs; done) | refine (each_otp _ _ _ ?_).trans ?_ | refine (foldl_otp _ _ _ ?_).trans ?_ | refine (when_otp _ _ _ ?_).trans ?_ | refine (foldl1_otp _ _ _ ?_).trans ?_ | refine (foldl2_otp _ _ _ ?_).trans ?_ | simp -implicitDefEqProofs))
@[simp] theorem State.engEnd_otp (s : State) (b e : Nat) (c : Code) (ms : Nat) : (State.engEnd s b e c ms).otp = s.otp := by
  simp [State.engEnd]
@[simp] theorem State.engFinish_otp (s : State) (e : Nat) (o : EngOp) (c : Code) (out : List Byte) : (State.engFinish s e o c out).otp = s.otp := by
  simp [State.engFinish]
  (repeat' split) <;> simp_all
@[simp] theorem State.fbusRefuse_otp (s : State) (op : Nat) (c : Code) : (State.fbusRefuse s op c).otp = s.otp := by
  unfold State.fbusRefuse
  (repeat' split) <;> simp
@[simp] theorem State.showFbus_otp (s : State) : (State.showFbus s).otp = s.otp := by
  simp [State.showFbus]
@[simp] theorem State.devFail_otp (s : State) (d : Nat) (c : Code) : (State.devFail s d c).otp = s.otp := by
  simp [State.devFail]
@[simp] theorem State.discoverDev_otp (s : State) (i : Nat) (d : FbDev) (o : Option DevObs) : (State.discoverDev s i d o).otp = s.otp := by
  simp [State.discoverDev]
  (repeat' split) <;> simp_all
@[simp] theorem State.assess_otp (s : State) (p : FbPart → Bool) : (State.assess s p).otp = s.otp := by
  unfold State.assess
  dsimp only
  (repeat' split) <;> simp (disch := (intros; (repeat' split) <;> simp))
@[simp] theorem State.devLost_otp (s : State) (d : Nat) (c : Code) : (State.devLost s d c).otp = s.otp := by
  simp [State.devLost]
@[simp] theorem State.trimClamp_otp (s : State) (b : Nat) : (State.trimClamp s b).otp = s.otp := by
  simp [State.trimClamp]
@[simp] theorem State.physPop_otp (s : State) (d : Nat) : (State.physPop s d).otp = s.otp := by
  simp [State.physPop]
@[simp] theorem State.stopFrame_otp (s : State) (w : Wt) : (State.stopFrame s w).otp = s.otp := by
  unfold State.stopFrame
  (repeat' (first | with_reducible rfl | intro _ | with_reducible apply ite_otp | split | (simp -implicitDefEqProofs; done) | refine (each_otp _ _ _ ?_).trans ?_ | refine (foldl_otp _ _ _ ?_).trans ?_ | refine (when_otp _ _ _ ?_).trans ?_ | refine (foldl1_otp _ _ _ ?_).trans ?_ | refine (foldl2_otp _ _ _ ?_).trans ?_ | simp -implicitDefEqProofs))
@[simp] theorem State.physFail_otp (s : State) (d : Nat) (w : Wt) (code : Code) (addr : Nat) : (State.physFail s d w code addr).otp = s.otp := by
  unfold State.physFail
  (repeat' (first | with_reducible rfl | intro _ | with_reducible apply ite_otp | split | (simp -implicitDefEqProofs; done) | refine (each_otp _ _ _ ?_).trans ?_ | refine (foldl_otp _ _ _ ?_).trans ?_ | refine (when_otp _ _ _ ?_).trans ?_ | refine (foldl1_otp _ _ _ ?_).trans ?_ | simp -implicitDefEqProofs))
@[simp] theorem State.recEntry_otp (s : State) (d r l : Nat) (nur : List Byte) : (State.recEntry s d r l nur).otp = s.otp := by
  unfold State.recEntry
  (repeat' (first | with_reducible rfl | intro _ | with_reducible apply ite_otp | split | (simp -implicitDefEqProofs; done) | refine (each_otp _ _ _ ?_).trans ?_ | refine (foldl_otp _ _ _ ?_).trans ?_ | refine (when_otp _ _ _ ?_).trans ?_ | refine (foldl1_otp _ _ _ ?_).trans ?_ | simp -implicitDefEqProofs))
@[simp] theorem State.shiftOut_otp (s : State) (ch : Nat) (bs : List Byte) : (State.shiftOut s ch bs).otp = s.otp := by
  unfold State.shiftOut
  (repeat' split) <;> simp
@[simp] theorem State.poisonFrame_otp (s : State) (ch cause : Nat) : (State.poisonFrame s ch cause).otp = s.otp := by
  simp [State.poisonFrame]
@[simp] theorem State.deliver_otp (s : State) (d : Dec) (f : Frame) (bs : List Byte) (poison : Option Nat) (noLine : Option Nat := none) : (State.deliver s d f bs poison noLine).otp = s.otp := by
  unfold State.deliver
  extract_lets p1 p2 due short late cut s1 s2 out
  have h1 : s1.otp = s.otp := ite_otp (State.decideMismatch_otp _ _) rfl
  have h2 : s2.otp = s.otp := ite_otp (by simp [h1]) (ite_otp (by simp [h1]) h1)
  exact (State.shiftOut_otp _ _ _).trans h2
@[simp] theorem State.contRead_otp (s : State) (d : Dec) (f : Frame) : (State.contRead s d f).otp = s.otp := by
  unfold State.contRead
  (repeat' split) <;> simp
@[simp] theorem State.ambiguous_otp (s : State) : (State.ambiguous s).otp = s.otp := by
  simp [State.ambiguous]
@[simp] theorem State.keyRefuse_otp (s : State) (op unit : Nat) (c : Code) (ms : Option Nat) (form : Bool := false) : (State.keyRefuse s op unit c ms form).otp = s.otp := by
  simp [State.keyRefuse]
  (repeat' split) <;> simp_all
@[simp] theorem State.keyOk_otp (s : State) (op src : Nat) : (State.keyOk s op src).otp = s.otp := by
  simp [State.keyOk]
@[simp] theorem State.keyStart_otp (s : State) (op dst src : Nat) (need : Nat) (rewrite : Bool) (lookup : Bool := false) : (State.keyStart s op dst src need rewrite lookup).otp = s.otp := by
  simp [State.keyStart]
  (repeat' split) <;> simp_all
@[simp] theorem State.lcsDecided_otp (s : State) (target : Nat) (c : Code) : (State.lcsDecided s target c).otp = s.otp := by
  simp [State.lcsDecided]
@[simp] theorem State.lcsArm_otp (s : State) (word : Nat) : (State.lcsArm s word).otp = s.otp := by
  unfold State.lcsArm
  (repeat' split) <;> simp
@[simp] theorem State.haltBv_otp (s : State) : (State.haltBv s).otp = s.otp := by
  simp [State.haltBv]
@[simp] theorem State.setConn_otp (s : State) (tn : Nat) (c : Conn) : (State.setConn s tn c).otp = s.otp := by
  simp [State.setConn]
@[simp] theorem State.putSess_otp (s : State) (q : Sess) : (State.putSess s q).otp = s.otp := by
  simp [State.putSess]
@[simp] theorem State.endSess_otp (s : State) (id : Nat) : (State.endSess s id).otp = s.otp := by
  simp [State.endSess]
@[simp] theorem State.lostSession_otp (s : State) : (State.lostSession s).otp = s.otp := by
  simp [State.lostSession]
@[simp] theorem State.stranger_otp (s : State) (o : Origin) (typ cmd : Nat) : (State.stranger s o typ cmd).otp = s.otp := by
  unfold State.stranger
  (repeat' split) <;> simp
theorem State.request_otp (s : State) (o : Origin) (typ cmd : Nat) (inLockdown : Bool) (perm : Tbe → Bool) (f : Tbe → State → State)
    (update bad : Bool) (h : ∀ t s, (f t s).otp = s.otp) : (s.request o typ cmd inLockdown perm f update bad).otp = s.otp := by
  unfold State.request
  refine ite_otp (h _ _) ?_
  split
  · simp
  · split
    · simp
    · exact h _ _
theorem State.pldm_otp (s : State) (o : Origin) (cmd : Nat) (perm : Tbe → Bool) (f : Tbe → State → State) (bad : Bool) (h : ∀ t s, (f t s).otp = s.otp) :
    (s.pldm o cmd perm f bad).otp = s.otp := State.request_otp _ _ _ _ _ _ _ _ _ h
@[simp] theorem State.pldmRefuse_otp (s : State) (tn cmd : Nat) (c : Code) : (State.pldmRefuse s tn cmd c).otp = s.otp := by
  simp [State.pldmRefuse]
  (repeat' split) <;> simp_all
@[simp] theorem State.setSess_otp (s : State) (u : Option UpdSess) : (State.setSess s u).otp = s.otp := by
  simp [State.setSess]
@[simp] theorem State.updRefuse_otp (s : State) (op comp : Nat) (c : Code) : (State.updRefuse s op comp c).otp = s.otp := by
  unfold State.updRefuse
  (repeat' split) <;> simp
@[simp] theorem State.updJob_otp (s : State) (op comp handle : Nat) : (State.updJob s op comp handle).otp = s.otp := by
  simp [State.updJob]
@[simp] theorem State.pauseStart_otp (s : State) : (State.pauseStart s).otp = s.otp := by
  simp [State.pauseStart]
@[simp] theorem State.showBanks_otp (s : State) (banks : List Nat) : (State.showBanks s banks).otp = s.otp := by
  simp [State.showBanks]
@[simp] theorem State.powerOnClear_otp (s : State) : (State.powerOnClear s).otp = s.otp := by
  simp [State.powerOnClear]
@[simp] theorem State.bootCtlBad_otp (s : State) : (State.bootCtlBad s).otp = s.otp := by
  simp [State.bootCtlBad]
@[simp] theorem State.showClocks_otp (s : State) : (State.showClocks s).otp = s.otp := by
  simp [State.showClocks]
@[simp] theorem State.clockSwitch_otp (s : State) (p : Nat) : (State.clockSwitch s p).otp = s.otp := by
  simp [State.clockSwitch]
@[simp] theorem State.clockLost_otp (s : State) : (State.clockLost s).otp = s.otp := by
  simp [State.clockLost]
  (repeat' split) <;> simp_all
@[simp] theorem State.rebuild_otp (s : State) (x word : Nat) : (State.rebuild s x word).otp = s.otp := by
  unfold State.rebuild
  (repeat' split) <;> simp
@[simp] theorem State.setBankClass_otp (s : State) (i cls : Nat) : (State.setBankClass s i cls).otp = s.otp := by
  unfold State.setBankClass
  (repeat' split) <;> simp
@[simp] theorem State.setLate_otp (s : State) (x n : Nat) : (State.setLate s x n).otp = s.otp := by
  unfold State.setLate
  (repeat' split) <;> simp
@[simp] theorem State.espiReset_otp (s : State) (ch : Nat) : (State.espiReset s ch).otp = s.otp := by
  unfold State.espiReset
  (repeat' split) <;> simp
@[simp] theorem State.showEspi_otp (s : State) (ch : Nat) : (State.showEspi s ch).otp = s.otp := by
  simp [State.showEspi]
@[simp] theorem State.espiDefer_otp (s : State) (ch : Nat) (q : EspiReq) : (State.espiDefer s ch q).otp = s.otp := by
  simp [State.espiDefer]
@[simp] theorem State.modEspi_otp (s : State) (ch tag : Nat) (g : EspiReq → EspiReq) : (State.modEspi s ch tag g).otp = s.otp := by
  simp [State.modEspi]
@[simp] theorem State.espiFail_otp (s : State) (ch tag : Nat) : (State.espiFail s ch tag).otp = s.otp := by
  simp [State.espiFail]
@[simp] theorem State.espiPoison_otp (s : State) (ch : Nat) : (State.espiPoison s ch).otp = s.otp := by
  simp [State.espiPoison]
@[simp] theorem State.espiSignal_otp (s : State) (ch : Nat) : (State.espiSignal s ch).otp = s.otp := by
  simp [State.espiSignal]
  (repeat' split) <;> simp_all
@[simp] theorem State.sourceFail_otp (s : State) (src tst : Nat) : (State.sourceFail s src tst).otp = s.otp := by
  unfold State.sourceFail
  (repeat' (first | with_reducible rfl | intro _ | with_reducible apply ite_otp | split | (simp -implicitDefEqProofs; done) | refine (each_otp _ _ _ ?_).trans ?_ | refine (foldl_otp _ _ _ ?_).trans ?_ | refine (when_otp _ _ _ ?_).trans ?_ | refine (foldl1_otp _ _ _ ?_).trans ?_ | simp -implicitDefEqProofs))
@[simp] theorem State.rngEnd_otp (s : State) (op : Nat) (c : Code) : (State.rngEnd s op c).otp = s.otp := by
  unfold State.rngEnd
  (repeat' split) <;> simp
@[simp] theorem State.startTest_otp (s : State) (src : Nat) (pattern : Bool) : (State.startTest s src pattern).otp = s.otp := by
  unfold State.startTest
  (repeat' (first | with_reducible rfl | intro _ | with_reducible apply ite_otp | split | (simp -implicitDefEqProofs; done) | refine (each_otp _ _ _ ?_).trans ?_ | refine (foldl_otp _ _ _ ?_).trans ?_ | refine (when_otp _ _ _ ?_).trans ?_ | refine (foldl1_otp _ _ _ ?_).trans ?_ | simp -implicitDefEqProofs))
@[simp] theorem State.wdtPeriod_otp (s : State) (old : Nat) : (State.wdtPeriod s old).otp = s.otp := by
  simp [State.wdtPeriod]
@[simp] theorem State.withFetchWord_otp (s : State) (nbits w : Nat) : (State.withFetchWord s nbits w).otp = s.otp := by
  unfold State.withFetchWord
  (repeat' split) <;> simp
@[simp] theorem State.recWrite_otp (s : State) (g : RecRange) (a unit p : Nat) (nur : List Byte) : (State.recWrite s g a unit p nur).otp = s.otp := by
  simp [State.recWrite]
@[simp] theorem State.recEntries_otp (s : State) (d r p : Nat) (nur : List Byte) (bad : Option Nat) (n : Nat) (l : List Nat) :
    (s.recEntries d r p nur bad n l).1.otp = s.otp := by
  induction l generalizing s n with
  | nil => rfl
  | cons x l ih =>
    unfold State.recEntries
    exact ite1_otp (by simp) ((ih _ _).trans (by simp))
@[simp] theorem State.recUnits_otp (s : State) (d : Nat) (g : RecRange) (a unit : Nat) (bad : Option (Nat × Nat)) (badEnt : Option Nat)
    (n k : Nat) (l : List (Nat × List Byte)) : (s.recUnits d g a unit bad badEnt n k l).1.otp = s.otp := by
  induction l generalizing s n k with
  | nil => rfl
  | cons x l ih =>
    have h := State.recEntries_otp s d (g.region.getD 0) x.1 x.2 badEnt k (pieceLeaves s d g x.1 x.2.length)
    unfold State.recUnits
    split
    · rename_i e; rw [e] at h; exact h
    · rename_i e; rw [e] at h
      dsimp only at h ⊢
      split
      · refine ite1_otp ?_ ?_
        · rw [State.wtFailReg_otp, State.recWrite_otp, h]
        · exact (ih _ _ _).trans ((State.recWrite_otp _ _ _ _ _ _).trans h)
      · exact (ih _ _ _).trans ((State.recWrite_otp _ _ _ _ _ _).trans h)
@[simp] theorem State.holdFrom_otp (s : State) (d n t : Nat) : (s.holdFrom d n t).otp = s.otp := by
  induction n generalizing s t with
  | zero => simp [State.holdFrom]
  | succ n ih => unfold State.holdFrom; repeat' (first | with_reducible rfl | split | simp [ih])
@[simp] theorem State.fillRing_otp (n : Nat) (s : State) : (State.fillRing n s).otp = s.otp := by
  induction n generalizing s with
  | zero => rfl
  | succ n ih => unfold State.fillRing; repeat' (first | with_reducible rfl | split | simp [ih])
@[simp] theorem State.writeRegs_otp (s : State) (ch : Nat) (p : Prog) (r : Nat) (l : List Byte) : (State.writeRegs s ch p r l).otp = s.otp := by
  induction l generalizing s r with
  | nil => rfl
  | cons b l ih => unfold State.writeRegs; repeat' (first | with_reducible rfl | split | simp [ih])
@[simp] theorem State.takeItems_otp (n : Nat) (s : State) : (State.takeItems n s).2.otp = s.otp := by
  induction n generalizing s with
  | zero => rfl
  | succ n ih =>
    have h := State.takeItem_otp s
    unfold State.takeItems
    split
    · rename_i e; rw [e] at h; exact h
    · rename_i e; rw [e] at h
      have k := ih (s.takeItem.2)
      rw [e] at k
      split <;> (rename_i e2; rw [e2] at k; exact k.trans h)
@[simp] theorem State.lateLines_otp (s : State) (xs : List Nat) : (State.lateLines s xs).otp = s.otp := by
  unfold State.lateLines
  (repeat' (first | with_reducible rfl | intro _ | with_reducible apply ite_otp | split | (simp -implicitDefEqProofs; done) | refine (each_otp _ _ _ ?_).trans ?_ | refine (foldl_otp _ _ _ ?_).trans ?_ | refine (when_otp _ _ _ ?_).trans ?_ | refine (foldl1_otp _ _ _ ?_).trans ?_ | refine (foldl2_otp _ _ _ ?_).trans ?_ | simp -implicitDefEqProofs))
@[simp] theorem State.serveLine_otp (s : State) (ch e off n : Nat) (pin : Bool) (o : LineObs) :
    (s.serveLine ch e off n pin o).st.otp = s.otp := by
  simp [State.serveLine]
  (repeat' split) <;> simp_all
@[simp] theorem Stream.addLine_otp (t : Stream) (ch : Nat) (p : Prog) (a n k : Nat) (ls : List LineObs) :
    (t.addLine ch p a n k ls).st.otp = t.st.otp := by
  simp [Stream.addLine]
  (repeat' split) <;> simp_all
@[simp] theorem State.readStream_otp (s : State) (ch : Nat) (p : Prog) (ea n : Nat) (ls : List LineObs) :
    (s.readStream ch p ea n ls).st.otp = s.otp := by
  unfold State.readStream
  have h : ∀ (l : List (Nat × Nat × Nat)) (t : Stream), (l.foldl (fun (t : Stream) (x : Nat × Nat × Nat) => t.addLine ch p x.1 x.2.1 x.2.2 ls) t).st.otp = t.st.otp := by
    intro l
    induction l with
    | nil => intro t; rfl
    | cons x l ih => intro t; rw [List.foldl_cons, ih]; exact Stream.addLine_otp _ _ _ _ _ _ _
  exact h _ _
theorem State.stageAlloc_otp (s : State) (n : Nat) (c : Option Nat) (h : Nat) (t : State) (e : s.stageAlloc n c = some (h, t)) : t.otp = s.otp := by
  unfold State.stageAlloc at e
  split at e
  · split at e
    · have k := State.newEpoch_otp s
      generalize s.newEpoch = r at e k
      obtain ⟨ep, s2⟩ := r
      cases e
      simpa using k
    · cases e
  · cases e
theorem State.ownerCmd_otp (s : State) (o : Origin) (op : Nat) (payload : List Byte) (run : State → State × Code)
    (h : ∀ s, (run s).1.otp = s.otp) : (s.ownerCmd o op payload run).otp = s.otp := by
  unfold State.ownerCmd
  split
  · simp
  · rename_i tb _
    extract_lets no fresh s1
    have hn : ∀ t c, (no t c).otp = t.otp := fun t c => State.respond_otp _ _ _ _ _ _
    have h2 : s1.otp = s.otp := State.useNonce_otp s _
    refine ite_otp (hn _ _) (ite_otp (hn _ _) (ite_otp ((hn _ _).trans h2) (ite_otp ((hn _ _).trans h2) ?_)))
    split
    · rw [hn, when_otp _ _ _ (fun _ => State.journal_otp _ _ _ _ _ _), h2]
    · split
      rename_i e
      rw [State.respond_otp]
      exact ((congrArg (fun x => x.1.otp) e).symm.trans (h _)).trans h2
theorem State.keyDecide_otp (s : State) (op unit : Nat) (c : Option Code) (go : State → State) (form : Bool) (h : ∀ s, (go s).otp = s.otp) :
    (s.keyDecide op unit c go form).otp = s.otp := by
  unfold State.keyDecide
  split
  · simp
  · exact h _
theorem State.control_otp (s : State) (o : Origin) (f : State → State) (h : ∀ s, (f s).otp = s.otp) : (s.control o f).otp = s.otp := by
  unfold State.control
  exact ite_otp (h _) rfl
theorem State.inSess_otp (s : State) (t : Tbe) (id : Nat) (est : Bool) (f : Sess → State → State) (h : ∀ q s, (f q s).otp = s.otp) :
    (s.inSess t id est f).otp = s.otp := by
  unfold State.inSess
  split
  · exact ite_otp ((h _ _).trans (State.putSess_otp _ _)) (by simp)
  · simp
theorem State.updateMsg_otp (s : State) (o : Origin) (f : Tbe → State → State) (h : ∀ t s, (f t s).otp = s.otp) :
    (s.updateMsg o f).otp = s.otp := by
  unfold State.updateMsg
  refine ite_otp (h _ _) ?_
  split
  · simp
  · exact h _ _
theorem State.updDecide_otp (s : State) (op comp : Nat) (a b c d e : Bool) (f : State → State) (h : ∀ s, (f s).otp = s.otp) :
    (s.updDecide op comp a b c d e f).otp = s.otp := by
  unfold State.updDecide
  split
  · simp
  · rw [State.cmdEnd_otp, h]
theorem State.onFrame_otp (s : State) (f : Frame) (cls : Nat) (run : State → Dec → State) (h : ∀ t d, t.otp = s.otp → (run t d).otp = s.otp) :
    (s.onFrame f cls run).otp = s.otp := by
  unfold State.onFrame
  split
  · split
    · rfl
    · extract_lets t
      have ht : t.otp = s.otp := by simp [t]
      exact ite_otp ht (h _ _ ht)
  · rfl
theorem State.plain_otp (s : State) (f : Frame) (d : Dec) (g k : State → State) (hg : ∀ s, (g s).otp = s.otp) (hk : ∀ s, (k s).otp = s.otp) :
    (s.plain f d g k).otp = s.otp := by
  unfold State.plain
  extract_lets act s1 s2
  have h1 : s1.otp = s.otp := ite_otp (by simp) rfl
  have h2 : s2.otp = s.otp := by simp [s2, h1]
  exact ite_otp ((hg _).trans h2) (by rw [hk, State.deny_otp, h2])
theorem State.modeOp_otp (s : State) (f : Frame) (sub : Nat) (eff : State → State) (h : ∀ s, (eff s).otp = s.otp) : (s.modeOp f sub eff).otp = s.otp := by
  unfold State.modeOp
  refine State.onFrame_otp _ _ _ _ fun t d ht => ite_otp rfl (ite_otp ht ?_)
  exact (State.plain_otp t f d eff _ h fun _ => State.setF_otp _ _ _).trans ht
theorem State.spdm_otp (s : State) (o : Origin) (code : Nat) (brk : Option SpdmErr) (inLockdown : Bool) (f : Tbe → State → State)
    (h : ∀ t s, (f t s).otp = s.otp) : (s.spdm o code brk inLockdown f).otp = s.otp := by
  unfold State.spdm
  apply State.request_otp
  intro t s
  split
  · simp
  · exact h _ _
theorem State.inSession_otp (s : State) (o : Origin) (cmd : Nat) (phases : List Nat) (f : UpdSess → State → State)
    (h : ∀ u s, (f u s).otp = s.otp) : (s.inSession o cmd phases f).otp = s.otp := by
  unfold State.inSession
  apply State.request_otp
  intro t s
  split
  · exact ite_otp (by simp) (ite_otp (h _ _) (by simp))
  · simp
@[simp] theorem State.spdmOk_otp (s : State) (tb : Tbe) (data : List Byte) : (State.spdmOk s tb data).otp = s.otp := by
  unfold State.spdmOk
  simp
@[simp] theorem State.zeroTcm_otp (s : State) : (State.zeroTcm s).otp = s.otp := by
  simp [State.zeroTcm]
@[simp] theorem State.zeroMail_otp (s : State) : (State.zeroMail s).otp = s.otp := by
  unfold State.zeroMail
  (repeat' (first | with_reducible rfl | intro _ | with_reducible apply ite_otp | split | (simp -implicitDefEqProofs; done) | refine (each_otp _ _ _ ?_).trans ?_ | refine (foldl_otp _ _ _ ?_).trans ?_ | refine (when_otp _ _ _ ?_).trans ?_ | refine (foldl1_otp _ _ _ ?_).trans ?_ | refine (foldl2_otp _ _ _ ?_).trans ?_ | simp -implicitDefEqProofs))
@[simp] theorem State.zeroHot_otp (s : State) : (State.zeroHot s).otp = s.otp := by
  simp [State.zeroHot]
@[simp] theorem State.zeroTables_otp (s : State) : (State.zeroTables s).otp = s.otp := by
  simp [State.zeroTables]
@[simp] theorem State.zeroKeys_otp (s : State) : (State.zeroKeys s).otp = s.otp := by
  simp [State.zeroKeys]
@[simp] theorem State.devReset_otp (s : State) (ch : Nat) : (State.devReset s ch).otp = s.otp := by
  simp -implicitDefEqProofs [State.devReset]
@[simp] theorem State.rawIn_otp (s : State) (k : Nat) (bits : List Bool) : (State.rawIn s k bits).otp = s.otp := by
  unfold State.rawIn
  (repeat' (first | with_reducible rfl | intro _ | with_reducible apply ite_otp | split | (simp -implicitDefEqProofs; done) | refine (each_otp _ _ _ ?_).trans ?_ | refine (foldl_otp _ _ _ ?_).trans ?_ | refine (when_otp _ _ _ ?_).trans ?_ | refine (foldl1_otp _ _ _ ?_).trans ?_ | refine (foldl2_otp _ _ _ ?_).trans ?_ | simp -implicitDefEqProofs))
@[simp] theorem State.sourceBits_otp (s : State) (k : Nat) (bits : List Bool) : (State.sourceBits s k bits).otp = s.otp := by
  simp [State.sourceBits]
  (repeat' split) <;> simp_all
@[simp] theorem State.noiseIn_otp (s : State) (bits : List (List Bool)) : (State.noiseIn s bits).otp = s.otp := by
  unfold State.noiseIn
  (repeat' (first | with_reducible rfl | intro _ | with_reducible apply ite_otp | split | (simp -implicitDefEqProofs; done) | refine (each_otp _ _ _ ?_).trans ?_ | refine (foldl_otp _ _ _ ?_).trans ?_ | refine (when_otp _ _ _ ?_).trans ?_ | refine (foldl1_otp _ _ _ ?_).trans ?_ | refine (foldl2_otp _ _ _ ?_).trans ?_ | simp -implicitDefEqProofs))
@[simp] theorem State.takeSeed_otp (s : State) : (State.takeSeed s).otp = s.otp := by
  simp [State.takeSeed]
@[simp] theorem engCompute_otp (s : State) (o : EngOp) : (engCompute s o).2.otp = s.otp := by
  unfold engCompute
  have k := State.takeItem_otp s
  extract_lets
  split
  all_goals first | rfl | (split <;> first | rfl | (rename_i e; first | exact snd_otp e k | (split <;> exact snd_otp e k)))
@[simp] theorem State.engRevoke_otp (s : State) (sel : Nat → Bool) : (State.engRevoke s sel).otp = s.otp := by
  unfold State.engRevoke
  (repeat' (first | with_reducible rfl | intro _ | with_reducible apply ite_otp | split | (simp -implicitDefEqProofs; done) | refine (each_otp _ _ _ ?_).trans ?_ | refine (foldl_otp _ _ _ ?_).trans ?_ | refine (when_otp _ _ _ ?_).trans ?_ | refine (foldl1_otp _ _ _ ?_).trans ?_ | simp -implicitDefEqProofs))
@[simp] theorem State.keyCmdEnd_otp (s : State) (c : Code) : (State.keyCmdEnd s c).otp = s.otp := by
  unfold State.keyCmdEnd
  (repeat' split) <;> simp -implicitDefEqProofs
@[simp] theorem State.forceErase_otp (s : State) (sel : Nat → Bool) : (State.forceErase s sel).otp = s.otp := by
  unfold State.forceErase
  (repeat' (first | with_reducible rfl | intro _ | with_reducible apply ite_otp | split | (simp -implicitDefEqProofs; done) | refine (each_otp _ _ _ ?_).trans ?_ | refine (foldl_otp _ _ _ ?_).trans ?_ | refine (when_otp _ _ _ ?_).trans ?_ | refine (foldl1_otp _ _ _ ?_).trans ?_ | simp -implicitDefEqProofs))
@[simp] theorem State.keySeal_otp (s : State) : (State.keySeal s).otp = s.otp := by
  simp -implicitDefEqProofs [State.keySeal]
@[simp] theorem State.keyZeroise_otp (s : State) : (State.keyZeroise s).otp = s.otp := by
  simp -implicitDefEqProofs [State.keyZeroise]
@[simp] theorem State.keyRestart_otp (s : State) : (State.keyRestart s).otp = s.otp := by
  unfold State.keyRestart
  extract_lets s1 s2 s3
  have h1 : s1.otp = s.otp := by
    dsimp only [s1]
    split
    · exact ite_otp (State.keyCmdEnd_otp _ _) rfl
    · rfl
  have h2 : s2.otp = s.otp := (each_otp _ _ _ fun t i => ite_otp rfl (by simp)).trans h1
  have h3 : s3.otp = s.otp := (each_otp _ _ _ fun _ _ => State.setWk_otp _ _ _).trans h2
  rw [State.setF_otp, State.modKeys_otp, h3]
@[simp] theorem State.updAbortAll_otp (s : State) : (State.updAbortAll s).otp = s.otp := by
  unfold State.updAbortAll
  (repeat' split) <;> simp -implicitDefEqProofs
@[simp] theorem State.execStep_otp (s : State) (d t : Nat) : (State.execStep s d t).otp = s.otp := by
  unfold State.execStep
  (repeat' (first | with_reducible rfl | intro _ | with_reducible apply ite_otp | split | (simp -implicitDefEqProofs; done) | refine (each_otp _ _ _ ?_).trans ?_ | refine (foldl_otp _ _ _ ?_).trans ?_ | refine (when_otp _ _ _ ?_).trans ?_ | refine (foldl1_otp _ _ _ ?_).trans ?_ | simp -implicitDefEqProofs))
@[simp] theorem State.relFrom_otp (s : State) (d n t : Nat) : (s.relFrom d n t).otp = s.otp := by
  induction n generalizing s t with
  | zero => simp [State.relFrom]
  | succ n ih => unfold State.relFrom; repeat' (first | with_reducible rfl | split | simp [ih])
@[simp] theorem State.holdLines_otp (s : State) (d : Nat) : (State.holdLines s d).otp = s.otp := by
  simp -implicitDefEqProofs [State.holdLines]
@[simp] theorem State.holdDom_otp (s : State) (d : Nat) : (State.holdDom s d).otp = s.otp := by
  simp [State.holdDom]
  (repeat' split) <;> simp_all
@[simp] theorem State.verifyDom_otp (s : State) (d : Nat) : (State.verifyDom s d).otp = s.otp := by
  unfold State.verifyDom
  (repeat' split) <;> simp
@[simp] theorem State.releaseDom_otp (s : State) (d : Nat) : (State.releaseDom s d).otp = s.otp := by
  unfold State.releaseDom
  (repeat' split) <;> simp
@[simp] theorem State.releaseReadyOnes_otp (n : Nat) (s : State) : (State.releaseReadyOnes n s).otp = s.otp := by
  induction n generalizing s with
  | zero => rfl
  | succ n ih => unfold State.releaseReadyOnes; repeat' (first | with_reducible rfl | split | simp [ih])
@[simp] theorem State.settle_otp (s : State) : (State.settle s).otp = s.otp := by
  simp -implicitDefEqProofs [State.settle]
@[simp] theorem State.enterLockdown_otp (s : State) (cause : Nat) : (State.enterLockdown s cause).otp = s.otp := by
  unfold State.enterLockdown
  dsimp only
  (repeat' split) <;> simp (disch := (intros; (repeat' split) <;> simp))
@[simp] theorem State.lockdownTrigger_otp (s : State) (cause : Nat) : (State.lockdownTrigger s cause).otp = s.otp := by
  unfold State.lockdownTrigger
  (repeat' split) <;> simp -implicitDefEqProofs
@[simp] theorem State.resetCycle_otp (s : State) (d : Nat) (req : Option Nat) : (State.resetCycle s d req).otp = s.otp := by
  simp [State.resetCycle]
  (repeat' split) <;> simp_all
@[simp] theorem State.pulseEnd_otp (s : State) (d : Nat) : (State.pulseEnd s d).otp = s.otp := by
  unfold State.pulseEnd
  (repeat' split) <;> simp -implicitDefEqProofs
@[simp] theorem State.inputActs_otp (s : State) (k : Nat) (was : Bool) : (State.inputActs s k was).otp = s.otp := by
  simp [State.inputActs]
  (repeat' split) <;> simp_all
@[simp] theorem State.lanesGone_otp (s : State) : (State.lanesGone s).otp = s.otp := by
  unfold State.lanesGone
  (repeat' split) <;> simp -implicitDefEqProofs
@[simp] theorem State.retireLane_otp (s : State) (i : Nat) : (State.retireLane s i).otp = s.otp := by
  unfold State.retireLane
  (repeat' split) <;> simp -implicitDefEqProofs
@[simp] theorem State.loadFail_otp (s : State) (d r : Nat) (node : Bool) (index code : Nat) (reverify : Bool) : (State.loadFail s d r node index code reverify).otp = s.otp := by
  unfold State.loadFail
  (repeat' split) <;> simp -implicitDefEqProofs
@[simp] theorem State.takeLeaf_otp (s : State) (d r l : Nat) (bs again : List Byte) (bad reverify : Bool) : (State.takeLeaf s d r l bs again bad reverify).1.otp = s.otp := by
  simp [State.takeLeaf]
  (repeat' split) <;> simp_all
@[simp] theorem State.takeGroup_otp (s : State) (d r lvl g n : Nat) (bs again : List Byte) (bad reverify : Bool) : (State.takeGroup s d r lvl g n bs again bad reverify).1.otp = s.otp := by
  unfold State.takeGroup
  (repeat' split) <;> simp
@[simp] theorem State.takeTree_otp (s : State) (d r lvl first : Nat) (data again : List Byte) (poison : List Nat) (size : Nat) (reverify : Bool) : (State.takeTree s d r lvl first data again poison size reverify).otp = s.otp := by
  unfold State.takeTree
  extract_lets entries
  split <;> (
    rename_i e
    have k := congrArg (fun x => x.1.otp) e
    rw [takeAll_otp _ (fun _ _ => State.takeGroup_otp _ _ _ _ _ _ _ _ _ _)] at k)
  · exact (State.modLoad_otp _ _ _).trans k.symm
  · exact k.symm
@[simp] theorem State.takeLeaves_otp (s : State) (d r first : Nat) (data again : List Byte) (poison : List Nat) (leaves : Nat) (reverify : Bool) : (State.takeLeaves s d r first data again poison leaves reverify).otp = s.otp := by
  unfold State.takeLeaves
  exact takeAll_otp _ (fun _ _ => State.takeLeaf_otp _ _ _ _ _ _ _ _) _ _
@[simp] theorem State.acceptDom_otp (s : State) (d : Nat) : (State.acceptDom s d).otp = s.otp := by
  unfold State.acceptDom
  dsimp only
  (repeat' split) <;> simp -implicitDefEqProofs
@[simp] theorem State.gateReleaseDom_otp (s : State) (d : Nat) : (State.gateReleaseDom s d).otp = s.otp := by
  simp [State.gateReleaseDom]
  (repeat' split) <;> simp_all
@[simp] theorem State.gateQuarantineDom_otp (s : State) (d : Nat) : (State.gateQuarantineDom s d).otp = s.otp := by
  simp [State.gateQuarantineDom]
  (repeat' split) <;> simp_all
@[simp] theorem State.gateApply_otp (s : State) (op d : Nat) : (State.gateApply s op d).otp = s.otp := by
  unfold State.gateApply
  (repeat' split) <;> simp
@[simp] theorem State.gateCmd_otp (s : State) (op d : Nat) : (State.gateCmd s op d).otp = s.otp := by
  unfold State.gateCmd
  (repeat' split) <;> simp -implicitDefEqProofs
@[simp] theorem State.enterLockdownCmd_otp (s : State) (dom : Nat) : (State.enterLockdownCmd s dom).otp = s.otp := by
  unfold State.enterLockdownCmd
  (repeat' split) <;> simp -implicitDefEqProofs
@[simp] theorem State.passDom_otp (s : State) (d : Nat) : (State.passDom s d).otp = s.otp := by
  simp -implicitDefEqProofs [State.passDom]
@[simp] theorem State.kioskRecord_otp (s : State) (op dom : Nat) (c : Code) : (State.kioskRecord s op dom c).otp = s.otp := by
  simp [State.kioskRecord]
@[simp] theorem State.kioskRequest_otp (s : State) (t : Tbe) (word : Nat) (vendor : Option Origin) (token : Bool) : (State.kioskRequest s t word vendor token).otp = s.otp := by
  unfold State.kioskRequest
  dsimp only
  (repeat' split) <;> simp -implicitDefEqProofs
@[simp] theorem State.tnReq_otp (s : State) (a : Access) (tn word : Nat) (vendor : Option Origin := none) (token : Bool := true) : (State.tnReq s a tn word vendor token).otp = s.otp := by
  unfold State.tnReq
  (repeat' split) <;> simp -implicitDefEqProofs
@[simp] theorem State.dbIn_otp (s : State) (a : Access) (tn bits : Nat) : (State.dbIn s a tn bits).otp = s.otp := by
  unfold State.dbIn
  (repeat' split) <;> simp -implicitDefEqProofs
@[simp] theorem State.tnWrite_otp (s : State) (a : Access) (tn off value : Nat) : (State.tnWrite s a tn off value).otp = s.otp := by
  unfold State.tnWrite
  (repeat' split) <;> simp -implicitDefEqProofs
@[simp] theorem State.tnRead_otp (s : State) (a : Access) (tn off : Nat) : (State.tnRead s a tn off).otp = s.otp := by
  unfold State.tnRead
  (repeat' split) <;> simp -implicitDefEqProofs
@[simp] theorem State.fillTcm_otp (s : State) (keepRing : Bool) : (State.fillTcm s keepRing).otp = s.otp := by
  simp [State.fillTcm]
@[simp] theorem State.restartUnits_otp (s : State) : (State.restartUnits s).otp = s.otp := by
  unfold State.restartUnits
  (repeat' split) <;> simp -implicitDefEqProofs
@[simp] theorem State.bvRestart_otp (s : State) (copy causes : Nat) : (State.bvRestart s copy causes).otp = s.otp := by
  unfold State.bvRestart
  (repeat' split) <;> simp -implicitDefEqProofs
@[simp] theorem State.pairFails_otp (s : State) : (State.pairFails s).otp = s.otp := by
  unfold State.pairFails
  (repeat' split) <;> simp -implicitDefEqProofs
@[simp] theorem State.reasmDrop_otp (s : State) (c : Ctx) (code : Code) : (State.reasmDrop s c code).otp = s.otp := by
  simp -implicitDefEqProofs [State.reasmDrop]
@[simp] theorem State.turnAway_otp (s : State) (t : Tbe) (typ : Nat) (data : List Byte) (c : Code) : (State.turnAway s t typ data c).otp = s.otp := by
  simp [State.turnAway]
  (repeat' split) <;> simp_all
@[simp] theorem State.msgDone_otp (s : State) (c : Ctx) : (State.msgDone s c).otp = s.otp := by
  unfold State.msgDone
  (repeat' (first | with_reducible rfl | intro _ | with_reducible apply ite_otp | split | (simp -implicitDefEqProofs; done) | refine (each_otp _ _ _ ?_).trans ?_ | refine (foldl_otp _ _ _ ?_).trans ?_ | refine (when_otp _ _ _ ?_).trans ?_ | refine (foldl1_otp _ _ _ ?_).trans ?_ | simp -implicitDefEqProofs))
@[simp] theorem State.vendorKiosk_otp (s : State) (o : Origin) (t : Tbe) (tn word gen : Nat) : (State.vendorKiosk s o t tn word gen).otp = s.otp := by
  unfold State.vendorKiosk
  dsimp only
  (repeat' split) <;> simp -implicitDefEqProofs
@[simp] theorem State.vendorKioskMsg_otp (s : State) (o : Origin) (tn word gen : Nat) : (State.vendorKioskMsg s o tn word gen).otp = s.otp := by
  unfold State.vendorKioskMsg
  (repeat' (first | with_reducible rfl | intro _ | with_reducible apply ite_otp | split | (simp -implicitDefEqProofs; done) | refine (each_otp _ _ _ ?_).trans ?_ | refine (foldl_otp _ _ _ ?_).trans ?_ | refine (when_otp _ _ _ ?_).trans ?_ | refine (foldl1_otp _ _ _ ?_).trans ?_ | simp -implicitDefEqProofs))
@[simp] theorem State.getNonce_otp (s : State) (o : Origin) : (State.getNonce s o).otp = s.otp := by
  unfold State.getNonce
  apply State.request_otp
  intro t s
  have k := State.takeItem_otp s
  split
  · rename_i e; rw [State.respond_otp]; exact snd_otp e k
  · rename_i e; simp -implicitDefEqProofs; exact snd_otp e k
@[simp] theorem State.getOutcome_otp (s : State) (o : Origin) : (State.getOutcome s o).otp = s.otp := by
  unfold State.getOutcome
  simp only [State.request, State.keyDecide, State.control, State.inSess, State.updateMsg, State.updDecide, State.onFrame, State.plain]
  (repeat' (first | with_reducible rfl | intro _ | with_reducible apply ite_otp | split | (simp -implicitDefEqProofs; done) | refine (each_otp _ _ _ ?_).trans ?_ | refine (foldl_otp _ _ _ ?_).trans ?_ | refine (when_otp _ _ _ ?_).trans ?_ | refine (foldl1_otp _ _ _ ?_).trans ?_ | simp -implicitDefEqProofs))
@[simp] theorem State.jStore_otp (s : State) (r : JRec) (drop : Option Nat) (ring : Bool) : (State.jStore s r drop ring).otp = s.otp := by
  unfold State.jStore
  extract_lets n c held s1 s2
  rw [when_otp _ _ _ (fun _ => State.raise_otp _ _)]
  show (State.showOldest _).otp = _
  rw [State.showOldest_otp, State.setF_otp, State.setF_otp]
  rfl
@[simp] theorem State.lostRecord_otp (s : State) : (State.lostRecord s).otp = s.otp := by
  unfold State.lostRecord
  dsimp only
  (repeat' split) <;> simp -implicitDefEqProofs
@[simp] theorem State.lodgeTrigger_otp (s : State) (cause : Nat) : (State.lodgeTrigger s cause).otp = s.otp := by
  unfold State.lodgeTrigger
  (repeat' split) <;> simp -implicitDefEqProofs
@[simp] theorem State.zeroise_otp (s : State) (cause : Nat) : (State.zeroise s cause).otp = s.otp := by
  unfold State.zeroise
  dsimp only
  (repeat' split) <;> simp -implicitDefEqProofs
@[simp] theorem State.ruleAct_otp (s : State) (now : Bool) (r : Nat) (e : LRule) (value : Nat) : (State.ruleAct s now r e value).otp = s.otp := by
  unfold State.ruleAct
  dsimp only
  (repeat' split) <;> simp -implicitDefEqProofs
@[simp] theorem State.rulesSample_otp (s : State) (sel : LRule → Bool) (cond : LRule → Bool) (value : LRule → Nat) : (State.rulesSample s sel cond value).otp = s.otp := by
  unfold State.rulesSample
  dsimp only
  (repeat' split) <;> simp -implicitDefEqProofs
@[simp] theorem State.rtcStep_otp (s : State) : (State.rtcStep s).otp = s.otp := by
  unfold State.rtcStep
  dsimp only
  (repeat' split) <;> simp -implicitDefEqProofs
@[simp] theorem State.oldBytes_otp (s : State) (ch : Nat) (ls : List LineObs) (k : Nat) (ps : List (Nat × Nat × Nat)) :
    (s.oldBytes ch ls k ps).1.otp = s.otp := by
  induction ps generalizing s k with
  | nil => rfl
  | cons p t ih =>
    unfold State.oldBytes
    dsimp only
    rw [ih]
    exact foldl1_otp _ _ _ fun _ _ => State.serveLine_otp _ _ _ _ _ _ _
@[simp] theorem State.writeThrough_otp (s : State) (ch : Nat) (q : WriteReq) (al : Bool) : (State.writeThrough s ch q al).1.otp = s.otp := by
  unfold State.writeThrough
  extract_lets s1
  have h1 : s1.otp = s.otp := State.bump_otp _ _ _ _ _
  split
  · exact (State.denyWrite_otp _ _ _ _ _).trans ((State.raise_otp _ _).trans h1)
  · split
    rename_i ps s2 olds ok e
    have h2 : s2.otp = s.otp := by
      have k := congrArg (fun x => x.1.otp) e
      refine Eq.trans k.symm ?_
      split
      · exact (State.oldBytes_otp _ _ _ _ _).trans h1
      · exact h1
    refine ite1_otp ((State.denyWrite_otp _ _ _ _ _).trans h2) ?_
    extract_lets s3 frame
    have h3 : s3.otp = s.otp := ite_otp ((State.alert_otp _ _ _).trans h2) h2
    generalize hf : List.foldl _ _ _ = r
    have h4 : r.2.otp = s.otp := by
      rw [← hf]
      refine (foldl2_otp _ _ _ ?_).trans h3
      intro p x
      exact State.wtStart_otp _ _ _ _ _ _ _ _
    obtain ⟨ids, s4⟩ := r
    exact (State.startOp_otp _ _ _ _ _ _ _ _ _).trans h4
@[simp] theorem State.stageCapsule_otp (s : State) (ch : Nat) (p : Prog) (j : Nat) (q : WriteReq) (al : Bool) : (State.stageCapsule s ch p j q al).1.otp = s.otp := by
  unfold State.stageCapsule
  split
  · dsimp only; exact State.capsuleRefuse_otp _ _ _ _
  extract_lets r got
  have hg : ∀ h t, got = some (h, t) → t.otp = s.otp := by
    intro h t e
    dsimp only [got] at e
    split at e
    · cases e; rfl
    · split at e
      · rename_i ea
        cases e
        simp only [State.setF_otp, State.raise_otp]
        exact State.stageAlloc_otp _ _ _ _ _ ea
      · cases e
  clear_value got
  rcases got with _ | ⟨h, t⟩
  · dsimp only; exact State.capsuleRefuse_otp _ _ _ _
  · have ht := hg h t rfl
    dsimp -zeta only
    split
    · exact ht
    · split
      · dsimp only; exact (State.capsuleRefuse_otp _ _ _ _).trans ht
      · extract_lets t1 data blocks t2
        have h1 : t1.otp = s.otp := ite_otp ((State.alert_otp _ _ _).trans ht) ht
        have h2 : t2.otp = s.otp := by simp only [t2, State.setF_otp, State.modChan_otp, State.setStage_otp]; exact h1
        exact (State.startOp_otp _ _ _ _ _ _ _ _ _).trans h2
@[simp] theorem State.writeFrame_otp (s : State) (ch : Nat) (p : Prog) (opcode cls act j : Nat) (rowAl differ : Bool) (q : WriteReq) : (State.writeFrame s ch p opcode cls act j rowAl differ q).1.otp = s.otp := by
  simp [State.writeFrame]
  (repeat' split) <;> simp_all
@[simp] theorem State.fillBox_otp (s : State) (pat tn : Nat) : (State.fillBox s pat tn).otp = s.otp := by
  simp -implicitDefEqProofs [State.fillBox]
@[simp] theorem State.filled_otp (s : State) (c pat : Nat) : (State.filled s c pat).otp = s.otp := by
  unfold State.filled
  (repeat' split) <;> simp -implicitDefEqProofs
@[simp] theorem State.copyStatus_otp (s : State) (copy : Nat) (f : Option (Nat × Code)) : (State.copyStatus s copy f).otp = s.otp := by
  unfold State.copyStatus
  (repeat' split) <;> simp -implicitDefEqProofs
@[simp] theorem State.portsUp_otp (s : State) (st : Settings) : (State.portsUp s st).otp = s.otp := by
  simp -implicitDefEqProofs [State.portsUp]
@[simp] theorem State.noCopy_otp (s : State) : (State.noCopy s).otp = s.otp := by
  unfold State.noCopy
  (repeat' (first | with_reducible rfl | intro _ | with_reducible apply ite_otp | split | (simp -implicitDefEqProofs; done) | refine (each_otp _ _ _ ?_).trans ?_ | refine (foldl_otp _ _ _ ?_).trans ?_ | refine (when_otp _ _ _ ?_).trans ?_ | refine (foldl1_otp _ _ _ ?_).trans ?_ | simp -implicitDefEqProofs))
@[simp] theorem State.loadPlaneKeys_otp (s : State) : (State.loadPlaneKeys s).1.otp = s.otp := by
  unfold State.loadPlaneKeys
  have k : ∀ (s t : State) (r : Except Code (List Byte)), s.takeItem = (r, t) → t.otp = s.otp :=
    fun s t r e => (congrArg (fun x => x.2.otp) e).symm.trans (State.takeItem_otp s)
  split
  · rename_i e1
    split
    · rename_i e2
      split
      · rename_i e3
        dsimp only
        rw [State.raise_otp]
        exact (k _ _ _ e3).trans ((k _ _ _ e2).trans (k _ _ _ e1))
      · rename_i e3; exact (k _ _ _ e3).trans ((k _ _ _ e2).trans (k _ _ _ e1))
    · rename_i e2; exact (k _ _ _ e2).trans (k _ _ _ e1)
  · rename_i e1; exact k _ _ _ e1
@[simp] theorem State.applyPcls_otp (s : State) (levels : Nat) : (State.applyPcls s levels).otp = s.otp := by
  unfold State.applyPcls
  (repeat' (first | with_reducible rfl | intro _ | with_reducible apply ite_otp | split | (simp -implicitDefEqProofs; done) | refine (each_otp _ _ _ ?_).trans ?_ | refine (foldl_otp _ _ _ ?_).trans ?_ | refine (when_otp _ _ _ ?_).trans ?_ | refine (foldl1_otp _ _ _ ?_).trans ?_ | simp -implicitDefEqProofs))
@[simp] theorem State.leaveAssembly_otp (s : State) : (State.leaveAssembly s).otp = s.otp := by
  unfold State.leaveAssembly
  dsimp only
  (repeat' split) <;> simp -implicitDefEqProofs
@[simp] theorem State.assemblyDone_otp (s : State) (badLanes : List Nat) (badFe : List (Nat × Nat)) (levels : Nat) : (State.assemblyDone s badLanes badFe levels).otp = s.otp := by
  unfold State.assemblyDone
  dsimp only
  (repeat' split) <;> simp -implicitDefEqProofs
@[simp] theorem State.loadTrim_otp (s : State) (m : FbMap) : (State.loadTrim s m).otp = s.otp := by
  simp -implicitDefEqProofs [State.loadTrim]
@[simp] theorem State.noExtent_otp (s : State) (ch : Nat) : (State.noExtent s ch).otp = s.otp := by
  simp [State.noExtent]
@[simp] theorem Stream.ahead_otp (t : Stream) (ch : Nat) (p : Prog) (a n k : Nat) (ls : List LineObs) : (t.ahead ch p a n k ls).st.otp = t.st.otp := by
  unfold Stream.ahead
  dsimp only
  repeat' (first | with_reducible rfl | exact State.serveLine_otp _ _ _ _ _ _ _ | split)
@[simp] theorem Stream.window_otp (t : Stream) (ch : Nat) (p : Prog) (ea n : Nat) (ls : List LineObs) : (t.window ch p ea n ls).st.otp = t.st.otp := by
  unfold Stream.window
  extract_lets skip done
  split
  · rfl
  · have h : ∀ (l : List (Nat × Nat × Nat)) (t : Stream),
        (l.foldl (fun (t : Stream) (x : Nat × Nat × Nat) => t.ahead ch p x.1 x.2.1 x.2.2 ls) t).st.otp = t.st.otp := by
      intro l
      induction l with
      | nil => intro t; rfl
      | cons x l ih => intro t; rw [List.foldl_cons, ih]; exact Stream.ahead_otp _ _ _ _ _ _ _
    exact h _ _
@[simp] theorem State.runRead_otp (f : Frame) (s : State) (d : Dec) : (State.runRead f s d).otp = s.otp := by
  unfold State.runRead
  extract_lets ea
  split
  rename_i n t0 t1 x act j fill e
  have h1 : t1.st.otp = s.otp := by
    have h0 : t0.st.otp = s.otp := State.readStream_otp _ _ _ _ _ _
    dsimp only [t1]
    split
    · exact (Stream.window_otp _ _ _ _ _ _).trans h0
    · exact h0
  extract_lets s1 s2 s3 s4
  have h2 : s1.otp = s.otp := by simp [s1, h1]
  have h3 : s2.otp = s.otp := ite_otp ((State.deny_otp _ _ _).trans h2) h2
  have h4 : s3.otp = s.otp := ite_otp ((State.noExtent_otp _ _).trans h3) h3
  exact (State.deliver_otp _ _ _ _ _ _).trans ((State.alertIf_otp _ _ _).trans h4)
@[simp] theorem State.provisionVault_otp (s : State) : (State.provisionVault s).otp = s.otp := by
  unfold State.provisionVault
  simp only [State.request, State.keyDecide, State.control, State.inSess, State.updateMsg, State.updDecide, State.onFrame, State.plain]
  (repeat' (first | with_reducible rfl | intro _ | with_reducible apply ite_otp | split | (simp -implicitDefEqProofs; done) | refine (each_otp _ _ _ ?_).trans ?_ | refine (foldl_otp _ _ _ ?_).trans ?_ | refine (when_otp _ _ _ ?_).trans ?_ | refine (foldl1_otp _ _ _ ?_).trans ?_ | simp -implicitDefEqProofs))
@[simp] theorem State.keyCommit_otp (s : State) (q : KeyCmd) (payload : List Byte) (origin : Nat) : (State.keyCommit s q payload origin).otp = s.otp := by
  unfold State.keyCommit
  dsimp only
  (repeat' split) <;> simp -implicitDefEqProofs
@[simp] theorem State.runGenerate_otp (s : State) (q : KeyCmd) : (State.runGenerate s q).otp = s.otp := by
  unfold State.runGenerate
  dsimp only
  have k := fun n => State.takeItems_otp n s
  split
  · rename_i e; have h := k (if bitsAt (q.args.getD 0 0) 12 4 = 4 || bitsAt (q.args.getD 0 0) 12 4 = 5 then 2 else 1); rw [e] at h; simpa using h
  · rename_i e; have h := k (if bitsAt (q.args.getD 0 0) 12 4 = 4 || bitsAt (q.args.getD 0 0) 12 4 = 5 then 2 else 1); rw [e] at h; rw [State.keyCommit_otp]; split <;> simpa using h
@[simp] theorem State.runDerive_otp (s : State) (q : KeyCmd) (key : List Byte) : (State.runDerive s q key).otp = s.otp := by
  unfold State.runDerive
  dsimp only
  (repeat' split) <;> simp -implicitDefEqProofs
@[simp] theorem State.runCertify_otp (s : State) (q : KeyCmd) : (State.runCertify s q).otp = s.otp := by
  unfold State.runCertify
  extract_lets a n tbs
  split
  · simp -implicitDefEqProofs
  split
  · simp -implicitDefEqProofs
  have k := State.takeItem_otp s
  split
  · rename_i e; rw [State.keyCmdEnd_otp]; exact snd_otp e k
  · rename_i e; split <;> simp -implicitDefEqProofs <;> exact snd_otp e k
@[simp] theorem State.keyRun_otp (s : State) (q : KeyCmd) : (State.keyRun s q).otp = s.otp := by
  unfold State.keyRun
  have k := State.takeItem_otp s
  split
  · simp -implicitDefEqProofs
  repeat' (first | with_reducible apply ite_otp | (simp -implicitDefEqProofs; done))
  · extract_lets s1
    rw [State.keyCmdEnd_otp]
    exact ite_otp (by simp [s1]) (by simp [s1])
  · split
    · rename_i e; rw [State.keyCmdEnd_otp]; exact snd_otp e k
    · rename_i e; rw [State.keyCmdEnd_otp, State.vaultProvision_otp]; exact snd_otp e k
@[simp] theorem State.scrapStart_otp (s : State) : (State.scrapStart s).otp = s.otp := by
  unfold State.scrapStart
  dsimp only
  (repeat' split) <;> simp (disch := (intros; (repeat' split) <;> simp))
@[simp] theorem State.lcsAccept_otp (s : State) (target : Nat) : (State.lcsAccept s target).otp = s.otp := by
  simp -implicitDefEqProofs [State.lcsAccept]
@[simp] theorem State.lcsRequest_otp (s : State) (target : Nat) (debugger : Bool) : (State.lcsRequest s target debugger).otp = s.otp := by
  unfold State.lcsRequest
  (repeat' split) <;> simp -implicitDefEqProofs
@[simp] theorem State.zeroEngines_otp (s : State) : (State.zeroEngines s).otp = s.otp := by
  simp [State.zeroEngines]
@[simp] theorem State.zeroSrams_otp (s : State) : (State.zeroSrams s).otp = s.otp := by
  unfold State.zeroSrams
  simp -implicitDefEqProofs
@[simp] theorem State.busServed_otp (s : State) (b cls : Nat) : (State.busServed s b cls).otp = s.otp := by
  simp [State.busServed]
@[simp] theorem State.headFail_otp (s : State) (code : Nat) : (State.headFail s code).otp = s.otp := by
  simp [State.headFail]
@[simp] theorem State.snapOk_otp (s : State) : (State.snapOk s).otp = s.otp := by
  unfold State.snapOk
  (repeat' split) <;> simp
@[simp] theorem State.snapEnd_otp (s : State) : (State.snapEnd s).otp = s.otp := by
  simp [State.snapEnd]
@[simp] theorem State.ledgerEnd_otp (s : State) (typ : Nat) (ok : Bool) (code : Nat) : (State.ledgerEnd s typ ok code).otp = s.otp := by
  simp [State.ledgerEnd]
  (repeat' split) <;> simp_all
@[simp] theorem State.rvEnable_otp (s : State) (was : Bool) : (State.rvEnable s was).otp = s.otp := by
  unfold State.rvEnable
  (repeat' split) <;> simp
@[simp] theorem State.rvShadow_otp (s : State) (e l : Nat) (badA badB : Bool) : (State.rvShadow s e l badA badB).otp = s.otp := by
  simp [State.rvShadow]
  (repeat' split) <;> simp_all
@[simp] theorem State.rvJudge_otp (s : State) (dom region leaf : Nat) (data reread : List Byte) : (State.rvJudge s dom region leaf data reread).otp = s.otp := by
  simp [State.rvJudge]
  (repeat' split) <;> simp_all
@[simp] theorem State.scrubLine_otp (s : State) (e off : Nat) (failA failB : Bool) : (State.scrubLine s e off failA failB).otp = s.otp := by
  simp [State.scrubLine]
  (repeat' split) <;> simp_all
@[simp] theorem State.flipLeft_otp (s : State) (c w : Nat) : (State.flipLeft s c w).otp = s.otp := by
  simp [State.flipLeft]
  (repeat' split) <;> simp_all
@[simp] theorem State.setTap_otp (s : State) (dev b t : Nat) : (State.setTap s dev b t).otp = s.otp := by
  simp [State.setTap]
@[simp] theorem State.moveTap_otp (s : State) (dev b : Nat) (down : Bool) : (State.moveTap s dev b down).otp = s.otp := by
  simp [State.moveTap]
  (repeat' split) <;> simp_all
@[simp] theorem State.retrainDev_otp (s : State) (dev : Nat) (taps : List Nat) (c : Code) : (State.retrainDev s dev taps c).otp = s.otp := by
  unfold State.retrainDev
  (repeat' split) <;> simp
@[simp] theorem State.packetIn_otp (s : State) (c : Ctx) (p : Packet) : (State.packetIn s c p).otp = s.otp := by
  unfold State.packetIn
  dsimp only
  (repeat' split) <;> simp -implicitDefEqProofs
@[simp] theorem State.packetStart_otp (s : State) (p : Packet) : (State.packetStart s p).otp = s.otp := by
  unfold State.packetStart
  (repeat' split) <;> simp -implicitDefEqProofs
@[simp] theorem State.spdmData_otp (s : State) (t : Tbe) (data : List Byte) : (State.spdmData s t data).otp = s.otp := by
  unfold State.spdmData
  extract_lets c
  exact ite_otp (by simp) (by simp [State.spdmOk])
@[simp] theorem State.ks3Sign_otp (s : State) (transcript : List Byte) : (State.ks3Sign s transcript).2.otp = s.otp := by
  unfold State.ks3Sign
  split
  · rfl
  split
  · rfl
  split
  · rfl
  have k := State.takeItem_otp s
  split
  · rename_i e; exact snd_otp e k
  · rename_i e; split <;> exact snd_otp e k
@[simp] theorem State.spdmSigned_otp (s : State) (t : Tbe) (code : Nat) (transcript data : List Byte) : (State.spdmSigned s t code transcript data).otp = s.otp := by
  unfold State.spdmSigned
  have k := State.ks3Sign_otp s transcript
  split
  · rename_i e; rw [State.respond_otp]; exact snd_otp e k
  · rename_i e; rw [State.spdmData_otp]; exact snd_otp e k
@[simp] theorem State.ownerLock_otp (s : State) : (State.ownerLock s).otp = s.otp := by
  unfold State.ownerLock
  simp only [State.request, State.keyDecide, State.control, State.inSess, State.updateMsg, State.updDecide, State.onFrame, State.plain]
  (repeat' (first | with_reducible rfl | intro _ | with_reducible apply ite_otp | split | (simp -implicitDefEqProofs; done) | refine (each_otp _ _ _ ?_).trans ?_ | refine (foldl_otp _ _ _ ?_).trans ?_ | refine (when_otp _ _ _ ?_).trans ?_ | refine (foldl1_otp _ _ _ ?_).trans ?_ | simp -implicitDefEqProofs))
@[simp] theorem State.fwGate_otp (s : State) (op dom gen : Nat) : (State.fwGate s op dom gen).1.otp = s.otp := by
  simp -implicitDefEqProofs [State.fwGate]
@[simp] theorem State.fwProvision_otp (s : State) : (State.fwProvision s).1.otp = s.otp := by
  simp -implicitDefEqProofs [State.fwProvision]
@[simp] theorem State.fwLockdown_otp (s : State) (dom gen : Nat) : (State.fwLockdown s dom gen).1.otp = s.otp := by
  simp -implicitDefEqProofs [State.fwLockdown]
@[simp] theorem State.fwOwnerLock_otp (s : State) (v : Nat) : (State.fwOwnerLock s v).1.otp = s.otp := by
  simp -implicitDefEqProofs [State.fwOwnerLock]
@[simp] theorem State.fwLcs_otp (s : State) (target : Nat) : (State.fwLcs s target).1.otp = s.otp := by
  simp -implicitDefEqProofs [State.fwLcs]
@[simp] theorem State.ownerRun_otp (s : State) (op : Nat) (payload : List Byte) : (State.ownerRun s op payload).1.otp = s.otp := by
  unfold State.ownerRun
  (repeat' split) <;> simp -implicitDefEqProofs
@[simp] theorem State.ownerMsg_otp (s : State) (org : Origin) (op : Nat) (payload : List Byte) : (State.ownerMsg s org op payload).otp = s.otp := by
  unfold State.ownerMsg
  exact State.ownerCmd_otp _ _ _ _ _ fun _ => State.ownerRun_otp _ _ _
@[simp] theorem State.retrain_otp (s : State) (word : Nat) : (State.retrain s word).otp = s.otp := by
  unfold State.retrain
  dsimp only
  (repeat' split) <;> simp -implicitDefEqProofs
@[simp] theorem State.suspendBank_otp (s : State) (i : Nat) : (State.suspendBank s i).otp = s.otp := by
  unfold State.suspendBank
  (repeat' (first | with_reducible rfl | intro _ | with_reducible apply ite_otp | split | (simp -implicitDefEqProofs; done) | refine (each_otp _ _ _ ?_).trans ?_ | refine (foldl_otp _ _ _ ?_).trans ?_ | refine (when_otp _ _ _ ?_).trans ?_ | refine (foldl1_otp _ _ _ ?_).trans ?_ | simp -implicitDefEqProofs))
@[simp] theorem State.setLink_otp (s : State) (up : Bool) (gen width : Nat) : (State.setLink s up gen width).otp = s.otp := by
  simp -implicitDefEqProofs [State.setLink]
@[simp] theorem State.espiDup_otp (s : State) (ch tag : Nat) : (State.espiDup s ch tag).otp = s.otp := by
  unfold State.espiDup
  (repeat' split) <;> simp
@[simp] theorem State.espiFetch_otp (s : State) (ch tag addr len : Nat) (p : Prog) (lines : List LineObs) : (State.espiFetch s ch tag addr len p lines).1.otp = s.otp := by
  simp [State.espiFetch]
  (repeat' split) <;> simp_all
@[simp] theorem State.espiWrite_otp (s : State) (ch opcode cls lo len tag : Nat) (data : List (Option Byte)) (lines recheck : List LineObs) (differ : Bool) : (State.espiWrite s ch opcode cls lo len tag data lines recheck differ).otp = s.otp := by
  unfold State.espiWrite
  dsimp only
  exact ite_otp (by simp) (by simp)
@[simp] theorem State.unknownOp_otp (s : State) (a w : Nat) : (State.unknownOp s a w).otp = s.otp := by
  unfold State.unknownOp
  dsimp only
  repeat' (first | with_reducible rfl | with_reducible apply ite_otp)
  all_goals simp -implicitDefEqProofs
@[simp] theorem State.blockWrite_otp (s : State) (a w : Nat) : (State.blockWrite s a w).otp = s.otp := by
  unfold State.blockWrite
  (repeat' split) <;> simp -implicitDefEqProofs
@[simp] theorem State.tick_otp (s : State) : (State.tick s).otp = s.otp := by
  simp -implicitDefEqProofs [State.tick]

/-! ### What programs OTP -/
@[simp] theorem State.clearLater_otp (s : State) (e : Nat) : (State.clearLater s e).otp = s.otp := by
  simp [State.clearLater]
  (repeat' split) <;> simp_all
@[simp] theorem State.otherDone_otp (s : State) (d : Nat) : (State.otherDone s d).otp = s.otp := by
  simp [State.otherDone]
@[simp] theorem State.regionRead_otp (s : State) (fb d r leaves : Nat) : (State.regionRead s fb d r leaves).otp = s.otp := by
  simp [State.regionRead]
  (repeat' split) <;> simp_all
@[simp] theorem State.tableWritten_otp (s : State) (ch : Nat) : (State.tableWritten s ch).otp = s.otp := by
  simp [State.tableWritten]
@[simp] theorem State.deferReset_otp (s : State) (cause : Nat) : (State.deferReset s cause).otp = s.otp := by
  simp [State.deferReset]
@[simp] theorem State.markCommitted_otp (s : State) (m i : Nat) : (State.markCommitted s m i).otp = s.otp := by
  simp [State.markCommitted]
@[simp] theorem State.flipAltered_otp (s : State) (c w m : Nat) : (State.flipAltered s c w m).otp = s.otp := by
  simp [State.flipAltered]
  (repeat' split) <;> simp_all
@[simp] theorem State.flipOtp_otp (s : State) (k m w : Nat) : (State.flipOtp s k m w).otp = s.otp := by
  simp [State.flipOtp]
@[simp] theorem State.engUe_otp (s : State) (e w : Nat) : (State.engUe s e w).otp = s.otp := by
  simp [State.engUe]
  (repeat' split) <;> simp_all
@[simp] theorem State.otherLate_otp (s : State) (dev who addr : Nat) : (State.otherLate s dev who addr).otp = s.otp := by
  simp [State.otherLate]
  (repeat' split) <;> simp_all
@[simp] theorem State.stagedFor_otp (s : State) (c : OCmd) : (State.stagedFor s c).otp = s.otp := by
  simp [State.stagedFor]
  (repeat' split) <;> simp_all
@[simp] theorem State.replayDom_otp (s : State) (d : Nat) (h0 h1 : List Byte) : (State.replayDom s d h0 h1).otp = s.otp := by
  simp [State.replayDom]
  (repeat' split) <;> simp_all
@[simp] theorem State.asSpdm_otp (s : State) (tn : Nat) : (State.asSpdm s tn).otp = s.otp := by
  simp [State.asSpdm]
  (repeat' split) <;> simp_all
@[simp] theorem State.refSpare_otp (s : State) : (State.refSpare s).otp = s.otp := by
  simp [State.refSpare]


/-- No bit of OTP that reads 1 in `s` reads 0 in `t`. -/
def OtpGrows (s t : State) : Prop := ∀ w, otpRaw s w &&& otpRaw t w = otpRaw s w

theorem OtpGrows.of_words {s t : State} (h : t.otp.words = s.otp.words) : OtpGrows s t := fun w => by
  simp only [otpRaw, h, BitVec.and_self]
theorem OtpGrows.of_otp {s t : State} (h : t.otp = s.otp) : OtpGrows s t := OtpGrows.of_words (by rw [h])
theorem OtpGrows.refl (s : State) : OtpGrows s s := OtpGrows.of_words rfl
theorem OtpGrows.trans {s t u : State} (h : OtpGrows s t) (k : OtpGrows t u) : OtpGrows s u := fun w => by
  rw [← h w, BitVec.and_assoc, k w]
/-- What follows leaves OTP as it is. -/
theorem OtpGrows.then {s t u : State} (h : OtpGrows s t) (k : u.otp = t.otp) : OtpGrows s u := h.trans (OtpGrows.of_otp k)
theorem OtpGrows.ite {c : Prop} [Decidable c] {s a b : State} (ha : OtpGrows s a) (hb : OtpGrows s b) : OtpGrows s (if c then a else b) := by
  split
  · exact ha
  · exact hb
theorem OtpGrows.each {α : Type} (s : State) (l : List α) (f : State → α → State) (h : ∀ s a, OtpGrows s (f s a)) : OtpGrows s (s.each l f) := by
  unfold State.each
  induction l generalizing s with
  | nil => exact OtpGrows.refl s
  | cons a l ih => exact (h s a).trans (ih _)

/-- Bits that are programmed stay programmed where OTP grows. -/
theorem OtpGrows.programmed {s t : State} (h : OtpGrows s t) (w : Nat) (bits : BitVec 64) (k : programmed w bits s) : programmed w bits t := by
  unfold Machine.programmed at *
  calc otpRaw t w &&& bits = otpRaw t w &&& (otpRaw s w &&& bits) := by rw [k]
    _ = otpRaw s w &&& otpRaw t w &&& bits := by rw [← BitVec.and_assoc, BitVec.and_comm (otpRaw t w)]
    _ = bits := by rw [h w, k]

theorem otpProgram_grows (s : State) (w : Nat) (v : BitVec 64) : OtpGrows s (s.otpProgram w v) := fun k => by
  unfold otpRaw State.otpProgram
  simp only [Sparse.get_put]
  split
  · subst_vars
    ext i
    simp [otpRaw]
    intro h
    exact .inl h
  · simp
theorem tearWords_grows (s : State) (ws : List Nat) : OtpGrows s (s.tearWords ws) := OtpGrows.of_words rfl
theorem burnWords_grows (s : State) (ws : List Nat) : OtpGrows s (s.burnWords ws) :=
  OtpGrows.each _ _ _ fun s w => (otpProgram_grows s w _).trans (OtpGrows.of_words rfl)
theorem cutCodes_grows (s : State) : OtpGrows s s.cutCodes := by
  unfold State.cutCodes
  split
  · exact OtpGrows.refl s
  · exact (OtpGrows.of_otp (s := s) (t := s.free.2.free.2) rfl).trans (OtpGrows.each _ _ _ fun s i => otpProgram_grows s i _)
theorem cutRows_grows (s : State) : OtpGrows s s.cutRows := by
  unfold State.cutRows
  split
  · exact OtpGrows.refl s
  · exact ((OtpGrows.of_otp (s := s) (t := s.free.2) rfl).trans (OtpGrows.each _ _ _ fun s r => otpProgram_grows s _ _)).trans (tearWords_grows _ _)
theorem cutScrap_grows (s : State) : OtpGrows s s.cutScrap := by
  unfold State.cutScrap
  split
  · exact OtpGrows.refl s
  · exact ((OtpGrows.of_otp (s := s) (t := s.free.2) rfl).trans (burnWords_grows _ _)).trans (tearWords_grows _ _)
theorem cutSvn_grows (s : State) : OtpGrows s s.cutSvn := by
  unfold State.cutSvn
  split
  · exact OtpGrows.refl s
  · exact (OtpGrows.of_otp (s := s) (t := s.free.2) rfl).trans (OtpGrows.ite (otpProgram_grows _ _ _) (tearWords_grows _ _))
theorem otpCut_grows (s : State) : OtpGrows s s.otpCut :=
  (((cutCodes_grows s).trans (cutRows_grows _)).trans (cutScrap_grows _)).trans (cutSvn_grows _)
/-- A device reset keeps OTP, but for programming that it cuts off (R58). -/
theorem deviceReset_grows (s : State) (c : Nat) : OtpGrows s (s.deviceReset c) :=
  (otpCut_grows s).then (keepFields_keeps State.otp (fun _ _ _ => rfl) _ _)
theorem resetNow_grows (s : State) (c : Nat) (b : Bool) : OtpGrows s (s.resetNow c b) := (deviceReset_grows s c).then (State.endReset_otp _ _)
theorem forceReset_grows (s : State) (c : Nat) (b : Bool) : OtpGrows s (s.forceReset c b) := by
  unfold State.forceReset
  exact OtpGrows.ite (OtpGrows.of_otp (State.deferReset_otp _ _)) (resetNow_grows _ _ _)
theorem askReset_grows (s : State) (c : Nat) (b : Bool) : OtpGrows s (s.askReset c b) := by
  unfold State.askReset
  exact OtpGrows.ite (OtpGrows.of_otp (State.deferReset_otp _ _)) (forceReset_grows _ _ _)
theorem otpMove_grows (s : State) (w : Nat) (v : BitVec 64) : OtpGrows s (s.otpMove w v) := by
  unfold State.otpMove
  split
  · exact ((otpProgram_grows _ _ _).trans (otpProgram_grows _ _ _)).then
      (by rw [State.spareUsed_otp, State.setF_otp, State.raise_otp])
  · exact OtpGrows.refl s
theorem otpRemap_grows (s : State) (w : Nat) : OtpGrows s (s.otpRemap w) := otpMove_grows _ _ _
theorem otpBurn_grows (s : State) (w : Nat) (v : BitVec 64) (bad : Bool) : OtpGrows s (s.otpBurn w v bad) := by
  have k := otpProgram_grows s w v
  unfold State.otpBurn
  exact OtpGrows.ite ((k.trans (tearWords_grows _ _)).trans (otpMove_grows _ _ _)) k
theorem otpScan_grows (s : State) (a : List (Nat × Nat)) (b : List Nat) : OtpGrows s (s.otpScan a b) := by
  unfold State.otpScan
  refine OtpGrows.trans (OtpGrows.trans (OtpGrows.trans ?_ (OtpGrows.of_otp (each_otp _ _ _ fun _ _ => State.applyRepair_otp _ _)))
    (OtpGrows.of_otp (each_otp _ _ _ fun _ _ => State.uncorrectable_otp _ _ _ _ _))) (OtpGrows.each _ _ _ fun s w => ?_)
  · exact OtpGrows.each _ _ _ fun s w => OtpGrows.of_words rfl
  · exact (OtpGrows.of_otp (State.corrected_otp s 12 w.1 w.2 0 0)).trans (otpRemap_grows _ _)

end Sys2Proof.Machine
end

