-- ==== Sys2Proof/Laws/OtpArms.lean ====
section
/-! SUPPORT. What each command leaves of OTP: a lemma `_otp` says that a command leaves it as it is, a lemma `_grows` that it clears no
bit (R381). -/

namespace Sys2Proof.Machine

set_option linter.unusedSimpArgs false

theorem execRegisterWrite_otp (addr value width requester : Nat) (s : State) (t : State) (h : execRegisterWrite addr value width requester s = .next t) : t.otp = s.otp := by
  unfold execRegisterWrite at h
  cases h
  dsimp only
  (repeat' split) <;> simp -implicitDefEqProofs
theorem execDebugRead_otp (addr : Nat) (s : State) (t : State) (h : execDebugRead addr s = .next t) : t.otp = s.otp := by
  unfold execDebugRead at h
  cases h
  (repeat' split) <;> simp -implicitDefEqProofs
theorem execBusAccessFault_otp (addr width : Nat) (write : Bool) (s : State) (t : State) (h : execBusAccessFault addr width write s = .next t) : t.otp = s.otp := by
  unfold execBusAccessFault at h
  cases h
  (repeat' split) <;> simp -implicitDefEqProofs
theorem execMainPowerGood_otp (testen : Bool) (banks : List Nat) (s : State) (t : State) (h : execMainPowerGood testen banks s = .next t) : t.otp = s.otp := by
  unfold execMainPowerGood at h
  cases h
  (repeat' split) <;> simp -implicitDefEqProofs
theorem execSysRstNRelease_otp (testen : Bool) (s : State) (t : State) (h : execSysRstNRelease testen s = .next t) : t.otp = s.otp := by
  unfold execSysRstNRelease at h
  cases h
  (repeat' split) <;> simp -implicitDefEqProofs
theorem execRstpinStuckTimeout_otp (testen : Bool) (s : State) (t : State) (h : execRstpinStuckTimeout testen s = .next t) : t.otp = s.otp := by
  unfold execRstpinStuckTimeout at h
  cases h
  (repeat' split) <;> simp -implicitDefEqProofs
theorem execPinIgnoredClear_otp (s : State) (t : State) (h : execPinIgnoredClear s = .next t) : t.otp = s.otp := by
  unfold execPinIgnoredClear at h
  cases h
  (repeat' split) <;> simp -implicitDefEqProofs
theorem execPllLock_otp (pll : Nat) (s : State) (t : State) (h : execPllLock pll s = .next t) : t.otp = s.otp := by
  unfold execPllLock at h
  cases h
  dsimp only
  (repeat' split) <;> simp -implicitDefEqProofs
theorem execRomStart_otp (bad : List Nat) (s : State) (t : State) (h : execRomStart bad s = .next t) : t.otp = s.otp := by
  unfold execRomStart at h
  cases h
  dsimp only
  (repeat' split) <;> simp -implicitDefEqProofs
theorem execCopyReadDone_otp (img : CopyImage) (s : State) (t : State) (h : execCopyReadDone img s = .next t) : t.otp = s.otp := by
  unfold execCopyReadDone at h
  cases h
  dsimp only
  (repeat' split) <;> simp -implicitDefEqProofs
theorem execHandover_otp (s : State) (t : State) (h : execHandover s = .next t) : t.otp = s.otp := by
  unfold execHandover at h
  cases h
  dsimp only
  (repeat' split) <;> simp -implicitDefEqProofs
theorem execTrainingDone_otp (iface : Nat) (pass : Bool) (cap : Nat) (s : State) (t : State) (h : execTrainingDone iface pass cap s = .next t) : t.otp = s.otp := by
  unfold execTrainingDone at h
  cases h
  dsimp only
  (repeat' split) <;> simp -implicitDefEqProofs
theorem execAssemblyEnd_otp (badLanes : List Nat) (badFe : List (Nat × Nat)) (levels : Nat) (s : State) (t : State)
    (h : execAssemblyEnd badLanes badFe levels s = .next t) : t.otp = s.otp := by
  unfold execAssemblyEnd at h
  cases h
  refine ite_otp rfl (ite_otp (State.assertFault_otp s) ?_)
  split <;> (rename_i e; have k := (congrArg (fun x => x.1.otp) e).symm.trans (State.loadPlaneKeys_otp s))
  · exact (State.assertFault_otp _).trans k
  · exact (State.showStage_otp _).trans ((State.leaveAssembly_otp _).trans ((State.assemblyDone_otp _ _ _ _).trans k))
theorem execLedgerReplayDone_otp (h0 h1 : List Byte) (s : State) (t : State) (h : execLedgerReplayDone h0 h1 s = .next t) : t.otp = s.otp := by
  unfold execLedgerReplayDone at h
  cases h
  dsimp only
  (repeat' split) <;> simp -implicitDefEqProofs
theorem execBvRestart_otp (word : Nat) (s : State) (t : State) (h : execBvRestart word s = .next t) : t.otp = s.otp := by
  unfold execBvRestart at h
  cases h
  (repeat' split) <;> simp -implicitDefEqProofs
theorem execWdtKick_otp (word : Nat) (s : State) (t : State) (h : execWdtKick word s = .next t) : t.otp = s.otp := by
  unfold execWdtKick at h
  cases h
  (repeat' split) <;> simp -implicitDefEqProofs
theorem execWdtExpiry_otp (s : State) (t : State) (h : execWdtExpiry s = .next t) : t.otp = s.otp := by
  unfold execWdtExpiry at h
  cases h
  (repeat' split) <;> simp -implicitDefEqProofs
theorem execFailover_otp (s : State) (t : State) (h : execFailover s = .next t) : t.otp = s.otp := by
  unfold execFailover at h
  cases h
  simp -implicitDefEqProofs
theorem execReferenceLost_otp (ref : Nat) (s : State) (t : State) (h : execReferenceLost ref s = .next t) : t.otp = s.otp := by
  unfold execReferenceLost at h
  cases h
  dsimp only
  (repeat' split) <;> simp -implicitDefEqProofs
theorem execPllUnlock_otp (pll : Nat) (s : State) (t : State) (h : execPllUnlock pll s = .next t) : t.otp = s.otp := by
  unfold execPllUnlock at h
  cases h
  dsimp only
  (repeat' split) <;> simp -implicitDefEqProofs
theorem execSwitchReq_otp (s : State) (t : State) (h : execSwitchReq s = .next t) : t.otp = s.otp := by
  unfold execSwitchReq at h
  cases h
  dsimp only
  (repeat' split) <;> simp -implicitDefEqProofs
theorem execPlaneIsolation_otp (plane cause : Nat) (s : State) (t : State) (h : execPlaneIsolation plane cause s = .next t) : t.otp = s.otp := by
  unfold execPlaneIsolation at h
  cases h
  (repeat' split) <;> simp -implicitDefEqProofs
theorem execRebuildA_otp (word : Nat) (s : State) (t : State) (h : execRebuildA word s = .next t) : t.otp = s.otp := by
  unfold execRebuildA at h
  cases h
  simp -implicitDefEqProofs
theorem execRebuildB_otp (word : Nat) (s : State) (t : State) (h : execRebuildB word s = .next t) : t.otp = s.otp := by
  unfold execRebuildB at h
  cases h
  simp -implicitDefEqProofs
theorem execRebuildDone_otp (plane : Nat) (s : State) (t : State) (h : execRebuildDone plane s = .next t) : t.otp = s.otp := by
  unfold execRebuildDone at h
  cases h
  (repeat' split) <;> simp -implicitDefEqProofs
theorem execRetrain0_otp (word : Nat) (s : State) (t : State) (h : execRetrain0 word s = .next t) : t.otp = s.otp := by
  unfold execRetrain0 at h
  cases h
  simp -implicitDefEqProofs
theorem execRetrain1_otp (word : Nat) (s : State) (t : State) (h : execRetrain1 word s = .next t) : t.otp = s.otp := by
  unfold execRetrain1 at h
  cases h
  simp -implicitDefEqProofs
theorem execBankClassChange_otp (bank cls : Nat) (s : State) (t : State) (h : execBankClassChange bank cls s = .next t) : t.otp = s.otp := by
  unfold execBankClassChange at h
  cases h
  dsimp only
  (repeat' split) <;> simp -implicitDefEqProofs
theorem execBankResume_otp (bank : Nat) (s : State) (t : State) (h : execBankResume bank s = .next t) : t.otp = s.otp := by
  unfold execBankResume at h
  cases h
  (repeat' (first | with_reducible rfl | intro _ | with_reducible apply ite_otp | split | (simp -implicitDefEqProofs; done) | refine (each_otp _ _ _ ?_).trans ?_ | refine (foldl_otp _ _ _ ?_).trans ?_ | refine (when_otp _ _ _ ?_).trans ?_ | simp -implicitDefEqProofs))
theorem execPePerstNChange_otp (level : Bool) (s : State) (t : State) (h : execPePerstNChange level s = .next t) : t.otp = s.otp := by
  unfold execPePerstNChange at h
  cases h
  (repeat' split) <;> simp -implicitDefEqProofs
theorem execGateHold_otp (dom : Nat) (s : State) (t : State) (h : execGateHold dom s = .next t) : t.otp = s.otp := by
  unfold execGateHold at h
  cases h
  simp -implicitDefEqProofs
theorem execGateRelease_otp (dom : Nat) (s : State) (t : State) (h : execGateRelease dom s = .next t) : t.otp = s.otp := by
  unfold execGateRelease at h
  cases h
  simp -implicitDefEqProofs
theorem execResetCycle_otp (dom : Nat) (s : State) (t : State) (h : execResetCycle dom s = .next t) : t.otp = s.otp := by
  unfold execResetCycle at h
  cases h
  simp -implicitDefEqProofs
theorem execRecover_otp (dom : Nat) (s : State) (t : State) (h : execRecover dom s = .next t) : t.otp = s.otp := by
  unfold execRecover at h
  cases h
  simp -implicitDefEqProofs
theorem execQuarantine_otp (dom : Nat) (s : State) (t : State) (h : execQuarantine dom s = .next t) : t.otp = s.otp := by
  unfold execQuarantine at h
  cases h
  simp -implicitDefEqProofs
theorem execEnterLockdown_otp (dom : Nat) (s : State) (t : State) (h : execEnterLockdown dom s = .next t) : t.otp = s.otp := by
  unfold execEnterLockdown at h
  cases h
  simp -implicitDefEqProofs
theorem execHoldStep_otp (dom : Nat) (s : State) (t : State) (h : execHoldStep dom s = .next t) : t.otp = s.otp := by
  unfold execHoldStep at h
  cases h
  (repeat' split) <;> simp -implicitDefEqProofs
theorem execDomainPass_otp (dom : Nat) (s : State) (t : State) (h : execDomainPass dom s = .next t) : t.otp = s.otp := by
  unfold execDomainPass at h
  cases h
  (repeat' split) <;> simp -implicitDefEqProofs
theorem execReleaseDelayExpiry_otp (dom : Nat) (s : State) (t : State) (h : execReleaseDelayExpiry dom s = .next t) : t.otp = s.otp := by
  unfold execReleaseDelayExpiry at h
  cases h
  (repeat' split) <;> simp -implicitDefEqProofs
theorem execReleaseStep_otp (dom : Nat) (s : State) (t : State) (h : execReleaseStep dom s = .next t) : t.otp = s.otp := by
  unfold execReleaseStep at h
  cases h
  (repeat' split) <;> simp -implicitDefEqProofs
theorem execPgTimeout_otp (dom : Nat) (s : State) (t : State) (h : execPgTimeout dom s = .next t) : t.otp = s.otp := by
  unfold execPgTimeout at h
  cases h
  (repeat' split) <;> simp -implicitDefEqProofs
theorem execPclInputChange_otp (pcl : Nat) (level : Bool) (s : State) (t : State) (h : execPclInputChange pcl level s = .next t) : t.otp = s.otp := by
  unfold execPclInputChange at h
  cases h
  (repeat' split) <;> simp -implicitDefEqProofs
theorem execRstPulseEnd_otp (dom : Nat) (s : State) (t : State) (h : execRstPulseEnd dom s = .next t) : t.otp = s.otp := by
  unfold execRstPulseEnd at h
  cases h
  dsimp only
  (repeat' split) <;> simp -implicitDefEqProofs
theorem execRstreqStuck_otp (pcl : Nat) (s : State) (t : State) (h : execRstreqStuck pcl s = .next t) : t.otp = s.otp := by
  unfold execRstreqStuck at h
  cases h
  dsimp only
  (repeat' split) <;> simp -implicitDefEqProofs
theorem execRstreqIgnoredClear_otp (pcl : Nat) (s : State) (t : State) (h : execRstreqIgnoredClear pcl s = .next t) : t.otp = s.otp := by
  unfold execRstreqIgnoredClear at h
  cases h
  (repeat' split) <;> simp -implicitDefEqProofs
theorem execManifestReadDone_otp (dom : Nat) (bytes : List Byte) (s : State) (t : State) (h : execManifestReadDone dom bytes s = .next t) : t.otp = s.otp := by
  unfold execManifestReadDone at h
  cases h
  (repeat' split) <;> simp -implicitDefEqProofs
theorem execManReady_otp (s : State) (t : State) (h : execManReady s = .next t) : t.otp = s.otp := by
  unfold execManReady at h
  cases h
  (repeat' split) <;> simp -implicitDefEqProofs
theorem execAccept_otp (dom : Nat) (s : State) (t : State) (h : execAccept dom s = .next t) : t.otp = s.otp := by
  unfold execAccept at h
  cases h
  (repeat' split) <;> simp -implicitDefEqProofs
theorem execReject_otp (dom code : Nat) (s : State) (t : State) (h : execReject dom code s = .next t) : t.otp = s.otp := by
  unfold execReject at h
  cases h
  (repeat' split) <;> simp -implicitDefEqProofs
theorem execReverify_otp (dom : Nat) (s : State) (t : State) (h : execReverify dom s = .next t) : t.otp = s.otp := by
  unfold execReverify at h
  cases h
  (repeat' split) <;> simp -implicitDefEqProofs
theorem execLoaderAbort_otp (dom : Nat) (s : State) (t : State) (h : execLoaderAbort dom s = .next t) : t.otp = s.otp := by
  unfold execLoaderAbort at h
  cases h
  (repeat' split) <;> simp -implicitDefEqProofs
theorem execLoadBurstDone_otp (b : Burst) (s : State) (t : State) (h : execLoadBurstDone b s = .next t) : t.otp = s.otp := by
  unfold execLoadBurstDone at h
  cases h
  dsimp only
  (repeat' split) <;> simp -implicitDefEqProofs
theorem execBurstTimeout_otp (dom fb : Nat) (s : State) (t : State) (h : execBurstTimeout dom fb s = .next t) : t.otp = s.otp := by
  unfold execBurstTimeout at h
  cases h
  dsimp only
  (repeat' split) <;> simp -implicitDefEqProofs
theorem execReverifyDone_otp (dom : Nat) (s : State) (t : State) (h : execReverifyDone dom s = .next t) : t.otp = s.otp := by
  unfold execReverifyDone at h
  cases h
  (repeat' split) <;> simp -implicitDefEqProofs
theorem execStageAlloc_otp (s t : State) (h : execStageAlloc s = .next t) : t.otp = s.otp := by
  unfold execStageAlloc at h
  cases h
  split
  · simp -implicitDefEqProofs
  · split
    · rename_i e; rw [State.cmdEnd_otp]; exact State.stageAlloc_otp _ _ _ _ _ e
    · simp
theorem execStageWrite_otp (handle : Nat) (s : State) (t : State) (h : execStageWrite handle s = .next t) : t.otp = s.otp := by
  unfold execStageWrite at h
  cases h
  (repeat' split) <;> simp -implicitDefEqProofs
theorem execStageHash_otp (handle : Nat) (s : State) (t : State) (h : execStageHash handle s = .next t) : t.otp = s.otp := by
  unfold execStageHash at h
  cases h
  (repeat' split) <;> simp -implicitDefEqProofs
theorem execStageFree_otp (handle : Nat) (s : State) (t : State) (h : execStageFree handle s = .next t) : t.otp = s.otp := by
  unfold execStageFree at h
  cases h
  (repeat' split) <;> simp -implicitDefEqProofs
theorem execRevoke_otp (dom : Nat) (s : State) (t : State) (h : execRevoke dom s = .next t) : t.otp = s.otp := by
  unfold execRevoke at h
  cases h
  (repeat' split) <;> simp -implicitDefEqProofs
theorem execOrangeryAbort_otp (s : State) (t : State) (h : execOrangeryAbort s = .next t) : t.otp = s.otp := by
  unfold execOrangeryAbort at h
  cases h
  (repeat' split) <;> simp -implicitDefEqProofs
theorem execOrangeryCmdDone_otp (s : State) (t : State) (h : execOrangeryCmdDone s = .next t) : t.otp = s.otp := by
  unfold execOrangeryCmdDone at h
  cases h
  (repeat' split) <;> simp -implicitDefEqProofs
theorem execRefetchDone_otp (dom region leaf : Nat) (data reread : List Byte) (s : State) (t : State) (h : execRefetchDone dom region leaf data reread s = .next t) : t.otp = s.otp := by
  unfold execRefetchDone at h
  cases h
  (repeat' split) <;> simp -implicitDefEqProofs
theorem execLostLeafRefetch_otp (dom region leaf : Nat) (data reread : List Byte) (s : State) (t : State) (h : execLostLeafRefetch dom region leaf data reread s = .next t) : t.otp = s.otp := by
  unfold execLostLeafRefetch at h
  cases h
  (repeat' split) <;> simp -implicitDefEqProofs
theorem execRekeyStart_otp (s : State) (t : State) (h : execRekeyStart s = .next t) : t.otp = s.otp := by
  unfold execRekeyStart at h
  cases h
  dsimp only
  (repeat' split) <;> simp -implicitDefEqProofs
theorem execRekeyDone_otp (s : State) (t : State) (h : execRekeyDone s = .next t) : t.otp = s.otp := by
  unfold execRekeyDone at h
  cases h
  dsimp only
  (repeat' split) <;> simp -implicitDefEqProofs
theorem execLedgerAppendDone_otp (typ : Nat) (ok : Bool) (code : Nat) (differ : Bool) (s : State) (t : State) (h : execLedgerAppendDone typ ok code differ s = .next t) : t.otp = s.otp := by
  unfold execLedgerAppendDone at h
  cases h
  (repeat' split) <;> simp -implicitDefEqProofs
theorem execLedgerSwitchRetry_otp (s : State) (t : State) (h : execLedgerSwitchRetry s = .next t) : t.otp = s.otp := by
  unfold execLedgerSwitchRetry at h
  cases h
  (repeat' split) <;> simp -implicitDefEqProofs
theorem execRvLeaf_otp (dom region leaf : Nat) (data reread : List Byte) (badA badB : Bool) (s : State) (t : State) (h : execRvLeaf dom region leaf data reread badA badB s = .next t) : t.otp = s.otp := by
  unfold execRvLeaf at h
  cases h
  (repeat' (first | with_reducible rfl | intro _ | with_reducible apply ite_otp | split | (simp -implicitDefEqProofs; done) | refine (each_otp _ _ _ ?_).trans ?_ | refine (foldl_otp _ _ _ ?_).trans ?_ | refine (when_otp _ _ _ ?_).trans ?_ | simp -implicitDefEqProofs))
theorem execRead_otp (f : Frame) (s : State) (t : State) (h : execRead f s = .next t) : t.otp = s.otp := by
  unfold execRead at h
  cases h
  refine State.onFrame_otp _ _ _ _ fun t d ht => ?_
  (repeat' (first | with_reducible exact ht | with_reducible apply ite_otp | (refine (State.plain_otp _ _ _ _ _ ?_ ?_).trans ht) | intro _ | (simp -implicitDefEqProofs [ht]; done) | split))
theorem execProgram_otp (f : Frame) (s : State) (t : State) (h : execProgram f s = .next t) : t.otp = s.otp := by
  unfold execProgram at h
  cases h
  refine State.onFrame_otp _ _ _ _ fun t d ht => ?_
  dsimp only
  (repeat' (first | with_reducible exact ht | with_reducible apply ite_otp | (refine (State.plain_otp _ _ _ _ _ ?_ ?_).trans ht) | intro _ | (simp -implicitDefEqProofs [ht]; done) | split))
theorem execEraseSector_otp (f : Frame) (s : State) (t : State) (h : execEraseSector f s = .next t) : t.otp = s.otp := by
  unfold execEraseSector at h
  cases h
  refine State.onFrame_otp _ _ _ _ fun t d ht => ?_
  (repeat' (first | with_reducible exact ht | with_reducible apply ite_otp | (refine (State.plain_otp _ _ _ _ _ ?_ ?_).trans ht) | intro _ | (simp -implicitDefEqProofs [ht]; done) | split))
theorem execEraseChip_otp (f : Frame) (s : State) (t : State) (h : execEraseChip f s = .next t) : t.otp = s.otp := by
  unfold execEraseChip at h
  cases h
  refine State.onFrame_otp _ _ _ _ fun t d ht => ?_
  (repeat' (first | with_reducible exact ht | with_reducible apply ite_otp | (refine (State.plain_otp _ _ _ _ _ ?_ ?_).trans ht) | intro _ | (simp -implicitDefEqProofs [ht]; done) | split))
theorem execWriteEnable_otp (f : Frame) (s : State) (t : State) (h : execWriteEnable f s = .next t) : t.otp = s.otp := by
  unfold execWriteEnable at h
  cases h
  refine State.onFrame_otp _ _ _ _ fun t d ht => ?_
  (repeat' (first | with_reducible exact ht | with_reducible apply ite_otp | (refine (State.plain_otp _ _ _ _ _ ?_ ?_).trans ht) | intro _ | (simp -implicitDefEqProofs [ht]; done) | split))
theorem execWriteDisable_otp (f : Frame) (s : State) (t : State) (h : execWriteDisable f s = .next t) : t.otp = s.otp := by
  unfold execWriteDisable at h
  cases h
  refine State.onFrame_otp _ _ _ _ fun t d ht => ?_
  (repeat' (first | with_reducible exact ht | with_reducible apply ite_otp | (refine (State.plain_otp _ _ _ _ _ ?_ ?_).trans ht) | intro _ | (simp -implicitDefEqProofs [ht]; done) | split))
theorem execReadStatus_otp (f : Frame) (s : State) (t : State) (h : execReadStatus f s = .next t) : t.otp = s.otp := by
  unfold execReadStatus at h
  cases h
  refine State.onFrame_otp _ _ _ _ fun t d ht => ?_
  (repeat' (first | with_reducible exact ht | with_reducible apply ite_otp | (refine (State.plain_otp _ _ _ _ _ ?_ ?_).trans ht) | intro _ | (simp -implicitDefEqProofs [ht]; done) | split))
theorem execWriteStatus_otp (f : Frame) (s t : State) (h : execWriteStatus f s = .next t) : t.otp = s.otp := by
  unfold execWriteStatus at h
  cases h
  refine State.onFrame_otp _ _ _ _ fun t d ht => ite_otp ht (ite_otp (by simp [ht]) ?_)
  extract_lets df act s1 s2 s3 s4
  have h1 : s1.otp = s.otp := ite_otp (by simp [ht]) ht
  have h2 : s2.otp = s.otp := by simp [s2, h1]
  have h3 : s3.otp = s.otp := by simp [s3, h2]
  have h4 : s4.otp = s.otp := by simp [s4, h2]
  exact ite_otp (by simp [h3]) (ite_otp (by simp [h4]) h4)
theorem execReadId_otp (f : Frame) (s : State) (t : State) (h : execReadId f s = .next t) : t.otp = s.otp := by
  unfold execReadId at h
  cases h
  refine State.onFrame_otp _ _ _ _ fun t d ht => ?_
  (repeat' (first | with_reducible exact ht | with_reducible apply ite_otp | (refine (State.plain_otp _ _ _ _ _ ?_ ?_).trans ht) | intro _ | (simp -implicitDefEqProofs [ht]; done) | split))
theorem execReadSfdp_otp (f : Frame) (s : State) (t : State) (h : execReadSfdp f s = .next t) : t.otp = s.otp := by
  unfold execReadSfdp at h
  cases h
  refine State.onFrame_otp _ _ _ _ fun t d ht => ?_
  dsimp only
  (repeat' (first | with_reducible exact ht | with_reducible apply ite_otp | (refine (State.plain_otp _ _ _ _ _ ?_ ?_).trans ht) | intro _ | (simp -implicitDefEqProofs [ht]; done) | split))
theorem execSuspend_otp (f : Frame) (s : State) (t : State) (h : execSuspend f s = .next t) : t.otp = s.otp := by
  unfold execSuspend at h
  cases h
  refine State.onFrame_otp _ _ _ _ fun t d ht => ?_
  (repeat' (first | with_reducible exact ht | with_reducible apply ite_otp | (refine (State.plain_otp _ _ _ _ _ ?_ ?_).trans ht) | intro _ | (simp -implicitDefEqProofs [ht]; done) | split))
theorem execResume_otp (f : Frame) (s : State) (t : State) (h : execResume f s = .next t) : t.otp = s.otp := by
  unfold execResume at h
  cases h
  refine State.onFrame_otp _ _ _ _ fun t d ht => ?_
  (repeat' (first | with_reducible exact ht | with_reducible apply ite_otp | (refine (State.plain_otp _ _ _ _ _ ?_ ?_).trans ht) | intro _ | (simp -implicitDefEqProofs [ht]; done) | split))
theorem execResetEnable_otp (f : Frame) (s : State) (t : State) (h : execResetEnable f s = .next t) : t.otp = s.otp := by
  unfold execResetEnable at h
  cases h
  refine State.onFrame_otp _ _ _ _ fun t d ht => ?_
  (repeat' (first | with_reducible exact ht | with_reducible apply ite_otp | (refine (State.plain_otp _ _ _ _ _ ?_ ?_).trans ht) | intro _ | (simp -implicitDefEqProofs [ht]; done) | split))
theorem execFlashReset_otp (f : Frame) (s t : State) (h : execFlashReset f s = .next t) : t.otp = s.otp := by
  unfold execFlashReset at h
  cases h
  refine State.onFrame_otp _ _ _ _ fun t d ht => ite_otp ?_ ht
  exact (State.plain_otp _ _ _ _ _ (fun _ => State.devReset_otp _ _) fun _ => rfl).trans ht
theorem execModeAddr4Set_otp (f : Frame) (s : State) (t : State) (h : execModeAddr4Set f s = .next t) : t.otp = s.otp := by
  unfold execModeAddr4Set at h
  cases h
  refine State.onFrame_otp _ _ _ _ fun t d ht => ?_
  (repeat' (first | with_reducible exact ht | with_reducible apply ite_otp | (refine (State.plain_otp _ _ _ _ _ ?_ ?_).trans ht) | intro _ | (simp -implicitDefEqProofs [ht]; done) | split))
theorem execModeAddr4Clear_otp (f : Frame) (s : State) (t : State) (h : execModeAddr4Clear f s = .next t) : t.otp = s.otp := by
  unfold execModeAddr4Clear at h
  cases h
  refine State.onFrame_otp _ _ _ _ fun t d ht => ?_
  (repeat' (first | with_reducible exact ht | with_reducible apply ite_otp | (refine (State.plain_otp _ _ _ _ _ ?_ ?_).trans ht) | intro _ | (simp -implicitDefEqProofs [ht]; done) | split))
theorem execModeQpiSet_otp (f : Frame) (s : State) (t : State) (h : execModeQpiSet f s = .next t) : t.otp = s.otp := by
  unfold execModeQpiSet at h
  cases h
  refine State.onFrame_otp _ _ _ _ fun t d ht => ?_
  (repeat' (first | with_reducible exact ht | with_reducible apply ite_otp | (refine (State.plain_otp _ _ _ _ _ ?_ ?_).trans ht) | intro _ | (simp -implicitDefEqProofs [ht]; done) | split))
theorem execModeQpiClear_otp (f : Frame) (s : State) (t : State) (h : execModeQpiClear f s = .next t) : t.otp = s.otp := by
  unfold execModeQpiClear at h
  cases h
  refine State.onFrame_otp _ _ _ _ fun t d ht => ?_
  (repeat' (first | with_reducible exact ht | with_reducible apply ite_otp | (refine (State.plain_otp _ _ _ _ _ ?_ ?_).trans ht) | intro _ | (simp -implicitDefEqProofs [ht]; done) | split))
theorem execModeOctal8dSet_otp (f : Frame) (s : State) (t : State) (h : execModeOctal8dSet f s = .next t) : t.otp = s.otp := by
  unfold execModeOctal8dSet at h
  cases h
  refine State.onFrame_otp _ _ _ _ fun t d ht => ?_
  (repeat' (first | with_reducible exact ht | with_reducible apply ite_otp | (refine (State.plain_otp _ _ _ _ _ ?_ ?_).trans ht) | intro _ | (simp -implicitDefEqProofs [ht]; done) | split))
theorem execModeOctal8dClear_otp (f : Frame) (s : State) (t : State) (h : execModeOctal8dClear f s = .next t) : t.otp = s.otp := by
  unfold execModeOctal8dClear at h
  cases h
  refine State.onFrame_otp _ _ _ _ fun t d ht => ?_
  (repeat' (first | with_reducible exact ht | with_reducible apply ite_otp | (refine (State.plain_otp _ _ _ _ _ ?_ ?_).trans ht) | intro _ | (simp -implicitDefEqProofs [ht]; done) | split))
theorem execModeFailClear_otp (f : Frame) (s : State) (t : State) (h : execModeFailClear f s = .next t) : t.otp = s.otp := by
  unfold execModeFailClear at h
  cases h
  refine State.modeOp_otp _ _ _ _ fun t => ?_
  simp
theorem execInvalidFrame_otp (f : Frame) (s : State) (t : State) (h : execInvalidFrame f s = .next t) : t.otp = s.otp := by
  unfold execInvalidFrame at h
  cases h
  refine State.onFrame_otp _ _ _ _ fun t d ht => ?_
  (repeat' (first | with_reducible exact ht | with_reducible apply ite_otp | (refine (State.plain_otp _ _ _ _ _ ?_ ?_).trans ht) | intro _ | (simp -implicitDefEqProofs [ht]; done) | split))
theorem execLineLate_otp (ch plane : Nat) (s : State) (t : State) (h : execLineLate ch plane s = .next t) : t.otp = s.otp := by
  unfold execLineLate at h
  cases h
  dsimp only
  (repeat' split) <;> simp -implicitDefEqProofs
theorem execLateLineArrival_otp (ch plane dom region off : Nat) (bad : Bool) (s : State) (t : State) (h : execLateLineArrival ch plane dom region off bad s = .next t) : t.otp = s.otp := by
  unfold execLateLineArrival at h
  cases h
  dsimp only
  (repeat' split) <;> simp -implicitDefEqProofs
theorem execAlertPulseEnd_otp (ch : Nat) (s : State) (t : State) (h : execAlertPulseEnd ch s = .next t) : t.otp = s.otp := by
  unfold execAlertPulseEnd at h
  cases h
  (repeat' split) <;> simp -implicitDefEqProofs
theorem execAlertClear_otp (ch word : Nat) (s : State) (t : State) (h : execAlertClear ch word s = .next t) : t.otp = s.otp := by
  unfold execAlertClear at h
  cases h
  dsimp only
  (repeat' split) <;> simp -implicitDefEqProofs
theorem execWipClear_otp (ch : Nat) (s : State) (t : State) (h : execWipClear ch s = .next t) : t.otp = s.otp := by
  unfold execWipClear at h
  cases h
  (repeat' split) <;> simp -implicitDefEqProofs
theorem execFeTakeover_otp (ch : Nat) (s : State) (t : State) (h : execFeTakeover ch s = .next t) : t.otp = s.otp := by
  unfold execFeTakeover at h
  cases h
  dsimp only
  (repeat' split) <;> simp -implicitDefEqProofs
theorem execChnRstNPulse_otp (ch : Nat) (s : State) (t : State) (h : execChnRstNPulse ch s = .next t) : t.otp = s.otp := by
  unfold execChnRstNPulse at h
  cases h
  (repeat' split) <;> simp -implicitDefEqProofs
theorem execEspiFlashRead_otp (ch tag addr len : Nat) (lines : List LineObs) (decDiffer : Bool) (s : State) (t : State) (h : execEspiFlashRead ch tag addr len lines decDiffer s = .next t) : t.otp = s.otp := by
  unfold execEspiFlashRead at h
  cases h
  dsimp only
  (repeat' split) <;> simp -implicitDefEqProofs
theorem execEspiFlashWrite_otp (ch tag addr : Nat) (data : List Byte) (lines recheck : List LineObs) (decDiffer : Bool) (s : State) (t : State) (h : execEspiFlashWrite ch tag addr data lines recheck decDiffer s = .next t) : t.otp = s.otp := by
  unfold execEspiFlashWrite at h
  cases h
  dsimp only
  (repeat' split) <;> simp -implicitDefEqProofs
theorem execEspiFlashErase_otp (ch tag addr size : Nat) (recheck : List LineObs) (decDiffer : Bool) (s : State) (t : State) (h : execEspiFlashErase ch tag addr size recheck decDiffer s = .next t) : t.otp = s.otp := by
  unfold execEspiFlashErase at h
  cases h
  (repeat' split) <;> simp -implicitDefEqProofs
theorem execEspiCompletionReady_otp (ch tag : Nat) (s : State) (t : State) (h : execEspiCompletionReady ch tag s = .next t) : t.otp = s.otp := by
  unfold execEspiCompletionReady at h
  cases h
  dsimp only
  (repeat' split) <;> simp -implicitDefEqProofs
theorem execGetFlashC_otp (ch : Nat) (s : State) (t : State) (h : execGetFlashC ch s = .next t) : t.otp = s.otp := by
  unfold execGetFlashC at h
  cases h
  dsimp only
  (repeat' split) <;> simp -implicitDefEqProofs
theorem execSetConfiguration_otp (ch freq io readMax : Nat) (alertPin flashEn oobEn : Bool) (s : State) (t : State) (h : execSetConfiguration ch freq io readMax alertPin flashEn oobEn s = .next t) : t.otp = s.otp := by
  unfold execSetConfiguration at h
  cases h
  dsimp only
  (repeat' split) <;> simp -implicitDefEqProofs
theorem execEspiProtocolError_otp (ch : Nat) (s : State) (t : State) (h : execEspiProtocolError ch s = .next t) : t.otp = s.otp := by
  unfold execEspiProtocolError at h
  cases h
  (repeat' split) <;> simp -implicitDefEqProofs
theorem execEspiReset_otp (ch : Nat) (s : State) (t : State) (h : execEspiReset ch s = .next t) : t.otp = s.otp := by
  unfold execEspiReset at h
  cases h
  (repeat' split) <;> simp -implicitDefEqProofs
theorem execLoad_otp (ch len : Nat) (s : State) (t : State) (h : execLoad ch len s = .next t) : t.otp = s.otp := by
  unfold execLoad at h
  cases h
  (repeat' split) <;> simp -implicitDefEqProofs
theorem execLoadDone_otp (ch : Nat) (s : State) (t : State) (h : execLoadDone ch s = .next t) : t.otp = s.otp := by
  unfold execLoadDone at h
  cases h
  dsimp only
  (repeat' split) <;> simp -implicitDefEqProofs
theorem execActivate_otp (ch : Nat) (s : State) (t : State) (h : execActivate ch s = .next t) : t.otp = s.otp := by
  unfold execActivate at h
  cases h
  (repeat' split) <;> simp -implicitDefEqProofs
theorem execDiscard_otp (ch : Nat) (s : State) (t : State) (h : execDiscard ch s = .next t) : t.otp = s.otp := by
  unfold execDiscard at h
  cases h
  (repeat' split) <;> simp -implicitDefEqProofs
theorem execSwap_otp (ch : Nat) (s : State) (t : State) (h : execSwap ch s = .next t) : t.otp = s.otp := by
  unfold execSwap at h
  cases h
  (repeat' split) <;> simp -implicitDefEqProofs
theorem execApplyMap_otp (len : Nat) (s : State) (t : State) (h : execApplyMap len s = .next t) : t.otp = s.otp := by
  unfold execApplyMap at h
  cases h
  (repeat' split) <;> simp -implicitDefEqProofs
theorem execDiscoveryDone_otp (devs : List DevObs) (s : State) (t : State) (h : execDiscoveryDone devs s = .next t) : t.otp = s.otp := by
  unfold execDiscoveryDone at h
  cases h
  (repeat' split) <;> simp -implicitDefEqProofs
theorem execRediscover_otp (dev : Nat) (s : State) (t : State) (h : execRediscover dev s = .next t) : t.otp = s.otp := by
  unfold execRediscover at h
  cases h
  (repeat' split) <;> simp -implicitDefEqProofs
theorem execTrimTrack_otp (dev : Nat) (below above : Bool) (taps : List Nat) (s : State) (t : State) (h : execTrimTrack dev below above taps s = .next t) : t.otp = s.otp := by
  unfold execTrimTrack at h
  cases h
  dsimp only
  (repeat' split) <;> simp -implicitDefEqProofs
theorem execTrimWrite_otp (bus word : Nat) (s : State) (t : State) (h : execTrimWrite bus word s = .next t) : t.otp = s.otp := by
  unfold execTrimWrite at h
  cases h
  (repeat' split) <;> simp -implicitDefEqProofs
theorem execBusyPoll_otp (dev : Nat) (busy erasing : Bool) (s : State) (t : State) (h : execBusyPoll dev busy erasing s = .next t) : t.otp = s.otp := by
  unfold execBusyPoll at h
  cases h
  dsimp only
  (repeat' split) <;> simp -implicitDefEqProofs
theorem execFlashOpDone_otp (dev : Nat) (ok : Bool) (addr : Nat) (s : State) (t : State) (h : execFlashOpDone dev ok addr s = .next t) : t.otp = s.otp := by
  unfold execFlashOpDone at h
  cases h
  dsimp only
  (repeat' split) <;> simp -implicitDefEqProofs
theorem execRecoveryBurstDone_otp (dom : Nat) (src nur : List Byte) (fail : Nat) (bad : Option (Nat × Nat)) (badEnt : Option Nat) (s : State) (t : State) (h : execRecoveryBurstDone dom src nur fail bad badEnt s = .next t) : t.otp = s.otp := by
  unfold execRecoveryBurstDone at h
  cases h
  dsimp only
  (repeat' split) <;> simp -implicitDefEqProofs
theorem execRecoveryDone_otp (dom : Nat) (s : State) (t : State) (h : execRecoveryDone dom s = .next t) : t.otp = s.otp := by
  unfold execRecoveryDone at h
  cases h
  dsimp only
  (repeat' split) <;> simp -implicitDefEqProofs
theorem execFill_otp (cls : Nat) (s : State) (t : State) (h : execFill cls s = .next t) : t.otp = s.otp := by
  unfold execFill at h
  cases h
  (repeat' split) <;> simp -implicitDefEqProofs
theorem execFillDone_otp (cls : Nat) (s : State) (t : State) (h : execFillDone cls s = .next t) : t.otp = s.otp := by
  unfold execFillDone at h
  cases h
  (repeat' split) <;> simp -implicitDefEqProofs
theorem execMarkInit_otp (cls : Nat) (s : State) (t : State) (h : execMarkInit cls s = .next t) : t.otp = s.otp := by
  unfold execMarkInit at h
  cases h
  (repeat' split) <;> simp -implicitDefEqProofs
theorem execRetireRow_otp (s : State) (t : State) (h : execRetireRow s = .next t) : t.otp = s.otp := by
  unfold execRetireRow at h
  cases h
  (repeat' split) <;> simp -implicitDefEqProofs
theorem execCommitRepair_otp (s : State) (t : State) (h : execCommitRepair s = .next t) : t.otp = s.otp := by
  unfold execCommitRepair at h
  cases h
  (repeat' split) <;> simp -implicitDefEqProofs
theorem execApplyBounds_otp (s : State) (t : State) (h : execApplyBounds s = .next t) : t.otp = s.otp := by
  unfold execApplyBounds at h
  cases h
  dsimp only
  (repeat' split) <;> simp -implicitDefEqProofs
theorem execMemintAbort_otp (cls : Nat) (s : State) (t : State) (h : execMemintAbort cls s = .next t) : t.otp = s.otp := by
  unfold execMemintAbort at h
  cases h
  (repeat' split) <;> simp -implicitDefEqProofs
theorem execFlipArm_otp (word : Nat) (s : State) (t : State) (h : execFlipArm word s = .next t) : t.otp = s.otp := by
  unfold execFlipArm at h
  cases h
  simp -implicitDefEqProofs
theorem execFlipApply_otp (kind bit : Nat) (s : State) (t : State) (h : execFlipApply kind bit s = .next t) : t.otp = s.otp := by
  unfold execFlipApply at h
  cases h
  dsimp only
  (repeat' split) <;> simp -implicitDefEqProofs
theorem execDramScrubLine_otp (what dom region off : Nat) (failA failB : Bool) (s : State) (t : State) (h : execDramScrubLine what dom region off failA failB s = .next t) : t.otp = s.otp := by
  unfold execDramScrubLine at h
  cases h
  dsimp only
  (repeat' split) <;> simp -implicitDefEqProofs
theorem execSweepEnd_otp (cls : Nat) (s : State) (t : State) (h : execSweepEnd cls s = .next t) : t.otp = s.otp := by
  unfold execSweepEnd at h
  cases h
  dsimp only
  (repeat' split) <;> simp -implicitDefEqProofs
theorem execScrubOverrun_otp (cls : Nat) (s : State) (t : State) (h : execScrubOverrun cls s = .next t) : t.otp = s.otp := by
  unfold execScrubOverrun at h
  cases h
  (repeat' split) <;> simp -implicitDefEqProofs
theorem execBucketLeak_otp (cls : Nat) (s : State) (t : State) (h : execBucketLeak cls s = .next t) : t.otp = s.otp := by
  unfold execBucketLeak at h
  cases h
  (repeat' split) <;> simp -implicitDefEqProofs
theorem execGenerate_otp (dst : Nat) (s : State) (t : State) (h : execGenerate dst s = .next t) : t.otp = s.otp := by
  unfold execGenerate at h
  cases h
  (repeat' (first | with_reducible rfl | intro _ | with_reducible apply ite_otp | (simp -implicitDefEqProofs; done) | apply State.request_otp | apply State.spdm_otp | apply State.pldm_otp | apply State.inSession_otp | apply State.inSess_otp | apply State.updateMsg_otp | apply State.control_otp | apply State.ownerCmd_otp | apply State.updDecide_otp | apply State.keyDecide_otp | apply State.onFrame_otp | apply State.plain_otp | apply State.modeOp_otp | split | refine (each_otp _ _ _ ?_).trans ?_ | refine (foldl_otp _ _ _ ?_).trans ?_ | refine (when_otp _ _ _ ?_).trans ?_ | simp -implicitDefEqProofs))
theorem execDerive_otp (dst src : Nat) (s : State) (t : State) (h : execDerive dst src s = .next t) : t.otp = s.otp := by
  unfold execDerive at h
  cases h
  refine (State.keyDecide_otp _ _ _ _ _ _ ?_).trans ?_
  all_goals (repeat' (first | with_reducible rfl | intro _ | with_reducible apply ite_otp | split | (simp -implicitDefEqProofs; done) | refine (each_otp _ _ _ ?_).trans ?_ | refine (foldl_otp _ _ _ ?_).trans ?_ | refine (when_otp _ _ _ ?_).trans ?_ | simp -implicitDefEqProofs))
theorem execDeriveSealed_otp (dst : Nat) (s : State) (t : State) (h : execDeriveSealed dst s = .next t) : t.otp = s.otp := by
  unfold execDeriveSealed at h
  cases h
  refine (State.keyDecide_otp _ _ _ _ _ _ ?_).trans ?_
  all_goals (repeat' (first | with_reducible rfl | intro _ | with_reducible apply ite_otp | split | (simp -implicitDefEqProofs; done) | refine (each_otp _ _ _ ?_).trans ?_ | refine (foldl_otp _ _ _ ?_).trans ?_ | refine (when_otp _ _ _ ?_).trans ?_ | simp -implicitDefEqProofs))
theorem execLoadWk_otp (src engine : Nat) (s : State) (t : State) (h : execLoadWk src engine s = .next t) : t.otp = s.otp := by
  unfold execLoadWk at h
  cases h
  (repeat' split) <;> simp -implicitDefEqProofs
theorem execClearWk_otp (engine : Nat) (s : State) (t : State) (h : execClearWk engine s = .next t) : t.otp = s.otp := by
  unfold execClearWk at h
  cases h
  (repeat' (first | with_reducible rfl | intro _ | with_reducible apply ite_otp | (simp -implicitDefEqProofs; done) | apply State.request_otp | apply State.spdm_otp | apply State.pldm_otp | apply State.inSession_otp | apply State.inSess_otp | apply State.updateMsg_otp | apply State.control_otp | apply State.ownerCmd_otp | apply State.updDecide_otp | apply State.keyDecide_otp | apply State.onFrame_otp | apply State.plain_otp | apply State.modeOp_otp | split | refine (each_otp _ _ _ ?_).trans ?_ | refine (foldl_otp _ _ _ ?_).trans ?_ | refine (when_otp _ _ _ ?_).trans ?_ | simp -implicitDefEqProofs))
theorem execErase_otp (dst : Nat) (s : State) (t : State) (h : execErase dst s = .next t) : t.otp = s.otp := by
  unfold execErase at h
  cases h
  (repeat' (first | with_reducible rfl | intro _ | with_reducible apply ite_otp | (simp -implicitDefEqProofs; done) | apply State.request_otp | apply State.spdm_otp | apply State.pldm_otp | apply State.inSession_otp | apply State.inSess_otp | apply State.updateMsg_otp | apply State.control_otp | apply State.ownerCmd_otp | apply State.updDecide_otp | apply State.keyDecide_otp | apply State.onFrame_otp | apply State.plain_otp | apply State.modeOp_otp | split | refine (each_otp _ _ _ ?_).trans ?_ | refine (foldl_otp _ _ _ ?_).trans ?_ | refine (when_otp _ _ _ ?_).trans ?_ | simp -implicitDefEqProofs))
theorem execLockSlot_otp (dst : Nat) (s : State) (t : State) (h : execLockSlot dst s = .next t) : t.otp = s.otp := by
  unfold execLockSlot at h
  cases h
  (repeat' (first | with_reducible rfl | intro _ | with_reducible apply ite_otp | (simp -implicitDefEqProofs; done) | apply State.request_otp | apply State.spdm_otp | apply State.pldm_otp | apply State.inSession_otp | apply State.inSess_otp | apply State.updateMsg_otp | apply State.control_otp | apply State.ownerCmd_otp | apply State.updDecide_otp | apply State.keyDecide_otp | apply State.onFrame_otp | apply State.plain_otp | apply State.modeOp_otp | split | refine (each_otp _ _ _ ?_).trans ?_ | refine (foldl_otp _ _ _ ?_).trans ?_ | refine (when_otp _ _ _ ?_).trans ?_ | simp -implicitDefEqProofs))
theorem execCertify_otp (src : Nat) (s : State) (t : State) (h : execCertify src s = .next t) : t.otp = s.otp := by
  unfold execCertify at h
  cases h
  refine (State.keyDecide_otp _ _ _ _ _ _ ?_).trans ?_
  all_goals (repeat' (first | with_reducible rfl | intro _ | with_reducible apply ite_otp | split | (simp -implicitDefEqProofs; done) | refine (each_otp _ _ _ ?_).trans ?_ | refine (foldl_otp _ _ _ ?_).trans ?_ | refine (when_otp _ _ _ ?_).trans ?_ | simp -implicitDefEqProofs))
theorem execPublicKey_otp (src : Nat) (s : State) (t : State) (h : execPublicKey src s = .next t) : t.otp = s.otp := by
  unfold execPublicKey at h
  cases h
  refine (State.keyDecide_otp _ _ _ _ _ _ ?_).trans ?_
  all_goals (repeat' (first | with_reducible rfl | intro _ | with_reducible apply ite_otp | split | (simp -implicitDefEqProofs; done) | refine (each_otp _ _ _ ?_).trans ?_ | refine (foldl_otp _ _ _ ?_).trans ?_ | refine (when_otp _ _ _ ?_).trans ?_ | simp -implicitDefEqProofs))
theorem execDeriveL2_otp (s : State) (t : State) (h : execDeriveL2 s = .next t) : t.otp = s.otp := by
  unfold execDeriveL2 at h
  cases h
  (repeat' (first | with_reducible rfl | intro _ | with_reducible apply ite_otp | (simp -implicitDefEqProofs; done) | apply State.request_otp | apply State.spdm_otp | apply State.pldm_otp | apply State.inSession_otp | apply State.inSess_otp | apply State.updateMsg_otp | apply State.control_otp | apply State.ownerCmd_otp | apply State.updDecide_otp | apply State.keyDecide_otp | apply State.onFrame_otp | apply State.plain_otp | apply State.modeOp_otp | split | refine (each_otp _ _ _ ?_).trans ?_ | refine (foldl_otp _ _ _ ?_).trans ?_ | refine (when_otp _ _ _ ?_).trans ?_ | simp -implicitDefEqProofs))
theorem execKs3AutoDerive_otp (s : State) (t : State) (h : execKs3AutoDerive s = .next t) : t.otp = s.otp := by
  unfold execKs3AutoDerive at h
  cases h
  (repeat' split) <;> simp -implicitDefEqProofs
theorem execProvisionVault_otp (s : State) (t : State) (h : execProvisionVault s = .next t) : t.otp = s.otp := by
  unfold execProvisionVault at h
  cases h
  simp -implicitDefEqProofs
theorem execKeysAbort_otp (s : State) (t : State) (h : execKeysAbort s = .next t) : t.otp = s.otp := by
  unfold execKeysAbort at h
  cases h
  (repeat' split) <;> simp -implicitDefEqProofs
theorem execRewriteRelease_otp (s : State) (t : State) (h : execRewriteRelease s = .next t) : t.otp = s.otp := by
  unfold execRewriteRelease at h
  cases h
  (repeat' split) <;> simp -implicitDefEqProofs
theorem execKeysCmdDone_otp (s : State) (t : State) (h : execKeysCmdDone s = .next t) : t.otp = s.otp := by
  unfold execKeysCmdDone at h
  cases h
  (repeat' split) <;> simp -implicitDefEqProofs
theorem execEngStart_otp (b e : Nat) (s : State) (t : State) (h : execEngStart b e s = .next t) : t.otp = s.otp := by
  unfold execEngStart at h
  cases h
  dsimp only
  (repeat' split) <;> simp -implicitDefEqProofs
theorem execEngAbort_otp (b e : Nat) (s : State) (t : State) (h : execEngAbort b e s = .next t) : t.otp = s.otp := by
  unfold execEngAbort at h
  cases h
  (repeat' split) <;> simp -implicitDefEqProofs
theorem execEngDone_otp (e obs : Nat) (s : State) (t : State) (h : execEngDone e obs s = .next t) : t.otp = s.otp := by
  unfold execEngDone at h
  cases h
  dsimp only
  (repeat' split) <;> simp -implicitDefEqProofs
theorem execKmEngineTake_otp (e : Nat) (s : State) (t : State) (h : execKmEngineTake e s = .next t) : t.otp = s.otp := by
  unfold execKmEngineTake at h
  cases h
  (repeat' split) <;> simp -implicitDefEqProofs
theorem execSourceStartupPass_otp (src : Nat) (bits : List Bool) (s : State) (t : State) (h : execSourceStartupPass src bits s = .next t) : t.otp = s.otp := by
  unfold execSourceStartupPass at h
  cases h
  dsimp only
  (repeat' split) <;> simp -implicitDefEqProofs
theorem execHealthFail_otp (src : Nat) (bits : List Bool) (s : State) (t : State) (h : execHealthFail src bits s = .next t) : t.otp = s.otp := by
  unfold execHealthFail at h
  cases h
  (repeat' split) <;> simp -implicitDefEqProofs
theorem execSeedReady_otp (bits : List (List Bool)) (s : State) (t : State) (h : execSeedReady bits s = .next t) : t.otp = s.otp := by
  unfold execSeedReady at h
  cases h
  dsimp only
  (repeat' split) <;> simp -implicitDefEqProofs
theorem execDrbgReady_otp (kat : Bool) (s : State) (t : State) (h : execDrbgReady kat s = .next t) : t.otp = s.otp := by
  unfold execDrbgReady at h
  cases h
  (repeat' split) <;> simp -implicitDefEqProofs
theorem execDrbgGenerate_otp (s : State) (t : State) (h : execDrbgGenerate s = .next t) : t.otp = s.otp := by
  unfold execDrbgGenerate at h
  cases h
  simp -implicitDefEqProofs
theorem execRngFlush_otp (s : State) (t : State) (h : execRngFlush s = .next t) : t.otp = s.otp := by
  unfold execRngFlush at h
  cases h
  simp -implicitDefEqProofs
theorem execReseed_otp (s : State) (t : State) (h : execReseed s = .next t) : t.otp = s.otp := by
  unfold execReseed at h
  cases h
  (repeat' split) <;> simp -implicitDefEqProofs
theorem execRawMode_otp (src : Nat) (s : State) (t : State) (h : execRawMode src s = .next t) : t.otp = s.otp := by
  unfold execRawMode at h
  cases h
  (repeat' split) <;> simp -implicitDefEqProofs
theorem execTestPattern_otp (src : Nat) (s : State) (t : State) (h : execTestPattern src s = .next t) : t.otp = s.otp := by
  unfold execTestPattern at h
  cases h
  (repeat' split) <;> simp -implicitDefEqProofs
theorem execStopTest_otp (s : State) (t : State) (h : execStopTest s = .next t) : t.otp = s.otp := by
  unfold execStopTest at h
  cases h
  (repeat' split) <;> simp -implicitDefEqProofs
theorem execRngDataRead_otp (s : State) (t : State) (h : execRngDataRead s = .next t) : t.otp = s.otp := by
  unfold execRngDataRead at h
  cases h
  dsimp only
  (repeat' split) <;> simp -implicitDefEqProofs
theorem execRngRawRead_otp (arrived : List Bool) (s : State) (t : State) (h : execRngRawRead arrived s = .next t) : t.otp = s.otp := by
  unfold execRngRawRead at h
  cases h
  dsimp only
  (repeat' split) <;> simp -implicitDefEqProofs
theorem execInternalRngRequest_otp (s : State) (t : State) (h : execInternalRngRequest s = .next t) : t.otp = s.otp := by
  unfold execInternalRngRequest at h
  cases h
  have k := State.takeItem_otp s
  (repeat' split)
  all_goals first | (simp -implicitDefEqProofs; done) | (rename_i e; first | exact snd_otp e k | (simp -implicitDefEqProofs; exact snd_otp e k))
theorem execKioskState_otp (acc : Access) (tn dom arg : Nat) (s : State) (t : State) (h : execKioskState acc tn dom arg s = .next t) : t.otp = s.otp := by
  unfold execKioskState at h
  cases h
  simp -implicitDefEqProofs
theorem execKioskHold_otp (acc : Access) (tn dom arg : Nat) (s : State) (t : State) (h : execKioskHold acc tn dom arg s = .next t) : t.otp = s.otp := by
  unfold execKioskHold at h
  cases h
  simp -implicitDefEqProofs
theorem execKioskResetCycle_otp (acc : Access) (tn dom arg : Nat) (s : State) (t : State) (h : execKioskResetCycle acc tn dom arg s = .next t) : t.otp = s.otp := by
  unfold execKioskResetCycle at h
  cases h
  simp -implicitDefEqProofs
theorem execService_otp (acc : Access) (tn op dom arg : Nat) (s : State) (t : State) (h : execService acc tn op dom arg s = .next t) : t.otp = s.otp := by
  unfold execService at h
  cases h
  simp -implicitDefEqProofs
theorem execReplyPlace_otp (tn : Nat) (s : State) (t : State) (h : execReplyPlace tn s = .next t) : t.otp = s.otp := by
  unfold execReplyPlace at h
  cases h
  (repeat' split) <;> simp -implicitDefEqProofs
theorem execTnRspRead_otp (acc : Access) (tn : Nat) (s : State) (t : State) (h : execTnRspRead acc tn s = .next t) : t.otp = s.otp := by
  unfold execTnRspRead at h
  cases h
  simp -implicitDefEqProofs
theorem execUnbound_otp (acc : Access) (tn : Nat) (write : Bool) (s : State) (t : State) (h : execUnbound acc tn write s = .next t) : t.otp = s.otp := by
  unfold execUnbound at h
  cases h
  (repeat' split) <;> simp -implicitDefEqProofs
theorem execTnDbInWrite_otp (acc : Access) (tn bits : Nat) (s : State) (t : State) (h : execTnDbInWrite acc tn bits s = .next t) : t.otp = s.otp := by
  unfold execTnDbInWrite at h
  cases h
  simp -implicitDefEqProofs
theorem execKioskTakeRead_otp (s t : State) (h : execKioskTakeRead s = .next t) : t.otp = s.otp := by
  unfold execKioskTakeRead at h
  rw [← Host.Outcome.next.inj h]
  split
  · exact State.ret_otp _ _
  · exact (State.ret_otp _ _).trans ((State.showPending_otp _).trans ((State.setF_otp _ _ _).trans ((State.setF_otp _ _ _).trans
      ((State.modKiosk_otp _ _).trans (State.setBox_otp _ _ _)))))
theorem execKioskReplyWrite_otp (word : Nat) (s : State) (t : State) (h : execKioskReplyWrite word s = .next t) : t.otp = s.otp := by
  unfold execKioskReplyWrite at h
  cases h
  dsimp only
  (repeat' split) <;> simp -implicitDefEqProofs
theorem execKioskDbOutWrite_otp (bits : Nat) (s : State) (t : State) (h : execKioskDbOutWrite bits s = .next t) : t.otp = s.otp := by
  unfold execKioskDbOutWrite at h
  cases h
  simp -implicitDefEqProofs
theorem execApplyTbt_otp (len : Nat) (s : State) (t : State) (h : execApplyTbt len s = .next t) : t.otp = s.otp := by
  unfold execApplyTbt at h
  cases h
  dsimp only
  (repeat' split) <;> simp -implicitDefEqProofs
theorem execTakenRequestTimeout_otp (tn : Nat) (s : State) (t : State) (h : execTakenRequestTimeout tn s = .next t) : t.otp = s.otp := by
  unfold execTakenRequestTimeout at h
  cases h
  dsimp only
  (repeat' split) <;> simp -implicitDefEqProofs
theorem execPendingRequestTimeout_otp (tn : Nat) (s : State) (t : State) (h : execPendingRequestTimeout tn s = .next t) : t.otp = s.otp := by
  unfold execPendingRequestTimeout at h
  cases h
  dsimp only
  (repeat' split) <;> simp -implicitDefEqProofs
theorem execSmbusBlockWrite_otp (port tn off value : Nat) (pecOk : Bool) (s : State) (t : State) (h : execSmbusBlockWrite port tn off value pecOk s = .next t) : t.otp = s.otp := by
  unfold execSmbusBlockWrite at h
  cases h
  (repeat' split) <;> simp -implicitDefEqProofs
theorem execSmbusProcessCall_otp (port tn off : Nat) (s : State) (t : State) (h : execSmbusProcessCall port tn off s = .next t) : t.otp = s.otp := by
  unfold execSmbusProcessCall at h
  cases h
  (repeat' split) <;> simp -implicitDefEqProofs
theorem execApplySettings_otp (s : State) (t : State) (h : execApplySettings s = .next t) : t.otp = s.otp := by
  unfold execApplySettings at h
  cases h
  dsimp only
  (repeat' split) <;> simp -implicitDefEqProofs
theorem execSend_otp (s : State) (t : State) (h : execSend s = .next t) : t.otp = s.otp := by
  unfold execSend at h
  cases h
  (repeat' split) <;> simp -implicitDefEqProofs
theorem execMctpPacket_otp (p : Packet) (s : State) (t : State) (h : execMctpPacket p s = .next t) : t.otp = s.otp := by
  unfold execMctpPacket at h
  cases h
  (repeat' split) <;> simp -implicitDefEqProofs
theorem execReassemblyTimeout_otp (port src tag : Nat) (owner : Bool) (s : State) (t : State) (h : execReassemblyTimeout port src tag owner s = .next t) : t.otp = s.otp := by
  unfold execReassemblyTimeout at h
  cases h
  (repeat' split) <;> simp -implicitDefEqProofs
theorem execRxSlotFree_otp (tail : Nat) (s : State) (t : State) (h : execRxSlotFree tail s = .next t) : t.otp = s.otp := by
  unfold execRxSlotFree at h
  cases h
  simp -implicitDefEqProofs
theorem execSmbTimeout_otp (port : Nat) (s : State) (t : State) (h : execSmbTimeout port s = .next t) : t.otp = s.otp := by
  unfold execSmbTimeout at h
  cases h
  (repeat' split) <;> simp -implicitDefEqProofs
theorem execArbitrationRetry_otp (s : State) (t : State) (h : execArbitrationRetry s = .next t) : t.otp = s.otp := by
  unfold execArbitrationRetry at h
  cases h
  (repeat' split) <;> simp -implicitDefEqProofs
theorem execSetEndpointId_otp (org : Origin) (eid : Nat) (s : State) (t : State) (h : execSetEndpointId org eid s = .next t) : t.otp = s.otp := by
  unfold execSetEndpointId at h
  cases h
  (repeat' (first | with_reducible rfl | intro _ | with_reducible apply ite_otp | (simp -implicitDefEqProofs; done) | apply State.request_otp | apply State.spdm_otp | apply State.pldm_otp | apply State.inSession_otp | apply State.inSess_otp | apply State.updateMsg_otp | apply State.control_otp | apply State.ownerCmd_otp | apply State.updDecide_otp | apply State.keyDecide_otp | apply State.onFrame_otp | apply State.plain_otp | apply State.modeOp_otp | split | refine (each_otp _ _ _ ?_).trans ?_ | refine (foldl_otp _ _ _ ?_).trans ?_ | refine (when_otp _ _ _ ?_).trans ?_ | simp -implicitDefEqProofs))
theorem execGetEndpointId_otp (org : Origin) (s : State) (t : State) (h : execGetEndpointId org s = .next t) : t.otp = s.otp := by
  unfold execGetEndpointId at h
  cases h
  (repeat' (first | with_reducible rfl | intro _ | with_reducible apply ite_otp | (simp -implicitDefEqProofs; done) | apply State.request_otp | apply State.spdm_otp | apply State.pldm_otp | apply State.inSession_otp | apply State.inSess_otp | apply State.updateMsg_otp | apply State.control_otp | apply State.ownerCmd_otp | apply State.updDecide_otp | apply State.keyDecide_otp | apply State.onFrame_otp | apply State.plain_otp | apply State.modeOp_otp | split | refine (each_otp _ _ _ ?_).trans ?_ | refine (foldl_otp _ _ _ ?_).trans ?_ | refine (when_otp _ _ _ ?_).trans ?_ | simp -implicitDefEqProofs))
theorem execGetEndpointUuid_otp (org : Origin) (s : State) (t : State) (h : execGetEndpointUuid org s = .next t) : t.otp = s.otp := by
  unfold execGetEndpointUuid at h
  cases h
  (repeat' (first | with_reducible rfl | intro _ | with_reducible apply ite_otp | (simp -implicitDefEqProofs; done) | apply State.request_otp | apply State.spdm_otp | apply State.pldm_otp | apply State.inSession_otp | apply State.inSess_otp | apply State.updateMsg_otp | apply State.control_otp | apply State.ownerCmd_otp | apply State.updDecide_otp | apply State.keyDecide_otp | apply State.onFrame_otp | apply State.plain_otp | apply State.modeOp_otp | split | refine (each_otp _ _ _ ?_).trans ?_ | refine (foldl_otp _ _ _ ?_).trans ?_ | refine (when_otp _ _ _ ?_).trans ?_ | simp -implicitDefEqProofs))
theorem execGetMctpVersionSupport_otp (org : Origin) (typ : Nat) (s : State) (t : State) (h : execGetMctpVersionSupport org typ s = .next t) : t.otp = s.otp := by
  unfold execGetMctpVersionSupport at h
  cases h
  (repeat' (first | with_reducible rfl | intro _ | with_reducible apply ite_otp | (simp -implicitDefEqProofs; done) | apply State.request_otp | apply State.spdm_otp | apply State.pldm_otp | apply State.inSession_otp | apply State.inSess_otp | apply State.updateMsg_otp | apply State.control_otp | apply State.ownerCmd_otp | apply State.updDecide_otp | apply State.keyDecide_otp | apply State.onFrame_otp | apply State.plain_otp | apply State.modeOp_otp | split | refine (each_otp _ _ _ ?_).trans ?_ | refine (foldl_otp _ _ _ ?_).trans ?_ | refine (when_otp _ _ _ ?_).trans ?_ | simp -implicitDefEqProofs))
theorem execGetMessageTypeSupport_otp (org : Origin) (s : State) (t : State) (h : execGetMessageTypeSupport org s = .next t) : t.otp = s.otp := by
  unfold execGetMessageTypeSupport at h
  cases h
  (repeat' (first | with_reducible rfl | intro _ | with_reducible apply ite_otp | (simp -implicitDefEqProofs; done) | apply State.request_otp | apply State.spdm_otp | apply State.pldm_otp | apply State.inSession_otp | apply State.inSess_otp | apply State.updateMsg_otp | apply State.control_otp | apply State.ownerCmd_otp | apply State.updDecide_otp | apply State.keyDecide_otp | apply State.onFrame_otp | apply State.plain_otp | apply State.modeOp_otp | split | refine (each_otp _ _ _ ?_).trans ?_ | refine (foldl_otp _ _ _ ?_).trans ?_ | refine (when_otp _ _ _ ?_).trans ?_ | simp -implicitDefEqProofs))
theorem execGetVendorDefinedMsgSupport_otp (org : Origin) (sel : Nat) (s : State) (t : State) (h : execGetVendorDefinedMsgSupport org sel s = .next t) : t.otp = s.otp := by
  unfold execGetVendorDefinedMsgSupport at h
  cases h
  (repeat' (first | with_reducible rfl | intro _ | with_reducible apply ite_otp | (simp -implicitDefEqProofs; done) | apply State.request_otp | apply State.spdm_otp | apply State.pldm_otp | apply State.inSession_otp | apply State.inSess_otp | apply State.updateMsg_otp | apply State.control_otp | apply State.ownerCmd_otp | apply State.updDecide_otp | apply State.keyDecide_otp | apply State.onFrame_otp | apply State.plain_otp | apply State.modeOp_otp | split | refine (each_otp _ _ _ ?_).trans ?_ | refine (foldl_otp _ _ _ ?_).trans ?_ | refine (when_otp _ _ _ ?_).trans ?_ | simp -implicitDefEqProofs))
theorem execPrepareForEndpointDiscovery_otp (org : Origin) (s : State) (t : State) (h : execPrepareForEndpointDiscovery org s = .next t) : t.otp = s.otp := by
  unfold execPrepareForEndpointDiscovery at h
  cases h
  (repeat' (first | with_reducible rfl | intro _ | with_reducible apply ite_otp | (simp -implicitDefEqProofs; done) | apply State.request_otp | apply State.spdm_otp | apply State.pldm_otp | apply State.inSession_otp | apply State.inSess_otp | apply State.updateMsg_otp | apply State.control_otp | apply State.ownerCmd_otp | apply State.updDecide_otp | apply State.keyDecide_otp | apply State.onFrame_otp | apply State.plain_otp | apply State.modeOp_otp | split | refine (each_otp _ _ _ ?_).trans ?_ | refine (foldl_otp _ _ _ ?_).trans ?_ | refine (when_otp _ _ _ ?_).trans ?_ | simp -implicitDefEqProofs))
theorem execEndpointDiscovery_otp (org : Origin) (s : State) (t : State) (h : execEndpointDiscovery org s = .next t) : t.otp = s.otp := by
  unfold execEndpointDiscovery at h
  cases h
  (repeat' (first | with_reducible rfl | intro _ | with_reducible apply ite_otp | (simp -implicitDefEqProofs; done) | apply State.request_otp | apply State.spdm_otp | apply State.pldm_otp | apply State.inSession_otp | apply State.inSess_otp | apply State.updateMsg_otp | apply State.control_otp | apply State.ownerCmd_otp | apply State.updDecide_otp | apply State.keyDecide_otp | apply State.onFrame_otp | apply State.plain_otp | apply State.modeOp_otp | split | refine (each_otp _ _ _ ?_).trans ?_ | refine (foldl_otp _ _ _ ?_).trans ?_ | refine (when_otp _ _ _ ?_).trans ?_ | simp -implicitDefEqProofs))
theorem execUnsupportedControlCmd_otp (org : Origin) (s : State) (t : State) (h : execUnsupportedControlCmd org s = .next t) : t.otp = s.otp := by
  unfold execUnsupportedControlCmd at h
  cases h
  (repeat' (first | with_reducible rfl | intro _ | with_reducible apply ite_otp | (simp -implicitDefEqProofs; done) | apply State.request_otp | apply State.spdm_otp | apply State.pldm_otp | apply State.inSession_otp | apply State.inSess_otp | apply State.updateMsg_otp | apply State.control_otp | apply State.ownerCmd_otp | apply State.updDecide_otp | apply State.keyDecide_otp | apply State.onFrame_otp | apply State.plain_otp | apply State.modeOp_otp | split | refine (each_otp _ _ _ ?_).trans ?_ | refine (foldl_otp _ _ _ ?_).trans ?_ | refine (when_otp _ _ _ ?_).trans ?_ | simp -implicitDefEqProofs))
theorem execVendorKiosk_otp (org : Origin) (tn word gen : Nat) (s : State) (t : State) (h : execVendorKiosk org tn word gen s = .next t) : t.otp = s.otp := by
  unfold execVendorKiosk at h
  cases h
  simp -implicitDefEqProofs
theorem execGetNonce_otp (org : Origin) (s : State) (t : State) (h : execGetNonce org s = .next t) : t.otp = s.otp := by
  unfold execGetNonce at h
  cases h
  simp -implicitDefEqProofs
theorem execGetOutcome_otp (org : Origin) (s : State) (t : State) (h : execGetOutcome org s = .next t) : t.otp = s.otp := by
  unfold execGetOutcome at h
  cases h
  simp -implicitDefEqProofs
theorem execOwnerRelease_otp (org : Origin) (payload : List Byte) (s : State) (t : State) (h : execOwnerRelease org payload s = .next t) : t.otp = s.otp := by
  unfold execOwnerRelease at h
  cases h
  simp -implicitDefEqProofs
theorem execOwnerProvisionVault_otp (org : Origin) (payload : List Byte) (s : State) (t : State) (h : execOwnerProvisionVault org payload s = .next t) : t.otp = s.otp := by
  unfold execOwnerProvisionVault at h
  cases h
  simp -implicitDefEqProofs
theorem execOwnerEnterLockdown_otp (org : Origin) (payload : List Byte) (s : State) (t : State) (h : execOwnerEnterLockdown org payload s = .next t) : t.otp = s.otp := by
  unfold execOwnerEnterLockdown at h
  cases h
  simp -implicitDefEqProofs
theorem execOwnerLockSet_otp (org : Origin) (payload : List Byte) (s : State) (t : State) (h : execOwnerLockSet org payload s = .next t) : t.otp = s.otp := by
  unfold execOwnerLockSet at h
  cases h
  simp -implicitDefEqProofs
theorem execOwnerLockClear_otp (org : Origin) (payload : List Byte) (s : State) (t : State) (h : execOwnerLockClear org payload s = .next t) : t.otp = s.otp := by
  unfold execOwnerLockClear at h
  cases h
  simp -implicitDefEqProofs
theorem execOwnerReturnToken_otp (org : Origin) (payload : List Byte) (s : State) (t : State) (h : execOwnerReturnToken org payload s = .next t) : t.otp = s.otp := by
  unfold execOwnerReturnToken at h
  cases h
  simp -implicitDefEqProofs
theorem execOwnerScrap_otp (org : Origin) (payload : List Byte) (s : State) (t : State) (h : execOwnerScrap org payload s = .next t) : t.otp = s.otp := by
  unfold execOwnerScrap at h
  cases h
  simp -implicitDefEqProofs
theorem execGetVersion_otp (org : Origin) (brk : Option SpdmErr) (s : State) (t : State) (h : execGetVersion org brk s = .next t) : t.otp = s.otp := by
  unfold execGetVersion at h
  cases h
  (repeat' (first | with_reducible rfl | intro _ | with_reducible apply ite_otp | (simp -implicitDefEqProofs; done) | apply State.request_otp | apply State.spdm_otp | apply State.pldm_otp | apply State.inSession_otp | apply State.inSess_otp | apply State.updateMsg_otp | apply State.control_otp | apply State.ownerCmd_otp | apply State.updDecide_otp | apply State.keyDecide_otp | apply State.onFrame_otp | apply State.plain_otp | apply State.modeOp_otp | split | refine (each_otp _ _ _ ?_).trans ?_ | refine (foldl_otp _ _ _ ?_).trans ?_ | refine (when_otp _ _ _ ?_).trans ?_ | simp -implicitDefEqProofs))
theorem execGetCapabilities_otp (org : Origin) (version dts : Nat) (brk : Option SpdmErr) (s : State) (t : State) (h : execGetCapabilities org version dts brk s = .next t) : t.otp = s.otp := by
  unfold execGetCapabilities at h
  cases h
  (repeat' (first | with_reducible rfl | intro _ | with_reducible apply ite_otp | (simp -implicitDefEqProofs; done) | apply State.request_otp | apply State.spdm_otp | apply State.pldm_otp | apply State.inSession_otp | apply State.inSess_otp | apply State.updateMsg_otp | apply State.control_otp | apply State.ownerCmd_otp | apply State.updDecide_otp | apply State.keyDecide_otp | apply State.onFrame_otp | apply State.plain_otp | apply State.modeOp_otp | split | refine (each_otp _ _ _ ?_).trans ?_ | refine (foldl_otp _ _ _ ?_).trans ?_ | refine (when_otp _ _ _ ?_).trans ?_ | simp -implicitDefEqProofs))
theorem execNegotiateAlgorithms_otp (org : Origin) (brk : Option SpdmErr) (s : State) (t : State) (h : execNegotiateAlgorithms org brk s = .next t) : t.otp = s.otp := by
  unfold execNegotiateAlgorithms at h
  cases h
  (repeat' (first | with_reducible rfl | intro _ | with_reducible apply ite_otp | (simp -implicitDefEqProofs; done) | apply State.request_otp | apply State.spdm_otp | apply State.pldm_otp | apply State.inSession_otp | apply State.inSess_otp | apply State.updateMsg_otp | apply State.control_otp | apply State.ownerCmd_otp | apply State.updDecide_otp | apply State.keyDecide_otp | apply State.onFrame_otp | apply State.plain_otp | apply State.modeOp_otp | split | refine (each_otp _ _ _ ?_).trans ?_ | refine (foldl_otp _ _ _ ?_).trans ?_ | refine (when_otp _ _ _ ?_).trans ?_ | simp -implicitDefEqProofs))
theorem execGetDigests_otp (org : Origin) (brk : Option SpdmErr) (s : State) (t : State) (h : execGetDigests org brk s = .next t) : t.otp = s.otp := by
  unfold execGetDigests at h
  cases h
  (repeat' (first | with_reducible rfl | intro _ | with_reducible apply ite_otp | (simp -implicitDefEqProofs; done) | apply State.request_otp | apply State.spdm_otp | apply State.pldm_otp | apply State.inSession_otp | apply State.inSess_otp | apply State.updateMsg_otp | apply State.control_otp | apply State.ownerCmd_otp | apply State.updDecide_otp | apply State.keyDecide_otp | apply State.onFrame_otp | apply State.plain_otp | apply State.modeOp_otp | split | refine (each_otp _ _ _ ?_).trans ?_ | refine (foldl_otp _ _ _ ?_).trans ?_ | refine (when_otp _ _ _ ?_).trans ?_ | simp -implicitDefEqProofs))
theorem execGetCertificate_otp (org : Origin) (off len : Nat) (brk : Option SpdmErr) (s : State) (t : State) (h : execGetCertificate org off len brk s = .next t) : t.otp = s.otp := by
  unfold execGetCertificate at h
  cases h
  (repeat' (first | with_reducible rfl | intro _ | with_reducible apply ite_otp | (simp -implicitDefEqProofs; done) | apply State.request_otp | apply State.spdm_otp | apply State.pldm_otp | apply State.inSession_otp | apply State.inSess_otp | apply State.updateMsg_otp | apply State.control_otp | apply State.ownerCmd_otp | apply State.updDecide_otp | apply State.keyDecide_otp | apply State.onFrame_otp | apply State.plain_otp | apply State.modeOp_otp | split | refine (each_otp _ _ _ ?_).trans ?_ | refine (foldl_otp _ _ _ ?_).trans ?_ | refine (when_otp _ _ _ ?_).trans ?_ | simp -implicitDefEqProofs))
theorem execChallenge_otp (org : Origin) (transcript : List Byte) (brk : Option SpdmErr) (s : State) (t : State) (h : execChallenge org transcript brk s = .next t) : t.otp = s.otp := by
  unfold execChallenge at h
  cases h
  (repeat' (first | with_reducible rfl | intro _ | with_reducible apply ite_otp | (simp -implicitDefEqProofs; done) | apply State.request_otp | apply State.spdm_otp | apply State.pldm_otp | apply State.inSession_otp | apply State.inSess_otp | apply State.updateMsg_otp | apply State.control_otp | apply State.ownerCmd_otp | apply State.updDecide_otp | apply State.keyDecide_otp | apply State.onFrame_otp | apply State.plain_otp | apply State.modeOp_otp | split | refine (each_otp _ _ _ ?_).trans ?_ | refine (foldl_otp _ _ _ ?_).trans ?_ | refine (when_otp _ _ _ ?_).trans ?_ | simp -implicitDefEqProofs))
theorem execGetMeasurements_otp (org : Origin) (index : Nat) (signed : Bool) (transcript : List Byte) (brk : Option SpdmErr) (s : State) (t : State) (h : execGetMeasurements org index signed transcript brk s = .next t) : t.otp = s.otp := by
  unfold execGetMeasurements at h
  cases h
  (repeat' (first | with_reducible rfl | intro _ | with_reducible apply ite_otp | (simp -implicitDefEqProofs; done) | apply State.request_otp | apply State.spdm_otp | apply State.pldm_otp | apply State.inSession_otp | apply State.inSess_otp | apply State.updateMsg_otp | apply State.control_otp | apply State.ownerCmd_otp | apply State.updDecide_otp | apply State.keyDecide_otp | apply State.onFrame_otp | apply State.plain_otp | apply State.modeOp_otp | split | refine (each_otp _ _ _ ?_).trans ?_ | refine (foldl_otp _ _ _ ?_).trans ?_ | refine (when_otp _ _ _ ?_).trans ?_ | simp -implicitDefEqProofs))
theorem execFinish_otp (org : Origin) (id : Nat) (tr : List Byte) (brk : Option SpdmErr) (s t : State) (h : execFinish org id tr brk s = .next t) :
    t.otp = s.otp := by
  unfold execFinish at h
  cases h
  refine State.spdm_otp _ _ _ _ _ _ fun t s => State.inSess_otp _ _ _ _ _ fun q s => ?_
  have k := State.ks3Sign_otp s tr
  split
  · rename_i e; rw [State.respond_otp]; exact snd_otp e k
  · rename_i e; rw [State.spdmData_otp, State.putSess_otp]; exact snd_otp e k
theorem execHeartbeat_otp (org : Origin) (id : Nat) (brk : Option SpdmErr) (s : State) (t : State) (h : execHeartbeat org id brk s = .next t) : t.otp = s.otp := by
  unfold execHeartbeat at h
  cases h
  (repeat' (first | with_reducible rfl | intro _ | with_reducible apply ite_otp | (simp -implicitDefEqProofs; done) | apply State.request_otp | apply State.spdm_otp | apply State.pldm_otp | apply State.inSession_otp | apply State.inSess_otp | apply State.updateMsg_otp | apply State.control_otp | apply State.ownerCmd_otp | apply State.updDecide_otp | apply State.keyDecide_otp | apply State.onFrame_otp | apply State.plain_otp | apply State.modeOp_otp | split | refine (each_otp _ _ _ ?_).trans ?_ | refine (foldl_otp _ _ _ ?_).trans ?_ | refine (when_otp _ _ _ ?_).trans ?_ | simp -implicitDefEqProofs))
theorem execHeartbeatExpiry_otp (id : Nat) (s : State) (t : State) (h : execHeartbeatExpiry id s = .next t) : t.otp = s.otp := by
  unfold execHeartbeatExpiry at h
  cases h
  (repeat' split) <;> simp -implicitDefEqProofs
theorem execKeyUpdate_otp (org : Origin) (id : Nat) (brk : Option SpdmErr) (s : State) (t : State) (h : execKeyUpdate org id brk s = .next t) : t.otp = s.otp := by
  unfold execKeyUpdate at h
  cases h
  (repeat' (first | with_reducible rfl | intro _ | with_reducible apply ite_otp | (simp -implicitDefEqProofs; done) | apply State.request_otp | apply State.spdm_otp | apply State.pldm_otp | apply State.inSession_otp | apply State.inSess_otp | apply State.updateMsg_otp | apply State.control_otp | apply State.ownerCmd_otp | apply State.updDecide_otp | apply State.keyDecide_otp | apply State.onFrame_otp | apply State.plain_otp | apply State.modeOp_otp | split | refine (each_otp _ _ _ ?_).trans ?_ | refine (foldl_otp _ _ _ ?_).trans ?_ | refine (when_otp _ _ _ ?_).trans ?_ | simp -implicitDefEqProofs))
theorem execEndSession_otp (org : Origin) (id : Nat) (brk : Option SpdmErr) (s : State) (t : State) (h : execEndSession org id brk s = .next t) : t.otp = s.otp := by
  unfold execEndSession at h
  cases h
  (repeat' (first | with_reducible rfl | intro _ | with_reducible apply ite_otp | (simp -implicitDefEqProofs; done) | apply State.request_otp | apply State.spdm_otp | apply State.pldm_otp | apply State.inSession_otp | apply State.inSess_otp | apply State.updateMsg_otp | apply State.control_otp | apply State.ownerCmd_otp | apply State.updDecide_otp | apply State.keyDecide_otp | apply State.onFrame_otp | apply State.plain_otp | apply State.modeOp_otp | split | refine (each_otp _ _ _ ?_).trans ?_ | refine (foldl_otp _ _ _ ?_).trans ?_ | refine (when_otp _ _ _ ?_).trans ?_ | simp -implicitDefEqProofs))
theorem execRespondIfReady_otp (org : Origin) (brk : Option SpdmErr) (s : State) (t : State) (h : execRespondIfReady org brk s = .next t) : t.otp = s.otp := by
  unfold execRespondIfReady at h
  cases h
  (repeat' (first | with_reducible rfl | intro _ | with_reducible apply ite_otp | (simp -implicitDefEqProofs; done) | apply State.request_otp | apply State.spdm_otp | apply State.pldm_otp | apply State.inSession_otp | apply State.inSess_otp | apply State.updateMsg_otp | apply State.control_otp | apply State.ownerCmd_otp | apply State.updDecide_otp | apply State.keyDecide_otp | apply State.onFrame_otp | apply State.plain_otp | apply State.modeOp_otp | split | refine (each_otp _ _ _ ?_).trans ?_ | refine (foldl_otp _ _ _ ?_).trans ?_ | refine (when_otp _ _ _ ?_).trans ?_ | simp -implicitDefEqProofs))
theorem execChunkGet_otp (org : Origin) (brk : Option SpdmErr) (s : State) (t : State) (h : execChunkGet org brk s = .next t) : t.otp = s.otp := by
  unfold execChunkGet at h
  cases h
  (repeat' (first | with_reducible rfl | intro _ | with_reducible apply ite_otp | (simp -implicitDefEqProofs; done) | apply State.request_otp | apply State.spdm_otp | apply State.pldm_otp | apply State.inSession_otp | apply State.inSess_otp | apply State.updateMsg_otp | apply State.control_otp | apply State.ownerCmd_otp | apply State.updDecide_otp | apply State.keyDecide_otp | apply State.onFrame_otp | apply State.plain_otp | apply State.modeOp_otp | split | refine (each_otp _ _ _ ?_).trans ?_ | refine (foldl_otp _ _ _ ?_).trans ?_ | refine (when_otp _ _ _ ?_).trans ?_ | simp -implicitDefEqProofs))
theorem execVendorDefinedRequest_otp (org : Origin) (data : List Byte) (brk : Option SpdmErr) (s : State) (t : State) (h : execVendorDefinedRequest org data brk s = .next t) : t.otp = s.otp := by
  unfold execVendorDefinedRequest at h
  cases h
  (repeat' (first | with_reducible rfl | intro _ | with_reducible apply ite_otp | (simp -implicitDefEqProofs; done) | apply State.request_otp | apply State.spdm_otp | apply State.pldm_otp | apply State.inSession_otp | apply State.inSess_otp | apply State.updateMsg_otp | apply State.control_otp | apply State.ownerCmd_otp | apply State.updDecide_otp | apply State.keyDecide_otp | apply State.onFrame_otp | apply State.plain_otp | apply State.modeOp_otp | split | refine (each_otp _ _ _ ?_).trans ?_ | refine (foldl_otp _ _ _ ?_).trans ?_ | refine (when_otp _ _ _ ?_).trans ?_ | simp -implicitDefEqProofs))
theorem execSpdmUnsupportedRequest_otp (org : Origin) (s : State) (t : State) (h : execSpdmUnsupportedRequest org s = .next t) : t.otp = s.otp := by
  unfold execSpdmUnsupportedRequest at h
  cases h
  (repeat' (first | with_reducible rfl | intro _ | with_reducible apply ite_otp | (simp -implicitDefEqProofs; done) | apply State.request_otp | apply State.spdm_otp | apply State.pldm_otp | apply State.inSession_otp | apply State.inSess_otp | apply State.updateMsg_otp | apply State.control_otp | apply State.ownerCmd_otp | apply State.updDecide_otp | apply State.keyDecide_otp | apply State.onFrame_otp | apply State.plain_otp | apply State.modeOp_otp | split | refine (each_otp _ _ _ ?_).trans ?_ | refine (foldl_otp _ _ _ ?_).trans ?_ | refine (when_otp _ _ _ ?_).trans ?_ | simp -implicitDefEqProofs))
theorem execGetTid_otp (org : Origin) (s : State) (t : State) (h : execGetTid org s = .next t) : t.otp = s.otp := by
  unfold execGetTid at h
  cases h
  (repeat' (first | with_reducible rfl | intro _ | with_reducible apply ite_otp | (simp -implicitDefEqProofs; done) | apply State.request_otp | apply State.spdm_otp | apply State.pldm_otp | apply State.inSession_otp | apply State.inSess_otp | apply State.updateMsg_otp | apply State.control_otp | apply State.ownerCmd_otp | apply State.updDecide_otp | apply State.keyDecide_otp | apply State.onFrame_otp | apply State.plain_otp | apply State.modeOp_otp | split | refine (each_otp _ _ _ ?_).trans ?_ | refine (foldl_otp _ _ _ ?_).trans ?_ | refine (when_otp _ _ _ ?_).trans ?_ | simp -implicitDefEqProofs))
theorem execGetPldmVersion_otp (org : Origin) (typ : Nat) (s : State) (t : State) (h : execGetPldmVersion org typ s = .next t) : t.otp = s.otp := by
  unfold execGetPldmVersion at h
  cases h
  (repeat' (first | with_reducible rfl | intro _ | with_reducible apply ite_otp | (simp -implicitDefEqProofs; done) | apply State.request_otp | apply State.spdm_otp | apply State.pldm_otp | apply State.inSession_otp | apply State.inSess_otp | apply State.updateMsg_otp | apply State.control_otp | apply State.ownerCmd_otp | apply State.updDecide_otp | apply State.keyDecide_otp | apply State.onFrame_otp | apply State.plain_otp | apply State.modeOp_otp | split | refine (each_otp _ _ _ ?_).trans ?_ | refine (foldl_otp _ _ _ ?_).trans ?_ | refine (when_otp _ _ _ ?_).trans ?_ | simp -implicitDefEqProofs))
theorem execGetPldmTypes_otp (org : Origin) (s : State) (t : State) (h : execGetPldmTypes org s = .next t) : t.otp = s.otp := by
  unfold execGetPldmTypes at h
  cases h
  (repeat' (first | with_reducible rfl | intro _ | with_reducible apply ite_otp | (simp -implicitDefEqProofs; done) | apply State.request_otp | apply State.spdm_otp | apply State.pldm_otp | apply State.inSession_otp | apply State.inSess_otp | apply State.updateMsg_otp | apply State.control_otp | apply State.ownerCmd_otp | apply State.updDecide_otp | apply State.keyDecide_otp | apply State.onFrame_otp | apply State.plain_otp | apply State.modeOp_otp | split | refine (each_otp _ _ _ ?_).trans ?_ | refine (foldl_otp _ _ _ ?_).trans ?_ | refine (when_otp _ _ _ ?_).trans ?_ | simp -implicitDefEqProofs))
theorem execGetPldmCommands_otp (org : Origin) (typ : Nat) (s : State) (t : State) (h : execGetPldmCommands org typ s = .next t) : t.otp = s.otp := by
  unfold execGetPldmCommands at h
  cases h
  (repeat' (first | with_reducible rfl | intro _ | with_reducible apply ite_otp | (simp -implicitDefEqProofs; done) | apply State.request_otp | apply State.spdm_otp | apply State.pldm_otp | apply State.inSession_otp | apply State.inSess_otp | apply State.updateMsg_otp | apply State.control_otp | apply State.ownerCmd_otp | apply State.updDecide_otp | apply State.keyDecide_otp | apply State.onFrame_otp | apply State.plain_otp | apply State.modeOp_otp | split | refine (each_otp _ _ _ ?_).trans ?_ | refine (foldl_otp _ _ _ ?_).trans ?_ | refine (when_otp _ _ _ ?_).trans ?_ | simp -implicitDefEqProofs))
theorem execQueryDeviceIdentifiers_otp (org : Origin) (s : State) (t : State) (h : execQueryDeviceIdentifiers org s = .next t) : t.otp = s.otp := by
  unfold execQueryDeviceIdentifiers at h
  cases h
  (repeat' (first | with_reducible rfl | intro _ | with_reducible apply ite_otp | (simp -implicitDefEqProofs; done) | apply State.request_otp | apply State.spdm_otp | apply State.pldm_otp | apply State.inSession_otp | apply State.inSess_otp | apply State.updateMsg_otp | apply State.control_otp | apply State.ownerCmd_otp | apply State.updDecide_otp | apply State.keyDecide_otp | apply State.onFrame_otp | apply State.plain_otp | apply State.modeOp_otp | split | refine (each_otp _ _ _ ?_).trans ?_ | refine (foldl_otp _ _ _ ?_).trans ?_ | refine (when_otp _ _ _ ?_).trans ?_ | simp -implicitDefEqProofs))
theorem execGetFirmwareParameters_otp (org : Origin) (s : State) (t : State) (h : execGetFirmwareParameters org s = .next t) : t.otp = s.otp := by
  unfold execGetFirmwareParameters at h
  cases h
  (repeat' (first | with_reducible rfl | intro _ | with_reducible apply ite_otp | (simp -implicitDefEqProofs; done) | apply State.request_otp | apply State.spdm_otp | apply State.pldm_otp | apply State.inSession_otp | apply State.inSess_otp | apply State.updateMsg_otp | apply State.control_otp | apply State.ownerCmd_otp | apply State.updDecide_otp | apply State.keyDecide_otp | apply State.onFrame_otp | apply State.plain_otp | apply State.modeOp_otp | split | refine (each_otp _ _ _ ?_).trans ?_ | refine (foldl_otp _ _ _ ?_).trans ?_ | refine (when_otp _ _ _ ?_).trans ?_ | simp -implicitDefEqProofs))
theorem execRequestUpdate_otp (org : Origin) (s : State) (t : State) (h : execRequestUpdate org s = .next t) : t.otp = s.otp := by
  unfold execRequestUpdate at h
  cases h
  (repeat' (first | with_reducible rfl | intro _ | with_reducible apply ite_otp | (simp -implicitDefEqProofs; done) | apply State.request_otp | apply State.spdm_otp | apply State.pldm_otp | apply State.inSession_otp | apply State.inSess_otp | apply State.updateMsg_otp | apply State.control_otp | apply State.ownerCmd_otp | apply State.updDecide_otp | apply State.keyDecide_otp | apply State.onFrame_otp | apply State.plain_otp | apply State.modeOp_otp | split | refine (each_otp _ _ _ ?_).trans ?_ | refine (foldl_otp _ _ _ ?_).trans ?_ | refine (when_otp _ _ _ ?_).trans ?_ | simp -implicitDefEqProofs))
theorem execPassComponentTable_otp (org : Origin) (last : Bool) (s : State) (t : State) (h : execPassComponentTable org last s = .next t) : t.otp = s.otp := by
  unfold execPassComponentTable at h
  cases h
  (repeat' (first | with_reducible rfl | intro _ | with_reducible apply ite_otp | (simp -implicitDefEqProofs; done) | apply State.request_otp | apply State.spdm_otp | apply State.pldm_otp | apply State.inSession_otp | apply State.inSess_otp | apply State.updateMsg_otp | apply State.control_otp | apply State.ownerCmd_otp | apply State.updDecide_otp | apply State.keyDecide_otp | apply State.onFrame_otp | apply State.plain_otp | apply State.modeOp_otp | split | refine (each_otp _ _ _ ?_).trans ?_ | refine (foldl_otp _ _ _ ?_).trans ?_ | refine (when_otp _ _ _ ?_).trans ?_ | simp -implicitDefEqProofs))
theorem execUpdateComponent_otp (org : Origin) (comp size svn : Nat) (s : State) (t : State) (h : execUpdateComponent org comp size svn s = .next t) : t.otp = s.otp := by
  unfold execUpdateComponent at h
  cases h
  (repeat' (first | with_reducible rfl | intro _ | with_reducible apply ite_otp | (simp -implicitDefEqProofs; done) | apply State.request_otp | apply State.spdm_otp | apply State.pldm_otp | apply State.inSession_otp | apply State.inSess_otp | apply State.updateMsg_otp | apply State.control_otp | apply State.ownerCmd_otp | apply State.updDecide_otp | apply State.keyDecide_otp | apply State.onFrame_otp | apply State.plain_otp | apply State.modeOp_otp | split | refine (each_otp _ _ _ ?_).trans ?_ | refine (foldl_otp _ _ _ ?_).trans ?_ | refine (when_otp _ _ _ ?_).trans ?_ | simp -implicitDefEqProofs))
theorem execActivateFirmware_otp (org : Origin) (s : State) (t : State) (h : execActivateFirmware org s = .next t) : t.otp = s.otp := by
  unfold execActivateFirmware at h
  cases h
  (repeat' (first | with_reducible rfl | intro _ | with_reducible apply ite_otp | (simp -implicitDefEqProofs; done) | apply State.request_otp | apply State.spdm_otp | apply State.pldm_otp | apply State.inSession_otp | apply State.inSess_otp | apply State.updateMsg_otp | apply State.control_otp | apply State.ownerCmd_otp | apply State.updDecide_otp | apply State.keyDecide_otp | apply State.onFrame_otp | apply State.plain_otp | apply State.modeOp_otp | split | refine (each_otp _ _ _ ?_).trans ?_ | refine (foldl_otp _ _ _ ?_).trans ?_ | refine (when_otp _ _ _ ?_).trans ?_ | simp -implicitDefEqProofs))
theorem execGetStatus_otp (org : Origin) (s : State) (t : State) (h : execGetStatus org s = .next t) : t.otp = s.otp := by
  unfold execGetStatus at h
  cases h
  (repeat' (first | with_reducible rfl | intro _ | with_reducible apply ite_otp | (simp -implicitDefEqProofs; done) | apply State.request_otp | apply State.spdm_otp | apply State.pldm_otp | apply State.inSession_otp | apply State.inSess_otp | apply State.updateMsg_otp | apply State.control_otp | apply State.ownerCmd_otp | apply State.updDecide_otp | apply State.keyDecide_otp | apply State.onFrame_otp | apply State.plain_otp | apply State.modeOp_otp | split | refine (each_otp _ _ _ ?_).trans ?_ | refine (foldl_otp _ _ _ ?_).trans ?_ | refine (when_otp _ _ _ ?_).trans ?_ | simp -implicitDefEqProofs))
theorem execCancelUpdateComponent_otp (org : Origin) (s : State) (t : State) (h : execCancelUpdateComponent org s = .next t) : t.otp = s.otp := by
  unfold execCancelUpdateComponent at h
  cases h
  (repeat' (first | with_reducible rfl | intro _ | with_reducible apply ite_otp | (simp -implicitDefEqProofs; done) | apply State.request_otp | apply State.spdm_otp | apply State.pldm_otp | apply State.inSession_otp | apply State.inSess_otp | apply State.updateMsg_otp | apply State.control_otp | apply State.ownerCmd_otp | apply State.updDecide_otp | apply State.keyDecide_otp | apply State.onFrame_otp | apply State.plain_otp | apply State.modeOp_otp | split | refine (each_otp _ _ _ ?_).trans ?_ | refine (foldl_otp _ _ _ ?_).trans ?_ | refine (when_otp _ _ _ ?_).trans ?_ | simp -implicitDefEqProofs))
theorem execCancelUpdate_otp (org : Origin) (s : State) (t : State) (h : execCancelUpdate org s = .next t) : t.otp = s.otp := by
  unfold execCancelUpdate at h
  cases h
  (repeat' (first | with_reducible rfl | intro _ | with_reducible apply ite_otp | (simp -implicitDefEqProofs; done) | apply State.request_otp | apply State.spdm_otp | apply State.pldm_otp | apply State.inSession_otp | apply State.inSess_otp | apply State.updateMsg_otp | apply State.control_otp | apply State.ownerCmd_otp | apply State.updDecide_otp | apply State.keyDecide_otp | apply State.onFrame_otp | apply State.plain_otp | apply State.modeOp_otp | split | refine (each_otp _ _ _ ?_).trans ?_ | refine (foldl_otp _ _ _ ?_).trans ?_ | refine (when_otp _ _ _ ?_).trans ?_ | simp -implicitDefEqProofs))
theorem execUpdWrite_otp (handle comp : Nat) (s : State) (t : State) (h : execUpdWrite handle comp s = .next t) : t.otp = s.otp := by
  unfold execUpdWrite at h
  cases h
  (repeat' (first | with_reducible rfl | intro _ | with_reducible apply ite_otp | (simp -implicitDefEqProofs; done) | apply State.request_otp | apply State.spdm_otp | apply State.pldm_otp | apply State.inSession_otp | apply State.inSess_otp | apply State.updateMsg_otp | apply State.control_otp | apply State.ownerCmd_otp | apply State.updDecide_otp | apply State.keyDecide_otp | apply State.onFrame_otp | apply State.plain_otp | apply State.modeOp_otp | split | refine (each_otp _ _ _ ?_).trans ?_ | refine (foldl_otp _ _ _ ?_).trans ?_ | refine (when_otp _ _ _ ?_).trans ?_ | simp -implicitDefEqProofs))
theorem execUpdSettle_otp (s : State) (t : State) (h : execUpdSettle s = .next t) : t.otp = s.otp := by
  unfold execUpdSettle at h
  cases h
  (repeat' (first | with_reducible rfl | intro _ | with_reducible apply ite_otp | (simp -implicitDefEqProofs; done) | apply State.request_otp | apply State.spdm_otp | apply State.pldm_otp | apply State.inSession_otp | apply State.inSess_otp | apply State.updateMsg_otp | apply State.control_otp | apply State.ownerCmd_otp | apply State.updDecide_otp | apply State.keyDecide_otp | apply State.onFrame_otp | apply State.plain_otp | apply State.modeOp_otp | split | refine (each_otp _ _ _ ?_).trans ?_ | refine (foldl_otp _ _ _ ?_).trans ?_ | refine (when_otp _ _ _ ?_).trans ?_ | simp -implicitDefEqProofs))
theorem execUpdJobDone_otp (units : Nat) (fail : Option (Nat × Nat)) (src : Option CopyImage) (s : State) (t : State) (h : execUpdJobDone units fail src s = .next t) : t.otp = s.otp := by
  unfold execUpdJobDone at h
  cases h
  (repeat' (first | with_reducible rfl | intro _ | with_reducible apply ite_otp | split | (simp -implicitDefEqProofs; done) | refine (each_otp _ _ _ ?_).trans ?_ | refine (foldl_otp _ _ _ ?_).trans ?_ | refine (when_otp _ _ _ ?_).trans ?_ | simp -implicitDefEqProofs))
theorem execUpdSwap_otp (comp : Nat) (h0 h1 : List Byte) (s : State) (t : State) (h : execUpdSwap comp h0 h1 s = .next t) : t.otp = s.otp := by
  unfold execUpdSwap at h
  cases h
  (repeat' (first | with_reducible rfl | intro _ | with_reducible apply ite_otp | (simp -implicitDefEqProofs; done) | apply State.request_otp | apply State.spdm_otp | apply State.pldm_otp | apply State.inSession_otp | apply State.inSess_otp | apply State.updateMsg_otp | apply State.control_otp | apply State.ownerCmd_otp | apply State.updDecide_otp | apply State.keyDecide_otp | apply State.onFrame_otp | apply State.plain_otp | apply State.modeOp_otp | split | refine (each_otp _ _ _ ?_).trans ?_ | refine (foldl_otp _ _ _ ?_).trans ?_ | refine (when_otp _ _ _ ?_).trans ?_ | simp -implicitDefEqProofs))
theorem execUpdActivateBv_otp (s : State) (t : State) (h : execUpdActivateBv s = .next t) : t.otp = s.otp := by
  unfold execUpdActivateBv at h
  cases h
  (repeat' (first | with_reducible rfl | intro _ | with_reducible apply ite_otp | (simp -implicitDefEqProofs; done) | apply State.request_otp | apply State.spdm_otp | apply State.pldm_otp | apply State.inSession_otp | apply State.inSess_otp | apply State.updateMsg_otp | apply State.control_otp | apply State.ownerCmd_otp | apply State.updDecide_otp | apply State.keyDecide_otp | apply State.onFrame_otp | apply State.plain_otp | apply State.modeOp_otp | split | refine (each_otp _ _ _ ?_).trans ?_ | refine (foldl_otp _ _ _ ?_).trans ?_ | refine (when_otp _ _ _ ?_).trans ?_ | simp -implicitDefEqProofs))
theorem execPauseExpiry_otp (s : State) (t : State) (h : execPauseExpiry s = .next t) : t.otp = s.otp := by
  unfold execPauseExpiry at h
  cases h
  split <;> simp -implicitDefEqProofs
theorem execCommitSvn_otp (cls : Nat) (s : State) (t : State) (h : execCommitSvn cls s = .next t) : t.otp = s.otp := by
  unfold execCommitSvn at h
  cases h
  (repeat' split) <;> simp -implicitDefEqProofs
theorem execUpdResume_otp (s : State) (t : State) (h : execUpdResume s = .next t) : t.otp = s.otp := by
  unfold execUpdResume at h
  cases h
  (repeat' (first | with_reducible rfl | intro _ | with_reducible apply ite_otp | (simp -implicitDefEqProofs; done) | apply State.request_otp | apply State.spdm_otp | apply State.pldm_otp | apply State.inSession_otp | apply State.inSess_otp | apply State.updateMsg_otp | apply State.control_otp | apply State.ownerCmd_otp | apply State.updDecide_otp | apply State.keyDecide_otp | apply State.onFrame_otp | apply State.plain_otp | apply State.modeOp_otp | split | refine (each_otp _ _ _ ?_).trans ?_ | refine (foldl_otp _ _ _ ?_).trans ?_ | refine (when_otp _ _ _ ?_).trans ?_ | simp -implicitDefEqProofs))
theorem execUpdOwnerLock_otp (s : State) (t : State) (h : execUpdOwnerLock s = .next t) : t.otp = s.otp := by
  unfold execUpdOwnerLock at h
  cases h
  simp -implicitDefEqProofs
theorem execUpdAbort_otp (s : State) (t : State) (h : execUpdAbort s = .next t) : t.otp = s.otp := by
  unfold execUpdAbort at h
  cases h
  (repeat' split) <;> simp -implicitDefEqProofs
theorem execLcsToFactory_otp (debugger : Bool) (s : State) (t : State) (h : execLcsToFactory debugger s = .next t) : t.otp = s.otp := by
  unfold execLcsToFactory at h
  cases h
  simp -implicitDefEqProofs
theorem execLcsToOwned_otp (debugger : Bool) (s : State) (t : State) (h : execLcsToOwned debugger s = .next t) : t.otp = s.otp := by
  unfold execLcsToOwned at h
  cases h
  simp -implicitDefEqProofs
theorem execLcsToReturned_otp (debugger : Bool) (s : State) (t : State) (h : execLcsToReturned debugger s = .next t) : t.otp = s.otp := by
  unfold execLcsToReturned at h
  cases h
  simp -implicitDefEqProofs
theorem execLcsToScrap_otp (debugger : Bool) (s : State) (t : State) (h : execLcsToScrap debugger s = .next t) : t.otp = s.otp := by
  unfold execLcsToScrap at h
  cases h
  simp -implicitDefEqProofs
theorem execLcsArm_otp (word : Nat) (s : State) (t : State) (h : execLcsArm word s = .next t) : t.otp = s.otp := by
  unfold execLcsArm at h
  cases h
  simp -implicitDefEqProofs
theorem execArmedExpiry_otp (s : State) (t : State) (h : execArmedExpiry s = .next t) : t.otp = s.otp := by
  unfold execArmedExpiry at h
  cases h
  simp -implicitDefEqProofs
theorem execTokenLoad_otp (token : List Byte) (s : State) (t : State) (h : execTokenLoad token s = .next t) : t.otp = s.otp := by
  unfold execTokenLoad at h
  cases h
  simp -implicitDefEqProofs
theorem execNonceReq_otp (debugger : Bool) (s : State) (t : State) (h : execNonceReq debugger s = .next t) : t.otp = s.otp := by
  unfold execNonceReq at h
  cases h
  have k := State.takeItem_otp s
  (repeat' split)
  all_goals first | (simp -implicitDefEqProofs; done) | (rename_i e; first | exact snd_otp e k | (simp -implicitDefEqProofs; exact snd_otp e k))
theorem execTokenClear_otp (debugger : Bool) (s : State) (t : State) (h : execTokenClear debugger s = .next t) : t.otp = s.otp := by
  unfold execTokenClear at h
  cases h
  (repeat' split) <;> simp -implicitDefEqProofs
theorem execHaltReq_otp (debugger : Bool) (s : State) (t : State) (h : execHaltReq debugger s = .next t) : t.otp = s.otp := by
  unfold execHaltReq at h
  cases h
  (repeat' split) <;> simp -implicitDefEqProofs
theorem execHalt_otp (s : State) (t : State) (h : execHalt s = .next t) : t.otp = s.otp := by
  unfold execHalt at h
  cases h
  (repeat' split) <;> simp -implicitDefEqProofs
theorem execDebugWrite_otp (addr value : Nat) (s : State) (t : State) (h : execDebugWrite addr value s = .next t) : t.otp = s.otp := by
  unfold execDebugWrite at h
  cases h
  (repeat' split) <;> simp -implicitDefEqProofs
theorem execScanEntry_otp (s : State) (t : State) (h : execScanEntry s = .next t) : t.otp = s.otp := by
  unfold execScanEntry at h
  cases h
  (repeat' split) <;> simp -implicitDefEqProofs
theorem execRailToVbat_otp (s : State) (t : State) (h : execRailToVbat s = .next t) : t.otp = s.otp := by
  unfold execRailToVbat at h
  cases h
  (repeat' split) <;> simp -implicitDefEqProofs
theorem execRailToVddAon_otp (s : State) (t : State) (h : execRailToVddAon s = .next t) : t.otp = s.otp := by
  unfold execRailToVddAon at h
  cases h
  (repeat' split) <;> simp -implicitDefEqProofs
theorem execMeshBurst_otp (one both : Nat) (reads : List Nat) (glitch : Bool) (s : State) (t : State) (h : execMeshBurst one both reads glitch s = .next t) : t.otp = s.otp := by
  unfold execMeshBurst at h
  cases h
  dsimp only
  (repeat' split) <;> simp -implicitDefEqProofs
theorem execSensorSample_otp (temps mvs : List Nat) (s : State) (t : State) (h : execSensorSample temps mvs s = .next t) : t.otp = s.otp := by
  unfold execSensorSample at h
  cases h
  dsimp only
  (repeat' split) <;> simp -implicitDefEqProofs
theorem execApplyRules_otp (len : Nat) (s : State) (t : State) (h : execApplyRules len s = .next t) : t.otp = s.otp := by
  unfold execApplyRules at h
  cases h
  (repeat' split) <;> simp -implicitDefEqProofs
theorem execSetRtc_otp (s : State) (t : State) (h : execSetRtc s = .next t) : t.otp = s.otp := by
  unfold execSetRtc at h
  cases h
  (repeat' split) <;> simp -implicitDefEqProofs
theorem execEvtAck_otp (n : Nat) (s : State) (t : State) (h : execEvtAck n s = .next t) : t.otp = s.otp := by
  unfold execEvtAck at h
  cases h
  (repeat' split) <;> simp -implicitDefEqProofs
theorem execClearFired_otp (r : Nat) (s : State) (t : State) (h : execClearFired r s = .next t) : t.otp = s.otp := by
  unfold execClearFired at h
  cases h
  (repeat' split) <;> simp -implicitDefEqProofs
theorem execJournalStart_otp (s t : State) (h : execJournalStart s = .next t) : t.otp = s.otp := by
  unfold execJournalStart at h
  split at h
  · cases h; simp
  · cases h; rw [State.cmdEnd_otp, State.jStart_otp]
theorem execJournalFlush_otp (s t : State) (h : execJournalFlush s = .next t) : t.otp = s.otp := by
  unfold execJournalFlush at h
  split at h
  · cases h; simp
  · split at h
    · cases h; simp
    · cases h; simp
theorem execJournalWrite_otp (s : State) (t : State) (h : execJournalWrite s = .next t) : t.otp = s.otp := by
  unfold execJournalWrite at h
  dsimp only at h
  (repeat' (first | cases h | split at h))
  all_goals simp -implicitDefEqProofs
theorem execJournalVerify_otp (count : Nat) (s : State) (t : State) (h : execJournalVerify count s = .next t) : t.otp = s.otp := by
  unfold execJournalVerify at h
  dsimp only at h
  (repeat' (first | cases h | split at h))
  all_goals simp -implicitDefEqProofs
theorem execJournalDrain_otp (s t : State) (h : execJournalDrain s = .next t) : t.otp = s.otp := by
  unfold execJournalDrain at h
  split at h
  · cases h; rfl
  · split at h <;> cases h
    · exact when_otp _ _ _ fun s => by simp
    · simp
theorem execLogFlush_otp (written : List Bool) (count : Nat) (ok : Bool) (s : State) (t : State) (h : execLogFlush written count ok s = .next t) : t.otp = s.otp := by
  unfold execLogFlush at h
  dsimp only at h
  (repeat' (first | cases h | split at h))
  all_goals simp -implicitDefEqProofs
theorem execTempSample_otp (temps : List Nat) (s : State) (t : State) (h : execTempSample temps s = .next t) : t.otp = s.otp := by
  unfold execTempSample at h
  cases h
  dsimp only
  (repeat' split) <;> simp -implicitDefEqProofs
theorem execBelvedereResume_otp (s : State) (t : State) (h : execBelvedereResume s = .next t) : t.otp = s.otp := by
  unfold execBelvedereResume at h
  cases h
  (repeat' split) <;> simp -implicitDefEqProofs
theorem execPcieLinkChange_otp (up : Bool) (gen width : Nat) (s : State) (t : State) (h : execPcieLinkChange up gen width s = .next t) : t.otp = s.otp := by
  unfold execPcieLinkChange at h
  cases h
  (repeat' split) <;> simp -implicitDefEqProofs
theorem execRekeyBlockPassed_otp (s : State) (t : State) (h : execRekeyBlockPassed s = .next t) : t.otp = s.otp := by
  unfold execRekeyBlockPassed at h
  cases h
  dsimp only
  (repeat' split) <;> simp -implicitDefEqProofs
theorem execRediscoverDone_otp (obs : DevObs) (s : State) (t : State) (h : execRediscoverDone obs s = .next t) : t.otp = s.otp := by
  unfold execRediscoverDone at h
  cases h
  dsimp only
  (repeat' split) <;> simp -implicitDefEqProofs
theorem execJournalVerifyDone_otp (s : State) (t : State) (h : execJournalVerifyDone s = .next t) : t.otp = s.otp := by
  unfold execJournalVerifyDone at h
  dsimp only at h
  (repeat' (first | cases h | split at h))
  all_goals simp -implicitDefEqProofs
theorem execSendDone_otp (ok : Bool) (s : State) (t : State) (h : execSendDone ok s = .next t) : t.otp = s.otp := by
  unfold execSendDone at h
  cases h
  (repeat' split) <;> simp -implicitDefEqProofs
theorem execVbatBrownout_otp (mv : Nat) (s : State) (t : State) (h : execVbatBrownout mv s = .next t) : t.otp = s.otp := by
  unfold execVbatBrownout at h
  cases h
  (repeat' split) <;> simp -implicitDefEqProofs
theorem execVbatBrownoutEnd_otp (s : State) (t : State) (h : execVbatBrownoutEnd s = .next t) : t.otp = s.otp := by
  unfold execVbatBrownoutEnd at h
  cases h
  simp -implicitDefEqProofs
theorem ite_none_some {α : Type} {c : Prop} [Decidable c] {a f : α} (h : (if c then none else some a) = some f) : f = a := by
  split at h <;> cases h
  rfl
theorem execFlashOpTimeout_otp (dev addr : Nat) (taps : List Nat) (s : State) (t : State) (h : execFlashOpTimeout dev addr taps s = .next t) :
    t.otp = s.otp := by
  unfold execFlashOpTimeout at h
  cases h
  split
  · rename_i f e
    have hf : ∀ u, (f u).otp = u.otp := by
      intro u
      split at e
      · split at e <;> cases e
        · exact State.physFail_otp _ _ _ _ _
        · exact State.otherLate_otp _ _ _ _
      · rw [ite_none_some e]; exact State.otherLate_otp _ _ _ _
    exact ite_otp ((State.retrainDev_otp _ _ _ _).trans ((State.raise_otp _ _).trans ((State.otherDone_otp _ _).trans (hf _)))) rfl
  · rfl
theorem execKeyExchange_otp (org : Origin) (peer tr : List Byte) (brk : Option SpdmErr) (s t : State)
    (h : execKeyExchange org peer tr brk s = .next t) : t.otp = s.otp := by
  unfold execKeyExchange at h
  cases h
  refine State.spdm_otp _ _ _ _ _ _ fun t s => ite_otp rfl (ite_otp (by simp) (ite_otp (by simp) ?_))
  have k := State.takeItem_otp s
  split
  · rename_i e; rw [State.respond_otp]; exact snd_otp e k
  · rename_i it s1 e
    have h1 := snd_otp e k
    dsimp only
    have k2 := State.ks3Sign_otp s1 (tr ++ p384.encode (p384.mul (p384.scalar (beNat it)) p384.base))
    split
    · rename_i e2; rw [State.respond_otp]; exact (snd_otp e2 k2).trans h1
    · rename_i e2; rw [State.spdmData_otp, State.modMt_otp]; exact (snd_otp e2 k2).trans h1
theorem State.after_otp {s u : State} {o : Host.Outcome State Fault Refusal} (hu : s.otp = u.otp) (h : ∀ t, o = .next t → t.otp = u.otp) :
    (s.after o).otp = u.otp := by
  unfold State.after
  cases o with
  | next t => exact h t rfl
  | fault _ => exact hu
  | refused _ => exact hu
theorem State.spdmCarried_otp (s : State) (org : Origin) (m : List Byte) : (s.spdmCarried org m).otp = s.otp := by
  unfold State.spdmCarried
  extract_lets code tr s1 brk
  have h1 : s1.otp = s.otp := rfl
  clear_value s1 tr code brk
  rw [← h1]
  refine ite_otp (State.after_otp rfl fun t h => ?_) (ite_otp (State.after_otp rfl fun t h => ?_) (ite_otp (State.after_otp rfl fun t h => ?_)
    (ite_otp (State.after_otp rfl fun t h => ?_) (ite_otp (State.after_otp rfl fun t h => ?_) (ite_otp (State.after_otp rfl fun t h => ?_)
    (ite_otp (State.after_otp rfl fun t h => ?_) (ite_otp (State.after_otp rfl fun t h => ?_) (ite_otp (State.after_otp rfl fun t h => ?_)
    (ite_otp (State.after_otp rfl fun t h => ?_) (ite_otp rfl rfl))))))))))
  · exact execGetVersion_otp _ _ _ _ h
  · exact execGetCapabilities_otp _ _ _ _ _ _ h
  · exact execNegotiateAlgorithms_otp _ _ _ _ h
  · exact execGetDigests_otp _ _ _ _ h
  · exact execGetCertificate_otp _ _ _ _ _ _ h
  · exact execChallenge_otp _ _ _ _ _ h
  · exact execGetMeasurements_otp _ _ _ _ _ _ _ h
  · exact execKeyExchange_otp _ _ _ _ _ _ h
  · exact execRespondIfReady_otp _ _ _ _ h
  · exact execVendorDefinedRequest_otp _ _ _ _ _ h
theorem execChunkSend_otp (org : Origin) (data : List Byte) (last : Bool) (brk : Option SpdmErr) (s : State) (t : State) (h : execChunkSend org data last brk s = .next t) : t.otp = s.otp := by
  unfold execChunkSend at h
  cases h
  refine State.spdm_otp _ _ _ _ _ _ fun t s => ite_otp (by simp) (ite_otp ?_ (by simp))
  rw [State.spdmCarried_otp, State.setConn_otp]

theorem OtpGrows.deviceReset {s t : State} (h : OtpGrows s t) (c : Nat) : OtpGrows s (t.deviceReset c) := h.trans (deviceReset_grows t c)
theorem OtpGrows.resetNow {s t : State} (h : OtpGrows s t) (c : Nat) (b : Bool) : OtpGrows s (t.resetNow c b) := h.trans (resetNow_grows t c b)
theorem OtpGrows.askReset {s t : State} (h : OtpGrows s t) (c : Nat) (b : Bool) : OtpGrows s (t.askReset c b) := h.trans (askReset_grows t c b)
theorem OtpGrows.setF {s t : State} (h : OtpGrows s t) (f : Fld) (v : Nat) : OtpGrows s (t.setF f v) := h.then (State.setF_otp t f v)
theorem OtpGrows.modBoot {s t : State} (h : OtpGrows s t) (f : Boot → Boot) : OtpGrows s (t.modBoot f) := h.then (State.modBoot_otp t f)

theorem execPwrgdFall_grows (s t : State) (h : execPwrgdFall s = .next t) : OtpGrows s t := by
  unfold execPwrgdFall at h
  cases h
  have k := ((OtpGrows.refl s).setF SYSCTL_PIN_STAT_PWRGD_LVL 0).modBoot fun b => { b with supplies := setBits b.supplies 3 1 0 }
  exact OtpGrows.ite (OtpGrows.refl s) (OtpGrows.ite k (k.deviceReset _))
theorem execSupplyMonitorDrop_grows (n : Nat) (s t : State) (h : execSupplyMonitorDrop n s = .next t) : OtpGrows s t := by
  unfold execSupplyMonitorDrop at h
  cases h
  have k := (OtpGrows.refl s).modBoot fun b => { b with supplies := setBits b.supplies n 1 0 }
  exact OtpGrows.ite (OtpGrows.ite k (k.deviceReset _)) (OtpGrows.refl s)
theorem execMainPowerLoss_grows (n : Nat) (s t : State) (h : execMainPowerLoss n s = .next t) : OtpGrows s t := by
  unfold execMainPowerLoss at h
  cases h
  have k := (OtpGrows.refl s).modBoot fun b => { b with supplies := setBits b.supplies n 1 0 }
  exact OtpGrows.ite (OtpGrows.ite k (((k.deviceReset _).setF _ _).setF _ _)) (OtpGrows.refl s)
theorem execSysRstNAssert_grows (s t : State) (h : execSysRstNAssert s = .next t) : OtpGrows s t := by
  unfold execSysRstNAssert at h
  cases h
  have k := (OtpGrows.refl s).modBoot fun b => { b with pinLow := true }
  exact OtpGrows.ite (OtpGrows.refl s) (OtpGrows.ite k (k.askReset _ _))
theorem execDeferredDeviceReset_grows (b : Bool) (s t : State) (h : execDeferredDeviceReset b s = .next t) : OtpGrows s t := by
  unfold execDeferredDeviceReset at h
  cases h
  split
  · exact forceReset_grows _ _ _
  · exact OtpGrows.refl s
theorem execDevReset_grows (w : Nat) (b : Bool) (s t : State) (h : execDevReset w b s = .next t) : OtpGrows s t := by
  unfold execDevReset at h
  cases h
  exact OtpGrows.ite (OtpGrows.of_otp (State.bootCtlBad_otp s)) (OtpGrows.ite ((OtpGrows.refl s).askReset _ _) (OtpGrows.refl s))
theorem execScanExit_grows (b : Bool) (s t : State) (h : execScanExit b s = .next t) : OtpGrows s t := by
  unfold execScanExit at h
  cases h
  exact OtpGrows.ite (forceReset_grows _ _ _) (OtpGrows.refl s)
theorem execScrapWipeDone_grows (b : Bool) (s t : State) (h : execScrapWipeDone b s = .next t) : OtpGrows s t := by
  unfold execScrapWipeDone at h
  cases h
  refine OtpGrows.ite (OtpGrows.resetNow (OtpGrows.trans (OtpGrows.of_otp ?_) (burnWords_grows _ _)) _ _) (OtpGrows.refl s)
  exact State.modLcs_otp _ _
theorem execRomRecoveryImage_grows (c : Nat) (m i : List Byte) (s t : State) (h : execRomRecoveryImage c m i s = .next t) : OtpGrows s t := by
  unfold execRomRecoveryImage at h
  cases h
  extract_lets lim ok checks
  refine OtpGrows.ite (OtpGrows.refl s) (OtpGrows.ite (OtpGrows.of_otp (State.ret_otp _ _)) ?_)
  split
  · exact OtpGrows.of_otp ((State.ret_otp _ _).trans (when_otp _ _ _ fun _ => State.journal_otp _ _ _ _ _ _))
  · exact (OtpGrows.of_otp (State.ret_otp _ _)).resetNow _ _
theorem execScrubRow_grows (cls blk row word kind bit : Nat) (func : Bool) (s t : State) (h : execScrubRow cls blk row word kind bit func s = .next t) :
    OtpGrows s t := by
  unfold execScrubRow at h
  cases h
  extract_lets known w
  have hw : OtpGrows s w := OtpGrows.of_otp (State.corrected_otp _ _ _ _ _ _)
  clear_value w
  refine OtpGrows.ite (OtpGrows.refl s) (OtpGrows.ite (OtpGrows.ite ?_ (OtpGrows.ite ?_ (OtpGrows.of_otp ?_))) (OtpGrows.of_otp ?_))
  · exact OtpGrows.ite hw (hw.trans (otpRemap_grows _ _))
  · exact (OtpGrows.of_otp (State.uncorrectable_otp _ 12 blk 0 0)).trans (tearWords_grows _ _)
  · exact when_otp _ _ _ fun _ => State.lastErr_otp _ _ _ _ _ _ _
  · refine ite_otp ?_ (ite_otp ?_ ?_)
    · exact (when_otp _ _ _ fun _ => State.rowHit_otp _ _ _ _).trans (State.corrected_otp _ _ _ _ _ _)
    · rw [State.sameCycle_otp]
      exact (State.classOutcome_otp _ _ _ _ _).trans ((when_otp _ _ _ fun _ => State.retireRow_otp _ _ _).trans (State.uncorrectable_otp _ _ _ _ _))
    · exact when_otp _ _ _ fun _ => State.lastErr_otp _ _ _ _ _ _ _
theorem execLcsProgrammed_grows (s t : State) (h : execLcsProgrammed s = .next t) : OtpGrows s t := by
  unfold execLcsProgrammed at h
  cases h
  split
  · exact OtpGrows.refl s
  · rename_i g _
    dsimp only
    refine OtpGrows.trans (OtpGrows.each s [0, 1, 2] (fun s i => s.otpProgram i (lcWord g)) fun s i => otpProgram_grows s i _) (OtpGrows.of_otp ?_)
    rw [State.endTest_otp, when_otp _ _ _ fun _ => State.setF_otp _ _ _, State.raise_otp, State.modLcs_otp]
theorem commitOne_grows (s : State) (m i row : Nat) (bad : Bool) : OtpGrows s (s.commitOne m i row bad) := by
  unfold State.commitOne
  split
  · exact OtpGrows.refl s
  · exact (otpBurn_grows s _ _ _).then (when_otp _ _ _ fun _ => State.markCommitted_otp _ _ _)
theorem execCommitRepairDone_grows (bad : List Nat) (s t : State) (h : execCommitRepairDone bad s = .next t) : OtpGrows s t := by
  unfold execCommitRepairDone at h
  cases h
  have k := OtpGrows.each s (uncommitted s).zipIdx
    (fun s (x : (Nat × Nat × Nat) × Nat) => s.commitOne x.1.1 x.1.2.1 x.1.2.2 (bad.contains x.2)) fun s x => commitOne_grows s _ _ _ _
  refine OtpGrows.ite (k.trans (OtpGrows.of_otp ?_)) (OtpGrows.refl s)
  rw [State.cmdEnd_otp, State.setF_otp, State.setF_otp]
theorem execCommitSvnDone_grows (bad : Bool) (s t : State) (h : execCommitSvnDone bad s = .next t) : OtpGrows s t := by
  unfold execCommitSvnDone at h
  cases h
  split
  · rename_i c v w _
    have k := otpBurn_grows s w (BitVec.ofNat 64 (3 * 2 ^ 60 + 256 * c + v)) bad
    dsimp only
    refine k.trans (OtpGrows.of_otp ?_)
    rw [State.updEnd_otp, State.setF_otp, State.setF_otp, State.modUpd_otp]
  · exact OtpGrows.refl s
theorem execOtpSenseDone_grows (a : List (Nat × Nat)) (b : List Nat) (s t : State) (h : execOtpSenseDone a b s = .next t) : OtpGrows s t := by
  unfold execOtpSenseDone at h
  cases h
  have k := otpScan_grows s a b
  generalize s.otpScan a b = u at k ⊢
  have hu : ([1, 2, 3].foldl State.initClass u).otp = u.otp := foldl_otp _ _ _ fun _ _ => State.initClass_otp _ _
  generalize [1, 2, 3].foldl State.initClass u = v at hu ⊢
  refine OtpGrows.ite (OtpGrows.refl s) (k.trans (OtpGrows.of_otp (Eq.trans ?_ hu)))
  refine (when_otp _ _ _ fun _ => ?_).trans ((when_otp _ _ _ fun _ => State.setF_otp _ _ _).trans ((State.modBoot_otp _ _).trans
    ((State.showVault_otp _).trans ((State.raise_otp _ _).trans ((State.setF_otp _ _ _).trans ((State.showSpares_otp _).trans
    ((State.setF_otp _ _ _).trans ((State.setF_otp _ _ _).trans ?_))))))))
  · rw [State.journal_otp, State.raise_otp]
  · exact (State.free_otp _).trans ((State.setF_otp _ _ _).trans ((State.setF_otp _ _ _).trans (State.lcLatch_otp _)))

end Sys2Proof.Machine
end

