-- ==== Sys2Proof/Tests/Slice0.lean ====
section
/-! SUPPORT. Tests: ill-formed commands that WellFormed refuses, and for each statement concrete states that meet its hypotheses, with
what the command does there. -/

open Sys2Proof Sys2Proof.Machine

set_option Elab.async false

namespace Sys2Proof.Tests

/-- The outcome of a command satisfies `p`. -/
def runs (c : Instr) (s : State) (p : State → Bool) : Bool :=
  match exec c s with | .next t => p t | _ => false

/-- A state at a stage of the start sequence. -/
def stageAt (g : Stage) (s : State := State.reset) : State := s.modBoot fun b => { b with stage := g }

/-- A state whose firmware runs in SERVE with both planes serving. -/
def live : State :=
  stageAt .firmware (((State.reset.setF SYSCTL_MODE_MODE moSERVE).setF (planeFld 0) plSERVING).setF (planeFld 1) plSERVING)

/-! ### Registers and accesses -/

/-- A state at debug level `n`. -/
def atLevel (n : Nat) : State := live.setF DEBUG_STAT_LEVEL n

/-- A state whose firmware image of four bytes is execute-only. -/
def xoImg : BootImg :=
  { copy := 0, fwSvn := 0, cfgSvn := 0, keyId := 0, fwRoot := [], cfgRoot := [], logOff := 0, logLen := 0, fwImg := [1, 2, 3, 4], cfgImg := [] }
def xoState : State := live.modBoot fun b => { b with img := some xoImg }

/-- A state whose TCM word at the base is poisoned. -/
def poisonedWord : State := live.modMem fun m => { m with poison := [tcmBase / 4] }

theorem witness_RegisterWriteByAccessCode :
    asleep live = false ∧ (regRow SYSCTL_CLKSEL).isSome = true ∧ inBlocks SYSCTL_CLKSEL = true ∧ ownCommand SYSCTL_CLKSEL = false
      ∧ commandRegister SYSCTL_CLKSEL = false
      ∧ lockBreak (lockedAt live SYSCTL_CLKSEL) 2 (heldWord SYSCTL_CLKSEL 2 5) ((regRow SYSCTL_CLKSEL).elim [] (·.flds)) = false
      ∧ runs (.registerWrite SYSCTL_CLKSEL 5 4 0) live (fun t => (reg t SYSCTL_CLKSEL).toNat % 8 = 5) = true := by decide +kernel

theorem witness_OutOfRangeValuesAreHeld :
    rb live SYSCTL_LOCK_LOCK = false ∧ rb live RNG_CTRL_LOCK = false ∧ rb live ORANGERY_CTRL_LOCK = false ∧ rb live JOURNAL_CTRL_LOCK = false
      ∧ runs (.registerWrite SYSCTL_WDT_CTL 0x1FFFF 4 0) live (fun t => rf t SYSCTL_WDT_CTL_PERIOD_MS = 60000) = true
      ∧ runs (.registerWrite ORANGERY_RV_CTRL 1001 4 0) live (fun t => rf t ORANGERY_RV_CTRL_RATE = 1000) = true
      ∧ runs (.registerWrite RNG_CFG 0x2100 4 0) live (fun t => rf t RNG_CFG_FW_RESERVE = 32) = true
      ∧ runs (.registerWrite RNG_CFG 0x20 4 0) live (fun t => rf t RNG_CFG_MIN_ACTIVE = 2 && reg t SYSCTL_CLKSEL = reg live SYSCTL_CLKSEL) = true
      ∧ runs (.registerWrite RNG_RESEED 0 4 0) live (fun t => rf t RNG_RESEED_RESEED_INT = 4096) = true
      ∧ runs (.registerWrite JOURNAL_CFG 10001 4 0) live (fun t => rf t JOURNAL_CFG_FLUSH_MS = 10000) = true := by decide +kernel

/-- A state whose SYSCTL block is locked. -/
def lockedSys : State := live.raise SYSCTL_LOCK_LOCK

theorem witness_LockedFieldKeepsItsValue :
    lockReg SYSCTL_CLKSEL = some SYSCTL_LOCK ∧ rb lockedSys ⟨SYSCTL_LOCK, 0, 1⟩ = true
      ∧ lockBreak true (reg lockedSys SYSCTL_CLKSEL).toNat (heldWord SYSCTL_CLKSEL 2 2) ((regRow SYSCTL_CLKSEL).elim [] (·.flds)) = false
      ∧ runs (.registerWrite SYSCTL_CLKSEL 2 4 0) lockedSys (fun t => !rb t SYSCTL_LOCK_LOCK_VIOL && t.jnl = lockedSys.jnl) = true
      ∧ lockBreak true (reg lockedSys SYSCTL_CLKSEL).toNat (heldWord SYSCTL_CLKSEL 2 5) ((regRow SYSCTL_CLKSEL).elim [] (·.flds)) = true
      ∧ runs (.registerWrite SYSCTL_CLKSEL 5 4 0) lockedSys
          (fun t => reg t SYSCTL_CLKSEL = reg lockedSys SYSCTL_CLKSEL && rb t SYSCTL_LOCK_LOCK_VIOL) = true := by decide +kernel

theorem witness_FaultingAccessAndNarrowStore_faults :
    inBlocks 0x40000000 = true ∧ inBar (TN_REQ 0) = true ∧ inBlocks 0x7FFFF = false ∧ inBlocks 0x10200000 = false
      ∧ inBar 0x10200000 = false ∧ inBlocks 0x400E0000 = false ∧ asleep live = false
      ∧ inTcm tcmBase 4 = true ∧ tcmPoisoned poisonedWord tcmBase 4 = true
      ∧ runs (.busAccessFault tcmBase 4 false) poisonedWord (fun t => t.out = .busFault) = true
      ∧ inXo xoState tcmBase = true ∧ inTcm tcmBase 1 = true
      ∧ runs (.registerWrite tcmBase 1 1 0) xoState (fun t => t.out = .busFault && t.tcm = []) = true
      ∧ runs (.busAccessFault 0x10200000 4 false) live (fun t => t.out = .busFault) = true
      ∧ runs (.debugRead 0x400E0000) live (fun t => t.out = .busFault) = true
      ∧ runs (.registerWrite 0x40000001 0 4 0) live (fun t => t.out = .busFault && t.regs = live.regs) = true := by decide +kernel

theorem witness_DebugReadChangesNothing :
    asleep (atLevel 1) = false ∧ asleep (atLevel 2) = false ∧ asleep (atLevel 3) = false
      ∧ inBlocks SYSCTL_CLKSEL = true ∧ dbgReads (atLevel 1) SYSCTL_CLKSEL = true ∧ dbgReads (atLevel 3) KEYS_CMD = false
      ∧ runs (.debugRead SYSCTL_CLKSEL) (atLevel 1) (fun t => t.out = .word 2) = true
      ∧ inTcm tcmBase 4 = true ∧ dbgReads (atLevel 2) tcmBase = true
      ∧ runs (.debugRead tcmBase) (atLevel 2) (fun t => t.out = .word 0) = true := by decide +kernel

theorem witness_DebugWriteByLevel :
    accessFault tcmBase 4 true = false ∧ inBar tcmBase = false ∧ rf (atLevel 1) DEBUG_STAT_LEVEL < 2 ∧ 2 ≤ rf (atLevel 2) DEBUG_STAT_LEVEL
      ∧ inTcm tcmBase 4 = true ∧ inXo (atLevel 2) tcmBase = false
      ∧ runs (.debugWrite tcmBase 0x01020304) (atLevel 2) (fun t => tcmByte t tcmBase = 4) = true
      ∧ runs (.debugWrite tcmBase 0x01020304) (atLevel 1) (fun t => t.tcm = []) = true
      ∧ accessFault 0x40010000 4 true = false ∧ accessFault 0x4002FFFC 4 true = false ∧ inBlocks SYSCTL_CLKSEL = true
      ∧ runs (.debugWrite SYSCTL_CLKSEL 5) (atLevel 3) (fun t => (reg t SYSCTL_CLKSEL).toNat % 8 = 5) = true := by decide +kernel

theorem witness_FaultingAccessAndNarrowStore_stores :
    tcmBase % 4 = 0 ∧ inTcm tcmBase 4 = true ∧ inXo poisonedWord tcmBase = false ∧ (tcmBase / 4) ∈ poisonedWord.mem.poison
      ∧ runs (.registerWrite tcmBase 0x1FF 1 0) poisonedWord (fun t => tcmByte t tcmBase = 0xFF && t.mem.poison = [tcmBase / 4]) = true
      ∧ runs (.registerWrite tcmBase 0x1FF 4 0) poisonedWord (fun t => tcmByte t tcmBase = 0xFF && t.mem.poison = []) = true := by
  decide +kernel

/-! ### Resets -/

/-- A device held in reset, out of DORMANT or in it. -/
def heldDev : State := stageAt .held (State.reset.setF SYSCTL_MODE_MODE moASSEMBLY)
def dormant : State := stageAt .held (State.reset.setF SYSCTL_MODE_MODE moDORMANT)
/-- An open atomic window. -/
def windowOpen : State := { live with atomicUntil := 1 }
/-- The pin has held the device since power came. -/
def pinStuck : State := heldDev.modBoot fun b => { b with pinLow := true }

theorem witness_MainPowerGoodStartsTheDevice :
    heldDev.boot.stage = .held ∧ heldDev.boot.pinLow = false ∧ mode dormant = moDORMANT
      ∧ runs (.mainPowerGood true []) heldDev (fun t => t.boot.stage = .reset1 && mode t = moASSEMBLY && t.boot.testen) = true
      ∧ runs (.mainPowerGood false []) dormant (fun t => rf t ⟨SYSCTL_RSTCAUSE, 0, 7⟩ = rcPOR) = true := by decide +kernel

theorem witness_DeviceResetClears :
    mode live ≠ moDORMANT ∧ sybLive live = true ∧ live.lcs.scrap = 0 ∧ live.atomicUntil ≤ live.usec ∧ bitsAt 0x5A3C0001 16 16 = 0x5A3C
      ∧ runs .pwrgdFall live (fun t => t.boot.stage = .held && t.regs.length < live.regs.length + 9 && t.boot.causes = rcPWRGD) = true
      ∧ runs (.supplyMonitorDrop 2) live (fun t => t.boot.stage = .held && t.boot.supplies = 11) = true
      ∧ runs (.devReset 0x5A3C0001 false) live (fun t => t.boot.stage = .reset1 && rf t ⟨SYSCTL_RSTCAUSE, 0, 7⟩ = rcSWDEV) = true := by
  decide +kernel

theorem witness_PowerAndPinEvents_atomic :
    sybLive windowOpen = true ∧ windowOpen.lcs.scrap = 0 ∧ windowOpen.usec < windowOpen.atomicUntil ∧ mode windowOpen ≠ moDORMANT ∧ rb windowOpen SYSCTL_RSTCAUSE_PIN_IGNORED = false
      ∧ runs (.devReset 0x5A3C0001 false) windowOpen (fun t => t.boot.deferred = some rcSWDEV && t.boot.stage = .firmware) = true
      ∧ runs .sysRstNAssert windowOpen (fun t => t.boot.deferred = some rcPIN && t.boot.pinLow) = true
      ∧ runs (.deferredDeviceReset false) (windowOpen.modBoot fun b => { b with deferred := some rcSWDEV })
          (fun t => t.boot.stage = .reset1) = true := by decide +kernel

theorem witness_PowerAndPinEvents :
    runs (.mainPowerLoss 2) live (fun t => mode t = moDORMANT && t.boot.stage = .held && !t.boot.supplies.testBit 2) = true
      ∧ runs .sysRstNAssert live (fun t => t.boot.stage = .held && t.boot.pinLow) = true
      ∧ runs (.sysRstNRelease false) pinStuck (fun t => t.boot.stage = .reset1) = true
      ∧ pinStuck.boot.stage = .held ∧ pinStuck.boot.supplies = 15 ∧ mode pinStuck ≠ moDORMANT ∧ rb pinStuck SYSCTL_RSTCAUSE_PIN_IGNORED = false
      ∧ runs (.rstpinStuckTimeout false) pinStuck (fun t => t.boot.stage = .reset1 && rb t SYSCTL_RSTCAUSE_PIN_IGNORED) = true
      ∧ runs .pinIgnoredClear (live.raise SYSCTL_RSTCAUSE_PIN_IGNORED) (fun t => !rb t SYSCTL_RSTCAUSE_PIN_IGNORED) = true := by
  decide +kernel

/-! ### Start and restart -/

/-- Training of interface 0 alone is under way. -/
def training0 : State := live.modBoot fun b => { b with training := 1 }
/-- Firmware runs, with the watchdog counting. -/
def dogRuns : State := (live.raise SYSCTL_WDT_CTL_EN).modBoot fun b => { b with wdtEnd := some 5 }
/-- A byte in the receive ring and one outside. -/
def ringByte : State := ((live.setF MTRANS_RX_BASE_ADDR 0x10100000).tcmWrite 0x10100000 [7]).tcmWrite 0x10000000 [9]
/-- A boot image of 4 firmware bytes. -/
def bootImg : BootImg :=
  { copy := 0, fwSvn := 0, cfgSvn := 0, keyId := 0, fwRoot := [], cfgRoot := [], logOff := 0, logLen := 0, fwImg := [1, 2, 3, 4], cfgImg := [] }
/-- ASSEMBLY with firmware running, plane A able. -/
def assembling : State :=
  stageAt .firmware (State.reset.setF SYSCTL_MODE_MODE moASSEMBLY) |>.setF (trainFld 0) 1

theorem witness_StartSequenceAdvances :
    runs (.pllLock 0) (stageAt .reset1) (fun t => t.boot.stage = .clocks && rb t (lockFld 0) && rb t (refFld 0)) = true
      ∧ 0 = activePll (stageAt .reset1) ∧ rb (stageAt .reset1) SYSCTL_CLKSTAT_HOLDOVER = false
      ∧ (stageAt .otp).boot.testen = false ∧ (stageAt .otp).boot.restart = none
      ∧ runs (.romStart []) (stageAt .otp) (fun t => t.boot.stage = .rom && t.boot.training = 3) = true := by decide +kernel

theorem witness_TrainingAndRetrain :
    training0.boot.training = 1 ∧ training0.boot.retrainBoth = false ∧ training0.boot.trainCap.length = 2
      ∧ runs (.trainingDone 0 true 2) training0 (fun t => trainPass t 0 && rf t SYSCTL_ID_DRAM_CAP = 2 && t.boot.training = 0) = true
      ∧ runs (.trainingDone 0 false 0) (training0.setF SYSCTL_TRAIN_STAT_IF0_ATTEMPTS 2)
          (fun t => rf t SYSCTL_TRAIN_STAT_IF0_RESULT = 2 && rf t SYSCTL_TRAIN_STAT_IF0_ATTEMPTS = 3) = true := by decide +kernel

theorem witness_BelvedereRestartAndWatchdog :
    runs (.bvRestart 0x5A3C0006) (live.raise KEYS_STAT_L0_VALID) (fun t => t.boot.stage = .otp && t.boot.restart = some 1) = true
      ∧ runs (.bvRestart 0x5A3C0002) ringByte (fun t => t.tcm = [⟨0x10100000, 7⟩] && t.tcm = ringCells ringByte) = true
      ∧ runs (.wdtKick 0xC3D20000) dogRuns (fun t => t.boot.wdtEnd = some 2000000) = true
      ∧ runs (.wdtKick 0) dogRuns (fun t => t.boot.wdtEnd = some 5) = true
      ∧ runs .wdtExpiry dogRuns (fun t => t.boot.stage = .otp && t.boot.causes = rcWDT) = true
      ∧ rb (dogRuns.setF SYSCTL_WDT_CTL_EN 0) SYSCTL_WDT_CTL_EN = false := by decide +kernel

theorem witness_FailoverAndClocks_failover :
    runs .failover (live.raise SYSCTL_SPARE_STAT_BV_STANDBY)
      (fun t => t.boot.bvPair = 1 && !rb t SYSCTL_SPARE_STAT_BV_STANDBY && rb t SYSCTL_SPARE_EVT_SPARE_LOW) = true := by decide +kernel

/-! ### Clocks, planes, banks -/

/-- Both PLLs locked with their references, the first active. -/
def clocked : State :=
  [lockFld 0, lockFld 1, refFld 0, refFld 1].foldl State.raise live
/-- Clocks that switch by themselves, and clocks that do not. -/
def autoOff : State := clocked.setF SYSCTL_CLKSEL_AUTO_SWITCH 0
/-- Plane B is isolated and trained. -/
def planeBDown : State := (live.setF (planeFld 1) plISOLATED).setF (trainFld 1) 1
def planeADown : State := (live.setF (planeFld 0) plISOLATED).setF (trainFld 0) 1

theorem witness_FailoverAndClocks :
    activePll clocked = 0 ∧ rb clocked SYSCTL_CLKSEL_AUTO_SWITCH = true ∧ rb clocked (lockFld 1) = true ∧ rb autoOff SYSCTL_CLKSEL_AUTO_SWITCH = false
      ∧ runs (.pllUnlock 0) clocked (fun t => activePll t = 1 && !rb t (lockFld 0) && rb t SYSCTL_CLKEVT_SWITCHED) = true
      ∧ runs (.pllUnlock 0) autoOff (fun t => activePll t = 0 && rb t SYSCTL_CLKSTAT_HOLDOVER) = true
      ∧ refOf autoOff 0 = 0
      ∧ runs (.referenceLost 0) autoOff (fun t => rb t SYSCTL_CLKSTAT_HOLDOVER && !rb t (refFld 0)) = true
      ∧ runs .switchReq clocked (fun t => activePll t = 1) = true
      ∧ runs .switchReq (clocked.setF (lockFld 1) 0) (fun t => activePll t = 0) = true := by decide +kernel

theorem witness_PlaneIsolationAndRebuild :
    planeSt live 0 = plSERVING ∧ planeSt live 1 = plSERVING
      ∧ runs (.planeIsolation 1 1) live (fun t => planeSt t 1 = plISOLATED && planeSt t 0 = plSERVING) = true
      ∧ runs (.planeIsolation 0 0) live (fun t => planeSt t 0 = plISOLATED && planeSt t 1 = plSERVING) = true
      ∧ trainPass planeBDown 1 = true ∧ lockdown planeBDown = false
      ∧ runs (.rebuildB 2) planeBDown (fun t => planeSt t 1 = plREBUILDING) = true
      ∧ runs (.rebuildA 1) planeADown (fun t => planeSt t 0 = plREBUILDING) = true
      ∧ runs (.rebuildDone 1) (planeBDown.setF (planeFld 1) plREBUILDING) (fun t => planeSt t 1 = plSERVING) = true := by decide +kernel

theorem witness_TrainingAndRetrain_retrain :
    runs (.retrain0 0x10000) planeADown (fun t => t.boot.training.testBit 0 && rf t SYSCTL_TRAIN_STAT_IF0_RESULT = 0) = true
      ∧ runs (.retrain1 0x20000) planeBDown (fun t => t.boot.training.testBit 1 && rf t SYSCTL_TRAIN_STAT_IF1_RESULT = 0) = true
      ∧ runs (.retrain0 0x10000) live (fun t => rf t SYSCTL_TRAIN_STAT_LAST_STATUS = 4 && t.boot.training = 0) = true := by decide +kernel

theorem witness_BanksPinsAndTemperature :
    runs (.bankClassChange 23 3) live (fun t => bankClass t 23 = 3) = true ∧ bankClass live 23 ≠ 3 ∧ live.gate.applied = false
      ∧ bankFloated (live.modBoot fun b => { b with floated := 2 ^ 23 }) 23 = true ∧ bankMatches live 23 = true
      ∧ runs (.bankResume 23) (live.modBoot fun b => { b with floated := 2 ^ 23 }) (fun t => !bankFloated t 23) = true
      ∧ runs (.pePerstNChange false) live (fun t => !rb t SYSCTL_PIN_STAT_PERST_LVL && !rb t MTRANS_STAT_LINK_UP) = true
      ∧ runs (.pcieLinkChange true 7 31) ((live.raise SYSCTL_PIN_STAT_PERST_LVL).raise MTRANS_STAT_PCIE_EN) (fun t => rb t MTRANS_STAT_LINK_UP) = true
      ∧ rf live SYSCTL_TEMP_WARN_AT ≤ 127 ∧ live.boot.tempHot = false
      ∧ runs (.tempSample [127]) live (fun t => t.boot.tempHot && rf t SYSCTL_TEMP_TEMP = 127) = true := by decide +kernel

/-! ### Domains -/

/-- A domain whose one flash channel is 0 and whose manifest is in partition 0. -/
def dom0 : Dom :=
  { id := 0, flags := 0, priority := 0, failLimit := 3, pred := 0, channels := 1, manPart := 0, manOff := 0, shBase := 0, shSize := 1
    relDelay := 0, rstPulse := 1, rstreqLimit := 10, pgSettle := 0 }
/-- Domain 47 waits for domain 0. -/
def dom47 : Dom := { dom0 with id := 47, pred := 1, channels := 2, relDelay := 5 }
/-- Lines of domain 0: RESET_OUT in step 1 with a delay, POWER_EN in step 0, power-good, a reset request, a presence input. -/
def lines0 : List Pcl :=
  [⟨1, 0, 0, 1, 2, 0⟩, ⟨2, 0, 0, 0, 0, 0⟩, ⟨0x10, 0, 0, 0, 0, 0⟩, ⟨0x11, 0, 0, 0, 0, 0⟩]
/-- Two domains, with domain `d` in state `st` and a hash lane in service. -/
def domAt (d st : Nat) : State :=
  let s := live.modBoot fun b => { b with cfg := { b.cfg with doms := [dom0, dom47], pcls := lines0 } }
  let s := { s with gate := { s.gate with applied := true } }
  ((s.setF (GATE_DOM_STAT_STATE d) st).setF GATE_CMD_GEN_GEN 1).setF LOADER_LANE0_IN_SERVICE 1

theorem witness_GateCommandsAct :
    asleep (domAt 47 stRELEASED) = false ∧ lanesOn (domAt 0 stHELD) ≠ 0 ∧ domExists (domAt 47 stRELEASED) 47 = true ∧ rf (domAt 47 stRELEASED) GATE_CMD_GEN_GEN = domGen (domAt 47 stRELEASED) 47
      ∧ modeRun (domAt 47 stRELEASED) = true ∧ released (domAt 0 stRELEASED) 0 = true
      ∧ runs (.gateHold 0) (domAt 0 stRELEASED) (fun t => domState t 0 = stHELD && domGen t 0 = 2 && rf t GATE_CMD_STAT_LAST_STATUS = 0) = true
      ∧ runs (.gateHold 47) (domAt 47 stVERIFYING) (fun t => domState t 47 = stHELD) = true
      ∧ runs (.quarantine 0) (domAt 0 stRELEASED) (fun t => domState t 0 = stQUARANTINED) = true
      ∧ (domX ((domAt 0 stPARKED).modDomX 0 fun x => { x with nursery := true }) 0).nursery = true
      ∧ runs (.recover 0) ((domAt 0 stPARKED).modDomX 0 fun x => { x with nursery := true }) (fun t => domState t 0 = stRECOVERING) = true
      ∧ runs (.resetCycle 0) (domAt 0 stRELEASED) (fun t => (domX t 0).seq = .pulse && lineAsserted t 0) = true := by decide +kernel

theorem witness_GateCommandsAct_release :
    releaseOk (domAt 0 stHELD) 0 = true ∧ releaseOk (domAt 47 stQUARANTINED) 47 = true
      ∧ runs (.gateRelease 0) (domAt 0 stHELD) (fun t => domState t 0 = stVERIFYING && t.ldr.order = [0]) = true
      ∧ runs (.gateRelease 47) ((domAt 47 stQUARANTINED).setF (GATE_DOM_STAT_FAIL_COUNT 47) 3)
          (fun t => domState t 47 = stVERIFYING && rf t (GATE_DOM_STAT_FAIL_COUNT 47) = 0) = true
      ∧ runs (.gateRelease 0) ((domAt 0 stHELD).raise (GATE_DOM_STAT_VERIFIED 0)) (fun t => domState t 0 = stRELEASED) = true := by
  decide +kernel

theorem witness_LockdownAndRefusals :
    domExists (domAt 0 stHELD) 1 = false ∧ rf ((domAt 0 stHELD).setF GATE_CMD_GEN_GEN 0) GATE_CMD_GEN_GEN ≠ domGen (domAt 0 stHELD) 0
      ∧ gateStateOk (domAt 0 stHELD) opHOLD 0 = false
      ∧ runs (.gateHold 1) (domAt 0 stHELD) (fun t => rf t GATE_CMD_STAT_LAST_STATUS = 0x0F) = true
      ∧ runs (.gateRelease 0) ((domAt 0 stHELD).setF GATE_CMD_GEN_GEN 0) (fun t => rf t GATE_CMD_STAT_LAST_STATUS = 5) = true
      ∧ runs (.gateHold 0) (domAt 0 stHELD) (fun t => rf t GATE_CMD_STAT_LAST_STATUS = 4 && domState t 0 = stHELD) = true := by decide +kernel

/-- The mode's generation is given. -/
def live1 : State := live.setF GATE_CMD_GEN_GEN 1

theorem witness_LockdownAndRefusals_lockdown :
    asleep live1 = false ∧ rf live1 GATE_CMD_GEN_GEN = rf live1 SYSCTL_MODE_GEN_GEN ∧ modeRun live1 = true
      ∧ runs (.enterLockdown 0xFF) live1
          (fun t => lockdown t && rf t SYSCTL_MODE_LD_CAUSE = 4 && rb t SYSCTL_PIN_STAT_FAULT_OUT && rb t ORANGERY_STAT_FROZEN) = true
      ∧ runs (.enterLockdown 0) live1 (fun t => rf t GATE_CMD_STAT_LAST_STATUS = 0x0F) = true
      ∧ runs (.enterLockdown 0xFF) (live1.setF GATE_CMD_GEN_GEN 0) (fun t => rf t GATE_CMD_STAT_LAST_STATUS = 5) = true := by decide +kernel

/-- Domain 0 released, its sequence as given. -/
def seqAt (q : Seq) : State := (domAt 0 stRELEASED).modDomX 0 fun x => { x with seq := q }

theorem witness_DomainSequences :
    runs (.holdStep 0) (seqAt (.hold 0)) (fun t => (domX t 0).seq = .idle && !t.gate.outs.testBit 1) = true
      ∧ pgOk ((seqAt (.rel 1)).setF ⟨GATE_PCL_STAT 2, 0, 5⟩ 0xB) 0 = true
      ∧ runs (.releaseStep 0) ((seqAt (.rel 1)).setF ⟨GATE_PCL_STAT 2, 0, 5⟩ 0xB) (fun t => (domX t 0).seq = .idle) = true
      ∧ stepWaitsPg (seqAt (.rel 1)) 0 1 = true
      ∧ runs (.pgTimeout 0) (seqAt (.rel 1)) (fun t => rb t (GATE_DOM_STAT_PG_TIMEOUT 0) && domState t 0 = stHELD) = true
      ∧ (domX (seqAt .pulse) 0).reqLine = none
      ∧ runs (.rstPulseEnd 0) (seqAt .pulse) (fun t => (domX t 0).seq = .rel 1) = true
      ∧ runs (.rstPulseEnd 0) ((seqAt .pulse).modDomX 0 fun x => { x with reqLine := some 0 }) (fun t => (domX t 0).seq = .pulse) = true
      ∧ (predsOf (domAt 0 stRELEASED) 47).any (released (domAt 0 stRELEASED)) = true
      ∧ runs (.releaseDelayExpiry 47) (domAt 0 stRELEASED) (fun t => (domX t 47).delayDone) = true := by decide +kernel

theorem witness_LinesFollowTheirInputs :
    pclOf (domAt 0 stRELEASED) 3 = some ⟨0x11, 0, 0, 0, 0, 0⟩ ∧ bankFloated (domAt 0 stRELEASED) (bankOfPcl 3) = false
      ∧ runs (.pclInputChange 3 true) (domAt 0 stRELEASED) (fun t => (domX t 0).seq = .pulse && lineAsserted t 3 && lineValid t 3) = true
      ∧ lineAsserted ((domAt 0 stRELEASED).setF ⟨GATE_PCL_STAT 3, 0, 5⟩ 0xB) 3 = true
      ∧ runs (.rstreqStuck 3) ((domAt 0 stRELEASED).setF ⟨GATE_PCL_STAT 3, 0, 5⟩ 0xB) (fun t => rb t (GATE_PCL_STAT_IGNORED 3)) = true
      ∧ runs (.rstreqIgnoredClear 3) ((domAt 0 stRELEASED).setF ⟨GATE_PCL_STAT 3, 0, 5⟩ 0x10) (fun t => !rb t (GATE_PCL_STAT_IGNORED 3)) = true := by
  decide +kernel

/-! ### The load engine -/

/-- A manifest of one region of two leaves on channel 0 for domain 0, with an LMS key and signature (R117 to R122). -/
def manBytes : List Byte :=
  [0x48, 0x53, 0x54, 0x41] ++ leBytes 2 1 ++ leBytes 2 64 ++ [0, 1, 12, 8, 1, 2, 0, 0] ++ leBytes 4 7 ++ leBytes 4 1 ++ leBytes 4 1884
    ++ leBytes 4 160 ++ leBytes 12 1 ++ leBytes 4 0 ++ List.replicate 16 0
    ++ ([0, 0, 0, 0] ++ leBytes 4 0 ++ leBytes 4 8192 ++ leBytes 4 0 ++ leBytes 2 0 ++ leBytes 2 0xFFFF ++ leBytes 4 0 ++ leBytes 4 0
      ++ List.replicate 4 0 ++ List.replicate 48 0x11 ++ List.replicate 16 0)
    ++ (leBytes 2 164 ++ leBytes 2 96 ++ leBytes 2 1456 ++ [0, 0] ++ [2, 0] ++ leBytes 2 60 ++ [4] ++ List.replicate 96 0 ++ [0, 0, 0]
      ++ ([0, 0, 0, 1, 0, 0, 0, 6, 0, 0, 0, 4] ++ List.replicate 48 0) ++ List.replicate 96 0
      ++ (List.replicate 11 0 ++ [4] ++ List.replicate 1123 0 ++ [6] ++ List.replicate 320 0))

theorem test_manifest_parses :
    manBytes.length = 1884 ∧ (parseManifest manBytes).isSome = true
      ∧ (parseManifest manBytes).map (fun m => (m.domain, m.svn, m.totalLen, m.regions.map (·.leaves))) = some (0, 7, 1884, [2]) := by
  decide +kernel

/-- The region, and a manifest of it without its digests. -/
def region0 : Region :=
  { channel := 0, policy := 0, flags := 0, chanOff := 0, length := 8192, shadowOff := 0, srcPart := 0, nurPart := 0xFFFF, srcOff := 0, nurOff := 0
    root := List.replicate 48 0x11 }
def man0 : Manifest :=
  { domain := 0, svn := 7, keyId := 1, totalLen := 4, channels := 1, tag := 0, regions := [region0]
    sig := ⟨2, [], [], [], [], [], 0, 0⟩, digest := [], keyDigest := [] }
/-- Domain 0 verifying, with a load. -/
def loading (l : Load) : State :=
  let s := (domAt 0 stVERIFYING).raise FBUS_STAT_DISC_DONE
  let s := { s with fbus := { s.fbus with map := { s.fbus.map with parts := [⟨0, 0, false, 0xFFFF, 0, 1048576⟩] } } }
  let s := { s with ldr := { s.ldr with order := [0] } }
  s.setLoad 0 l

def load0 : Load := { man := none, phase := 0, admitted := [], raw := [], reverify := false, aborted := false }
def load1 : Load := { load0 with man := some man0, phase := 1, raw := [1, 2, 3, 4] }
def load2 : Load := { load0 with man := some man0, phase := 2, admitted := [0] }
/-- A region of seventeen leaves, of which fifteen are in. -/
def region17 : Region := { region0 with length := 69632 }
def load17 : Load := { load0 with man := some { man0 with regions := [region17] }, phase := 2, admitted := [15], chunks := [(0, 0, 0)] }

theorem witness_ManifestsReachFirmware :
    load0.aborted = false ∧ loadOf (loading load0) 0 = some load0 ∧ (domCfg (loading load0) 0).isSome = true ∧ rb (loading load0) FBUS_STAT_DISC_DONE = true
      ∧ lanesOn (loading load0) ≠ 0 ∧ partReason (loading load0) 0 = 0 ∧ manTurn (loading load0) 0 = true
      ∧ fbLive (loading load0) (manBus (loading load0) 0) = true ∧ devIdle (loading load0) 0 = true ∧ busServes (loading load0) 0 3 = true
      ∧ (check1 (loading load0) dom0 manBytes).isSome = true ∧ check1 (loading load0) dom0 [] = none
      ∧ runs (.manifestReadDone 0 manBytes) (loading load0) (fun t => (loadOf t 0).map (·.phase) = some 1) = true
      ∧ runs (.manifestReadDone 0 []) (loading load0) (fun t => domState t 0 = stPARKED && rf t (LOADER_DOM_FAIL_CODE 0) = 0x0F) = true
      ∧ (manQueue (loading load1)).head? = some 0 ∧ (undecided (loading load1)).contains 0 = true ∧ manBufOk ((loading load1).setReg LOADER_MAN_BUF 0x10010000) = true
      ∧ runs .manReady ((loading load1).setReg LOADER_MAN_BUF 0x10010000)
          (fun t => t.ldr.buf = some 0 && rb t LOADER_EVT_MAN_READY && tcmRead t 0x10010000 4 = [1, 2, 3, 4]) = true := by decide +kernel

/-- The manifest of domain 0 is in the buffer. -/
def inBuf : State :=
  let s := (loading load1).setF LOADER_CMD_GEN_GEN 1
  { s with ldr := { s.ldr with buf := some 0 } }

theorem witness_LoaderCommands :
    domExists inBuf 0 = true ∧ rf inBuf LOADER_CMD_GEN_GEN = domGen inBuf 0 ∧ manDecidable inBuf 0 = true
      ∧ runs (.accept 0) inBuf (fun t => t.ldr.buf = none && rf t LOADER_CMD_STAT_LAST_STATUS = 0) = true
      ∧ runs (.reject 0 0x0B) inBuf (fun t => rf t (LOADER_DOM_FAIL_CODE 0) = 0x0B && domState t 0 = stPARKED) = true
      ∧ manDecidable inBuf 47 = false
      ∧ runs (.accept 0) { inBuf with ldr := { inBuf.ldr with buf := none } } (fun t => rf t LOADER_CMD_STAT_LAST_STATUS = 4) = true := by
  decide +kernel

/-- Domain 0 released. -/
def rel0 : State := (domAt 0 stRELEASED).setF LOADER_CMD_GEN_GEN 1
def revDone : State := rel0.setLoad 0 { load2 with reverify := true, admitted := [2] }

theorem witness_LoaderCommands_reverify :
    released rel0 0 = true ∧ hasJob rel0 0 = false ∧ modeServe rel0 = true ∧ domExists rel0 0 = true ∧ rf rel0 LOADER_CMD_GEN_GEN = domGen rel0 0
      ∧ runs (.reverify 0) rel0 (fun t => reverifying t 0 && rf t LOADER_CMD_STAT_LAST_STATUS = 0 && (domX t 0).job = jobREVERIFY) = true
      ∧ reverifying revDone 0 = true ∧ allRead { load2 with reverify := true, admitted := [2] } = true
      ∧ runs (.loaderAbort 0) revDone (fun t => !reverifying t 0 && rf t LOADER_CMD_STAT_LAST_STATUS = 0) = true
      ∧ runs (.reverifyDone 0) revDone (fun t => (loadOf t 0).isNone && rb t LOADER_EVT_REVERIFY_DONE && (domX t 0).job ≠ jobREVERIFY) = true := by decide +kernel

/-- A leaf of zeros is expected as leaf 15 of domain 0's region, which is in progress on bus 0. -/
def bursting : State :=
  let s := (loading load17).putNode (extIx 0 0) 0 15 (leafHash (List.replicate 4096 0))
  { s with ldr := { s.ldr with cur := [(0, 0, 0)] } }

theorem witness_LoadBursts :
    manWaits bursting 0 = false ∧ bursting.ldr.cur.find? (·.1 = 0) = some (0, 0, 0) ∧ loadOf bursting 0 = some load17 ∧ devIdle bursting 0 = true ∧ busServes bursting 0 3 = true
      ∧ lanesOn bursting ≠ 0 ∧ region17.writable = false ∧ (0 : Nat) < load17.admitted.length ∧ 15 + 1 < region17.leaves
      ∧ chunkRead bursting 0 0 0 15 = true ∧ bursting.ldr.raBad.contains 0 = false
      ∧ loadOf (loading load0) 0 = some load0 ∧ manTurn (loading load0) 0 = true ∧ manBus (loading load0) 0 = 0
      ∧ fbLive (loading load0) 0 = true ∧ triesOf (loading load0) 32 < 3
      ∧ runs (.burstTimeout 0 0) (loading load0) (fun t => triesOf t 32 = 1 && rf t (LOADER_FB_STAT_LAST_STATUS 0) = 0x11) = true := by
  decide +kernel

theorem contains_self (x : List Byte) : [x].contains x = true := by simp

theorem witness_LoadBursts_leaf :
    (gatherHashes bursting (extIx 0 0) 15).contains (leafHash (List.replicate 4096 0)) = true := by
  have h : gatherHashes bursting (extIx 0 0) 15 = [leafHash (List.replicate 4096 0)] := by
    unfold gatherHashes nodeAt bursting
    rfl
  rw [h]; exact contains_self _

/-! ### The Orangery -/

/-- Plane geometry of 32 GiB parts, and the arguments of an ORANGERY command. -/
def orArgs (a b c : Nat) : State :=
  (((rel0.setF SYSCTL_ID_DRAM_CAP 2).setF ORANGERY_CMD_ARG0_ARG a).setF ORANGERY_CMD_ARG1_ARG b).setF ORANGERY_CMD_ARG2_ARG c
/-- An object of 1 MiB under handle 127, TCM holding one byte to copy. -/
def staged : State := ((orArgs 64 0x10000000 64).setStage 127 (some ⟨1, 1, none, [], false⟩)).tcmWrite 0x10000000 [0xAB]
def hashArgs : State := (orArgs 0 0 4096).setStage 127 (some ⟨1, 1, none, [], false⟩)
/-- A command that runs. -/
def running (c : OCmd) : State := { staged with orang := { staged.orang with cmd := some c } }
/-- The same with no load lane in service. -/
def noLane (c : OCmd) : State := (running c).setF LOADER_LANE0_IN_SERVICE 0

theorem witness_StagingCommands :
    stageAllocCode (orArgs 1 0 0) = none
      ∧ runs .stageAlloc (orArgs 1 0 0) (fun t => (stageOf t 0).isSome && rf t ORANGERY_CMD_STAT_LAST_STATUS = 0) = true
      ∧ stageWriteCode staged 127 = none ∧ tcmPoisoned staged (arg1 staged) (arg2 staged) = false
      ∧ runs (.stageWrite 127) staged (fun t => (stageOf t 127).map (fun o => stageBytes o 63 2) = some [0xFF, 0xAB]) = true
      ∧ stageHashCode hashArgs 127 = none ∧ runs (.stageHash 127) hashArgs (fun t => t.orang.cmd.isSome) = true
      ∧ stageFreeCode staged 127 = none ∧ runs (.stageFree 127) staged (fun t => (stageOf t 127).isNone) = true
      ∧ arg0 (orArgs 0 0 0) = 0 ∧ runs .stageAlloc (orArgs 0 0 0) (fun t => rf t ORANGERY_CMD_STAT_LAST_STATUS = 0x0F) = true
      ∧ stageOf (orArgs 1 0 0) 0 = none
      ∧ runs (.stageFree 0) (orArgs 1 0 0) (fun t => rf t ORANGERY_CMD_STAT_LAST_STATUS = 0x0F) = true := by decide +kernel

theorem witness_OrangeryEndsAndRevoke :
    runs .orangeryAbort (running ⟨2, 127, 0, 64, false, false⟩) (fun t => t.orang.cmd = some ⟨2, 127, 0, 64, true, false⟩) = true
      ∧ runs .orangeryAbort rel0 (fun t => rf t ORANGERY_CMD_STAT_LAST_STATUS = 4) = true ∧ rel0.orang.cmd = none
      ∧ (stageOf (running ⟨3, 127, 0, 4096, false, false⟩) 127).isSome = true
      ∧ lanesOn (running ⟨3, 127, 0, 4096, false, false⟩) ≠ 0
      ∧ lanesOn (noLane ⟨3, 127, 0, 64, false, false⟩) = 0
      ∧ runs .orangeryCmdDone (noLane ⟨3, 127, 0, 64, false, false⟩)
          (fun t => rf t ORANGERY_CMD_STAT_LAST_STATUS = Code.internalFault.val) = true
      ∧ runs .orangeryCmdDone (running ⟨2, 127, 0, 64, false, false⟩) (fun t => t.orang.cmd = none && rf t ORANGERY_CMD_STAT_LAST_STATUS = 0) = true
      ∧ runs .orangeryCmdDone (running ⟨2, 127, 0, 64, true, false⟩)
          (fun t => rf t ORANGERY_CMD_STAT_LAST_STATUS = 0x0E && (stageOf t 127).map (fun o => stageBytes o 0 1) = some [0]) = true
      ∧ runs .orangeryCmdDone (running ⟨3, 127, 0, 64, false, true⟩) (fun t => rf t ORANGERY_CMD_STAT_LAST_STATUS = 7) = true
      ∧ revokeCode ((domAt 0 stPARKED).setF ORANGERY_CMD_GEN_GEN 1) 0 = none
      ∧ runs (.revoke 0) (((domAt 0 stPARKED).setF ORANGERY_CMD_GEN_GEN 1).raise (GATE_DOM_STAT_VERIFIED 0))
          (fun t => !verified t 0 && rf t ORANGERY_CMD_STAT_LAST_STATUS = 0) = true := by decide +kernel

/-- An extent of two leaves for region 0 of domain 0, a load lane in service. -/
def ext0 : Ext := { extOf rel0 0 with valid := true, len := 8192, epoch := 3 }
def withExt : State := (rel0.setF LOADER_LANE0_IN_SERVICE 1).setExt 0 ext0
def waiting : State := { withExt with orang := { withExt.orang with refetch := [⟨0, 1, false, []⟩] } }
def lostFull : State := { withExt with orang := { withExt.orang with lost := (List.range 256).map fun i => (1, i) } }

theorem witness_LeavesAreJudged :
    lanesOn waiting ≠ 0 ∧ ((nextRefetch waiting (busOfDev waiting (devOfPart waiting (extOf waiting (extIx 0 0)).srcPart))).any
        fun q => q.ext = extIx 0 0 && q.leaf = 1) = true
      ∧ expectedHashes waiting 0 1 = [] ∧ waiting.orang.lost.length < 256
      ∧ extReadable waiting 0 = true ∧ leafRead [] [] [0] = true ∧ waiting.orang.wts = []
      ∧ runs (.refetchDone 0 0 1 [] [0]) waiting (fun t => t.orang.lost = [(0, 1)] && t.orang.refetch = []) = true
      ∧ lostFull.orang.lost.length = 256 ∧ lostFull.orang.lost.contains (extIx 0 0, 1) = false ∧ (extOf lostFull 0).valid = true
      ∧ lanesOn lostFull ≠ 0 ∧ extReadable lostFull 0 = true
      ∧ runs (.lostLeafRefetch 0 0 1 [] [0]) lostFull (fun t => t.orang.lost.length = 256 && rb t ORANGERY_EVT_REFETCH) = true := by decide +kernel

/-- A re-encryption queued, and one under way at a block. -/
def rekeyQ0 : State := { withExt with orang := { withExt.orang with rekeyQ := [0] } }
def rekeyAt (b : Nat) : State := (withExt.raise ORANGERY_STAT_REKEY_ACTIVE).setF ORANGERY_REKEY_STAT_BLOCK b

theorem witness_ReencryptionAndLedger :
    rb rekeyQ0 ORANGERY_STAT_REKEY_ACTIVE = false ∧ lockdown rekeyQ0 = false ∧ epochsLeft rekeyQ0 1 = true
      ∧ runs .rekeyStart rekeyQ0 (fun t => rb t ORANGERY_STAT_REKEY_ACTIVE && (extOf t 0).prev = 3 && (extOf t 0).epoch ≠ 3) = true
      ∧ rekeyExt (rekeyAt 1) = 0 ∧ 1 < (extOf (rekeyAt 1) 0).len / 4096
      ∧ runs .rekeyBlockPassed (rekeyAt 1) (fun t => rf t ORANGERY_REKEY_STAT_BLOCK = 2) = true
      ∧ runs .rekeyDone (rekeyAt 2) (fun t => !rb t ORANGERY_STAT_REKEY_ACTIVE && (extOf t 0).prev = 0) = true := by decide +kernel

/-- A ledger in the given state. -/
def ledgerAt (n : Nat) : State :=
  let s := rel0.setF ORANGERY_STAT_LEDGER n
  { s with orang := { s.orang with ledSize := 8 } }
def wt0 : Wt := ⟨0, 0, 0, 1, 0, 4, [0, 0, 0, 0], 1, [0], [(0, none)], false, 0, [], [], [⟨0, 0, 0, [], [], [], 0, false, 0⟩]⟩
def wtAt (n : Nat) : State := { ledgerAt n with orang := { (ledgerAt n).orang with wts := [wt0] } }

theorem witness_ReencryptionAndLedger_entries :
    ledger (wtAt 2) = 2 ∧ (nextAppend (wtAt 2)).isSome = true ∧ ledgerFull (wtAt 2) = false ∧ devIdle (wtAt 2) (ledgerDev (wtAt 2)) = true
      ∧ runs (.ledgerAppendDone 1 true 0 false) (wtAt 2) (fun t => t.orang.wts.map (·.stage) = [2]) = true
      ∧ runs (.ledgerAppendDone 1 false 4 false) (wtAt 2) (fun t => t.orang.wts.isEmpty && rb t (GATE_DOM_STAT_DIVERGED 0)) = true
      ∧ runs (.ledgerAppendDone 2 true 0 false) (ledgerAt 4) (fun t => ledger t = 3 && t.orang.ledHalf = 1 && t.orang.ledGen = 1) = true
      ∧ busServes (wtAt 2) (busOfDev (wtAt 2) (ledgerDev (wtAt 2))) 2 = true ∧ (devX (wtAt 2) (ledgerDev (wtAt 2))).other ≠ 1
      ∧ serving ((wtAt 2)) 0 = true ∧ serving ((wtAt 2)) 1 = true
      ∧ runs (.ledgerAppendDone 1 true 0 true) ((wtAt 2)) (fun t => t.orang.wts.map (·.stage) = [1]) = true
      ∧ busServes (ledgerAt 4) (busOfDev (ledgerAt 4) (ledgerDev (ledgerAt 4))) 2 = true
      ∧ ((ledgerAt 4).orang.wts.any (·.held)) = false ∧ (ledgerAt 4).orang.snap = [] ∧ (ledgerAt 4).orang.retry = false
      ∧ devIdle (ledgerAt 4) (ledgerDev (ledgerAt 4)) = true
      ∧ runs (.ledgerAppendDone 2 false 4 false) (ledgerAt 4) (fun t => ledger t = 2 && t.orang.retry) = true
      ∧ runs .ledgerSwitchRetry { ledgerAt 2 with orang := { (ledgerAt 2).orang with retry := true } }
          (fun t => ledger t = 4 && !t.orang.retry) = true := by decide +kernel

/-- The re-verifier is about to read leaf 0 of domain 0's region. -/
def reverifier : State :=
  let s := ((((withExt.setLoad 0 load2).raise ORANGERY_RV_CTRL_EN).setF ORANGERY_RV_CTRL_RATE 1000).setF ORANGERY_RV_CTRL_SHADOW_EN 0).putNode 0 0 0 (leafHash [])
  { s with ldr := { s.ldr with force := [(0, man0)] } }

theorem witness_LeavesAreJudged_reverifier :
    rb reverifier ORANGERY_RV_CTRL_EN = true ∧ rf reverifier ORANGERY_RV_CTRL_RATE ≠ 0 ∧ rvAt reverifier = some (0, 0, 0) ∧ lanesOn reverifier ≠ 0
      ∧ rb reverifier ORANGERY_RV_CTRL_SHADOW_EN = false
      ∧ reverifier.orang.wts = [] ∧ devIdle reverifier 0 = true ∧ busServes reverifier (busOfDev reverifier 0) 4 = true := by decide +kernel

/-- A line written in each plane under the freshness of `withExt`, 32 GiB parts. -/
def lined : State :=
  ((withExt.setF SYSCTL_ID_DRAM_CAP 2).modBoot fun b => { b with supplies := 15 }).modPlanes fun m => { m with tags := [(0, ⟨3, 0⟩)] }

theorem witness_StoredLinesAndIdleBalls_lines :
    cap32 lined = true ∧ heldTag lined 0 0 = ⟨3, 0⟩ ∧ heldTag lined 1 0 ≠ ⟨0, 0⟩ ∧ lineFresh lined 0 0 0 = true
      ∧ (extOf lined 0).base = 0 ∧ macAddr true 0x40 = some 0x71C000008 := by decide +kernel

/-- Banks FBB0 and SYB at 1.8 V. -/
def banked : State := (live.setBankClass 12 1).setBankClass bankSYB 1

theorem witness_StoredLinesAndIdleBalls_balls :
    bankClass banked 12 ≠ 0 ∧ banked.gate.applied = false ∧ bankUp banked (bankOfFb 0) = true ∧ bankFloated banked (bankOfFb 0) = false
      ∧ rb banked FBUS_STAT_MAP_APPLIED = false ∧ bankUp banked bankSYB = true ∧ bankFloated banked bankSYB = false ∧ banked.boot.cfgBus = false
      ∧ bankUp (banked.modBoot fun b => { b with cfgBus := true }) bankSYB = true
      ∧ runs (.bankClassChange 12 0) banked (fun t => fbBalls t 0 = FlashBalls.all 4 .highZ) = true
      ∧ planeSt planeADown 0 = plISOLATED ∧ planeADown.boot.supplies.testBit 0 = true
      ∧ runs (.retrain0 0x10000) planeADown (fun t => (lpBalls t 0).rstN = .high) = true := by decide +kernel

/-! ### Frames -/

/-- A channel program in SPI-NOR mode: one region of SERVE_SHADOW and DENY_SILENT over the first 64 KiB of 16 MiB, every global class EMULATE
but ERASE_CHIP and INVALID, rows for the classes at opcodes 0 to 20 (R217 to R224). -/
def prog0 : Prog :=
  [0, 0, 0, 0, 0, 0, 0, 1, 0x32, 0, 0xEE, 0, 0x18, 8, 1, 0, 0xC2, 0x20, 0x18, 0, 0, 0, 0, 0, 3, 0, 0, 0, 0x56, 0x55, 0x66, 0x66, 0x66, 0x66,
    0x66, 0x56, 4, 0, 0xDD] ++ List.replicate 25 0 ++ [0, 1, 3, 0, 1, 0, 0, 0, 1, 1, 3, 0, 2, 0, 0, 0, 2, 1, 3, 0, 0, 0xC, 0, 0, 3, 1, 0, 0,
    0, 0, 0, 0, 4, 1, 0, 0, 0, 0, 0, 0, 5, 1, 0, 0, 0, 0, 0, 0, 6, 1, 0, 0, 1, 0, 0, 0, 7, 1, 0, 0, 2, 0, 0, 0, 8, 1, 0, 0, 1, 0, 0, 0, 9,
    1, 3, 0, 1, 0, 0, 0, 0xA, 1, 0, 0, 0, 0, 0, 0, 0xB, 1, 0, 0, 0, 0, 0, 0, 0xC, 1, 0, 0, 0, 0, 0, 0, 0xD, 1, 0, 0, 0, 1, 0, 0, 0xE, 1, 0,
    0, 0, 1, 0, 0, 0xE, 1, 0, 0, 0, 2, 0, 0, 0xE, 1, 0, 0, 0, 3, 0, 0, 0xE, 1, 0, 0, 0, 4, 0, 0, 0xE, 1, 0, 0, 0, 5, 0, 0, 0xE, 1, 0, 0, 0,
    6, 0, 0, 0xE, 1, 0, 0, 0, 7, 0, 0, 0xF] ++ List.replicate 1885 0 ++ [1, 0, 0x51, 5, 5] ++ List.replicate 1013 0 ++ [4, 0xFF, 0, 0, 0, 0,
    0, 0, 0xFF, 0xFF, 0xFF, 0xFF, 0, 0, 0, 0, 0, 1, 0xD, 0xE, 0xFF, 0xFF, 0xFF, 0xFF, 0xFF, 0xFF, 0xFF] ++ List.replicate 37 0 ++ [0x53,
    0x46, 0x44, 0x50]

/-- Channel 0 of released domain 0 runs the program. -/
def port0 : State :=
  (rel0.raise (CH_PORT_STAT_ENABLED 0)).modChan 0 fun c => { c with prog := some prog0 }
/-- A complete frame of an opcode at channel 0. -/
def frame (op : Nat) : Frame :=
  { ch := 0, opcode := some op, addr := 0, modeBits := 0, din := [0x5A], dout := 2, phase := 2, whole := true, wpLow := false, shortAt := none
    lines := [], decDiffer := false }
/-- The decoded row of an opcode is of the given class, is not ignored while busy, and is EMULATEd. -/
def decodes (s : State) (op cls : Nat) : Bool :=
  match frameDecode s (frame op) with
  | some d => d.cls = cls && !busyIgnores s 0 cls d.row && d.p.globalAct cls % 8 = acEMULATE && d.opc = op
  | none => false
def armed : State := port0.modChan 0 fun c => { c with rstArmed := true }
def welSet : State := port0.raise (CH_PORT_STAT_WEL 0)
def opRuns : State :=
  (port0.raise (CH_PORT_STAT_WIP 0)).modChan 0 fun c => { c with ops :=
    [{ kind := 1, lo := 0, len := 1, minDone := false, compDone := true, suspended := false, tag := none, wt := [] }] }
def suspended0 : State :=
  (port0.raise (CH_PORT_STAT_SUSPENDED 0)).modChan 0 fun c => { c with ops :=
    [{ kind := 1, lo := 0, len := 1, minDone := false, compDone := true, suspended := true, tag := none, wt := [] }] }

theorem witness_EmulatedFrames_rows :
    ([4, 5, 6, 8, 12].all fun k => decodes port0 k k) = true ∧ decodes port0 9 9 = true ∧ decodes armed 13 13 = true
      ∧ ([14, 15, 16, 17, 18, 19, 20].all fun k => decodes port0 k 14) = true ∧ decodes port0 7 7 = true
      ∧ decodes opRuns 10 10 = true ∧ decodes suspended0 11 11 = true := by decide +kernel

theorem witness_EmulatedFrames :
    runs (.writeEnable (frame 4)) port0 (fun t => rb t (CH_PORT_STAT_WEL 0)) = true
      ∧ runs (.writeDisable (frame 5)) welSet (fun t => !rb t (CH_PORT_STAT_WEL 0)) = true
      ∧ runs (.resetEnable (frame 12)) port0 (fun t => (chanOf t 0).rstArmed) = true
      ∧ runs (.flashReset (frame 13)) (armed.raise (CH_PORT_STAT_WEL 0)) (fun t => !rb t (CH_PORT_STAT_WEL 0) && !(chanOf t 0).rstArmed) = true
      ∧ runs (.flashReset (frame 13)) welSet (fun t => rb t (CH_PORT_STAT_WEL 0)) = true
      ∧ runs (.readStatus (frame 6)) welSet (fun t => t.out = .bytes [2, 2]) = true
      ∧ runs (.readId (frame 8)) port0 (fun t => t.out = .bytes [0xC2, 0x20]) = true := by decide +kernel

theorem witness_EmulatedFrames_modes :
    runs (.modeAddr4Set (frame 14)) port0 (fun t => rb t (CH_PORT_STAT_ADDR4 0)) = true
      ∧ runs (.modeAddr4Clear (frame 15)) (port0.raise (CH_PORT_STAT_ADDR4 0)) (fun t => !rb t (CH_PORT_STAT_ADDR4 0)) = true
      ∧ runs (.modeQpiSet (frame 16)) port0 (fun t => rb t (CH_PORT_STAT_QPI 0)) = true
      ∧ runs (.modeOctal8dSet (frame 18)) port0 (fun t => rb t (CH_PORT_STAT_OCTAL_8D 0)) = true
      ∧ prog0.hasRole roleEFAIL = true ∧ prog0.role roleEFAIL < 32
      ∧ runs (.modeFailClear (frame 20)) (port0.setRole 0 roleEFAIL true) (fun t => !roleBit t 0 roleEFAIL true) = true := by decide +kernel

theorem witness_StatusWritesAndSuspend :
    runs (.writeStatus (frame 7)) port0 (fun t => rb t (CH_PORT_STAT_WIP 0) && rf t (sregFld 0 0) = 0x5A) = true
      ∧ (frameDecode port0 (frame 21)).map (·.cls) = some 15 ∧ (frameDecode port0 (frame 22)).map (·.cls) = some 15
      ∧ runs (.invalidFrame (frame 21)) port0 (fun t => rb t (CH_TR_EVT_INVALID_OP 0) && t.out = .none) = true
      ∧ canSuspend (chanOf opRuns 0) = true
      ∧ runs (.suspend (frame 10)) opRuns (fun t => rb t (CH_PORT_STAT_SUSPENDED 0) && !rb t (CH_PORT_STAT_WIP 0)) = true
      ∧ runs (.resume (frame 11)) suspended0 (fun t => !rb t (CH_PORT_STAT_SUSPENDED 0) && rb t (CH_PORT_STAT_WIP 0)) = true := by decide +kernel

/-- A served line of domain 0's region on channel 0, alike in both planes. -/
def served (one : Bool) : State :=
  let s := port0.setExt 0 { ext0 with channel := 0, chanOff := 0 }
  let s := [0, 1].foldl (fun (s : State) x => s.setPlane x
    (((planeOf s x).putBytes (extOf s 0).base [0xA1, 0xA2] false).tagLines ((extOf s 0).base / 64) 128 ⟨3, 0⟩)) s
  if one then s.setF (planeFld 1) plISOLATED else s

theorem witness_ReadsDeliver :
    (frameDecode (served true) (frame 0)).map (·.cls) = some 0 ∧ (frameDecode (served true) (frame 0)).map (outLen (served true) (frame 0)) = some 2
      ∧ (served true).orang.lost = [] ∧ ((List.range 128).all fun i => lineFresh (served false) 0 0 (64 * i) && lineFresh (served false) 1 0 (64 * i)) = true ∧ (blockAct prog0 0 0).1 % 8 ≤ 1 ∧ extAt (served true) 0 0 = some 0
      ∧ lineFresh (served true) 0 0 0 = true ∧ serving (served true) 1 = false ∧ lineFresh (served false) 1 0 0 = true
      ∧ runs (.read (frame 0)) (served true) (fun t => t.out = .bytes [0xA1, 0xA2]) = true
      ∧ runs (.read (frame 0)) (served false) (fun t => t.out = .bytes [0xA1, 0xA2]) = true
      ∧ runs (.read (frame 0)) port0 (fun t => t.out = .bytes [5, 5] && rb t (CH_TR_EVT_UNMAPPED 0)) = true := by decide +kernel

/-- Neither plane serves. -/
def noPlanes : State := (port0.setF (planeFld 0) plISOLATED).setF (planeFld 1) plISOLATED

theorem witness_ReadsDeliver_sfdp :
    anyServing port0 = true ∧ anyServing noPlanes = false
      ∧ runs (.readSfdp (frame 9)) port0 (fun t => t.out = .bytes [0x53, 0x46]) = true
      ∧ runs (.readSfdp { frame 9 with addr := 3 }) port0 (fun t => t.out = .bytes [0x50, 0xFF]) = true
      ∧ runs (.readSfdp (frame 9)) noPlanes (fun t => t.out = .bytes [0xEE, 0xEE] && rb t (CH_PORT_EVT_POISON 0)) = true := by decide +kernel

theorem witness_WriteFramesAreDecided :
    (frameDecode welSet (frame 1)).map (·.cls) = some 1 ∧ (frameDecode welSet (frame 2)).map (·.cls) = some 2
      ∧ (frameDecode welSet (frame 3)).map (·.cls) = some 3
      ∧ touchesSuspended (atFrame welSet (frame 1)) 0 0 1 = false ∧ rangeAct prog0 1 0 1 = (5, 0)
      ∧ runs (.program (frame 1)) welSet (fun t => rb t (CH_PORT_STAT_WIP 0) && (chanOf t 0).ops.length = 1) = true
      ∧ runs (.eraseSector (frame 2)) welSet (fun t => (chanOf t 0).ops.map (·.len) = [4096]) = true
      ∧ runs (.eraseChip (frame 3)) welSet (fun t => (chanOf t 0).ops.map (·.len) = [2 ^ 24]) = true
      ∧ runs (.program (frame 1)) port0 (fun t => (chanOf t 0).ops.isEmpty) = true := by decide +kernel

/-! ### Port events, eSPI and Trellis -/

def late0 (n : Nat) : State := { served false with lateA := n, lateB := n }
def pulse0 (m : Nat) : State := ((port0.setF (CH_PORT_CFG_ALERT_MODE 0) m).raise (CH_PORT_STAT_ALERT_OUT 0)).setF (CH_ALERT_CTL_CAUSE 0) 3

theorem witness_PortEventsAct_late :
    portLive (late0 14) 0 = true ∧ serving (late0 14) 0 = true ∧ serving (late0 14) 1 = true
      ∧ runs (.lineLate 0 0) (late0 14) (fun t => lateOf t 0 = 15 && lateOf t 1 = 14 && planeSt t 0 = plSERVING) = true
      ∧ runs (.lineLate 0 1) (late0 15) (fun t => lateOf t 1 = 0 && planeSt t 1 = plISOLATED && planeSt t 0 = plSERVING) = true
      ∧ (extOf (late0 0) (extIx 0 0)).valid = true ∧ (extOf (late0 0) 0).base % 64 = 0 ∧ 8191 < (extOf (late0 0) 0).len
      ∧ runs (.lateLineArrival 0 1 0 0 1 true) (late0 0) (fun t => planeByte t 1 0 1 = 0xA2 && lineFresh t 1 0 1) = true := by decide +kernel

theorem witness_PortEventsAct_alert :
    rf (pulse0 1) (CH_PORT_CFG_ALERT_MODE 0) = 1 ∧ rf (pulse0 1) (CH_PORT_CFG_MODE 0) ≠ modeESPI
      ∧ rf (pulse0 0) (CH_PORT_CFG_ALERT_MODE 0) = 0
      ∧ runs (.alertPulseEnd 0) (pulse0 1) (fun t => !rb t (CH_PORT_STAT_ALERT_OUT 0)) = true
      ∧ runs (.alertClear 0 1) (pulse0 0) (fun t => !rb t (CH_PORT_STAT_ALERT_OUT 0) && rf t (CH_ALERT_CTL_CAUSE 0) = 0) = true
      ∧ ((chanOf opRuns 0).ops.all fun o => o.compDone && !o.suspended && o.kind ≠ 7) = true
      ∧ runs (.wipClear 0) opRuns (fun t => (chanOf t 0).ops.isEmpty && !rb t (CH_PORT_STAT_WIP 0) && rb t (CH_PORT_EVT_WRITE_DONE 0)) = true := by
  decide +kernel

def feOne : State := (port0.modChan 95 fun c => { c with feBad := 1 }).setF (CH_PORT_STAT_FE_ACTIVE 95) 1

theorem witness_PortEventsAct_ports :
    (chanOf port0 95).feBad = 0 ∧ rf port0 (CH_PORT_STAT_FE_ACTIVE 95) = 0 ∧ (chanOf feOne 95).feBad = 1 ∧ rb feOne SYSCTL_FAULT_LATCHED = false
      ∧ runs (.feTakeover 95) port0 (fun t => rf t (CH_PORT_STAT_FE_ACTIVE 95) = 1 && rb t (CH_PORT_EVT_FE_SWITCH 95)) = true
      ∧ runs (.feTakeover 95) feOne (fun t => rf t SYSCTL_FAULT_CAUSE = 3 && rf t SYSCTL_FAULT_UNIT = 95) = true
      ∧ portLive opRuns 0 = true
      ∧ runs (.chnRstNPulse 0) (opRuns.raise (CH_PORT_STAT_WEL 0)) (fun t => !rb t (CH_PORT_STAT_WEL 0) && !rb t (CH_PORT_STAT_WIP 0)) = true := by
  decide +kernel

/-- Channel 0 as an eSPI target at 33 MHz in dual mode, with the given requests outstanding. -/
def espi0 (qs : List EspiReq) (ready wait : List Nat) : State :=
  (((served true).modChan 0 fun c => { c with prog := some (((prog0.set 7 3).set 11 0xA).set 28 0x46), espi := qs, ready := ready, refetchWait := wait }).raise
    (CH_ESPI_STAT_FLASH_EN 0)).raise (CH_ESPI_STAT_ALERT_PIN 0)
def req0 (d : List Byte) : EspiReq := { tag := 15, kind := 0, addr := 0, len := 2, data := d, state := 0 }

theorem witness_EspiRequests :
    espiLive (espi0 [] [] []) 0 = true ∧ tagFree (espi0 [] [] []) 0 15 = true ∧ extAt (espi0 [] [] []) 0 0 = some 0
      ∧ (chanOf (espi0 [] [] []) 0).espiMax = 64
      ∧ lineFresh (espi0 [] [] []) 0 0 0 = true ∧ serving (espi0 [] [] []) 1 = false
      ∧ (blockAct (progOf (espi0 [] [] []) 0) 0 0).1 % 8 ≤ 1
      ∧ runs (.espiFlashRead 0 15 0 2 [] false) (espi0 [] [] []) (fun t => t.out = .deferred && (chanOf t 0).espi.map (fun q => (q.tag, q.data, q.state)) = [(15, [0xA1, 0xA2], 0)]) = true
      ∧ rangeAct (progOf (espi0 [] [] []) 0) 1 0x100000 64 = (4, 0xFF)
      ∧ runs (.espiFlashWrite 0 15 0x100000 (List.replicate 64 0) [] [] false) (espi0 [] [] []) (fun t => (chanOf t 0).ready = [15]) = true
      ∧ rangeAct (progOf (espi0 [] [] []) 0) 2 4096 4096 = (5, 0)
      ∧ runs (.espiFlashErase 0 15 4097 4096 [] false) (espi0 [] [] []) (fun t => rb t (CH_PORT_STAT_WIP 0) && (chanOf t 0).ops.map (·.lo) = [4096]) = true := by
  decide +kernel

theorem witness_EspiCompletions :
    runs (.espiCompletionReady 0 15) (espi0 [req0 [1, 2]] [3] []) (fun t => (chanOf t 0).ready = [3, 15] && rb t (CH_PORT_STAT_ALERT_OUT 0)) = true
      ∧ runs (.espiCompletionReady 0 15) (espi0 [req0 []] [] [15]) (fun t => (chanOf t 0).ready = [15] && rb t (CH_PORT_EVT_POISON 0)) = true
      ∧ runs (.getFlashC 0) (espi0 [{ req0 [1, 2] with state := 1 }] [15] []) (fun t => t.out = .flashC 15 true 0 [1, 2] && (chanOf t 0).espi.isEmpty) = true
      ∧ runs (.getFlashC 0) (espi0 [{ req0 (List.replicate 65 7) with state := 1 }] [15] [])
          (fun t => t.out = .flashC 15 true 1 (List.replicate 64 7) && (chanOf t 0).espi.map (·.data) = [[7]]) = true := by decide +kernel

theorem witness_EspiLink :
    portLive (espi0 [] [] []) 0 = true ∧ (progOf (espi0 [] [] []) 0).mode = modeESPI
      ∧ runs (.setConfiguration 0 2 2 4096 false false true) (espi0 [] [] [])
          (fun t => rf t (CH_ESPI_STAT_FREQ 0) = 2 && rf t (CH_ESPI_STAT_IO 0) = 0 && !rb t (CH_ESPI_STAT_FLASH_EN 0)
            && (chanOf t 0).espiMax = 4096) = true
      ∧ runs (.setConfiguration 0 2 2 8192 false false true) (espi0 [] [] []) (fun t => (chanOf t 0).espiMax = 64) = true
      ∧ runs (.espiProtocolError 0) (espi0 [] [] []) (fun t => t.out = .noResponse) = true
      ∧ runs (.espiReset 0) (espi0 [req0 []] [15] []) (fun t => (chanOf t 0).espi.isEmpty && (chanOf t 0).ready.isEmpty) = true := by decide +kernel

/-- Channel 95 with a pending slot in the given state. -/
def pend95 (st code : Nat) : State :=
  ((port0.modChan 95 fun c => { c with pend := [1, 2], loadCode := code, first := false }).setF (CH_TR_STAT_PEND 95) st).setF
    (CH_TR_CMD_ADDR_ADDR 95) 0x101FF000

theorem witness_TrellisCommandsAndSwap_load :
    inTcm 0x101FF000 3200 = true ∧ rf (pend95 0 0) (CH_TR_CMD_ADDR_ADDR 95) = 0x101FF000
      ∧ runs (.load 95 3200) (pend95 0 0) (fun t => pendOf t 95 = pendLOADING && !(chanOf t 95).pend.isEmpty) = true
      ∧ runs (.load 95 3200) (pend95 3 0) (fun t => rf t (CH_TR_CMD_STAT_LAST_STATUS 95) = 1) = true
      ∧ runs (.load 95 3199) (pend95 0 0) (fun t => rf t (CH_TR_CMD_STAT_LAST_STATUS 95) = 0xF) = true
      ∧ pendOf (pend95 1 11) 95 = pendLOADING ∧ (chanOf (pend95 1 0) 95).loadCode = 0 ∧ (chanOf (pend95 1 11) 95).loadCode = 11 := by decide +kernel

theorem witness_TrellisCommandsAndSwap_swap :
    activateCode (pend95 2 0) 95 = none ∧ 95 ∈ activateSet (pend95 2 0) 95
      ∧ runs (.activate 95) (pend95 2 0) (fun t => pendOf t 95 = pendSWAP) = true
      ∧ domOfChan (port0.setF (CH_TR_CMD_GEN_GEN 0) 9) 0 = some 0
      ∧ runs (.activate 0) (port0.setF (CH_TR_CMD_GEN_GEN 0) 9) (fun t => rf t (CH_TR_CMD_STAT_LAST_STATUS 0) = 5) = true
      ∧ runs (.discard 95) (pend95 2 0) (fun t => pendOf t 95 = pendEMPTY && (chanOf t 95).pend.isEmpty) = true
      ∧ runs (.discard 95) (pend95 0 0) (fun t => rf t (CH_TR_CMD_STAT_LAST_STATUS 95) = 4) = true
      ∧ runs (.swap 95) ((pend95 3 0).setReg (CH_TR_PMEAS 95 11) 7)
          (fun t => (chanOf t 95).prog = some [1, 2] && reg t (CH_TR_MEAS 95 11) = 7 && rb t (CH_TR_EVT_SWAPPED 95)) = true := by decide +kernel

/-! ### Ill-formed commands, one for each check -/

def access0 : Access := { transport := 1, port := 0, source := 0 }
def origin0 : Origin := { port := 0, eid := 0 }
def frame0 : Frame :=
  { ch := 0, opcode := some 3, addr := 0, modeBits := 0, din := [], dout := 0, phase := 2, whole := true, wpLow := false, shortAt := none,
    lines := [], decDiffer := false }
def packet0 : Packet :=
  { port := 0, ch := 255, dest := 0, src := 0, tag := 0, owner := true, som := true, eom := true, seq := 0, data := [], bad := false }
def accessBad : Access := { access0 with transport := 5 }
def originBad : Origin := { origin0 with port := 10 }
def frameBad : Frame := { frame0 with ch := 96 }
def packetBad : Packet := { packet0 with port := 10 }

/-- The operands of the lists below are well-formed but for the one that each command changes. -/
theorem test_wellFormed_operands :
    access0.wf = true ∧ origin0.wf = true ∧ frame0.wf = true ∧ packet0.wf = true ∧ accessWidth 4 = true ∧ mapAddr 0 = true := by decide

theorem test_illFormed_operands :
    ([{ access0 with transport := 0 }, { access0 with transport := 5 }, { access0 with port := 256 }, { access0 with source := 65536 }] : List Access).all
        (fun a => !a.wf) = true
      ∧ ([{ origin0 with port := 10 }, { origin0 with eid := 256 }] : List Origin).all (fun o => !o.wf) = true
      ∧ ([{ packet0 with port := 10 }, { packet0 with ch := 256 }, { packet0 with dest := 256 }, { packet0 with src := 256 },
          { packet0 with tag := 8 }, { packet0 with seq := 4 }] : List Packet).all (fun p => !p.wf) = true
      ∧ ([{ frame0 with ch := 96 }, { frame0 with opcode := some 256 }, { frame0 with addr := 0x100000000 }, { frame0 with modeBits := 256 },
          { frame0 with phase := 3 }] : List Frame).all (fun f => !f.wf) = true
      ∧ accessWidth 0 = false ∧ accessWidth 3 = false ∧ mapAddr 0x100004000 = false := by decide

theorem test_illFormed_commands_a :
    ([.registerWrite 0x100004000 0 4 0, .registerWrite 0 0x100000000 4 0, .registerWrite 0 0 3 0, .registerWrite 0 0 4 65536,
      .debugRead 0x100004000, .busAccessFault 0x100004000 4 false, .busAccessFault 0 3 false, .supplyMonitorDrop 3, .mainPowerLoss 3,
      .pllLock 2, .romRecoveryImage 256 [] [], .trainingDone 2 false 0, .devReset 0x100000000 false, .bvRestart 0x100000000,
      .wdtKick 0x100000000, .referenceLost 2, .pllUnlock 2, .planeIsolation 2 0, .rebuildA 0x100000000, .rebuildB 0x100000000,
      .rebuildDone 2, .retrain0 0x100000000, .retrain1 0x100000000, .bankClassChange 24 0, .bankClassChange 0 256, .bankResume 24,
      .gateHold 256, .gateRelease 256, .resetCycle 256, .recover 256, .quarantine 256, .enterLockdown 256, .holdStep 256, .domainPass 256,
      .releaseDelayExpiry 256, .releaseStep 256, .pgTimeout 256, .pclInputChange 144 false, .rstPulseEnd 256,
      .rstreqStuck 144] : List Instr).all (fun i => !i.wellFormed) = true := by decide

theorem test_illFormed_commands_b :
    ([.rstreqIgnoredClear 144, .manifestReadDone 256 [], .accept 256, .reject 256 0, .reject 0 256, .reverify 256, .loaderAbort 256,
      .burstTimeout 256 0, .burstTimeout 0 32, .reverifyDone 256, .stageWrite 256, .stageHash 256, .stageFree 256, .revoke 256,
      .refetchDone 256 0 0 [] [], .refetchDone 0 64 0 [] [], .lostLeafRefetch 256 0 0 [] [], .lostLeafRefetch 0 64 0 [] [],
      .ledgerAppendDone 5 false 0 false, .ledgerAppendDone 0 false 256 false, .rvLeaf 256 0 0 [] [] false false, .rvLeaf 0 64 0 [] [] false false,
      .read frameBad, .program frameBad, .eraseSector frameBad, .eraseChip frameBad, .writeEnable frameBad, .writeDisable frameBad,
      .readStatus frameBad, .writeStatus frameBad, .readId frameBad, .readSfdp frameBad, .suspend frameBad, .resume frameBad,
      .resetEnable frameBad, .flashReset frameBad, .modeAddr4Set frameBad, .modeAddr4Clear frameBad, .modeQpiSet frameBad,
      .modeQpiClear frameBad] : List Instr).all (fun i => !i.wellFormed) = true := by decide

theorem test_illFormed_commands_c :
    ([.modeOctal8dSet frameBad, .modeOctal8dClear frameBad, .modeFailClear frameBad, .invalidFrame frameBad, .lineLate 96 0, .lineLate 0 2,
      .lateLineArrival 96 0 0 0 0 false, .lateLineArrival 0 2 0 0 0 false, .lateLineArrival 0 0 48 0 0 false,
      .lateLineArrival 0 0 0 64 0 false, .alertPulseEnd 96, .alertClear 96 0, .alertClear 0 0x100000000, .wipClear 96, .feTakeover 96,
      .chnRstNPulse 96, .espiFlashRead 96 0 0 0 [] false, .espiFlashRead 0 16 0 0 [] false, .espiFlashRead 0 0 0 65536 [] false,
      .espiFlashWrite 96 0 0 [] [] [] false, .espiFlashWrite 0 16 0 [] [] [] false, .espiFlashErase 96 0 0 0 [] false, .espiFlashErase 0 16 0 0 [] false,
      .espiCompletionReady 96 0, .espiCompletionReady 0 16, .getFlashC 96, .setConfiguration 96 0 0 0 false false false, .setConfiguration 0 0 0 65536 false false false,
      .espiProtocolError 96, .espiReset 96, .load 96 0, .load 0 8192, .loadDone 96, .activate 96, .discard 96, .swap 96, .applyMap 65536,
      .rediscover 128, .trimTrack 128 false false [], .trimWrite 32 0,
      .trimWrite 0 0x100000000] : List Instr).all (fun i => !i.wellFormed) = true := by decide

theorem test_illFormed_commands_d :
    ([.busyPoll 128 false false, .flashOpTimeout 128 0 [], .flashOpDone 128 false 0, .recoveryBurstDone 256 [] [] 0 none none, .recoveryDone 256,
      .fill 256, .fillDone 256, .markInit 256, .memintAbort 256, .flipArm 0x100000000, .scrubRow 13 0 0 0 0 0 false,
      .scrubRow 0 0 0 32 0 0 false, .dramScrubLine 4 0 0 0 false false, .dramScrubLine 0 256 0 0 false false,
      .dramScrubLine 0 0 128 0 false false, .sweepEnd 14, .scrubOverrun 256, .bucketLeak 256, .generate 256, .derive 256 0, .derive 0 256,
      .deriveSealed 256, .loadWk 256 0, .loadWk 0 256, .clearWk 256, .erase 256, .lockSlot 256, .certify 256, .publicKey 256,
      .engStart 2 0, .engStart 0 4, .engAbort 2 0, .engAbort 0 4, .engDone 4 0, .kmEngineTake 4, .sourceStartupPass 4 [], .healthFail 4 [],
      .rawMode 4, .testPattern 4, .kioskState accessBad 0 0 0] : List Instr).all (fun i => !i.wellFormed) = true := by decide

theorem test_illFormed_commands_e :
    ([.kioskState access0 512 0 0, .kioskState access0 0 256 0, .kioskState access0 0 0 65536, .kioskHold accessBad 0 0 0,
      .kioskHold access0 512 0 0, .kioskHold access0 0 256 0, .kioskHold access0 0 0 65536, .kioskResetCycle accessBad 0 0 0,
      .kioskResetCycle access0 512 0 0, .kioskResetCycle access0 0 256 0, .kioskResetCycle access0 0 0 65536, .service accessBad 0 0 0 0,
      .service access0 512 0 0 0, .service access0 0 256 0 0, .service access0 0 0 256 0, .service access0 0 0 0 65536, .replyPlace 512,
      .tnRspRead accessBad 0, .tnRspRead access0 512, .unbound accessBad 0 false, .unbound access0 512 false, .tnDbInWrite accessBad 0 0,
      .tnDbInWrite access0 512 0, .tnDbInWrite access0 0 0x100000000, .kioskReplyWrite 0x100000000, .kioskDbOutWrite 0x100000000,
      .applyTbt 65536, .takenRequestTimeout 512, .pendingRequestTimeout 512, .smbusBlockWrite 10 0 0 0 false,
      .smbusBlockWrite 0 512 0 0 false, .smbusBlockWrite 0 0 0 0x100000000 false, .smbusProcessCall 10 0 0, .smbusProcessCall 0 512 0,
      .mctpPacket packetBad, .reassemblyTimeout 10 0 0 false, .reassemblyTimeout 0 256 0 false, .reassemblyTimeout 0 0 8 false,
      .rxSlotFree 16, .smbTimeout 10] : List Instr).all (fun i => !i.wellFormed) = true := by decide

theorem test_illFormed_commands_f :
    ([.setEndpointId originBad 0, .setEndpointId origin0 256, .getEndpointId originBad, .getEndpointUuid originBad,
      .getMctpVersionSupport originBad 0, .getMctpVersionSupport origin0 256, .getMessageTypeSupport originBad,
      .getVendorDefinedMsgSupport originBad 0, .getVendorDefinedMsgSupport origin0 256, .prepareForEndpointDiscovery originBad,
      .endpointDiscovery originBad, .unsupportedControlCmd originBad, .vendorKiosk originBad 0 0 0, .vendorKiosk origin0 65536 0 0,
      .vendorKiosk origin0 0 0x100000000 0, .vendorKiosk origin0 0 0 0x100000000, .getNonce originBad, .getOutcome originBad,
      .ownerRelease originBad [], .ownerProvisionVault originBad [], .ownerEnterLockdown originBad [], .ownerLockSet originBad [],
      .ownerLockClear originBad [], .ownerReturnToken originBad [], .ownerScrap originBad [], .getVersion originBad none,
      .getCapabilities originBad 0 0 none, .negotiateAlgorithms originBad none, .getDigests originBad none,
      .getCertificate originBad 0 0 none, .getCertificate origin0 0 65536 none, .challenge originBad [] none,
      .getMeasurements originBad 0 false [] none, .getMeasurements origin0 256 false [] none, .keyExchange originBad [] [] none,
      .finish originBad 0 [] none, .finish origin0 0x100000000 [] none, .heartbeat originBad 0 none, .heartbeat origin0 0x100000000 none,
      .heartbeatExpiry 0x100000000] : List Instr).all (fun i => !i.wellFormed) = true := by decide

theorem test_illFormed_commands_g :
    ([.keyUpdate originBad 0 none, .keyUpdate origin0 0x100000000 none, .endSession originBad 0 none, .endSession origin0 0x100000000 none,
      .respondIfReady originBad none, .chunkSend originBad [] false none, .chunkGet originBad none,
      .vendorDefinedRequest originBad [] none, .spdmUnsupportedRequest originBad, .getTid originBad, .getPldmVersion originBad 0,
      .getPldmVersion origin0 256, .getPldmTypes originBad, .getPldmCommands originBad 0, .getPldmCommands origin0 256,
      .queryDeviceIdentifiers originBad, .getFirmwareParameters originBad, .requestUpdate originBad, .passComponentTable originBad false,
      .updateComponent originBad 0 0 0, .updateComponent origin0 65536 0 0, .updateComponent origin0 0 0 256, .activateFirmware originBad,
      .getStatus originBad, .cancelUpdateComponent originBad, .cancelUpdate originBad, .updWrite 256 0, .updWrite 0 65536, .updSwap 65536 [] [],
      .commitSvn 256, .lcsArm 0x100000000, .debugWrite 0x100004000 0, .debugWrite 0 0x100000000, .applyRules 65536, .evtAck 256,
      .clearFired 256, .journalVerify 65536, .logFlush [] 65536 false,
      .pcieLinkChange false 8 0] : List Instr).all (fun i => !i.wellFormed) = true := by decide

/-! ### F-buses -/

/-- A map of one bus, one device and one source partition (R247). -/
def mapBytes : List Byte :=
  [1, 0, 0, 0, 1, 0, 1, 0, 0, 0, 0, 0, 0, 0, 0, 0, 100, 10, 100, 1, 0, 0, 0, 0] ++ List.replicate 248 0
    ++ [0, 0, 24, 3, 0xC2, 0x20, 0x18, 0, 0, 0, 0, 0, 0, 0, 0, 0] ++ [0, 1, 0, 0, 0xFF, 0xFF, 0, 0, 0, 0, 0, 0, 0, 0, 1, 0]
def mapIn : State :=
  ((State.reset.modBoot fun b => { b with cfg := { b.cfg with banks := List.replicate 20 1 } }).tcmWrite 0x10000000 mapBytes).setF
    FBUS_CMD_ADDR_ADDR 0x10000000
def dev0 : FbDev := { bus := 0, cs := 0, sizeLog2 := 24, idLen := 3, jedec := [0xC2, 0x20, 0x18, 0, 0, 0, 0, 0] }
def part0 : FbPart := { device := 0, kind := 1, wt := false, mirror := 0xFFFF, offset := 0, length := 65536 }
def bus0 : FbBus := { used := true, sck := 100, trimMin := 10, trimMax := 100, track := true }
/-- The map in force, with device 0 in a state and a tap. -/
def devAt (st tap : Nat) : State :=
  let s := { live1 with fbus := { live1.fbus with map := { buses := [bus0], devs := [dev0], parts := [part0] } } }
  ((s.loadTrim s.fbus.map).setF (FBUS_DEV_STAT_STATE 0) st).setTap 0 0 tap
def obs0 (taps : List Nat) : DevObs :=
  { dev := 0, answered := true, signature := true, jedec := [0xC2, 0x20, 0x18], density := 24, erase := 12, types := [12, 16], xspi := true
    sw8d := true, page := 8, suspendOk := true, taps }
def discovering : State := { devAt 0 0 with fbus := { (devAt 0 0).fbus with discovering := true } }
def redisc0 : State := { devAt 4 0 with fbus := { (devAt 4 0).fbus with redisc := [0] } }

theorem witness_MapDiscoveryAndTrim_map :
    (mapAt mapIn 304).isSome = true ∧ mode mapIn = moASSEMBLY ∧ rb mapIn FBUS_STAT_MAP_APPLIED = false ∧ mapAt mapIn 303 = none
      ∧ runs (.applyMap 304) mapIn (fun t => t.fbus.discovering && rf t (FBUS_FB_TRIM_TRIM_MAX 0) = 100 && rf t (FBUS_FB_TRIM_TRIM_MAX 31) = 0) = true
      ∧ runs (.applyMap 303) mapIn (fun t => rf t FBUS_CMD_STAT_LAST_STATUS = 0xF) = true
      ∧ (judgeDev discovering dev0 (obs0 [10, 11, 12, 20])).1 = .ok
      ∧ runs (.discoveryDone [obs0 [10, 11, 12, 20]]) discovering (fun t => rf t (FBUS_DEV_STAT_STATE 0) = dvREADY && rf t (FBUS_FB_TRIM_TAP 0) = 11) = true
      ∧ runs (.discoveryDone []) discovering (fun t => rf t (FBUS_DEV_STAT_STATE 0) = dvFAILED && t.fbus.avail = [(0, 1)]) = true := by decide +kernel

theorem witness_MapDiscoveryAndTrim_rediscover :
    lockdown (devAt 4 0) = false ∧ rf (devAt 4 0) (FBUS_DEV_STAT_STATE 0) = dvFAILED
      ∧ runs (.rediscover 0) (devAt 4 0) (fun t => t.fbus.redisc = [0]) = true
      ∧ runs (.rediscover 1) (devAt 4 0) (fun t => rf t FBUS_CMD_STAT_LAST_STATUS = 0xF) = true
      ∧ runs (.rediscoverDone (obs0 [10, 11])) redisc0 (fun t => rf t (FBUS_DEV_STAT_STATE 0) = dvREADY && rf t (FBUS_FB_TRIM_TAP 0) = 10) = true
      ∧ runs (.rediscoverDone (obs0 [101])) redisc0 (fun t => rf t (FBUS_DEV_STAT_STATE 0) = dvFAILED && rf t FBUS_CMD_STAT_LAST_STATUS = 0xB) = true := by
  decide +kernel

theorem witness_MapDiscoveryAndTrim_trim :
    rb (devAt 1 50) (FBUS_FB_TRIM_TRACK_EN 0) = true ∧ rf (devAt 1 50) (FBUS_DEV_STAT_STATE 0) = dvREADY
      ∧ runs (.trimTrack 0 true true []) (devAt 1 50) (fun t => rf t (FBUS_FB_TRIM_TAP 0) = 50) = true
      ∧ runs (.trimTrack 0 true false []) (devAt 1 11) (fun t => rf t (FBUS_FB_TRIM_TAP 0) = 10 && !rb t FBUS_EVT_TRIM_CLAMP) = true
      ∧ runs (.trimTrack 0 true false []) (devAt 1 10) (fun t => rf t (FBUS_FB_TRIM_TAP 0) = 10 && rb t FBUS_EVT_TRIM_CLAMP) = true
      ∧ runs (.trimTrack 0 false true []) (devAt 1 99) (fun t => rf t (FBUS_FB_TRIM_TAP 0) = 100) = true
      ∧ runs (.trimTrack 0 false true []) (devAt 1 100) (fun t => rf t (FBUS_FB_TRIM_TAP 0) = 100 && rb t FBUS_EVT_TRIM_CLAMP) = true
      ∧ runs (.trimTrack 0 false false [10, 99, 100]) (devAt 1 50) (fun t => rf t (FBUS_FB_TRIM_TAP 0) = 99) = true
      ∧ runs (.trimTrack 0 false false [101]) (devAt 1 50) (fun t => rf t (FBUS_DEV_STAT_FAIL_CODE 0) = 0xB) = true
      ∧ trimOk (devAt 1 50) 0 0x640B00 = true ∧ trimOk (devAt 1 50) 0 0x650B00 = false
      ∧ runs (.trimWrite 0 0x640B00) (devAt 1 50) (fun t => rf t (FBUS_FB_TRIM_TRIM_MIN 0) = 11 && rf t (FBUS_FB_TRIM_TAP 0) = 50) = true
      ∧ runs (.trimWrite 0 0x650B00) (devAt 1 50) (fun t => rf t (FBUS_FB_TRIM_TRIM_MIN 0) = 10) = true
      ∧ runs (.trimWrite 0 0x640B00) ((devAt 1 50).raise FBUS_CTRL_LOCK) (fun t => rf t (FBUS_FB_TRIM_TRIM_MIN 0) = 10 && rb t FBUS_CTRL_LOCK_VIOL) = true := by
  decide +kernel

/-- Write-through 0 at the head of device 0's queue, after some of its operations; `refetch` leaves wait. -/
def physAt (step kind st : Nat) (refetch : List Refetch) : State :=
  let s := ((withExt.setF (FBUS_DEV_STAT_STATE 0) st).raise (FBUS_DEV_STAT_SUSPEND_OK 0)).setDevX 0 ⟨[0], [12], step, 0, 0⟩
  { s with
    orang := { s.orang with wts := [{ wt0 with kind := kind }], refetch := refetch }
    fbus := { s.fbus with map := { buses := [bus0], devs := [dev0], parts := [part0] } } }
/-- An operation beside the queue runs on device 0. -/
def otherRuns : State := (physAt 0 2 2 []).setDevX 0 ⟨[0], [12], 0, 0, 3⟩
def recAt (code : Nat) (gs : List RecRange) : State := rel0.setRec 0 (some ⟨gs, 0, 5, code, [], [], []⟩)

theorem witness_PhysicalOperationsAndRecovery :
    ((devX (physAt 0 1 2 []) 0).queue.head?.bind (wtOf (physAt 0 1 2 []))).isSome = true ∧ (physOps (physAt 0 1 2 []) { wt0 with kind := 1 }).length = 1
      ∧ (physOps (physAt 0 3 2 []) { wt0 with kind := 3, len := 8192 }).length = 2
      ∧ (devX (physAt 0 1 2 []) 0).other = 0 ∧ devLive (physAt 0 1 2 []) 0 = true ∧ busServes (physAt 0 1 2 []) (busOfDev (physAt 0 1 2 []) 0) 2 = true
      ∧ runs (.flashOpDone 0 true 0) (physAt 0 3 2 []) (fun t => (devX t 0).step = 0 && rf t (FBUS_DEV_STAT_STATE 0) = dvREADY) = true
      ∧ (devX otherRuns 0).other ≠ 0 ∧ devLive otherRuns 0 = true
      ∧ runs (.busyPoll 0 false false) otherRuns (fun t => (devX t 0).other = 0) = true
      ∧ runs (.flashOpDone 0 true 0) (physAt 0 1 2 []) (fun t => t.orang.wts.isEmpty && rf t (FBUS_DEV_STAT_STATE 0) = dvREADY) = true
      ∧ runs (.flashOpDone 0 false 7) (physAt 0 1 2 [])
          (fun t => rb t FBUS_EVT_WT_FAIL && rb t (GATE_DOM_STAT_DIVERGED 0) && rf t FBUS_WT_FAIL1_ADDR = 7) = true
      ∧ runs (.flashOpTimeout 0 7 []) (physAt 0 1 2 []) (fun t => rb t FBUS_EVT_OP_TIMEOUT && rf t (FBUS_DEV_STAT_STATE 0) = dvFAILED) = true
      ∧ runs (.busyPoll 0 true false) (physAt 0 2 2 [⟨0, 1, false, []⟩]) (fun t => rf t (FBUS_DEV_STAT_STATE 0) = dvSUSP) = true
      ∧ runs (.busyPoll 0 true false) (physAt 0 2 3 []) (fun t => rf t (FBUS_DEV_STAT_STATE 0) = dvBUSY) = true := by decide +kernel

theorem witness_PhysicalOperationsAndRecovery_jobs :
    runs (.recoveryBurstDone 0 [1] [2] 0 none none) (recAt 0 [⟨none, 0, 0, 0, 0, 65537⟩])
        (fun t => recOf t 0 = some ⟨[⟨none, 0, 0, 0, 0, 65537⟩], 1, 5, 0, [1], [2], []⟩) = true
      ∧ runs (.recoveryBurstDone 0 [1] [2] 0 none none) (recAt 0 [⟨none, 0, 0, 0, 0, 1⟩])
        (fun t => (recOf t 0).map (·.units) = some 6 && t.fbus.writes.length = 1) = true
      ∧ (recNeeds (recAt 0 [⟨none, 0, 0, 0, 0, 65537⟩]) 0 ⟨none, 0, 0, 0, 0, 65537⟩ [] = 0
        ∧ devIdle (recAt 0 [⟨none, 0, 0, 0, 0, 65537⟩]) 0 = true
        ∧ busServes (recAt 0 [⟨none, 0, 0, 0, 0, 65537⟩]) (busOfDev (recAt 0 [⟨none, 0, 0, 0, 0, 65537⟩]) 0) 3 = true
        ∧ devOfPart (recAt 0 [⟨none, 0, 0, 0, 0, 65537⟩]) 0 = 0)
      ∧ runs (.recoveryBurstDone 0 [1] [1] 0 none none) (recAt 0 [⟨none, 0, 0, 0, 0, 1⟩]) (fun t => recOf t 0 = some ⟨[], 0, 5, 0, [], [], []⟩) = true
      ∧ runs (.recoveryBurstDone 0 [1] [1] 0x11 none none) (recAt 0 [⟨none, 0, 0, 0, 0, 1⟩]) (fun t => (recOf t 0).map (·.code) = some 0x11) = true
      ∧ runs (.recoveryDone 0) (recAt 0 []) (fun t => domState t 0 = stVERIFYING && rb t FBUS_EVT_REC_DONE && rf t FBUS_REC_STAT_UNITS = 5) = true
      ∧ runs (.recoveryDone 0) (recAt 0xB []) (fun t => domState t 0 = stPARKED && rb t FBUS_EVT_REC_FAILED) = true := by decide +kernel

/-! ### Memory integrity -/

def memAt (st : State) (a0 a1 : Nat) : State := (st.setF MEMINT_CMD_ARG0_ARG a0).setF MEMINT_CMD_ARG1_ARG a1
def fills (c : Nat) (ab : Bool) : State := { State.reset with mem := { State.reset.mem with fills := [(c, ab, 7)] } }
/-- Scrub bounds of fourteen classes (R281), each entry scrubbing and adapting between 10 s and 1,000 s. -/
def bnd : Bound := { scrub := true, adapt := true, rowLimit := 3, upThresh := 2, pMin := 10, pMax := 1000, pInit := 100, leakMs := 1000, bucket := 8 }
def scrubbing (b : Bound) (errs : List (Nat × Nat)) : State :=
  let s := { live with mem := { live.mem with bounds := List.replicate 14 b, errs := errs } }
  ((s.setF MEMINT_STAT_INIT 0x3FFF).setF (MEMINT_C_SCRUB_PERIOD_S 7) 15).setF (MEMINT_C_SCRUB_BUCKET 13) 1

theorem witness_MemoryIntegrityActs_fill :
    runs (.fill 4) (memAt State.reset 9 0) (fun t => t.mem.fills = [(4, false, 9)] && rb t MEMINT_STAT_FILL_BUSY) = true
      ∧ classInit State.reset 11 = false ∧ mode State.reset = moASSEMBLY ∧ filling State.reset 11 = false
      ∧ runs (.fill 11) (scrubbing bnd []) (fun t => rf t MEMINT_CMD_STAT_LAST_STATUS = 4) = true
      ∧ runs (.fill 12) State.reset (fun t => rf t MEMINT_CMD_STAT_LAST_STATUS = 0xF) = true
      ∧ runs (.fillDone 11) (fills 11 false) (fun t => classInit t 11 && !filling t 11) = true
      ∧ runs (.fillDone 4) (fills 4 true) (fun t => !classInit t 4 && rf t MEMINT_CMD_STAT_LAST_STATUS = 0xE) = true
      ∧ runs (.memintAbort 4) (fills 4 false) (fun t => t.mem.fills = [(4, true, 7)]) = true
      ∧ runs (.markInit 4) State.reset (fun t => classInit t 4) = true := by decide +kernel

def retired : State := (live.setMacro 291 { SramBlk.init with spares := [(5, false)] }).setF MEMINT_STAT_UNCOMMITTED 1

theorem witness_MemoryIntegrityActs_repair :
    retireCode (memAt (scrubbing bnd []) (291 + 2047 * 65536) 0) = none
      ∧ runs .retireRow (memAt (scrubbing bnd []) (291 + 2047 * 65536) 0) (fun t => (macroOf t 291).spares = [(2047, false)]) = true
      ∧ commitCode retired = none ∧ runs .commitRepair retired (fun t => rb t MEMINT_STAT_COMMIT_BUSY) = true
      ∧ (uncommitted retired)[0]? = some (291, 0, 5) ∧ (otpFree retired 896 64)[0]? = some 896
      ∧ (uncommitted retired).length ≤ (otpFree retired 896 64).length
      ∧ runs (.commitRepairDone []) (retired.raise MEMINT_STAT_COMMIT_BUSY)
          (fun t => otpRaw t 896 = 0x1000000000801523 && (macroOf t 291).spares = [(5, true)] && rf t MEMINT_CMD_STAT_RESULT = 1) = true := by
  decide +kernel

def boundsIn : State :=
  (memAt State.reset 0x10000000 232).tcmWrite 0x10000000 ([14, 16, 0, 0, 0, 0, 0, 0] ++ (List.range 14).flatMap fun c =>
    [BitVec.ofNat 8 c, 3, if c < 12 then 2 else 0, 4, 60, 0, 100, 0, 60, 0, 64, 0, 232, 3, 0, 0])

theorem witness_MemoryIntegrityActs_flip :
    boundsAddrOk (memAt State.reset 0x10000000 232) = true ∧ boundsAddrOk (memAt State.reset 0x10000000 231) = false
      ∧ (parseBounds (tcmRead boundsIn 0x10000000 232) (rf boundsIn SYSCTL_ID_DRAM_CAP)).isSome = true
      ∧ runs .applyBounds boundsIn (fun t => rb t MEMINT_STAT_BOUNDS_APPLIED && rf t (MEMINT_C_SCRUB_PERIOD_S 13) = 60) = true
      ∧ runs (.flipArm 0x10C) live (fun t => rb t MEMINT_FLIP_SEL_ARMED && rf t MEMINT_FLIP_SEL_CLASS = 12) = true
      ∧ runs (.flipArm 0x102) live (fun t => !rb t MEMINT_FLIP_SEL_ARMED) = true
      ∧ runs (.flipArm 0x10C) (live.raise MEMINT_CTRL_LOCK) (fun t => !rb t MEMINT_FLIP_SEL_ARMED && rf t MEMINT_FLIP_SEL_CLASS = 0) = true
      ∧ runs (.flipApply 2 0) ((live.raise MEMINT_FLIP_SEL_ARMED).setReg (MEMINT_FLIP_MASK 0) 0x10)
          (fun t => rf t MEMINT_FLIP_STAT_KIND = 1 && rf t MEMINT_FLIP_STAT_BIT = 4 && !rb t MEMINT_FLIP_SEL_ARMED) = true := by decide +kernel

theorem witness_MemoryIntegrityActs_scrub :
    macroClass 216 = 7 ∧ scrubbed (scrubbing bnd []) 7 = true ∧ 0 < (macroOf (scrubbing bnd []) 216).left
      ∧ runs (.scrubRow 7 216 2047 15 1 3 false) (scrubbing bnd []) (fun t => rf t MEMINT_LAST_ERR1_ROW = 2047 && ctr t (MEMINT_C_CE_LO 7) (MEMINT_C_CE_HI 7) = 1) = true
      ∧ runs (.scrubRow 7 216 5 0 2 0 false) (scrubbing bnd []) (fun t => rb t MEMINT_EVT_UE && (macroOf t 216).spares = [(5, false)]) = true
      ∧ runs (.scrubRow 5 23 127 31 2 0 false) (scrubbing bnd []) (fun t => t.mem.mailPoison = [4095]) = true
      ∧ runs (.scrubRow 7 216 5 0 3 0 false) (scrubbing bnd []) (fun t => rf t MEMINT_LAST_ERR0_KIND = 3) = true
      ∧ runs (.dramScrubLine 3 0 127 0 true true) ((scrubbing bnd []).setStage 127 (some ⟨1, 1, none, [], false⟩))
          (fun t => (stageOf t 127).map (·.poisoned) = some true) = true
      ∧ (extOf ((scrubbing bnd []).setExt 0 ext0) 0).valid = true := by decide +kernel

theorem witness_MemoryIntegrityActs_sweep :
    runs (.sweepEnd 7) (scrubbing bnd [(7, 2)]) (fun t => rf t (MEMINT_C_SCRUB_PERIOD_S 7) = 10 && rb t MEMINT_EVT_SCRUB_CLAMP) = true
      ∧ runs (.sweepEnd 7) (scrubbing bnd [(7, 1)]) (fun t => rf t (MEMINT_C_SCRUB_PERIOD_S 7) = 15 && rf t (MEMINT_C_SWEEP_LAST_E 7) = 1) = true
      ∧ runs (.sweepEnd 7) (scrubbing { bnd with adapt := false } []) (fun t => rf t (MEMINT_C_SCRUB_PERIOD_S 7) = 100) = true
      ∧ runs (.scrubOverrun 13) (scrubbing bnd []) (fun t => rb t MEMINT_EVT_SCRUB_OVERRUN) = true
      ∧ runs (.bucketLeak 13) (scrubbing bnd []) (fun t => rf t (MEMINT_C_SCRUB_BUCKET 13) = 0) = true := by decide +kernel

/-! ### Keys -/

/-- A copy whose tag is right under the slot-tag key `[1]`. -/
def kc (i md : Nat) : Copy := ⟨[], md, copyTag [1] [] md i, false⟩
/-- Slots 0 and 5 VALID with the given metadata. -/
def keyed (s : State) (m0 m5 : Nat) : State :=
  { s with keys := { s.keys with kt := [1], slots := [(0, { Slot.empty with c0 := kc 0 m0 }), (5, { Slot.empty with c0 := kc 5 m5 })] } }

theorem keyed_winner (s : State) (m0 m5 : Nat) (h0 : 1 ≤ mdType m0 ∧ mdType m0 ≤ 5) (h5 : 1 ≤ mdType m5 ∧ mdType m5 ≤ 5) :
    winner (keyed s m0 m5) 0 = some 0 ∧ winner (keyed s m0 m5) 5 = some 0 := by
  have e0 : slotOf (keyed s m0 m5) 0 = { Slot.empty with c0 := kc 0 m0 } := rfl
  have e5 : slotOf (keyed s m0 m5) 5 = { Slot.empty with c0 := kc 5 m5 } := rfl
  have z : mdType 0 = 0 := by decide
  unfold winner
  rw [e0, e5]
  simp [copyValid, Slot.empty, kc, Copy.empty, z, h0, h5]
  simp [keyed]

theorem keyed_state (s : State) (m0 m5 : Nat) (h0 : 1 ≤ mdType m0 ∧ mdType m0 ≤ 5) (h5 : 1 ≤ mdType m5 ∧ mdType m5 ≤ 5) :
    slotState (keyed s m0 m5) 0 = slVALID ∧ slotState (keyed s m0 m5) 5 = slVALID ∧ slotMdSeen (keyed s m0 m5) 5 = m5
      ∧ slotPublic (keyed s m0 m5) 5 = publicOf (mdType m5) [] := by
  have e0 : slotOf (keyed s m0 m5) 0 = { Slot.empty with c0 := kc 0 m0 } := rfl
  have e5 : slotOf (keyed s m0 m5) 5 = { Slot.empty with c0 := kc 5 m5 } := rfl
  obtain ⟨w0, w5⟩ := keyed_winner s m0 m5 h0 h5
  simp [slotState, slotMdSeen, slotMd, slotPublic, slotPayload, w0, w5, e0, e5, Slot.empty, Slot.copy, kc]

def keyRegs (a0 a1 a2 : Nat) : State :=
  (((live.setReg KEYS_CMD_ARG0 (BitVec.ofNat 32 a0)).setReg KEYS_CMD_ARG1 (BitVec.ofNat 32 a1)).setReg KEYS_CMD_ARG2
    (BitVec.ofNat 32 a2)).tcmWrite 0x10000000 [1, 0, 0, 0, 0x41]
/-- ARG0 for a new TYPE 0x1 key with DERIVE and MAC; a descriptor with the one-byte label "A" at ARG2. -/
def newKey : State := keyRegs 0x10C0 0 0x10000000
def mdMac : Nat := mkMd 0x2041 2 usMAC false 2
def mdDerive : Nat := mkMd 0x2042 1 usDERIVE false 2
def mdSign : Nat := mkMd 0x2043 4 usSIGN false 2

theorem witness_KeyCommandsAreDecided_new :
    generateCode newKey 63 = none ∧ generateCode newKey 4 = none ∧ anyLease (newKey.setF (wkFld 3) 63) 63 = true
      ∧ runs (.generate 63) newKey (fun t => rb t KEYS_STAT_CMD_BUSY && kmHold t 2 && !rb t KEYS_STAT_PENDING) = true
      ∧ runs (.generate 63) (newKey.setF (wkFld 3) 63) (fun t => rb t KEYS_STAT_PENDING && t.keys.cmd.map (·.stage) = some 0) = true
      ∧ runs (.generate 64) newKey (fun t => rf t KEYS_CMD_STAT_LAST_STATUS = 0xF) = true
      ∧ deriveSealedCode newKey 63 = none
      ∧ runs (.deriveSealed 63) newKey (fun t => t.keys.cmd.map (·.need) = some 12) = true
      ∧ eraseCode newKey 39 = none ∧ runs (.erase 39) newKey (fun t => rf t KEYS_CMD_STAT_LAST_STATUS = 0 && t.keys.cmd.isNone) = true
      ∧ eraseCode newKey 40 = none ∧ runs (.erase 40) newKey (fun t => t.keys.cmd.isSome) = true := by decide +kernel

theorem witness_KeyCommandsAreDecided_valid :
    loadWkCode (keyed live mdSign mdMac) 5 3 = none ∧ lockSlotCode (keyed live mdSign mdMac) 5 = none
      ∧ deriveCode (keyed newKey mdSign mdDerive) 6 5 = none ∧ publicCode (keyed newKey mdSign mdSign) 5 = none := by
  have k := keyed_state live mdSign mdMac (by decide) (by decide)
  have d := keyed_state newKey mdSign mdDerive (by decide) (by decide)
  have p := keyed_state newKey mdSign mdSign (by decide) (by decide)
  have z : rb (keyed live mdSign mdMac) KEYS_STAT_ZEROISED = false ∧ lockdown (keyed live mdSign mdMac) = false
      ∧ keyBusy (keyed live mdSign mdMac) = false ∧ rewriteWaits (keyed live mdSign mdMac) 5 = false
      ∧ wkInUse (keyed live mdSign mdMac) 3 = false ∧ early (keyed live mdSign mdMac) (keyIf.key opLOAD_WK) = false
      ∧ early (keyed live mdSign mdMac) (keyIf.key opLOCK_SLOT) = false := by decide +kernel
  have zd : keyBusy (keyed newKey mdSign mdDerive) = false ∧ arg0Ok (keyed newKey mdSign mdDerive) = true
      ∧ kdfDscOk (keyed newKey mdSign mdDerive) = true ∧ keyClosed (keyed newKey mdSign mdDerive) = false
      ∧ slotState (keyed newKey mdSign mdDerive) 6 = slEMPTY ∧ deriveDstBad (keyed newKey mdSign mdDerive) 6 = false
      ∧ early (keyed newKey mdSign mdDerive) (keyIf.key opDERIVE) = false := by decide +kernel
  have zp : keyBusy (keyed newKey mdSign mdSign) = false ∧ rb (keyed newKey mdSign mdSign) KEYS_STAT_ZEROISED = false
      ∧ outOk (keyed newKey mdSign mdSign) 97 = true ∧ early (keyed newKey mdSign mdSign) (keyIf.key opPUBLIC) = false := by decide +kernel
  have f : wkFits (keyed live mdSign mdMac) 5 3 = true := by unfold wkFits; rw [k.2.2.1]; decide
  have i : ∀ s : State, srcIx s 5 = 5 := fun _ => rfl
  refine ⟨?_, ?_, ?_, ?_⟩
  · simp [loadWkCode, firstCode, delayed, i, f, z, srcMalformed, srcNone, srcSealed, srcAmbiguous, srcBad, keySource, k, slVALID, slEMPTY, slBAD,
      slSEALED]
  · simp [lockSlotCode, firstCode, delayed, keyClosed, z, k]
  · have m : mdHas mdDerive usDERIVE = true := by decide
    simp [deriveCode, firstCode, delayed, i, zd, srcMalformed, srcNone, srcSealed, srcAmbiguous, srcBad, srcMd, keySource, d, m, slVALID, slEMPTY,
      slBAD, slSEALED]
  · have t : mdType mdSign = 4 := by decide
    simp [publicCode, firstCode, delayed, i, zp, srcMalformed, srcNone, srcAmbiguous, srcBad, srcMd, keySource, p, t, pubLen, slVALID,
      slEMPTY, slBAD]

/-- What R302 asks a TBSCertificate for slot 5 to hold, read where the slot is SEALED; its scalar is zero. -/
def tbs5 : List Byte :=
  let s := { live with keys := { live.keys with slots := [(5, { Slot.empty with isSealed := true, sealMd := mdSign })] } }
  spkiOf 4 (publicOf 4 []) ++ originExt s 5 ++ sigAlgDer
def certIn (bytes : List Byte) : State := (keyRegs 0x10001000 bytes.length 0x10000000).tcmWrite 0x10001000 bytes

theorem certify_accepted (s : State) (h0 : slotState s 0 = slVALID) (h5 : slotState s 5 = slVALID) (m : slotMdSeen s 5 = mdSign)
    (a : keyArg s 1 ≠ 0 ∧ keyArg s 1 ≤ 4096 ∧ inTcm (keyArg s 0) (keyArg s 1) = true ∧ outOk s 96 = true)
    (z : rb s KEYS_STAT_ZEROISED = false ∧ keyBusy s = false ∧ early s (keyIf.key opCERTIFY) = false)
    (b : tbsOk s 5 (tcmRead s (keyArg s 0) (keyArg s 1)) = true) : certifyCode s 5 = none := by
  have t : mdType mdSign = 4 := by decide
  simp [certifyCode, firstCode, delayed, h0, h5, m, a, z, t, b, Nat.not_lt.mpr a.2.1, slVALID, slEMPTY, slBAD, slSEALED]

theorem witness_KeyCommandsAreDecided_certify :
    tbsOk (keyed (certIn [0x30]) mdSign mdSign) 5 [0x30] = false ∧ slotState (keyed (certIn [0x30]) mdSign mdSign) 5 = slVALID
      ∧ certifyCode (keyed (certIn tbs5) mdSign mdSign) 5 = none := by
  have k := keyed_state (certIn [0x30]) mdSign mdSign (by decide) (by decide)
  have g := keyed_state (certIn tbs5) mdSign mdSign (by decide) (by decide)
  refine ⟨?_, k.2.1, certify_accepted _ g.1 g.2.1 g.2.2.1 (by decide +kernel) (by decide +kernel) ?_⟩
  · have c : countSub sigAlgDer [0x30] = 0 := by decide
    rw [tbsOk, c, Bool.and_eq_false_iff]
    exact .inr (by decide)
  · have r : tcmRead (keyed (certIn tbs5) mdSign mdSign) (keyArg (keyed (certIn tbs5) mdSign mdSign) 0)
        (keyArg (keyed (certIn tbs5) mdSign mdSign) 1) = tbs5 := by decide +kernel
    rw [r]
    unfold tbsOk originExt
    rw [g.2.2.1, g.2.2.2]
    decide +kernel

/-- Two SEALED slots hold one KEY_ID. -/
def twice : State :=
  let x := { Slot.empty with isSealed := true, sealMd := mkMd 7 1 usMAC false 2 }
  { keyRegs 0 7 0 with keys := { (keyRegs 0 7 0).keys with slots := [(5, x), (6, x)] } }
def engWk : State :=
  live.setEng 3 (some ⟨[0x39], 0x10000000, [[1], [], [], []], some (5, 2, []), 0, 0, 0, false⟩)
def l2Ready : State := stageAt .firmware { State.reset with keys := { State.reset.keys with cfg := some ([1, 2], 3) } }

theorem witness_KeyCommandsAreDecided_rest :
    slotsWithId twice (keyArg twice 1) = [5, 6] ∧ early twice (keyIf.key opLOAD_WK) = false
      ∧ runs (.loadWk 0xFF 3) twice (fun t => rf t KEYS_CMD_STAT_LAST_STATUS = 9 && rb t KEYS_EVT_AMBIGUOUS) = true
      ∧ clearWkCode engWk 3 = none ∧ wkInUse engWk 3 = true
      ∧ runs (.clearWk 3) engWk (fun t => (engOp t 3).map (fun o => (o.ends, o.clear)) = some (0xE, true) && wkInUse t 3) = true
      ∧ clearWkCode live 0 = none ∧ wkInUse live 0 = false ∧ runs (.clearWk 0) live (fun t => rf t KEYS_CMD_STAT_LAST_STATUS = 0) = true ∧ deriveL2Code l2Ready = none
      ∧ provisionCode ((State.reset.raise LODGE_STAT_VBAT_OK).setF LCS_STAT_STATE lcFACTORY) = none
      ∧ runs (.erase 63) (newKey.setF SYSCTL_MODE_MODE moLOCKDOWN) (fun t => rf t KEYS_CMD_STAT_LAST_STATUS = 4) = true
      ∧ arg0Ok (newKey.setF SYSCTL_MODE_MODE moLOCKDOWN) = true ∧ kdfDscOk (newKey.setF SYSCTL_MODE_MODE moLOCKDOWN) = true
      ∧ outOk (newKey.setF SYSCTL_MODE_MODE moLOCKDOWN) (pubLen (newType newKey)) = true := by decide +kernel

/-- A command of the key manager in progress. -/
def kmd (op stage taken : Nat) (ab : Bool) : KeyCmd := ⟨op, 39, 5, 0, [0x1000, 0, 0x10000000, 0], 4, taken, stage, 0, ab, false⟩
def kmRuns (s : State) (q : KeyCmd) : State :=
  { s with keys := { s.keys with cmd := some q, cfg := some ([1, 2], 3), l2Auto := some 0 } }

theorem witness_KeyCommandsRunAndCommit :
    runs .rewriteRelease (kmRuns live (kmd opERASE 0 0 false)) (fun t => t.keys.cmd.map (·.stage) = some 1 && kmHold t 2) = true
      ∧ anyLease (kmRuns (live.setF (wkFld 0) 39) (kmd opERASE 0 0 false)) 39 = true
      ∧ runs (.kmEngineTake 2) (kmRuns live (kmd opERASE 1 0 false)) (fun t => t.keys.cmd.map (·.taken) = some 4) = true
      ∧ engBusy (kmRuns engWk (kmd opERASE 1 0 false)) 3 = true
      ∧ runs .keysAbort (kmRuns live (kmd opERASE 1 0 false)) (fun t => t.keys.cmd.map (·.aborted) = some true) = true
      ∧ runs .keysAbort (kmRuns live (kmd opERASE 2 4 false)) (fun t => rf t KEYS_CMD_STAT_LAST_STATUS = 4) = true
      ∧ runs .keysCmdDone (kmRuns live (kmd opERASE 1 4 true)) (fun t => t.keys.cmd.isNone && rf t KEYS_CMD_STAT_LAST_STATUS = 0xE) = true
      ∧ (kmRuns live { kmd opGENERATE 2 4 false with dst := 40 }).keys.cmd.map (fun q => (q.stage, q.aborted)) = some (2, false)
      ∧ runs .keysCmdDone (kmRuns live (kmd opERASE 1 4 false)) (fun t => rf t KEYS_CMD_STAT_LAST_STATUS = 0 && t.keys.cmd.isNone) = true
      ∧ runs .keysCmdDone (kmRuns live (kmd opGENERATE 1 4 false)) (fun t => rf t KEYS_CMD_STAT_LAST_STATUS = 0x10) = true
      ∧ (cmdGone (kmRuns live (kmd opDERIVE 1 4 false)) (kmd opDERIVE 1 4 false)).isSome = true
      ∧ runs .keysCmdDone (kmRuns live (kmd opDERIVE 1 4 false)) (fun t => t.keys.cmd.isNone && rf t KEYS_CMD_STAT_LAST_STATUS ≠ 0) = true
      ∧ cmdGone (kmRuns live (kmd opERASE 1 4 false)) (kmd opERASE 1 4 false) = none
      ∧ deriveBlocked (kmRuns live (kmd opDERIVE_L2 1 0 false)) = false ∧ deriveBlocked (kmRuns engWk (kmd opDERIVE_L2 1 0 false)) = true
      ∧ runs .ks3AutoDerive (kmRuns engWk (kmd opDERIVE_L2 1 0 false)) (fun t => !rb t KEYS_STAT_L2_DONE && kmHold t 3) = true
      ∧ (State.takeItems 1 (kmRuns (live.modRng fun r => { r with queue := [[1]] }) (kmd opGENERATE 1 4 false))).1.isOk = true
      ∧ rb (kmRuns live (kmd opDERIVE_L2 1 4 false)) KEYS_STAT_L2_DONE = false := by decide +kernel

/-! ### Engines and the generator -/

/-- SHA-384 of four bytes at 0x10000100, its digest to 0x10000200; and the same with a bad flag. -/
def hashDesc (flags : Byte) : List Byte :=
  [0x38, 0, flags, 0] ++ leBytes 4 4 ++ leBytes 4 0 ++ leBytes 4 0x10000100 ++ leBytes 4 0 ++ leBytes 4 0 ++ leBytes 4 0 ++ leBytes 4 0x10000200
def hashIn : State := (live.tcmWrite 0x101FFFE0 (hashDesc 0)).setF (ENG_CMD_ADDR_ADDR 1) 0x101FFFE0
def addOp (ends pre : Nat) : EngOp :=
  { desc := [0x01, 0, 0, 0, 1, 0, 0, 0] ++ List.replicate 20 0 ++ leBytes 4 0x10000200, addr := 0x10000000
    args := [[7], [5], [9], []], wk := none, pre, ends, started := 0 }
def adding (ends pre : Nat) : State := live.setEng 0 (some (addOp ends pre))
def verifyOp : EngOp := { addOp 0 0 with desc := [0x11, 0, 2, 0] ++ List.replicate 28 0 }

theorem witness_EnginesRunOperations_start :
    engInBlk 1 3 = true ∧ tcmFree hashIn 0x101FFFE0 32 = true ∧ rf hashIn (ENG_CMD_ADDR_ADDR 1) = 0x101FFFE0 ∧ startRetry hashIn 3 = none
      ∧ early hashIn (engKey 1 3) = false ∧ early (hashIn.setKmHold 3 true) (engKey 1 3) = false
      ∧ early ((hashIn.delay (engKey 1 3) (some 2)).2) (engKey 1 3) = true
      ∧ runs (.engStart 1 3) ((hashIn.delay (engKey 1 3) (some 2)).2) (fun t => rf t (ENG_CMD_STAT_RESULT 1) = 2 && t.eng.isEmpty) = true
      ∧ runs (.engStart 1 3) hashIn (fun t => (engOp t 3).map (·.pre) = some 0 && (engOp t 3).map (·.args.length) = some 4) = true
      ∧ startRetry (hashIn.setKmHold 3 true) 3 = some 1
      ∧ runs (.engStart 1 3) (hashIn.setKmHold 3 true) (fun t => rf t (ENG_CMD_STAT_RESULT 1) = 1 && t.eng.isEmpty) = true
      ∧ runs (.engStart 0 3) hashIn (fun t => rf t (ENG_CMD_STAT_LAST_STATUS 0) = 0xF) = true
      ∧ engInBlk 0 0 = true ∧ runs (.engAbort 0 0) (adding 0 0) (fun t => engOp t 0 = some (addOp 0xE 0)) = true
      ∧ runs (.engAbort 1 3) hashIn (fun t => rf t (ENG_CMD_STAT_LAST_STATUS 1) = 4) = true := by decide +kernel

theorem witness_EnginesRunOperations_done :
    runs (.engDone 0 0) (adding 0 0) (fun t => tcmRead t 0x10000200 4 = [3, 0, 0, 0] && rf t (ENG_DONE_STATUS 0) = 0 && !engBusy t 0) = true
      ∧ runs (.engDone 0 0) (adding 0xE 0) (fun t => tcmByte t 0x10000001 = 0xE) = true
      ∧ runs (.engDone 0 0) (adding 0xA 0) (fun t => tcmByte t 0x10000001 = 0xA && rb t KEYS_EVT_REVOKED) = true
      ∧ runs (.engDone 0 0) (adding 0 0xB) (fun t => rf t (ENG_DONE_STATUS 0) = 0xB) = true
      ∧ runs (.engDone 0 0) (adding 0 7) (fun t => rf t (ENG_DONE_STATUS 0) = 7) = true
      ∧ runs (.engDone 0 1) (adding 0 0) (fun t => rf t (ENG_DONE_STATUS 0) = 0x12 && rb t (ENG_EVT_FAULT 0)) = true
      ∧ runs (.engDone 0 2) (adding 0 0) (fun t => rf t (ENG_DONE_STATUS 0) = 7) = true
      ∧ runs (.engDone 0 0) (live.setEng 0 (some { addOp 0 0 with args := [] })) (fun t => rf t (ENG_DONE_STATUS 0) = 0xF) = true
      ∧ (dscOp (hashDesc 0), dscOp verifyOp.desc) = (0x38, 0x11) := by decide +kernel

/-- Source 1 in a state, with failures counted. -/
def srcAt (st fails : Nat) : State := (live.setF (RNG_SRC_STAT_STATE 1) st).setF (RNG_SRC_STAT_FAILS 1) fails
def rngWith (dr seed : Nat) (q : List (List Byte)) : State :=
  ((((live.setF RNG_STAT_DRBG dr).setF RNG_STAT_SEED_BUF seed).raise SYSCTL_SPARE_STAT_VALID).modRng fun r => { r with queue := q }).raise
    RNG_STAT_CONDITIONING
def testing (p : Bool) (raw : List Bool) : State :=
  (srcAt srcTEST 0).modRng fun r => { r with test := some 1, pattern := p, raw := raw, fresh := 0 }
/-- A window one bit short of its end, with as many ones as zeros, and 1,024 bits that pass both tests. -/
def nearly : NoiseBits := ⟨1, true, true, 512, 1023, List.replicate 1023 true, []⟩
def goodBits : List Bool := patternBits 0xAAAAAAAA
/-- Sources 0 and 1 ACTIVE past their start-up tests, with a window each that is one bit short. -/
def seeding (dr : Nat) : State :=
  let s := ((rngWith dr 0 []).setF (RNG_SRC_STAT_STATE 0) srcACTIVE).setF (RNG_SRC_STAT_STATE 1) srcACTIVE
  s.modRng fun r => { r with fresh := 0, noise := [(0, nearly), (1, nearly)] }

theorem witness_GeneratorActs_sources :
    srcFresh (srcAt srcSPARE 0) 1 = true ∧ runs (.sourceStartupPass 1 goodBits) (srcAt srcSPARE 0) (fun t => srcState t 1 = srcACTIVE) = true
      ∧ startupOk goodBits = true ∧ startupOk (goodBits.drop 1) = false ∧ srcAllowed (srcAt srcSPARE 0) 1 = true
      ∧ runs (.sourceStartupPass 1 goodBits) (srcAt srcRETEST 0) (fun t => srcState t 1 = srcSPARE) = true
      ∧ runs (.sourceStartupPass 1 (goodBits.drop 1)) (srcAt srcRETEST 0) (fun t => srcState t 1 = srcRETEST) = true
      ∧ runs (.healthFail 1 []) (testing true []) (fun t => rb t RNG_EVT_TP_TRIP) = true
      ∧ runs (.healthFail 1 []) ((testing true []).setF RNG_CMD_ARG_PATTERN 0xAAAAAAAA) (fun t => !rb t RNG_EVT_TP_TRIP) = true
      ∧ ((noiseOf (seeding drREADY) 1).feed (List.replicate 80 false) true).2 = none
      ∧ ((noiseOf (seeding drREADY) 1).feed (List.replicate 82 false) true).2 = some 0
      ∧ runs (.healthFail 1 (List.replicate 80 false)) (seeding drREADY) (fun t => srcState t 1 = srcACTIVE && (noiseOf t 1).win = 79) = true
      ∧ runs (.healthFail 1 (List.replicate 81 true)) ((srcAt srcACTIVE 0).modRng fun r => { r with fresh := 0 }) (fun t => srcState t 1 = srcRETEST) = true
      ∧ runs (.healthFail 1 (List.replicate 81 true)) ((srcAt srcACTIVE 1).modRng fun r => { r with fresh := 0 })
          (fun t => srcState t 1 = srcFAILED && rb t RNG_EVT_RETIRED) = true
      ∧ runs (.seedReady [[false], [false]]) (seeding drREADY)
          (fun t => rb t RNG_STAT_SEED_BUF && (noiseOf t 0).buf.length = 512 && (noiseOf t 0).win = 0) = true
      ∧ runs (.seedReady [[], [false]]) (seeding drREADY) (fun t => !rb t RNG_STAT_SEED_BUF && (noiseOf t 0).win = 1023) = true
      ∧ runs (.seedReady [[false], [false]]) ((seeding drREADY).raise RNG_STAT_SEED_BUF)
          (fun t => (noiseOf t 0).buf.length = 512 && t.rng.seed = (seeding drREADY).rng.seed) = true
      ∧ runs (.seedReady [[false], [false]]) (seeding drSTRETCHED) (fun t => drbgState t = drREADY && !rb t RNG_STAT_SEED_BUF) = true
      ∧ runs (.healthFail 1 (List.replicate 82 false)) (seeding drREADY)
          (fun t => noiseOf t 1 = { NoiseBits.start with buf := List.replicate 1023 true ++ [false] } && noiseOf t 0 = nearly) = true
      ∧ runs (.drbgReady true) (rngWith drINIT 1 []) (fun t => drbgState t = drREADY) = true
      ∧ runs (.drbgReady false) (rngWith drINIT 1 []) (fun t => drbgState t = drSTOPPED && rb t RNG_STAT_KAT_FAIL) = true := by decide +kernel

theorem witness_GeneratorActs_items :
    (rngWith drREADY 0 []).rng.since + 1 < reseedInt (rngWith drREADY 0 [])
      ∧ runs .drbgGenerate (rngWith drREADY 0 []) (fun t => t.rng.queue.length = 1) = true
      ∧ runs .drbgGenerate (rngWith drREADY 0 (List.replicate 64 [])) (fun t => t.rng.queue.length = 64) = true
      ∧ runs .rngFlush (rngWith drREADY 0 [[1]]) (fun t => t.rng.queue.isEmpty && t.rng.flushed) = true
      ∧ runs .reseed (rngWith drREADY 1 []) (fun t => t.rng.asked) = true
      ∧ runs .reseed (rngWith drREADY 0 []) (fun t => t.out = .retry 1 && rf t RNG_CMD_STAT_LAST_STATUS = 1) = true
      ∧ runs .reseed (rngWith drSTOPPED 1 []) (fun t => rf t RNG_CMD_STAT_LAST_STATUS = 4) = true
      ∧ testOk ((srcAt srcSPARE 0).setF LCS_STAT_STATE 1) 1 = true ∧ testOk (srcAt srcSPARE 0) 1 = false
      ∧ runs (.rawMode 1) ((srcAt srcSPARE 0).setF LCS_STAT_STATE 1) (fun t => srcState t 1 = srcTEST) = true
      ∧ runs (.testPattern 1) ((srcAt srcSPARE 0).setF LCS_STAT_STATE 1) (fun t => t.rng.pattern) = true
      ∧ runs .stopTest (testing true []) (fun t => srcState t 1 = srcRETEST && t.rng.test.isNone) = true := by decide +kernel

/-- Firmware's reads: a flush not yet read, word 11 of an item, and queues of one and two items beside a reserve of one. -/
def rngRead (fl : Bool) (w : Nat) (q : List (List Byte)) : State :=
  ((rngWith drREADY 0 q).modRng fun r => { r with flushed := fl, item := [1, 0, 0, 0] ++ List.replicate 44 0 }).setF RNG_OUT_STAT_WORD w
    |>.setF RNG_CFG_FW_RESERVE 1
    |>.raise RNG_CTRL_LOCK

theorem witness_GeneratorActs_reads :
    runs .rngDataRead (rngRead true 0 []) (fun t => t.out = .word 0 && rb t RNG_OUT_STAT_FLUSHED) = true
      ∧ runs .rngDataRead (rngRead false 11 []) (fun t => t.out = .word 0x1000000 && rf t RNG_OUT_STAT_WORD = 0 && rf t RNG_OUT_STAT_STATUS = 0) = true
      ∧ runs .rngDataRead (rngRead false 10 []) (fun t => rf t RNG_OUT_STAT_WORD = 11 && rf t RNG_OUT_STAT_STATUS = 0x10) = true
      ∧ fwReserve (rngRead false 0 [[1]]) = 1
      ∧ runs .rngDataRead (rngRead false 0 [[1], [2]]) (fun t => t.out = .word 1 && t.rng.queue = [[2]]) = true
      ∧ runs .rngDataRead (rngRead false 0 [[1]]) (fun t => t.out = .word 0 && rf t RNG_OUT_STAT_STATUS = 0x10) = true
      ∧ runs (.rngRawRead [true, false]) (testing false (List.replicate 31 true)) (fun t => t.out = .word 0xFFFFFFFF && t.rng.raw = [false]) = true
      ∧ runs (.rngRawRead [true]) (testing false (List.replicate 30 true)) (fun t => t.out = .word 0 && rb t RNG_OUT_STAT_RAW_EMPTY) = true
      ∧ runs (.rngRawRead (List.replicate 8193 true)) (testing false []) (fun t => rb t (RNG_SRC_STAT_RAW_LOST 1)) = true
      ∧ runs .internalRngRequest (rngRead false 0 [[1]]) (fun t => t.out = .code .ok && t.rng.queue.isEmpty) = true
      ∧ runs .internalRngRequest (rngWith drSTOPPED 0 []) (fun t => t.out = .code .notReady) = true := by decide +kernel

/-! ### The Kiosk -/

def acc1 : Access := ⟨1, 0, 7⟩
/-- Tenant 511 reaches the BAR as requester 7, bound to domain 0. -/
def tbe511 (perm : Nat) : Tbe := ⟨511, 1, 0, 7, 0, perm, 0⟩
def tenant (perm gen : Nat) : State :=
  ((domAt 0 stRELEASED).modKiosk fun k => { k with tbt := [tbe511 perm], tokens := [(511, tokenUnit, 0)] }).setF (TN_GEN_GEN 511) gen
/-- Without power lines a domain is powered. -/
def powered0 (gen : Nat) : State := (tenant 7 gen).modBoot fun b => { b with cfg := { b.cfg with pcls := [] } }
def boxAt (ph : Nat) : State :=
  ((tenant 7 1).setBox 511 ⟨ph, 0x100000FF, 1, 0x12345678, 5, none⟩).raise (TN_STAT_REQ_FULL 511)

theorem witness_KioskServesTenants_requests :
    bound (tenant 7 1) acc1 511 = some (tbe511 7) ∧ bound (tenant 7 1) ⟨1, 0, 8⟩ 511 = none
      ∧ runs (.service ⟨1, 0, 8⟩ 511 0x10 0 0) (tenant 7 1) (fun t => rb t KIOSK_EVT_UNBOUND) = true
      ∧ runs (.service acc1 511 0x10 0 0) ((tenant 7 1).raise (TN_STAT_REQ_FULL 511)) (fun t => rb t (TN_STAT_OVERRUN 511)) = true
      ∧ kioskCode (tenant 0 1) (tbe511 0) 0x10 0xFF 1 false = some .refusedPolicy
      ∧ runs (.service acc1 511 0x10 0xFF 0) (tenant 0 1) (fun t => reg t (TN_RSP 511) = 0x03100000 && !rb t (TN_STAT_REQ_FULL 511)) = true
      ∧ runs (.service acc1 511 0x80 0 0) (tenant 7 1) (fun t => reg t (TN_RSP 511) = 0x0F800000) = true
      ∧ kopService 0x7F = true ∧ kioskCode (powered0 1) (tbe511 7) 0x7F 0 1 (quotaOut (powered0 1) 511) = none
      ∧ runs (.service acc1 511 0x7F 0 9) (powered0 1) (fun t => (box t 511).phase = 1 && rb t KIOSK_EVT_REQ_PEND) = true
      ∧ domExists (tenant 7 1) 0 = true ∧ kioskCode (tenant 7 1) (tbe511 7) kopSTATE 0 1 (quotaOut (tenant 7 1) 511) = none
      ∧ runs (.kioskState acc1 511 0 0) (tenant 7 1) (fun t => bitsAt (reg t (TN_RSP 511)).toNat 0 3 = stRELEASED) = true := by decide +kernel

theorem witness_KioskServesTenants_control :
    kioskCode (tenant 7 1) (tbe511 7) kopHOLD 0 1 (quotaOut (tenant 7 1) 511) = none
      ∧ kioskCode (tenant 7 1) (tbe511 7) kopRESET 0 1 (quotaOut (tenant 7 1) 511) = none
      ∧ runs (.kioskHold acc1 511 0 0) (tenant 7 1) (fun t => domState t 0 = stHELD && rf t (TN_RSP_STATUS 511) = 0) = true
      ∧ runs (.kioskResetCycle acc1 511 0 0) (tenant 7 1) (fun t => (domX t 0).seq = .pulse && rf t (TN_RGEN_GEN 511) = domGen t 0) = true
      ∧ runs (.kioskHold acc1 511 0 0) (tenant 7 9) (fun t => rf t (TN_RSP_STATUS 511) = 5 && domState t 0 = stRELEASED) = true := by decide +kernel

theorem witness_KioskServesTenants_replies :
    runs (.replyPlace 511) (boxAt 3) (fun t => reg t (TN_RSP 511) = 0x12345678 && box t 511 = Box.init && rf t (TN_RGEN_GEN 511) = 5) = true
      ∧ runs (.tnRspRead acc1 511) (((tenant 7 1).setReg (TN_RSP 511) 9).raise (TN_STAT_RSP_FULL 511))
          (fun t => t.out = .word 9 && reg t (TN_RSP 511) = 0 && rb t KIOSK_EVT_RSP_TAKEN) = true
      ∧ runs (.tnDbInWrite acc1 511 6) (tenant 7 1) (fun t => rf t (TN_DB_IN_BITS 511) = 6) = true
      ∧ (tbe511 3).permService = false ∧ runs (.tnDbInWrite acc1 511 6) (tenant 3 1) (fun t => rf t (TN_DB_IN_BITS 511) = 0) = true
      ∧ nextTaken (boxAt 1) = some 511 ∧ nextTaken (tenant 7 1) = none
      ∧ runs .kioskTakeRead ((tenant 7 1).modKiosk fun k => { k with credit := 9 }) (fun t => t.out = .word 0 && t.kiosk.credit = 0) = true
      ∧ takesAgain ((boxAt 1).modKiosk fun k => { k with lastTn := 511, credit := 1 }) = true
      ∧ runs .kioskTakeRead (boxAt 1) (fun t => t.out = .word 0x800001FF && rf t KIOSK_SEL_TN = 511 && (box t 511).phase = 2) = true
      ∧ runs .kioskTakeRead (boxAt 2) (fun t => t.out = .word 0) = true
      ∧ runs (.kioskReplyWrite 0x22) ((boxAt 2).setF KIOSK_SEL_TN 511) (fun t => reg t (TN_RSP 511) = 0x22) = true
      ∧ runs (.kioskReplyWrite 0x22) ((boxAt 1).setF KIOSK_SEL_TN 511) (fun t => rb t KIOSK_EVT_REPLY_ORPHAN) = true
      ∧ runs (.kioskDbOutWrite 0x10) ((tenant 7 1).setF KIOSK_SEL_TN 511) (fun t => rb t (TN_STAT_DB_OUT_PEND 511)) = true := by decide +kernel

/-- Transport settings with an SMBus Kiosk port 7, and a table of one entry in TCM. -/
def setts : Settings :=
  { pcieEn := true, pcieEid := 0, txMtu := 64, ports := List.replicate 7 ⟨0, 0, 0, 0⟩ ++ [⟨0x83, 0x20, 0, 0⟩], espiEid := 0, hbeat := 0, reasmMs := 100
    sessions := 4 }
def tbtIn : State :=
  ((State.reset.modBoot fun b => { b with cfg := { b.cfg with settings := some setts, doms := [dom0] } }).tcmWrite 0x10000000
    [1, 0, 16, 0, 0, 0, 0, 0, 0xFF, 1, 1, 0, 7, 0, 0, 7, 0, 0, 0, 0, 0, 0, 0, 0]).setF KIOSK_CMD_ADDR_ADDR 0x10000000

theorem witness_KioskServesTenants_rest :
    timersRun (boxAt 2) = true ∧ mailPoisoned (boxAt 2) 511 8 = false
      ∧ runs (.takenRequestTimeout 511) (boxAt 2) (fun t => reg t (TN_RSP 511) = 0x11100000 && rb t KIOSK_EVT_REQ_TIMEOUT) = true
      ∧ runs (.pendingRequestTimeout 511) (boxAt 1) (fun t => reg t (TN_RSP 511) = 0x01100064) = true
      ∧ timersRun ((boxAt 2).raise KIOSK_STAT_PAUSE) = false
      ∧ runs (.applyTbt 24) tbtIn (fun t => t.kiosk.tbt.length = 1 && rf t KIOSK_CMD_STAT_LAST_STATUS = 0) = true
      ∧ runs (.applyTbt 24) (tbtIn.setF SYSCTL_MODE_MODE moSERVE) (fun t => rf t KIOSK_CMD_STAT_LAST_STATUS = 4) = true
      ∧ (tbtAt (tbtIn.setF SYSCTL_MODE_MODE moSERVE) 24).isOk = true ∧ (tbtAt live 24).isOk = false
      ∧ runs (.applyTbt 24) (live.setF KIOSK_CMD_ADDR_ADDR 0x10000000) (fun t => rf t KIOSK_CMD_STAT_LAST_STATUS = 0xF) = true
      ∧ early (boxAt 1) (kioskKey 511 0x10) = false
      ∧ kioskPort { live with mtrans := { live.mtrans with settings := some setts } } 7 = some ⟨3, 7, 0xFFFF⟩
      ∧ runs (.smbusBlockWrite 7 0 0 0 false) { live with mtrans := { live.mtrans with settings := some setts } }
          (fun t => ctr t MTRANS_PEC_ERR_LO MTRANS_PEC_ERR_HI = 1 && t.out = .nack) = true := by decide +kernel

/-! ### Management transports -/

def mtUp : State := ((((State.reset.portsUp setts).raise MTRANS_STAT_APPLIED).setF MTRANS_RX_BASE_ADDR 0x10000000).setF SYSCTL_MODE_MODE moSERVE).setF (MTRANS_I3C_STAT_EID 7) 0x33
def pkt (som eom : Bool) (seq : Nat) (data : List Byte) : Packet := ⟨8, 255, 0x33, 0x11, 5, true, som, eom, seq, data, false⟩
def ctx1 (n : Nat) : Ctx := ⟨8, 255, 0x11, true, 5, List.replicate n 0, 1, false⟩
def mtCtx (n : Nat) : State := mtUp.modMt fun m => { m with ctxs := [ctx1 n] }
def mtDone : State := mtUp.modMt fun m => { m with ctxs := [{ ctx1 4 with done := true }] }
/-- A message of five bytes to EID 0x11 on port 8, in TCM. -/
def mtTx : State := (mtUp.tcmWrite 0x10000000 [5, 0, 8, 0x11, 0, 0, 0, 0, 0, 0, 0, 0, 0, 0, 0, 0, 1, 2, 3, 4, 5]).setF MTRANS_TX_ADDR_ADDR 0x10000000
def mtSending (n : Nat) : State := mtUp.modMt fun m => { m with tx := some ⟨8, 0x11, 0xFF, 0, [[1, 2]], false, n⟩ }
/-- The same message on a port whose bank is suspended. -/
def mtOff : State := (mtSending 0).modBoot fun b => { b with floated := 2 ^ bankMGB }
/-- Valid settings in TCM: PCIe with EID 8 and a unit of 64, port 7 an SMBus target. -/
def settIn : State :=
  ((State.reset.modBoot fun b => { b with cfg := { b.cfg with banks := List.replicate 23 1 } }).tcmWrite 0x10000000 ([1, 8, 64, 0, 0, 0, 0, 0] ++ (List.replicate 7 [0, 0x20, 0, 0]).flatten ++ [3, 0x20, 0x33, 0] ++ [0, 0, 100, 0, 4, 0]
    ++ List.replicate 18 0)).setF MTRANS_CMD_ADDR_ADDR 0x10000000

theorem witness_ManagementTransportActs :
    (settingsAt settIn).isSome = true ∧ inTcm (rf settIn MTRANS_CMD_ADDR_ADDR) 64 = true ∧ mode settIn = moASSEMBLY
      ∧ runs .applySettings settIn (fun t => rb t MTRANS_STAT_APPLIED && rf t (MTRANS_I3C_STAT_EID 7) = 0x33 && rb t MTRANS_STAT_PCIE_EN) = true
      ∧ (settingsAt (settIn.raise MTRANS_STAT_APPLIED)).isSome = true
      ∧ runs .applySettings (settIn.raise MTRANS_STAT_APPLIED) (fun t => rf t MTRANS_CMD_STAT_LAST_STATUS = 4) = true
      ∧ runs .applySettings (mtUp.setF MTRANS_CMD_ADDR_ADDR 0x10000000) (fun t => rf t MTRANS_CMD_STAT_LAST_STATUS = 0xF) = true
      ∧ (settingsAt (mtUp.setF MTRANS_CMD_ADDR_ADDR 0x10000000)).isNone = true ∧ early mtTx (mtIf.key 2) = false
      ∧ (txAt mtTx).isSome = true ∧ runs .send mtTx (fun t => t.mtrans.tx = some ⟨8, 0x11, 0, 0, [[1, 2, 3, 4, 5]], false, 0⟩) = true
      ∧ (txAt (mtTx.setF MTRANS_STAT_APPLIED 0)).isSome = true
      ∧ runs .send (mtTx.setF MTRANS_STAT_APPLIED 0) (fun t => rf t MTRANS_CMD_STAT_LAST_STATUS = 4) = true
      ∧ runs .send State.reset (fun t => rf t MTRANS_CMD_STAT_LAST_STATUS = 0xF) = true
      ∧ runs .send (mtTx.modMt fun m => { m with tx := (mtSending 0).mtrans.tx }) (fun t => rf t MTRANS_CMD_STAT_LAST_STATUS = 1) = true
      ∧ runs (.sendDone true) (mtSending 0) (fun t => t.out = .mctp 8 0x11 0xFF 0 [[1, 2]] false && t.mtrans.tx.isNone) = true
      ∧ runs (.sendDone false) (mtSending 0) (fun t => rf t MTRANS_CMD_STAT_LAST_STATUS = 17) = true
      ∧ mctpLive (mtSending 0) 8 0xFF = true ∧ mctpLive mtOff 8 0xFF = false ∧ runs (.sendDone true) mtOff (fun t => t.mtrans.tx.isSome) = true
      ∧ runs .arbitrationRetry (mtSending 3) (fun t => t.mtrans.tx.isSome) = true
      ∧ runs .arbitrationRetry (mtSending 4) (fun t => t.mtrans.tx.isNone && ctr t MTRANS_ARB_DROP_LO MTRANS_ARB_DROP_HI = 1) = true
      ∧ runs (.smbTimeout 7) mtUp (fun t => rb t (MTRANS_I3C_STAT_TIMEOUT_SEEN 7) && rb t MTRANS_EVT_SMB_TIMEOUT) = true := by decide +kernel

theorem witness_ManagementTransportActs_control :
    mctpLive mtUp 0 255 = true ∧ mctpLive mtUp 8 255 = true ∧ mctpLive mtUp 9 255 = true ∧ mctpLive mtOff 8 255 = false
      ∧ runs (.setEndpointId ⟨0, 9⟩ 0xFE) mtUp (fun t => rf t MTRANS_EID_PCIE_EID = 0xFE && rb t MTRANS_EVT_EID_SET) = true
      ∧ runs (.setEndpointId ⟨9, 9⟩ 8) mtUp (fun t => rf t MTRANS_EID_ESPI_EID = 8) = true
      ∧ runs (.getEndpointId ⟨8, 9⟩) mtUp (fun t => t.out = .reply .ok [0x33]) = true
      ∧ runs (.getMessageTypeSupport ⟨8, 9⟩) mtUp (fun t => t.out = .reply .ok [0, 1, 5, 6, 0x7F]) = true
      ∧ runs (.getVendorDefinedMsgSupport ⟨8, 9⟩ 0) mtUp (fun t => t.out = .reply .ok [0xFF, 0, 0, 0xFD, 0x95]) = true
      ∧ runs (.endpointDiscovery ⟨0, 9⟩) mtUp (fun t => t.out = .reply .ok []) = true
      ∧ runs (.endpointDiscovery ⟨8, 9⟩) mtUp (fun t => t.out = .unsupportedCmd) = true := by decide +kernel

theorem witness_PacketsAreReassembled :
    runs (.mctpPacket { pkt true true 0 [0] with bad := true }) mtUp (fun t => ctr t MTRANS_PEC_ERR_LO MTRANS_PEC_ERR_HI = 1) = true
      ∧ runs (.mctpPacket { pkt true true 0 [0] with dest := 0x34 }) mtUp (fun t => ctr t MTRANS_UNKNOWN_SRC_LO MTRANS_UNKNOWN_SRC_HI = 1) = true
      ∧ runs (.mctpPacket (pkt true false 3 [5])) mtUp
          (fun t => t.mtrans.ctxs = [⟨8, 255, 0x11, true, 5, [5], 0, false⟩] && rf t MTRANS_STAT_REASM_USED = 1) = true
      ∧ runs (.mctpPacket (pkt true false 0 [5])) (mtUp.modMt fun m => { m with ctxs := List.replicate 32 { ctx1 0 with tag := 4 } })
          (fun t => rb t MTRANS_STAT_REASM_FULL) = true
      ∧ inTcm (rf mtUp MTRANS_RX_BASE_ADDR + slotSize * ringHead mtUp) slotSize = true ∧ ringFull mtUp = false ∧ mctpTenant mtUp ⟨8, 0x11⟩ = none
      ∧ runs (.mctpPacket (pkt true true 0 [0, 0x81, 2])) mtUp (fun t => rf t MTRANS_RX_PTR_HEAD = 1 && t.mtrans.ctxs = []
          && tcmRead t 0x10000000 19 = [3, 0, 8, 0x11, 13, 255, 0xFF, 0xFF, 0, 0, 0, 0, 0, 0, 0, 0, 0, 0x81, 2]) = true := by decide +kernel

theorem witness_PacketsAreReassembled_sequence :
    runs (.mctpPacket (pkt false false 0 [5])) mtUp (fun t => t.mtrans.ctxs = []) = true
      ∧ ctxOf (mtCtx 3) 8 0x11 5 true = some (ctx1 3)
      ∧ runs (.mctpPacket (pkt false false 1 [5])) (mtCtx 3) (fun t => t.mtrans.ctxs.map (fun c => (c.data, c.seq)) = [([0, 0, 0, 5], 2)]) = true
      ∧ runs (.mctpPacket (pkt false false 2 [5])) (mtCtx 3) (fun t => t.mtrans.ctxs = [] && rb t MTRANS_EVT_DROP) = true
      ∧ runs (.reassemblyTimeout 8 0x11 5 true) (mtCtx 3) (fun t => ctr t MTRANS_REASM_DROP_LO MTRANS_REASM_DROP_HI = 1) = true
      ∧ runs (.rxSlotFree 9) (mtCtx 3) (fun t => rf t MTRANS_RX_PTR_TAIL = 9) = true
      ∧ ctxTn mtDone { ctx1 4 with done := true } < 513
      ∧ runs (.rxSlotFree 9) mtDone (fun t => rf t MTRANS_RX_PTR_HEAD = 1 && t.mtrans.ctxs = []) = true := by decide +kernel

/-- The message of 4,224 bytes is at the limit; one more byte is beyond it. -/
theorem witness_PacketsAreReassembled_length :
    ctxOf (mtCtx 4224) 8 0x11 5 true = some (ctx1 4224) ∧ (List.replicate 4224 (0 : Byte) ++ []).length = 4224
      ∧ (List.replicate 4224 (0 : Byte) ++ [5]).length = 4225 :=
  ⟨rfl, by rw [List.length_append, List.length_replicate]; rfl, by rw [List.length_append, List.length_replicate]; rfl⟩

/-! ### Vendor messages and owner requests -/

def o11 : Origin := ⟨8, 0x11⟩
def own (perm : Nat) : Tbe := ⟨3, 4, 8, 0x11, 0, perm, 0⟩
/-- Tenant 3 sends on port 8 from EID 0x11; domain 0 is HELD. -/
def mtSt (perm : Nat) : State := (domAt 0 stHELD).modKiosk fun k =>
  { k with tbt := [own perm], outcomes := [(3, ⟨4, 0, 5, 0x81⟩)], nonces := [(3, List.replicate 32 9, 0)] }
/-- The same with an item in the DRBG's queue. -/
def mtRng : State := (mtSt 0x3F).modRng fun r => { r with queue := [List.range 48 |>.map (BitVec.ofNat 8)] }
/-- OWNED, with one owner key whose digest is zero. -/
def ownSt : State := ((mtSt 0x3F).setF LCS_STAT_STATE lcOWNED).setF LODGE_STAT_VBAT_OK 1 |> fun s =>
  { s with otp := { s.otp with keys := [some ⟨7, List.replicate 48 0, false⟩] } }
def gxp : Nat := 0xAA87CA22BE8B05378EB1C71EF320AD746E1D3B628BA79B9859F741E082542A385502F25DBF55296C3A545E3872760AB7
def gyp : Nat := 0x3617DE4A96262C6F5D9E98BF9292DC29F8F41DBD289A147CE9DA3113B5F0B8C00A60B1CE1D7E819D7A431D7C90EA0E5F
/-- An owner request whose digests are zero: the key's point is the base point, the nonce of the signature 1. -/
def ownMsg (op dom : Nat) : List Byte :=
  let z (n : Nat) : List Byte := List.replicate n 0
  leBytes 1 op ++ leBytes 1 dom ++ z 2 ++ leBytes 4 1 ++ leBytes 4 7 ++ z 4 ++ List.replicate 32 9
    ++ leBytes 2 164 ++ leBytes 2 96 ++ leBytes 2 1456 ++ z 2 ++ leBytes 1 2 ++ z 1 ++ leBytes 2 60
    ++ leBytes 1 4 ++ beBytes 48 gxp ++ beBytes 48 gyp ++ z 3 ++ beBytes 4 1 ++ beBytes 4 6 ++ beBytes 4 4 ++ z 48
    ++ beBytes 48 gxp ++ beBytes 48 gxp ++ z 11 ++ [4] ++ z 1123 ++ [6] ++ z 320

theorem witness_VendorAndOwnerRequests_vendor :
    mctpTenant mtRng o11 = some (own 0x3F) ∧ mode mtRng ≠ moASSEMBLY ∧ mctpTenant mtRng ⟨8, 0x12⟩ = none
      ∧ runs (.getNonce ⟨8, 0x12⟩) mtRng (fun t => ctr t MTRANS_UNKNOWN_SRC_LO MTRANS_UNKNOWN_SRC_HI = 1) = true
      ∧ (own 0).permService = false ∧ (own 0x3F).permService = true ∧ (match mtRng.takeItem with | (.ok _, _) => true | _ => false) = true
      ∧ runs (.getNonce o11) mtRng (fun t => t.out = .reply .ok (beBytes 4 64917 ++ [2, 0] ++ (List.range 32).map (BitVec.ofNat 8)) && t.kiosk.nonces.length = 1) = true
      ∧ runs (.getOutcome o11) mtRng (fun t => t.out = .reply .ok (beBytes 4 64917 ++ [4, 0] ++ [4, 0, 0, 5, 0x81])) = true
      ∧ firstCode (kioskEarly mtRng 0x10 0xFF 0) = none
      ∧ runs (.vendorKiosk o11 4 0x10FF0000 0) mtRng (fun t => t.out = .reply .refusedPolicy (beBytes 4 64917 ++ [1, 3, 0, 0])) = true
      ∧ runs (.vendorKiosk o11 4 0 0) mtRng (fun t => t.out = .reply .malformed (beBytes 4 64917 ++ [1, 0xF, 0, 0])) = true
      ∧ runs (.getNonce ⟨8, 0x12⟩) (mtRng.modBoot fun b => { b with stage := .recovery }) (fun t => t.out = .reply .refusedState (beBytes 4 64917 ++ [2, 4, 0, 0])) = true
      ∧ bound mtRng ⟨4, 8, 0x11⟩ 3 = some (own 0x3F)
      ∧ kioskCode (mtRng.setF (TN_GEN_GEN 3) 9) (own 0x3F) 2 0 9 false = some .stale
      ∧ runs (.vendorKiosk o11 3 0x02000000 9) mtRng
          (fun t => t.out = .reply .ok (beBytes 4 64917 ++ [1, 0] ++ leBytes 4 0x05020000 ++ leBytes 4 (boundGen mtRng 3)) && t.kiosk.sent = []) = true
      ∧ (own 0).permService = false
      ∧ runs (.vendorKiosk o11 3 0x10FF0000 0) (mtSt 0) (fun t => t.out = .reply .refusedPolicy (beBytes 4 64917 ++ [1, 3, 0, 0])) = true
      ∧ runs (.vendorKiosk o11 3 0x10FF0000 0) (mtRng.setF SYSCTL_MODE_MODE moLOCKDOWN) (fun t => t.out = .reply .refusedState (beBytes 4 64917 ++ [1, 4, 0, 0])) = true := by decide +kernel

/-- Domain 0 is released without power lines, so that a request of tenant 3 passes every check. -/
def mtRel : State := ((mtSt 0x3F).setF (GATE_DOM_STAT_STATE 0) stRELEASED).modBoot fun b => { b with cfg := { b.cfg with pcls := [] } }

theorem witness_VendorAndOwnerRequests_kiosk :
    bound mtRel ⟨4, 8, 0x11⟩ 3 = some (own 0x3F) ∧ lockdown mtRel = false ∧ rb mtRel (TN_STAT_REQ_FULL 3) = false
      ∧ ([kopSTATE, kopHOLD, kopRESET, 0x10].all fun op =>
        (kioskCode (mtRel.setF (TN_GEN_GEN 3) (boundGen mtRel 3)) (own 0x3F) op 0 (boundGen mtRel 3) false).isNone) = true
      ∧ runs (.vendorKiosk o11 3 (kopSTATE * 2 ^ 24) (boundGen mtRel 3)) mtRel
          (fun t => t.out = .reply .ok (beBytes 4 64917 ++ [1, 0] ++ leBytes 4 (rspWord .ok kopSTATE (mtRel.stateData 0).1) ++ leBytes 4 (boundGen mtRel 3))) = true
      ∧ runs (.vendorKiosk o11 3 (kopHOLD * 2 ^ 24) (boundGen mtRel 3)) mtRel
          (fun t => domState t 0 = stHELD && t.out = .reply .ok (beBytes 4 64917 ++ [1, 0] ++ leBytes 4 (rspWord .ok kopHOLD 0) ++ leBytes 4 (boundGen t 3))) = true
      ∧ runs (.vendorKiosk o11 3 (kopRESET * 2 ^ 24) (boundGen mtRel 3)) mtRel (fun t => rf t (TN_RSP_STATUS 3) = 0 && (domX t 0).seq = .pulse) = true
      ∧ runs (.vendorKiosk o11 3 0x10000000 (boundGen mtRel 3)) mtRel (fun t => (box t 3).phase = 1 && rb t KIOSK_EVT_REQ_PEND) = true := by decide +kernel

theorem witness_VendorAndOwnerRequests_refused :
    ownerLayout ownSt [2] 1 = false ∧ runs (.ownerRelease o11 [2]) ownSt (fun t => t.out = .reply .malformed (beBytes 4 64917 ++ [3, 0xF, 0, 0]) && t.kiosk.nonces.length = 1) = true
      ∧ nonceOk ownSt 3 (ownMsg 4 0xFF) = true ∧ nonceOk ownSt 3 (List.replicate 48 0) = false
      ∧ nonceOk { ownSt with usec := 60000000 } 3 (ownMsg 4 0xFF) = true ∧ nonceOk { ownSt with usec := 60000001 } 3 (ownMsg 4 0xFF) = false
      ∧ ownerGenOk ownSt (ownMsg 4 0xFF) = true
      ∧ ownerCode (mtSt 0x3F) (own 0x3F) (ownMsg 4 0xFF) = some .refusedState := by decide +kernel

/-- With published functions that give these values, an owner request passes every check. -/
theorem witness_VendorAndOwnerRequests_layout (hs : Config.sha384 = fun _ => 0) : ownerLayout ownSt (ownMsg 4 0xFF) 4 = true := by
  unfold ownerLayout sha384
  rw [hs]
  decide +kernel
theorem witness_VendorAndOwnerRequests_passes (hs : Config.sha384 = fun _ => 0) (hv : Config.lmsVerify = fun _ _ _ => true) :
    ownerCode ownSt (own 0x3F) (ownMsg 4 0xFF) = none := by
  unfold ownerCode sha384 SigBlock.verify
  rw [hs, hv]
  decide +kernel

theorem witness_VendorAndOwnerRequests_state :
    lockdown ownSt = false ∧ updState (ownSt.setF SYSCTL_MODE_MODE moSERVE) 0xFFFF = false ∧ updBusy ownSt = false ∧ rb ownSt LCS_STAT_PENDING = false
      ∧ rb ownSt FBUS_UPD_STAT_OWNER_LOCK = false ∧ early ownSt (updIf.key 7) = false ∧ asleep ownSt = false ∧ spareWordsOut ownSt = false
      ∧ modeRun ownSt = true := by decide +kernel

/-! ### Attestation -/

def att : State := mtRng.modMt fun m =>
  { m with settings := some setts, nextSess := 2, sessions := [⟨1, 3, true, [1], 0, 0⟩], conns := [(3, ⟨0x13, 0, false, [], [7]⟩)] }
def attHs : State := att.modMt fun m => { m with sessions := [⟨1, 3, false, [1], 0, 0⟩], conns := [(3, ⟨0x13, 2, false, [1, 2, 3], [7]⟩)] }
/-- Slot 3 holds a P-384 key under tags of zero; two items are queued. -/
def attReady : State :=
  let s := att.modRng fun r => { r with queue := [List.replicate 48 0, List.replicate 48 0] }
  { s with keys := { s.keys with kt := [1], slots := [(3, { Slot.empty with
      c0 := ⟨List.replicate 48 1, mkMd 0x48580003 4 usSIGN false 1, List.replicate 8 0, false⟩ })] } }
def slots4 : State := attReady.modKiosk fun k => { k with tbt := [{ own 0x3F with sessions := 4 }] }

/-- A requester whose point is the base point. -/
def basePeer : List Byte := beBytes 48 gxp ++ beBytes 48 gyp

theorem witness_AttestationIsAnswered :
    (own 0x3F).permAttest = true ∧ (own 0).permAttest = false ∧ (conn att 3).version = 0x13 ∧ mctpTenant att o11 = some (own 0x3F)
      ∧ runs (.getVersion o11 none) att (fun t => conn t 3 = Conn.init && t.out = .reply .ok [0, 0x13, 0, 0x12]) = true
      ∧ runs (.getVersion o11 (some .invalidRequest)) att (fun t => t.out = .spdmError .invalidRequest) = true
      ∧ runs (.getCapabilities o11 0x12 4224 none) att (fun t => (conn t 3).dts = 4224) = true
      ∧ runs (.getCapabilities o11 0x11 4224 none) att (fun t => t.out = .spdmError .versionMismatch) = true
      ∧ runs (.negotiateAlgorithms o11 none) att (fun t => (conn t 3).algs) = true
      ∧ runs (.getMeasurements o11 3 false [] none) att (fun t => t.out = .reply .ok [3, 1, 7, 0, 0x87, 4, 0, 0, 0, 0, 0]) = true
      ∧ runs (.getMeasurements o11 3 false [] none) attHs (fun t => t.out = .spdmError .largeResponse) = true
      ∧ runs (.challenge o11 [] none) (att.raise KEYS_STAT_ZEROISED) (fun t => t.out = .reply .keyRevoked [0xFF, 0, 0, 0, 0xFD, 0x95, 0x0A, 0, 0]) = true
      ∧ sessFull att (own 0x3F) = true ∧ sessFull slots4 { own 0x3F with sessions := 4 } = false
      ∧ dhePoint basePeer ≠ none ∧ dhePoint (basePeer.drop 1) = none
      ∧ runs (.keyExchange o11 [] [] none) att (fun t => t.out = .spdmError .invalidRequest) = true
      ∧ runs (.keyExchange o11 basePeer [] none) att (fun t => t.out = .spdmError .sessionLimitExceeded) = true
      ∧ runs (.heartbeat o11 1 none) { att with usec := 9 } (fun t => (sess t 3 1).map (·.last) = some 9) = true
      ∧ runs (.keyUpdate o11 1 none) att (fun t => (sess t 3 1).map (·.updates) = some 1) = true
      ∧ runs (.endSession o11 1 none) att (fun t => (sess t 3 1).isNone) = true
      ∧ runs (.endSession o11 2 none) att (fun t => (sess t 3 1).isSome && t.out = .none) = true
      ∧ runs (.heartbeatExpiry 1) { (att.modMt fun m => { m with settings := some { setts with hbeat := 1 } }) with usec := 2000000 }
          (fun t => t.mtrans.sessions = []) = true
      ∧ runs (.heartbeatExpiry 1) { (att.modMt fun m => { m with settings := some { setts with hbeat := 1 } }) with usec := 1999999 }
          (fun t => t.mtrans.sessions.length = 1) = true
      ∧ runs (.respondIfReady o11 none) attHs (fun t => t.out = .spdmError .largeResponse) = true
      ∧ runs (.chunkGet o11 none) attHs (fun t => t.out = .reply .ok [1, 2] && (conn t 3).large = [3]) = true
      ∧ runs (.chunkSend o11 [8] false none) att (fun t => (conn t 3).chunk = [7, 8]) = true
      ∧ runs (.chunkSend o11 [0x84, 0, 0] true none) (att.setConn 3 ⟨0x13, 0, false, [], [0x10]⟩)
          (fun t => t.out = .reply .ok [0, 0x13, 0, 0x12] && conn t 3 = Conn.init) = true
      ∧ runs (.vendorDefinedRequest o11 [0, 0, 0xFD, 0x95, 2] none) att
          (fun t => t.out = .reply .ok ([0, 0, 0xFD, 0x95, 2, 0] ++ (List.range 32).map (BitVec.ofNat 8))) = true
      ∧ runs (.vendorDefinedRequest o11 [0, 0, 0xFD, 0x95, 4] none) att (fun t => t.out = .reply .ok [0, 0, 0xFD, 0x95, 4, 0, 4, 0, 0, 5, 0x81]) = true
      ∧ runs (.vendorDefinedRequest o11 [0, 0, 0xFD, 0x95, 2] none) (att.modKiosk fun k => { k with tbt := [{ own 8 with sessions := 4 }] })
          (fun t => t.out = .reply .refusedPolicy [0xFF, 0, 0, 0, 0xFD, 0x95, 3, 0, 0]) = true
      ∧ runs (.vendorDefinedRequest o11 [0, 0, 0xFD, 0x94, 2] none) att (fun t => t.out = .reply .malformed [0xFF, 0, 0, 0, 0xFD, 0x95, 0xF, 0, 0]) = true
      ∧ runs (.getVersion o11 none) ((mtRng.modKiosk fun k => { k with tbt := [] }).modBoot fun b => { b with stage := .recovery })
          (fun t => t.out = .reply .refusedState [0xFF, 0, 0, 0, 0xFD, 0x95, 4, 0, 0]) = true
      ∧ runs (.spdmUnsupportedRequest o11) att (fun t => t.out = .spdmError .unsupportedRequest) = true := by decide +kernel

/-- With published functions that give these values, KS3 signs. -/
theorem witness_AttestationIsAnswered_signs (hs : Config.sha384 = fun _ => 0) (ht : Config.slotTag = fun _ _ => 0) :
    (match slots4.ks3Sign [] with | (.ok _, _) => true | _ => false) = true := by
  unfold State.ks3Sign slotPayload slotState winner copyValid copyTag sha384
  rw [hs, ht]
  decide +kernel

/-! ### Updates -/

def upd0 : State := { (domAt 0 stRELEASED) with kiosk := { (domAt 0 stRELEASED).kiosk with tbt := [own 0x3F] }, mtrans := att.mtrans }
  |>.setF LODGE_STAT_VBAT_OK 1
def updIn (ph : Nat) : State := upd0.modUpd fun u => { u with sess := some { tn := 3, phase := ph, comp := 0xFE } }

theorem witness_FirmwareUpdateSession :
    mctpTenant upd0 o11 = some (own 0x3F) ∧ mode upd0 ≠ moASSEMBLY ∧ lockdown upd0 = false ∧ updState upd0 0xFFFF = false
      ∧ runs (.getPldmTypes o11) upd0 (fun t => t.out = .reply .ok [0x21, 0, 0, 0, 0, 0, 0, 0]) = true
      ∧ runs (.getPldmCommands o11 0) upd0 (fun t => t.out = .reply .ok (0x3C :: List.replicate 31 0)) = true
      ∧ (own 0x3F).permUpdate = true ∧ (own 0).permUpdate = false
      ∧ runs (.queryDeviceIdentifiers o11) upd0 (fun t => t.out = .reply .ok [8, 0, 0, 0, 1, 1, 0, 4, 0, 0x95, 0xFD, 0, 0]) = true
      ∧ runs (.getFirmwareParameters o11) upd0 (fun t => match t.out with | .reply .ok d => d.take 4 = [0xFF, 0xFF, 0, 0] | _ => false) = true
      ∧ recovery upd0 = false ∧ updMode upd0 = true ∧ updMode (upd0.setF SYSCTL_MODE_MODE moASSEMBLY) = false
      ∧ runs (.activateFirmware o11) (upd0.setF SYSCTL_MODE_MODE moASSEMBLY) (fun t => t.out = .reply .refusedState [1]) = true
      ∧ compOffered (upd0.setF SYSCTL_MODE_MODE moASSEMBLY) 0xFE = true
      ∧ runs (.updateComponent o11 0xFE 0 0) (upd0.setF SYSCTL_MODE_MODE moASSEMBLY) (fun t => t.out = .pldm .unableToInitiateUpdate) = true
      ∧ recovery (upd0.modBoot fun b => { b with stage := .recovery }) = true
      ∧ runs (.requestUpdate o11) (upd0.modBoot fun b => { b with stage := .recovery }) (fun t => t.upd.sess.map (·.phase) = some 1) = true
      ∧ runs (.requestUpdate o11) upd0 (fun t => t.upd.sess = some { tn := 3, phase := 1, comp := 0xFFFF }) = true
      ∧ runs (.requestUpdate o11) (updIn 1) (fun t => t.out = .pldm .alreadyInUpdateMode) = true
      ∧ runs (.requestUpdate o11) (upd0.setF LODGE_STAT_VBAT_OK 0) (fun t => t.out = .pldm .unableToInitiateUpdate) = true
      ∧ runs (.passComponentTable o11 true) (updIn 1) (fun t => t.upd.sess = some { tn := 3, phase := 2, comp := 0xFE }) = true
      ∧ updateCode (updIn 2) (own 0x3F) 0xFF 1025 255 = none ∧ updateCode (updIn 2) (own 0x3F) 0xFF 0 256 = some .versionExhausted
      ∧ runs (.updateComponent o11 0xFF 1025 255) (updIn 2) (fun t => t.upd.sess
          = some { tn := 3, phase := 3, comp := 0xFF, size := 1025, sent := some (0x15, [0, 0, 0, 0, 0, 4, 0, 0]) }) = true
      ∧ runs (.updateComponent o11 0xFF 1 255) (updIn 2) (fun t => t.upd.sess.bind (·.sent) = some (0x15, [0, 0, 0, 0, 1, 0, 0, 0])) = true
      ∧ runs (.updateComponent o11 0xFF 0 256) (updIn 2) (fun t => t.out = .pldm .unableToInitiateUpdate) = true
      ∧ runs (.activateFirmware o11) (updIn 2) (fun t => t.upd.sess.isNone && t.out = .reply .ok [0]) = true
      ∧ runs (.getStatus o11) (updIn 3) (fun t => t.out = .reply .ok [3]) = true
      ∧ runs (.cancelUpdateComponent o11) (updIn 3) (fun t => t.upd.sess = some { tn := 3, phase := 2, comp := 0xFFFF }) = true
      ∧ runs (.cancelUpdate o11) (updIn 2) (fun t => t.upd.sess.isNone) = true := by decide +kernel

/-- A manifest of class 254 whose signature bytes are all ones but for the LMS types, in a staging object. -/
def manMem : List Host.Cell :=
  let z (n : Nat) : List Byte := List.replicate n 0
  let head : List Byte := [0x48, 0x53, 0x54, 0x41, 1, 0, 64, 0, 254, 1, 12, 8, 1, 2, 0, 0] ++ leBytes 4 5 ++ leBytes 4 7 ++ leBytes 4 1884
    ++ leBytes 4 160 ++ z 32
  let reg : List Byte := [0xFF, 0, 0, 0, 0, 0, 0, 0] ++ leBytes 4 4096 ++ z 4 ++ [0xFF, 0xFF, 0xFF, 0xFF] ++ z 12 ++ z 48 ++ z 16
  let sig : List Byte := leBytes 2 164 ++ leBytes 2 96 ++ leBytes 2 1456 ++ z 2 ++ leBytes 1 2 ++ z 1 ++ leBytes 2 60 ++ leBytes 1 4
  let pk2 : List Byte := z 3 ++ beBytes 4 1 ++ beBytes 4 6 ++ beBytes 4 4
  ((head ++ reg ++ sig).zipIdx.map fun (b, i) => (i, b)) ++ (pk2.zipIdx.map fun (b, i) => (269 + i, b))
    ++ ([0, 0, 0, 4].zipIdx.map fun (b, i) => (436 + i, b)) ++ ([0, 0, 0, 6].zipIdx.map fun (b, i) => (1560 + i, b))
def manObj : StageObj := ⟨1, 1, none, manMem, false⟩
def updStaged : State := upd0.setStage 127 (some manObj)
def updSwapping : State := (upd0.setF (GATE_DOM_GEN_GEN 0) 3).setF FBUS_UPD_ARG_ARG 3
def updTorn : State := upd0.modUpd fun u => { u with tWritten := true }
def updJobIs (op : Nat) (a : Bool) : State := updStaged.modUpd fun u => { u with job := some { op, comp := 0xFE, handle := 127, aborted := a } }

def updBusyDev : State := (updJobIs 1 false).setF (FBUS_DEV_STAT_STATE 0) dvBUSY

theorem witness_UpdateJobsRun_write :
    updBusy upd0 = false ∧ upd0.retries = [] ∧ rb upd0 FBUS_UPD_STAT_OWNER_LOCK = false ∧ (stagedMan manObj).map (·.domain) = some 254
      ∧ compOffered updStaged 0xFE = true ∧ updState updStaged 0xFE = false ∧ compDom 0xFE = none
      ∧ runs (.updWrite 127 0xFE) updStaged (fun t => t.upd.job = some { op := 1, comp := 0xFE, handle := 127, aborted := false } && rf t FBUS_UPD_STAT_T_COPY = 1) = true
      ∧ (stagedMan manObj).map (·.svn) = some 5
      ∧ runs (.updWrite 127 0xFE) (updStaged.setStage 127 (some { manObj with mem := manMem.map fun (a, b) => (a, if a = 17 then 1 else b) }))
          (fun t => rf t FBUS_UPD_CMD_STAT_LAST_STATUS = 12 && t.upd.job.isNone) = true
      ∧ runs .pauseExpiry (upd0.raise KIOSK_STAT_PAUSE) (fun t => !rb t KIOSK_STAT_PAUSE) = true
      ∧ runs .pauseExpiry ((upd0.raise KIOSK_STAT_PAUSE).modKiosk fun k => { k with pauseEnd := 1 }) (fun t => rb t KIOSK_STAT_PAUSE) = true
      ∧ runs (.updWrite 126 0xFE) updStaged (fun t => rf t FBUS_UPD_CMD_STAT_LAST_STATUS = 15) = true
      ∧ runs (.updJobDone 9 none none) (updJobIs 1 true)
          (fun t => rf t FBUS_UPD_CMD_STAT_LAST_STATUS = 14 && rf t FBUS_UPD_STAT_WRITTEN = 9 && rb t FBUS_UPD_EVT_JOB_FAIL) = true
      ∧ (stagedMan manObj).map (fun m => (writeClash updStaged 0xFE m, nurBusy updStaged 0xFE (some m))) = some (false, false)
      ∧ updServed (updJobIs 2 false) { op := 2, comp := 0xFE, handle := 127, aborted := false } = true
      ∧ updServed (updJobIs 1 false) { op := 1, comp := 0xFE, handle := 127, aborted := false, devs := [0] } = true
      ∧ updServed { updBusyDev with fbus := { updBusyDev.fbus with map := { updBusyDev.fbus.map with devs := [dev0] } } }
          { op := 1, comp := 0xFE, handle := 127, aborted := false, devs := [0] } = false
      ∧ runs .updAbort (updJobIs 1 true) (fun t => t.upd.job.map (·.aborted) = some true && rf t FBUS_UPD_CMD_STAT_LAST_STATUS = 0) = true
      ∧ runs .updAbort (updJobIs 1 false) (fun t => t.upd.job.map (·.aborted) = some true) = true
      ∧ runs (.updJobDone 70000 none none) (updJobIs 2 false) (fun t => rf t FBUS_UPD_STAT_WRITTEN = 0xFFFF) = true := by decide +kernel

/-- The session of a component of 2,048 bytes in phase `ph`, an ORANGERY command ending on object 127. -/
def updXfer (ph : Nat) (c : OCmd) : State :=
  let s := updStaged.modUpd fun u => { u with sess := some { tn := 3, phase := ph, comp := 0xFE, size := 2048, handle := if ph = 4 then some 127 else none } }
  { s with orang := { s.orang with cmd := some c } }

theorem witness_FirmwareUpdateSession_sent :
    runs .orangeryCmdDone (updXfer 3 ⟨2, 127, 0, 1024, false, false⟩) (fun t => t.upd.sess.any fun u =>
          u.phase = 3 && u.got = 1024 && u.handle = some 127 && u.sent = some (0x15, [0, 4, 0, 0, 0, 4, 0, 0])) = true
      ∧ runs .orangeryCmdDone (updXfer 3 ⟨2, 127, 1024, 1024, false, false⟩) (fun t => t.upd.sess.any fun u => u.phase = 4 && u.sent = some (plXFERDONE, [0])) = true
      ∧ lanesOn (updXfer 4 ⟨3, 127, 0, 4096, false, false⟩) ≠ 0
      ∧ verifyStep updStaged { tn := 3, phase := 4, comp := 0x3F, size := 2048, handle := some 127 } manObj 0 4096 = (some .malformed, []) := by
  decide +kernel

theorem witness_UpdateJobsRun_rest :
    runs .updSettle (upd0.raise FBUS_UPD_STAT_SETTLE_DUE) (fun t => rf t FBUS_UPD_STAT_JOB = 2) = true
      ∧ runs .updSettle upd0 (fun t => rf t FBUS_UPD_CMD_STAT_LAST_STATUS = 4) = true
      ∧ domExists updSwapping 0 = true ∧ updState updSwapping 0 = false ∧ (domX updSwapping 0).job = 0 ∧ updArg updSwapping = domGen updSwapping 0
      ∧ released updSwapping 0 = true
      ∧ runs (.updSwap 0 [] []) updSwapping (fun t => domGen t 0 = 5 && domState t 0 = stVERIFYING && (domX t 0).job = jobSWAP) = true
      ∧ runs (.updSwap 0 [] []) (updSwapping.setF FBUS_UPD_ARG_ARG 2) (fun t => rf t FBUS_UPD_CMD_STAT_LAST_STATUS = 5) = true
      ∧ bvRuns updTorn = true ∧ runs .updActivateBv updTorn (fun t => rb t KIOSK_STAT_PAUSE && t.upd.job.isSome && t.boot.stage = .otp) = true
      ∧ runs .updResume (upd0.raise KIOSK_STAT_PAUSE) (fun t => !rb t KIOSK_STAT_PAUSE) = true
      ∧ runs .updOwnerLock (upd0.setF FBUS_UPD_ARG_ARG 1) (fun t => rb t FBUS_UPD_STAT_OWNER_LOCK) = true := by decide +kernel

def updSvn : State :=
  ((upd0.setF SYSCTL_FW_SVN_FW_SVN 255).setF FBUS_UPD_ARG_ARG 255).modUpd fun u => { u with svn := some (254, 9, 895), job := some { op := 5, comp := 254, handle := 0, aborted := false } }
theorem witness_UpdateJobsRun_svn :
    commitSvnCode (updSvn.modUpd fun u => { u with job := none }) 254 = none
      ∧ (otpFree updSvn 640 256).head? = some 640 ∧ otpRaw updSvn 895 = 0
      ∧ runs (.commitSvn 254) (updSvn.modUpd fun u => { u with job := none }) (fun t => t.upd.svn = some (254, 255, 640)) = true
      ∧ runs (.commitSvnDone false) updSvn (fun t => rf t SYSCTL_SVN_MIN_FW_MIN = 9 && t.upd.svn.isNone) = true := by decide +kernel

/-! ### Life cycle and debug -/

def lcAt (st : Nat) (s : State := live) : State := s.setF LCS_STAT_STATE st
def dbgAt (lv : Nat) (s : State := live) : State := s.setF DEBUG_STAT_LEVEL lv
def halfCut : State := (lcAt lcOWNED).modLcs fun l => { l with target := some 3 }
def wdtRun : State := (dbgAt 2).modBoot fun b => { b with wdtEnd := some 500 }

/-- The wipe of SCRAP runs, scan mode still on. -/
def wiping : State := (live.raise DEBUG_STAT_SCAN).modLcs fun l => { l with scrap := 2 }

theorem witness_LifeCycleAndDebugAct_requests :
    runs (.lcsToFactory true) (dbgAt 3 (lcAt lcBLANK)) (fun t => t.lcs.target = some 1 && rb t LCS_REQ_STAT_BUSY) = true
      ∧ runs (.lcsToFactory true) (dbgAt 2 (lcAt lcBLANK)) (fun t => t.lcs.target.isNone && rb t LCS_EVT_REFUSED) = true
      ∧ lcsCode (lcAt lcBLANK) 1 false = some .refusedState ∧ lcsCode (lcAt lcSCRAP) 4 false = some .refusedState
      ∧ runs (.lcsToReturned false) (lcAt lcOWNED) (fun t => rf t LCS_REQ_STAT_LAST_STATUS = 3 && rf t LCS_REQ_STAT_LAST_TARGET = 3) = true
      ∧ runs (.lcsToReturned false) ((lcAt lcOWNED).raise LCS_STAT_ARMED) (fun t => t.lcs.target = some 3 && !rb t LCS_STAT_ARMED) = true
      ∧ runs (.lcsToOwned false) (lcAt lcFACTORY) (fun t => rf t LCS_REQ_STAT_LAST_STATUS = 3) = true
      ∧ lcsCode { (lcAt lcFACTORY).setF LODGE_STAT_VAULT vrVALID with otp := ownSt.otp } 2 false = none
      ∧ spareWordsOut live = false
      ∧ runs (.lcsToScrap false) (lcAt lcFACTORY) (fun t => t.lcs.target = some 4 && t.lcs.scrap = 1 && lockdown t) = true
      ∧ runs .lcsProgrammed halfCut (fun t => otpRaw t 2 = 0x7B1896E15A3CC3A5 && !rb t LCS_REQ_STAT_BUSY) = true
      ∧ runs (.scrapWipeDone false) (live.modLcs fun l => { l with scrap := 2 })
          (fun t => otpRaw t 6 = 0xFFFFFFFFFFFFFFFF && otpRaw t 127 = 0xFFFFFFFFFFFFFFFF && otpRaw t 128 = 0) = true
      ∧ runs (.lcsArm 0x52E70001) live (fun t => rb t LCS_STAT_ARMED) = true
      ∧ runs (.lcsArm 0x52E80001) live (fun t => !rb t LCS_STAT_ARMED) = true
      ∧ runs .armedExpiry (live.raise LCS_STAT_ARMED) (fun t => !rb t LCS_STAT_ARMED) = true := by decide +kernel

theorem witness_LifeCycleAndDebugAct_debug :
    runs (.tokenLoad [1, 2]) live (fun t => t.lcs.token = [1, 2] && rf t DEBUG_STAT_TOKEN_LEN = 2) = true
      ∧ runs (.tokenClear true) live (fun t => rf t DEBUG_STAT_TOKEN_LEN = 0) = true
      ∧ runs (.nonceReq true) mtRng (fun t => reg t DEBUG_NONCE_HI = 0x07060504 && rb t DEBUG_STAT_NONCE_VALID && t.out = .code .ok) = true
      ∧ runs (.nonceReq true) (live.raise RNG_STAT_KAT_FAIL) (fun t => t.out = .code .internalFault) = true
      ∧ runs (.haltReq true) wdtRun (fun t => rb t DEBUG_STAT_HALTED && t.boot.wdtLeft = 500 && t.boot.wdtEnd.isNone) = true
      ∧ runs (.haltReq true) { wdtRun with atomicUntil := 9 } (fun t => t.lcs.haltReq && !rb t DEBUG_STAT_HALTED) = true
      ∧ runs (.haltReq true) (dbgAt 1) (fun t => !rb t DEBUG_STAT_HALTED) = true
      ∧ runs .halt (live.modLcs fun l => { l with haltReq := true }) (fun t => rb t DEBUG_STAT_HALTED && !t.lcs.haltReq) = true
      ∧ runs .belvedereResume ((live.modBoot fun b => { b with wdtLeft := 7 }).raise DEBUG_STAT_HALTED) (fun t => t.boot.wdtEnd = some 7) = true
      ∧ runs .scanEntry (dbgAt 2) (fun t => !rb t DEBUG_STAT_SCAN) = true
      ∧ wiping.lcs.scrap ≠ 0 ∧ sybLive wiping = true ∧ rb wiping SYSCTL_RSTCAUSE_PIN_IGNORED = false ∧ mode wiping ≠ moDORMANT
      ∧ runs (.scanExit true) wiping (fun t => rb t DEBUG_STAT_SCAN && t.lcs.scrap = 2 && t.boot.deferred.isSome) = true
      ∧ runs .sysRstNAssert wiping (fun t => t.boot.pinLow && t.lcs.scrap = 2 && t.boot.deferred = some rcPIN) = true
      ∧ runs (.devReset 0x5A3C0001 true) wiping (fun t => t.lcs.scrap = 2 && t.boot.deferred = some rcSWDEV) = true
      ∧ bootKeyOk 0x5A3C0001 = true
      ∧ runs (.scanExit true) (live.raise DEBUG_STAT_SCAN) (fun t => t.boot.stage = .reset1 && t.boot.testen) = true := by decide +kernel

theorem witness_LifeCycleAndDebugAct_scan :
    runs .scanEntry (dbgAt 3 staged) (fun t => rb t DEBUG_STAT_SCAN && t.tcm = []) = true := by decide +kernel

/-! ### The Lodge -/

def ldg : State := live.modLodge fun l => { l with sampling := true, rules := none }
def onVbat : State := ldg.raise LODGE_STAT_RAIL
/-- One rule on the transit input, with the given action. -/
def ruleT (act : Nat) : LRules := ⟨1, 1, 0, 60, 2400, 0, 3, [⟨0x40, 1, 1, 3, act, 2⟩]⟩
def ruled (act : Nat) : State := ldg.modLodge fun l => { l with rules := some (ruleT act) }
/-- A rule table in TCM: one rule on the transit input. -/
def ruleIn : State := (State.reset.tcmWrite 0x10000000 [1, 16, 1, 1, 0, 60, 0x60, 0x09, 0, 3, 0, 0, 0, 0, 0, 0,
  0x40, 1, 1, 3, 1, 2, 0, 0, 0, 0, 0, 0, 0, 0, 0, 0]).setF LODGE_CMD_ARG_ARG 0x10000000

theorem witness_LodgeActs :
    runs .railToVbat ldg (fun t => railVbat t && rb t LODGE_EVT_RAIL_CHG) = true ∧ runs .railToVddAon onVbat (fun t => !railVbat t) = true
      ∧ runs (.vbatBrownout 2400) onVbat (fun t => t.lodge.sampling) = true
      ∧ runs (.vbatBrownout 1999) onVbat (fun t => !t.lodge.sampling && !t.lodge.lost) = true
      ∧ runs .vbatBrownoutEnd (ldg.modLodge fun l => { l with sampling := false }) (fun t => t.lodge.sampling) = true
      ∧ runs (.meshBurst 0 0 [] true) ldg (fun t => rb t LODGE_SENSE_GLITCH) = true
      ∧ runs (.sensorSample [20] [2400]) ldg (fun t => rf t LODGE_SENSE_VBAT_MV = 2400 && rb t LODGE_STAT_VBAT_OK) = true
      ∧ transitOn (ruleT 1) 0x10 = true ∧ ruleApplies (ruled 1) ⟨0x40, 1, 1, 3, 1, 2⟩ = true
      ∧ runs (.meshBurst 0 0 [0x10] false) (ruled 1) (fun t => ruleFired t 0 && rf t LODGE_EVT_TOTAL_TOTAL = 1 && rb t LODGE_STAT_TRANSIT) = true
      ∧ runs (.meshBurst 0 0 [0x10] false) (ruled 8) (fun t => ruleFired t 0 && vaultRead t 0 2 = [0x5A, 0] && lockdown t) = true
      ∧ runs (.meshBurst 0 0 [0x1F] false) (ldg.modLodge fun l => { l with rules := some { ruleT 1 with caseCfg := 5, rules := [] } })
          (fun t => rf t LODGE_SENSE_CASE_LVL = 5 && rb t LODGE_STAT_TRANSIT) = true := by decide +kernel

theorem witness_LodgeActs_commands :
    (match lodgeSection ruleIn 32 with | .ok t => t.rules.length = 1 | _ => false) = true
      ∧ runs (.applyRules 32) ruleIn (fun t => rb t LODGE_STAT_RULES_APPLIED && t.lodge.rules.isSome) = true
      ∧ (match lodgeSection ruleIn 31 with | .error _ => true | _ => false) = true
      ∧ runs (.applyRules 31) ruleIn (fun t => rf t LODGE_CMD_STAT_LAST_STATUS = 15) = true
      ∧ runs .setRtc (live.setF LODGE_CMD_ARG_ARG 77) (fun t => rf t LODGE_RTC_SEC_SEC = 77) = true
      ∧ runs .setRtc (live.raise LODGE_CTRL_LOCK) (fun t => rf t LODGE_CMD_STAT_LAST_STATUS = 4) = true
      ∧ runs (.evtAck 11) (live.raise LODGE_STAT_WAKE_PEND) (fun t => !rb t LODGE_STAT_WAKE_PEND) = true
      ∧ runs (.evtAck 12) live (fun t => rf t LODGE_CMD_STAT_LAST_STATUS = 15) = true
      ∧ runs (.clearFired 0) ((ruled 1).setF LODGE_FIRED_FIRED 1) (fun t => !ruleFired t 0) = true
      ∧ runs (.clearFired 0) ((ruled 1).setF SYSCTL_MODE_MODE moLOCKDOWN) (fun t => rf t LODGE_CMD_STAT_LAST_STATUS = 4) = true := by decide +kernel

/-- A brownout below 1.6 V meets the hypotheses; what it leaves are free values. -/
theorem witness_LodgeActs_lost : railVbat onVbat = true := by decide +kernel

/-! ### The journal -/

def jnlRec : JRec := { cls := 1, event := 5, src := 2, unit := 3 }
def jOn (s : State := live) : State := s.raise JOURNAL_STAT_STARTED
def jFed : State := (jOn).modJnl fun j => { j with fifo := [jnlRec] }
def jHas (n : Nat) : State := (((jOn).modJnl fun j => { j with held := [(0, ⟨jnlRec, [], true⟩)] }).setF JOURNAL_SEQ_SEQ n).raise JOURNAL_CFG_LOG_EN
def jLog : State := (jHas 1).modBoot fun b => { b with img := some { bootImg with logLen := 131072 } }

theorem witness_JournalActs :
    runs .journalStart ((live.setF MEMINT_STAT_INIT 0xFFFF).modJnl fun j => { j with preboot := [jnlRec] })
        (fun t => rb t JOURNAL_STAT_STARTED && t.jnl.fifo.length = 2) = true
      ∧ classInit (live.setF MEMINT_STAT_INIT 0xFFFF) 4 = true ∧ classInit (live.setF MEMINT_STAT_INIT 0xFFFF) 5 = true
      ∧ runs .journalStart jOn (fun t => rf t JOURNAL_CMD_STAT_LAST_STATUS = 4) = true
      ∧ runs .journalWrite (jOn.setReg (JOURNAL_FW_DATA 2) 7) (fun t => t.jnl.fifo.map (·.gen) = [7]) = true
      ∧ runs .journalWrite (jOn.modJnl fun j => { j with fifo := List.replicate 256 jnlRec }) (fun t => rf t JOURNAL_CMD_STAT_LAST_STATUS = 1) = true
      ∧ jPlace jFed = some (none, true) ∧ (lostCounts jFed).all (· = 0) = true
      ∧ runs .journalDrain jFed (fun t => jSeq t = 1 && t.jnl.fifo = [] && t.jnl.held.length = 1) = true
      ∧ unflushed (jHas 1) = 1 ∧ runs .journalFlush (jHas 1) (fun t => t.jnl.flushing) = true
      ∧ runs .journalFlush (jOn.setF JOURNAL_CFG_LOG_EN 0) (fun t => rf t JOURNAL_CMD_STAT_LAST_STATUS = 4) = true
      ∧ runs (.journalVerify 1) (jHas 1) (fun t => t.jnl.verify = some (0, 1)) = true
      ∧ early (jHas 1) (jIf.key 4) = false ∧ early jOn (jIf.key 3) = false
      ∧ runs (.journalVerify 1) ((jHas 1).modJnl fun j => { j with verify := some (0, 1) }) (fun t => rf t JOURNAL_CMD_STAT_LAST_STATUS = 1) = true
      ∧ runs (.journalVerify 0) (jHas 1) (fun t => rf t JOURNAL_CMD_STAT_LAST_STATUS = 15) = true
      ∧ verifyFrom (jHas 2) 0 0 0 none = none := by decide +kernel

/-- Without a SERVING plane an unflushed ring slot has no place for the next record. -/
theorem witness_JournalActs_full :
    jPlace { (jOn.modJnl fun j => { j with held := [(0, ⟨jnlRec, [], true⟩)] }) with regs := ((jOn State.reset).setF JOURNAL_SEQ_SEQ 16384).regs } = none
      ∧ anyServing { (jOn.modJnl fun j => { j with held := [(0, ⟨jnlRec, [], true⟩)] }) with
          regs := ((jOn State.reset).setF JOURNAL_SEQ_SEQ 16384).regs } = false := by decide +kernel

/-- The ring slot of SEQ 16,384 is unflushed and the overflow holds 524,288 unflushed records. -/
def jFull : State :=
  (jOn.setF JOURNAL_SEQ_SEQ 16384).modJnl fun j =>
    { j with fifo := [jnlRec], held := (0, ⟨jnlRec, [], true⟩) :: List.replicate 524288 (1, ⟨jnlRec, [], false⟩) }

theorem jPlace_full (s : State) (n : Nat) (hs : anyServing s = true) (hq : jSeq s = 16384) (h0 : isUnflushed s 0 = true)
    (h1 : isUnflushed s 1 = true) (hc : ovfSize s ≤ n)
    (hh : s.jnl.held = (0, ⟨jnlRec, [], true⟩) :: List.replicate n (1, ⟨jnlRec, [], false⟩)) : jPlace s = none := by
  unfold jPlace
  rw [hh, hq]
  simp [ringSize, h0, h1, hs, Nat.not_lt.mpr hc]

theorem witness_JournalActs_overflow : anyServing jFull = true ∧ jPlace jFull = none :=
  have hs : anyServing jFull = true := by decide +kernel
  ⟨hs, jPlace_full jFull 524288 hs (by decide +kernel) (by decide +kernel) (by decide +kernel)
    (by unfold ovfSize; split <;> omega) rfl⟩

theorem witness_JournalActs_log :
    logSectors jLog = 2 ∧ unflushed jLog = 1
      ∧ runs .journalVerifyDone ((jHas 1).modJnl fun j => { j with verify := some (0, 1), bad := [0] }) (fun t => rf t JOURNAL_CMD_STAT_LAST_STATUS = 11)
        = true := by decide +kernel

/-! ### Steps -/

theorem witness_StepRunsTheFrontCommand :
    (match step { live with pending := [.armedExpiry, .halt] } with | .next t => t.pending = [.halt] | _ => false) = true
      ∧ (match step live with | .next t => t.usec = 1 | _ => false) = true := by decide +kernel

theorem witness_NoStepClearsAnOtpBit :
    (match step { halfCut with pending := [.lcsProgrammed] } with | .next t => otpRaw t 0 &&& 0x5A3CC3A5 = 0x5A3CC3A5 | _ => false) = true
      ∧ otpRaw halfCut 0 &&& 0x5A3CC3A5 = 0x5A3CC3A5 := by decide +kernel

theorem test_reset_values :
    mode State.reset = moASSEMBLY ∧ rf State.reset (planeFld 0) = plOFF ∧ domState State.reset 47 = stHELD ∧ domGen State.reset 47 = 1
      ∧ State.reset.tablesWf = true := by decide +kernel

/-! ### The boot chain's images: a whole device configuration (R68) and signed manifests -/
/-- An opcode with no entry. -/
def noRow : List Byte :=
  [0xF, 0, 0, 0, 0, 0, 0, 0]
/-- The decode table of a device that reads, programs and erases. -/
def cfgRows : List (List Byte) :=
  List.replicate 1 noRow ++ [[7, 1, 0, 0, 2, 0, 0, 2], [1, 1, 3, 0, 2, 0, 0, 0], [0, 1, 3, 11, 1, 0, 0, 0], [5, 1, 0, 0, 0, 0, 0, 0], [70,
  1, 0, 0, 1, 0, 0, 0], [4, 1, 0, 0, 0, 0, 0, 0]] ++ List.replicate 4 noRow ++ [[0, 1, 3, 11, 1, 0, 0, 0]] ++ List.replicate 20 noRow ++
  [[2, 1, 3, 0, 0, 12, 0, 0]] ++ List.replicate 57 noRow ++ [[9, 1, 3, 8, 1, 0, 0, 0]] ++ List.replicate 11 noRow ++ [[12, 1, 0, 0, 0, 0,
  0, 0]] ++ List.replicate 14 noRow ++ [[74, 1, 0, 0, 0, 0, 0, 0]] ++ List.replicate 4 noRow ++ [[11, 1, 0, 0, 0, 0, 0, 0]] ++
  List.replicate 30 noRow ++ [[13, 1, 0, 0, 0, 1, 0, 0]] ++ List.replicate 5 noRow ++ [[8, 1, 0, 0, 1, 0, 0, 0]] ++ List.replicate 23 noRow
  ++ [[14, 1, 0, 0, 0, 1, 0, 0]] ++ List.replicate 15 noRow ++ [[3, 1, 0, 0, 0, 0, 0, 0]] ++ List.replicate 16 noRow ++ [[2, 1, 3, 0, 0,
  16, 0, 0]] ++ List.replicate 16 noRow ++ [[14, 1, 0, 0, 0, 2, 0, 0]] ++ List.replicate 1 noRow ++ [[0, 1, 103, 12, 9, 0, 165, 1]] ++
  List.replicate 20 noRow
/-- Its header. -/
def cfgProgHead : List Byte :=
  [72, 88, 84, 80, 1, 0, 0, 1, 50, 0, 238, 0, 24, 8, 1, 0, 194, 32, 24, 0, 0, 0, 0, 0, 3, 0, 0, 0, 84, 85, 102, 102, 102, 102, 102, 86, 52,
  0, 221, 0, 0, 0, 0, 0, 52, 18] ++ List.replicate 18 0
/-- Its region table, status model and SFDP image. -/
def cfgProgTail : List Byte :=
  [0, 0, 0, 0, 0, 0, 1, 0, 33, 2, 221, 0, 7] ++ List.replicate 1011 0 ++ [2, 255, 0, 0, 0, 64, 0, 0, 156] ++ List.replicate 8 0 ++ [1, 10,
  11, 12, 13, 9, 255, 7, 255, 255, 255, 0, 0, 0, 0, 100, 0, 0, 0, 208, 7, 0, 0, 184, 11, 0, 0, 160, 15, 0, 0, 160, 134, 1, 0, 20, 0, 20, 0,
  244, 1, 0, 0, 0, 0, 0, 0, 83, 70, 68, 80, 6, 1, 0, 255, 0, 6, 1, 9, 16, 0, 0, 255, 0, 0, 0, 0, 255, 255, 255, 7] ++ List.replicate 28 0
/-- The program of channel 0. -/
def cfgProg : Prog :=
  cfgProgHead ++ (cfgRows.flatten ++ cfgProgTail)
/-- Domain 0 with channel 0. -/
def cfgSec1 : List Byte :=
  [1, 64, 0, 0, 0, 0, 0, 0, 0, 2, 0, 3] ++ List.replicate 8 0 ++ [1] ++ List.replicate 23 0 ++ [64, 0, 0, 0, 100, 0, 10, 0, 136, 19, 5] ++
  List.replicate 17 0
/-- A power enable, a reset output and a power-good of domain 0. -/
def cfgSec2 : List Byte :=
  [1, 0, 5, 1, 0, 0, 0, 0, 2, 0, 0, 0, 0, 0, 0, 0, 16, 0, 2, 0, 0, 0, 0, 10] ++ (List.replicate 141 [0, 255, 0, 0, 0, 0, 0, 0]).flatten
/-- One bus, one device, one partition. -/
def cfgSec3 : List Byte :=
  [1, 0, 0, 0, 1, 0, 1] ++ List.replicate 9 0 ++ [100, 0, 127, 1] ++ List.replicate 254 0 ++ [26, 3, 194, 32, 26] ++ List.replicate 10 0 ++
  [1, 1, 0, 255, 255] ++ List.replicate 9 0 ++ [2]
/-- Two tenants. -/
def cfgSec4 : List Byte :=
  [2, 0, 16, 0, 0, 0, 0, 0, 3, 0, 4, 8, 17, 0, 0, 63, 2, 0, 0, 0, 0, 0, 0, 0, 5, 0, 1, 0, 255, 255, 255, 7] ++ List.replicate 8 0
/-- Lodge rules. -/
def cfgSec5 : List Byte :=
  [1, 16, 1, 1, 246, 60, 96, 9, 0, 3, 0, 0, 0, 0, 0, 0, 64, 1, 2, 3, 1, 2] ++ List.replicate 10 0
/-- Bounds of the fourteen classes. -/
def cfgSec6 : List Byte :=
  [14, 16, 0, 0, 0, 0, 0, 0, 0, 3, 2, 10, 60, 0, 88, 2, 60, 0, 100, 0, 232, 3, 0, 0, 1, 3, 2, 10, 60, 0, 88, 2, 60, 0, 100, 0, 232, 3, 0,
  0, 2, 3, 2, 10, 60, 0, 88, 2, 60, 0, 100, 0, 232, 3, 0, 0, 3, 3, 2, 10, 60, 0, 88, 2, 60, 0, 100, 0, 232, 3, 0, 0, 4, 3, 2, 10, 60, 0,
  88, 2, 60, 0, 100, 0, 232, 3, 0, 0, 5, 3, 2, 10, 60, 0, 88, 2, 60, 0, 100, 0, 232, 3, 0, 0, 6, 3, 2, 10, 60, 0, 88, 2, 60, 0, 100, 0,
  232, 3, 0, 0, 7, 3, 2, 10, 60, 0, 88, 2, 60, 0, 100, 0, 232, 3, 0, 0, 8, 3, 2, 10, 60, 0, 88, 2, 60, 0, 100, 0, 232, 3, 0, 0, 9, 3, 2,
  10, 60, 0, 88, 2, 60, 0, 100, 0, 232, 3, 0, 0, 10, 3, 2, 10, 60, 0, 88, 2, 60, 0, 100, 0, 232, 3, 0, 0, 11, 3, 2, 10, 60, 0, 88, 2, 60,
  0, 100, 0, 232, 3, 0, 0, 12, 3, 0, 10, 60, 0, 88, 2, 60, 0, 100, 0, 232, 3, 0, 0, 13, 3, 0, 10, 60, 0, 88, 2, 60, 0, 100, 0, 232, 3, 0,
  0]
/-- Quotas of the two tenants. -/
def cfgSec7 : List Byte :=
  [1, 0, 8, 1, 100, 0, 8, 0, 3, 0, 2, 16, 200, 0, 0, 0]
/-- The program section. -/
def cfgSec8 : List Byte :=
  [1] ++ List.replicate 9 0 ++ [180, 12, 16, 0, 0, 0] ++ cfgProg
/-- Every bank at one class. -/
def cfgSec9 : List Byte :=
  List.replicate 24 1
/-- MCTP and SMBus settings. -/
def cfgSec10 : List Byte :=
  [1, 8, 64] ++ List.replicate 5 0 ++ (List.replicate 7 [0, 32, 0, 0]).flatten ++ [3, 32, 51, 0, 0, 0, 100, 0, 4] ++ List.replicate 19 0
/-- The configuration image: header, directory, sections. -/
def cfgBytes : List Byte :=
  [72, 88, 67, 70, 1, 0, 10, 0, 8, 21, 0, 0, 0, 0, 0, 0, 1, 0, 0, 0, 176, 0, 0, 0, 72, 0, 0, 0, 0, 0, 0, 0, 2, 0, 0, 0, 248, 0, 0, 0, 128,
  4, 0, 0, 0, 0, 0, 0, 3, 0, 0, 0, 120, 5, 0, 0, 48, 1, 0, 0, 0, 0, 0, 0, 4, 0, 0, 0, 168, 6, 0, 0, 40, 0, 0, 0, 0, 0, 0, 0, 5, 0, 0, 0,
  208, 6, 0, 0, 32, 0, 0, 0, 0, 0, 0, 0, 6, 0, 0, 0, 240, 6, 0, 0, 232, 0, 0, 0, 0, 0, 0, 0, 7, 0, 0, 0, 216, 7, 0, 0, 16, 0, 0, 0, 0, 0,
  0, 0, 8, 0, 0, 0, 232, 7, 0, 0, 196, 12, 0, 0, 0, 0, 0, 0, 9, 0, 0, 0, 176, 20, 0, 0, 24, 0, 0, 0, 0, 0, 0, 0, 10, 0, 0, 0, 200, 20, 0,
  0, 64, 0, 0, 0, 0, 0, 0, 0] ++ (cfgSec1 ++ (cfgSec2 ++ (cfgSec3 ++ (cfgSec4 ++ (cfgSec5 ++ (cfgSec6 ++ (cfgSec7 ++ (cfgSec8 ++
  (List.replicate 4 0 ++ (cfgSec9 ++ (cfgSec10 ++ (List.replicate 2808 0))))))))))))

theorem slice_append_left (A X : List Byte) (k n : Nat) : slice (A ++ X) (A.length + k) n = slice X k n := by
  simp [slice, List.drop_append, List.drop_eq_nil_of_le]

theorem rows_of_flatten (C : List Byte) : ∀ rs : List (List Byte), (∀ r ∈ rs, r.length = 8) →
    (List.range rs.length).map (fun k => slice (rs.flatten ++ C) (8 * k) 8) = rs
  | [], _ => rfl
  | r :: rs, h => by
    have hr : r.length = 8 := h r (by simp)
    have ih := rows_of_flatten C rs fun x hx => h x (by simp [hx])
    rw [List.length_cons, List.range_succ_eq_map, List.map_cons, List.map_map]
    congr 1
    · simp [slice, hr, List.append_assoc]
    · refine Eq.trans ?_ ih
      refine List.map_congr_left fun k _ => ?_
      have := slice_append_left r (rs.flatten ++ C) (8 * k) 8
      simpa [hr, Nat.mul_succ, Nat.add_comm, List.append_assoc] using this

theorem cfg_program_rows : (List.range 256).map (Prog.row cfgProg) = cfgRows := by
  have h : cfgRows.length = 256 := by decide +kernel
  have hh : cfgProgHead.length = 64 := by decide +kernel
  have hr := rows_of_flatten cfgProgTail cfgRows (by decide +kernel)
  rw [h] at hr
  refine Eq.trans (List.map_congr_left fun k _ => ?_) hr
  have hk := slice_append_left cfgProgHead (cfgRows.flatten ++ cfgProgTail) (8 * k) 8
  rw [hh] at hk
  exact hk

theorem cfg_program_passes : progCheck cfgProg 3252 0 1 = 0 := by
  unfold progCheck
  rw [cfg_program_rows]
  decide +kernel

theorem cfg_sections : secBytes cfgBytes 1 = cfgSec1 ∧ secBytes cfgBytes 2 = cfgSec2 ∧ secBytes cfgBytes 3 = cfgSec3 ∧ secBytes cfgBytes 4 = cfgSec4 ∧ secBytes cfgBytes 5 = cfgSec5
    ∧ secBytes cfgBytes 6 = cfgSec6 ∧ secBytes cfgBytes 7 = cfgSec7 ∧ secBytes cfgBytes 8 = cfgSec8 ∧ secBytes cfgBytes 9 = cfgSec9 ∧ secBytes cfgBytes 10 = cfgSec10 := by decide +kernel

theorem cfg_programs : parsePrograms cfgSec8 (List.replicate 24 1) = some [(0, cfgProg)] := by
  have h : (slice cfgSec8 16 3252) = cfgProg := by decide +kernel
  have hl : cfgProg.length = 3252 := by decide +kernel
  unfold parsePrograms
  have hn : fieldAt cfgSec8 0 2 = 1 := by decide +kernel
  have he : (fieldAt cfgSec8 8 1, fieldAt cfgSec8 10 2, fieldAt cfgSec8 12 4) = (0, 3252, 16) := by decide +kernel
  simp only [hn, List.range_one, List.map_cons, List.map_nil, Nat.mul_zero, Nat.add_zero, he, h]
  rw [if_pos (by decide +kernel)]
  simp [hl, cfg_program_passes, bankOfChan]

theorem cfg_header : cfgHeaderOk cfgBytes = true := by decide +kernel

def cfgDom : Dom :=
  { id := 0, flags := 2, priority := 0, failLimit := 3, pred := 0, channels := 1, manPart := 0, manOff := 0, shBase := 0, shSize := 64
    relDelay := 100, rstPulse := 10, rstreqLimit := 5000, pgSettle := 5 }

theorem cfg_doms : parseDomTable cfgSec1 (chanUsed [(0, cfgProg)] (List.replicate 24 1)) = some [cfgDom] := by
  have hd : parseDom cfgSec1 8 = some cfgDom := by decide +kernel
  have hn : fieldAt cfgSec1 0 1 = 1 := by decide +kernel
  unfold parseDomTable
  simp only [hn, List.range_one, List.map_cons, List.map_nil, Nat.mul_zero, Nat.add_zero, hd, allSome, Option.map_some]
  decide +kernel

theorem parseCfg_of_sections (img b1 b2 b3 b4 b5 b6 b7 b8 b9 b10 : List Byte) (cap g : Nat) (banks : List Nat) (ps : List (Nat × Prog)) (ds : List Dom)
    (st : Settings) (tbt : List Tbe) (lr : LRules) (hh : cfgHeaderOk img = true)
    (h1 : secBytes img 1 = b1) (h2 : secBytes img 2 = b2) (h3 : secBytes img 3 = b3) (h4 : secBytes img 4 = b4) (h5 : secBytes img 5 = b5)
    (h6 : secBytes img 6 = b6) (h7 : secBytes img 7 = b7) (h8 : secBytes img 8 = b8) (h9 : secBytes img 9 = b9) (h10 : secBytes img 10 = b10)
    (p9 : parseBanks b9 = some banks) (p8 : parsePrograms b8 banks = some ps) (p1 : parseDomTable b1 (chanUsed ps banks) = some ds)
    (p2 : (parsePclMap b2 ds banks).isSome = true) (p3 : (parseFbMap b3 banks ds).isSome = true) (hg : banks.getD bankMGB 0 = g)
    (p10 : parseSettings b10 g = some st) (p4 : (parseTbt b4 ds st).toOption = some tbt) (p5 : parseLRules b5 = .ok lr) (p6 : (parseBounds b6 cap).isSome = true)
    (p7 : (parseQuotas b7 tbt).isSome = true) : (parseCfg img cap).isSome = true := by
  obtain ⟨x2, p2⟩ := Option.isSome_iff_exists.mp p2
  obtain ⟨x3, p3⟩ := Option.isSome_iff_exists.mp p3
  obtain ⟨x6, p6⟩ := Option.isSome_iff_exists.mp p6
  obtain ⟨x7, p7⟩ := Option.isSome_iff_exists.mp p7
  have p4 : parseTbt b4 ds st = .ok tbt := by
    cases h : parseTbt b4 ds st with
    | error e => rw [h] at p4; cases p4
    | ok x => rw [h] at p4; cases p4; rfl
  unfold parseCfg
  rw [hh, h1, h2, h3, h4, h5, h6, h7, h8, h9, h10]
  simp only [Bool.not_true, Bool.false_eq_true, if_false, p9, p8, p1, p2, p3, hg, p10, p4, p5, p6, p7, Option.isSome_some]

def cfgSett : Settings :=
  { pcieEn := true, pcieEid := 8, txMtu := 64, espiEid := 0, hbeat := 0, reasmMs := 100, sessions := 4
    ports := List.replicate 7 { mode := 0, addr := 32, eid := 0, speed := 0 } ++ [{ mode := 3, addr := 32, eid := 51, speed := 0 }] }
def cfgTbt : List Tbe := (parseTbt cfgSec4 [cfgDom] cfgSett).toOption.getD []

theorem cfg_tbt : (parseTbt cfgSec4 [cfgDom] cfgSett).toOption = some cfgTbt := by decide +kernel

theorem cfg_parses : (parseCfg cfgBytes 1).isSome = true := by
  obtain ⟨h1, h2, h3, h4, h5, h6, h7, h8, h9, h10⟩ := cfg_sections
  have hr : (parseLRules cfgSec5).toOption.isSome = true := by decide +kernel
  cases h : parseLRules cfgSec5 with
  | error e => rw [h] at hr; cases hr
  | ok lr =>
    exact parseCfg_of_sections _ _ _ _ _ _ _ _ _ _ _ 1 1 (List.replicate 24 1) [(0, cfgProg)] [cfgDom] cfgSett cfgTbt lr cfg_header
      h1 h2 h3 h4 h5 h6 h7 h8 h9 h10 (by decide +kernel) cfg_programs cfg_doms (by decide +kernel) (by decide +kernel) (by decide)
      (by decide +kernel) cfg_tbt h (by decide +kernel) (by decide +kernel)

/-- The manifest of one image of `n` bytes whose digest is zero, signed as `ownMsg` is. -/
def imgMan (cls n : Nat) : List Byte :=
  let z (n : Nat) : List Byte := List.replicate n 0
  [0x48, 0x53, 0x54, 0x41] ++ leBytes 2 1 ++ leBytes 2 64 ++ leBytes 1 cls ++ [1, 12, 8, 1, 2, 0, 0] ++ leBytes 4 1 ++ leBytes 4 7 ++ leBytes 4 1884
    ++ leBytes 4 160 ++ z 32 ++ ([0xFF, 0, 0, 0] ++ leBytes 4 0 ++ leBytes 4 n ++ z 4 ++ leBytes 4 0xFFFFFFFF ++ z 76)
    ++ leBytes 2 164 ++ leBytes 2 96 ++ leBytes 2 1456 ++ z 2 ++ leBytes 1 2 ++ z 1 ++ leBytes 2 60
    ++ leBytes 1 4 ++ beBytes 48 gxp ++ beBytes 48 gyp ++ z 3 ++ beBytes 4 1 ++ beBytes 4 6 ++ beBytes 4 4 ++ z 48
    ++ beBytes 48 gxp ++ beBytes 48 gxp ++ z 11 ++ [4] ++ z 1123 ++ [6] ++ z 320

theorem imgMan_length : (imgMan 254 4096).length = 1884 ∧ (imgMan 255 8192).length = 1884 := by decide +kernel

theorem root_zero (hs : Config.sha384 = fun _ => 0) (bs : List Byte) (h : bs.length = 4096 ∨ bs.length = 8192) :
    regionRoot bs = List.replicate 48 0 := by
  have hn (c : Nat) (x : List Byte) : nodeHash c x = List.replicate 48 0 := by
    unfold nodeHash shaBytes
    rw [hs]
    show beBytes 48 0 = _
    decide +kernel
  obtain h | h := h <;> simp [regionRoot, h, cutLeaves, rootOf, nextLevel, hn]

/-- The device is OWNED by the key of `ownSt`, with the trained capacity of one. -/
def romSt (g : Stage) : State :=
  let s := (stageAt g (State.reset.setF LCS_STAT_STATE lcOWNED)).setF SYSCTL_ID_DRAM_CAP 1
  { s with otp := { s.otp with keys := [some ⟨7, List.replicate 48 0, false⟩] } }

theorem imgClass_passes (hs : Config.sha384 = fun _ => 0) (hv : Config.lmsVerify = fun _ _ _ => true) (img : List Byte) :
    (img.length = 4096 → (classChecks (romSt .rom) 254 (imgMan 254 4096) img 4096).map (·.1) = List.replicate 5 true)
      ∧ (img.length = 8192 → (classChecks (romSt .rom) 255 (imgMan 255 8192) img 8192).map (·.1) = List.replicate 5 true)
      ∧ (img.length = 4096 → (classChecks (romSt .recovery) 254 (imgMan 254 4096) img 4096).map (·.1) = List.replicate 5 true) := by
  refine ⟨?_, ?_, ?_⟩
  all_goals
    intro hl
    have hr := root_zero hs img (by omega)
    unfold classChecks
    rw [hr, hl]
    unfold parseManifest shaBytes SigBlock.verify
    rw [hs, hv]
    clear hr hl img hs hv
    decide +kernel

theorem firstFail_none : ∀ (l : List (Bool × Code)) (k : Nat), (∀ p ∈ l, p.1 = true) → firstFail none k l = none
  | [], _, _ => rfl
  | (b, c) :: t, k, h => by
    have hb : b = true := h (b, c) (by simp)
    simp [firstFail, hb, firstFail_none t (k + 1) fun p hp => h p (by simp [hp])]

theorem all_of_map (l : List (Bool × Code)) (n : Nat) (h : l.map (·.1) = List.replicate n true) : ∀ p ∈ l, p.1 = true := by
  intro p hp
  have : p.1 ∈ l.map (·.1) := List.mem_map_of_mem hp
  rw [h] at this
  exact List.eq_of_mem_replicate this

theorem romSt_cap : rf (romSt .rom) SYSCTL_ID_DRAM_CAP = 1 ∧ cfgBytes.length = 8192 := by decide +kernel

/-- A boot directory for those images, and the copy. -/
def dirBytes : List Byte :=
  [0x48, 0x58, 0x42, 0x44] ++ leBytes 2 1 ++ leBytes 2 64 ++ leBytes 4 0x1000 ++ leBytes 4 1884 ++ leBytes 4 0x2000 ++ leBytes 4 4096
    ++ leBytes 4 0x3000 ++ leBytes 4 1884 ++ leBytes 4 0x4000 ++ leBytes 4 8192 ++ leBytes 4 0x10000 ++ leBytes 4 0x100000 ++ leBytes 8 1
    ++ leBytes 4 0 ++ leBytes 4 0xdb276d39
def goodCopy : CopyImage :=
  { sfdpOk := true, devSize := 0x1000000, dir := dirBytes, fwMan := imgMan 254 4096, fwImg := List.replicate 4096 0, cfgMan := imgMan 255 8192
    cfgImg := cfgBytes, timeoutAt := none }

theorem witness_CopiesRecoveryAndHandover_passes (hs : Config.sha384 = fun _ => 0) (hv : Config.lmsVerify = fun _ _ _ => true) :
    firstFail goodCopy.timeoutAt 1 (copyChecks (romSt .rom) goodCopy) = none := by
  obtain ⟨h7, h9⟩ := romSt_cap
  have hd : (parseBootDir dirBytes 0x1000000).map (fun d => (d.fwManLen, d.fwLen, d.cfgManLen, d.cfgLen)) = some (1884, 4096, 1884, 8192) := by
    decide +kernel
  have hc : goodCopy.dir = dirBytes ∧ goodCopy.devSize = 0x1000000 ∧ goodCopy.cfgImg = cfgBytes := ⟨rfl, rfl, rfl⟩
  apply firstFail_none
  unfold copyChecks
  rw [hc.1, hc.2.1, hc.2.2, h7, cfg_parses]
  cases hp : parseBootDir dirBytes 0x1000000 with
  | none => rw [hp] at hd; cases hd
  | some d =>
    rw [hp] at hd
    simp only [Option.map_some, Option.some.injEq, Prod.mk.injEq] at hd
    obtain ⟨d1, d2, d3, d4⟩ := hd
    have e1 : slice goodCopy.fwMan 0 d.fwManLen = imgMan 254 4096 := by rw [d1]; decide +kernel
    have e2 : slice goodCopy.cfgMan 0 d.cfgManLen = imgMan 255 8192 := by rw [d3]; decide +kernel
    have c1 := all_of_map _ _ ((imgClass_passes hs hv goodCopy.fwImg).1 List.length_replicate)
    have c2 := all_of_map _ _ ((imgClass_passes hs hv cfgBytes).2.1 h9)
    simp only [e1, e2, d2, d4, List.mem_cons, List.mem_append, List.not_mem_nil, or_false]
    intro p hp
    rcases hp with ((rfl | hp) | hp) | rfl
    · rfl
    · exact c1 p hp
    · exact c2 p hp
    · rfl

theorem witness_CopiesRecoveryAndHandover :
    (romSt .rom).boot.stage = .rom ∧ nextCopy (romSt .rom) = some 0 ∧ (romSt .rom).upd.job = none
      ∧ (let s := (romSt .rom).modBoot fun b => { b with bootCopies := 1 }
         let bad := { goodCopy with sfdpOk := false, dir := [] }
         nextCopy s = some 1 ∧ firstFail bad.timeoutAt 1 (copyChecks s bad) ≠ none ∧ s.boot.restart = none
          ∧ runs (.copyReadDone bad) s (fun t => t.boot.stage = .recovery && rb t SYSCTL_PIN_STAT_FAULT_OUT) = true) := by decide +kernel

theorem witness_CopiesRecoveryAndHandover_image (hs : Config.sha384 = fun _ => 0) (hv : Config.lmsVerify = fun _ _ _ => true) :
    (romSt .recovery).boot.stage = .recovery
      ∧ firstFail none 2 (classChecks (romSt .recovery) 254 (imgMan 254 4096) (List.replicate 4096 0) 4096
        ++ [((254 = 254 || (parseCfg (List.replicate 4096 0) (rf (romSt .recovery) SYSCTL_ID_DRAM_CAP)).isSome) && decide (4096 ≤ 917504)
          && decide ((imgMan 254 4096).length ≤ 65536), .malformed)]) = none := by
  refine ⟨rfl, firstFail_none _ _ ?_⟩
  have c1 := all_of_map _ _ ((imgClass_passes hs hv (List.replicate 4096 0)).2.2 List.length_replicate)
  intro p hp
  rw [imgMan_length.1] at hp
  rcases List.mem_append.mp hp with hp | hp
  · exact c1 p hp
  · rw [List.mem_singleton.mp hp]
    rfl

theorem witness_CopiesRecoveryAndHandover_handover :
    (let s := (romSt .passed).modBoot fun b => { b with img := some Tests.bootImg }
     s.boot.stage = .passed ∧ s.boot.img = some Tests.bootImg ∧ Tests.bootImg.fwImg.length ≤ cfgBase - fwBase) := by decide +kernel

/-- `assembling` with three items in the DRBG's queue. -/
def assemblingItems : State := assembling.modRng fun r => { r with queue := List.replicate 3 (List.replicate 48 1) }
theorem witness_AssemblyEndsAndLedgerReplays :
    mode assemblingItems = moASSEMBLY ∧ assemblingItems.boot.stage = .firmware ∧ assemblingItems.boot.training = 0
      ∧ planeAble assemblingItems = true ∧ assemblingItems.loadPlaneKeys.2 = true := by decide +kernel
theorem witness_AssemblyEndsAndLedgerReplays_replay : ledger (ledgerAt 1) = 1
      ∧ ledger (((ledgerAt 1).ledgerReplay [] []).each (((ledgerAt 1).ledgerReplay [] []).ldr.force.map (·.1)) State.adoptEntries) ≠ 6 := by
  decide +kernel

theorem witness_StartSequenceAdvances_otp :
    (stageAt .clocks).boot.stage = .clocks := by decide +kernel

theorem witness_DomainSequences_pass :
    domState (loading { load2 with admitted := [2] }) 0 = stVERIFYING ∧ allAdmitted (loading { load2 with admitted := [2] }) 0 = true
      ∧ runs (.domainPass 0) (loading { load2 with admitted := [2] }) (fun t => rb t (GATE_DOM_STAT_VERIFIED 0)) = true := by decide +kernel

/-! ### Where commands complete -/

theorem witness_BusPowerAndBootCommandsComplete_accesses :
    accessFault tcmBase 4 true = false ∧ inBar tcmBase = false ∧ inTcm tcmBase 4 = true ∧ inXo live tcmBase = false
      ∧ accessFault SYSCTL_CLKSEL 4 true = false ∧ inBar SYSCTL_CLKSEL = false ∧ inTcm SYSCTL_CLKSEL 4 = false
      ∧ accessFault (TN_REQ 0) 4 true = false ∧ inBar (TN_REQ 0) = true
      ∧ accessFault SYSCTL_CLKSEL 4 false = false ∧ dbgReads (atLevel 1) SYSCTL_CLKSEL = true ∧ bootRomSize ≤ SYSCTL_CLKSEL
      ∧ accessFault 0x10200000 4 false = true ∧ SYSCTL_CLKSEL ≠ LCS_REQUEST ∧ dbgWrites (atLevel 3) SYSCTL_CLKSEL = true := by decide +kernel

theorem witness_BusPowerAndBootCommandsComplete_power :
    heldDev.boot.stage = .held ∧ mode heldDev ≠ moDORMANT ∧ sybLive live = true ∧ mode live ≠ moDORMANT
      ∧ rb live SYSCTL_RSTCAUSE_PIN_IGNORED = false ∧ live.atomicUntil ≤ live.usec
      ∧ pinStuck.boot.stage = .held ∧ pinStuck.boot.pinLow = true ∧ pinStuck.boot.supplies = 15 ∧ rb pinStuck SYSCTL_RSTCAUSE_PIN_IGNORED = false
      ∧ live.boot.pinLow = false ∧ (live.modBoot fun b => { b with deferred := some rcSWDEV }).boot.deferred = some rcSWDEV
      ∧ bootKeyOk 0x5A3C0001 = true ∧ (0x5A3C0001 : Nat).testBit 0 = true ∧ bootKeyOk 0x5A3C0006 = true
      ∧ (0x5A3C0006 : Nat).testBit 1 = true := by decide +kernel

theorem witness_BusPowerAndBootCommandsComplete_clocks :
    (stageAt .reset1).boot.stage = .reset1 ∧ activePll (stageAt .reset1) = 0 ∧ rb (stageAt .reset1) SYSCTL_CLKSTAT_HOLDOVER = false
      ∧ bitsAt 0xC3D20000 16 16 = 0xC3D2 ∧ dogRuns.boot.wdtEnd = some 5 ∧ rb dogRuns SYSCTL_WDT_CTL_EN = true
      ∧ bvRuns (live.raise SYSCTL_SPARE_STAT_BV_STANDBY) = true ∧ standby (live.raise SYSCTL_SPARE_STAT_BV_STANDBY) = true
      ∧ refOf clocked (activePll clocked) = 0 ∧ activePll clocked = 0 ∧ rb clocked (lockFld (1 - activePll clocked)) = true := by decide +kernel

theorem witness_BusPowerAndBootCommandsComplete_planes :
    serving live 1 = true ∧ (1 : Nat).testBit 0 = true ∧ rebuildCode planeADown 0 1 = none ∧ (2 : Nat).testBit 1 = true
      ∧ rebuildCode planeBDown 1 2 = none ∧ planeSt (planeBDown.setF (planeFld 1) plREBUILDING) 1 = plREBUILDING
      ∧ serving (planeBDown.setF (planeFld 1) plREBUILDING) 0 = true ∧ planeSt planeADown 0 = plISOLATED ∧ planeSt planeBDown 1 = plISOLATED
      ∧ 0x10000 / 65536 % 4 = 1 ∧ 0x20000 / 65536 % 4 = 2
      ∧ bankClass live 23 ≠ 3 ∧ live.gate.applied = false ∧ bankFloated (live.modBoot fun b => { b with floated := 2 ^ 23 }) 23 = true
      ∧ bankMatches (live.modBoot fun b => { b with floated := 2 ^ 23 }) 23 = true
      ∧ rf live SYSCTL_TEMP_WARN_AT ≤ 127 ∧ rb live SYSCTL_TEMP_VALID = false ∧ live.boot.tempHot = false
      ∧ rb ((live.raise SYSCTL_PIN_STAT_PERST_LVL).raise MTRANS_STAT_PCIE_EN) SYSCTL_PIN_STAT_PERST_LVL = true
      ∧ rb ((live.raise SYSCTL_PIN_STAT_PERST_LVL).raise MTRANS_STAT_PCIE_EN) MTRANS_STAT_PCIE_EN = true := by decide +kernel

/-- ASSEMBLY with every section applied and three items in the DRBG's queue; witnesses of a passing copy and a passing image stand above. -/
def assemblingReady : State :=
  ((assemblingItems.raise FBUS_STAT_MAP_APPLIED).raise KIOSK_STAT_TBT_APPLIED).raise MTRANS_STAT_APPLIED

theorem witness_BusPowerAndBootCommandsComplete_boot :
    (stageAt .clocks).boot.stage = .clocks ∧ (stageAt .otp).boot.stage = .otp ∧ (stageAt .otp).boot.testen = false
      ∧ (stageAt .otp).boot.restart = none ∧ ((romSt .passed).modBoot fun b => { b with img := some Tests.bootImg }).boot.stage = .passed
      ∧ training0.boot.training.testBit 0 = true
      ∧ mode assemblingReady = moASSEMBLY ∧ assemblingReady.boot.stage = .firmware ∧ assemblingReady.boot.training = 0
      ∧ sectionsApplied assemblingReady = true ∧ planeAble assemblingReady = true ∧ assemblingReady.loadPlaneKeys.2 = true := by decide +kernel

theorem witness_DomainAndLoaderCommandsComplete_gate :
    domExists rel0 0 = true ∧ rf rel0 GATE_CMD_GEN_GEN = domGen rel0 0 ∧ mode rel0 ≠ moASSEMBLY ∧ released rel0 0 = true ∧ modeRun rel0 = true
      ∧ releaseOk (domAt 0 stHELD) 0 = true ∧ domState ((domAt 0 stPARKED).modDomX 0 fun x => { x with nursery := true }) 0 = stPARKED
      ∧ (domX ((domAt 0 stPARKED).modDomX 0 fun x => { x with nursery := true }) 0).nursery = true ∧ domState rel0 0 ≠ stQUARANTINED
      ∧ rf live1 GATE_CMD_GEN_GEN = rf live1 SYSCTL_MODE_GEN_GEN ∧ modeRun live1 = true := by decide +kernel

theorem witness_DomainAndLoaderCommandsComplete_sequences :
    (domX (seqAt (.hold 0)) 0).seq = .hold 0 ∧ domState (loading { load2 with admitted := [2] }) 0 = stVERIFYING
      ∧ allAdmitted (loading { load2 with admitted := [2] }) 0 = true ∧ (predsOf (domAt 0 stRELEASED) 47).any (released (domAt 0 stRELEASED)) = true
      ∧ (domX (seqAt (.rel 0)) 0).seq = .rel 0 ∧ stepWaitsPg (seqAt (.rel 0)) 0 0 = false
      ∧ (domX (seqAt (.rel 1)) 0).seq = .rel 1 ∧ stepWaitsPg (seqAt (.rel 1)) 0 1 = true
      ∧ pclOf (domAt 0 stRELEASED) 3 = some ⟨0x11, 0, 0, 0, 0, 0⟩ ∧ (⟨0x11, 0, 0, 0, 0, 0⟩ : Pcl).input = true ∧ (⟨0x11, 0, 0, 0, 0, 0⟩ : Pcl).resetReq = true
      ∧ bankFloated (domAt 0 stRELEASED) (bankOfPcl 3) = false ∧ (domX (seqAt .pulse) 0).seq = .pulse ∧ (domX (seqAt .pulse) 0).reqLine = none
      ∧ lineValid ((domAt 0 stRELEASED).setF ⟨GATE_PCL_STAT 3, 0, 5⟩ 0xB) 3 = true
      ∧ lineAsserted ((domAt 0 stRELEASED).setF ⟨GATE_PCL_STAT 3, 0, 5⟩ 0xB) 3 = true
      ∧ rb ((domAt 0 stRELEASED).setF ⟨GATE_PCL_STAT 3, 0, 5⟩ 0xB) (GATE_PCL_STAT_IGNORED 3) = false
      ∧ (domX ((domAt 0 stRELEASED).setF ⟨GATE_PCL_STAT 3, 0, 5⟩ 0xB) 0).seq ≠ .pulse
      ∧ rb ((domAt 0 stRELEASED).setF ⟨GATE_PCL_STAT 3, 0, 5⟩ 0x10) (GATE_PCL_STAT_IGNORED 3) = true
      ∧ lineAsserted ((domAt 0 stRELEASED).setF ⟨GATE_PCL_STAT 3, 0, 5⟩ 0x10) 3 = false := by decide +kernel

theorem witness_DomainAndLoaderCommandsComplete_loader :
    loadOf (loading load0) 0 = some load0 ∧ domCfg (loading load0) 0 = some dom0 ∧ manTurn (loading load0) 0 = true
      ∧ rb (loading load0) FBUS_STAT_DISC_DONE = true ∧ lanesOn (loading load0) ≠ 0 ∧ fbLive (loading load0) (manBus (loading load0) 0) = true
      ∧ partReason (loading load0) dom0.manPart = 0 ∧ devIdle (loading load0) (devOfPart (loading load0) dom0.manPart) = true
      ∧ busServes (loading load0) (manBus (loading load0) 0) 3 = true ∧ (check1 (loading load0) dom0 manBytes).isSome = true
      ∧ (loading load1).ldr.buf = none ∧ (manQueue (loading load1)).head? = some 0 ∧ (undecided (loading load1)).contains 0 = true
      ∧ manBufOk ((loading load1).setReg LOADER_MAN_BUF 0x10010000) = true ∧ loadOf (loading load1) 0 = some load1 ∧ load1.man = some man0
      ∧ rf inBuf LOADER_CMD_GEN_GEN = domGen inBuf 0 ∧ manDecidable inBuf 0 = true ∧ rf rel0 LOADER_CMD_GEN_GEN = domGen rel0 0
      ∧ hasJob rel0 0 = false ∧ modeServe rel0 = true ∧ reverifying revDone 0 = true
      ∧ triesOf (loading load0) (32 + 0) < 3 ∧ loadOf revDone 0 = some { load2 with reverify := true, admitted := [2] }
      ∧ allRead { load2 with reverify := true, admitted := [2] } = true := by decide +kernel

theorem witness_StoreCommandsComplete_staging :
    ledger (ledgerAt 1) = 1 ∧ stageAllocCode (orArgs 1 0 0) = none ∧ ((orArgs 1 0 0).stageAlloc (arg0 (orArgs 1 0 0)) none).isSome = true
      ∧ stageWriteCode staged 127 = none ∧ stageOf staged 127 = some ⟨1, 1, none, [], false⟩ ∧ tcmPoisoned staged (arg1 staged) (arg2 staged) = false
      ∧ stageHashCode hashArgs 127 = none ∧ stageOf hashArgs 127 = some ⟨1, 1, none, [], false⟩ ∧ stageFreeCode staged 127 = none
      ∧ revokeCode ((domAt 0 stPARKED).setF ORANGERY_CMD_GEN_GEN 1) 0 = none
      ∧ (running ⟨2, 127, 0, 64, false, false⟩).orang.cmd = some ⟨2, 127, 0, 64, false, false⟩ := by decide +kernel

/-- A leaf of zeros is expected as leaf 0 of the extent of `withExt`. -/
def expecting (s : State) : State := s.putNode 0 0 0 (leafHash [])

theorem witness_StoreCommandsComplete_leaves :
    extIx 0 0 = 0 ∧ leafRead (expectedHashes (expecting waiting) 0 0) [] [] = true
      ∧ ((nextRefetch (expecting waiting) (busOfDev (expecting waiting) (devOfPart (expecting waiting) (extOf (expecting waiting) 0).srcPart))).any
          fun q => q.ext = 0 && q.leaf = 1) = true
      ∧ lanesOn (expecting waiting) ≠ 0 ∧ extReadable (expecting waiting) 0 = true
      ∧ lostFull.orang.lost.length = 256 ∧ lostFull.orang.lost.contains (0, 1) = false ∧ (extOf lostFull 0).valid = true
      ∧ 4096 * 1 < (extOf lostFull 0).len ∧ extReadable lostFull 0 = true ∧ leafRead (expectedHashes lostFull 0 1) [] [0] = true := by
  have h : leafRead (expectedHashes (expecting waiting) 0 0) [] [] = true := by
    have e : expectedHashes (expecting waiting) 0 0 = [leafHash []] := by rfl
    rw [e]; simp [leafRead]
  refine ⟨by decide +kernel, h, ?_⟩
  decide +kernel

theorem witness_StoreCommandsComplete_rekey :
    rekeyQ0.orang.rekeyQ = [0] ∧ rb rekeyQ0 ORANGERY_STAT_REKEY_ACTIVE = false ∧ lockdown rekeyQ0 = false ∧ epochsLeft rekeyQ0 1 = true
      ∧ rb (rekeyAt 2) ORANGERY_STAT_REKEY_ACTIVE = true
      ∧ (extOf (rekeyAt 2) (rekeyExt (rekeyAt 2))).len / 4096 ≤ rf (rekeyAt 2) ORANGERY_REKEY_STAT_BLOCK
      ∧ rf (rekeyAt 1) ORANGERY_REKEY_STAT_BLOCK < (extOf (rekeyAt 1) (rekeyExt (rekeyAt 1))).len / 4096
      ∧ ledger (wtAt 2) = 2 ∧ ledgerFull (wtAt 2) = false ∧ devIdle (wtAt 2) (ledgerDev (wtAt 2)) = true
      ∧ ledger (ledgerAt 2) = 2 ∧ rvAt reverifier = some (0, 0, 0) ∧ rb reverifier ORANGERY_RV_CTRL_EN = true ∧ lanesOn reverifier ≠ 0
      ∧ devIdle reverifier (devOfPart reverifier (extOf reverifier 0).srcPart) = true
      ∧ busServes reverifier (busOfDev reverifier (devOfPart reverifier (extOf reverifier 0).srcPart)) 4 = true ∧ reverifier.orang.wts = [] := by
  decide +kernel

/-- Leaf 0 of `reverifier` matches, and the step leaves SHADOW_EN clear. -/
theorem witness_StoreCommandsComplete_rvLeaf (s : State)
    (h : s = reverifier.busServed (busOfDev reverifier (devOfPart reverifier (extOf reverifier 0).srcPart)) 4) :
    leafRead (expectedHashes reverifier 0 0) [] [] = true ∧ rb (s.rvJudge 0 0 0 [] []) ORANGERY_RV_CTRL_SHADOW_EN = false := by
  have e : expectedHashes reverifier 0 0 = [leafHash []] := by rfl
  have e' : expectedHashes s (extIx 0 0) 0 = [leafHash []] := by subst h; rfl
  have k : s.rvJudge 0 0 0 [] [] = s := by simp [State.rvJudge, State.rereadDone, leafPick, e']
  have z : rb s ORANGERY_RV_CTRL_SHADOW_EN = false := by subst h; rfl
  exact ⟨by rw [e]; simp [leafRead], by rw [k]; exact z⟩

/-- What the later premises of these statements ask: awake, no wipe, buses that serve, a reference beside the lost one. -/
def refBoth : State := clocked.raise SYSCTL_CLKSEL_REF_B_EN

theorem witness_BusPowerAndBootCommandsComplete_references :
    asleep live = false ∧ live.lcs.scrap = 0 ∧ asleep rel0 = false ∧ asleep (domAt 0 stHELD) = false
      ∧ runs (.referenceLost 1) clocked (fun t => activePll t = 0 && !rb t (refFld 1)) = true
      ∧ runs (.referenceLost 0) refBoth (fun t => activePll t = 1 && refOf t (activePll t) = 1 && rb t SYSCTL_SPARE_EVT_SPARE_LOW) = true
      ∧ runs (.referenceLost 0) autoOff (fun t => activePll t = 0 && !rb t SYSCTL_SPARE_EVT_SPARE_LOW) = true := by decide +kernel

theorem witness_StoreCommandsComplete_buses :
    devLive (ledgerAt 1) (ledgerDev (ledgerAt 1)) = true ∧ devFree (wtAt 2) (ledgerDev (wtAt 2)) 1 = true
      ∧ busServes (wtAt 2) (busOfDev (wtAt 2) (ledgerDev (wtAt 2))) 2 = true ∧ (devX (wtAt 2) (ledgerDev (wtAt 2))).other ≠ 1
      ∧ rf reverifier ORANGERY_RV_CTRL_RATE ≠ 0 ∧ load0.aborted = false ∧ (chanOf (espi0 [] [] []) 0).espiMax = 64
      ∧ (running ⟨2, 127, 0, 64, false, false⟩).orang.cmd.map (·.op) ≠ some 3 := by decide +kernel

/-- The decoded row of a frame at channel 0, executed as class `cls`. -/
def runsAs (s : State) (f : Frame) (cls : Nat) : Bool :=
  match frameDecode s f with
  | some d => d.cls = cls && !busyIgnores s f.ch cls d.row
  | none => false

theorem witness_PortCommandsComplete_rows :
    runsAs port0 (frame 0) 0 = true ∧ runsAs welSet (frame 1) 1 = true ∧ runsAs welSet (frame 2) 2 = true ∧ runsAs welSet (frame 3) 3 = true
      ∧ runsAs port0 (frame 4) 4 = true ∧ runsAs port0 (frame 5) 5 = true ∧ decodes port0 6 6 = true ∧ decodes port0 7 7 = true
      ∧ decodes port0 8 8 = true ∧ decodes port0 9 9 = true ∧ decodes opRuns 10 10 = true ∧ decodes suspended0 11 11 = true
      ∧ runsAs port0 (frame 12) 12 = true ∧ runsAs armed (frame 13) 13 = true
      ∧ ([14, 15, 16, 17, 18, 19, 20].all fun k => runsAs port0 (frame k) 14) = true ∧ runsAs port0 (frame 21) 15 = true
      ∧ ((frameDecode port0 (frame 14)).any fun d => !rowNeedsWel d.row && rowArg d.row = 1) = true
      ∧ ((frameDecode port0 (frame 20)).any fun d => !rowNeedsWel d.row && rowArg d.row = 7) = true
      ∧ ((frameDecode port0 (frame 7)).any fun d => !rowNeedsWel d.row && !srpBlocks (atFrame port0 (frame 7)) (frame 7) d) = true
      ∧ ([6, 8, 9].all fun k => (frameDecode port0 (frame k)).any fun d => decide (0 < outLen (atFrame port0 (frame k)) (frame k) d)) = true
      ∧ complete (frame 4) = true ∧ (chanOf armed 0).rstArmed = true ∧ anyServing port0 = true := by decide +kernel

theorem witness_PortCommandsComplete_writes :
    rb welSet (CH_PORT_STAT_WEL 0) = true ∧ ((frameDecode welSet (frame 1)).any fun d => dataIn (atFrame welSet (frame 1)) (frame 1) d = [0x5A]) = true
      ∧ touchesSuspended (atFrame welSet (frame 1)) 0 0 1 = false ∧ rangeAct prog0 1 0 1 = (5, 0)
      ∧ touchesSuspended (atFrame welSet (frame 2)) 0 0 4096 = false ∧ ((frameDecode welSet (frame 2)).any fun d => 2 ^ rowArg d.row = 4096) = true
      ∧ touchesSuspended (atFrame welSet (frame 3)) 0 0 (2 ^ 24) = false
      ∧ rb opRuns (CH_PORT_STAT_WIP 0) = true ∧ canSuspend (chanOf opRuns 0) = true ∧ rb suspended0 (CH_PORT_STAT_SUSPENDED 0) = true := by decide +kernel

theorem witness_PortCommandsComplete_events :
    portLive (late0 14) 0 = true ∧ serving (late0 14) 0 = true ∧ serving (late0 14) 1 = true ∧ lateOf (late0 14) 0 < 15
      ∧ (extOf (late0 14) (extIx 0 0)).valid = true ∧ 1 < (extOf (late0 14) (extIx 0 0)).len
      ∧ rf (pulse0 1) (CH_PORT_CFG_ALERT_MODE 0) = 1 ∧ rf (pulse0 1) (CH_PORT_CFG_MODE 0) ≠ modeESPI
      ∧ (chanOf port0 95).feBad = 0 ∧ rf port0 (CH_PORT_STAT_FE_ACTIVE 95) = 0 := by decide +kernel

theorem witness_PortCommandsComplete_espi :
    espiLive (espi0 [] [] []) 0 = true ∧ tagFree (espi0 [] [] []) 0 15 = true ∧ (progOf (espi0 [] [] []) 0).mode = modeESPI
      ∧ portLive (espi0 [] [] []) 0 = true ∧ 0x100000 % (progOf (espi0 [] [] []) 0).devSize + 64 ≤ (progOf (espi0 [] [] []) 0).devSize
      ∧ espiLive (espi0 [req0 [1, 2]] [3] []) 0 = true ∧ (chanOf (espi0 [req0 [1, 2]] [3] []) 0).espi.find? (·.tag = 15) = some (req0 [1, 2])
      ∧ (req0 [1, 2]).state = 0 ∧ (req0 [1, 2]).kind = 0
      ∧ (chanOf (espi0 [{ req0 [1, 2] with state := 1 }] [15] []) 0).ready = [15]
      ∧ (req0 [1, 2]).parts.any (lineStale (espi0 [{ req0 [1, 2] with state := 1 }] [15] [])) = false := by decide +kernel

theorem witness_PortCommandsComplete_trellis :
    trLoadCode (pend95 0 0) 95 3200 = none ∧ pendOf (pend95 1 0) 95 = pendLOADING ∧ (chanOf (pend95 1 0) 95).loadCode = 0
      ∧ activateCode (pend95 2 0) 95 = none ∧ pendOf (pend95 2 0) 95 = pendLOADED ∧ pendOf (pend95 3 0) 95 = pendSWAP := by decide +kernel

end Sys2Proof.Tests
end

section
/-! The register and memory accesses of chapter 0: where an address lies, and what each access command does there (R4 to R9, R30, R388). -/

namespace Sys2Proof.Machine

/-! ### Where an address lies (R30) -/

theorem inBlocks_bounds {a : Nat} (h : inBlocks a = true) : 0x40000000 ≤ a ∧ a < 0x40410000 := by
  simp only [inBlocks, blockRanges, List.any_cons, List.any_nil, Bool.or_false, Bool.or_eq_true, Bool.and_eq_true, decide_eq_true_eq] at h
  omega

theorem inBar_bounds {a : Nat} (h : inBar a = true) : 0x100000000 ≤ a := by
  simp only [inBar, Bool.and_eq_true, decide_eq_true_eq] at h
  simp only [TN_REQ] at h
  omega

theorem inTcm_bounds {a n : Nat} (h : inTcm a n = true) : 0x10000000 ≤ a ∧ a + n ≤ 0x10200000 := by
  simp only [inTcm, Bool.and_eq_true, decide_eq_true_eq] at h
  exact h

/-- The blocks end below the Kiosk BAR. -/
theorem inBar_of_inBlocks {a : Nat} (h : inBlocks a = true) : inBar a = false := by
  refine Bool.eq_false_iff.2 fun hb => ?_
  have := inBlocks_bounds h
  have := inBar_bounds hb
  omega

/-- TCM ends below the blocks. -/
theorem inTcm_of_inBlocks {a n : Nat} (h : inBlocks a = true) : inTcm a n = false := by
  refine Bool.eq_false_iff.2 fun hb => ?_
  have := inBlocks_bounds h
  have := inTcm_bounds hb
  omega

theorem inBlocks_of_inTcm {a n : Nat} (h : inTcm a n = true) : inBlocks a = false := by
  refine Bool.eq_false_iff.2 fun hb => ?_
  rw [inTcm_of_inBlocks hb] at h
  exact Bool.false_ne_true h

theorem inBar_of_inTcm {a n : Nat} (h : inTcm a n = true) : inBar a = false := by
  refine Bool.eq_false_iff.2 fun hb => ?_
  have := inTcm_bounds h
  have := inBar_bounds hb
  omega

/-- A part of a span of TCM lies in TCM. -/
theorem inTcm_mono {a n m : Nat} (h : inTcm a n = true) (hm : m ≤ n) : inTcm a m = true := by
  simp only [inTcm, Bool.and_eq_true, decide_eq_true_eq] at h ⊢
  omega

/-! ### Which accesses fault (R7, R9, R30) -/

/-- An aligned word of a block is accessible. -/
theorem accessFault_aligned_word {a : Nat} (w : Bool) (h : inBlocks a = true) (ha : a % 4 = 0) : accessFault a 4 w = false := by
  simp [accessFault, h, ha]

/-- TCM takes accesses of every width. -/
theorem accessFault_inTcm {a n : Nat} (w : Bool) (h : inTcm a n = true) : accessFault a n w = false := by
  have hr : ¬ a < bootRomSize := by
    have := inTcm_bounds h
    simp only [bootRomSize]; omega
  simp [accessFault, inBlocks_of_inTcm h, inBar_of_inTcm h, hr, h]

/-- A register accessed by anything but an aligned word. -/
theorem accessFault_narrow {a n : Nat} (w : Bool) (h : inBlocks a = true ∨ inBar a = true) (hn : n ≠ 4 ∨ a % 4 ≠ 0) :
    accessFault a n w = true := by
  have hr : (inBlocks a || inBar a) = true := by simpa using h
  simp only [accessFault, hr, if_true, Bool.not_eq_true', Bool.and_eq_false_iff, decide_eq_false_iff_not]
  exact hn

/-- A write of the boot ROM. -/
theorem accessFault_romWrite {a : Nat} (n : Nat) (h : a < 0x80000) : accessFault a n true = true := by
  have hb : inBlocks a = false := by
    refine Bool.eq_false_iff.2 fun hb => ?_
    have := inBlocks_bounds hb
    omega
  have hr : inBar a = false := by
    refine Bool.eq_false_iff.2 fun hb => ?_
    have := inBar_bounds hb
    omega
  have : a < bootRomSize := h
  simp [accessFault, hb, hr, this]

/-- An access outside every range of the address map. -/
theorem accessFault_unmapped {a n : Nat} (w : Bool) (hn : 0 < n) (h : 0x80000 ≤ a) (hb : inBlocks a = false) (hr : inBar a = false)
    (ht : a < 0x10000000 ∨ 0x10200000 ≤ a) : accessFault a n w = true := by
  have hrom : ¬ a < bootRomSize := by simpa [bootRomSize] using h
  have htcm : inTcm a n = false := by
    refine Bool.eq_false_iff.2 fun k => ?_
    have := inTcm_bounds k
    omega
  simp [accessFault, hb, hr, hrom, htcm]

/-! ### What an access command does -/

section
variable {s : State} (hs : asleep s = false)
include hs

theorem exec_registerWrite_tcm {a n : Nat} (v q : Nat) (hf : accessFault a n true = false) (hb : inBar a = false) (ht : inTcm a n = true)
    (hx : inXo s a = false) :
    exec (.registerWrite a v n q) s = .next ((s.ret .none).tcmWrite a (leBytes n (v % 2 ^ (8 * n)))) := by
  have hs' : asleep (s.ret .none) = false := hs
  have hx' : inXo (s.ret .none) a = false := hx
  simp [exec, execRegisterWrite, hs', hf, hb, ht, hx']

theorem exec_registerWrite_register {a : Nat} (v q : Nat) (hf : accessFault a 4 true = false) (hb : inBar a = false)
    (ht : inTcm a 4 = false) : exec (.registerWrite a v 4 q) s = .next ((s.ret .none).blockWrite a (v % 2 ^ 32)) := by
  have hs' : asleep (s.ret .none) = false := hs
  simp [exec, execRegisterWrite, hs', hf, hb, ht]

theorem exec_registerWrite_bar {a n : Nat} (v q : Nat) (hf : accessFault a n true = false) (hb : inBar a = true) :
    exec (.registerWrite a v n q) s = .next ((s.ret .none).tnWrite ⟨1, 0, q⟩ ((a - TN_REQ 0) / 32) (a % 32) v) := by
  have hs' : asleep (s.ret .none) = false := hs
  simp [exec, execRegisterWrite, hs', hf, hb]

/-- A write that faults, at its address or into the execute-only range, changes nothing. -/
theorem exec_registerWrite_fault {a n : Nat} (v q : Nat) (hf : accessFault a n true = true ∨ inTcm a n = true ∧ inXo s a = true) :
    exec (.registerWrite a v n q) s = .next (s.ret .busFault) := by
  have hs' : asleep (s.ret .none) = false := hs
  obtain hf | ⟨ht, hx⟩ := hf
  · simp only [exec, execRegisterWrite, hs', hf, if_true, Bool.false_eq_true, if_false]
    rfl
  · have hx' : inXo (s.ret .none) a = true := hx
    simp only [exec, execRegisterWrite, hs', accessFault_inTcm true ht, inBar_of_inTcm ht, ht, hx', if_true, Bool.false_eq_true, if_false]
    rfl

theorem exec_busAccessFault {a n : Nat} {w : Bool} (hf : accessFault a n w = true ∨ tcmFault s a n w = true) :
    exec (.busAccessFault a n w) s = .next (s.ret .busFault) := by
  have hf' : (accessFault a n w || tcmFault s a n w) = true := by simpa using hf
  simp [exec, execBusAccessFault, hs, hf']

theorem exec_debugWrite_fault {a : Nat} (v : Nat) (hf : accessFault a 4 true = true) :
    exec (.debugWrite a v) s = .next (s.ret .busFault) := by
  simp [exec, execDebugWrite, hs, hf]

theorem exec_debugRead_fault {a : Nat} (hf : accessFault a 4 false = true) : exec (.debugRead a) s = .next (s.ret .busFault) := by
  simp [exec, execDebugRead, hs, hf]

theorem exec_debugWrite_register {a : Nat} (v : Nat) (hf : accessFault a 4 true = false) (hb : inBar a = false) (hl : a ≠ LCS_REQUEST)
    (hg : dbgWrites s a = true) (ht : inTcm a 4 = false) : exec (.debugWrite a v) s = .next (s.blockWrite a (v % 2 ^ 32)) := by
  simp [exec, execDebugWrite, hs, hf, hb, hl, hg, ht]

theorem exec_debugRead_register {a : Nat} (hf : accessFault a 4 false = false) (hb : inBar a = false) (hg : dbgReads s a = true)
    (hr : bootRomSize ≤ a) (ht : inTcm a 4 = false) : exec (.debugRead a) s = .next (s.ret (.word (readWord s a))) := by
  simp [exec, execDebugRead, hs, hf, hb, hg, Nat.not_lt.2 hr, ht]

/-- A debug read of TCM: the word, or the fault that an ordinary read of the execute-only range or of a poisoned word raises. -/
theorem exec_debugRead_tcm {a : Nat} (ht : inTcm a 4 = true) (hg : dbgReads s a = true) :
    exec (.debugRead a) s = .next (s.ret (if inXo s a || tcmPoisoned s a 4 then .busFault
      else .word (BitVec.ofNat 32 (fieldAt (tcmRead s a 4) 0 4)))) := by
  have hr : ¬ a < bootRomSize := by
    have := inTcm_bounds ht
    simp only [bootRomSize]; omega
  simp only [exec, execDebugRead, hs, accessFault_inTcm false ht, inBar_of_inTcm ht, hg, hr, ht]
  cases inXo s a || tcmPoisoned s a 4 <;> rfl

end

theorem exists_ret_ite {s u v : State} {c : Prop} [Decidable c] (hu : ∃ o, u = s.ret o) (hv : ∃ o, v = s.ret o) :
    ∃ o, (if c then u else v) = s.ret o := by
  split
  · exact hu
  · exact hv

/-- Whatever a debug read meets, the answer is all that it changes. -/
theorem exec_debugRead_returns (s : State) (a : Nat) : ∃ o, exec (.debugRead a) s = .next (s.ret o) := by
  have answer (o : Out) : ∃ o', s.ret o = s.ret o' := ⟨o, rfl⟩
  obtain ⟨o, h⟩ : ∃ o, _ = s.ret o :=
    exists_ret_ite (c := asleep s = true) ⟨s.out, rfl⟩
      (exists_ret_ite (c := (inBar a || accessFault a 4 false) = true) (answer .busFault)
        (exists_ret_ite (c := (!dbgReads s a) = true) (answer .none)
          (exists_ret_ite (c := a < bootRomSize) (answer _)
            (exists_ret_ite (c := inTcm a 4 = true)
              (exists_ret_ite (c := (inXo s a || tcmPoisoned s a 4) = true) (answer .busFault) (answer _))
              (answer (.word (readWord s a)))))))
  exact ⟨o, congrArg Host.Outcome.next h⟩

end Sys2Proof.Machine
end

section
/-! A write of a register by its access codes (R4, R5, R10): the word it stores, what follows the write, and what a broken lock adds. -/

namespace Sys2Proof.Machine

/-! ### The register map is well formed -/

/-- The fields of a register share no bit, and lie in its 32 bits. -/
def fldsOk : List FldRow → Bool
  | [] => true
  | f :: t => decide (f.lo + f.wid ≤ 32) && t.all (fun g => decide (f.lo + f.wid ≤ g.lo) || decide (g.lo + g.wid ≤ f.lo)) && fldsOk t

theorem regMap_fldsOk : (regMap.all fun r => fldsOk r.flds) = true := by decide +kernel

theorem regRow_mem {a : Nat} {r : RegRow} (h : regRow a = some r) : r ∈ regMap := List.mem_of_find?_eq_some h

theorem regRow_fldsOk {a : Nat} {r : RegRow} (h : regRow a = some r) : fldsOk r.flds = true :=
  List.all_eq_true.1 regMap_fldsOk r (regRow_mem h)

theorem fldsOk_bound {fs : List FldRow} (h : fldsOk fs = true) {f : FldRow} (hf : f ∈ fs) : f.lo + f.wid ≤ 32 := by
  induction fs with
  | nil => cases hf
  | cons g t ih =>
    simp only [fldsOk, Bool.and_eq_true, decide_eq_true_eq] at h
    obtain rfl | hf := List.mem_cons.1 hf
    · exact h.1.1
    · exact ih h.2 hf

/-- Two fields of a register are the same field or share no bit. -/
theorem fldsOk_disjoint {fs : List FldRow} (h : fldsOk fs = true) {f g : FldRow} (hf : f ∈ fs) (hg : g ∈ fs) :
    f = g ∨ f.lo + f.wid ≤ g.lo ∨ g.lo + g.wid ≤ f.lo := by
  induction fs with
  | nil => cases hf
  | cons e t ih =>
    simp only [fldsOk, Bool.and_eq_true, List.all_eq_true, Bool.or_eq_true, decide_eq_true_eq] at h
    obtain ⟨⟨-, hd⟩, ht⟩ := h
    obtain rfl | hft := List.mem_cons.1 hf
    · obtain rfl | hgt := List.mem_cons.1 hg
      · exact .inl rfl
      · exact .inr (hd g hgt)
    · obtain rfl | hgt := List.mem_cons.1 hg
      · exact .inr (hd f hft).symm
      · exact ih ht hft hgt

/-! ### The word that a write stores -/

/-- The word in which each field of `fs` takes its value `x f`. -/
def packFields (x : FldRow → Nat) (fs : List FldRow) (v : Nat) : Nat := fs.foldl (fun v f => setBits v f.lo f.wid (x f)) v

/-- A place that no field of the list touches. -/
theorem bitsAt_packFields_off (x : FldRow → Nat) (fs : List FldRow) (v lo wid : Nat)
    (h : ∀ f ∈ fs, lo + wid ≤ f.lo ∨ f.lo + f.wid ≤ lo) : bitsAt (packFields x fs v) lo wid = bitsAt v lo wid := by
  induction fs generalizing v with
  | nil => rfl
  | cons f t ih =>
    show bitsAt (packFields x t (setBits v f.lo f.wid (x f))) lo wid = _
    rw [ih _ fun g hg => h g (List.mem_cons_of_mem _ hg), bitsAt_setBits_disj _ _ _ _ _ _ (h f List.mem_cons_self)]

theorem fieldOf_packFields (x : FldRow → Nat) {fs : List FldRow} (v : Nat) (h : fldsOk fs = true) {f : FldRow} (hf : f ∈ fs) :
    fieldOf (packFields x fs v) f = x f % 2 ^ f.wid := by
  induction fs generalizing v with
  | nil => cases hf
  | cons g t ih =>
    show bitsAt (packFields x t (setBits v g.lo g.wid (x g))) f.lo f.wid = _
    simp only [fldsOk, Bool.and_eq_true, List.all_eq_true, Bool.or_eq_true, decide_eq_true_eq] at h
    obtain ⟨⟨-, hd⟩, ht⟩ := h
    by_cases hft : f ∈ t
    · exact ih _ ht hft
    · obtain rfl := (List.mem_cons.1 hf).resolve_right hft
      rw [bitsAt_packFields_off _ _ _ _ _ hd, bitsAt_setBits_same]

theorem bitsAt_lt (v lo wid : Nat) : bitsAt v lo wid < 2 ^ wid := Nat.mod_lt _ (Nat.two_pow_pos wid)

/-- What a field holds after a write fits the field. -/
theorem writeField_lt (locked : Bool) (old w : Nat) (f : FldRow) : writeField locked old w f < 2 ^ f.wid := by
  have ho : fieldOf old f < 2 ^ f.wid := bitsAt_lt _ _ _
  have hv : fieldOf w f < 2 ^ f.wid := bitsAt_lt _ _ _
  unfold writeField
  cases f.acc with
  | ro | rc => exact ho
  | rw => exact hv
  | rwl => cases locked <;> assumption
  | wo => exact Nat.two_pow_pos _
  | w1c => exact Nat.lt_of_le_of_lt Nat.and_le_left ho
  | w1s => exact Nat.or_lt_two_pow ho hv

/-- The word that a write of `w` over `old` stores in a register with the fields `fs` (R10). -/
def storedWord (locked : Bool) (old w : Nat) (fs : List FldRow) : Word := BitVec.ofNat 32 (packFields (writeField locked old w) fs old)

/-- Each field of the stored word is what its own access code makes of the write. -/
theorem fieldOf_storedWord (locked : Bool) (old w : Nat) {fs : List FldRow} (h : fldsOk fs = true) {f : FldRow} (hf : f ∈ fs) :
    fieldOf (storedWord locked old w fs).toNat f = writeField locked old w f := by
  have hb := fldsOk_bound h hf
  unfold storedWord fieldOf
  rw [BitVec.toNat_ofNat, bitsAt_mod32 _ _ _ hb]
  exact (fieldOf_packFields _ _ h hf).trans (Nat.mod_eq_of_lt (writeField_lt ..))

/-- A write that breaks no lock stores its word and nothing else. -/
theorem regWrite_unbroken {s : State} {a w : Nat} {row : RegRow} (hr : regRow a = some row)
    (hl : lockBreak (lockedAt s a) (reg s a).toNat w row.flds = false) :
    s.regWrite a w = s.setReg a (storedWord (lockedAt s a) (reg s a).toNat w row.flds) := by
  unfold State.regWrite
  rw [hr]
  simp only [hl]
  rfl

/-- A write that breaks a lock stores its word and reports the violation (R5). -/
theorem regWrite_broken {s : State} {a w : Nat} {row : RegRow} (hr : regRow a = some row)
    (hl : lockBreak (lockedAt s a) (reg s a).toNat w row.flds = true) :
    s.regWrite a w = (s.setReg a (storedWord (lockedAt s a) (reg s a).toNat w row.flds)).lockViol a := by
  unfold State.regWrite
  rw [hr]
  simp only [hl]
  rfl

/-! ### What follows a stored write -/

/-- The settings of the random number block, after a write of which its status is shown again (R327). -/
def rngSetting (a : Nat) : Prop := a = RNG_CTRL ∨ a = RNG_CFG

/-- The registers that show the status of the random number block. -/
def rngShown (b : Nat) : Prop := b = RNG_STAT ∨ b = RNG_EVT ∨ b = SYSCTL_SPARE_STAT

theorem reg_showRng (s : State) {b : Nat} (h : ¬ rngShown b) : reg s.showRng b = reg s b := by
  unfold rngShown at h
  obtain ⟨h1, h2, h3⟩ : RNG_STAT ≠ b ∧ RNG_EVT ≠ b ∧ SYSCTL_SPARE_STAT ≠ b := by
    refine ⟨?_, ?_, ?_⟩ <;> rintro rfl <;> simp at h
  have hraise (u : State) : reg (u.raise RNG_EVT_ALARM) b = reg u b := reg_setF_ne _ _ _ _ h2
  unfold State.showRng State.setB
  dsimp only
  rw [reg_setF_ne _ _ _ _ h1, reg_setF_ne _ _ _ _ h3, reg_setF_ne _ _ _ _ h1]
  split
  · exact hraise s
  · rfl

@[simp] theorem State.showRng_tcm (s : State) : s.showRng.tcm = s.tcm := by
  unfold State.showRng
  dsimp only
  split <;> rfl

@[simp] theorem State.showRng_jnl (s : State) : s.showRng.jnl = s.jnl := by
  unfold State.showRng
  dsimp only
  split <;> rfl

/-- A register in which a write stores: no command register, and none whose write is a command of its own. -/
def storesWrites (a : Nat) : Prop := ownCommand a = false ∧ commandRegister a = false ∧ a ≠ LCS_REQUEST ∧ a ≠ KIOSK_DB_IN

/-- What the block does after it has stored a word leaves TCM, the journal and every register but those that show its status. -/
theorem blockWrite_stored (s : State) {a : Nat} (w : Nat) (h : storesWrites a) :
    (s.blockWrite a w).tcm = (s.regWrite a (heldWord a (reg s a).toNat w)).tcm
      ∧ (s.blockWrite a w).jnl = (s.regWrite a (heldWord a (reg s a).toNat w)).jnl
      ∧ ∀ b, (rngSetting a → ¬ rngShown b) → reg (s.blockWrite a w) b = reg (s.regWrite a (heldWord a (reg s a).toNat w)) b := by
  obtain ⟨h1, h2, h3, h4⟩ := h
  generalize hu : s.regWrite a (heldWord a (reg s a).toNat w) = u
  have hw : s.blockWrite a w = if a = SYSCTL_WDT_CTL then u.wdtPeriod (rf s SYSCTL_WDT_CTL_PERIOD_MS)
      else if a = RNG_CTRL || a = RNG_CFG then u.showRng
      else if a = ORANGERY_RV_CTRL then u.rvEnable (rb s ORANGERY_RV_CTRL_EN) else u := by
    simp [State.blockWrite, h1, h2, h3, h4, hu]
  rw [hw]
  by_cases hwdt : a = SYSCTL_WDT_CTL
  · rw [if_pos hwdt]; exact ⟨rfl, rfl, fun _ _ => rfl⟩
  rw [if_neg hwdt]
  by_cases hrng : rngSetting a
  · have hc : (decide (a = RNG_CTRL) || decide (a = RNG_CFG)) = true := by simpa [rngSetting] using hrng
    rw [if_pos hc]
    exact ⟨State.showRng_tcm u, State.showRng_jnl u, fun b hb => reg_showRng u (hb hrng)⟩
  · have hc : ¬ (decide (a = RNG_CTRL) || decide (a = RNG_CFG)) = true := by simpa [rngSetting] using hrng
    rw [if_neg hc]
    unfold State.rvEnable
    split
    · split
      · exact ⟨rfl, rfl, fun _ _ => rfl⟩
      · exact ⟨rfl, rfl, fun _ _ => rfl⟩
    · exact ⟨rfl, rfl, fun _ _ => rfl⟩

/-- A setting of the random number block is none of the registers that follow it. -/
theorem not_rngShown_of_rngSetting {a : Nat} (h : rngSetting a) : ¬ rngShown a := by
  obtain rfl | rfl := h <;> unfold rngShown <;> decide

/-- The answer to a stored write, before the write. -/
theorem exec_registerWrite_block {s : State} {a : Nat} (v q : Nat) (hs : asleep s = false) (hb : inBlocks a = true) (ha : a % 4 = 0) :
    exec (.registerWrite a v 4 q) s = .next ((s.ret .none).blockWrite a (v % 2 ^ 32)) :=
  exec_registerWrite_register hs v q (accessFault_aligned_word true hb ha) (inBar_of_inBlocks hb) (inTcm_of_inBlocks hb)

/-- Settles O1: the write stores one word (`regWrite_unbroken`), each field of which is what its access code makes of the write
(`fieldOf_storedWord`), and what follows the write leaves that register alone (`blockWrite_stored`). -/
theorem registerWriteByAccessCode : Obligations.RegisterWriteByAccessCode := by
  intro s a v req row hs hr hb ha ho hc hl hk hlock
  obtain ⟨htcm, -, hreg⟩ := blockWrite_stored (s.ret .none) (v % 2 ^ 32) ⟨ho, hc, hl, hk⟩
  simp only [reg_ret, regWrite_unbroken (s := s.ret .none) hr hlock] at htcm hreg
  refine ⟨_, exec_registerWrite_block v req hs hb ha, fun f hf => ?_, fun b hba hrng => ?_, htcm⟩
  · rw [hreg a not_rngShown_of_rngSetting, reg_setReg_same]
    exact fieldOf_storedWord _ _ _ (regRow_fldsOk hr) hf
  · have hshown : rngSetting a → ¬ rngShown b := fun h hb' => by
      obtain ⟨h1, h2, h3⟩ := hrng h
      exact hb'.elim h1 fun k => k.elim h2 h3
    rw [hreg b hshown, reg_setReg_ne _ _ _ _ hba]
    rfl

/-! ### A broken lock (R5) -/

/-- The registers that hold the LOCK and LOCK_VIOL bits of the blocks. -/
def lockRegs : List Nat :=
  [SYSCTL_LOCK, RNG_CTRL, MEMINT_CTRL, KIOSK_CTRL, MTRANS_CTRL, LODGE_CTRL, GATE_CTRL, LOADER_CTRL, ORANGERY_CTRL, FBUS_CTRL, JOURNAL_CTRL]

theorem lockReg_mem {a lk : Nat} (h : lockReg a = some lk) : lk ∈ lockRegs := by
  simp only [lockReg] at h
  split at h
  · obtain rfl := Option.some.inj h
    exact List.mem_cons_self
  · split at h
    · rename_i hc
      obtain rfl := Option.some.inj h
      exact List.mem_cons_of_mem _ (List.contains_iff_mem.1 hc)
    · cases h

theorem lockedAt_eq {s : State} {a lk : Nat} (h : lockReg a = some lk) : lockedAt s a = rb s ⟨lk, 0, 1⟩ := by
  unfold lockedAt
  rw [h]

/-- A lock register has LOCK, which ones set, and LOCK_VIOL. -/
theorem lockRegs_row : (lockRegs.all fun lk => (regRow lk).any fun r =>
    decide (⟨0, 1, .w1s⟩ ∈ r.flds) && decide (⟨1, 1, .ro⟩ ∈ r.flds)) = true := by decide +kernel

theorem lockReg_row {a lk : Nat} {row : RegRow} (h : lockReg a = some lk) (hr : regRow lk = some row) :
    ⟨0, 1, .w1s⟩ ∈ row.flds ∧ ⟨1, 1, .ro⟩ ∈ row.flds := by
  have := List.all_eq_true.1 lockRegs_row lk (lockReg_mem h)
  simpa [hr] using this

/-- No lock register shows the status of the random number block, or counts what the journal takes. -/
theorem not_rngShown_of_lockReg {a lk : Nat} (h : lockReg a = some lk) : ¬ rngShown lk := by
  have : ∀ l ∈ lockRegs, l ≠ RNG_STAT ∧ l ≠ RNG_EVT ∧ l ≠ SYSCTL_SPARE_STAT := by decide
  obtain ⟨h1, h2, h3⟩ := this lk (lockReg_mem h)
  exact fun k => k.elim h1 fun k => k.elim h2 h3

/-- The registers that a record entered in the journal may change: the counters of records and losses, their SAT event and the LOST counts. -/
def journalCounts (a : Nat) : Prop :=
  a = JOURNAL_RECORDS_LO ∨ a = JOURNAL_RECORDS_HI ∨ a = JOURNAL_LOST_LO ∨ a = JOURNAL_LOST_HI ∨ a = JOURNAL_EVT
    ∨ (JOURNAL_LOSTP 0 ≤ a ∧ a < JOURNAL_LOSTP 4)

section
variable {s : State} {a : Nat} (h : ¬ journalCounts a)
include h

theorem reg_intake_of_not_counts {r : JRec} (hc : r.cls < 8) : reg (s.intake r).1 a = reg s a := by
  have hf : (lostFld r.cls).addr ≠ a := by
    rintro rfl
    refine h (.inr (.inr (.inr (.inr (.inr ?_)))))
    unfold lostFld JOURNAL_LOSTP_EVEN JOURNAL_LOSTP_ODD JOURNAL_LOSTP
    split <;> dsimp only <;> omega
  unfold State.intake
  dsimp only
  split
  · rfl
  · split
    · rfl
    · exact reg_setF_ne _ _ _ _ hf

theorem reg_bumpRaw_of_not_counts {lo hi : Nat} (n : Nat) (hl : lo ≠ a) (hh : hi ≠ a) :
    reg (s.bumpRaw lo hi JOURNAL_EVT_SAT srcJOURNAL n) a = reg s a := by
  have he : JOURNAL_EVT_SAT.addr ≠ a := by
    rintro rfl
    exact h (.inr (.inr (.inr (.inr (.inl rfl)))))
  unfold State.bumpRaw State.intakeEvt State.raise
  dsimp only
  split
  · rw [reg_intake_of_not_counts h (by decide), reg_setF_ne _ _ _ _ he, reg_setF_ne _ _ _ _ hh, reg_setCtr _ _ _ _ _ hl hh]
  · rw [reg_setCtr _ _ _ _ _ hl hh]

/-- A record changes no register but the journal's own counts. -/
theorem reg_journalD_of_not_counts (c t u n d g : Nat) (l : List Byte) (hc : c < 8) : reg (s.journalD c t u n d g l) a = reg s a := by
  unfold State.journalD State.enter
  dsimp only
  split
  · rw [reg_bumpRaw_of_not_counts h, reg_intake_of_not_counts h hc]
    · rintro rfl; exact h (.inl rfl)
    · rintro rfl; exact h (.inr (.inl rfl))
  · rw [reg_bumpRaw_of_not_counts h, reg_intake_of_not_counts h hc]
    · rintro rfl; exact h (.inr (.inr (.inl rfl)))
    · rintro rfl; exact h (.inr (.inr (.inr (.inl rfl))))

end

theorem not_journalCounts_of_lockReg {a lk : Nat} (h : lockReg a = some lk) : ¬ journalCounts lk := by
  have : ∀ l ∈ lockRegs, ¬ journalCounts l := by unfold journalCounts; decide
  exact this lk (lockReg_mem h)

/-- The registers with lockable fields lie outside the journal's block, but for JOURNAL_CFG. -/
theorem regMap_rwl : (regMap.all fun r => !(r.flds.any fun f => f.acc = .rwl) || decide (r.base + r.stride * r.count ≤ 0x40300000)
    || decide (0x40310000 ≤ r.base) || decide (r.base = JOURNAL_CFG ∧ r.stride * r.count = 1)) = true := by decide +kernel

theorem regRow_bounds {a : Nat} {r : RegRow} (h : regRow a = some r) : r.base ≤ a ∧ a < r.base + r.stride * r.count := by
  have := List.find?_some h
  simp only [Bool.and_eq_true, decide_eq_true_eq] at this
  exact this.1

theorem lockBreak_rwl {lk : Bool} {old w : Nat} {fs : List FldRow} (h : lockBreak lk old w fs = true) : (fs.any fun f => f.acc = .rwl) = true := by
  unfold lockBreak at h
  obtain ⟨-, h⟩ := Bool.and_eq_true_iff.1 h
  obtain ⟨f, hf, h⟩ := List.any_eq_true.1 h
  exact List.any_eq_true.2 ⟨f, hf, (Bool.and_eq_true_iff.1 h).1⟩

theorem not_journalCounts_of_rwl {a : Nat} {r : RegRow} (hr : regRow a = some r) (h : (r.flds.any fun f => f.acc = .rwl) = true) :
    ¬ journalCounts a := by
  have hb := regRow_bounds hr
  have hm := List.all_eq_true.1 regMap_rwl r (regRow_mem hr)
  simp only [h, Bool.not_true, Bool.false_or, Bool.or_eq_true, decide_eq_true_eq] at hm
  simp only [JOURNAL_CFG] at hm
  simp only [journalCounts, JOURNAL_RECORDS_LO, JOURNAL_RECORDS_HI, JOURNAL_LOST_LO, JOURNAL_LOST_HI, JOURNAL_EVT, JOURNAL_LOSTP]
  omega

/-- A violation raises LOCK_VIOL and enters its record. -/
theorem lockViol_eq {s : State} {a lk : Nat} (h : lockReg a = some lk) :
    s.lockViol a = (s.raise ⟨lk, 1, 1⟩).journalD 6 5 (srcOfAddr a) noUnit 0 0 (leBytes 4 (a % 65536)) := by
  unfold State.lockViol
  rw [h]

theorem reg_lockViol {s : State} {a lk b : Nat} (h : lockReg a = some lk) (hb : ¬ journalCounts b) :
    reg (s.lockViol a) b = reg (s.raise ⟨lk, 1, 1⟩) b := by
  rw [lockViol_eq h, reg_journalD_of_not_counts hb _ _ _ _ _ _ _ (by decide)]

/-- LOCK_VIOL shares no bit with another field of its register. -/
theorem fieldOf_raise_lockViol {s : State} {a lk : Nat} {row : RegRow} {f : FldRow} (h : lockReg a = some lk) (hr : regRow a = some row)
    (hf : f ∈ row.flds) (hv : a = lk → f ≠ ⟨1, 1, .ro⟩) : fieldOf (reg (s.raise ⟨lk, 1, 1⟩) a).toNat f = fieldOf (reg s a).toNat f := by
  by_cases ha : a = lk
  · subst ha
    have hd := (fldsOk_disjoint (regRow_fldsOk hr) hf (lockReg_row h hr).2).resolve_left (hv rfl)
    exact rf_setF_ne s ⟨a, 1, 1⟩ ⟨a, f.lo, f.wid⟩ 1 (.inr ⟨hd, fldsOk_bound (regRow_fldsOk hr) hf⟩)
  · rw [show reg (s.raise ⟨lk, 1, 1⟩) a = reg s a from reg_setF_ne _ _ _ _ fun k => ha k.symm]

/-! ### A write under a set lock (R5) -/

section
variable {s : State} {a w lk : Nat} {row : RegRow} (hr : regRow a = some row) (hlk : lockReg a = some lk) (hset : rb s ⟨lk, 0, 1⟩ = true)
include hr hlk hset

theorem regWrite_locked_unbroken (hb : lockBreak true (reg s a).toNat w row.flds = false) :
    s.regWrite a w = s.setReg a (storedWord true (reg s a).toNat w row.flds) := by
  have hl := (lockedAt_eq hlk).trans hset
  rw [regWrite_unbroken hr (hl.symm ▸ hb), hl]

theorem regWrite_locked_broken (hb : lockBreak true (reg s a).toNat w row.flds = true) :
    s.regWrite a w = (s.setReg a (storedWord true (reg s a).toNat w row.flds)).lockViol a := by
  have hl := (lockedAt_eq hlk).trans hset
  rw [regWrite_broken hr (hl.symm ▸ hb), hl]

/-- Broken or not, the write acts on each field by its access code; a violation sets LOCK_VIOL beside. -/
theorem fieldOf_regWrite_locked {f : FldRow} (hf : f ∈ row.flds)
    (hv : lockBreak true (reg s a).toNat w row.flds = true → a = lk → f ≠ ⟨1, 1, .ro⟩) :
    fieldOf (reg (s.regWrite a w) a).toNat f = writeField true (reg s a).toNat w f := by
  have hstored : fieldOf (reg (s.setReg a (storedWord true (reg s a).toNat w row.flds)) a).toNat f = writeField true (reg s a).toNat w f := by
    rw [reg_setReg_same]
    exact fieldOf_storedWord _ _ _ (regRow_fldsOk hr) hf
  cases hb : lockBreak true (reg s a).toNat w row.flds with
  | false => rw [regWrite_locked_unbroken hr hlk hset hb, hstored]
  | true =>
    rw [regWrite_locked_broken hr hlk hset hb, reg_lockViol hlk (not_journalCounts_of_rwl hr (lockBreak_rwl hb)),
      fieldOf_raise_lockViol hlk hr hf (hv hb), hstored]

/-- The lock bit, which ones set, stays set. -/
theorem lock_regWrite_locked : rb (s.regWrite a w) ⟨lk, 0, 1⟩ = true := by
  have hne : rf s ⟨lk, 0, 1⟩ ≠ 0 := by simpa [rb] using hset
  by_cases ha : a = lk
  · subst ha
    have hfield : rf (s.regWrite a w) ⟨a, 0, 1⟩ = rf s ⟨a, 0, 1⟩ ||| bitsAt w 0 1 :=
      fieldOf_regWrite_locked hr hlk hset (lockReg_row hlk hr).1 (fun _ _ => by decide)
    rw [rb, hfield, bne_iff_ne]
    exact fun k => hne (Nat.or_eq_zero_iff.1 k).1
  · have hstored : rb (s.setReg a (storedWord true (reg s a).toNat w row.flds)) ⟨lk, 0, 1⟩ = true := by
      rw [rb, rf_setReg_ne _ _ _ _ fun k => ha k.symm]
      exact hset
    cases hb : lockBreak true (reg s a).toNat w row.flds with
    | false => rw [regWrite_locked_unbroken hr hlk hset hb, hstored]
    | true =>
      rw [regWrite_locked_broken hr hlk hset hb, rb, rf, reg_lockViol hlk (not_journalCounts_of_lockReg hlk)]
      exact (rb_setF_ne _ ⟨lk, 1, 1⟩ ⟨lk, 0, 1⟩ 1 (.inr ⟨.inl (Nat.le_refl _), show 0 + 1 ≤ 32 by decide⟩)).trans hstored

theorem lockViol_regWrite_broken (hb : lockBreak true (reg s a).toNat w row.flds = true) : rb (s.regWrite a w) ⟨lk, 1, 1⟩ = true := by
  rw [regWrite_locked_broken hr hlk hset hb, rb, rf, reg_lockViol hlk (not_journalCounts_of_lockReg hlk)]
  exact rb_setF_same _ ⟨lk, 1, 1⟩ 1 (show 1 + 1 ≤ 32 by decide)

/-- The record of a violation is entered in the journal as the write found it. -/
theorem jnl_regWrite_broken (hb : lockBreak true (reg s a).toNat w row.flds = true) :
    ∃ u : State, u.jnl = s.jnl ∧ (s.regWrite a w).jnl = (u.journalD 6 5 (srcOfAddr a) noUnit 0 0 (leBytes 4 (a % 65536))).jnl :=
  ⟨(s.setReg a (storedWord true (reg s a).toNat w row.flds)).raise ⟨lk, 1, 1⟩, rfl, by
    rw [regWrite_locked_broken hr hlk hset hb, lockViol_eq hlk]⟩

end

/-- A locked field keeps its value. -/
theorem writeField_rwl (old w : Nat) {f : FldRow} (h : f.acc = .rwl) : writeField true old w f = fieldOf old f := by
  simp [writeField, h]

/-- Settles O3: each field acts by its access code whether the write breaks the lock or not (`fieldOf_regWrite_locked`), where a locked field
keeps its value; a break adds LOCK_VIOL and the record, and what the block does after the write touches neither register. -/
theorem lockedFieldKeepsItsValue : Obligations.LockedFieldKeepsItsValue := by
  intro s a v req lk row hs hr hb ha ho hc hl hk hlk hset
  obtain ⟨-, hjnl, hreg⟩ := blockWrite_stored (s.ret .none) (v % 2 ^ 32) ⟨ho, hc, hl, hk⟩
  simp only [reg_ret] at hjnl hreg
  have hset' : rb (s.ret .none) ⟨lk, 0, 1⟩ = true := hset
  have hviol {f : FldRow} (h : ¬ (a = lk ∧ f.lo = 1)) (hal : a = lk) : f ≠ ⟨1, 1, .ro⟩ := fun k => h ⟨hal, by rw [k]⟩
  have hrwl {f : FldRow} (h : f.acc = .rwl) : f ≠ ⟨1, 1, .ro⟩ := fun k => by rw [k] at h; cases h
  refine ⟨_, exec_registerWrite_block v req hs hb ha, ?_⟩
  rw [hreg a not_rngShown_of_rngSetting, hjnl]
  simp only [rb, rf, hreg lk fun _ => not_rngShown_of_lockReg hlk]
  refine ⟨fun f hf hacc => ?_, lock_regWrite_locked hr hlk hset', fun hbr => ⟨lockViol_regWrite_broken hr hlk hset' hbr, fun f hf _ hv => ?_, ?_⟩,
    fun hbr => ⟨fun hne => ?_, fun f hf => ?_, ?_⟩⟩
  · exact (fieldOf_regWrite_locked hr hlk hset' hf fun _ _ => hrwl hacc).trans (writeField_rwl _ _ hacc)
  · exact fieldOf_regWrite_locked hr hlk hset' hf fun _ => hviol hv
  · exact jnl_regWrite_broken hr hlk hset' hbr
  · rw [regWrite_locked_unbroken hr hlk hset' hbr, reg_setReg_ne _ _ _ _ (Ne.symm hne)]; rfl
  · exact fieldOf_regWrite_locked hr hlk hset' hf fun h => absurd (hbr.symm.trans h) Bool.false_ne_true
  · rw [regWrite_locked_unbroken hr hlk hset' hbr]; rfl

end Sys2Proof.Machine
end

section
/-! TCM under stores, narrow ones too (R267, R268), and the accesses that fault or that a debugger makes (R6, R7, R9, R30, R276). -/

namespace Sys2Proof.Machine

/-! ### What a store leaves in TCM -/

theorem leBytes_length (n v : Nat) : (leBytes n v).length = n := by
  induction n generalizing v with
  | zero => rfl
  | succ n ih => simp [leBytes, ih]

/-- The first byte of a number is its least significant one, and only the number's low bits matter (R3). -/
theorem leBytes_head (n v : Nat) (d : Byte) : (leBytes (n + 1) (v % 2 ^ (8 * (n + 1)))).getD 0 d = BitVec.ofNat 8 v := by
  show BitVec.ofNat 8 (v % 2 ^ (8 * (n + 1))) = _
  refine BitVec.eq_of_toNat_eq ?_
  rw [BitVec.toNat_ofNat, BitVec.toNat_ofNat]
  exact Nat.mod_mod_of_dvd v (Nat.pow_dvd_pow 2 (by omega))

theorem get_tcmPut_below (m : List Host.Cell) (bs : List Byte) {a b : Nat} (h : b < a) :
    Sparse.get tcmFill (tcmPut m a bs) b = Sparse.get tcmFill m b := by
  induction bs generalizing m a with
  | nil => rfl
  | cons x xs ih =>
    show Sparse.get tcmFill (tcmPut (Sparse.put tcmFill m a x) (a + 1) xs) b = _
    rw [ih _ (Nat.lt_succ_of_lt h), Sparse.get_put, if_neg (Nat.ne_of_lt h)]

/-- Byte `i` of the span at `a` after a store there: the stored one, or the old one behind the stored bytes. -/
theorem get_tcmPut (m : List Host.Cell) (a i : Nat) (bs : List Byte) :
    Sparse.get tcmFill (tcmPut m a bs) (a + i) = bs.getD i (Sparse.get tcmFill m (a + i)) := by
  induction bs generalizing m a i with
  | nil => rfl
  | cons x xs ih =>
    show Sparse.get tcmFill (tcmPut (Sparse.put tcmFill m a x) (a + 1) xs) (a + i) = _
    cases i with
    | zero =>
      show Sparse.get tcmFill (tcmPut (Sparse.put tcmFill m a x) (a + 1) xs) a = x
      rw [get_tcmPut_below _ _ (Nat.lt_add_one a), Sparse.get_put, if_pos rfl]
    | succ i =>
      rw [show a + (i + 1) = a + 1 + i by omega, ih, Sparse.get_put, if_neg (by omega)]
      rfl

theorem tcmByte_tcmWrite (s : State) (a i : Nat) (bs : List Byte) : tcmByte (s.tcmWrite a bs) (a + i) = bs.getD i (tcmByte s (a + i)) :=
  get_tcmPut _ _ _ _

/-- A store changes no byte outside its span. -/
theorem tcmByte_tcmWrite_outside (s : State) {a b : Nat} (bs : List Byte) (h : b < a ∨ a + bs.length ≤ b) :
    tcmByte (s.tcmWrite a bs) b = tcmByte s b := by
  by_cases hb : b < a
  · exact get_tcmPut_below _ _ hb
  · have hab : a + (b - a) = b := by omega
    have := tcmByte_tcmWrite s a (b - a) bs
    rw [hab, List.getD_eq_getElem?_getD, List.getElem?_eq_none (by omega)] at this
    exact this

/-- A word keeps its poison unless the store covers it whole (R268). -/
theorem mem_poison_tcmWrite (s : State) (a w : Nat) (bs : List Byte) :
    w ∈ (s.tcmWrite a bs).mem.poison ↔ w ∈ s.mem.poison ∧ ¬ (a ≤ 4 * w ∧ 4 * w + 4 ≤ a + bs.length) := by
  simp only [State.tcmWrite, List.mem_filter, Bool.not_eq_true', Bool.and_eq_false_iff, decide_eq_false_iff_not, Classical.not_and_iff_not_or_not]

theorem tcmByte_store (s : State) (a n v : Nat) :
    tcmByte ((s.ret .none).tcmWrite a (leBytes (n + 1) (v % 2 ^ (8 * (n + 1))))) a = BitVec.ofNat 8 v := by
  have := tcmByte_tcmWrite (s.ret .none) a 0 (leBytes (n + 1) (v % 2 ^ (8 * (n + 1))))
  exact this.trans (leBytes_head n v _)

/-- A store of the `n` bytes at `a` in TCM outside the execute-only range is performed (R267). -/
theorem exec_registerWrite_store {s : State} {a n : Nat} (v q : Nat) (hs : asleep s = false) (ht : inTcm a n = true) (hx : inXo s a = false) :
    exec (.registerWrite a v n q) s = .next ((s.ret .none).tcmWrite a (leBytes n (v % 2 ^ (8 * n)))) :=
  exec_registerWrite_tcm hs v q (accessFault_inTcm true ht) (inBar_of_inTcm ht) ht hx

/-- Settles O4: a byte stored at the start of a poisoned word leaves it poisoned and the whole word cleans it (`mem_poison_tcmWrite`); each
address that R7, R9 and R30 name faults (`accessFault_narrow`, `accessFault_romWrite`, `accessFault_unmapped`), and so does TCM that R74 or
R276 does not grant. -/
theorem faultingAccessAndNarrowStore : Obligations.FaultingAccessAndNarrowStore := by
  refine ⟨fun s a v req hs ha ht hx hp => ⟨?_, ?_⟩, fun s a n w hn hs => ⟨fun h => ?_, fun ht h => ⟨?_, fun v q hw => ?_⟩⟩⟩
  · refine ⟨_, exec_registerWrite_store v req hs (inTcm_mono ht (by omega)) hx, tcmByte_store s a 0 v, ?_⟩
    rw [mem_poison_tcmWrite, leBytes_length]
    exact ⟨hp, by omega⟩
  · refine ⟨_, exec_registerWrite_store v req hs ht hx, tcmByte_store s a 3 v, ?_, fun b hb => ?_⟩
    · rw [mem_poison_tcmWrite, leBytes_length]
      omega
    · exact tcmByte_tcmWrite_outside _ _ (by rw [leBytes_length]; exact hb)
  · have hf : accessFault a n w = true := by
      obtain ⟨hr, hn4⟩ | ⟨hrom, rfl⟩ | ⟨hlo, hb, hr, ht⟩ := h
      · exact accessFault_narrow w hr hn4
      · exact accessFault_romWrite n hrom
      · exact accessFault_unmapped w hn hlo hb hr ht
    refine ⟨exec_busAccessFault hs (.inl hf), fun v q hw => ?_, fun hn4 hw v => ?_, fun hn4 hw => ?_⟩
    · exact exec_registerWrite_fault hs v q (.inl (hw ▸ hf))
    · subst hn4 hw
      exact exec_debugWrite_fault hs v hf
    · subst hn4 hw
      exact exec_debugRead_fault hs hf
  · refine exec_busAccessFault hs (.inr ?_)
    obtain hx | ⟨rfl, hp⟩ := h
    · simp [tcmFault, ht, hx]
    · simp [tcmFault, ht, hp]
  · have hx : inXo s a = true := h.resolve_right fun k => absurd (k.1.symm.trans hw) Bool.false_ne_true
    exact exec_registerWrite_fault hs v q (.inr ⟨ht, hx⟩)

/-- Settles O5: a debug read's answer is all that it changes (`exec_debugRead_returns`), and the answer is the ordinary read's. -/
theorem debugReadChangesNothing : Obligations.DebugReadChangesNothing := by
  refine fun s a => ⟨exec_debugRead_returns s a, fun hs hb ha hg => ?_, fun hs ht hg => exec_debugRead_tcm hs ht hg⟩
  have hrom : bootRomSize ≤ a := by
    have := inBlocks_bounds hb
    simp only [bootRomSize]; omega
  exact exec_debugRead_register hs (accessFault_aligned_word false hb ha) (inBar_of_inBlocks hb) hg hrom (inTcm_of_inBlocks hb)

end Sys2Proof.Machine
end

section
/-! The outcome that a block's command shows (R11 to R13), and the staging commands of the Orangery (R170, R175). -/

namespace Sys2Proof.Machine

/-! ### The outcome of a command -/

/-- The fields share no bit, and `g` lies in the 32 bits of its register: a write of `f` leaves `g`. -/
abbrev Fld.apart (f g : Fld) : Prop :=
  f.addr ≠ g.addr ∨ ((g.lo + g.wid ≤ f.lo ∨ f.lo + f.wid ≤ g.lo) ∧ g.lo + g.wid ≤ 32)

theorem Code.val_lt (c : Code) : c.val < 2 ^ 8 := by cases c <;> decide

/-- The status byte of a command interface that its RESULT and CMD_DONE fields leave alone. -/
structure CmdIf.Shows (c : CmdIf) : Prop where
  byte : c.status.wid = 8
  bound : c.status.lo + c.status.wid ≤ 32
  done : c.done.apart c.status
  result : ∀ f, c.result = some f → f.apart c.status

/-- The end of a command shows its code. -/
theorem rf_cmdEnd_status (s : State) {c : CmdIf} (h : c.Shows) (op : Nat) (code : Code) (result : Nat) :
    rf (s.cmdEnd c op code result) c.status = code.val := by
  have hstatus (u : State) : rf (u.setF c.status code.val) c.status = code.val := by
    rw [rf_setF_same _ _ _ h.bound, h.byte]
    exact Nat.mod_eq_of_lt code.val_lt
  unfold State.cmdEnd State.raise
  dsimp only
  rw [rf_setF_ne _ _ _ _ h.done]
  split
  · rename_i f hf
    rw [rf_setF_ne _ _ _ _ (h.result f hf), hstatus]
  · exact hstatus _

/-- A list of conditions none of which holds (R12). -/
theorem firstCode_eq_none {l : List (Bool × Code)} : firstCode l = none ↔ ∀ p ∈ l, p.1 = false := by
  induction l with
  | nil => simp [firstCode]
  | cons p t ih =>
    obtain ⟨b, c⟩ := p
    cases b <;> simp [firstCode, ih]

/-! ### The interface of the Orangery -/

theorem orangeryIf_shows : orangeryIf.Shows where
  byte := rfl
  bound := by decide
  done := by decide
  result f hf := by obtain rfl := Option.some.inj hf; decide

/-- A refusal that is no delay shows its code, and its record changes nothing of the Orangery. -/
theorem orangeryRefuse_shows (s : State) (op : Nat) {c : Code} (hc : c ≠ .busyRetry) :
    rf (s.orangeryRefuse op c) ORANGERY_CMD_STAT_LAST_STATUS = c.val ∧ (s.orangeryRefuse op c).orang = s.orang := by
  have h : s.orangeryRefuse op c = (s.cmdEnd orangeryIf op c).journal 3 175 srcORANGERY noUnit c := by
    simp [State.orangeryRefuse, State.cmdRefuse, hc]
  rw [h, rf_journal _ _ _ _ _ _ _ (by decide) (.inl (by decide))]
  exact ⟨rf_cmdEnd_status s orangeryIf_shows op c 0, by simp⟩

theorem stageOf_congr {s t : State} (h : t.orang = s.orang) (k : Nat) : stageOf t k = stageOf s k := by simp [stageOf, h]

theorem setStage_orang (s : State) (h : Nat) (o : Option StageObj) :
    (s.setStage h o).orang = { s.orang with stage := Sparse.put (fun _ => none) s.orang.stage h o } := rfl

@[simp] theorem setStage_tcm (s : State) (h : Nat) (o : Option StageObj) : (s.setStage h o).tcm = s.tcm := rfl

theorem startCmd_orang (s : State) (c : OCmd) : (s.startCmd c).orang = { s.orang with cmd := some c } := rfl

@[simp] theorem startCmd_tcm (s : State) (c : OCmd) : (s.startCmd c).tcm = s.tcm := rfl

theorem newEpoch_orang (s : State) : s.newEpoch.2.orang = s.orang := rfl

@[simp] theorem newEpoch_tcm (s : State) : s.newEpoch.2.tcm = s.tcm := rfl

theorem stageOf_startCmd (s : State) (c : OCmd) (k : Nat) : stageOf (s.startCmd c) k = stageOf s k := by
  simp [stageOf, startCmd_orang]

theorem stageOf_setStage (s : State) (h k : Nat) (o : Option StageObj) : stageOf (s.setStage h o) k = if k = h then o else stageOf s k := by
  unfold stageOf
  rw [setStage_orang]
  exact Sparse.get_put _ _ _ _ _

/-! ### The STAGE commands -/

/-- STAGE_ALLOC whose conditions hold takes the lowest free handle, an epoch of its own and an empty object. -/
theorem execStageAlloc_ok {s : State} (h : stageAllocCode s = none) :
    ∃ k, freeHandle s = some k ∧ execStageAlloc s
      = .next ((s.newEpoch.2.setStage k (some ⟨arg0 s, s.newEpoch.1, none, [], false⟩)).cmdEnd orangeryIf 1 .ok k) := by
  have hall := firstCode_eq_none.1 h
  simp only [List.forall_mem_cons, Bool.or_eq_false_iff, decide_eq_false_iff_not, Bool.not_eq_false', Option.isNone_eq_false_iff,
    Option.isSome_iff_exists, Nat.not_lt] at hall
  obtain ⟨-, ⟨-, hep⟩, ⟨⟨k, hk⟩, hfree⟩, -⟩ := hall
  refine ⟨k, hk, ?_⟩
  have : s.stageAlloc (arg0 s) none = some (k, s.newEpoch.2.setStage k (some ⟨arg0 s, s.newEpoch.1, none, [], false⟩)) := by
    simp [State.stageAlloc, hk, hfree, hep]
  simp only [execStageAlloc, h, this]

theorem execStageWrite_ok {s : State} {h : Nat} {o : StageObj} (ho : stageOf s h = some o) (hc : stageWriteCode s h = none)
    (hp : tcmPoisoned s (arg1 s) (arg2 s) = false) : execStageWrite h s
      = .next ((s.setStage h (some (o.write (arg0 s) (tcmRead s (arg1 s) (arg2 s))))).startCmd ⟨2, h, arg0 s, arg2 s, false, false⟩) := by
  simp [execStageWrite, ho, hc, hp]

theorem execStageHash_ok {s : State} {h : Nat} (hc : stageHashCode s h = none) :
    ∃ p, execStageHash h s = .next (s.startCmd ⟨3, h, arg0 s, arg2 s, false, p⟩) :=
  ⟨_, by simp only [execStageHash, hc]; rfl⟩

theorem stageOf_stageFree (s : State) (h : Nat) : stageOf (s.stageFree h) h = none := by
  unfold State.stageFree
  rw [stageOf_setStage, if_pos rfl]

/-- Settles O25: each command whose conditions hold does what its rule says (`execStageAlloc_ok`, `execStageWrite_ok`), and a refusal leaves
the objects (`orangeryRefuse_shows`). -/
theorem stagingCommands : Obligations.StagingCommands := by
  refine fun s => ⟨fun hc => ?_, fun h o ho hc hp => ?_, fun h hc => ?_, fun h hc => ?_, fun hz => ?_, fun h hn => ?_⟩
  · obtain ⟨k, hk, he⟩ := execStageAlloc_ok hc
    refine ⟨k, _, he, hk, rf_cmdEnd_status _ orangeryIf_shows 1 .ok k, ⟨⟨arg0 s, s.newEpoch.1, none, [], false⟩, ?_, rfl, rfl, rfl⟩, by simp,
      by simp [setStage_orang, newEpoch_orang]⟩
    rw [stageOf_congr (State.cmdEnd_orang _ _ _ _ _), stageOf_setStage, if_pos rfl]
  · refine ⟨_, execStageWrite_ok ho hc hp, ?_, by simp [startCmd_orang], by simp⟩
    rw [stageOf_startCmd, stageOf_setStage, if_pos rfl]
  · obtain ⟨p, he⟩ := execStageHash_ok hc
    exact ⟨_, he, by simp [startCmd_orang], by simp [startCmd_orang]⟩
  · have he : execStageFree h s = .next ((s.stageFree h).cmdEnd orangeryIf 4 .ok) := by simp only [execStageFree, hc]
    refine ⟨_, he, ?_, rf_cmdEnd_status _ orangeryIf_shows 4 .ok 0⟩
    rw [stageOf_congr (State.cmdEnd_orang _ _ _ _ _), stageOf_stageFree]
  · have hc : stageAllocCode s = some .malformed := by simp [stageAllocCode, firstCode, hz]
    have he : execStageAlloc s = .next (s.orangeryRefuse 1 .malformed) := by simp only [execStageAlloc, hc]
    exact ⟨_, he, orangeryRefuse_shows s 1 (by decide)⟩
  · have hc : stageFreeCode s h = some .malformed := by simp [stageFreeCode, firstCode, hn]
    have he : execStageFree h s = .next (s.orangeryRefuse 4 .malformed) := by simp only [execStageFree, hc]
    exact ⟨_, he, orangeryRefuse_shows s 4 (by decide)⟩

end Sys2Proof.Machine
end

section
/-! What power, pin and reset events do under their conditions (R48, R49, R58 to R60, R83, R85). -/

namespace Sys2Proof.Machine

/-! ### What a device reset keeps -/

theorem deviceReset_boot (s : State) (c : Nat) : (s.deviceReset c).boot = (s.otpCut.held c).boot :=
  keepFields_keeps State.boot (fun _ _ _ => rfl) _ _

theorem deviceReset_supplies (s : State) (c : Nat) : (s.deviceReset c).boot.supplies = s.boot.supplies := by
  rw [deviceReset_boot]
  show s.otpCut.boot.supplies = _
  rw [State.otpCut_boot]

theorem deviceReset_pinLow (s : State) (c : Nat) : (s.deviceReset c).boot.pinLow = s.boot.pinLow := by
  rw [deviceReset_boot]
  show s.otpCut.boot.pinLow = _
  rw [State.otpCut_boot]

theorem rf_lt (s : State) (g : Fld) : rf s g < 2 ^ g.wid := bitsAt_lt _ _ _

/-- Fields of a list that are copied from `s`: each one that is there, or agrees already, ends as `s` holds it. -/
theorem rf_each_copy (s : State) (l : List Fld) (g : Fld) (hb : g.lo + g.wid ≤ 32) (hl : ∀ f ∈ l, f = g ∨ f.apart g) (t : State)
    (h : g ∈ l ∨ rf t g = rf s g) : rf (t.each l fun t f => t.setF f (rf s f)) g = rf s g := by
  induction l generalizing t with
  | nil => exact h.resolve_left List.not_mem_nil
  | cons f l ih =>
    refine ih (fun e he => hl e (List.mem_cons_of_mem _ he)) (t.setF f (rf s f)) ?_
    by_cases hf : f = g
    · subst hf
      exact .inr ((rf_setF_same t f _ hb).trans (Nat.mod_eq_of_lt (rf_lt s f)))
    · obtain hm | hm := h
      · exact .inl ((List.mem_cons.1 hm).resolve_left fun k => hf k.symm)
      · exact .inr ((rf_setF_ne t f g _ ((hl f List.mem_cons_self).resolve_left hf)).trans hm)

theorem keptFields_apart : ∀ g ∈ keptFields, g.lo + g.wid ≤ 32 ∧ ∀ f ∈ keptFields, f = g ∨ f.apart g := by decide +kernel

/-- A kept field holds after a device reset what it held before (R58, R83). -/
theorem rf_deviceReset_kept (s : State) (c : Nat) {g : Fld} (hg : g ∈ keptFields) : rf (s.deviceReset c) g = rf s g := by
  obtain ⟨hb, hl⟩ := keptFields_apart g hg
  unfold State.deviceReset State.keepFields
  rw [rf_each_copy s.otpCut keptFields g hb hl _ (.inl hg), rf_congr s s.otpCut s.otpCut_regs]

/-- A device whose pin is low stays in reset, unless the pin is ignored (R48). -/
theorem endReset_held (s : State) (te : Bool) (h : pinHolds s = true) : s.endReset te = s := by
  simp [State.endReset, h]

/-! ### Power and pin events -/

variable (s : State)

theorem exec_mainPowerGood_held (te : Bool) (bs : List Nat) (h : s.boot.stage = .held) (hm : mode s ≠ moDORMANT) :
    exec (.mainPowerGood te bs) s
      = .next ((((s.modBoot fun b => { b with supplies := 15 }).raise SYSCTL_PIN_STAT_PWRGD_LVL).showBanks bs).endReset te) := by
  simp only [exec, execMainPowerGood, h, hm, if_true, if_false]

/-- Fields of SYSCTL_PIN_STAT and groups other than the registers say nothing of the mode. -/
theorem mode_setF_pwrgd (v : Nat) : mode (s.setF SYSCTL_PIN_STAT_PWRGD_LVL v) = mode s := rf_setF_ne _ _ _ _ (by decide)

theorem exec_pwrgdFall_resets (hl : sybLive s = true) (hm : mode s ≠ moDORMANT) :
    completes .pwrgdFall s fun t => t.boot.stage = .held ∧ t.boot.supplies = setBits s.boot.supplies 3 1 0 ∧ t.tcm = [] ∧ t.chans = []
      ∧ t.lodge.vault = s.lodge.vault := by
  generalize hu : (s.setF SYSCTL_PIN_STAT_PWRGD_LVL 0).modBoot (fun b => { b with supplies := setBits b.supplies 3 1 0 }) = u
  have hmode : mode u ≠ moDORMANT := by rw [← hu]; exact (mode_setF_pwrgd s 0).symm ▸ hm
  have he : exec .pwrgdFall s = .next (u.deviceReset rcPWRGD) := by
    simp only [exec, execPwrgdFall, hl, Bool.not_true, Bool.false_eq_true, if_false, hu, hmode]
  obtain ⟨-, hvault, -, htcm, -, -, hchans, -⟩ := deviceReset_after u rcPWRGD
  refine ⟨_, he, deviceReset_stage u _, ?_, htcm, hchans, ?_⟩
  · rw [deviceReset_supplies, ← hu]; rfl
  · rw [hvault, ← hu]; rfl

theorem exec_supplyMonitorDrop_resets {k : Nat} (hk : k < 3) (hm : mode s ≠ moDORMANT) :
    exec (.supplyMonitorDrop k) s = .next ((s.modBoot fun b => { b with supplies := setBits b.supplies k 1 0 }).deviceReset rcMONITOR) := by
  have hmode : mode (s.modBoot fun b => { b with supplies := setBits b.supplies k 1 0 }) ≠ moDORMANT := hm
  simp only [exec, execSupplyMonitorDrop, hk, if_true, hmode, if_false]

theorem exec_mainPowerLoss_sleeps {k : Nat} (hk : k < 3) (hm : mode s ≠ moDORMANT) :
    exec (.mainPowerLoss k) s = .next ((((s.modBoot fun b => { b with supplies := setBits b.supplies k 1 0 }).deviceReset 0).setF SYSCTL_MODE_MODE
      moDORMANT).setF SYSCTL_RSTCAUSE_PIN_IGNORED 0) := by
  have hmode : mode (s.modBoot fun b => { b with supplies := setBits b.supplies k 1 0 }) ≠ moDORMANT := hm
  simp only [exec, execMainPowerLoss, hk, if_true, hmode, if_false]

/-- A reset that is asked for outside an atomic window and outside a SCRAP wipe comes at once (R59). -/
theorem askReset_now (c : Nat) (te : Bool) (ha : s.atomicUntil ≤ s.usec) (hs : s.lcs.scrap = 0) : s.askReset c te = s.resetNow c te := by
  simp [State.askReset, State.forceReset, atomicOpen, Nat.not_lt.2 ha, hs]

theorem exec_sysRstNAssert_resets (hl : sybLive s = true) (hm : mode s ≠ moDORMANT) (hp : rb s SYSCTL_RSTCAUSE_PIN_IGNORED = false)
    (ha : s.atomicUntil ≤ s.usec) (hs : s.lcs.scrap = 0) :
    completes .sysRstNAssert s fun t => t.boot.stage = .held ∧ t.boot.pinLow = true ∧ t.tcm = [] ∧ t.chans = [] ∧ t.lodge.vault = s.lodge.vault := by
  generalize hu : s.modBoot (fun b => { b with pinLow := true }) = u
  have hmode : mode u ≠ moDORMANT := by rw [← hu]; exact hm
  have hpin : rb u SYSCTL_RSTCAUSE_PIN_IGNORED = false := by rw [← hu]; exact hp
  have hask : u.askReset rcPIN false = u.resetNow rcPIN false := askReset_now u _ _ (by rw [← hu]; exact ha) (by rw [← hu]; exact hs)
  have hlow : (u.deviceReset rcPIN).boot.pinLow = true := by rw [deviceReset_pinLow, ← hu]; rfl
  have hkept : rb (u.deviceReset rcPIN) SYSCTL_RSTCAUSE_PIN_IGNORED = false := by
    rw [rb, rf_deviceReset_kept u _ (by decide)]; exact hpin
  have hnow : u.resetNow rcPIN false = u.deviceReset rcPIN := endReset_held _ _ (by simp [pinHolds, hlow, hkept])
  have he : exec .sysRstNAssert s = .next (u.deviceReset rcPIN) := by
    simp only [exec, execSysRstNAssert, hl, Bool.not_true, Bool.false_eq_true, if_false, hu, hpin, hmode, decide_false, Bool.or_self, hask, hnow]
  obtain ⟨-, hvault, -, htcm, -, -, hchans, -⟩ := deviceReset_after u rcPIN
  exact ⟨_, he, deviceReset_stage u _, hlow, htcm, hchans, by rw [hvault, ← hu]; rfl⟩

theorem exec_sysRstNRelease_live (te : Bool) (hl : sybLive s = true) :
    exec (.sysRstNRelease te) s = .next ((s.modBoot fun b => { b with pinLow := false }).endReset te) := by
  simp [exec, execSysRstNRelease, hl]

theorem exec_rstpinStuckTimeout_flags (te : Bool) (h : s.boot.stage = .held) (hl : s.boot.pinLow = true) (hs : s.boot.supplies = 15)
    (hp : rb s SYSCTL_RSTCAUSE_PIN_IGNORED = false) : exec (.rstpinStuckTimeout te) s
      = .next ((((s.raise SYSCTL_RSTCAUSE_RSTPIN_STUCK).raise SYSCTL_RSTCAUSE_PIN_IGNORED).endReset te).journal 7 83 srcSYSCTL noUnit) := by
  simp [exec, execRstpinStuckTimeout, h, hl, hs, hp]

theorem exec_pinIgnoredClear_high (hl : s.boot.pinLow = false) :
    exec .pinIgnoredClear s = .next (s.setF SYSCTL_RSTCAUSE_PIN_IGNORED 0) := by
  simp [exec, execPinIgnoredClear, hl]

theorem exec_deferredDeviceReset_now {c : Nat} (te : Bool) (hd : s.boot.deferred = some c) (hs : s.lcs.scrap = 0) :
    exec (.deferredDeviceReset te) s = .next (s.resetNow c te) := by
  simp [exec, execDeferredDeviceReset, hd, State.forceReset, hs]

theorem exec_devReset_now {w : Nat} (te : Bool) (hk : bootKeyOk w = true) (hw : w.testBit 0 = true) (ha : s.atomicUntil ≤ s.usec)
    (hs : s.lcs.scrap = 0) : exec (.devReset w te) s = .next (s.resetNow rcSWDEV te) := by
  simp [exec, execDevReset, hk, hw, askReset_now s rcSWDEV te ha hs]

/-! ### Belvedere (R26, R60, R85) -/

theorem exec_bvRestart_asked {w : Nat} (hk : bootKeyOk w = true) (hw : w.testBit 1 = true) :
    exec (.bvRestart w) s = .next (s.bvRestart (bitsAt w 2 1) rcRESTART) := by
  simp [exec, execBvRestart, hk, hw]

theorem exec_wdtKick_running {w e : Nat} (hk : bitsAt w 16 16 = 0xC3D2) (he : s.boot.wdtEnd = some e) :
    exec (.wdtKick w) s = .next (s.modBoot fun b => { b with wdtEnd := some (s.usec + 1000 * rf s SYSCTL_WDT_CTL_PERIOD_MS) }) := by
  simp [exec, execWdtKick, hk, he]

theorem exec_wdtExpiry_running {e : Nat} (he : s.boot.wdtEnd = some e) (hen : rb s SYSCTL_WDT_CTL_EN = true) :
    exec .wdtExpiry s = .next ((s.journal 7 60 srcSYSCTL noUnit).bvRestart 0 rcWDT) := by
  simp [exec, execWdtExpiry, he, hen]

theorem exec_failover_standby (hr : bvRuns s = true) (hs : standby s = true) : exec .failover s = .next s.failover := by
  simp [exec, execFailover, State.pairFails, hr, hs]

end Sys2Proof.Machine
end

section
/-! What clock, plane, training, bank, PCIe and temperature events do under their conditions (R25, R28, R29, R46, R57, R86, R446). -/

namespace Sys2Proof.Machine

/-! ### Fields that the loss of a clock leaves -/

section
variable (s : State) {g : Fld}

theorem rf_spareLow (p u : Nat) (h : SYSCTL_SPARE_EVT_SPARE_LOW.apart g) (hj : offJournal g.addr) : rf (s.spareLow p u) g = rf s g := by
  unfold State.spareLow State.raise
  rw [rf_journalD _ _ _ _ _ _ _ _ _ (by decide) hj, rf_setF_ne _ _ _ _ h]

theorem rf_spareUsed {e : Fld} (u : Nat) (last : Bool) (he : e.apart g) (h : SYSCTL_SPARE_EVT_SPARE_LOW.apart g) (hj : offJournal g.addr) :
    rf (s.spareUsed e u last) g = rf s g := by
  have hused : rf ((s.raise e).journalD 7 31 srcSYSCTL u 0 0 [BitVec.ofNat 8 e.lo]) g = rf s g := by
    rw [rf_journalD _ _ _ _ _ _ _ _ _ (by decide) hj]
    exact rf_setF_ne _ _ _ _ he
  unfold State.spareUsed
  cases last with
  | false => exact hused
  | true => exact (rf_spareLow _ _ _ h hj).trans hused

/-- The fields that the loss of a PLL may change, besides those of the journal: the selector, holdover, their events and the spares. -/
def clockFields : List Fld :=
  [SYSCTL_CLKSTAT_ACTIVE_PLL, SYSCTL_CLKSTAT_HOLDOVER, SYSCTL_CLKEVT_SWITCHED, SYSCTL_CLKEVT_HOLDOVER_ENTERED, SYSCTL_SPARE_STAT_PLL_SPARE,
    SYSCTL_SPARE_EVT_PLL_USED, SYSCTL_SPARE_EVT_SPARE_LOW]

variable (h : ∀ f ∈ clockFields, f.apart g)
include h

theorem rf_showClocks : rf s.showClocks g = rf s g := rf_setF_ne _ _ _ _ (h _ (by decide))

theorem rf_clockSwitch (p : Nat) : rf (s.clockSwitch p) g = rf s g := by
  unfold State.clockSwitch State.raise
  rw [rf_showClocks _ h, rf_setF_ne _ _ _ _ (h _ (by decide)), rf_setF_ne _ _ _ _ (h _ (by decide)), rf_setF_ne _ _ _ _ (h _ (by decide))]

theorem rf_clockLost (hj : offJournal g.addr) : rf s.clockLost g = rf s g := by
  unfold State.clockLost
  dsimp only
  split
  · rw [rf_spareUsed _ _ _ (h _ (by decide)) (h _ (by decide)) hj, rf_clockSwitch _ h]
  · split
    · exact rf_showClocks _ h
    · unfold State.raise
      rw [rf_showClocks _ h, rf_journal _ _ _ _ _ _ _ (by decide) hj, rf_setF_ne _ _ _ _ (h _ (by decide)), rf_setF_ne _ _ _ _ (h _ (by decide))]

end

/-! ### Clocks (R28, R29) -/

variable (s : State)

/-- The event of a PLL that loses its lock. -/
def unlockFld (p : Nat) : Fld := if p = 0 then SYSCTL_CLKEVT_PLL0_UNLOCK else SYSCTL_CLKEVT_PLL1_UNLOCK

/-- The lock bits, the reference bits and the unlock events share no bit with each other or with what the selector shows. -/
theorem lockFld_apart : ∀ p < 2, ((lockFld p).lo + (lockFld p).wid ≤ 32 ∧ (lockFld p).wid = 1 ∧ offJournal (lockFld p).addr)
    ∧ (∀ f ∈ clockFields, f.apart (lockFld p)) ∧ (∀ r < 2, (refFld r).apart (lockFld p)) ∧ (lockFld p).apart SYSCTL_CLKSTAT_ACTIVE_PLL
    ∧ (lockFld p).apart SYSCTL_CLKSTAT_HOLDOVER := by decide

theorem unlockFld_apart : ∀ p < 2, ((unlockFld p).lo + (unlockFld p).wid ≤ 32 ∧ (unlockFld p).wid = 1 ∧ offJournal (unlockFld p).addr)
    ∧ (∀ f ∈ clockFields, f.apart (unlockFld p)) ∧ (unlockFld p).apart (lockFld p) ∧ (unlockFld p).apart SYSCTL_CLKSTAT_ACTIVE_PLL := by decide

theorem refFld_apart : ∀ r < 2, (refFld r).apart SYSCTL_CLKSTAT_ACTIVE_PLL ∧ (refFld r).apart SYSCTL_CLKSTAT_HOLDOVER := by decide

theorem refOf_lt (p : Nat) : refOf s p < 2 := by
  unfold refOf
  split <;> decide

/-- A PLL that locks shows its lock and its reference. -/
def State.lockShown (s : State) (p : Nat) : State := (s.raise (lockFld p)).raise (refFld (refOf s p))

theorem rf_lockShown (p : Nat) {g : Fld} (hl : (lockFld p).apart g) (hr : ∀ r < 2, (refFld r).apart g) : rf (s.lockShown p) g = rf s g :=
  (rf_setF_ne _ _ _ _ (hr _ (refOf_lt _ p))).trans (rf_setF_ne _ _ _ _ hl)

/-- The first lock of the active PLL lets the start sequence go on (R61 step 2). -/
theorem execPllLock_first {p : Nat} (hp : p < 2) (hst : s.boot.stage = .reset1) (ha : p = activePll s)
    (hh : rb s SYSCTL_CLKSTAT_HOLDOVER = false) :
    execPllLock p s = .next ((s.lockShown p).showClocks.modBoot fun b => { b with stage := .clocks }) := by
  obtain ⟨-, -, -, hla, hlh⟩ := lockFld_apart p hp
  have hhold : rb (s.lockShown p) SYSCTL_CLKSTAT_HOLDOVER = false := by
    rw [rb, rf_lockShown s p hlh fun r hr => (refFld_apart r hr).2]
    exact hh
  have hactive : activePll (s.lockShown p).showClocks = p := by
    rw [ha]
    exact (rf_setF_ne _ _ _ _ (by decide)).trans (rf_lockShown s _ (ha ▸ hla) fun r hr => (refFld_apart r hr).1)
  have hstage : (s.lockShown p).showClocks.boot.stage = .reset1 := hst
  have hgo : (decide (2 ≤ p) || decide (s.boot.stage = .held)) = false := by simp [hst, hp]
  have hshown : (s.raise (lockFld p)).raise (refFld (refOf s p)) = s.lockShown p := rfl
  unfold execPllLock
  simp only [hgo, hshown, hhold, hstage, hactive, Bool.false_eq_true, if_false, Bool.not_false, if_true, decide_true, Bool.and_self]

theorem exec_pllLock_starts {p : Nat} (hp : p < 2) (hst : s.boot.stage = .reset1) (ha : p = activePll s)
    (hh : rb s SYSCTL_CLKSTAT_HOLDOVER = false) : completes (.pllLock p) s fun t => t.boot.stage = .clocks ∧ rb t (lockFld p) = true := by
  obtain ⟨⟨hb, hw, -⟩, hclock, href, -⟩ := lockFld_apart p hp
  refine ⟨_, execPllLock_first s hp hst ha hh, rfl, ?_⟩
  rw [rb_modBoot, rb, rf_showClocks _ hclock]
  show (rf (State.setF _ _ 1) (lockFld p) != 0) = true
  rw [rf_setF_ne _ _ _ _ (href _ (refOf_lt _ p))]
  refine (rb_setF_same _ _ _ hb).trans ?_
  rw [hw]; rfl

theorem exec_pllUnlock_active {p : Nat} (hp : p < 2) (ha : p = activePll s) :
    completes (.pllUnlock p) s fun t => rb t (lockFld p) = false
      ∧ rb t (if p = 0 then SYSCTL_CLKEVT_PLL0_UNLOCK else SYSCTL_CLKEVT_PLL1_UNLOCK) = true := by
  show completes (.pllUnlock p) s fun t => rb t (lockFld p) = false ∧ rb t (unlockFld p) = true
  generalize hu : (s.setF (lockFld p) 0).raise (unlockFld p) = u
  obtain ⟨⟨hbl, -, hjl⟩, hcl, -, hla, -⟩ := lockFld_apart p hp
  obtain ⟨⟨hbu, hw, hju⟩, hcu, hul, hua⟩ := unlockFld_apart p hp
  have hactive : p = activePll u := by
    rw [ha, ← hu]
    exact ((rf_setF_ne _ _ _ _ hua).trans (rf_setF_ne _ _ _ _ hla)).symm
  have he : exec (.pllUnlock p) s = .next u.clockLost := by
    have hu' : (s.setF (lockFld p) 0).raise (if p = 0 then SYSCTL_CLKEVT_PLL0_UNLOCK else SYSCTL_CLKEVT_PLL1_UNLOCK) = u := hu
    simp only [exec, execPllUnlock, Nat.not_le.2 hp, if_false, hu', ← hactive, if_true]
  refine ⟨_, he, ?_, ?_⟩
  · rw [rb, rf_clockLost u hcl hjl, ← hu]
    refine (rb_setF_ne _ _ _ _ hul).trans ((rb_setF_same _ _ _ hbl).trans ?_)
    rw [Nat.zero_mod]; rfl
  · rw [rb, rf_clockLost u hcu hju, ← hu]
    refine (rb_setF_same _ _ _ hbu).trans ?_
    rw [hw]; rfl

/-- The loss of a reference: the PLL that it drives is lost, and REFCLK_B counts as a spare brought in where the other PLL locks to it (R28). -/
theorem exec_referenceLost_cases {r : Nat} {u : State} (hr : r < 2)
    (hu : u = (s.setF (refFld r) 0).raise (if r = 0 then SYSCTL_CLKEVT_REFA_LOST else SYSCTL_CLKEVT_REFB_LOST)) :
    (refOf u (activePll u) ≠ r → exec (.referenceLost r) s = .next u)
      ∧ (refOf u (activePll u) = r → activePll u.clockLost = activePll u → exec (.referenceLost r) s = .next u.clockLost)
      ∧ (refOf u (activePll u) = r → activePll u.clockLost ≠ activePll u → refOf u.clockLost (activePll u.clockLost) ≠ r →
        exec (.referenceLost r) s = .next u.clockLost.refSpare) := by
  have he : exec (.referenceLost r) s = .next (if refOf u (activePll u) = r then
      u.clockLost.when (activePll u.clockLost ≠ activePll u && refOf u.clockLost (activePll u.clockLost) ≠ r) State.refSpare else u) := by
    simp only [exec, execReferenceLost, Nat.not_le.2 hr, if_false, ← hu]
  rw [he]
  refine ⟨fun h => ?_, fun h hs => ?_, fun h hs hn => ?_⟩
  · rw [if_neg h]
  · rw [if_pos h]; simp [State.when, hs]
  · rw [if_pos h]; simp [State.when, hs, hn]

theorem exec_switchReq_locked (h : rb s (lockFld (1 - activePll s)) = true) :
    exec .switchReq s = .next (s.clockSwitch (1 - activePll s)) := by
  simp [exec, execSwitchReq, h]

/-! ### Planes and training (R23, R25, R86) -/

theorem exec_planeIsolation_serving {x c : Nat} (hx : x < 2) (hs : serving s x = true) (hc : c ≠ 1) :
    exec (.planeIsolation x c) s = .next (s.isolate x) := by
  simp [exec, execPlaneIsolation, Nat.not_le.2 hx, hs, State.when, hc]

/-- A rebuild that nothing forbids starts. -/
theorem rebuild_starts {x w : Nat} (hw : w.testBit x = true) (h : rebuildCode s x w = none) :
    s.rebuild x w = (s.setPlaneSt x plREBUILDING).setF SYSCTL_PLANE_STAT_LAST_STATUS 0 := by
  simp [State.rebuild, hw, h]

theorem exec_rebuildDone_serves {x : Nat} (hx : x < 2) (hp : planeSt s x = plREBUILDING) (hs : serving s (1 - x) = true) :
    exec (.rebuildDone x) s = .next ((s.setPlane x (planeOf s (1 - x))).setPlaneSt x plSERVING) := by
  simp [exec, execRebuildDone, hx, hp, hs]

/-- The retrain bits of a written word name one interface. -/
theorem retrainBits_single {i w : Nat} (hi : i < 2) (hw : w / 65536 % 4 = 2 ^ i) : ([0, 1].filter fun j => w.testBit (16 + j)) = [i] := by
  have hbit {j : Nat} (hj : j < 2) : w.testBit (16 + j) = decide (i = j) := by
    have hdiv : w.testBit (16 + j) = (w / 65536).testBit j := by
      rw [Nat.add_comm]
      exact (Nat.testBit_div_two_pow w j).symm
    have hlow : (w / 65536 % 2 ^ 2).testBit j = (w / 65536).testBit j := by
      rw [Nat.testBit_mod_two_pow, decide_eq_true hj, Bool.true_and]
    rw [hdiv, ← hlow, show w / 65536 % 2 ^ 2 = 2 ^ i from hw, Nat.testBit_two_pow]
  have h0 : w.testBit (16 + 0) = decide (i = 0) := hbit (by decide)
  have h1 : w.testBit (16 + 1) = decide (i = 1) := hbit (by decide)
  obtain rfl | rfl : i = 0 ∨ i = 1 := by omega
  all_goals simp [List.filter, h0, h1]

theorem trainFields_apart : ∀ i < 2, (attemptsFld i).apart (trainFld i) ∧ (trainFld i).lo + (trainFld i).wid ≤ 32
    ∧ (attemptsFld i).apart SYSCTL_TRAIN_STAT_LAST_STATUS ∧ (trainFld i).apart SYSCTL_TRAIN_STAT_LAST_STATUS := by decide

/-- A retrain of the one interface whose plane is isolated starts: its result is cleared and its training runs (R86). -/
theorem retrain_single {i : Nat} {w : Nat} (hi : i < 2) (hw : w / 65536 % 4 = 2 ^ i) (hp : planeSt s i = plISOLATED) :
    (s.retrain w).boot.training.testBit i = true ∧ rf (s.retrain w) (trainFld i) = 0 ∧ rf (s.retrain w) SYSCTL_TRAIN_STAT_LAST_STATUS = 0 := by
  obtain ⟨ha, hfit, hal, htl⟩ := trainFields_apart i hi
  have hcode : retrainCode s [i] = none := by simp [retrainCode, firstCode, serving, hp, plSERVING, plISOLATED, plREBUILDING]
  generalize hu : ((s.setF SYSCTL_TRAIN_STAT_LAST_STATUS 0).each ([0, 1].filter fun j => !([i].contains j)) fun s i =>
    s.when (trainPass s i && rf s SYSCTL_ID_DRAM_CAP = 0) (·.setF SYSCTL_ID_DRAM_CAP (s.boot.trainCap.getD i 0))) = u
  have hlast : rf u SYSCTL_TRAIN_STAT_LAST_STATUS = 0 := by
    rw [← hu, State.each_keeps (rf · SYSCTL_TRAIN_STAT_LAST_STATUS) _ _ fun s j => ?_]
    · exact (rf_setF_same _ _ _ (by decide)).trans (Nat.zero_mod _)
    · unfold State.when
      split
      · exact rf_setF_ne _ _ _ _ (by decide)
      · rfl
  have he : s.retrain w = ((u.setF (trainFld i) 0).setF (attemptsFld i) 0).modBoot fun b =>
      { b with training := setBits b.training i 1 1, retrainBoth := false } := by
    unfold State.retrain
    simp only [retrainBits_single hi hw, hcode, hu]
    rfl
  rw [he]
  refine ⟨?_, ?_, ?_⟩
  · simp [State.modBoot, setBits_testBit]
  · exact (rf_setF_ne _ _ _ _ ha).trans ((rf_setF_same _ _ _ hfit).trans (Nat.zero_mod _))
  · exact (rf_setF_ne _ _ _ _ hal).trans ((rf_setF_ne _ _ _ _ htl).trans hlast)

/-! ### Banks (R57) -/

theorem exec_bankClassChange_unapplied {b c : Nat} (hb : b < 24) (hc : c < 4) (hne : bankClass s b ≠ c) (hg : s.gate.applied = false) :
    exec (.bankClassChange b c) s = .next (s.setBankClass b c) := by
  have hg' : (s.setBankClass b c).gate.applied = false := by
    unfold State.setBankClass
    split <;> exact hg
  simp [exec, execBankClassChange, Nat.not_le.2 hb, Nat.not_le.2 hc, hne, hg']

theorem showPcl_boot (k : Nat) : (s.showPcl k).boot = s.boot := by
  unfold State.showPcl
  split
  · rfl
  · split <;> rfl

theorem emuReset_boot (ch : Nat) (all : Bool) : (s.emuReset ch all).boot = s.boot := by
  unfold State.emuReset
  dsimp only
  exact State.each_keeps State.boot _ _ (fun s r => State.setF_boot s _ _) s

theorem protoPowerOn_boot (ch : Nat) (k : Bool) : (s.protoPowerOn ch k).boot = s.boot := by
  unfold State.protoPowerOn
  cases k <;> simp [State.modChan, State.setChan]

theorem devPowerOn_boot (ch : Nat) : (s.devPowerOn ch).boot = s.boot := by
  unfold State.devPowerOn State.modChan State.setChan
  rw [State.setF_boot, State.setReg_boot]
  exact (emuReset_boot _ ch false).trans (protoPowerOn_boot s ch false)

theorem alertShow_boot (ch : Nat) : (s.alertShow ch).boot = s.boot := by
  unfold State.alertShow
  split <;> rfl

/-- Lines and channels of a bank that resumes change nothing of the bank itself. -/
theorem exec_bankResume_unfloats {b : Nat} (hb : b < 24) (hf : bankFloated s b = true) (hm : bankMatches s b = true) :
    completes (.bankResume b) s fun t => bankFloated t b = false := by
  generalize hu : (s.modBoot fun c => { c with floated := setBits c.floated b 1 0 }).setMapBit SYSCTL_BANK_ERR_MISMATCH b false = u
  have hfl : u.boot.floated.testBit b = false := by
    rw [← hu]
    show (setBits s.boot.floated b 1 0).testBit b = false
    simp [setBits_testBit]
  have he : exec (.bankResume b) s = .next ((u.each (linesOfBank u b) State.showPcl).each (chansOfBank b) fun s ch =>
      if chanInUse s ch then (s.devPowerOn ch).alertShow ch else s) := by
    simp only [exec, execBankResume, hb, hf, hm, decide_true, Bool.and_self, if_true, hu]
  refine ⟨_, he, ?_⟩
  dsimp only [bankFloated]
  rw [State.each_keeps State.boot _ _ fun s ch => ?_, State.each_keeps State.boot _ _ showPcl_boot]
  · exact hfl
  · split
    · rw [alertShow_boot, devPowerOn_boot]
    · rfl

/-! ### PCIe and temperature (R46, R445, R446) -/

theorem exec_pePerstNChange_high (hl : sybLive s = true) : exec (.pePerstNChange true) s = .next (s.setB SYSCTL_PIN_STAT_PERST_LVL true) := by
  simp [exec, execPePerstNChange, hl]

theorem exec_pcieLinkChange_up (g w : Nat) (hp : rb s SYSCTL_PIN_STAT_PERST_LVL = true) (he : rb s MTRANS_STAT_PCIE_EN = true) :
    exec (.pcieLinkChange true g w) s = .next (s.setLink true g w) := by
  simp [exec, execPcieLinkChange, hp, he]

theorem signed8_of_lt {v : Nat} (h : v < 128) : signed8 v = v := by simp [signed8, h]

theorem tempByte_natCast {v : Nat} (h : v < 128) : tempByte v = v := by
  unfold tempByte
  omega

/-- One sensor at or above WARN_AT, on a device that has measured nothing yet. -/
theorem exec_tempSample_first {d : Nat} (hd : d < 128) (hw : rf s SYSCTL_TEMP_WARN_AT ≤ d) (hv : rb s SYSCTL_TEMP_VALID = false)
    (hh : s.boot.tempHot = false) :
    completes (.tempSample [d]) s fun t => rf t SYSCTL_TEMP_TEMP = d ∧ rf t SYSCTL_TEMP_PEAK = d ∧ rb t SYSCTL_TEMP_WARN = true := by
  generalize hu : ((s.setF SYSCTL_TEMP_TEMP d).setF SYSCTL_TEMP_PEAK d).raise SYSCTL_TEMP_VALID = u
  have hhot : signed8 (d % 256) = d := by rw [Nat.mod_eq_of_lt (by omega), signed8_of_lt hd]
  have hat : signed8 (rf s SYSCTL_TEMP_WARN_AT) = rf s SYSCTL_TEMP_WARN_AT := signed8_of_lt (by omega)
  have hcold : u.boot.tempHot = false := by rw [← hu]; exact hh
  have he : exec (.tempSample [d]) s
      = .next (((u.raise SYSCTL_TEMP_WARN).journal 7 446 srcSYSCTL noUnit).modBoot fun b => { b with tempHot := true }) := by
    simp [exec, execTempSample, hhot, hat, hv, tempByte_natCast hd, hu, hcold, hw]
  have hrf {g : Fld} (hj : offJournal g.addr) : rf (((u.raise SYSCTL_TEMP_WARN).journal 7 446 srcSYSCTL noUnit).modBoot
      fun b => { b with tempHot := true }) g = rf (u.raise SYSCTL_TEMP_WARN) g := rf_journal _ _ _ _ _ _ _ (by decide) hj
  have hmod : d % 2 ^ 8 = d := Nat.mod_eq_of_lt (by omega)
  refine ⟨_, he, ?_, ?_, ?_⟩
  · rw [hrf (.inl (by decide)), ← hu]
    refine (rf_setF_ne _ _ _ _ (by decide)).trans ((rf_setF_ne _ _ _ _ (by decide)).trans ((rf_setF_ne _ _ _ _ (by decide)).trans ?_))
    exact (rf_setF_same _ _ _ (by decide)).trans hmod
  · rw [hrf (.inl (by decide)), ← hu]
    refine (rf_setF_ne _ _ _ _ (by decide)).trans ((rf_setF_ne _ _ _ _ (by decide)).trans ?_)
    exact (rf_setF_same _ _ _ (by decide)).trans hmod
  · rw [rb, hrf (.inl (by decide))]
    exact rb_setF_same _ _ _ (by decide)

end Sys2Proof.Machine
end

section
/-! The start sequence under its conditions (R61 to R67, R78, R82), and the completion of the bus, power, reset, clock, plane, bank and boot commands. -/

namespace Sys2Proof.Machine

/-! ### What the ROM's own work leaves unchanged -/

section
variable (s : State)

theorem memBump_boot (lo hi : Nat) : (s.memBump lo hi).boot = s.boot := by simp [State.memBump]

theorem memBump_tcm (lo hi : Nat) : (s.memBump lo hi).tcm = s.tcm := by simp [State.memBump]

theorem flipTest_boot (c : Nat) (sound : Bool) : (s.flipTest c sound).boot = s.boot := by
  unfold State.flipTest
  split
  · simp [memBump_boot]
  · rfl

theorem flipTest_tcm (c : Nat) (sound : Bool) : (s.flipTest c sound).tcm = s.tcm := by
  unfold State.flipTest
  split
  · simp [memBump_tcm]
  · rfl

/-- The checker test of a start with no bad memory only counts its flips and clears the marks of the table RAMs: what neither touches, it keeps. -/
theorem checkerTest_sound_keeps {β : Type} (g : State → β) (hf : ∀ s c, g (State.flipTest s c true) = g s)
    (hb : ∀ s : State, g (s.modBoot fun b => { b with tableBad := 0 }) = g s) : g (s.checkerTest [] false) = g s := by
  have hnil (t : State) (f : State → Nat → State) : t.each [] f = t := rfl
  unfold State.checkerTest
  simp only [hnil, List.contains_nil, List.filter_nil, Bool.not_false, Bool.false_and, Bool.false_eq_true, if_false, Bool.or_self, Bool.toNat_false,
    Nat.mul_zero, Nat.add_zero]
  rw [hb]
  exact State.each_keeps g _ (fun s (m : Nat × Nat) => s.flipTest m.2 true) (fun s m => hf s m.2) s

theorem applyComplete_boot (j : UpdJob) (c : Code) : (s.applyComplete j c).boot = s.boot := by
  unfold State.applyComplete
  split
  · split <;> rfl
  · rfl

theorem updEnd_boot (c : Code) : (s.updEnd c).boot = s.boot := by
  unfold State.updEnd
  split
  · rfl
  · rw [State.when_keeps State.boot _ _ fun s => State.raise_boot s _]
    simp [applyComplete_boot]

theorem wdtStart_stage : s.wdtStart.boot.stage = s.boot.stage := by
  unfold State.wdtStart
  split <;> rfl

theorem wdtStart_restart : s.wdtStart.boot.restart = s.boot.restart := by
  unfold State.wdtStart
  split <;> rfl

end

/-! ### The start sequence (R61) -/

variable (s : State)

theorem exec_otpSenseDone_otp (c : List (Nat × Nat)) (u : List Nat) (hst : s.boot.stage = .clocks) :
    completes (.otpSenseDone c u) s fun t => t.boot.stage = .otp := by
  refine ⟨_, rfl, ?_⟩
  simp only [hst, ne_eq, not_true_eq_false, if_false]
  rw [State.when_keeps State.boot _ _ fun s => by simp, State.when_keeps State.boot _ _ fun s => State.setF_boot s _ _]
  rfl

/-- A start with sound memories fills TCM, starts to read copy A and trains both interfaces. -/
theorem exec_romStart_sound (hst : s.boot.stage = .otp) (hte : s.boot.testen = false) (hre : s.boot.restart = none) :
    completes (.romStart []) s fun t => t.boot.stage = .rom ∧ t.boot.training = 3 ∧ t.tcm = [] := by
  generalize hu : (((s.fillTcm false).initClass 0).when (s.boot.bvPair = 0 && s.boot.img.isNone) (·.raise SYSCTL_SPARE_STAT_BV_STANDBY)) = u
  have hboot : u.boot = s.boot := by
    rw [← hu, State.when_keeps State.boot _ _ fun s => State.raise_boot s _]; rfl
  have htcm : u.tcm = [] := by
    rw [← hu, State.when_keeps State.tcm _ _ fun s => State.raise_tcm s _]; rfl
  generalize hv : (u.modBoot fun b => { b with stage := .rom, bootCopies := 0 }).checkerTest [] false = v
  have hrom : v.boot.stage = .rom := by
    rw [← hv]
    exact checkerTest_sound_keeps _ (fun t => t.boot.stage) (fun s c => congrArg Boot.stage (flipTest_boot s c true)) fun _ => rfl
  have he : exec (.romStart []) s = .next ((v.modBoot fun b => { b with cfgBus := true }).modBoot
      fun b => { b with training := 3, trainCap := [0, 0], retrainBoth := true }) := by
    have hinit : ((s.fillTcm false).initClass 0).boot = s.boot := rfl
    simp only [exec, execRomStart, hst, hre, hinit, hu, hboot, hte, hv, hrom, Option.isSome_none, ne_eq, not_true_eq_false, if_false,
      Bool.false_eq_true, Bool.false_and]
  refine ⟨_, he, hrom, rfl, ?_⟩
  show v.tcm = []
  rw [← hv]
  exact (checkerTest_sound_keeps _ State.tcm (fun s c => flipTest_tcm s c true) fun _ => rfl).trans htcm

theorem svnMin_modBoot (f : Boot → Boot) (cls : Nat) : svnMin (s.modBoot f) cls = svnMin s cls := by
  unfold svnMin
  rfl

theorem bootKey_modBoot (f : Boot → Boot) (k : Nat) (d : List Byte) : bootKey (s.modBoot f) k d = bootKey s k d := by
  unfold bootKey
  rfl

/-- The marks of the copies read do not enter the checks of a copy. -/
theorem copyChecks_modBoot (f : Boot → Boot) (img : CopyImage) : copyChecks (s.modBoot f) img = copyChecks s img := by
  unfold copyChecks classChecks
  simp only [svnMin_modBoot, bootKey_modBoot, rf_modBoot]

theorem copyPass_stage (k : Nat) (img : CopyImage) : (s.copyPass k img).boot.stage = .passed := by
  unfold State.copyPass
  rw [State.when_keeps State.boot _ _ fun s => State.spareLow_boot s _ _]
  rfl

theorem copyPass_used (k : Nat) (img : CopyImage) : rf (s.copyPass k img) SYSCTL_BOOT_STAT_COPY_USED = k % 2 := by
  unfold State.copyPass
  rw [State.when_keeps (rf · SYSCTL_BOOT_STAT_COPY_USED) _ _ fun s => rf_spareLow s _ _ (by decide) (.inl (by decide))]
  rw [rf_modBoot]
  exact rf_setF_same _ _ _ (by decide)

theorem exec_copyReadDone_passes {k : Nat} (img : CopyImage) (hst : s.boot.stage = .rom) (hk : nextCopy s = some k)
    (hf : firstFail img.timeoutAt 1 (copyChecks s img) = none) :
    completes (.copyReadDone img) s fun t => t.boot.stage = .passed ∧ rf t SYSCTL_BOOT_STAT_COPY_USED = k % 2 := by
  have he : exec (.copyReadDone img) s
      = .next (((s.modBoot fun b => { b with bootCopies := setBits b.bootCopies k 1 1 }).copyStatus k none).copyPass k img) := by
    simp only [exec, execCopyReadDone, hst, hk, copyChecks_modBoot, hf]
  exact ⟨_, he, copyPass_stage _ _ _, copyPass_used _ _ _⟩

theorem exec_romRecoveryImage_firmware {cls : Nat} (man img : List Byte) (hst : s.boot.stage = .recovery) (hc : cls = 254)
    (hf : firstFail none 2 (classChecks s cls man img img.length ++ [(img.length ≤ 917504 && man.length ≤ 65536, .malformed)]) = none) :
    exec (.romRecoveryImage cls man img) s = .next ((s.ret (.rootWrite 1 [(cls, man, img)] none)).resetNow 0 s.boot.testen) := by
  subst hc
  simp only [exec, execRomRecoveryImage, hst, hf, ne_eq, not_true_eq_false, if_false, if_true, decide_true, Bool.true_or, Bool.true_and,
    decide_false, Bool.false_and, Bool.false_eq_true]

theorem exec_handover_enters {m : BootImg} (hst : s.boot.stage = .passed) (hm : s.boot.img = some m) :
    completes .handover s fun t => t.boot.stage = .firmware ∧ t.boot.restart = none := by
  refine ⟨_, rfl, ?_⟩
  simp only [hst, hm]
  split
  · split
    · simp only [updEnd_boot, wdtStart_stage, wdtStart_restart, State.modBoot_boot, and_self]
    · simp only [wdtStart_stage, wdtStart_restart, State.modBoot_boot, and_self]
  · simp only [wdtStart_stage, wdtStart_restart, State.modBoot_boot, and_self]

theorem exec_trainingDone_pass {i cap : Nat} (hi : i < 2) (ht : s.boot.training.testBit i = true) (hc : cap = 1 ∨ cap = 2) :
    exec (.trainingDone i true cap) s = .next ((s.setF (attemptsFld i) (rf s (attemptsFld i) + 1)).trainOne i 1 cap) := by
  simp [exec, execTrainingDone, Nat.not_le.2 hi, ht, hc]

theorem exec_assemblyEnd_done {u : State} (bl : List Nat) (bf : List (Nat × Nat)) (lv : Nat) (hm : mode s = moASSEMBLY)
    (hst : s.boot.stage = .firmware) (ht : s.boot.training = 0) (ha : sectionsApplied s = true) (hp : planeAble s = true)
    (hk : s.loadPlaneKeys = (u, true)) : exec (.assemblyEnd bl bf lv) s = .next ((u.assemblyDone bl bf lv).leaveAssembly).showStage := by
  simp [exec, execAssemblyEnd, hm, hst, ht, ha, hp, hk]

/-- Settles O57: each clause is the rule of its command above. -/
theorem busPowerAndBootCommandsComplete : Obligations.BusPowerAndBootCommandsComplete := by
  unfold Obligations.BusPowerAndBootCommandsComplete
  refine fun s => ⟨?bus, ?bus4, ?busBar, ?dbgRead, ?fault, ?dbgWrite, ?_⟩
  case bus => exact fun a v n q hs hf hb ht hx => exec_registerWrite_tcm hs v q hf hb ht hx
  case bus4 => exact fun a v q hs hf hb ht => exec_registerWrite_register hs v q hf hb ht
  case busBar => exact fun a v n q hs hf hb => exec_registerWrite_bar hs v q hf hb
  case dbgRead => exact fun a hs hf hb hg hr ht => exec_debugRead_register hs hf hb hg hr ht
  case fault => exact fun a n w hs hf => exec_busAccessFault hs hf
  case dbgWrite => exact fun a v hs hf hb hl hg ht => exec_debugWrite_register hs v hf hb hl hg ht
  refine ⟨exec_mainPowerGood_held s, exec_pwrgdFall_resets s, fun k => exec_supplyMonitorDrop_resets s, fun k => exec_mainPowerLoss_sleeps s,
    exec_sysRstNAssert_resets s, exec_sysRstNRelease_live s, exec_rstpinStuckTimeout_flags s, exec_pinIgnoredClear_high s,
    fun c te => exec_deferredDeviceReset_now s te, fun w te => exec_devReset_now s te, fun p => exec_pllLock_starts s,
    fun w => exec_bvRestart_asked s, fun w e => exec_wdtKick_running s, fun e => exec_wdtExpiry_running s, exec_failover_standby s,
    fun r u => exec_referenceLost_cases s, fun p => exec_pllUnlock_active s, exec_switchReq_locked s, fun x c => exec_planeIsolation_serving s, ?_⟩
  refine ⟨fun w hw h => congrArg _ (rebuild_starts s hw h), fun w hw h => congrArg _ (rebuild_starts s hw h), fun x => exec_rebuildDone_serves s,
    fun w hw hp => ⟨_, rfl, retrain_single s (by decide) hw hp⟩, fun w hw hp => ⟨_, rfl, retrain_single s (by decide) hw hp⟩,
    fun b c => exec_bankClassChange_unapplied s, fun b => exec_bankResume_unfloats s, exec_pePerstNChange_high s,
    fun d => exec_tempSample_first s, fun g w => exec_pcieLinkChange_up s g w, ?_⟩
  exact ⟨exec_otpSenseDone_otp s, exec_romStart_sound s, fun img k hst hk _ hf => exec_copyReadDone_passes s img hst hk hf,
    fun cls man img => exec_romRecoveryImage_firmware s man img, fun m => exec_handover_enters s, fun i cap => exec_trainingDone_pass s,
    fun u bl bf lv => exec_assemblyEnd_done s bl bf lv⟩

end Sys2Proof.Machine
end

section
/-! A failover between Belvedere pairs, and the clocks after the loss of a PLL or of a reference (R26, R28, R29, R31, R32). -/

namespace Sys2Proof.Machine

variable (s : State)

/-! ### Bits that are raised -/

theorem rb_raise_same {f : Fld} (hw : f.wid = 1) (hb : f.lo + f.wid ≤ 32) : rb (s.raise f) f = true := by
  unfold State.raise
  rw [rb_setF_same _ _ _ hb, hw]
  rfl

theorem rb_spareLow_same (p u : Nat) : rb (s.spareLow p u) SYSCTL_SPARE_EVT_SPARE_LOW = true := by
  unfold State.spareLow
  rw [rb_journalD _ _ _ _ _ _ _ _ _ (by decide) (.inl (by decide))]
  exact rb_raise_same s (by decide) (by decide)

/-- Where the last spare of a pool is brought in, SPARE_LOW is set (R32). -/
theorem rb_spareUsed_last (e : Fld) (u : Nat) : rb (s.spareUsed e u true) SYSCTL_SPARE_EVT_SPARE_LOW = true :=
  rb_spareLow_same _ _ _

/-! ### Failover (R26) -/

theorem bvRuns_of_firmware {s : State} (h : s.boot.stage = .firmware) : bvRuns s = true := by simp [bvRuns, h]

theorem failover_shows : s.failover.boot.bvPair = 1 ∧ rb s.failover SYSCTL_SPARE_STAT_BV_STANDBY = false
    ∧ rb s.failover SYSCTL_SPARE_EVT_SPARE_LOW = true := by
  refine ⟨by simp [State.failover], ?_, rb_spareUsed_last _ _ _⟩
  unfold State.failover
  rw [rb, rf_spareUsed _ _ _ (by decide) (by decide) (.inl (by decide)), rf_setF_same _ _ _ (by decide)]
  rfl

/-- Pair 1 takes over what pair 0 held: Belvedere's TCM, the domains, the requests taken, the keys and the engines. -/
theorem failover_keeps : s.failover.tcm = s.tcm ∧ s.failover.kiosk = s.kiosk ∧ s.failover.gate = s.gate ∧ s.failover.keys = s.keys
    ∧ s.failover.eng = s.eng := by simp [State.failover]

/-! ### What the selector shows (R28, R29) -/

theorem activePll_clockSwitch {p : Nat} (hp : p < 2) : activePll (s.clockSwitch p) = p := by
  unfold activePll State.clockSwitch State.showClocks State.setB State.raise
  rw [rf_setF_ne _ _ _ _ (by decide), rf_setF_ne _ _ _ _ (by decide), rf_setF_ne _ _ _ _ (by decide), rf_setF_same _ _ _ (by decide)]
  exact Nat.mod_eq_of_lt hp

theorem holdover_clockSwitch (p : Nat) : rb (s.clockSwitch p) SYSCTL_CLKSTAT_HOLDOVER = false := by
  unfold State.clockSwitch State.showClocks State.setB State.raise
  rw [rb_setF_ne _ _ _ _ (by decide), rb_setF_ne _ _ _ _ (by decide), rb_setF_same _ _ _ (by decide)]
  rfl

theorem switched_clockSwitch (p : Nat) : rb (s.clockSwitch p) SYSCTL_CLKEVT_SWITCHED = true := by
  unfold State.clockSwitch State.showClocks State.setB
  rw [rb_setF_ne _ _ _ _ (by decide)]
  exact rb_raise_same _ (by decide) (by decide)

/-- With AUTO_SWITCH set, a locked PLL takes over from the active one that is lost. -/
theorem clockLost_switches (ha : rb s SYSCTL_CLKSEL_AUTO_SWITCH = true) (hl : rb s (lockFld (1 - activePll s)) = true) :
    activePll s.clockLost = 1 - activePll s ∧ rb s.clockLost SYSCTL_CLKSTAT_HOLDOVER = false
      ∧ rb s.clockLost SYSCTL_CLKEVT_SWITCHED = true := by
  have he : s.clockLost = (s.clockSwitch (1 - activePll s)).spareUsed SYSCTL_SPARE_EVT_PLL_USED (1 - activePll s) true := by
    simp [State.clockLost, ha, hl]
  have hkeep {g : Fld} (hu : SYSCTL_SPARE_EVT_PLL_USED.apart g) (hs : SYSCTL_SPARE_EVT_SPARE_LOW.apart g) (hj : offJournal g.addr) :
      rf s.clockLost g = rf (s.clockSwitch (1 - activePll s)) g := by rw [he, rf_spareUsed _ _ _ hu hs hj]
  refine ⟨?_, ?_, ?_⟩
  · exact (hkeep (by decide) (by decide) (.inl (by decide))).trans (activePll_clockSwitch s (by omega))
  · rw [rb, hkeep (by decide) (by decide) (.inl (by decide))]
    exact holdover_clockSwitch _ _
  · rw [rb, hkeep (by decide) (by decide) (.inl (by decide))]
    exact switched_clockSwitch _ _

/-- Without AUTO_SWITCH the active PLL that is lost stays selected, in holdover. R29 says so where the other one is not locked; that a locked
one is not brought in either is the model's reading (log entry 45). -/
theorem clockLost_holds (ha : rb s SYSCTL_CLKSEL_AUTO_SWITCH = false) :
    activePll s.clockLost = activePll s ∧ rb s.clockLost SYSCTL_CLKSTAT_HOLDOVER = true := by
  unfold State.clockLost State.showClocks State.setB activePll
  simp only [ha, Bool.false_and, Bool.false_eq_true, if_false]
  split
  case isTrue hh =>
    exact ⟨rf_setF_ne _ _ _ _ (by decide), (rb_setF_ne _ _ _ _ (by decide)).trans hh⟩
  case isFalse =>
    rw [rf_setF_ne _ _ _ _ (by decide), rb_setF_ne _ _ _ _ (by decide), rf_journal _ _ _ _ _ _ _ (by decide) (.inl (by decide)),
      rb_journal _ _ _ _ _ _ _ (by decide) (.inl (by decide))]
    refine ⟨(rf_setF_ne _ _ _ _ (by decide)).trans (rf_setF_ne _ _ _ _ (by decide)), (rb_setF_ne _ _ _ _ (by decide)).trans ?_⟩
    exact rb_raise_same s (by decide) (by decide)

/-! ### A PLL that unlocks -/

/-- A PLL that unlocks shows the loss of its lock and its event. -/
def State.unlockShown (s : State) (p : Nat) : State := (s.setF (lockFld p) 0).raise (unlockFld p)

theorem unlock_apart : ∀ p < 2, ∀ g ∈ [SYSCTL_CLKSTAT_ACTIVE_PLL, SYSCTL_CLKSEL_AUTO_SWITCH, lockFld (1 - p)],
    (lockFld p).apart g ∧ (unlockFld p).apart g := by decide

theorem rf_unlockShown {p : Nat} (hp : p < 2) {g : Fld}
    (hg : g ∈ [SYSCTL_CLKSTAT_ACTIVE_PLL, SYSCTL_CLKSEL_AUTO_SWITCH, lockFld (1 - p)]) : rf (s.unlockShown p) g = rf s g := by
  obtain ⟨hl, hu⟩ := unlock_apart p hp g hg
  exact (rf_setF_ne _ _ _ _ hu).trans (rf_setF_ne _ _ _ _ hl)

/-- The active PLL that unlocks is lost, and shown unlocked. -/
theorem exec_pllUnlock_lost {p : Nat} (hp : p < 2) (ha : activePll s = p) :
    exec (.pllUnlock p) s = .next (s.unlockShown p).clockLost ∧ rb (s.unlockShown p).clockLost (lockFld p) = false := by
  have hactive : p = activePll (s.unlockShown p) := ha.symm.trans (rf_unlockShown s hp (by simp)).symm
  have hshown : (s.setF (lockFld p) 0).raise (if p = 0 then SYSCTL_CLKEVT_PLL0_UNLOCK else SYSCTL_CLKEVT_PLL1_UNLOCK) = s.unlockShown p := rfl
  have he : exec (.pllUnlock p) s = .next (s.unlockShown p).clockLost := by
    simp only [exec, execPllUnlock, Nat.not_le.2 hp, if_false, hshown, ← hactive, if_true]
  obtain ⟨t, ht, hlock, -⟩ := exec_pllUnlock_active s hp ha.symm
  obtain rfl : (s.unlockShown p).clockLost = t := Host.Outcome.next.inj (he.symm.trans ht)
  exact ⟨he, hlock⟩

theorem exec_pllUnlock_switches {p : Nat} (hp : p < 2) (ha : activePll s = p) (hauto : rb s SYSCTL_CLKSEL_AUTO_SWITCH = true)
    (hl : rb s (lockFld (1 - p)) = true) :
    ∃ t, exec (.pllUnlock p) s = .next t ∧ activePll t = 1 - p ∧ rb t SYSCTL_CLKSTAT_HOLDOVER = false ∧ rb t (lockFld p) = false
      ∧ rb t SYSCTL_CLKEVT_SWITCHED = true := by
  obtain ⟨he, hlock⟩ := exec_pllUnlock_lost s hp ha
  have hactive : activePll (s.unlockShown p) = p := (rf_unlockShown s hp (by simp)).trans ha
  have hauto' : rb (s.unlockShown p) SYSCTL_CLKSEL_AUTO_SWITCH = true := by rw [rb, rf_unlockShown s hp (by simp)]; exact hauto
  have hl' : rb (s.unlockShown p) (lockFld (1 - activePll (s.unlockShown p))) = true := by
    rw [hactive, rb, rf_unlockShown s hp (by simp)]; exact hl
  obtain ⟨hother, hhold, hswitched⟩ := clockLost_switches _ hauto' hl'
  exact ⟨_, he, hother.trans (by rw [hactive]), hhold, hlock, hswitched⟩

theorem exec_pllUnlock_holds {p : Nat} (hp : p < 2) (ha : activePll s = p) (hauto : rb s SYSCTL_CLKSEL_AUTO_SWITCH = false) :
    ∃ t, exec (.pllUnlock p) s = .next t ∧ activePll t = p ∧ rb t SYSCTL_CLKSTAT_HOLDOVER = true := by
  obtain ⟨hsame, hhold⟩ := clockLost_holds (s.unlockShown p) (by rw [rb, rf_unlockShown s hp (by simp)]; exact hauto)
  exact ⟨_, (exec_pllUnlock_lost s hp ha).1, (hsame.trans (rf_unlockShown s hp (by simp))).trans ha, hhold⟩

/-! ### A reference that is lost -/

/-- The event of a reference that is lost. -/
def refLostFld (r : Nat) : Fld := if r = 0 then SYSCTL_CLKEVT_REFA_LOST else SYSCTL_CLKEVT_REFB_LOST

/-- A reference that is lost shows it and its event. -/
def State.refLostShown (s : State) (r : Nat) : State := (s.setF (refFld r) 0).raise (refLostFld r)

theorem refLost_apart : ∀ r < 2, ∀ g ∈ [SYSCTL_CLKSTAT_ACTIVE_PLL, SYSCTL_CLKSEL_AUTO_SWITCH, SYSCTL_CLKSEL_REF_B_EN],
    (refFld r).apart g ∧ (refLostFld r).apart g := by decide

theorem refFld_kept : ∀ r < 2, ((refFld r).lo + (refFld r).wid ≤ 32 ∧ offJournal (refFld r).addr) ∧ (refLostFld r).apart (refFld r)
    ∧ ∀ f ∈ clockFields, f.apart (refFld r) := by decide

theorem rf_refLostShown {r : Nat} (hr : r < 2) {g : Fld}
    (hg : g ∈ [SYSCTL_CLKSTAT_ACTIVE_PLL, SYSCTL_CLKSEL_AUTO_SWITCH, SYSCTL_CLKSEL_REF_B_EN]) : rf (s.refLostShown r) g = rf s g := by
  obtain ⟨hf, he⟩ := refLost_apart r hr g hg
  exact (rf_setF_ne _ _ _ _ he).trans (rf_setF_ne _ _ _ _ hf)

theorem refOf_refLostShown {r : Nat} (hr : r < 2) (p : Nat) : refOf (s.refLostShown r) p = refOf s p := by
  unfold refOf rb
  rw [rf_refLostShown s hr (by simp)]

/-- The loss of a PLL leaves the reference shown as lost. -/
theorem rb_clockLost_refLost {r : Nat} (hr : r < 2) : rb (s.refLostShown r).clockLost (refFld r) = false := by
  obtain ⟨⟨hb, hj⟩, hlost, hclock⟩ := refFld_kept r hr
  rw [rb, rf_clockLost _ hclock hj]
  refine (rb_setF_ne _ _ _ _ hlost).trans ((rb_setF_same _ _ _ hb).trans ?_)
  rw [Nat.zero_mod]
  rfl

theorem exec_referenceLost_holds {r : Nat} (hr : r < 2) (href : refOf s (activePll s) = r) (hauto : rb s SYSCTL_CLKSEL_AUTO_SWITCH = false) :
    ∃ t, exec (.referenceLost r) s = .next t ∧ rb t (refFld r) = false ∧ rb t SYSCTL_CLKSTAT_HOLDOVER = true := by
  have hactive : activePll (s.refLostShown r) = activePll s := rf_refLostShown s hr (by simp)
  obtain ⟨hsame, hhold⟩ := clockLost_holds (s.refLostShown r) (by rw [rb, rf_refLostShown s hr (by simp)]; exact hauto)
  obtain ⟨-, hstays, -⟩ := exec_referenceLost_cases s (u := s.refLostShown r) hr rfl
  have href' : refOf (s.refLostShown r) (activePll (s.refLostShown r)) = r := by rw [refOf_refLostShown s hr, hactive, href]
  exact ⟨_, hstays href' hsame, rb_clockLost_refLost s hr, hhold⟩

/-! ### SWITCH_REQ -/

theorem exec_switchReq_unlocked (h : rb s (lockFld (1 - activePll s)) = false) : exec .switchReq s = .next s := by
  simp [exec, execSwitchReq, h]

/-- Settles O14: a failover changes the pair and what shows it (`failover_shows`, `failover_keeps`); the loss of the active PLL goes the way
that AUTO_SWITCH and the other lock choose (`clockLost_switches`, `clockLost_holds`). -/
theorem failoverAndClocks : Obligations.FailoverAndClocks := by
  refine ⟨fun s hst hsb => ?failover, fun s p hp ha => ⟨?switches, ?holds, ?reference, ?request, ?ignored⟩⟩
  case failover =>
    obtain ⟨hpair, hnone, hlow⟩ := failover_shows s
    exact ⟨_, exec_failover_standby s (bvRuns_of_firmware hst) hsb, hpair, hnone, hlow, failover_keeps s⟩
  case switches => exact exec_pllUnlock_switches s hp ha
  case holds => exact exec_pllUnlock_holds s hp ha
  case reference => exact fun r hr href => exec_referenceLost_holds s hr (ha ▸ href)
  case request =>
    subst ha
    exact fun hl => ⟨_, exec_switchReq_locked s hl, activePll_clockSwitch s (by omega), switched_clockSwitch s _⟩
  case ignored => exact ha ▸ exec_switchReq_unlocked s

end Sys2Proof.Machine
end

section
/-! The isolation and the rebuild of a plane while the other one serves (R22 to R25, R34). -/

namespace Sys2Proof.Machine

variable (s : State) {x : Nat}

/-! ### What a change of a plane's state shows -/

theorem planeFld_shape : ∀ x < 2, (planeFld x).wid = 2 ∧ (planeFld x).lo + (planeFld x).wid ≤ 32 ∧ offJournal (planeFld x).addr := by decide

theorem planeFld_apart : ∀ x < 2, (planeFld (1 - x)).apart (planeFld x) ∧ SYSCTL_PLANE_STAT_SIMPLEX.apart (planeFld x)
    ∧ SYSCTL_PLANE_STAT_PLANE_IRQ.apart (planeFld x) ∧ SYSCTL_PLANE_STAT_LAST_STATUS.apart (planeFld x)
    ∧ ∀ y < 2, (trainFld y).apart (planeFld x) := by decide

@[simp] theorem setPlaneSt_orang (x st : Nat) : (s.setPlaneSt x st).orang = s.orang := rfl

theorem planeSt_setPlaneSt_same (hx : x < 2) {st : Nat} (hst : st < 4) : planeSt (s.setPlaneSt x st) x = st := by
  obtain ⟨hw, hb, -⟩ := planeFld_shape x hx
  obtain ⟨-, hsimplex, hirq, -⟩ := planeFld_apart x hx
  unfold planeSt State.setPlaneSt State.setB State.raise
  rw [rf_setF_ne _ _ _ _ hirq, rf_setF_ne _ _ _ _ hsimplex, rf_setF_same _ _ _ hb, hw]
  exact Nat.mod_eq_of_lt hst

/-- The state of one plane says nothing of the other's. -/
theorem planeSt_setPlaneSt_other {y : Nat} (hy : y < 2) (st : Nat) : planeSt (s.setPlaneSt (1 - y) st) y = planeSt s y := by
  obtain ⟨hother, hsimplex, hirq, -⟩ := planeFld_apart y hy
  unfold planeSt State.setPlaneSt State.setB State.raise
  rw [rf_setF_ne _ _ _ _ hirq, rf_setF_ne _ _ _ _ hsimplex, rf_setF_ne _ _ _ _ hother]

theorem planeSt_setPlaneSt_fellow (hx : x < 2) (st : Nat) : planeSt (s.setPlaneSt x st) (1 - x) = planeSt s (1 - x) := by
  have h := planeSt_setPlaneSt_other s (y := 1 - x) (by omega) st
  rwa [show 1 - (1 - x) = x by omega] at h

theorem planeSt_journal (hx : x < 2) (c t u n : Nat) (d : Code) (hc : c < 8) : planeSt (s.journal c t u n d) x = planeSt s x :=
  rf_journal _ _ _ _ _ _ _ hc (planeFld_shape x hx).2.2

theorem planeSt_setTrain (hx : x < 2) {y : Nat} (hy : y < 2) (v : Nat) : planeSt (s.setF (trainFld y) v) x = planeSt s x := by
  obtain ⟨-, -, -, -, htrain⟩ := planeFld_apart x hx
  exact rf_setF_ne _ _ _ _ (htrain y hy)

/-! ### Isolation (R22, R23) -/

theorem noPlane_of_serving {s : State} (hx : x < 2) (h : serving s x = true) : s.noPlane = s := by
  have hany : anyServing s = true := by
    obtain rfl | rfl : x = 0 ∨ x = 1 := by omega
    all_goals simp [anyServing, h]
  simp [State.noPlane, hany]

/-- The source that the record of an isolated plane names. -/
def planeSrc (x : Nat) : Nat := if x = 0 then srcPLANEA else srcPLANEB

/-- While its fellow serves, a plane that serves is isolated with one record, and nothing is uncovered. -/
theorem isolate_of_pair (hx : x < 2) (hs : planeSt s x = plSERVING) (ho : planeSt s (1 - x) = plSERVING) :
    s.isolate x = s.sameCycle fun _ => (s.setPlaneSt x plISOLATED).journal 3 23 (planeSrc x) x := by
  have hfellow : serving ((s.setPlaneSt x plISOLATED).journal 3 23 (planeSrc x) x) (1 - x) = true := by
    rw [serving, planeSt_journal _ (by omega) _ _ _ _ _ (by decide), planeSt_setPlaneSt_fellow s hx, ho]
    rfl
  have hserves : serving s x = true := by simp [serving, hs]
  have hstays : ¬ planeSt s (1 - x) = plREBUILDING := by rw [ho]; decide
  unfold State.isolate State.sameCycle
  simp only [hserves, if_true, hstays, if_false]
  exact congrArg (fun t : State => s.sameCycle fun _ => t) (noPlane_of_serving (by omega) hfellow)

theorem isolate_shows (hx : x < 2) (hs : planeSt s x = plSERVING) (ho : planeSt s (1 - x) = plSERVING) :
    planeSt (s.isolate x) x = plISOLATED ∧ planeSt (s.isolate x) (1 - x) = plSERVING ∧ (s.isolate x).orang = s.orang := by
  have hplane (y : Nat) (hy : y < 2) : planeSt (s.isolate x) y = planeSt (s.setPlaneSt x plISOLATED) y := by
    rw [isolate_of_pair s hx hs ho]
    exact (rf_congr _ _ (State.sameCycle_regs _ _) _).trans (planeSt_journal _ hy _ _ _ _ _ (by decide))
  refine ⟨?_, ?_, ?_⟩
  · rw [hplane x hx, planeSt_setPlaneSt_same s hx (by decide)]
  · rw [hplane (1 - x) (by omega), planeSt_setPlaneSt_fellow s hx, ho]
  · rw [isolate_of_pair s hx hs ho]; simp

/-- A plane that serves is isolated for every cause; the loss of its interface (cause 1) only fails the training's result too. -/
theorem exec_planeIsolation_pair (hx : x < 2) (cause : Nat) (hs : planeSt s x = plSERVING) (ho : planeSt s (1 - x) = plSERVING) :
    ∃ t, exec (.planeIsolation x cause) s = .next t ∧ planeSt t x = plISOLATED ∧ planeSt t (1 - x) = plSERVING ∧ t.orang = s.orang := by
  have hserves : serving s x = true := by simp [serving, hs]
  by_cases hc : cause = 1
  · have he : exec (.planeIsolation x cause) s = .next ((s.setF (trainFld x) 2).isolate x) := by
      simp [exec, execPlaneIsolation, Nat.not_le.2 hx, hserves, State.when, hc]
    have hs' := (planeSt_setTrain s hx hx 2).trans hs
    have ho' := (planeSt_setTrain s (x := 1 - x) (by omega) hx 2).trans ho
    exact ⟨_, he, isolate_shows _ hx hs' ho'⟩
  · exact ⟨_, exec_planeIsolation_serving s hx hserves hc, isolate_shows s hx hs ho⟩

/-! ### Rebuild (R25, R34) -/

/-- The low two bits of a written word ask for the rebuild of one plane. -/
theorem rebuildBits_single {w : Nat} (hx : x < 2) (hw : w % 4 = x + 1) : w.testBit x = true ∧ (w.testBit 0 && w.testBit 1) = false := by
  have hlow {i : Nat} (hi : i < 2) : w.testBit i = (w % 2 ^ 2).testBit i := by rw [Nat.testBit_mod_two_pow, decide_eq_true hi, Bool.true_and]
  rw [hlow hx, hlow (by decide : 0 < 2), hlow (by decide : 1 < 2), show w % 2 ^ 2 = x + 1 from hw]
  obtain rfl | rfl : x = 0 ∨ x = 1 := by omega
  all_goals decide

theorem rebuildCode_accepts {w : Nat} (hx : x < 2) (hd : planeSt s x = plISOLATED) (ho : planeSt s (1 - x) = plSERVING)
    (ht : trainPass s x = true) (hl : lockdown s = false) (hw : w % 4 = x + 1) : rebuildCode s x w = none := by
  obtain ⟨-, hone⟩ := rebuildBits_single hx hw
  simp only [rebuildCode, hone, serving, hd, ho, ht, hl]
  rfl

theorem rebuild_shows {w : Nat} (hx : x < 2) (hd : planeSt s x = plISOLATED) (ho : planeSt s (1 - x) = plSERVING)
    (ht : trainPass s x = true) (hl : lockdown s = false) (hw : w % 4 = x + 1) :
    planeSt (s.rebuild x w) x = plREBUILDING ∧ rf (s.rebuild x w) SYSCTL_PLANE_STAT_LAST_STATUS = 0 := by
  obtain ⟨-, -, -, hlast, -⟩ := planeFld_apart x hx
  rw [rebuild_starts s (rebuildBits_single hx hw).1 (rebuildCode_accepts s hx hd ho ht hl hw)]
  exact ⟨(rf_setF_ne _ _ _ _ hlast).trans (planeSt_setPlaneSt_same s hx (by decide)), rf_setF_same _ _ _ (by decide)⟩

/-- REBUILD_A and REBUILD_B are one command, about plane 0 and about plane 1. -/
theorem exec_rebuild_plane (hx : x < 2) (w : Nat) : exec (if x = 0 then .rebuildA w else .rebuildB w) s = .next (s.rebuild x w) := by
  obtain rfl | rfl : x = 0 ∨ x = 1 := by omega
  all_goals rfl

theorem planeOf_setPlane (m : PlaneMem) : planeOf (s.setPlane x m) x = m := by
  unfold planeOf State.setPlane
  split <;> rfl

theorem planeOf_setPlane_fellow (hx : x < 2) (m : PlaneMem) : planeOf (s.setPlane x m) (1 - x) = planeOf s (1 - x) := by
  obtain rfl | rfl : x = 0 ∨ x = 1 := by omega
  all_goals rfl

/-- Settles O15: an isolation changes the state of its plane alone (`isolate_of_pair`), a rebuild that nothing forbids starts
(`rebuildCode_accepts`), and its end copies the plane that serves (`planeOf_setPlane`). -/
theorem planeIsolationAndRebuild : Obligations.PlaneIsolationAndRebuild := by
  refine fun s x hx ho => ⟨fun cause hs => ?isolated, fun w hd ht hl hw => ?accepted, fun hr => ?done⟩
  case isolated => exact exec_planeIsolation_pair s hx cause hs ho
  case accepted => exact ⟨_, exec_rebuild_plane s hx w, rebuild_shows s hx hd ho ht hl hw⟩
  case done =>
    have hserves : serving s (1 - x) = true := by simp [serving, ho]
    exact ⟨_, exec_rebuildDone_serves s hx hr hserves, planeSt_setPlaneSt_same _ hx (by decide), planeOf_setPlane s _,
      planeOf_setPlane_fellow s hx _⟩

end Sys2Proof.Machine
end

section
/-! Main power-good, and what the end of a reset shows (R48, R51, R61, R84). -/

namespace Sys2Proof.Machine

variable (s : State)

/-! ### The end of a reset -/

/-- SYSCTL_RSTCAUSE[6:0]: the causes of the last reset (R84). -/
def causesFld : Fld := ⟨SYSCTL_RSTCAUSE, 0, 7⟩

/-- A reset that ends shows its causes, samples TESTEN, and leaves OTP and the Lodge. -/
theorem endReset_shows (te : Bool) (hst : s.boot.stage = .held) (hsup : s.boot.supplies = 15) (hpin : pinHolds s = false) :
    (s.endReset te).boot.testen = te ∧ rf (s.endReset te) causesFld = s.boot.causes % 128 ∧ (s.endReset te).lodge = s.lodge := by
  unfold State.endReset
  rw [if_neg (by simp [hst, hsup, hpin])]
  refine ⟨rfl, ?_, rfl⟩
  unfold State.setB
  rw [rf_setF_ne _ _ _ _ (by decide), rf_setF_ne _ _ _ _ (by decide)]
  exact rf_setF_same s causesFld _ (by decide)

/-! ### Main power-good -/

/-- Every supply is valid, SYS_PWRGD is high and the classes of the banks are shown. -/
def State.powered (s : State) (banks : List Nat) : State :=
  ((s.modBoot fun b => { b with supplies := 15 }).raise SYSCTL_PIN_STAT_PWRGD_LVL).showBanks banks

/-- With the pin high, main power-good ends the reset of a device that is held. -/
theorem powered_endReset (te : Bool) (banks : List Nat) (hst : s.boot.stage = .held) (hpin : s.boot.pinLow = false) :
    ((s.powered banks).endReset te).boot.stage = .reset1 ∧ ((s.powered banks).endReset te).usec = 0
      ∧ mode ((s.powered banks).endReset te) = moASSEMBLY ∧ ((s.powered banks).endReset te).boot.testen = te
      ∧ rf ((s.powered banks).endReset te) causesFld = s.boot.causes % 128
      ∧ ((s.powered banks).endReset te).otp = s.otp ∧ ((s.powered banks).endReset te).lodge = s.lodge := by
  have hboot : (s.powered banks).boot = { s.boot with supplies := 15 } := rfl
  have hheld : (s.powered banks).boot.stage = .held := by rw [hboot]; exact hst
  have hsup : (s.powered banks).boot.supplies = 15 := by rw [hboot]
  have hfree : pinHolds (s.powered banks) = false := by rw [pinHolds, hboot, hpin, Bool.false_and]
  obtain ⟨hstage, hmode, husec⟩ := endReset_runs (s.powered banks) te hheld hsup hfree
  obtain ⟨htesten, hcauses, hlodge⟩ := endReset_shows (s.powered banks) te hheld hsup hfree
  exact ⟨hstage, husec, hmode, htesten, hcauses.trans (by rw [hboot]), State.endReset_otp _ te, hlodge⟩

/-- From DORMANT main power-good is a power-on: its one cause is POR, and what a power-on clears is cleared (R83, R392). -/
theorem exec_mainPowerGood_dormant (te : Bool) (banks : List Nat) (hst : s.boot.stage = .held) (hm : mode s = moDORMANT) :
    exec (.mainPowerGood te banks) s
      = .next (((s.powerOnClear.modBoot fun b => { b with causes := rcPOR }).powered banks).endReset te) := by
  simp only [exec, execMainPowerGood, hst, hm, if_true]
  rfl

/-- Settles O7: in either mode the device that main power-good finds held is powered and its reset ends (`powered_endReset`). -/
theorem mainPowerGoodStartsTheDevice : Obligations.MainPowerGoodStartsTheDevice := by
  intro s testen banks hst hpin
  by_cases hm : mode s = moDORMANT
  · obtain ⟨hstage, husec, hmode, htesten, hcauses, hotp, hlodge⟩ :=
      powered_endReset (s.powerOnClear.modBoot fun b => { b with causes := rcPOR }) testen banks hst hpin
    exact ⟨_, exec_mainPowerGood_dormant s testen banks hst hm, hstage, husec, hmode, htesten, by rw [if_pos hm]; exact hcauses, hotp, hlodge⟩
  · obtain ⟨hstage, husec, hmode, htesten, hcauses, hotp, hlodge⟩ := powered_endReset s testen banks hst hpin
    exact ⟨_, exec_mainPowerGood_held s testen banks hst hm, hstage, husec, hmode, htesten, by rw [if_neg hm]; exact hcauses, hotp, hlodge⟩

end Sys2Proof.Machine
end

section
/-! What a bank, the PCIe pins and link, and a hot die show (R46, R57, R351, R445, R446). -/

namespace Sys2Proof.Machine

variable (s : State)

/-! ### Banks -/

/-- The field of a bank's monitor class. -/
def bankFld (i : Nat) : Fld := if i < 16 then ⟨SYSCTL_BANK_V0, 2 * i, 2⟩ else ⟨SYSCTL_BANK_V1, 2 * (i - 16), 2⟩

theorem bankClass_eq_rf (i : Nat) : bankClass s i = rf s (bankFld i) := by
  unfold bankClass bankFld
  split <;> rfl

theorem setBankClass_eq_setF (i c : Nat) : s.setBankClass i c = s.setF (bankFld i) c := by
  unfold State.setBankClass bankFld
  split <;> rfl

theorem bankFld_shape : ∀ i < 24, (bankFld i).wid = 2 ∧ (bankFld i).lo + (bankFld i).wid ≤ 32 := by decide

/-- The class that a monitor shows is the one last shown to it. -/
theorem bankClass_setBankClass {i c : Nat} (hi : i < 24) (hc : c < 4) : bankClass (s.setBankClass i c) i = c := by
  obtain ⟨hw, hb⟩ := bankFld_shape i hi
  rw [bankClass_eq_rf, setBankClass_eq_setF, rf_setF_same _ _ _ hb, hw]
  exact Nat.mod_eq_of_lt hc

/-! ### PCIe -/

theorem rb_setB_same {f : Fld} (b : Bool) (hw : f.wid = 1) (hb : f.lo + f.wid ≤ 32) : rb (s.setB f b) f = b := by
  unfold State.setB
  rw [rb_setF_same _ _ _ hb, hw]
  cases b <;> rfl

theorem rb_setB_ne {f g : Fld} (b : Bool) (h : f.apart g) : rb (s.setB f b) g = rb s g := rb_setF_ne _ _ _ _ h

theorem rb_raise_ne {f g : Fld} (h : f.apart g) : rb (s.raise f) g = rb s g := rb_setF_ne _ _ _ _ h

/-- A conditional event leaves a field that shares no bit with it. -/
theorem rb_when_raise_ne {f g : Fld} (b : Bool) (h : f.apart g) : rb (s.when b (·.raise f)) g = rb s g :=
  State.when_keeps (rb · g) b _ (fun u => rb_raise_ne u h) s

/-- A link that has come up or gone down shows it. -/
theorem rb_setLink_up (up : Bool) (g w : Nat) : rb (s.setLink up g w) MTRANS_STAT_LINK_UP = up := by
  unfold State.setLink
  dsimp only
  rw [rb_when_raise_ne _ _ (by decide), rb_setF_ne _ _ _ _ (by decide), rb_setF_ne _ _ _ _ (by decide)]
  exact rb_setB_same s up (by decide) (by decide)

theorem rb_setLink_perst (up : Bool) (g w : Nat) : rb (s.setLink up g w) SYSCTL_PIN_STAT_PERST_LVL = rb s SYSCTL_PIN_STAT_PERST_LVL := by
  unfold State.setLink
  dsimp only
  rw [rb_when_raise_ne _ _ (by decide), rb_setF_ne _ _ _ _ (by decide), rb_setF_ne _ _ _ _ (by decide)]
  exact rb_setB_ne s up (by decide)

/-- The reassembly contexts of PCIe are gone. -/
def State.dropPcieCtxs (s : State) : State := (s.modMt fun m => { m with ctxs := m.ctxs.filter fun c => c.port ≠ poPCIE }).showCtx

theorem rb_dropPcieCtxs {g : Fld} (h : MTRANS_STAT_REASM_USED.apart g) : rb s.dropPcieCtxs g = rb s g :=
  rb_setF_ne _ _ _ _ h

theorem exec_pePerstNChange_low (hl : sybLive s = true) : exec (.pePerstNChange false) s
    = .next ((((s.setB SYSCTL_PIN_STAT_PERST_LVL false).setLink false 0 0).dropPcieCtxs).when (s.mtrans.ctxs.any fun c => c.port = poPCIE)
        (·.raise MTRANS_EVT_DROP)) := by
  simp only [exec, execPePerstNChange, hl, Bool.not_true, Bool.false_eq_true, if_false, State.setB_mtrans]
  rfl

theorem exec_pePerstNChange_low_shows (hl : sybLive s = true) :
    ∃ t, exec (.pePerstNChange false) s = .next t ∧ rb t SYSCTL_PIN_STAT_PERST_LVL = false ∧ rb t MTRANS_STAT_LINK_UP = false
      ∧ ∀ c ∈ t.mtrans.ctxs, c.port ≠ poPCIE := by
  refine ⟨_, exec_pePerstNChange_low s hl, ?_, ?_, fun c hc => ?_⟩
  · rw [rb_when_raise_ne _ _ (by decide), rb_dropPcieCtxs _ (by decide), rb_setLink_perst]
    exact rb_setB_same s false (by decide) (by decide)
  · rw [rb_when_raise_ne _ _ (by decide), rb_dropPcieCtxs _ (by decide)]
    exact rb_setLink_up _ _ _ _
  · rw [State.when_keeps State.mtrans _ _ fun u => State.raise_mtrans u _] at hc
    simpa using (List.mem_filter.1 hc).2

/-! ### Temperature -/

/-- A sensor at or above WARN_AT sets WARN while it may set, whatever was measured before (R446). -/
theorem exec_tempSample_warns {d : Nat} (hd : d < 128) (hh : s.boot.tempHot = false) (hw : rf s SYSCTL_TEMP_WARN_AT ≤ d) :
    ∃ t, exec (.tempSample [d]) s = .next t ∧ t.boot.tempHot = true ∧ rb t SYSCTL_TEMP_WARN = true ∧ rf t SYSCTL_TEMP_TEMP = d := by
  have hhot : signed8 (d % 256) = d := by rw [Nat.mod_eq_of_lt (by omega), signed8_of_lt hd]
  have hat : signed8 (rf s SYSCTL_TEMP_WARN_AT) = rf s SYSCTL_TEMP_WARN_AT := signed8_of_lt (by omega)
  generalize hp : (if rb s SYSCTL_TEMP_VALID then max (d : Int) (signed8 (rf s SYSCTL_TEMP_PEAK)) else d) = peak
  generalize hu : ((s.setF SYSCTL_TEMP_TEMP d).setF SYSCTL_TEMP_PEAK (tempByte peak)).raise SYSCTL_TEMP_VALID = u
  have hcold : u.boot.tempHot = false := by rw [← hu]; exact hh
  have he : exec (.tempSample [d]) s
      = .next (((u.raise SYSCTL_TEMP_WARN).journal 7 446 srcSYSCTL noUnit).modBoot fun b => { b with tempHot := true }) := by
    simp [exec, execTempSample, hhot, hat, hp, tempByte_natCast hd, hu, hcold, hw]
  have htemp : rf u SYSCTL_TEMP_TEMP = d := by
    rw [← hu]
    refine (rf_setF_ne _ _ _ _ (by decide)).trans ((rf_setF_ne _ _ _ _ (by decide)).trans ((rf_setF_same _ _ _ (by decide)).trans ?_))
    exact Nat.mod_eq_of_lt (show d < 256 by omega)
  refine ⟨_, he, rfl, ?_, ?_⟩
  · rw [rb_modBoot, rb_journal _ _ _ _ _ _ _ (by decide) (.inl (by decide))]
    exact rb_raise_same u (by decide) (by decide)
  · rw [rf_modBoot, rf_journal _ _ _ _ _ _ _ (by decide) (.inl (by decide))]
    exact (rf_setF_ne _ _ _ _ (by decide)).trans htemp

/-- Settles O17: a bank is shown as its monitor has it (`bankClass_setBankClass`), the link follows PE_PERST_N and its training
(`exec_pePerstNChange_low_shows`, `rb_setLink_up`), and a hot die sets WARN (`exec_tempSample_warns`). -/
theorem banksPinsAndTemperature : Obligations.BanksPinsAndTemperature := by
  refine fun s => ⟨fun b c hb hc hne hg => ?shown, fun b hb hf hm => exec_bankResume_unfloats s hb hf hm, exec_pePerstNChange_low_shows s,
    fun hl => ?high, fun g w _ _ _ hp he => ?link, fun d hd hh hw => exec_tempSample_warns s hd hh hw⟩
  case shown => exact ⟨_, exec_bankClassChange_unapplied s hb hc hne hg, bankClass_setBankClass s hb hc⟩
  case high => exact ⟨_, exec_pePerstNChange_high s hl, rb_setB_same s true (by decide) (by decide), State.setB_mtrans s _ _⟩
  case link => exact ⟨_, exec_pcieLinkChange_up s g w hp he, rb_setLink_up s true g w⟩

end Sys2Proof.Machine
end

section
/-! Platform control lines: an input takes its level, and a stuck reset request is ignored until it clears (R57, R107, R112). -/

namespace Sys2Proof.Machine

variable (s : State) {k : Nat} {p : Pcl}

/-! ### The registers of lines and domains -/

theorem pclFields_apart (k : Nat) : (GATE_PCL_STAT_VALID k).apart (GATE_PCL_STAT_LEVEL k)
    ∧ (GATE_PCL_STAT_VALID k).apart (GATE_PCL_STAT_ASSERTED k) ∧ (GATE_PCL_STAT_ASSERTED k).apart (GATE_PCL_STAT_LEVEL k) := by
  simp [Fld.apart, GATE_PCL_STAT_VALID, GATE_PCL_STAT_ASSERTED, GATE_PCL_STAT_LEVEL]

theorem pclStat_bounds (hk : k < 144) : 0x400A0400 ≤ GATE_PCL_STAT k ∧ GATE_PCL_STAT k < 0x400A0640 := by
  unfold GATE_PCL_STAT
  omega

theorem domStat_bounds {d : Nat} (hd : d < 48) : 0x400A0100 ≤ GATE_DOM_STAT d ∧ GATE_DOM_STAT d < 0x400A0280 := by
  unfold GATE_DOM_STAT
  omega

/-! ### An input that takes its level (R107) -/

/-- A filtered input shows the level it has held and whether that asserts it, and is valid. -/
def State.takeInput (s : State) (k : Nat) (p : Pcl) (level : Bool) : State :=
  ((s.setB (GATE_PCL_STAT_LEVEL k) level).setB (GATE_PCL_STAT_ASSERTED k) (level != p.activeLow)).raise (GATE_PCL_STAT_VALID k)

theorem exec_pclInputChange_input (level : Bool) (hp : pclOf s k = some p) (hi : p.input = true) (hb : bankFloated s (bankOfPcl k) = false) :
    exec (.pclInputChange k level) s = .next ((s.takeInput k p level).inputActs k (lineValid s k && lineAsserted s k)) := by
  simp only [exec, execPclInputChange, hp, hi, hb, Bool.not_false, Bool.and_self, if_true]
  rfl

theorem takeInput_shows (k : Nat) (p : Pcl) (level : Bool) : rb (s.takeInput k p level) (GATE_PCL_STAT_LEVEL k) = level
    ∧ lineAsserted (s.takeInput k p level) k = (level != p.activeLow) ∧ lineValid (s.takeInput k p level) k = true := by
  obtain ⟨hvl, hva, hal⟩ := pclFields_apart k
  unfold State.takeInput lineAsserted lineValid
  refine ⟨?_, ?_, rb_raise_same _ rfl (show 3 + 1 ≤ 32 by decide)⟩
  · rw [rb_raise_ne _ hvl, rb_setB_ne _ _ hal]
    exact rb_setB_same s level rfl (show 0 + 1 ≤ 32 by decide)
  · rw [rb_raise_ne _ hva]
    exact rb_setB_same _ _ rfl (show 1 + 1 ≤ 32 by decide)

/-! ### A stuck reset request (R112) -/

/-- A stuck request is ignored, its domain and the Gatehouse show it, and one record is entered. -/
def State.ignoreReq (s : State) (k : Nat) (p : Pcl) : State :=
  (((s.raise (GATE_PCL_STAT_IGNORED k)).raise (GATE_DOM_STAT_RSTREQ_STUCK p.domain)).raise GATE_EVT_RSTREQ_STUCK).journalDom 2 112 srcGATE
    p.domain 0 [BitVec.ofNat 8 k]

theorem ignoreReq_gate (k : Nat) (p : Pcl) : (s.ignoreReq k p).gate = s.gate := by simp [State.ignoreReq]

theorem exec_rstreqStuck_ignores (hp : pclOf s k = some p) (hq : p.resetReq = true) (hv : lineValid s k = true)
    (ha : lineAsserted s k = true) (hi : rb s (GATE_PCL_STAT_IGNORED k) = false) (hs : (domX s p.domain).seq ≠ .pulse) :
    exec (.rstreqStuck k) s = .next (s.ignoreReq k p) := by
  have hseq : (domX (s.ignoreReq k p) p.domain).seq ≠ .pulse := by rwa [domX, ignoreReq_gate]
  unfold State.ignoreReq at hseq ⊢
  simp only [exec, execRstreqStuck, hp, hq, hv, ha, hi, Bool.not_false, Bool.and_self, if_true, hseq, if_false]

/-- A stuck request is shown at its line and at its domain: the two registers, the Gatehouse's events and the journal lie apart. -/
theorem ignoreReq_shows (hk : k < 144) (hd : p.domain < 48) :
    rb (s.ignoreReq k p) (GATE_PCL_STAT_IGNORED k) = true ∧ rb (s.ignoreReq k p) (GATE_DOM_STAT_RSTREQ_STUCK p.domain) = true := by
  obtain ⟨hplo, hphi⟩ := pclStat_bounds hk
  obtain ⟨hdlo, hdhi⟩ := domStat_bounds hd
  have hevt : GATE_EVT = 0x400A0020 := rfl
  unfold State.ignoreReq State.journalDom
  constructor
  · rw [rb_journalD _ _ _ _ _ _ _ _ _ (by decide) (.inl (show GATE_PCL_STAT k < 0x40300000 by omega)),
      rb_raise_ne _ (.inl (show GATE_EVT ≠ GATE_PCL_STAT k by omega)),
      rb_raise_ne _ (.inl (show GATE_DOM_STAT p.domain ≠ GATE_PCL_STAT k by omega))]
    exact rb_raise_same s rfl (show 4 + 1 ≤ 32 by decide)
  · rw [rb_journalD _ _ _ _ _ _ _ _ _ (by decide) (.inl (show GATE_DOM_STAT p.domain < 0x40300000 by omega)),
      rb_raise_ne _ (.inl (show GATE_EVT ≠ GATE_DOM_STAT p.domain by omega))]
    exact rb_raise_same _ rfl (show 8 + 1 ≤ 32 by decide)

theorem exec_rstreqIgnoredClear_clears (hi : rb s (GATE_PCL_STAT_IGNORED k) = true) (ha : lineAsserted s k = false) :
    exec (.rstreqIgnoredClear k) s = .next (s.setF (GATE_PCL_STAT_IGNORED k) 0) := by
  simp [exec, execRstreqIgnoredClear, hi, ha]

/-- Settles O21: an input takes its level before its domain reacts (`takeInput_shows`), and a stuck request changes what its line, its domain
and the Gatehouse show, but nothing that the Gatehouse holds (`ignoreReq_shows`, `ignoreReq_gate`). -/
theorem linesFollowTheirInputs : Obligations.LinesFollowTheirInputs := by
  refine fun s k p hk hp => ⟨fun level hi hb => ?level, fun hq hv ha hi hs hd => ?stuck, fun hi ha => ?honoured⟩
  case level => exact ⟨_, exec_pclInputChange_input s level hp hi hb, takeInput_shows s k p level⟩
  case stuck =>
    obtain ⟨hline, hdom⟩ := ignoreReq_shows s hk hd
    exact ⟨_, exec_rstreqStuck_ignores s hp hq hv ha hi hs, hline, hdom, ignoreReq_gate s k p⟩
  case honoured => exact ⟨_, exec_rstreqIgnoredClear_clears s hi ha, rb_setF_same _ _ _ (show 4 + 1 ≤ 32 by decide), State.setF_gate s _ _⟩

end Sys2Proof.Machine
end

section
/-! Where a line of the active shadow and its MAC stand in an interface (R144, R145, R148, R149), and the idle levels of flash buses and
interfaces (R41, R42, R45). -/

namespace Sys2Proof.Machine

variable (s : State)

/-! ### A line of the active shadow and its MAC -/

theorem mem_areas (r : Area) : r ∈ areas := by cases r <;> decide

theorem areas_disjoint : ∀ big, ∀ q ∈ areas, ∀ r ∈ areas,
    q = r ∨ areaLimit big q < areaBase big r ∨ areaLimit big r < areaBase big q := by decide

/-- An address between an area's bounds lies in that area, as areas are disjoint (R144). -/
theorem areaAt_of_bounds {big : Bool} {r : Area} {a : Nat} (hlo : areaBase big r ≤ a) (hhi : a ≤ areaLimit big r) :
    areaAt big a = some r := by
  cases h : areaAt big a with
  | none =>
    have hout := List.find?_eq_none.1 h r (mem_areas r)
    simp [hlo, hhi] at hout
  | some q =>
    have hin := List.find?_some h
    simp only [Bool.and_eq_true, decide_eq_true_eq] at hin
    obtain rfl | hlow | hhigh := areas_disjoint big q (mem_areas q) r (mem_areas r)
    · rfl
    all_goals omega

variable {s} {x la : Nat}

/-- A written line of the active shadow holds its plaintext and the freshness of its write. -/
theorem areaLine_written (ha : areaAt (cap32 s) (64 * la) = some .shadow) (ht : heldTag s x la ≠ ⟨0, 0⟩) :
    areaLine s x la = some (linePlain s x la, heldTag s x la) := by
  simp only [areaLine, ha, ht, if_false]

/-- Each byte of a written line is a byte of its ciphertext. -/
theorem dramByte_line (ha : ∀ k < 64, areaAt (cap32 s) (64 * la + k) = some .shadow) (ht : heldTag s x la ≠ ⟨0, 0⟩) {k : Nat} (hk : k < 64) :
    dramByte s x (64 * la + k) = (shadowCipher s x la)[k]? := by
  have hline : (64 * la + k) / 64 = la := by omega
  have hbyte : (64 * la + k) % 64 = k := by omega
  simp only [dramByte, ha k hk, hline, hbyte, areaLine_written (ha 0 (by decide)) ht, Option.map_some, Option.bind_some, shadowCipher]

theorem metaUnused_le_limit (big : Bool) : metaUnused big ≤ areaLimit big .metadata := by cases big <;> decide

theorem macAddr_eq {big : Bool} {m : Nat} (h : macAddr big (64 * la) = some m) : m = areaBase big .metadata + 8 * la := by
  unfold macAddr at h
  split at h
  · have := Option.some.inj h
    omega
  · cases h

/-- Each byte of the MAC of a written line stands at its place M + A/8 (R145). -/
theorem dramByte_mac (ha : areaAt (cap32 s) (64 * la) = some .shadow) (ht : heldTag s x la ≠ ⟨0, 0⟩) {m k : Nat}
    (hm : macAddr (cap32 s) (64 * la) = some m) (hk : k < 8) : dramByte s x (m + k) = (shadowMac s x la)[k]? := by
  obtain ⟨hlo, hhi⟩ := macAddr_used _ _ _ hm
  have hend := metaUnused_le_limit (cap32 s)
  have harea : areaAt (cap32 s) (m + k) = some .metadata := areaAt_of_bounds (by omega) (by omega)
  have hused : ¬ metaUnused (cap32 s) ≤ m + k := by omega
  have hplace := macAddr_eq hm
  have hline : (m + k - areaBase (cap32 s) .metadata) / 8 = la := by omega
  have hbyte : (m + k - areaBase (cap32 s) .metadata) % 8 = k := by omega
  simp only [dramByte, harea, hused, if_false, hline, hbyte, areaLine_written ha ht, Option.map_some, Option.bind_some, shadowMac, shadowCipher]

/-- Nothing stands in the part of the metadata that is never used (R145). -/
theorem dramByte_unused {a : Nat} (hm : areaAt (cap32 s) a = some .metadata) (hu : metaUnused (cap32 s) ≤ a) : dramByte s x a = none := by
  simp only [dramByte, hm, hu, if_true]

/-- With 32 GiB parts, a written line of the active shadow stands at its address and its MAC at M + A/8. -/
theorem dramByte_cap32 (hc : cap32 s = true) (hla : 64 * la ≤ 0x5FFFFFFFF) (ht : heldTag s x la ≠ ⟨0, 0⟩) :
    (∀ k, k < 64 → dramByte s x (64 * la + k) = (shadowCipher s x la)[k]?)
      ∧ (∀ k, k < 8 → dramByte s x (0x71C000000 + 8 * la + k) = (shadowMac s x la)[k]?)
      ∧ dramByte s x 0x7FF800000 = none := by
  have hshadow (k : Nat) (hk : k < 64) : areaAt (cap32 s) (64 * la + k) = some .shadow :=
    areaAt_of_bounds (Nat.zero_le _) (by rw [hc]; show _ ≤ 0x5FFFFFFFF; omega)
  have hmac : macAddr (cap32 s) (64 * la) = some (0x71C000000 + 8 * la) := by
    rw [hc]
    simp [macAddr, areaBase]
    omega
  have hunused : metaUnused (cap32 s) = 0x7FF800000 := by rw [hc]; rfl
  have hbase : areaBase (cap32 s) .metadata = 0x71C000000 := by rw [hc]; rfl
  have hend := metaUnused_le_limit (cap32 s)
  exact ⟨fun k hk => dramByte_line hshadow ht hk, fun k hk => dramByte_mac (hshadow 0 (by decide)) ht hmac hk,
    dramByte_unused (areaAt_of_bounds (by omega) (by omega)) (by omega)⟩

/-! ### The balls of flash buses (R41) -/

variable {b : Nat}

theorem fbBalls_unpowered (h : bankUp s (bankOfFb b) = false) : fbBalls s b = .all 4 .highZ := by simp [fbBalls, h]

theorem fbBalls_unmapped (hu : bankUp s (bankOfFb b) = true) (hf : bankFloated s (bankOfFb b) = false)
    (hm : rb s FBUS_STAT_MAP_APPLIED = false) : fbBalls s b = .reset 4 := by simp [fbBalls, bankSuspended, hu, hf, hm]

/-- The root configuration flash is in reset until the ROM of a start reads copy A. -/
theorem cfgBalls_live (hu : bankUp s bankSYB = true) (hf : bankFloated s bankSYB = false) :
    cfgBalls s = if s.boot.cfgBus then .idle 2 else .reset 2 := by simp [cfgBalls, bankSuspended, bankMismatched, hu, hf]

/-- A bank of class 0 has no supply. -/
theorem bankUp_setBankClass_absent (s : State) {i : Nat} (hi : i < 24) : bankUp (s.setBankClass i 0) i = false := by
  simp [bankUp, bankClass_setBankClass s hi (show 0 < 4 by decide)]

/-! ### The balls of an interface (R45) -/

theorem lpBalls_training {n : Nat} (hs : s.boot.supplies.testBit 0 = true) (ht : s.boot.training.testBit n = true) :
    lpBalls s n = ⟨.high, .active, .active⟩ := by simp [lpBalls, hs, ht]

/-- A retrain says nothing of the supplies. -/
theorem retrain_supplies (s : State) (w : Nat) : (s.retrain w).boot.supplies = s.boot.supplies := by
  unfold State.retrain
  dsimp only
  split
  · rfl
  · split
    · rfl
    · show (State.each _ _ _).boot.supplies = _
      refine (State.each_keeps (·.boot.supplies) _ _ ?cleared _).trans (State.each_keeps (·.boot.supplies) _ _ ?settled _)
      case cleared => exact fun _ _ => rfl
      case settled =>
        intro u i
        exact State.when_keeps (·.boot.supplies) _ (·.setF SYSCTL_ID_DRAM_CAP (u.boot.trainCap.getD i 0)) (fun _ => rfl) u

/-- Settles O29: a written line and its MAC stand at their places (`dramByte_cap32`), a line that passes its check holds the MAC computed
(`shadowMac_of_fresh`), and the balls follow the supplies, the map and the training. That VDDQ is valid when VDD is, and what stands between
commands, is the model's choice (log entry 152); that a line whose freshness is the one required holds the MAC required is its reading of
R149 (log entry 156). -/
theorem storedLinesAndIdleBalls : Obligations.StoredLinesAndIdleBalls := by
  refine ⟨fun s x la hc hla ht => dramByte_cap32 hc hla ht, fun s x e off h => shadowMac_of_fresh s x e off h,
    fun s b hb => ⟨fun hg hne => ?absent, fun hu hf hm => fbBalls_unmapped hu hf hm⟩, fun s hu hf => ⟨fun h => ?unread, fun h => ?read⟩,
    fun s w hw hp hs => ?trains⟩
  case absent =>
    have hbank : bankOfFb b < 24 := by unfold bankOfFb; omega
    exact ⟨_, exec_bankClassChange_unapplied s hbank (by decide) hne hg, fbBalls_unpowered (bankUp_setBankClass_absent s hbank)⟩
  case unread => exact (cfgBalls_live hu hf).trans (by rw [h]; rfl)
  case read => exact (cfgBalls_live hu hf).trans (by rw [h]; rfl)
  case trains =>
    obtain ⟨htrain, -, -⟩ := retrain_single s (i := 0) (by decide) hw hp
    exact ⟨_, rfl, lpBalls_training (by rw [retrain_supplies]; exact hs) htrain⟩

end Sys2Proof.Machine
end

section
/-! What the limits of a register's fields leave of a written word (R60, R174, R329, R332, R425), and the state of the machine right after
a device reset (R58, R61, R88). -/

namespace Sys2Proof.Machine

/-! ### Values that are held at a limit -/

/-- The lockable fields with a limit of their own. -/
def limitedFields : List Fld :=
  [SYSCTL_WDT_CTL_PERIOD_MS, ORANGERY_RV_CTRL_RATE, RNG_CFG_FW_RESERVE, RNG_RESEED_RESEED_INT, JOURNAL_CFG_FLUSH_MS]

/-- Each of them is an RWL field of a word in a block, and its register only stores what is written. -/
theorem limitedFields_row : ∀ f ∈ limitedFields, (regRow f.addr).any (fun r => decide (⟨f.lo, f.wid, .rwl⟩ ∈ r.flds)) = true
    ∧ inBlocks f.addr = true ∧ f.addr % 4 = 0 ∧ ownCommand f.addr = false ∧ commandRegister f.addr = false ∧ f.addr ≠ LCS_REQUEST
    ∧ f.addr ≠ KIOSK_DB_IN := by decide +kernel

/-- The lock that guards each of them. -/
theorem limitedFields_lock : lockReg SYSCTL_WDT_CTL = some SYSCTL_LOCK ∧ lockReg ORANGERY_RV_CTRL = some ORANGERY_CTRL
    ∧ lockReg RNG_CFG = some RNG_CTRL ∧ lockReg RNG_RESEED = some RNG_CTRL ∧ lockReg JOURNAL_CFG = some JOURNAL_CTRL := by decide +kernel

/-- While its block is not locked, a written field takes its bits of the held word. -/
theorem exec_registerWrite_limited {s : State} {f : Fld} (hf : f ∈ limitedFields) (v q : Nat) (hs : asleep s = false)
    (hl : lockedAt s f.addr = false) :
    ∃ t, exec (.registerWrite f.addr v 4 q) s = .next t
      ∧ rf t f = bitsAt (heldWord f.addr (reg s f.addr).toNat (v % 2 ^ 32)) f.lo f.wid := by
  obtain ⟨hrow, hb, ha, ho, hc, hlcs, hdb⟩ := limitedFields_row f hf
  obtain ⟨row, hr, hmem⟩ := (Option.any_eq_true ..).1 hrow
  obtain ⟨t, he, hfld, -⟩ := registerWriteByAccessCode s f.addr v q row hs hr hb ha ho hc hlcs hdb (by rw [lockBreak, hl, Bool.false_and])
  refine ⟨t, he, (hfld _ (of_decide_eq_true hmem)).trans ?_⟩
  rw [hl]
  rfl

/-- The low bits of a written word are those of the value. -/
theorem bitsAt_low (v n : Nat) (hn : n ≤ 32) : bitsAt (v % 2 ^ 32) 0 n = v % 2 ^ n := by
  rw [bitsAt_mod32 _ _ _ (by omega)]
  rfl

theorem heldWord_period (old v : Nat) :
    bitsAt (heldWord SYSCTL_WDT_CTL old (v % 2 ^ 32)) 0 16 = min 60000 (max 10 (v % 2 ^ 16)) := by
  have he : heldWord SYSCTL_WDT_CTL old (v % 2 ^ 32)
      = setBits (v % 2 ^ 32) 0 16 (clamp 10 60000 (bitsAt (v % 2 ^ 32) 0 16)) := rfl
  rw [he, bitsAt_setBits_same, bitsAt_low v 16 (by decide), clamp]
  exact Nat.mod_eq_of_lt (by omega)

theorem heldWord_rate (old v : Nat) : bitsAt (heldWord ORANGERY_RV_CTRL old (v % 2 ^ 32)) 0 11 = min 1000 (v % 2 ^ 11) := by
  have he : heldWord ORANGERY_RV_CTRL old (v % 2 ^ 32) = setBits (v % 2 ^ 32) 0 11 (min 1000 (bitsAt (v % 2 ^ 32) 0 11)) := rfl
  rw [he, bitsAt_setBits_same, bitsAt_low v 11 (by decide)]
  exact Nat.mod_eq_of_lt (by omega)

/-- MIN_ACTIVE lies beside FW_RESERVE, so that its own rule says nothing of it. -/
theorem heldWord_reserve (old v : Nat) : bitsAt (heldWord RNG_CFG old (v % 2 ^ 32)) 8 6 = min 32 (v / 2 ^ 8 % 2 ^ 6) := by
  have hv : bitsAt (v % 2 ^ 32) 8 6 = v / 2 ^ 8 % 2 ^ 6 := by
    rw [bitsAt_mod32 _ _ _ (by decide), bitsAt, Nat.shiftRight_eq_div_pow]
  have hw : bitsAt (setBits (v % 2 ^ 32) 8 6 (min 32 (bitsAt (v % 2 ^ 32) 8 6))) 8 6 = min 32 (v / 2 ^ 8 % 2 ^ 6) := by
    rw [bitsAt_setBits_same, hv]
    exact Nat.mod_eq_of_lt (by omega)
  generalize hg : setBits (v % 2 ^ 32) 8 6 (min 32 (bitsAt (v % 2 ^ 32) 8 6)) = w at hw
  have he : heldWord RNG_CFG old (v % 2 ^ 32)
      = if bitsAt w 4 2 = 0 || bitsAt w 4 2 = 3 then setBits w 4 2 (bitsAt old 4 2) else w := by rw [← hg]; rfl
  rw [he]
  split
  · rw [bitsAt_setBits_disj _ _ _ _ _ _ (.inr (by decide)), hw]
  · exact hw

/-- The two intervals that 0 or a value above the maximum sets to that maximum. -/
theorem bitsAt_held_max (v n top : Nat) (hn : n ≤ 32) (ht : top < 2 ^ n) :
    bitsAt (if bitsAt (v % 2 ^ 32) 0 n = 0 || top < bitsAt (v % 2 ^ 32) 0 n then setBits (v % 2 ^ 32) 0 n top else v % 2 ^ 32) 0 n
      = if v % 2 ^ n = 0 ∨ top < v % 2 ^ n then top else v % 2 ^ n := by
  rw [bitsAt_low v n hn]
  simp only [Bool.or_eq_true, decide_eq_true_eq]
  split
  · rw [bitsAt_setBits_same, Nat.mod_eq_of_lt ht]
  · exact bitsAt_low v n hn

/-- Settles O2: an unlocked write gives the field its bits of the held word (`exec_registerWrite_limited`), and the held word has the value
or its limit there (`heldWord_period`, `heldWord_rate`, `heldWord_reserve`, `bitsAt_held_max`). -/
theorem outOfRangeValuesAreHeld : Obligations.OutOfRangeValuesAreHeld := by
  obtain ⟨hwdt, hrv, hcfg, hseed, hjnl⟩ := limitedFields_lock
  refine fun s v req hs => ⟨fun hl => ?period, fun hl => ?rate, fun hl => ?reserve, fun hl => ?reseed, fun hl => ?flush⟩
  case period =>
    obtain ⟨t, he, ht⟩ := exec_registerWrite_limited (f := SYSCTL_WDT_CTL_PERIOD_MS) (by simp [limitedFields]) v req hs ((lockedAt_eq hwdt).trans hl)
    exact ⟨t, he, ht.trans (heldWord_period _ v)⟩
  case rate =>
    obtain ⟨t, he, ht⟩ := exec_registerWrite_limited (f := ORANGERY_RV_CTRL_RATE) (by simp [limitedFields]) v req hs ((lockedAt_eq hrv).trans hl)
    exact ⟨t, he, ht.trans (heldWord_rate _ v)⟩
  case reserve =>
    obtain ⟨t, he, ht⟩ := exec_registerWrite_limited (f := RNG_CFG_FW_RESERVE) (by simp [limitedFields]) v req hs ((lockedAt_eq hcfg).trans hl)
    exact ⟨t, he, ht.trans (heldWord_reserve _ v)⟩
  case reseed =>
    obtain ⟨t, he, ht⟩ := exec_registerWrite_limited (f := RNG_RESEED_RESEED_INT) (by simp [limitedFields]) v req hs ((lockedAt_eq hseed).trans hl)
    exact ⟨t, he, ht.trans (bitsAt_held_max v 13 4096 (by decide) (by decide))⟩
  case flush =>
    obtain ⟨t, he, ht⟩ := exec_registerWrite_limited (f := JOURNAL_CFG_FLUSH_MS) (by simp [limitedFields]) v req hs ((lockedAt_eq hjnl).trans hl)
    exact ⟨t, he, ht.trans (bitsAt_held_max v 16 10000 (by decide) (by decide))⟩

/-! ### The state right after a device reset -/

/-- No register is listed, so that each one holds the word of its table. -/
theorem reg_reset (a : Nat) : reg State.reset a = resetWord a := rfl

theorem reset_domains : ∀ d < 48, domState State.reset d = stHELD ∧ domGen State.reset d = 1 := by decide +kernel

theorem reset_planes : ∀ x < 2, rf State.reset (planeFld x) = plOFF := by decide +kernel

theorem reset_mode : mode State.reset = moASSEMBLY := by decide +kernel

/-- The three life-cycle copies hold FACTORY (log entry 6). -/
theorem reset_lifeCycle : ∀ w < 3, programmed w (lcWord lcFACTORY) State.reset := by unfold programmed; decide

/-- Settles O56: the tables of the reset state are empty, and what its registers show is read off the register tables. -/
theorem resetStateIsAsStated : Obligations.ResetStateIsAsStated :=
  ⟨rfl, reset_tablesWf, reset_mode, rfl, rfl, rfl, rfl, reset_planes 0 (by decide), reset_planes 1 (by decide), reset_domains, reset_lifeCycle,
    reg_reset⟩

end Sys2Proof.Machine
end

section
/-! Training that is counted and judged, and the retrain of an interface whose plane is down (R78, R79, R86). -/

namespace Sys2Proof.Machine

variable (s : State) {i : Nat}

/-! ### The fields that training writes -/

theorem trainFields_shape : ∀ i < 2, (attemptsFld i).wid = 4 ∧ (attemptsFld i).lo + (attemptsFld i).wid ≤ 32 ∧ (trainFld i).wid = 2
    ∧ (trainFld i).lo + (trainFld i).wid ≤ 32 := by decide

theorem trainFields_separate : ∀ i < 2, (trainFld i).apart (attemptsFld i) ∧ (attemptsFld i).apart SYSCTL_ID_DRAM_CAP
    ∧ (trainFld i).apart SYSCTL_ID_DRAM_CAP ∧ SYSCTL_ID_DRAM_CAP.apart (attemptsFld i) ∧ SYSCTL_ID_DRAM_CAP.apart (trainFld i) := by decide

/-! ### The end of the training of one interface (R79) -/

/-- After a training that was not of both interfaces, a capacity that is set stays. -/
theorem trainEnd_of_cap (hb : s.boot.retrainBoth = false) (hc : rf s SYSCTL_ID_DRAM_CAP ≠ 0) : s.trainEnd = s := by
  simp [State.trainEnd, hb, hc]

/-- After a training that was not of both interfaces, the capacity is all that may change. -/
theorem rf_trainEnd (hb : s.boot.retrainBoth = false) {g : Fld} (hg : SYSCTL_ID_DRAM_CAP.apart g) : rf s.trainEnd g = rf s g := by
  unfold State.trainEnd
  simp only [hb, Bool.false_and, Bool.false_eq_true, if_false]
  split
  · rfl
  · split
    · exact rf_setF_ne _ _ _ _ hg
    · split
      · exact rf_setF_ne _ _ _ _ hg
      · rfl

/-- Interface `i` shows the result `r` with the capacity of its memory, and trains no more. -/
def State.trained (s : State) (i r cap : Nat) : State :=
  (s.setF (trainFld i) r).modBoot fun b => { b with training := setBits b.training i 1 0, trainCap := setAt b.trainCap i cap }

theorem rf_trained_same (hi : i < 2) {r : Nat} (hr : r < 4) (cap : Nat) : rf (s.trained i r cap) (trainFld i) = r := by
  obtain ⟨-, -, hw, hfit⟩ := trainFields_shape i hi
  unfold State.trained
  rw [rf_modBoot, rf_setF_same _ _ _ hfit, hw]
  exact Nat.mod_eq_of_lt hr

theorem rf_trained_ne (r cap : Nat) {g : Fld} (h : (trainFld i).apart g) : rf (s.trained i r cap) g = rf s g := by
  unfold State.trained
  rw [rf_modBoot, rf_setF_ne _ _ _ _ h]

/-- A result ends as it is, unless its capacity is another one than that in force; the last interface to end ends the training. -/
theorem trainOne_eq (i r cap : Nat) : s.trainOne i r cap =
    let r' := if r = 1 && rf s SYSCTL_ID_DRAM_CAP ≠ 0 && rf s SYSCTL_ID_DRAM_CAP ≠ cap then (if i = 0 then 2 else 3) else r
    let u := (s.trained i r' cap).when (r' = 1 && rf s SYSCTL_ID_DRAM_CAP = 0 && !s.boot.retrainBoth) (·.setF SYSCTL_ID_DRAM_CAP cap)
    if u.boot.training = 0 then u.trainEnd else u := rfl

/-- Interface `i` is the only one that trains. -/
def trainsAlone (s : State) (i : Nat) : Prop := i < 2 ∧ s.boot.training = 2 ^ i ∧ s.boot.retrainBoth = false

section
variable {s} (h : trainsAlone s i)
include h

theorem trained_training (r cap : Nat) : (s.trained i r cap).boot.training = 0 := by
  obtain ⟨hi, ht, -⟩ := h
  show setBits s.boot.training i 1 0 = 0
  rw [ht]
  obtain rfl | rfl : i = 0 ∨ i = 1 := by omega
  all_goals decide

/-- A result that the capacity in force does not overturn ends the training. -/
theorem trainOne_alone (r cap : Nat) (hfit : r = 1 → rf s SYSCTL_ID_DRAM_CAP = 0 ∨ rf s SYSCTL_ID_DRAM_CAP = cap) :
    s.trainOne i r cap
      = ((s.trained i r cap).when (r = 1 && rf s SYSCTL_ID_DRAM_CAP = 0) (·.setF SYSCTL_ID_DRAM_CAP cap)).trainEnd := by
  have hover : (decide (r = 1) && decide (rf s SYSCTL_ID_DRAM_CAP ≠ 0) && decide (rf s SYSCTL_ID_DRAM_CAP ≠ cap)) = false := by
    simp only [Bool.and_eq_false_iff, decide_eq_false_iff_not]
    omega
  have hidle (b : Bool) : ((s.trained i r cap).when b (·.setF SYSCTL_ID_DRAM_CAP cap)).boot.training = 0 := by
    rw [State.when_keeps State.boot _ _ fun t => State.setF_boot t _ _, trained_training h]
  rw [trainOne_eq]
  dsimp only
  rw [hover, if_neg Bool.false_ne_true, h.2.2, Bool.not_false, Bool.and_true, if_pos (hidle _)]

/-- A pass whose capacity fits the one in force, if any, shows its result and leaves its capacity in force. -/
theorem trainOne_pass {cap : Nat} (hc : cap = 1 ∨ cap = 2) (hd : rf s SYSCTL_ID_DRAM_CAP = 0 ∨ rf s SYSCTL_ID_DRAM_CAP = cap) :
    trainPass (s.trainOne i 1 cap) i = true ∧ (s.trainOne i 1 cap).boot.training = 0 ∧ rf (s.trainOne i 1 cap) SYSCTL_ID_DRAM_CAP = cap := by
  obtain ⟨-, -, htc, -, hct⟩ := trainFields_separate i h.1
  rw [trainOne_alone h 1 cap fun _ => hd]
  generalize hu : (s.trained i 1 cap).when (decide (1 = 1) && decide (rf s SYSCTL_ID_DRAM_CAP = 0)) (·.setF SYSCTL_ID_DRAM_CAP cap) = u
  have hboot : u.boot = (s.trained i 1 cap).boot := by rw [← hu, State.when_keeps State.boot _ _ fun t => State.setF_boot t _ _]
  have hpass : rf u (trainFld i) = 1 := by
    rw [← hu, State.when_keeps (rf · (trainFld i)) _ _ fun t => rf_setF_ne t _ _ _ hct]
    exact rf_trained_same s h.1 (by decide) cap
  have hcap : rf u SYSCTL_ID_DRAM_CAP = cap := by
    rw [← hu]
    obtain h0 | h0 := hd
    · simp only [h0, State.when, decide_true, Bool.and_self, if_true]
      rw [rf_setF_same _ _ _ (by decide)]
      exact Nat.mod_eq_of_lt (show cap < 16 by omega)
    · have hset : ¬ cap = 0 := by omega
      simp only [h0, State.when, hset, decide_false, Bool.and_false, Bool.false_eq_true, if_false]
      exact (rf_trained_ne s 1 cap htc).trans h0
  rw [trainEnd_of_cap u (by rw [hboot]; exact h.2.2) (by omega)]
  exact ⟨by simp [trainPass, hpass], by rw [hboot, trained_training h], hcap⟩

/-- A failure shows its result and leaves the attempts counted. -/
theorem trainOne_fail : rf (s.trainOne i 2 0) (trainFld i) = 2 ∧ rf (s.trainOne i 2 0) (attemptsFld i) = rf s (attemptsFld i) := by
  obtain ⟨hta, -, -, hca, hct⟩ := trainFields_separate i h.1
  have he : s.trainOne i 2 0 = (s.trained i 2 0).trainEnd := trainOne_alone h 2 0 (by omega)
  have hboth : (s.trained i 2 0).boot.retrainBoth = false := h.2.2
  rw [he, rf_trainEnd _ hboth hct, rf_trainEnd _ hboth hca]
  exact ⟨rf_trained_same s h.1 (by decide) 0, rf_trained_ne s 2 0 hta⟩

/-! ### An attempt that ends (R78) -/

theorem trainsAlone_counted (v : Nat) : trainsAlone (s.setF (attemptsFld i) v) i := h

theorem exec_trainingDone_passes {cap : Nat} (hc : cap = 1 ∨ cap = 2) (hd : rf s SYSCTL_ID_DRAM_CAP = 0 ∨ rf s SYSCTL_ID_DRAM_CAP = cap) :
    ∃ t, exec (.trainingDone i true cap) s = .next t ∧ trainPass t i = true ∧ t.boot.training = 0 ∧ rf t SYSCTL_ID_DRAM_CAP = cap := by
  obtain ⟨-, hac, -⟩ := trainFields_separate i h.1
  have htrains : s.boot.training.testBit i = true := by rw [h.2.1, Nat.testBit_two_pow_self]
  refine ⟨_, exec_trainingDone_pass s h.1 htrains hc, trainOne_pass (trainsAlone_counted h _) hc ?_⟩
  rw [rf_setF_ne _ _ _ _ hac]
  exact hd

theorem exec_trainingDone_thirdFailure (ha : rf s (attemptsFld i) = 2) :
    ∃ t, exec (.trainingDone i false 0) s = .next t ∧ rf t (trainFld i) = 2 ∧ rf t (attemptsFld i) = 3 := by
  obtain ⟨hw, hfit, -⟩ := trainFields_shape i h.1
  have htrains : s.boot.training.testBit i = true := by rw [h.2.1, Nat.testBit_two_pow_self]
  have he : exec (.trainingDone i false 0) s = .next ((s.setF (attemptsFld i) 3).trainOne i 2 0) := by
    simp [exec, execTrainingDone, Nat.not_le.2 h.1, htrains, ha]
  obtain ⟨hresult, hattempts⟩ := trainOne_fail (trainsAlone_counted h 3)
  exact ⟨_, he, hresult, hattempts.trans ((rf_setF_same _ _ _ hfit).trans (congrArg (3 % 2 ^ ·) hw))⟩

end

/-! ### A retrain (R86) -/

/-- A retrain of the one interface whose plane is isolated counts its attempts from zero; `retrain_single` says what else it shows. -/
theorem retrain_attempts {w : Nat} (hi : i < 2) (hw : w / 65536 % 4 = 2 ^ i) (hp : planeSt s i = plISOLATED) :
    rf (s.retrain w) (attemptsFld i) = 0 := by
  obtain ⟨-, hfit, -⟩ := trainFields_shape i hi
  have hcode : retrainCode s [i] = none := by simp [retrainCode, firstCode, serving, hp, plSERVING, plISOLATED, plREBUILDING]
  unfold State.retrain
  simp only [retrainBits_single hi hw, hcode]
  exact (rf_setF_same _ _ _ hfit).trans (Nat.zero_mod _)

/-- A retrain of the interface of a plane that serves is refused. -/
theorem retrain_refused {w : Nat} (hi : i < 2) (hw : w / 65536 % 4 = 2 ^ i) (hp : planeSt s i = plSERVING) :
    s.retrain w = s.setF SYSCTL_TRAIN_STAT_LAST_STATUS Code.refusedState.val := by
  have hcode : retrainCode s [i] = some .refusedState := by simp [retrainCode, firstCode, serving, hp]
  unfold State.retrain
  simp only [retrainBits_single hi hw, hcode]
  rfl

/-- Settles O16: an attempt of an interface that trains alone is judged by `trainOne_pass` and `trainOne_fail`, and a retrain clears the
results of its interface (`retrain_single`, `retrain_attempts`) unless its plane serves (`retrain_refused`). -/
theorem trainingAndRetrain : Obligations.TrainingAndRetrain := by
  refine ⟨fun s cap ht hb _ hc => ⟨fun hd => ?pass, fun ha => ?fail⟩, fun s w => ⟨fun hw hp => ?first, fun hw hp => ?second, fun hw hp => ?refused⟩⟩
  case pass => exact exec_trainingDone_passes (i := 0) ⟨by decide, ht, hb⟩ hc hd
  case fail => exact exec_trainingDone_thirdFailure (i := 0) ⟨by decide, ht, hb⟩ ha
  case first =>
    obtain ⟨htrain, hresult, hlast⟩ := retrain_single s (i := 0) (by decide) hw hp
    exact ⟨_, rfl, htrain, hresult, retrain_attempts s (i := 0) (by decide) hw hp, hlast⟩
  case second => exact ⟨_, rfl, retrain_single s (i := 1) (by decide) hw hp⟩
  case refused => exact congrArg _ (retrain_refused s (i := 0) (by decide) hw hp)

end Sys2Proof.Machine
end

section
/-! A Belvedere restart and the watchdog (R58, R60, R85, R363). -/

namespace Sys2Proof.Machine

variable (s : State)

/-! ### The end of an ORANGERY command -/

/-- The address is in the Orangery's block or above it (R30). -/
abbrev fromOrangery (a : Nat) : Prop := 0x400C0000 ≤ a

/-- A command of the Orangery that ends writes the Orangery's registers and, when it is cut short, its staging object: what neither changes, it
keeps. -/
theorem orangeryEnd_keeps {β : Type} (c : OCmd) (code : Code) (g : State → β)
    (hreg : ∀ (t : State) (a : Nat) (w : Word), fromOrangery a → g (t.setReg a w) = g t)
    (horang : ∀ (t : State) (o : Orang), o.exts = t.orang.exts → g { t with orang := o } = g t) : g (s.orangeryEnd c code) = g s := by
  have hfld (t : State) (f : Fld) (v : Nat) (hf : fromOrangery f.addr) : g (t.setF f v) = g t := hreg t f.addr _ hf
  have hend (t : State) : g (t.cmdEnd orangeryIf c.op code) = g t := by
    show g ((((t.setF ORANGERY_CMD_STAT_LAST_OP c.op).setF ORANGERY_CMD_STAT_LAST_STATUS code.val).setF ORANGERY_CMD_STAT_RESULT 0).raise
      ORANGERY_EVT_CMD_DONE) = g t
    unfold State.raise
    rw [hfld _ _ _ (by decide), hfld _ _ _ (by decide), hfld _ _ _ (by decide), hfld _ _ _ (by decide)]
  have hidle : g (({ s with orang := { s.orang with cmd := none } } : State).setF ORANGERY_STAT_CMD_BUSY 0) = g s :=
    (hfld _ _ _ (by decide)).trans (horang s _ rfl)
  have hstage (t : State) (h : Nat) (b : Option StageObj) : g (t.setStage h b) = g t := by
    unfold State.setStage State.showStage
    rw [hfld _ _ _ (by decide), hfld _ _ _ (by decide)]
    exact horang t _ rfl
  have hdigest (t : State) (d : List Byte) : g (t.setDigest ORANGERY_DIGEST d) = g t :=
    State.each_keeps g _ _ (fun u i => hreg u _ _ (by unfold fromOrangery ORANGERY_DIGEST; omega)) t
  unfold State.orangeryEnd
  dsimp only
  rw [hend]
  split
  · split
    · split
      · exact (hstage _ _ _).trans hidle
      · exact hidle
    · split
      · exact (hdigest _ _).trans hidle
      · exact hidle
  · exact hidle

/-! ### What the units that a restart resets leave alone -/

/-- Where the receive ring stands, TCM, the Gatehouse, the manifests in force and the extents: no unit changes them when it is reset. -/
def restartFrame (s : State) : Word × List Host.Cell × Gate × List (Nat × Manifest) × List (Nat × Ext) :=
  (reg s MTRANS_RX_BASE, s.tcm, s.gate, s.ldr.force, s.orang.exts)

theorem restartFrame_setReg {a : Nat} (w : Word) (h : MTRANS_RX_BASE ≠ a) : restartFrame (s.setReg a w) = restartFrame s := by
  unfold restartFrame
  rw [reg_setReg_ne _ _ _ _ h]
  rfl

theorem restartFrame_setF {f : Fld} (v : Nat) (h : MTRANS_RX_BASE ≠ f.addr) : restartFrame (s.setF f v) = restartFrame s :=
  restartFrame_setReg s _ h

theorem restartFrame_raise {f : Fld} (h : MTRANS_RX_BASE ≠ f.addr) : restartFrame (s.raise f) = restartFrame s := restartFrame_setF s 1 h

theorem restartFrame_setMapBit {f : Fld} (i : Nat) (b : Bool) (h : MTRANS_RX_BASE ≠ f.addr) :
    restartFrame (s.setMapBit f i b) = restartFrame s := restartFrame_setF s _ h

/-! The groups of the keys and of the Kiosk are none of these. -/

@[simp] theorem restartFrame_modKeys (f : Keys → Keys) : restartFrame (s.modKeys f) = restartFrame s := rfl
@[simp] theorem restartFrame_modKiosk (f : Kiosk → Kiosk) : restartFrame (s.modKiosk f) = restartFrame s := rfl
@[simp] theorem restartFrame_setBox (tn : Nat) (b : Box) : restartFrame (s.setBox tn b) = restartFrame s := rfl
@[simp] theorem restartFrame_mailClean (tn off : Nat) : restartFrame (s.mailClean tn off) = restartFrame s := rfl

/-- A command interface that lies outside the ring's register. -/
theorem restartFrame_cmdEnd {c : CmdIf} (op : Nat) (code : Code) (r : Nat) (ho : MTRANS_RX_BASE ≠ c.op.addr)
    (hs : MTRANS_RX_BASE ≠ c.status.addr) (hr : ∀ f, c.result = some f → MTRANS_RX_BASE ≠ f.addr) (hd : MTRANS_RX_BASE ≠ c.done.addr) :
    restartFrame (s.cmdEnd c op code r) = restartFrame s := by
  unfold State.cmdEnd
  dsimp only
  rw [restartFrame_raise _ hd]
  split
  · rename_i f hf
    rw [restartFrame_setF _ _ (hr f hf), restartFrame_setF _ _ hs, restartFrame_setF _ _ ho]
  · rw [restartFrame_setF _ _ hs, restartFrame_setF _ _ ho]

/-- A command of the Orangery that ends changes its staging object alone, which is no extent. -/
theorem restartFrame_orangeryEnd (c : OCmd) (code : Code) : restartFrame (s.orangeryEnd c code) = restartFrame s := by
  refine orangeryEnd_keeps s c code restartFrame (fun t a w ha => restartFrame_setReg t w fun k => ?_) fun t o ho => ?_
  · rw [← k] at ha
    exact absurd ha (by decide)
  · unfold restartFrame
    rw [← ho]
    rfl

theorem restartFrame_trellisRestart (ch : Nat) : restartFrame (s.trellisRestart ch) = restartFrame s := by
  have hch (off : Nat) (h : 0x40090000 ≤ off) : MTRANS_RX_BASE ≠ off + 0x400 * ch := by unfold MTRANS_RX_BASE; omega
  unfold State.trellisRestart
  split
  · rw [restartFrame_cmdEnd]
    · exact restartFrame_setF s _ (hch _ (by decide))
    · exact hch _ (by decide)
    · exact hch _ (by decide)
    · rintro f ⟨⟩
      exact hch _ (by decide)
    · exact hch _ (by decide)
  · rfl

/-- The engines' registers are those of their own blocks. -/
theorem restartFrame_engReset : restartFrame s.engReset = restartFrame s := by
  have hreg : reg s.engReset MTRANS_RX_BASE = reg s MTRANS_RX_BASE := by
    unfold State.engReset reg State.resetRegs
    rw [Sparse.get_clear]
    rfl
  unfold restartFrame
  rw [hreg]
  rfl

theorem ne_engStat (e : Nat) : MTRANS_RX_BASE ≠ ENG_STAT e := by unfold MTRANS_RX_BASE ENG_STAT; omega

theorem restartFrame_keyIdle : restartFrame s.keyIdle = restartFrame s := by
  unfold State.keyIdle State.holdEngines
  refine (State.each_keeps restartFrame _ _ (fun t e => restartFrame_setMapBit t e false (ne_engStat _)) _).trans ?_
  rw [restartFrame_setF _ _ (by decide), restartFrame_setF _ _ (by decide), restartFrame_modKeys]

theorem restartFrame_keyAbort : restartFrame (s.keyCmdEnd .resetAbort) = restartFrame s := by
  unfold State.keyCmdEnd
  split
  · rfl
  · dsimp only
    rw [if_neg (by decide), if_pos (by decide), restartFrame_cmdEnd _ _ _ _ (by decide) (by decide) (by rintro f ⟨⟩; decide) (by decide)]
    exact restartFrame_keyIdle s

theorem restartFrame_setWk (e : Nat) (k : Option (Nat × Nat × List Byte)) : restartFrame (s.setWk e k) = restartFrame s := by
  unfold State.setWk
  dsimp only
  rw [restartFrame_setMapBit _ _ _ (ne_engStat _), restartFrame_setF _ _ (show MTRANS_RX_BASE ≠ KEYS_WK by decide), restartFrame_modKeys]

theorem ne_badFld (i : Nat) : MTRANS_RX_BASE ≠ (badFld i).addr := by
  unfold badFld
  split
  · exact show MTRANS_RX_BASE ≠ KEYS_BAD_LO by decide
  · exact show MTRANS_RX_BASE ≠ KEYS_BAD_HI by decide

theorem restartFrame_keyRestart : restartFrame s.keyRestart = restartFrame s := by
  unfold State.keyRestart
  dsimp only
  rw [restartFrame_setF _ _ (by decide), restartFrame_modKeys, State.each_keeps restartFrame _ _ fun t e => restartFrame_setWk t e none,
    State.each_keeps restartFrame _ _ fun t i => ?slot]
  case slot =>
    split
    · rfl
    · rw [restartFrame_setF _ _ (ne_badFld i), State.putSlot, restartFrame_modKeys]
  split
  · split
    · exact restartFrame_keyAbort s
    · rfl
  · rfl

/-! ### Requests that were taken -/

/-- The mailboxes of the Kiosk BAR lie above the register blocks. -/
theorem ne_mailbox {a : Nat} (h : 0x100000000 ≤ a) : MTRANS_RX_BASE ≠ a := by unfold MTRANS_RX_BASE; omega

theorem restartFrame_tenantIrq (tn : Nat) : restartFrame (s.tenantIrq tn) = restartFrame s := by
  unfold State.tenantIrq
  split
  · split
    · rfl
    · split <;> rfl
  · rfl

theorem restartFrame_placeReply (tn : Nat) : restartFrame (s.placeReply tn) = restartFrame s := by
  have hmail (off : Nat) (h : 0x100000000 ≤ off) : MTRANS_RX_BASE ≠ off + 32 * tn := ne_mailbox (by omega)
  have hrsp : MTRANS_RX_BASE ≠ TN_RSP tn := hmail 0x100000004 (by decide)
  have hrgen : MTRANS_RX_BASE ≠ (TN_RGEN_GEN tn).addr := hmail 0x10000000C (by decide)
  have hstat : MTRANS_RX_BASE ≠ TN_STAT tn := hmail 0x100000010 (by decide)
  unfold State.placeReply
  dsimp only
  rw [State.when_keeps restartFrame _ _ fun t => restartFrame_tenantIrq t tn]
  generalize hu : (((s.setReg (TN_RSP tn) (BitVec.ofNat 32 (box s tn).reply)).setF (TN_RGEN_GEN tn) (box s tn).rgen).setF
    (TN_STAT_RSP_FULL tn) 1).setF (TN_STAT_REQ_FULL tn) 0 = u
  have hplaced : restartFrame u = restartFrame s := by
    rw [← hu, restartFrame_setF _ _ hstat, restartFrame_setF _ _ hstat, restartFrame_setF _ _ hrgen, restartFrame_setReg _ _ hrsp]
  have hempty : restartFrame ((((u.setF (TN_STAT_EMPTY tn) 1).mailClean tn 4).mailClean tn 12).setBox tn Box.init) = restartFrame s := by
    rw [restartFrame_setBox, restartFrame_mailClean, restartFrame_mailClean, restartFrame_setF _ _ hstat, hplaced]
  split
  · rw [restartFrame_raise _ (by decide), restartFrame_setF _ _ hstat, restartFrame_setReg _ _ hrsp, restartFrame_modKiosk, hempty]
  · exact hempty

theorem restartFrame_answer (tn word : Nat) : restartFrame (s.answer tn word) = restartFrame s := by
  have hplace (t : State) : restartFrame (if rb t (TN_STAT_RSP_FULL tn) then t else t.placeReply tn) = restartFrame t := by
    split
    · rfl
    · exact restartFrame_placeReply t tn
  unfold State.answer State.showPending
  dsimp only
  rw [restartFrame_setF _ _ (by decide), hplace, restartFrame_setBox]

theorem restartFrame_answerTaken (c : Code) : restartFrame (s.answerTaken c) = restartFrame s := by
  unfold State.answerTaken
  rw [State.each_keeps restartFrame]
  intro t e
  rw [restartFrame_answer]

/-! ### The load engine -/

theorem restartFrame_refillBus (b : Nat) : restartFrame (s.refillBus b) = restartFrame s := by
  have hbus : MTRANS_RX_BASE ≠ LOADER_FB_STAT b := by unfold MTRANS_RX_BASE LOADER_FB_STAT; omega
  unfold State.refillBus
  dsimp only
  rw [restartFrame_setF _ _ hbus, restartFrame_setF _ _ hbus]
  split
  · rfl
  · split
    · split <;> rfl
    · rfl

theorem restartFrame_freeBuf : restartFrame s.freeBuf = restartFrame s := by
  unfold State.freeBuf State.refill State.setB
  dsimp only
  rw [restartFrame_setF _ _ (by decide), restartFrame_setF _ _ (by decide), restartFrame_setF _ _ (by decide),
    State.each_keeps restartFrame _ _ restartFrame_refillBus, restartFrame_setReg _ _ (by decide)]
  rfl

/-! ### The restart (R58) -/

theorem ringCells_congr {s t : State} (hreg : reg t MTRANS_RX_BASE = reg s MTRANS_RX_BASE) (htcm : t.tcm = s.tcm) :
    ringCells t = ringCells s := by
  have hbase : rf t MTRANS_RX_BASE_ADDR = rf s MTRANS_RX_BASE_ADDR := by
    unfold rf
    rw [show MTRANS_RX_BASE_ADDR.addr = MTRANS_RX_BASE from rfl, hreg]
  unfold ringCells
  rw [hbase, htcm]

/-- A restart keeps the receive ring of TCM, the Gatehouse, the manifests in force and the extents (R58, R363); that the rest of TCM then reads as
zeros is the model's choice (log entry 165). -/
theorem restartUnits_keeps : s.restartUnits.tcm = ringCells s ∧ s.restartUnits.gate = s.gate ∧ s.restartUnits.ldr.force = s.ldr.force
    ∧ s.restartUnits.orang.exts = s.orang.exts := by
  unfold State.restartUnits
  dsimp only
  generalize hu : State.freeBuf _ = u
  have hframe : restartFrame u = restartFrame s := by
    rw [← hu, restartFrame_freeBuf, restartFrame_answerTaken, restartFrame_keyRestart, restartFrame_engReset,
      State.each_keeps restartFrame _ _ restartFrame_trellisRestart]
    split
    · exact restartFrame_orangeryEnd s _ _
    · rfl
  simp only [restartFrame, Prod.mk.injEq] at hframe
  obtain ⟨hbase, htcm, hgate, hforce, hexts⟩ := hframe
  exact ⟨ringCells_congr hbase htcm, hgate, hforce, hexts⟩

/-- Belvedere goes back to its ROM, and what its units leave is kept. -/
theorem bvRestart_shows {s : State} (h : bvRuns s = true) (copy causes : Nat) :
    (s.bvRestart copy causes).boot.stage = .otp ∧ (s.bvRestart copy causes).boot.causes = causes
      ∧ (rb s KEYS_STAT_L0_VALID = true → (s.bvRestart copy causes).boot.restart = some copy)
      ∧ (s.bvRestart copy causes).tcm = ringCells s ∧ (s.bvRestart copy causes).gate = s.gate
      ∧ (s.bvRestart copy causes).ldr.force = s.ldr.force ∧ (s.bvRestart copy causes).orang.exts = s.orang.exts := by
  have hkeeps := restartUnits_keeps s
  unfold State.bvRestart
  simp only [h, Bool.not_true, Bool.false_eq_true, if_false]
  generalize s.restartUnits = u at hkeeps ⊢
  obtain ⟨htcm, hgate, hforce, hexts⟩ := hkeeps
  exact ⟨rfl, rfl, fun hl0 => by simp [State.modBoot, hl0], htcm, hgate, hforce, hexts⟩

/-! ### BV_RESTART and the watchdog (R60, R85) -/

theorem exec_bvRestart_restarts {w : Nat} (hk : bitsAt w 16 16 = 0x5A3C) (h1 : w.testBit 1 = true) (h0 : w.testBit 0 = false)
    (hst : s.boot.stage = .firmware) (hl0 : rb s KEYS_STAT_L0_VALID = true) :
    ∃ t, exec (.bvRestart w) s = .next t ∧ t.boot.stage = .otp ∧ t.boot.restart = some (bitsAt w 2 1) ∧ t.tcm = ringCells s
      ∧ t.orang.exts = s.orang.exts ∧ t.gate = s.gate ∧ t.ldr.force = s.ldr.force := by
  have hkey : bootKeyOk w = true := by simp [bootKeyOk, hk, h0]
  obtain ⟨hstage, -, hrestart, htcm, hgate, hforce, hexts⟩ := bvRestart_shows (bvRuns_of_firmware hst) (bitsAt w 2 1) rcRESTART
  exact ⟨_, exec_bvRestart_asked s hkey h1, hstage, hrestart hl0, htcm, hexts, hgate, hforce⟩

theorem exec_wdtKick_wrongKey {w : Nat} (hk : bitsAt w 16 16 ≠ 0xC3D2) : exec (.wdtKick w) s = .next (s.journal 7 60 srcSYSCTL noUnit) := by
  simp [exec, execWdtKick, hk]

theorem exec_wdtExpiry_restarts {e : Nat} (he : s.boot.wdtEnd = some e) (hen : rb s SYSCTL_WDT_CTL_EN = true)
    (hst : s.boot.stage = .firmware) :
    ∃ t, exec .wdtExpiry s = .next t ∧ t.boot.stage = .otp ∧ t.boot.causes = rcWDT ∧ t.gate = s.gate := by
  have hruns : bvRuns (s.journal 7 60 srcSYSCTL noUnit) = true := bvRuns_of_firmware (by rw [State.journal_boot]; exact hst)
  obtain ⟨hstage, hcauses, -, -, hgate, -⟩ := bvRestart_shows hruns 0 rcWDT
  exact ⟨_, exec_wdtExpiry_running s he hen, hstage, hcauses, hgate.trans (State.journal_gate ..)⟩

theorem exec_wdtExpiry_disabled (hen : rb s SYSCTL_WDT_CTL_EN = false) : exec .wdtExpiry s = .next s := by simp [exec, execWdtExpiry, hen]

/-- Settles O13: a restart, by BV_RESTART or by the watchdog, resets units that leave the ring, the Gatehouse, the manifests in force and the
extents (`restartUnits_keeps`). -/
theorem belvedereRestartAndWatchdog : Obligations.BelvedereRestartAndWatchdog := by
  refine fun s => ⟨fun w hk h1 h0 hst hl0 => exec_bvRestart_restarts s hk h1 h0 hst hl0, fun e w he hk => ?kick, fun w hk => ?wrong,
    fun e he hen hst => exec_wdtExpiry_restarts s he hen hst, exec_wdtExpiry_disabled s⟩
  case kick => exact ⟨_, exec_wdtKick_running s hk he, rfl, rfl⟩
  case wrong => exact ⟨_, exec_wdtKick_wrongKey s hk, State.journal_boot ..⟩

end Sys2Proof.Machine
end

section
/-! PLDM requests of a bound tenant, the update session that belongs to one of them, and ROM recovery's own session (R70, R114, R353, R362,
R366, R368 to R370). -/

namespace Sys2Proof.Machine

/-! ### Answers (R359, R369) -/

/-- An OK answer of PLDM is its data alone. -/
theorem respond_pldm_ok (s : State) (tn cmd : Nat) (data : List Byte) : s.respond tn mtPLDM cmd .ok data = s.ret (.reply .ok data) := rfl

/-- A refusal at RequestUpdate or UpdateComponent answers UNABLE_TO_INITIATE_UPDATE and keeps its code. -/
theorem pldmRefuse_state (s : State) (tn cmd : Nat) :
    (s.pldmRefuse tn cmd .refusedState).out = .pldm .unableToInitiateUpdate
      ∧ (s.pldmRefuse tn cmd .refusedState).kiosk.outcomes.find? (·.1 = tn) = some (tn, ⟨Code.refusedState.val, 0, mtPLDM, cmd⟩) :=
  ⟨rfl, by simp [State.pldmRefuse, State.setOutcome, State.modKiosk, State.ret]⟩

/-! ### Which requests reach their meaning (R12, R70, R114, R353) -/

section
variable {s : State} {o : Origin} {t : Tbe} {typ cmd : Nat} {inLock bad update : Bool} {perm : Tbe → Bool} {f : Tbe → State → State}

/-- ROM recovery answers the requests of a firmware update, whatever their source. -/
theorem request_recovery (hr : recovery s = true) : s.request o typ cmd inLock perm f true bad = f (recoveryTbe o) s := by
  simp [State.request, hr]

/-- ROM recovery grants its one request to every source. -/
theorem recoveryTbe_permUpdate (o : Origin) : (recoveryTbe o).permUpdate = true := show Nat.testBit 16 4 = true by decide

/-- The update commands of `o` are those of `t`. -/
def updatesAs (s : State) (o : Origin) (t : Tbe) : Prop := ∀ f : Tbe → State → State, s.updateMsg o f = f t s

theorem updatesAs_recovery (hr : recovery s = true) : updatesAs s o (recoveryTbe o) := fun f => by simp [State.updateMsg, hr]

theorem updatesAs_bound (hm : mctpTenant s o = some t) (hr : recovery s = false) : updatesAs s o t := fun f => by
  simp [State.updateMsg, hr, hm]

/-- The source is bound, and the mode is none that refuses PLDM (R114). -/
structure PldmServed (s : State) (o : Origin) (t : Tbe) : Prop where
  bound : mctpTenant s o = some t
  notRom : recovery s = false
  started : mode s ≠ moASSEMBLY
  unlocked : lockdown s = false

variable (h : PldmServed s o t)
include h

theorem request_served (hp : perm t = true) : s.request o typ cmd inLock perm f update false = f t s := by
  simp [State.request, firstCode, h.notRom, h.bound, h.started, h.unlocked, hp]

theorem request_denied (hp : perm t = false) : s.request o typ cmd inLock perm f update false = s.respond t.tn typ cmd .refusedPolicy := by
  simp [State.request, firstCode, h.notRom, h.bound, h.started, h.unlocked, hp]

theorem request_malformed : s.request o typ cmd inLock perm f update true = s.respond t.tn typ cmd .malformed := by
  simp [State.request, firstCode, h.notRom, h.bound]

end

/-! ### PLDM base (R362) -/

section
variable {s : State} {o : Origin} {t : Tbe} (h : PldmServed s o t) (typ : Nat)
include h

theorem exec_getTid_served : exec (.getTid o) s = .next (s.ret (.reply .ok [Config.pldmTid])) :=
  congrArg Host.Outcome.next (request_served h rfl)

theorem exec_getPldmTypes_served : exec (.getPldmTypes o) s = .next (s.ret (.reply .ok [0x21, 0, 0, 0, 0, 0, 0, 0])) :=
  congrArg Host.Outcome.next (request_served h rfl)

theorem exec_pldmType_known (hk : pldmTypes.contains typ = true) :
    exec (.getPldmVersion o typ) s = .next (s.ret (.reply .ok (beBytes 4 (Config.typeVersion (256 + typ)).toNat)))
      ∧ exec (.getPldmCommands o typ) s
        = .next (s.ret (.reply .ok (leBytes 32 ((pldmCommands typ).foldl (fun m c => m ||| 2 ^ c) 0)))) := by
  simp only [exec, execGetPldmVersion, execGetPldmCommands, State.pldm, hk, Bool.not_true]
  exact ⟨congrArg _ (request_served h rfl), congrArg _ (request_served h rfl)⟩

theorem exec_getPldmCommands_unknown (hk : pldmTypes.contains typ = false) :
    exec (.getPldmCommands o typ) s = .next (s.respond t.tn mtPLDM 5 .malformed) := by
  simp only [exec, execGetPldmCommands, State.pldm, hk, Bool.not_false]
  exact congrArg _ (request_malformed h)

end

/-! ### Enquiries of the update agent (R366, R368) -/

/-- The descriptor of the device: its enterprise number. -/
def deviceDescriptor : List Byte := [8, 0, 0, 0, 1, 1, 0, 4, 0, 0x95, 0xFD, 0, 0]

theorem exec_queryDeviceIdentifiers_recovery {s : State} (o : Origin) (hr : recovery s = true) :
    exec (.queryDeviceIdentifiers o) s = .next (s.ret (.reply .ok deviceDescriptor)) :=
  congrArg Host.Outcome.next (request_recovery hr)

theorem exec_getStatus_recovery {s : State} (o : Origin) (hr : recovery s = true) (hu : s.upd.sess = none) :
    exec (.getStatus o) s = .next (s.ret (.reply .ok [0])) := by
  refine congrArg Host.Outcome.next ((request_recovery hr).trans ?_)
  rw [respond_pldm_ok, hu]
  rfl

section
variable {s : State} {o : Origin} {t : Tbe} (h : PldmServed s o t)
include h

theorem exec_enquiries_denied (hp : t.permUpdate = false) :
    exec (.getStatus o) s = .next (s.respond t.tn mtPLDM plSTATUS .refusedPolicy)
      ∧ exec (.queryDeviceIdentifiers o) s = .next (s.respond t.tn mtPLDM plQUERY .refusedPolicy) :=
  ⟨congrArg Host.Outcome.next (request_denied h hp), congrArg Host.Outcome.next (request_denied h hp)⟩

variable (hp : t.permUpdate = true)
include hp

theorem exec_queryDeviceIdentifiers_served : exec (.queryDeviceIdentifiers o) s = .next (s.ret (.reply .ok deviceDescriptor)) :=
  congrArg Host.Outcome.next (request_served h hp)

theorem exec_getFirmwareParameters_served : exec (.getFirmwareParameters o) s
    = .next (s.ret (.reply .ok ((comps s).flatMap fun c => leBytes 2 0xFFFF ++ leBytes 2 c ++ leBytes 4 (compStamp s c)))) :=
  congrArg Host.Outcome.next (request_served h hp)

theorem exec_getStatus_idle (hu : s.upd.sess = none) : exec (.getStatus o) s = .next (s.ret (.reply .ok [0])) := by
  refine congrArg Host.Outcome.next ((request_served h hp).trans ?_)
  rw [respond_pldm_ok, hu]
  rfl

theorem exec_getStatus_phase {u : UpdSess} (hu : s.upd.sess = some u) :
    exec (.getStatus o) s = .next (s.ret (.reply .ok (leBytes 1 u.phase))) := by
  refine congrArg Host.Outcome.next ((request_served h hp).trans ?_)
  rw [respond_pldm_ok, hu]

/-! ### Commands of an open session (R368) -/

variable {cmd : Nat} {phases : List Nat} {f : UpdSess → State → State}

theorem inSession_closed (hu : s.upd.sess = none) : s.inSession o cmd phases f = s.ret (.pldm .notInUpdateMode) := by
  refine (request_served h hp).trans ?_
  rw [hu]

/-- The session belongs to the one tenant that opened it. -/
theorem inSession_stranger {u : UpdSess} (hu : s.upd.sess = some u) (ht : u.tn ≠ t.tn) :
    s.inSession o cmd phases f = s.ret (.pldm .notInUpdateMode) := by
  refine (request_served h hp).trans ?_
  simp only [hu, ht, ne_eq, not_false_eq_true, if_true]

theorem inSession_runs {u : UpdSess} (hu : s.upd.sess = some u) (ht : u.tn = t.tn) (hph : phases.contains u.phase = true) :
    s.inSession o cmd phases f = f u s := by
  refine (request_served h hp).trans ?_
  simp only [hu, ht, hph, ne_eq, not_true_eq_false, if_false, if_true]

variable {u : UpdSess} (hu : s.upd.sess = some u) (ht : u.tn = t.tn)
include hu ht

/-- The last entry of the component table makes the session ready for a transfer; another one leaves it as it is. -/
theorem exec_passComponentTable_runs (hph : u.phase = 1) :
    (∃ v, exec (.passComponentTable o true) s = .next v ∧ v.upd = { s.upd with sess := some { u with phase := 2 } })
      ∧ exec (.passComponentTable o false) s = .next (s.ret (.reply .ok [])) := by
  have hin : [1].contains u.phase = true := by rw [hph]; rfl
  exact ⟨⟨_, congrArg Host.Outcome.next (inSession_runs h hp hu ht hin), rfl⟩, congrArg Host.Outcome.next (inSession_runs h hp hu ht hin)⟩

theorem exec_cancelUpdateComponent_runs (hph : u.phase = 3 ∨ u.phase = 4 ∨ u.phase = 5) :
    ∃ v, exec (.cancelUpdateComponent o) s = .next v ∧ v.upd = { s.upd with sess := some { tn := u.tn, phase := 2, comp := 0xFFFF } } := by
  have hin : [3, 4, 5].contains u.phase = true := by simpa using hph
  exact ⟨_, congrArg Host.Outcome.next (inSession_runs h hp hu ht hin), rfl⟩

theorem exec_cancelUpdate_runs (h1 : 1 ≤ u.phase) (h5 : u.phase ≤ 5) :
    ∃ v, exec (.cancelUpdate o) s = .next v ∧ v.upd = { s.upd with sess := none } := by
  have hin : [1, 2, 3, 4, 5].contains u.phase = true := by
    simp only [List.contains_iff_mem, List.mem_cons, List.not_mem_nil, or_false]
    omega
  exact ⟨_, congrArg Host.Outcome.next (inSession_runs h hp hu ht hin), rfl⟩

end

/-! ### RequestUpdate (R368 to R370) -/

theorem updMode_of_updState {s : State} {comp : Nat} (h : updState s comp = false) : updMode s = true := by
  simp only [updState, Bool.or_eq_false_iff, Bool.not_eq_false'] at h
  obtain ⟨⟨⟨⟨hmode, -⟩, -⟩, -⟩, -⟩ := h
  exact hmode

section
variable {s : State} {o : Origin} {t : Tbe} (h : updatesAs s o t)
include h

theorem exec_requestUpdate_open {u : UpdSess} (hu : s.upd.sess = some u) (hmode : updMode s = true) :
    exec (.requestUpdate o) s = .next (s.ret (.pldm .alreadyInUpdateMode)) := by
  refine congrArg Host.Outcome.next ((h _).trans ?_)
  simp [hmode, hu]

variable (hu : s.upd.sess = none)
include hu

/-- The conditions of R370 that need no component refuse a request in any mode. -/
theorem exec_requestUpdate_refused (hs : updState s 0xFFFF = true) :
    exec (.requestUpdate o) s = .next (s.pldmRefuse t.tn plREQUEST .refusedState) := by
  refine congrArg Host.Outcome.next ((h _).trans ?_)
  cases hmode : updMode s with
  | false => simp
  | true => simp [firstCode, hu, hs]

variable (hs : updState s 0xFFFF = false)
include hs

theorem exec_requestUpdate_locked (hl : rb s FBUS_UPD_STAT_OWNER_LOCK = true) :
    exec (.requestUpdate o) s = .next (s.pldmRefuse t.tn plREQUEST .refusedPolicy) := by
  refine congrArg Host.Outcome.next ((h _).trans ?_)
  simp [firstCode, updMode_of_updState hs, hu, hs, hl]

theorem exec_requestUpdate_opens (hl : rb s FBUS_UPD_STAT_OWNER_LOCK = false) (hp : t.permUpdate = true) :
    ∃ v, exec (.requestUpdate o) s = .next v ∧ v.upd = { s.upd with sess := some { tn := t.tn, phase := 1, comp := 0xFFFF } }
      ∧ v.out = .reply .ok [] := by
  refine ⟨(s.setSess (some { tn := t.tn, phase := 1, comp := 0xFFFF })).ret (.reply .ok []),
    congrArg Host.Outcome.next ((h _).trans ?_), rfl, rfl⟩
  simp [firstCode, updMode_of_updState hs, hu, hs, hl, hp, respond_pldm_ok, State.setSess]

end

/-! ### UpdateComponent and ActivateFirmware (R369, R370, R376) -/

theorem requestData_keeps (u : UpdSess) : u.requestData.tn = u.tn ∧ u.requestData.comp = u.comp ∧ u.requestData.size = u.size
    ∧ u.requestData.handle = u.handle := by
  unfold UpdSess.requestData
  split <;> exact ⟨rfl, rfl, rfl, rfl⟩

/-- Bytes that are missing are asked for. -/
theorem requestData_more {u : UpdSess} (h : u.got < u.size) :
    u.requestData = { u with sent := some (plREQDATA, leBytes 4 u.got ++ leBytes 4 (min 1024 (u.size - u.got))) } := if_pos h

/-- Once all bytes are staged the transfer ends. -/
theorem requestData_done {u : UpdSess} (h : u.size ≤ u.got) : u.requestData = { u with phase := 4, sent := some (plXFERDONE, [0]) } :=
  if_neg (Nat.not_lt.2 h)

theorem updMode_of_updateCode {s : State} {t : Tbe} {comp size svn : Nat} (hc : updateCode s t comp size svn = none) : updMode s = true :=
  updMode_of_updState (firstCode_eq_none.1 hc (updState s comp, .refusedState) (by simp))

section
variable {s : State} {o : Origin} {t : Tbe} (h : updatesAs s o t)
include h

section
variable {u : UpdSess} (hu : s.upd.sess = some u) (ht : u.tn = t.tn) {comp size svn : Nat}
include hu ht

theorem exec_updateComponent_refused {c : Code} (hmode : updMode s = true) (hc : updateCode s t comp size svn = some c) :
    exec (.updateComponent o comp size svn) s = .next (s.pldmRefuse t.tn plUPDATE c) := by
  refine congrArg Host.Outcome.next ((h _).trans ?_)
  simp [hmode, hu, ht, hc]

theorem exec_updateComponent_disorder (hc : updateCode s t comp size svn = none) (hph : u.phase ≠ 2) :
    exec (.updateComponent o comp size svn) s = .next (s.ret (.pldm .invalidStateForCommand)) := by
  refine congrArg Host.Outcome.next ((h _).trans ?_)
  simp [updMode_of_updateCode hc, hu, ht, hc, hph]

/-- The transfer of an accepted component starts at its first byte. -/
theorem exec_updateComponent_starts (hc : updateCode s t comp size svn = none) (hph : u.phase = 2) :
    exec (.updateComponent o comp size svn) s = .next ((s.setSess (some ({ tn := u.tn, phase := 3, comp, size } : UpdSess).requestData)).ret
      (.reply .ok [])) := by
  refine congrArg Host.Outcome.next ((h _).trans ?_)
  simp [updMode_of_updateCode hc, hu, ht, hc, hph, respond_pldm_ok]

/-- ActivateFirmware ends the session and tells whether a class 255 component waits for the next device reset. -/
theorem exec_activateFirmware_ends (hs : updState s u.comp = false) (hl : rb s FBUS_UPD_STAT_OWNER_LOCK = false) (hp : t.permUpdate = true)
    (hph : u.phase = 2) : exec (.activateFirmware o) s = .next ((s.setSess none).ret (.reply .ok (leBytes 1 s.upd.cfgPending.toNat))) := by
  refine congrArg Host.Outcome.next ((h _).trans ?_)
  simp [updMode_of_updState hs, sessComp, firstCode, hu, ht, hs, hl, hp, hph, respond_pldm_ok]

end

/-- In a mode that takes no update, no session is asked for. -/
theorem exec_update_otherMode (hmode : updMode s = false) (comp size svn : Nat) :
    (compOffered s comp = true → exec (.updateComponent o comp size svn) s = .next (s.pldmRefuse t.tn plUPDATE .refusedState))
      ∧ exec (.activateFirmware o) s = .next (s.respond t.tn mtPLDM plACTIVATE .refusedState) := by
  refine ⟨fun ho => congrArg Host.Outcome.next ((h _).trans ?_), congrArg Host.Outcome.next ((h _).trans ?_)⟩
  · simp [hmode, ho]
  · simp [hmode]

end

/-! ### The end of an ORANGERY command of the session (R368, R371) -/

theorem orangeryEnd_ok_stage (s : State) (c : OCmd) (h : Nat) : stageOf (s.orangeryEnd c .ok) h = stageOf s h := by
  have horang : (s.orangeryEnd c .ok).orang = { s.orang with cmd := none } := by
    unfold State.orangeryEnd
    rw [State.cmdEnd_orang]
    dsimp only
    split
    · simp only [ne_eq, not_true_eq_false, if_false]
      split
      · exact State.each_keeps State.orang (List.range 12) _ (fun t i => State.setReg_orang t _ _) _
      · rfl
    · rfl
  unfold stageOf
  rw [horang]

theorem setSess_upd (s : State) (u : Option UpdSess) : (s.setSess u).upd = { s.upd with sess := u } := rfl

theorem orangeryEnd_upd (s : State) (c : OCmd) (code : Code) : (s.orangeryEnd c code).upd = s.upd :=
  orangeryEnd_keeps s c code State.upd (fun _ _ _ _ => rfl) (fun _ _ _ => rfl)

/-- What the checks of a staged component read of the state: OTP, the configuration, the flash map, the channels' programs, the life-cycle
state and the capacity. -/
def verifyInputs (s : State) : Otp × Boot × Fbus × List (Nat × Chan) × Nat × Nat :=
  (s.otp, s.boot, s.fbus, s.chans, lcState s, rf s SYSCTL_ID_DRAM_CAP)

theorem verifyInputs_orangeryEnd (s : State) (c : OCmd) (code : Code) : verifyInputs (s.orangeryEnd c code) = verifyInputs s := by
  refine orangeryEnd_keeps s c code verifyInputs (fun t a w ha => ?_) (fun _ _ _ => rfl)
  have hlc : lcState (t.setReg a w) = lcState t := rf_setReg_ne _ _ _ _ fun k => by
    rw [← k] at ha
    exact absurd ha (by decide)
  have hcap : rf (t.setReg a w) SYSCTL_ID_DRAM_CAP = rf t SYSCTL_ID_DRAM_CAP := rf_setReg_ne _ _ _ _ fun k => by
    rw [← k] at ha
    exact absurd ha (by decide)
  unfold verifyInputs
  rw [hlc, hcap]
  rfl

section
variable {s t : State} (h : verifyInputs t = verifyInputs s)
include h

theorem svnMin_congr (cls : Nat) : svnMin t cls = svnMin s cls := by
  simp only [verifyInputs, Prod.mk.injEq] at h
  unfold svnMin otpWord otpMoved remapRecord
  simp only [h.1]

theorem bootKey_congr (k : Nat) (d : List Byte) : bootKey t k d = bootKey s k d := by
  simp only [verifyInputs, Prod.mk.injEq] at h
  obtain ⟨hotp, -, -, -, hlc, -⟩ := h
  unfold bootKey
  rw [hlc, hotp]

theorem manFits_congr (d : Nat) (m : Manifest) : manFits t d m = manFits s d m := by
  simp only [verifyInputs, Prod.mk.injEq] at h
  obtain ⟨-, hboot, hfbus, hchans, -, -⟩ := h
  unfold manFits domCfg progOf chanOf
  rw [hboot, hfbus, hchans]

theorem stagedChecks_congr (comp : Nat) (b : StageObj) : stagedChecks t comp b = stagedChecks s comp b := by
  unfold stagedChecks
  simp only [svnMin_congr h, bootKey_congr h, manFits_congr h]

theorem stagedCfgOk_congr (comp : Nat) (b : StageObj) (m : Manifest) : stagedCfgOk t comp b m = stagedCfgOk s comp b m := by
  simp only [verifyInputs, Prod.mk.injEq] at h
  obtain ⟨-, hboot, -, -, -, hcap⟩ := h
  unfold stagedCfgOk
  rw [hboot, hcap]

theorem verifyStep_congr (u : UpdSess) (b : StageObj) (off len : Nat) : verifyStep t u b off len = verifyStep s u b off len := by
  unfold verifyStep
  simp only [stagedChecks_congr h, stagedCfgOk_congr h]

end

section
variable {s : State} {c : OCmd} {u : UpdSess} (hu : s.upd.sess = some u)
include hu

/-- Staged bytes lead to the next request, or to the end of the transfer. -/
theorem stagedFor_write (hop : c.op = 2) (hph : u.phase = 3) (hh : u.handle = none ∨ u.handle = some c.handle) :
    s.stagedFor c
      = s.setSess (some ({ u with handle := some c.handle, got := max u.got (c.off + c.len) } : UpdSess).requestData) := by
  simp [State.stagedFor, hu, hop, hph, hh]

/-- The last check of a staged component tells its result. -/
theorem stagedFor_hash {b : StageObj} {r : Code} {l : List Nat} (hop : c.op = 3) (hph : u.phase = 4) (hh : u.handle = some c.handle)
    (hb : stageOf s c.handle = some b) (hv : verifyStep s u b c.off c.len = (some r, l)) :
    (s.stagedFor c).upd = { s.upd with sess := some { u with
      hashed := l, phase := if r = .ok then 5 else 4, sent := some (plVERIFYDONE, [fdResult r]) } } := by
  have he : s.stagedFor c = (s.when (r = .keyAmbiguous) (·.journal 1 123 srcORANGERY noUnit .keyAmbiguous)).setSess
      (some { u with hashed := l, phase := if r = .ok then 5 else 4, sent := some (plVERIFYDONE, [fdResult r]) }) := by
    simp [State.stagedFor, hu, hop, hph, hh, hb, hv]
  rw [he]
  unfold State.setSess
  rw [State.modUpd_upd, State.when_keeps State.upd _ _ fun t => State.journal_upd t _ _ _ _ _]

end

section
variable {s : State} {c : OCmd} (hc : s.orang.cmd = some c) (ha : c.aborted = false) (hp : c.poisoned = false)
include hc ha hp

/-- A command that ends well serves the session. -/
theorem exec_orangeryCmdDone_ok (hl : c.op = 3 → lanesOn s ≠ 0) :
    exec .orangeryCmdDone s = .next ((s.orangeryEnd c .ok).stagedFor c) := by
  have hlanes : ¬ (c.op = 3 ∧ lanesOn s = 0) := fun k => hl k.1 k.2
  simp [exec, execOrangeryCmdDone, hc, ha, hp, hlanes, State.when]

variable {u : UpdSess} (hu : s.upd.sess = some u)
include hu

theorem exec_stageWriteDone (hop : c.op = 2) (hph : u.phase = 3) (hh : u.handle = none ∨ u.handle = some c.handle) :
    ∃ v, exec .orangeryCmdDone s = .next v ∧ v.upd = { s.upd with
      sess := some ({ u with handle := some c.handle, got := max u.got (c.off + c.len) } : UpdSess).requestData } := by
  refine ⟨_, exec_orangeryCmdDone_ok hc ha hp (by omega), ?_⟩
  rw [stagedFor_write (by rw [orangeryEnd_upd]; exact hu) hop hph hh, setSess_upd, orangeryEnd_upd]

/-- A root compared last ends the verification with the result of its checks. -/
theorem exec_stageHashDone {b : StageObj} {r : Code} {l : List Nat} (hop : c.op = 3) (hl : lanesOn s ≠ 0) (hph : u.phase = 4)
    (hh : u.handle = some c.handle) (hb : stageOf s c.handle = some b) (hv : verifyStep s u b c.off c.len = (some r, l)) :
    ∃ v, exec .orangeryCmdDone s = .next v ∧ v.upd = { s.upd with sess := some { u with
      hashed := l, phase := if r = .ok then 5 else 4, sent := some (plVERIFYDONE, [fdResult r]) } } := by
  refine ⟨_, exec_orangeryCmdDone_ok hc ha hp fun _ => hl, ?_⟩
  rw [stagedFor_hash (by rw [orangeryEnd_upd]; exact hu) hop hph hh (by rw [orangeryEnd_ok_stage]; exact hb)
    (by rw [verifyStep_congr (verifyInputs_orangeryEnd s c .ok)]; exact hv), orangeryEnd_upd]

end

/-- Settles O49: a bound tenant's request reaches its meaning in a mode that serves it (`request_served`), a session's command in the phases of
its order (`inSession_runs`), and an ORANGERY command that ends well leads the session on (`stagedFor_write`, `stagedFor_hash`). What is refused
outside a phase and in other modes is the model's reading (log entry 127); the requests that the HX96 sends, and which staging object is the
session's, are its choice (log entry 128). -/
theorem firmwareUpdateSession : Obligations.FirmwareUpdateSession := by
  refine fun s o t comp size svn typ => ⟨fun hr => ?recovery, fun hm hr => ?tenant,
    fun u c hu hc ha hp => ⟨fun hop hph hh hlt hgot => ?more, fun hop hph hh hle => ?done, fun b r l hop hl hph hh hb hv => ?verified⟩⟩
  case recovery =>
    exact ⟨exec_queryDeviceIdentifiers_recovery o hr, fun hu => ⟨exec_getStatus_recovery o hr hu,
      fun hs hl => exec_requestUpdate_opens (updatesAs_recovery hr) hu hs hl (recoveryTbe_permUpdate o)⟩⟩
  case tenant =>
    have hupd : updatesAs s o t := updatesAs_bound hm hr
    refine ⟨fun hmode hlock => ?served, fun u hu hmode => exec_requestUpdate_open hupd hu hmode,
      fun hu hs => ⟨exec_requestUpdate_opens hupd hu hs, exec_requestUpdate_locked hupd hu hs⟩,
      fun hu hs => ⟨exec_requestUpdate_refused hupd hu hs, pldmRefuse_state s t.tn plREQUEST⟩,
      fun u hu ht => ⟨fun c hmode hc => exec_updateComponent_refused hupd hu ht hmode hc, fun hc hph => ?starts,
        fun hc hph => exec_updateComponent_disorder hupd hu ht hc hph, fun hs hl hp hph => ?activates⟩,
      fun hmode => exec_update_otherMode hupd hmode comp size svn⟩
    case served =>
      have h : PldmServed s o t := ⟨hm, hr, hmode, hlock⟩
      refine ⟨exec_getTid_served h, exec_getPldmTypes_served h, fun hk => exec_pldmType_known h typ ?_,
        fun h0 h5 => exec_getPldmCommands_unknown h typ ?_, exec_enquiries_denied h, fun hp => ⟨exec_queryDeviceIdentifiers_served h hp,
        exec_getFirmwareParameters_served h hp, fun hu => ⟨exec_getStatus_idle h hp hu, congrArg Host.Outcome.next (inSession_closed h hp hu)⟩,
        fun u hu ht => congrArg Host.Outcome.next (inSession_stranger h hp hu ht), fun u hu ht => ⟨exec_getStatus_phase h hp hu,
          exec_passComponentTable_runs h hp hu ht, exec_cancelUpdateComponent_runs h hp hu ht, exec_cancelUpdate_runs h hp hu ht⟩⟩⟩
      · simpa [pldmTypes] using hk
      · simp [pldmTypes, h0, h5]
    case starts =>
      obtain ⟨htn, hcomp, hsize, hhandle⟩ := requestData_keeps { tn := u.tn, phase := 3, comp, size }
      refine ⟨_, _, exec_updateComponent_starts hupd hu ht hc hph, rfl, rfl, htn.trans ht, hcomp, hsize, hhandle, fun hpos => ?_⟩
      rw [requestData_more hpos]
      exact ⟨rfl, rfl⟩
    case activates => exact ⟨_, exec_activateFirmware_ends hupd hu ht hs hl hp hph, rfl, rfl⟩
  case more =>
    obtain ⟨v, he, hv⟩ := exec_stageWriteDone hc ha hp hu hop hph hh
    refine ⟨v, he, hv.trans ?_⟩
    rw [requestData_more (by rw [Nat.max_eq_right hgot]; exact hlt), Nat.max_eq_right hgot]
    rfl
  case done =>
    obtain ⟨v, he, hv⟩ := exec_stageWriteDone hc ha hp hu hop hph hh
    refine ⟨v, _, he, hv, ?_⟩
    rw [requestData_done (by exact Nat.le_trans hle (Nat.le_max_right _ _))]
    exact ⟨rfl, rfl⟩
  case verified => exact exec_stageHashDone hc ha hp hu hop hl hph hh hb hv

end Sys2Proof.Machine
end

section
/-! A QUARANTINED domain that is released while no hash lane is in service (R96, R115, R418). -/

namespace Sys2Proof.Machine

/-- Domain 0 of a table that names it alone: three failures quarantine it, and no Nursery source lets it recover by itself. -/
def soleDomain : Dom :=
  { id := 0, flags := 0, priority := 0, failLimit := 3, pred := 0, channels := 0, manPart := 0, manOff := 0, shBase := 0, shSize := 1
    relDelay := 0, rstPulse := 1, rstreqLimit := 10, pgSettle := 0 }

/-- SERVE with domain 0 QUARANTINED after three failures, its generation in GATE_CMD_GEN, and no hash lane in service. -/
def quarantinedWithoutLanes : State :=
  let s := State.reset.modBoot fun b => { b with stage := .firmware, cfg := { b.cfg with doms := [soleDomain] } }
  let s := (s.setF SYSCTL_MODE_MODE moSERVE).setF GATE_CMD_GEN_GEN 1
  let s := (s.setF (GATE_DOM_STAT_STATE 0) stQUARANTINED).setF (GATE_DOM_STAT_FAIL_COUNT 0) 3
  (s.setF LOADER_LANE0_IN_SERVICE 0).setF LOADER_LANE1_IN_SERVICE 0

theorem quarantinedWithoutLanes_accepts :
    asleep quarantinedWithoutLanes = false ∧ domExists quarantinedWithoutLanes 0 = true
      ∧ rf quarantinedWithoutLanes GATE_CMD_GEN_GEN = domGen quarantinedWithoutLanes 0 ∧ modeRun quarantinedWithoutLanes = true
      ∧ releaseOk quarantinedWithoutLanes 0 = true ∧ domState quarantinedWithoutLanes 0 = stQUARANTINED
      ∧ lanesOn quarantinedWithoutLanes = 0 := by decide +kernel

/-- RELEASE clears FAIL_COUNT, and the domain, which cannot be verified, parks at once: that failure is counted. -/
theorem gateReleaseDom_without_lanes :
    rf (quarantinedWithoutLanes.gateReleaseDom 0) (GATE_DOM_STAT_FAIL_COUNT 0) = 1
      ∧ domState (quarantinedWithoutLanes.gateReleaseDom 0) 0 = stPARKED
      ∧ rf (quarantinedWithoutLanes.gateReleaseDom 0) (GATE_DOM_STAT_LAST_CAUSE 0) = 0x12 := by decide +kernel

/-- Refutes O18: its clause on FAIL_COUNT does not ask for a hash lane. In `quarantinedWithoutLanes` an accepted RELEASE of the QUARANTINED domain
0 clears FAIL_COUNT, but with no lane left the domain parks at once with LAST_CAUSE 0x12 (R418), so that FAIL_COUNT reads 1. -/
theorem not_gateCommandsAct : ¬ Obligations.GateCommandsAct := by
  rintro ⟨hrelease, -⟩
  obtain ⟨hawake, hexists, hgen, hrun, hok, hquar, -⟩ := quarantinedWithoutLanes_accepts
  obtain ⟨-, -, hclears, -⟩ := hrelease quarantinedWithoutLanes 0 hawake (by decide) hexists hgen hrun hok
  exact absurd ((hclears hquar).symm.trans gateReleaseDom_without_lanes.1) (by decide)

end Sys2Proof.Machine
end

section
/-! GATE and LOADER commands in the states that accept them, the steps of a domain's sequences, and the events of manifests and bursts (R12, R96,
R107 to R112, R115, R128, R132, R138, R141, R142). -/

namespace Sys2Proof.Machine

/-! ### GATE commands (R12, R115) -/

theorem mode_ne_assembly {s : State} (h : modeRun s = true) : mode s ≠ moASSEMBLY := by
  intro hm
  rw [modeRun, hm] at h
  exact absurd h (by decide)

section
variable {s : State} {d : Nat} (ha : asleep s = false) (he : domExists s d = true) (hg : rf s GATE_CMD_GEN_GEN = domGen s d)
include ha he hg

/-- A GATE command that no condition of R12 refuses acts and ends with OK; a Nursery source is a condition of RECOVER alone. -/
theorem gateCmd_accepted {op : Nat} (hok : gateStateOk s op d = true) (hn : op = opRECOVER → (domX s d).nursery = true) :
    s.gateCmd op d = (s.gateApply op d).gateEnd op d .ok := by
  have hcode : gateCode s op d (rf s GATE_CMD_GEN_GEN) = none := firstCode_eq_none.2 (by simpa [he, hg, hok] using hn)
  simp [State.gateCmd, ha, hcode]

theorem exec_gateHold_accepted (hm : mode s ≠ moASSEMBLY) (hd : released s d = true ∨ domState s d = stVERIFYING) :
    exec (.gateHold d) s = .next ((s.holdDom d).settle.gateEnd opHOLD d .ok) :=
  congrArg Host.Outcome.next (gateCmd_accepted ha he hg (by simp [gateStateOk, hm, hd]) fun h => absurd h (by decide))

theorem exec_gateRelease_accepted (hm : modeRun s = true) (hd : releaseOk s d = true) :
    exec (.gateRelease d) s = .next ((s.gateReleaseDom d).settle.gateEnd opRELEASE d .ok) :=
  congrArg Host.Outcome.next
    (gateCmd_accepted ha he hg (by simp [gateStateOk, mode_ne_assembly hm, hm, hd, opRELEASE, opHOLD]) fun h => absurd h (by decide))

theorem exec_resetCycle_accepted (hm : modeRun s = true) (hd : released s d = true) :
    exec (.resetCycle d) s = .next ((s.resetCycle d none).settle.gateEnd opRESET_CYCLE d .ok) :=
  congrArg Host.Outcome.next
    (gateCmd_accepted ha he hg (by simp [gateStateOk, mode_ne_assembly hm, hm, hd, opRESET_CYCLE, opRELEASE, opHOLD]) fun h => absurd h (by decide))

theorem exec_recover_accepted (hm : modeRun s = true) (hd : domState s d = stPARKED) (hn : (domX s d).nursery = true) :
    exec (.recover d) s = .next ((s.recoverDom d).settle.gateEnd opRECOVER d .ok) :=
  congrArg Host.Outcome.next (gateCmd_accepted ha he hg
    (by simp [gateStateOk, mode_ne_assembly hm, hm, hd, opRECOVER, opRESET_CYCLE, opRELEASE, opHOLD]) fun _ => hn)

theorem exec_quarantine_accepted (hm : mode s ≠ moASSEMBLY) (hd : domState s d ≠ stQUARANTINED) :
    exec (.quarantine d) s = .next ((s.gateQuarantineDom d).settle.gateEnd opQUARANTINE d .ok) :=
  congrArg Host.Outcome.next (gateCmd_accepted ha he hg
    (by simp [gateStateOk, hm, hd, opQUARANTINE, opRECOVER, opRESET_CYCLE, opRELEASE, opHOLD]) fun h => absurd h (by decide))

end

theorem exec_enterLockdown_accepted {s : State} (ha : asleep s = false) (hg : rf s GATE_CMD_GEN_GEN = rf s SYSCTL_MODE_GEN_GEN)
    (hm : modeRun s = true) : exec (.enterLockdown 0xFF) s = .next ((s.enterLockdown 4).gateEnd opENTER_LOCKDOWN 0xFF .ok) := by
  have hcode : lockdownCode s 0xFF (rf s GATE_CMD_GEN_GEN) = none := firstCode_eq_none.2 (by simp [hg, hm])
  simp [exec, execEnterLockdown, State.enterLockdownCmd, ha, hcode]

/-! ### The steps of a domain's sequences (R96, R108, R109, R111, R138) -/

section
variable {s : State} {d : Nat}

theorem exec_holdStep_waiting {u : Nat} (h : (domX s d).seq = .hold u) :
    exec (.holdStep d) s = .next ((s.powerDown d u).holdFrom d 17 u) := by
  simp [exec, execHoldStep, h]

theorem exec_domainPass_admitted (hd : domState s d = stVERIFYING) (h : allAdmitted s d = true) :
    exec (.domainPass d) s = .next (s.passDom d) := by
  simp [exec, execDomainPass, hd, h]

theorem exec_releaseDelayExpiry_noted (h : (predsOf s d).any (released s) = true) :
    exec (.releaseDelayExpiry d) s = .next (s.modDomX d fun x => { x with delayDone := true }).settle :=
  congrArg Host.Outcome.next (if_pos h)

theorem exec_releaseStep_waiting {u : Nat} (h : (domX s d).seq = .rel u) (hpg : stepWaitsPg s d u = false ∨ pgOk s d = true) :
    exec (.releaseStep d) s = .next ((s.execStep d u).relFrom d 17 (u + 1)) := by
  have hready : (stepWaitsPg s d u && !pgOk s d) = false := by
    rcases hpg with hno | hok
    · simp [hno]
    · simp [hok]
  simp [exec, execReleaseStep, h, hready]

theorem exec_pgTimeout_waiting {u : Nat} (h : (domX s d).seq = .rel u) (hpg : stepWaitsPg s d u = true) :
    exec (.pgTimeout d) s = .next ((((s.holdDom d).raise (GATE_DOM_STAT_PG_TIMEOUT d)).raise GATE_EVT_PG_TIMEOUT).journalDom 2 108
      srcGATE d Code.timeout.val).settle := by
  simp [exec, execPgTimeout, h, hpg]

theorem domX_modDomX (s : State) (d : Nat) (f : DomX → DomX) : domX (s.modDomX d f) d = f (domX s d) :=
  (Sparse.get_put _ _ _ _ _).trans (if_pos rfl)

theorem exec_rstPulseEnd_unrequested (h : (domX s d).seq = .pulse) (hr : (domX s d).reqLine = none) :
    exec (.rstPulseEnd d) s = .next ((s.modDomX d fun x => { x with pulseOver := true }).pulseEnd d) := by
  simp [exec, execRstPulseEnd, h, domX_modDomX, hr]

end

/-- A stuck request shows in the Gatehouse's events, which the journal leaves. -/
theorem ignoreReq_event (s : State) (k : Nat) (p : Pcl) : rb (s.ignoreReq k p) GATE_EVT_RSTREQ_STUCK = true := by
  unfold State.ignoreReq State.journalDom
  rw [rb_journalD _ _ _ _ _ _ _ _ _ (by decide) (by decide)]
  exact rb_raise_same _ rfl (by decide)

/-! ### Manifests (R126, R128) -/

theorem exec_manifestReadDone_queued {s : State} {d : Nat} {l : Load} {c : Dom} {m : Manifest} (bytes : List Byte) (hl : loadOf s d = some l)
    (hc : domCfg s d = some c) (hp : l.phase = 0) (hr : l.reverify = false) (ht : manTurn s d = true) (hd : rb s FBUS_STAT_DISC_DONE = true)
    (hlane : lanesOn s ≠ 0) (hfb : fbLive s (manBus s d) = true) (hpart : partReason s c.manPart = 0)
    (hdev : devIdle s (devOfPart s c.manPart) = true) (hbus : busServes s (manBus s d) 3 = true) (hm : check1 s c bytes = some m) :
    exec (.manifestReadDone d bytes) s
      = .next ((s.clearTries (32 + d)).setLoad d { l with man := some m, phase := 1, raw := bytes.take m.totalLen }).refill := by
  simp [exec, execManifestReadDone, hl, hc, hp, hr, ht, hd, hlane, hfb, hpart, hdev, hbus, hm]

theorem exec_manReady_delivers {s : State} {d : Nat} {l : Load} {m : Manifest} (hb : s.ldr.buf = none) (hq : (manQueue s).head? = some d)
    (hu : (undecided s).contains d = true) (hok : manBufOk s = true) (hl : loadOf s d = some l) (hm : l.man = some m) :
    exec .manReady s = .next (s.deliverManifest d l m) := by
  simp only [exec, execManReady, hb, hq, hu, hok, hl, hm, Bool.not_true, Bool.false_eq_true, if_false]

/-! ### LOADER commands (R12, R142) -/

theorem loaderEnd_ok (s : State) (op d : Nat) : s.loaderEnd op d .ok = (((s.setF LOADER_CMD_STAT_LAST_DOM d).setF LOADER_CMD_STAT_LAST_OP
    op).setF LOADER_CMD_STAT_LAST_STATUS 0).raise LOADER_EVT_CMD_DONE := by
  simp [State.loaderEnd, Code.val]

theorem loaderEnd_ok_shows (s : State) (op d : Nat) : rf (s.loaderEnd op d .ok) LOADER_CMD_STAT_LAST_STATUS = 0
    ∧ rf (s.loaderEnd op d .ok) LOADER_CMD_STAT_LAST_OP = op % 256 := by
  rw [loaderEnd_ok]
  unfold State.raise
  constructor
  · rw [rf_setF_ne _ _ _ _ (by decide), rf_setF_same _ _ _ (by decide)]
    rfl
  · rw [rf_setF_ne _ _ _ _ (by decide), rf_setF_ne _ _ _ _ (by decide), rf_setF_same _ _ _ (by decide)]
    rfl

section
variable {s : State} {d : Nat} (he : domExists s d = true) (hg : rf s LOADER_CMD_GEN_GEN = domGen s d)
include he hg

theorem loaderCode_accepted {malformed ok : Bool} (hm : malformed = false) (hok : ok = true) : loaderCode s d malformed ok = none :=
  firstCode_eq_none.2 (by simp [he, hg, hm, hok])

theorem exec_accept_accepted (h : manDecidable s d = true) : exec (.accept d) s = .next ((s.acceptDom d).loaderEnd opACCEPT d .ok) := by
  simp [exec, execAccept, loaderCode_accepted he hg rfl h]

theorem exec_reject_accepted (h : manDecidable s d = true) {code : Nat} (hc : code ∈ [0x03, 0x08, 0x09, 0x0A, 0x0B, 0x0F]) :
    exec (.reject d code) s
      = .next (((s.freeBuf.verifyFail d (rejectCheck code) 0 false 0 code).settle).loaderEnd opREJECT d .ok) := by
  have hknown : (!([0x03, 0x08, 0x09, 0x0A, 0x0B, 0x0F].contains code)) = false := by
    rw [List.contains_iff_mem.2 hc, Bool.not_true]
  simp only [exec, execReject, loaderCode_accepted he hg hknown h]

/-- The queued job of REVERIFY is not followed here: what its outcome shows is the same whatever the job leads to. -/
theorem exec_reverify_accepted (hr : released s d = true) (hj : hasJob s d = false) (hm : modeServe s = true) :
    ∃ u : State, exec (.reverify d) s = .next (u.loaderEnd opREVERIFY d .ok) := by
  have hcode : loaderCode s d false (released s d && !hasJob s d && modeServe s) = none :=
    loaderCode_accepted he hg rfl (by simp [hr, hj, hm])
  exact ⟨_, by simp only [exec, execReverify, hcode]; rfl⟩

theorem exec_loaderAbort_accepted (h : reverifying s d = true) :
    exec (.loaderAbort d) s = .next ((s.modLoad d fun l => { l with aborted := true }).loaderEnd opABORT d .ok) := by
  simp [exec, execLoaderAbort, loaderCode_accepted he hg rfl h]

end

/-! ### Bursts and the end of a REVERIFY job (R132, R141) -/

/-- A manifest's burst that comes late for the first time to the third is tried again. -/
theorem exec_burstTimeout_retries {s : State} {d : Nat} {l : Load} (hl : loadOf s d = some l) (hp : l.phase = 0) (ha : l.aborted = false)
    (ht : manTurn s d = true) (hfb : fbLive s (manBus s d) = true) (hn : triesOf s (32 + d) < 3) :
    exec (.burstTimeout d (manBus s d)) s = .next ((((s.setTries (32 + d) (triesOf s (32 + d) + 1)).setF
      (LOADER_FB_STAT_LAST_STATUS (manBus s d)) Code.timeout.val).raise LOADER_EVT_READ_RETRY).bump LOADER_RETRY_LO LOADER_RETRY_HI
      LOADER_EVT_SAT srcLOADER) := by
  have hretry : triesOf s (32 + d) + 1 ≤ 3 := hn
  simp [exec, execBurstTimeout, hl, hp, ha, ht, hfb, hretry]

section
variable (s : State) (d : Nat)

theorem refillBus_keeps (b : Nat) : (s.refillBus b).ldr.loads = s.ldr.loads ∧ (s.refillBus b).gate = s.gate
    ∧ reg (s.refillBus b) LOADER_EVT = reg s LOADER_EVT := by
  have hbus : LOADER_FB_STAT b ≠ LOADER_EVT := by unfold LOADER_FB_STAT LOADER_EVT; omega
  unfold State.refillBus
  dsimp only [State.setF_ldr, State.setF_gate]
  rw [reg_setF_ne _ _ _ _ hbus, reg_setF_ne _ _ _ _ hbus]
  split
  · exact ⟨rfl, rfl, rfl⟩
  · split
    · split <;> exact ⟨rfl, rfl, rfl⟩
    · exact ⟨rfl, rfl, rfl⟩

/-- The next regions of the buses change neither the loads, nor the Gatehouse, nor the events of the engine. -/
theorem refill_keeps : s.refill.ldr.loads = s.ldr.loads ∧ s.refill.gate = s.gate ∧ reg s.refill LOADER_EVT = reg s LOADER_EVT := by
  unfold State.refill State.setB
  dsimp only [State.setF_ldr, State.setF_gate]
  refine ⟨State.each_keeps (fun s => s.ldr.loads) _ _ (fun s b => (refillBus_keeps s b).1) s,
    State.each_keeps State.gate _ _ (fun s b => (refillBus_keeps s b).2.1) s, ?_⟩
  rw [reg_setF_ne _ _ _ _ (by decide), reg_setF_ne _ _ _ _ (by decide), reg_setF_ne _ _ _ _ (by decide)]
  exact State.each_keeps (reg · LOADER_EVT) _ _ (fun s b => (refillBus_keeps s b).2.2) s

/-- The end of a load removes it; the Gatehouse and the engine's events are then as the end of a REVERIFY job leaves them. -/
theorem loadDrop_keeps : loadOf (s.loadDrop d) d = none ∧ (s.loadDrop d).gate = (s.endReverify d).gate
    ∧ reg (s.loadDrop d) LOADER_EVT = reg (s.endReverify d) LOADER_EVT := by
  unfold State.loadDrop
  dsimp only
  generalize hu : (if s.ldr.buf = some d then _ else _ : State) = u
  obtain ⟨hloads, hgate, hevt⟩ := refill_keeps u
  have hgone : loadOf u d = none := by
    have hl : u.ldr.loads = ((s.endReverify d).stopReads d).ldr.loads.filter (·.1 ≠ d) := by
      rw [← hu]
      split <;> rfl
    simp [loadOf, hl]
  refine ⟨by rw [← hgone]; simp only [loadOf, hloads], ?_, ?_⟩
  · rw [hgate, ← hu]
    split <;> rfl
  · rw [hevt, ← hu]
    split
    · exact reg_setReg_ne _ _ _ _ (by decide)
    · rfl

theorem loadDrop_reverify {l : Load} (hl : loadOf s d = some l) (hr : l.reverify = true) : loadOf (s.loadDrop d) d = none
    ∧ rb (s.loadDrop d) LOADER_EVT_REVERIFY_DONE = true ∧ (domX (s.loadDrop d) d).job ≠ jobREVERIFY := by
  obtain ⟨hgone, hgate, hevt⟩ := loadDrop_keeps s d
  have hend : s.endReverify d = (s.raise LOADER_EVT_REVERIFY_DONE).modDomX d fun x => { x with job := if x.job = jobREVERIFY then 0 else x.job } := by
    simp [State.endReverify, hl, hr, State.when]
  refine ⟨hgone, ?_, ?_⟩
  · rw [rb, rf, show LOADER_EVT_REVERIFY_DONE.addr = LOADER_EVT from rfl, hevt, hend]
    exact rb_raise_same s rfl (by decide)
  · rw [domX, hgate, hend, ← domX, domX_modDomX]
    show (if _ then _ else _) ≠ jobREVERIFY
    split
    · decide
    · assumption

end

theorem exec_reverifyDone_ends {s : State} {d : Nat} {l : Load} (hl : loadOf s d = some l) (hr : l.reverify = true) (ha : l.aborted = false)
    (hread : allRead l = true) : exec (.reverifyDone d) s = .next (s.loadDrop d).settle := by
  simp [exec, execReverifyDone, hl, hr, ha, hread]

/-- Settles O58: each clause is the rule of its command above. -/
theorem domainAndLoaderCommandsComplete : Obligations.DomainAndLoaderCommandsComplete := by
  unfold Obligations.DomainAndLoaderCommandsComplete
  refine fun s => ⟨fun d => exec_gateHold_accepted, fun d => exec_gateRelease_accepted, fun d => exec_resetCycle_accepted,
    fun d => exec_recover_accepted, fun d => exec_quarantine_accepted, exec_enterLockdown_accepted, fun d u => exec_holdStep_waiting,
    fun d => exec_domainPass_admitted, fun d => exec_releaseDelayExpiry_noted, fun d u => exec_releaseStep_waiting,
    fun d u => exec_pgTimeout_waiting, fun k p level => exec_pclInputChange_input s level,
    fun d hq hr _ => exec_rstPulseEnd_unrequested hq hr, ?stuck, fun k => exec_rstreqIgnoredClear_clears s,
    fun d l c bytes m => exec_manifestReadDone_queued bytes, fun d l m => exec_manReady_delivers, fun d => exec_accept_accepted,
    fun d he hg hd code hc => exec_reject_accepted he hg hd hc, ?reverify, fun d => exec_loaderAbort_accepted,
    fun d l => exec_burstTimeout_retries, ?ends⟩
  case stuck =>
    exact fun k p hk hp hq hv ha hi hs hd =>
      ⟨_, exec_rstreqStuck_ignores s hp hq hv ha hi hs, (ignoreReq_shows s hk hd).1, ignoreReq_event s k p⟩
  case reverify =>
    intro d he hg hr hj hm
    obtain ⟨u, hu⟩ := exec_reverify_accepted he hg hr hj hm
    exact ⟨_, hu, loaderEnd_ok_shows u opREVERIFY d⟩
  case ends => exact fun d l hl hr ha hread => ⟨exec_reverifyDone_ends hl hr ha hread, loadDrop_reverify s d hl hr⟩

end Sys2Proof.Machine
end

section
/-! The bursts of the load engine: the leaf that ends a burst of sixteen, and a manifest's burst that comes late (R130 to R132). -/

namespace Sys2Proof.Machine

/-! ### Lists and bytes -/

theorem setAt_eq_set {α : Type} (l : List α) (n : Nat) (v : α) : setAt l n v = l.set n v := by
  induction l generalizing n with
  | nil => rfl
  | cons a l ih =>
    cases n with
    | zero => rfl
    | succ n => exact congrArg (a :: ·) (ih n)

theorem slice_whole (bs : List Byte) : slice bs 0 bs.length = bs := by simp [slice]

/-! ### What a load shows after its leaf is taken (R130) -/

section
variable (s : State) (d r : Nat)

theorem loadOf_modLoad (f : Load → Load) : loadOf (s.modLoad d f) d = (loadOf s d).map f := by
  have hkey : ((fun p : Nat × Load => decide (p.1 = d)) ∘ fun p => if p.1 = d then (p.1, f p.2) else p) = fun p => decide (p.1 = d) := by
    funext p
    by_cases h : p.1 = d <;> simp [h]
  rw [loadOf, State.modLoad, List.find?_map, hkey, loadOf]
  cases h : s.ldr.loads.find? (fun p => decide (p.1 = d)) with
  | none => rfl
  | some p =>
    have hp : p.1 = d := by simpa using List.find?_some h
    simp [hp]

@[simp] theorem State.showProg_ldr : (s.showProg d).ldr = s.ldr := by
  unfold State.showProg
  split
  · split <;> rfl
  · rfl

@[simp] theorem State.settleEntry_ldr (e l : Nat) (h : List Byte) : (s.settleEntry e l h).ldr = s.ldr := by
  unfold State.settleEntry
  dsimp only
  split
  · split <;> rfl
  · rfl

@[simp] theorem State.setPlane_ldr (x : Nat) (m : PlaneMem) : (s.setPlane x m).ldr = s.ldr := by
  unfold State.setPlane
  split <;> rfl

@[simp] theorem State.modPlanes_ldr (f : PlaneMem → PlaneMem) : (s.modPlanes f).ldr = s.ldr := by
  simp only [State.modPlanes, apply_ite State.ldr, State.setPlane_ldr, ite_self]

@[simp] theorem State.writeLeaf_ldr (e l : Nat) (bs : List Byte) : (s.writeLeaf e l bs).ldr = s.ldr := by
  unfold State.writeLeaf
  exact State.modPlanes_ldr s _

/-- The load counts one more leaf of the region. -/
theorem loadOf_leafDone (reverify : Bool) :
    loadOf (s.leafDone d r reverify) d
      = (loadOf s d).map fun l => { l with admitted := setAt l.admitted r (l.admitted.getD r 0 + 1) } := by
  rw [← loadOf_modLoad]
  unfold State.leafDone
  cases reverify with
  | true => rfl
  | false => simp [loadOf]

/-- Writing an admitted leaf to the planes leaves the loads. -/
theorem loadOf_admitLeaf (e l : Nat) (bs h : List Byte) (clear : Bool) (slot : Nat) :
    loadOf (((if clear then s.setCtrSlot slot 0 else s).writeLeaf e l bs).settleEntry e l h) d = loadOf s d := by
  rw [loadOf, State.settleEntry_ldr, State.writeLeaf_ldr, ← loadOf]
  cases clear <;> rfl

end

/-! ### A burst of one leaf that comes in full (R130, R131) -/

section
variable {s : State} {d r : Nat} {l : Load} {data : List Byte}

/-- The next leaf, with a hash expected of it, is admitted and counted. -/
theorem takeLeaf_admits (hl : loadOf s d = some l) (again : List Byte) (reverify : Bool)
    (hread : chunkRead s d r 0 (l.admitted.getD r 0) = true)
    (hhash : (gatherHashes s (extIx d r) (l.admitted.getD r 0)).contains (leafHash data) = true) :
    loadOf (s.takeLeaf d r (l.admitted.getD r 0) data again false reverify).1 d
      = some { l with admitted := setAt l.admitted r (l.admitted.getD r 0 + 1) } := by
  have hwant : (gatherHashes s (extIx d r) (l.admitted.getD r 0)).isEmpty = false := by
    rw [List.isEmpty_eq_false_iff]
    intro hnil
    rw [hnil] at hhash
    exact absurd hhash (by simp)
  simp only [State.takeLeaf, hl, hread, hhash, hwant, ne_eq, not_true_eq_false, decide_false, Bool.or_self, Bool.not_true, Bool.not_false,
    Bool.and_self, if_true]
  cases reverify <;>
    simp only [Bool.false_eq_true, if_false, if_true, loadOf_leafDone, loadOf_admitLeaf, hl, Option.map_some]

theorem takeAll_singleton (f : State → Nat → State × Bool) (i : Nat) : takeAll f s [i] = f s i := by
  simp only [takeAll]
  rcases f s i with ⟨t, _ | _⟩ <;> rfl

/-- A burst of the bytes of one leaf is that leaf alone. -/
theorem takeLeaves_single {first leaves : Nat} (hlen : data.length = 4096) (hfirst : first < leaves) (reverify : Bool) :
    s.takeLeaves d r first data [] [] leaves reverify = (s.takeLeaf d r first data [] false reverify).1 := by
  have hone : List.range (min (data.length / 4096) (leaves - first)) = [0] := by
    rw [hlen, show min (4096 / 4096) (leaves - first) = 1 by omega]
    rfl
  have hdata : slice data (4096 * 0) 4096 = data := hlen ▸ slice_whole data
  rw [State.takeLeaves, hone, takeAll_singleton, hdata]
  simp only [List.isEmpty_nil, if_true, Nat.add_zero, List.contains_nil]

/-- After the fifteenth leaf of a burst the sixteenth is due alone. -/
theorem burstDue_last {b : Burst} {leaves : Nat} (ht : b.tree = false) (hlen : b.data.length = 4096) (hnext : b.first = l.admitted.getD r 0)
    (hlast : b.first % 16 = 15) (hin : b.first + 1 < leaves) : burstDue l r leaves b = true := by
  have hmin : min (16 - b.first % 16) (leaves - b.first) = 1 := by omega
  simp only [burstDue, ht, hlen, ← hnext, hmin, decide_true, Bool.and_self, Bool.false_eq_true, if_false, Nat.mul_one]

/-- A region with a leaf still to be read stays on its bus. -/
theorem regionRead_unfinished (hl : loadOf s d = some l) {leaves : Nat} (h : l.admitted.getD r 0 < leaves) (fb : Nat) :
    s.regionRead fb d r leaves = s := by
  simp only [State.regionRead, hl, if_neg (Nat.not_le.2 h)]

end

/-- The burst `b` is off its bus: its attempts and its read-ahead errors are forgotten, and the bus has served its class. -/
def State.burstOff (s : State) (b : Burst) : State :=
  (({ s with ldr := { s.ldr with raBad := s.ldr.raBad.filter (· ≠ b.fb) } }).clearTries b.fb).busServed b.fb 3

section
variable (s : State) (b : Burst)

theorem loadOf_burstOff (d : Nat) : loadOf (s.burstOff b) d = loadOf s d := rfl

theorem chunkRead_burstOff (d r lvl i : Nat) : chunkRead (s.burstOff b) d r lvl i = chunkRead s d r lvl i := rfl

theorem gatherHashes_burstOff (e l : Nat) : gatherHashes (s.burstOff b) e l = gatherHashes s e l := rfl

end

/-- The burst `b` carries leaves of region `g`, the one in progress on its bus, for the load `l`; it was read without an error, and nothing
keeps the engine from taking it (R57, R128, R131, R169, R252, R418). -/
structure LeavesArrive (s : State) (b : Burst) (d r : Nat) (l : Load) (g : Region) : Prop where
  current : s.ldr.cur.find? (·.1 = b.fb) = some (b.fb, d, r)
  load : loadOf s d = some l
  region : l.man.bind (·.regions[r]?) = some g
  lanes : lanesOn s ≠ 0
  goesOn : l.aborted = false
  replayed : g.writable = false ∨ ledger s ≠ 1
  idle : devIdle s (devOfPart s g.srcPart) = true
  served : busServes s b.fb 3 = true
  noManifest : manWaits s b.fb = false ∨ s.fbus.passed.contains b.fb = false
  leaves : b.tree = false
  goodBuffer : s.ldr.raBad.contains b.fb = false
  goodLanes : b.badLanes = []
  goodWords : b.poison = []

section
variable {s : State} {b : Burst} {d r : Nat} {l : Load} {g : Region} (h : LeavesArrive s b d r l g)
include h

/-- A due burst is taken, and its region leaves the bus if it is then read to its end. -/
theorem exec_loadBurstDone_taken (hdue : burstDue l r g.leaves b = true) {l' : Load}
    (htaken : loadOf ((s.burstOff b).takeLeaves d r b.first b.data b.reread [] g.leaves l.reverify) d = some l') :
    exec (.loadBurstDone b) s
      = .next (((s.burstOff b).takeLeaves d r b.first b.data b.reread [] g.leaves l.reverify).regionRead b.fb d r g.leaves) := by
  have hledger : (g.writable && decide (ledger s = 1)) = false := by
    rcases h.replayed with hw | hr
    · rw [hw, Bool.false_and]
    · rw [decide_eq_false hr, Bool.and_false]
  have hfirst : (manWaits s b.fb && s.fbus.passed.contains b.fb) = false := by
    rcases h.noManifest with hm | hp
    · rw [hm, Bool.false_and]
    · rw [hp, Bool.and_false]
  rw [State.burstOff] at htaken ⊢
  simp only [exec, execLoadBurstDone, h.current, h.load, h.region, h.lanes, h.goesOn, h.leaves, hledger, h.idle, hfirst, h.served, hdue,
    h.goodBuffer, h.goodLanes, h.goodWords, decide_false, Bool.not_false, Bool.not_true, Bool.true_and, Bool.or_self, Bool.false_eq_true,
    if_false, List.append_nil, State.each, List.foldl_nil, htaken]

/-- The last leaf of a burst of sixteen, with a hash expected of it, is counted for its region. -/
theorem exec_loadBurstDone_lastLeaf (hagain : b.reread = []) (hlen : b.data.length = 4096) (hr : r < l.admitted.length)
    (hnext : b.first = l.admitted.getD r 0) (hlast : b.first % 16 = 15) (hin : b.first + 1 < g.leaves)
    (hread : chunkRead s d r 0 b.first = true) (hhash : (gatherHashes s (extIx d r) b.first).contains (leafHash b.data) = true) :
    ∃ t, exec (.loadBurstDone b) s = .next t ∧ (loadOf t d).map (·.admitted.getD r 0) = some (b.first + 1) := by
  have hcount : (setAt l.admitted r (b.first + 1)).getD r 0 = b.first + 1 := by simp [setAt_eq_set, hr]
  have htaken : loadOf ((s.burstOff b).takeLeaves d r b.first b.data b.reread [] g.leaves l.reverify) d
      = some { l with admitted := setAt l.admitted r (b.first + 1) } := by
    rw [hagain, takeLeaves_single hlen (by omega), hnext]
    rw [hnext] at hread hhash
    exact takeLeaf_admits ((loadOf_burstOff s b d).trans h.load) [] _ ((chunkRead_burstOff s b d r 0 _).trans hread)
      (by rwa [gatherHashes_burstOff])
  refine ⟨_, exec_loadBurstDone_taken h (burstDue_last h.leaves hlen hnext hlast hin) htaken, ?_⟩
  rw [regionRead_unfinished htaken (by rw [hcount]; exact hin), htaken, Option.map_some, hcount]

end

/-! ### A manifest's burst that comes late (R132) -/

theorem triesOf_setTries (s : State) (k n : Nat) : triesOf (s.setTries k n) k = n := by
  have hgone : (s.ldr.tries.filter fun p => p.1 ≠ k).find? (fun p => decide (p.1 = k)) = none := by simp
  simp only [triesOf, State.setTries, State.clearTries, List.find?_append, hgone]
  simp

/-- The retry is counted for its key, shows as a timeout on the bus, and does not touch the Gatehouse. -/
theorem burstRetry_shows (s : State) {k n fb : Nat} (hfb : fb < 32) :
    let t := (((s.setTries k n).setF (LOADER_FB_STAT_LAST_STATUS fb) Code.timeout.val).raise LOADER_EVT_READ_RETRY).bump LOADER_RETRY_LO
      LOADER_RETRY_HI LOADER_EVT_SAT srcLOADER
    triesOf t k = n ∧ rf t (LOADER_FB_STAT_LAST_STATUS fb) = Code.timeout.val ∧ t.gate = s.gate := by
  have haddr : 0x400B0400 ≤ (LOADER_FB_STAT_LAST_STATUS fb).addr := Nat.le_add_right _ _
  have hoff : ∀ a, a < 0x400B0400 → a ≠ (LOADER_FB_STAT_LAST_STATUS fb).addr := fun a ha => by omega
  have hjournal : offJournal (LOADER_FB_STAT_LAST_STATUS fb).addr :=
    .inl (show 0x400B0400 + 4 * fb < 0x40300000 by omega)
  refine ⟨?_, ?_, ?_⟩
  · rw [triesOf, State.bump_ldr, State.raise_ldr, State.setF_ldr, ← triesOf, triesOf_setTries]
  · rw [rf_bump _ _ _ _ _ _ (hoff _ (by decide)) (hoff _ (by decide)) (hoff _ (by decide)) hjournal, State.raise,
      rf_setF_ne _ _ _ _ (.inl (hoff _ (by decide))), rf_setF_same _ _ _ (show 0 + 8 ≤ 32 by decide)]
    rfl
  · rw [State.bump_gate]
    rfl

/-- Settles O24: the last leaf of a burst is taken by `exec_loadBurstDone_lastLeaf`, and a late burst is retried by
`exec_burstTimeout_retries`. -/
theorem loadBursts : Obligations.LoadBursts := by
  unfold Obligations.LoadBursts
  refine fun s => ⟨?taken, ?late⟩
  case taken =>
    intro b d r l m g hcur hl hm hg hlane ha _ hledger hdev hbus hra ht hlanes hagain hpoison hlen hman hr hnext hlast hin hread hhash
    have harrive : LeavesArrive s b d r l g :=
      ⟨hcur, hl, by rw [hm, Option.bind_some, hg], hlane, ha, hledger, hdev, hbus, hman, ht, hra, hlanes, hpoison⟩
    exact exec_loadBurstDone_lastLeaf harrive hagain hlen hr hnext hlast hin hread hhash
  case late =>
    rintro d fb l hfb hl hp ha hturn rfl hlive hn
    exact ⟨_, exec_burstTimeout_retries hl hp ha hturn hlive hn, burstRetry_shows s hfb⟩

end Sys2Proof.Machine
end

section
/-! The 48 bytes of a digest in its twelve registers, and the Merkle root of a span (R3, R124). -/

namespace Sys2Proof.Machine

/-! ### Numbers and their bytes (R3) -/

/-- A byte string is read back from the number that it spells. -/
theorem leBytes_leNat (bs : List Byte) : leBytes bs.length (leNat bs) = bs := by
  induction bs with
  | nil => rfl
  | cons b bs ih =>
    have hb : b.toNat < 256 := b.isLt
    have hhead : BitVec.ofNat 8 (b.toNat + 256 * leNat bs) = b := BitVec.eq_of_toNat_eq (by rw [BitVec.toNat_ofNat]; omega)
    have htail : (b.toNat + 256 * leNat bs) / 256 = leNat bs := by omega
    simp only [List.length_cons, leNat, leBytes, hhead, htail, ih]

theorem leNat_lt (bs : List Byte) : leNat bs < 256 ^ bs.length := by
  induction bs with
  | nil => exact Nat.one_pos
  | cons b bs ih =>
    have hb : b.toNat < 256 := b.isLt
    rw [List.length_cons, Nat.pow_succ, leNat]
    omega

theorem slice_length (bs : List Byte) (off n : Nat) : (slice bs off n).length = n := by
  simp only [slice, List.length_append, List.length_take, List.length_replicate]
  omega

/-- A slice that lies inside its byte string. -/
theorem slice_inside {bs : List Byte} {off n : Nat} (h : off + n ≤ bs.length) : slice bs off n = (bs.drop off).take n := by
  have hlen : n - ((bs.drop off).take n).length = 0 := by
    rw [List.length_take, List.length_drop]
    omega
  rw [slice, hlen, List.replicate_zero, List.append_nil]

/-- Consecutive slices of four bytes make up the bytes that they cut. -/
theorem flatMap_slice_words {bs : List Byte} (n : Nat) (h : 4 * n ≤ bs.length) :
    ((List.range n).flatMap fun i => slice bs (4 * i) 4) = bs.take (4 * n) := by
  induction n with
  | zero => rfl
  | succ n ih =>
    rw [List.range_succ, List.flatMap_append, List.flatMap_singleton, ih (by omega), slice_inside (by omega), Nat.mul_succ, List.take_add]

/-! ### A digest in its registers -/

section
variable {s t : State} {base : Nat → Nat} {d : List Byte}

theorem digestOf_congr (h : ∀ i < 12, reg t (base i) = reg s (base i)) : digestOf t base = digestOf s base :=
  congrArg List.flatten (List.map_congr_left fun i hi => by rw [h i (List.mem_range.1 hi)])

theorem reg_setDigest_ne (s : State) (d : List Byte) {a : Nat} (h : ∀ i, base i ≠ a) : reg (s.setDigest base d) a = reg s a :=
  State.each_keeps (reg · a) _ _ (fun t i => reg_setReg_ne t _ _ _ (h i).symm) s

/-- Registers written one after another at addresses of their own hold their words. -/
theorem reg_each_setReg (s : State) (w : Nat → Word) (hb : Function.Injective base) {n i : Nat} (hi : i < n) :
    reg (s.each (List.range n) fun s j => s.setReg (base j) (w j)) (base i) = w i := by
  induction n with
  | zero => exact absurd hi (Nat.not_lt_zero i)
  | succ n ih =>
    rw [State.each, List.range_succ, List.foldl_append, List.foldl_cons, List.foldl_nil]
    by_cases h : i = n
    · rw [h, reg_setReg_same]
    · rw [reg_setReg_ne _ _ _ _ (hb.ne h)]
      exact ih (by omega)

/-- A digest of 48 bytes is shown whole. -/
theorem digestOf_setDigest (s : State) (hb : Function.Injective base) (hd : d.length = 48) : digestOf (s.setDigest base d) base = d := by
  have hword (i : Nat) (hi : i ∈ List.range 12) : leBytes 4 (reg (s.setDigest base d) (base i)).toNat = slice d (4 * i) 4 := by
    have hlt : leNat (slice d (4 * i) 4) < 2 ^ 32 := by
      have := leNat_lt (slice d (4 * i) 4)
      rwa [slice_length] at this
    have hreg : reg (s.setDigest base d) (base i) = BitVec.ofNat 32 (fieldAt d (4 * i) 4) :=
      reg_each_setReg s (fun j => BitVec.ofNat 32 (fieldAt d (4 * j) 4)) hb (List.mem_range.1 hi)
    have hbytes := leBytes_leNat (slice d (4 * i) 4)
    rw [slice_length] at hbytes
    rw [hreg, BitVec.toNat_ofNat, fieldAt, Nat.mod_eq_of_lt hlt, hbytes]
  calc digestOf (s.setDigest base d) base
      = (List.range 12).flatMap fun i => slice d (4 * i) 4 := congrArg List.flatten (List.map_congr_left hword)
    _ = d.take (4 * 12) := flatMap_slice_words 12 (by omega)
    _ = d := List.take_of_length_le (by omega)

end

/-! ### The length of a Merkle root (R124) -/

theorem shaBytes_length (m : List Byte) : (shaBytes m).length = 48 := by
  rw [shaBytes, beBytes, List.length_reverse, leBytes_length]

theorem nextLevel_length_eq_48 {n : Nat} {l : List (List Byte)} : ∀ h ∈ nextLevel n l, h.length = 48 := by
  induction n generalizing l with
  | zero => exact fun h hm => absurd hm List.not_mem_nil
  | succ n ih =>
    intro h hm
    rw [nextLevel] at hm
    split at hm
    · exact absurd hm List.not_mem_nil
    · rcases List.mem_cons.1 hm with rfl | hm
      · exact shaBytes_length _
      · exact ih h hm

theorem nextLevel_ne_nil {n : Nat} {l : List (List Byte)} (hn : n ≠ 0) (hl : l ≠ []) : nextLevel n l ≠ [] := by
  obtain ⟨n, rfl⟩ := Nat.exists_eq_succ_of_ne_zero hn
  rw [nextLevel, if_neg (by simpa using hl)]
  exact List.cons_ne_nil _ _

theorem headD_length_eq_48 {l : List (List Byte)} (hl : l ≠ []) (h : ∀ x ∈ l, x.length = 48) : (l.headD []).length = 48 := by
  obtain ⟨x, xs, rfl⟩ := List.exists_cons_of_ne_nil hl
  exact h x List.mem_cons_self

/-- The root above hashes is a hash, however far the levels go. -/
theorem rootOf_length {fuel : Nat} {l : List (List Byte)} (hl : l ≠ []) (h : ∀ x ∈ l, x.length = 48) : (rootOf fuel l).length = 48 := by
  induction fuel generalizing l with
  | zero => exact headD_length_eq_48 hl h
  | succ fuel ih =>
    have hnext : nextLevel l.length l ≠ [] := nextLevel_ne_nil (Nat.ne_of_gt (List.length_pos_iff.2 hl)) hl
    rw [rootOf]
    split
    · exact headD_length_eq_48 hnext nextLevel_length_eq_48
    · exact ih hnext nextLevel_length_eq_48

theorem regionRoot_length {bs : List Byte} (h : 0 < bs.length) : (regionRoot bs).length = 48 := by
  obtain ⟨n, hn⟩ : ∃ n, (bs.length + 4095) / 4096 = n + 1 := ⟨(bs.length + 4095) / 4096 - 1, by omega⟩
  refine rootOf_length ?_ fun x hx => ?_
  · rw [hn, cutLeaves]
    exact List.cons_ne_nil _ _
  · obtain ⟨y, -, rfl⟩ := List.mem_map.1 hx
    exact shaBytes_length _

theorem stageBytes_length (o : StageObj) (off n : Nat) : (stageBytes o off n).length = n := by
  rw [stageBytes, List.length_map, List.length_range]

end Sys2Proof.Machine
end

section
/-! The end of an ORANGERY command, its ABORT, and REVOKE (R175, R276, R418, R420). -/

namespace Sys2Proof.Machine

/-! ### What the outcome of a command leaves -/

/-- The outcome of an ORANGERY command stands in CMD_STAT and EVT alone. -/
theorem reg_orangeryCmdEnd (s : State) (op : Nat) (code : Code) (r : Nat) {a : Nat} (hs : ORANGERY_CMD_STAT ≠ a) (he : ORANGERY_EVT ≠ a) :
    reg (s.cmdEnd orangeryIf op code r) a = reg s a := by
  show reg ((((s.setF ORANGERY_CMD_STAT_LAST_OP op).setF ORANGERY_CMD_STAT_LAST_STATUS code.val).setF ORANGERY_CMD_STAT_RESULT r).raise
    ORANGERY_EVT_CMD_DONE) a = reg s a
  rw [State.raise, reg_setF_ne _ _ _ _ he, reg_setF_ne _ _ _ _ hs, reg_setF_ne _ _ _ _ hs, reg_setF_ne _ _ _ _ hs]

theorem reg_setStage (s : State) (h : Nat) (o : Option StageObj) {a : Nat} (ha : ORANGERY_STAGE_STAT ≠ a) :
    reg (s.setStage h o) a = reg s a := by
  rw [State.setStage, State.showStage, reg_setF_ne _ _ _ _ ha, reg_setF_ne _ _ _ _ ha]
  rfl

@[simp] theorem State.setDigest_orang (s : State) (base : Nat → Nat) (d : List Byte) : (s.setDigest base d).orang = s.orang :=
  State.each_keeps State.orang (List.range 12) _ (fun t _ => State.setReg_orang t _ _) s

theorem orangeryDigest_injective : Function.Injective ORANGERY_DIGEST := fun i j h => by unfold ORANGERY_DIGEST at h; omega

theorem orangeryDigest_ne {a : Nat} (h : a < 0x400C0040) (i : Nat) : ORANGERY_DIGEST i ≠ a := by unfold ORANGERY_DIGEST; omega

/-! ### The end of a command (R175) -/

section
variable {s : State} {c : OCmd} {o : StageObj}

/-- No command runs any more. -/
def State.orangeryIdle (s : State) : State := ({ s with orang := { s.orang with cmd := none } }).setF ORANGERY_STAT_CMD_BUSY 0

theorem orangeryIdle_frees (s : State) : s.orangeryIdle.orang.cmd = none ∧ rb s.orangeryIdle ORANGERY_STAT_CMD_BUSY = false :=
  ⟨rfl, rb_setF_same _ _ _ (by decide)⟩

/-- What holds of the freed interface, and of it with a staging object or a digest written, holds before the outcome is shown. -/
theorem orangeryEnd_of_idle {P : State → Prop} (c : OCmd) (code : Code) (hidle : P s.orangeryIdle)
    (hstage : ∀ t h o, P t → P (t.setStage h o)) (hdigest : ∀ t d, P t → P (t.setDigest ORANGERY_DIGEST d)) :
    ∃ u : State, P u ∧ s.orangeryEnd c code = u.cmdEnd orangeryIf c.op code := by
  refine ⟨_, ?_, rfl⟩
  split
  · split
    · split
      · exact hstage _ _ _ hidle
      · exact hidle
    · split
      · exact hdigest _ _ hidle
      · exact hidle
  · exact hidle

/-- However it ends, a command shows its outcome and frees the interface. -/
theorem orangeryEnd_frees (s : State) (c : OCmd) (code : Code) : (s.orangeryEnd c code).orang.cmd = none
    ∧ rb (s.orangeryEnd c code) ORANGERY_STAT_CMD_BUSY = false ∧ rf (s.orangeryEnd c code) ORANGERY_CMD_STAT_LAST_STATUS = code.val := by
  obtain ⟨u, ⟨hcmd, hbusy⟩, hu⟩ := orangeryEnd_of_idle (P := fun t => t.orang.cmd = none ∧ rb t ORANGERY_STAT_CMD_BUSY = false) c code
    (orangeryIdle_frees s)
    (fun t h o ht => by rwa [setStage_orang, rb, rf, reg_setStage t h o (by decide)])
    (fun t d ht => by rwa [State.setDigest_orang, rb, rf, reg_setDigest_ne t d (orangeryDigest_ne (by decide))])
  rw [hu, State.cmdEnd_orang, rb, rf, reg_orangeryCmdEnd _ _ _ _ (by decide) (by decide)]
  exact ⟨hcmd, hbusy, rf_cmdEnd_status u orangeryIf_shows c.op code 0⟩

/-- A STAGE_HASH that ends with OK shows the root of its span. -/
theorem orangeryEnd_hash_digest (ho : stageOf s c.handle = some o) (hop : c.op = 3) (hlen : 0 < c.len) :
    digestOf (s.orangeryEnd c .ok) ORANGERY_DIGEST = regionRoot (stageBytes o c.off c.len) := by
  have he : s.orangeryEnd c .ok
      = (s.orangeryIdle.setDigest ORANGERY_DIGEST (regionRoot (stageBytes o c.off c.len))).cmdEnd orangeryIf c.op .ok := by
    have hidle : stageOf s.orangeryIdle c.handle = some o := ho
    unfold State.orangeryEnd
    rw [← State.orangeryIdle]
    dsimp only
    rw [hidle]
    simp only [ne_eq, not_true_eq_false, if_false, hop, if_true]
  have hroot : (regionRoot (stageBytes o c.off c.len)).length = 48 := regionRoot_length (by rwa [stageBytes_length])
  rw [he, digestOf_congr fun i _ => reg_orangeryCmdEnd _ _ _ _ (orangeryDigest_ne (by decide) i).symm (orangeryDigest_ne (by decide) i).symm,
    digestOf_setDigest _ orangeryDigest_injective hroot]

/-- What a command staged or hashed serves the update session, with a record where a key is ambiguous: the Orangery is left alone. -/
theorem stagedFor_keeps {β : Type} (s : State) (c : OCmd) (g : State → β)
    (hjournal : ∀ t : State, g (t.journal 1 123 srcORANGERY noUnit .keyAmbiguous) = g t) (hsess : ∀ (t : State) u, g (t.setSess u) = g t) :
    g (s.stagedFor c) = g s := by
  unfold State.stagedFor
  split
  · rfl
  · split
    · exact hsess _ _
    · split
      · split
        · rfl
        · split
          · exact hsess _ _
          · exact (hsess _ _).trans (State.when_keeps g _ _ hjournal s)
      · rfl

theorem stagedFor_orang (s : State) (c : OCmd) : (s.stagedFor c).orang = s.orang :=
  stagedFor_keeps s c State.orang (fun t => State.journal_orang t _ _ _ _ _) fun _ _ => rfl

theorem reg_stagedFor (s : State) (c : OCmd) {a : Nat} (ha : offJournal a) : reg (s.stagedFor c) a = reg s a :=
  stagedFor_keeps s c (reg · a) (fun t => reg_journal t _ _ _ _ _ _ (by decide) ha) fun _ _ => rfl

/-- The code with which a running command ends (R175, R276, R418). -/
def endCode (s : State) (c : OCmd) : Code :=
  if c.aborted then .aborted else if c.poisoned then .poisoned else if c.op = 3 && lanesOn s = 0 then .internalFault else .ok

theorem endCode_val (s : State) (c : OCmd) : (endCode s c).val
    = if c.aborted then 0x0E else if c.poisoned then 7 else if c.op = 3 ∧ lanesOn s = 0 then Code.internalFault.val else 0 := by
  simp only [endCode, Bool.and_eq_true, decide_eq_true_eq, apply_ite Code.val]
  rfl

theorem endCode_ok (ha : c.aborted = false) (hp : c.poisoned = false) (hl : c.op = 3 → lanesOn s ≠ 0) : endCode s c = .ok := by
  have hlanes : ¬ (c.op = 3 ∧ lanesOn s = 0) := fun k => hl k.1 k.2
  simp [endCode, ha, hp, hlanes]

theorem exec_orangeryCmdDone (hc : s.orang.cmd = some c) : exec .orangeryCmdDone s
    = .next ((s.orangeryEnd c (endCode s c)).when (endCode s c = .ok) (·.stagedFor c)) := by
  show execOrangeryCmdDone s = _
  unfold execOrangeryCmdDone
  rw [hc]
  rfl

end

/-- The running command ends with its code, and the interface is free (R175). -/
theorem exec_orangeryCmdDone_ends {s : State} {c : OCmd} (hc : s.orang.cmd = some c) :
    ∃ t, exec .orangeryCmdDone s = .next t ∧ t.orang.cmd = none ∧ rb t ORANGERY_STAT_CMD_BUSY = false
      ∧ rf t ORANGERY_CMD_STAT_LAST_STATUS = (endCode s c).val
      ∧ digestOf t ORANGERY_DIGEST = digestOf (s.orangeryEnd c (endCode s c)) ORANGERY_DIGEST := by
  refine ⟨_, exec_orangeryCmdDone hc, ?_⟩
  obtain ⟨hcmd, hbusy, hstatus⟩ := orangeryEnd_frees s c (endCode s c)
  have horang : ((s.orangeryEnd c (endCode s c)).when (endCode s c = .ok) (·.stagedFor c)).orang = (s.orangeryEnd c (endCode s c)).orang :=
    State.when_keeps State.orang _ _ (stagedFor_orang · c) _
  have hreg {a : Nat} (ha : offJournal a) :
      reg ((s.orangeryEnd c (endCode s c)).when (endCode s c = .ok) (·.stagedFor c)) a = reg (s.orangeryEnd c (endCode s c)) a :=
    State.when_keeps (reg · a) _ _ (fun t => reg_stagedFor t c ha) _
  refine ⟨by rw [horang, hcmd], ?_, ?_, digestOf_congr fun i hi => hreg (.inl (show 0x400C0040 + 4 * i < 0x40300000 by omega))⟩
  · rw [rb, rf, hreg (.inl (by decide))]
    exact hbusy
  · rw [rf, hreg (.inl (by decide))]
    exact hstatus

/-! ### ABORT (R175, R420) -/

/-- An ABORT marks the command that runs; its own end follows. -/
theorem exec_orangeryAbort_running {s : State} {c : OCmd} (hc : s.orang.cmd = some c) (ha : c.aborted = false) :
    exec .orangeryAbort s = .next (({ s with orang := { s.orang with cmd := some { c with aborted := true } } }).cmdEnd orangeryIf 14 .ok) := by
  simp [exec, execOrangeryAbort, hc, ha]

theorem exec_orangeryAbort_idle {s : State} (hc : s.orang.cmd = none) :
    exec .orangeryAbort s = .next (s.orangeryRefuse 14 .refusedState) := by
  simp [exec, execOrangeryAbort, hc]

/-! ### REVOKE (R136, R175) -/

section
variable (s : State)

@[simp] theorem State.setRole_ldr (ch role : Nat) (b : Bool) : (s.setRole ch role b).ldr = s.ldr := by
  unfold State.setRole
  dsimp only
  split <;> rfl

theorem State.opFail_ldr (ch w : Nat) : (s.opFail ch w).ldr = s.ldr := by
  unfold State.opFail
  dsimp only
  split
  · rfl
  · simp only [apply_ite State.ldr, State.raise_ldr, State.setF_ldr, State.setRole_ldr, ite_self]
    rfl

theorem State.retain_ldr (x : LEnt) : (s.retain x).ldr = s.ldr := by
  unfold State.retain
  dsimp only
  split
  · rfl
  · split
    · rfl
    · exact State.journalDom_ldr _ _ _ _ _ _ _

/-- An extent that becomes invalid leaves the manifests. -/
theorem State.dropExt_ldr (e : Nat) : (s.dropExt e).ldr = s.ldr := by
  have hheld (l : List Wt) (t : State) : (t.each l fun s (w : Wt) => (s.opFail w.ch w.id).dropFrame w).ldr = t.ldr :=
    State.each_keeps State.ldr l (fun s (w : Wt) => (s.opFail w.ch w.id).dropFrame w) (fun u w => u.opFail_ldr w.ch w.id) t
  have hslots (l : List Nat) (b : Nat) (t : State) : (t.each l fun s i => ((match ltabOf s (b + i) with
      | some y => s.retain y | none => s).setLtab (b + i) none).setCtrSlot (b + i) 0).ldr = t.ldr := by
    refine State.each_keeps State.ldr _ _ (fun u i => ?_) t
    show State.ldr (match ltabOf u (b + i) with | some y => u.retain y | none => u) = u.ldr
    split
    · exact u.retain_ldr _
    · rfl
  have hstop (t : State) : (if rekeying t e then (t.setF ORANGERY_STAT_REKEY_ACTIVE 0).journalDom 3 154 srcORANGERY (extDom e) 0
      [BitVec.ofNat 8 (extRegion e)] else t).ldr = t.ldr := by
    split
    · exact State.journalDom_ldr _ _ _ _ _ _ _
    · rfl
  unfold State.dropExt
  dsimp only
  split
  · rfl
  · refine (hstop _).trans ?_
    dsimp only [State.setF_ldr]
    split
    · exact (hslots _ _ _).trans (hheld _ s)
    · exact hheld _ s

theorem State.dropManifest_ldr (d : Nat) : (s.dropManifest d).ldr = { s.ldr with force := s.ldr.force.filter (·.1 ≠ d) } :=
  State.each_keeps State.ldr _ _ State.dropExt_ldr _

/-- REVOKE takes the domain's manifest out of force. -/
theorem revokeDom_force (d : Nat) : (s.revokeDom d).ldr.force.find? (·.1 = d) = none := by
  unfold State.revokeDom
  rw [State.dropManifest_ldr]
  simp

theorem verified_revokeDom (d : Nat) : verified (s.revokeDom d) d = false := rb_setF_same _ _ _ (show 3 + 1 ≤ 32 by decide)

theorem verified_orangeryCmdEnd {d : Nat} (hd : d < 48) (op : Nat) (code : Code) (r : Nat) :
    verified (s.cmdEnd orangeryIf op code r) d = verified s d := by
  have hreg : reg (s.cmdEnd orangeryIf op code r) (GATE_DOM_STAT_VERIFIED d).addr = reg s (GATE_DOM_STAT_VERIFIED d).addr :=
    reg_orangeryCmdEnd _ _ _ _ (show 0x400C0024 ≠ 0x400A0100 + 8 * d by omega) (show 0x400C0028 ≠ 0x400A0100 + 8 * d by omega)
  rw [verified, rb, rf, hreg]
  rfl

end

theorem exec_revoke_accepted {s : State} {d : Nat} (h : revokeCode s d = none) :
    exec (.revoke d) s = .next ((s.revokeDom d).cmdEnd orangeryIf 5 .ok) := by
  simp only [exec, execRevoke, h]

/-- Settles O26: a running command ends with its code and frees the interface (`exec_orangeryCmdDone_ends`), a hash shows its root
(`orangeryEnd_hash_digest`), and a revoked manifest is out of force (`revokeDom_force`). -/
theorem orangeryEndsAndRevoke : Obligations.OrangeryEndsAndRevoke := by
  unfold Obligations.OrangeryEndsAndRevoke
  refine fun s => ⟨fun c hc ha => ?marks, fun hn => ⟨_, exec_orangeryAbort_idle hn, orangeryRefuse_shows s 14 (by decide)⟩,
    fun c o hc ho => ?ends, fun d hd hr => ?revokes⟩
  case marks =>
    exact ⟨_, exec_orangeryAbort_running hc ha, by rw [State.cmdEnd_orang], rf_cmdEnd_status _ orangeryIf_shows 14 .ok 0⟩
  case ends =>
    obtain ⟨t, ht, hcmd, hbusy, hstatus, hdigest⟩ := exec_orangeryCmdDone_ends hc
    refine ⟨t, ht, hcmd, hbusy, hstatus.trans (endCode_val s c), fun hop hlen hl ha hp => ?_⟩
    rw [hdigest, endCode_ok ha hp fun _ => hl, orangeryEnd_hash_digest ho hop hlen]
  case revokes =>
    refine ⟨_, exec_revoke_accepted hr, ?_, ?_, rf_cmdEnd_status _ orangeryIf_shows 5 .ok 0⟩
    · rw [State.cmdEnd_ldr, revokeDom_force]
    · rw [verified_orangeryCmdEnd _ hd, verified_revokeDom]

end Sys2Proof.Machine
end

section
/-! The completion of the shadow store's and the ledger's commands (R154, R160, R161, R165 to R170, R172, R175). -/

namespace Sys2Proof.Machine

section
variable {s : State}

/-! ### ORANGERY commands (R170, R175) -/

theorem exec_stageAlloc_allocated {h : Nat} {u : State} (hc : stageAllocCode s = none) (ha : s.stageAlloc (arg0 s) none = some (h, u)) :
    exec .stageAlloc s = .next (u.cmdEnd orangeryIf 1 .ok h) := by
  simp only [exec, execStageAlloc, hc, ha]

theorem exec_stageHash_starts {h : Nat} {o : StageObj} (hc : stageHashCode s h = none) (ho : stageOf s h = some o) :
    exec (.stageHash h) s = .next (s.startCmd ⟨3, h, arg0 s, arg2 s, false, o.poisoned⟩) := by
  simp only [exec, execStageHash, hc, ho]

theorem exec_stageFree_frees {h : Nat} (hc : stageFreeCode s h = none) :
    exec (.stageFree h) s = .next ((s.stageFree h).cmdEnd orangeryIf 4 .ok) := by
  simp only [exec, execStageFree, hc]

/-! ### Refetched leaves (R160, R161) -/

theorem exec_refetchDone_judges {d r l e : Nat} {data again : List Byte} (he : e = extIx d r)
    (hq : ((nextRefetch s (busOfDev s (devOfPart s (extOf s e).srcPart))).any fun q => q.ext = e && q.leaf = l) = true)
    (hread : leafRead (expectedHashes s e l) data again = true) :
    exec (.refetchDone d r l data again) s
      = .next ((s.judgeLeaf e l data again).busServed (busOfDev s (devOfPart s (extOf s e).srcPart)) 1) := by
  subst he
  refine congrArg Host.Outcome.next (if_pos ?_)
  rw [hq, hread, Bool.or_true]
  rfl

theorem exec_lostLeafRefetch_judges {d r l e : Nat} {data again : List Byte} (he : e = extIx d r) (hfull : s.orang.lost.length = 256)
    (hout : s.orang.lost.contains (e, l) = false) (hv : (extOf s e).valid = true) (hin : 4096 * l < (extOf s e).len)
    (hdev : extReadable s e = true) (hread : leafRead (expectedHashes s e l) data again = true) :
    exec (.lostLeafRefetch d r l data again) s = .next (s.judgeLeaf e l data again) := by
  subst he
  refine congrArg Host.Outcome.next (if_pos ?_)
  simp only [hfull, hout, hv, hin, hdev, hread, decide_true, Bool.not_false, Bool.or_true, Bool.and_self]

/-! ### Re-encryption (R151, R154) -/

/-- The re-encryption of extent `e` as it starts: a new epoch, the old one as its predecessor, the walk at the first block. -/
def State.rekeyBegin (s : State) (e : Nat) : State :=
  ((((s.newEpoch.2.setExt e { extOf s e with epoch := s.newEpoch.1, prev := (extOf s e).epoch }).raise ORANGERY_STAT_REKEY_ACTIVE).setF
    ORANGERY_REKEY_STAT_EXTENT e).setF ORANGERY_REKEY_STAT_BLOCK 0).raise ORANGERY_EVT_REKEY_START

theorem rekeyBegin_shows (s : State) (e : Nat) : rb (s.rekeyBegin e) ORANGERY_STAT_REKEY_ACTIVE = true
    ∧ (s.rekeyBegin e).orang.rekeyQ = s.orang.rekeyQ ∧ (extOf (s.rekeyBegin e) e).prev = (extOf s e).epoch := by
  refine ⟨?_, rfl, ?_⟩
  · unfold State.rekeyBegin
    rw [rb_raise_ne _ (by decide), rb_setF_ne _ _ _ _ (by decide), rb_setF_ne _ _ _ _ (by decide)]
    exact rb_raise_same _ rfl (by decide)
  · exact congrArg Ext.prev ((Sparse.get_put _ _ _ _ _).trans (if_pos rfl))

/-- With an epoch left, the first extent of the queue leaves it and is re-encrypted, with a record. -/
theorem exec_rekeyStart_begins {e : Nat} {q : List Nat} (hq : s.orang.rekeyQ = e :: q) (ha : rb s ORANGERY_STAT_REKEY_ACTIVE = false)
    (hm : lockdown s = false) (hep : epochsLeft s 1 = true) : exec .rekeyStart s
      = .next ((({ s with orang := { s.orang with rekeyQ := q } } : State).rekeyBegin e).journalDom 3 154 srcORANGERY (extDom e) 0
        [BitVec.ofNat 8 (extRegion e)]) := by
  have hepq : epochsLeft { s with orang := { s.orang with rekeyQ := q } } 1 = true := hep
  simp only [exec, execRekeyStart, hq, ha, hm, hepq, Bool.or_self, Bool.not_true, Bool.false_eq_true, if_false]
  rfl

theorem exec_rekeyDone_ends (ha : rb s ORANGERY_STAT_REKEY_ACTIVE = true)
    (hb : (extOf s (rekeyExt s)).len / 4096 ≤ rf s ORANGERY_REKEY_STAT_BLOCK) : exec .rekeyDone s
      = .next ((((s.setExt (rekeyExt s) { extOf s (rekeyExt s) with prev := 0 }).setF ORANGERY_STAT_REKEY_ACTIVE 0).raise
        ORANGERY_EVT_REKEY_DONE).journalDom 3 154 srcORANGERY (extDom (rekeyExt s)) 0 [BitVec.ofNat 8 (extRegion (rekeyExt s))]) :=
  congrArg Host.Outcome.next ((if_pos ha).trans (if_pos hb))

/-- The walk goes on to the next block, and writes held on the one passed are looked at again. -/
theorem exec_rekeyBlockPassed_advances (ha : rb s ORANGERY_STAT_REKEY_ACTIVE = true)
    (hb : rf s ORANGERY_REKEY_STAT_BLOCK < (extOf s (rekeyExt s)).len / 4096) :
    ∃ u : State, exec .rekeyBlockPassed s = .next (u.setF ORANGERY_REKEY_STAT_BLOCK (rf s ORANGERY_REKEY_STAT_BLOCK + 1)).releaseHeld :=
  ⟨_, congrArg Host.Outcome.next ((if_pos ha).trans (if_pos hb))⟩

/-! ### The ledger (R165, R166, R168, R169) -/

/-- The replay adopts the entries of the domains in force and lets go of the write-throughs that waited for it, unless it stops. -/
theorem exec_ledgerReplayDone_adopts {h0 h1 : List Byte} {u : State} (hl : ledger s = 1) (hd : devLive s (ledgerDev s) = true)
    (hu : u = (s.ledgerReplay h0 h1).each ((s.ledgerReplay h0 h1).ldr.force.map (·.1)) State.adoptEntries) (hs : ledger u ≠ 6) :
    exec (.ledgerReplayDone h0 h1) s
      = .next { u with orang := { u.orang with wts := u.orang.wts.map fun (w : Wt) => { w with held := false } } }.ledgerCheck := by
  subst hu
  exact congrArg Host.Outcome.next ((if_pos (by rw [hl, hd]; rfl)).trans (if_neg hs))

theorem exec_ledgerAppendDone_written {code : Nat} (hl : ledger s = 2) (hf : ledgerFull s = false) (hd : devFree s (ledgerDev s) 1 = true)
    (hb : busServes s (busOfDev s (ledgerDev s)) 2 = true) (ho : (devX s (ledgerDev s)).other ≠ 1) :
    exec (.ledgerAppendDone 1 true code false) s = .next (s.writeEntryOk.busServed (busOfDev s (ledgerDev s)) 2) := by
  simp [exec, execLedgerAppendDone, State.ledgerEnd, hl, hf, hd, hb, ho]

theorem exec_ledgerSwitchRetry_again (hl : ledger s = 2) (hr : s.orang.retry = true) : exec .ledgerSwitchRetry s
    = .next (({ s with orang := { s.orang with retry := false } }).setF ORANGERY_STAT_LEDGER 4) := by
  simp [exec, execLedgerSwitchRetry, hl, hr]

/-! ### The re-verifier (R172) -/

/-- Without SHADOW_EN, a leaf that can be checked is judged and the re-verifier moves on. -/
theorem exec_rvLeaf_judges {d r l e dev : Nat} {data again : List Byte} (he : e = extIx d r) (hdev : dev = devOfPart s (extOf s e).srcPart)
    (hen : rb s ORANGERY_RV_CTRL_EN = true) (hrate : rf s ORANGERY_RV_CTRL_RATE ≠ 0) (hat : rvAt s = some (d, r, l)) (hl : lanesOn s ≠ 0)
    (hw : (s.orang.wts.any fun w => w.ext = e && (blocksOf w.off w.len).contains l) = false) (hi : devIdle s dev = true)
    (hb : busServes s (busOfDev s dev) 4 = true) (hread : leafRead (expectedHashes s e l) data again = true) {u : State}
    (hu : u = (s.busServed (busOfDev s dev) 4).rvJudge d r l data again) (hsh : rb u ORANGERY_RV_CTRL_SHADOW_EN = false) :
    exec (.rvLeaf d r l data again false false) s = .next (u.rvAdvance d r l) := by
  subst he hdev hu
  simp only [exec, execRvLeaf, hen, hrate, hat, hl, hw, hi, hb, hread, hsh, ne_eq, not_false_eq_true, decide_true, Bool.and_self, Bool.not_true,
    Bool.or_self, Bool.false_eq_true, if_true, if_false]

end

/-- Settles O59: each clause is the rule of its command above. -/
theorem storeCommandsComplete : Obligations.StoreCommandsComplete := by
  unfold Obligations.StoreCommandsComplete
  refine fun s => ⟨fun h0 h1 u => exec_ledgerReplayDone_adopts, fun h u => exec_stageAlloc_allocated, ?write, fun h o => exec_stageHash_starts,
    fun h => exec_stageFree_frees, fun d => exec_revoke_accepted, fun c => exec_orangeryAbort_running, ?ends,
    ?refetch, ?lost, ?start, exec_rekeyDone_ends, fun code => exec_ledgerAppendDone_written, exec_ledgerSwitchRetry_again, ?leaf, ?block⟩
  case write => exact fun h o hc ho hp => execStageWrite_ok ho hc hp
  case ends => exact fun c hc ha hp hl => exec_orangeryCmdDone_ok hc ha hp fun hop => hl.resolve_left fun hne => hne hop
  case refetch => exact fun d r l data again e he _ hq hread => exec_refetchDone_judges he hq hread
  case lost =>
    exact fun d r l data again e he hfull hout hv _ hin hdev hread => exec_lostLeafRefetch_judges he hfull hout hv hin hdev hread
  case start =>
    intro e q hq _ ha hm hep
    obtain ⟨hactive, hqueue, hprev⟩ := rekeyBegin_shows { s with orang := { s.orang with rekeyQ := q } } e
    refine ⟨_, exec_rekeyStart_begins hq ha hm hep, ?_, ?_, ?_⟩
    · rw [State.journalDom, rb_journalD _ _ _ _ _ _ _ _ _ (by decide) (.inl (by decide)), hactive]
    · rw [State.journalDom_orang, hqueue]
    · rw [extOf, State.journalDom_orang, ← extOf, hprev]
      rfl
  case leaf =>
    exact fun d r l data again e dev he hdev hen hrate hat hl hw hi hb hread u =>
      exec_rvLeaf_judges he hdev hen hrate hat hl hw hi hb hread
  case block =>
    intro ha hb
    obtain ⟨u, hu⟩ := exec_rekeyBlockPassed_advances ha hb
    exact ⟨_, hu, _, rfl, rf_setF_same _ _ _ (by decide)⟩

end Sys2Proof.Machine
end

section
/-! The registers of a channel port: which fields lie apart, what its counters leave, and the working state behind them (R193, R211). -/

namespace Sys2Proof.Machine

variable (s : State) {ch a : Nat}

/-! ### Fields -/

/-- A write of one bit of a register, as another bit or the same one shows it. -/
theorem rb_setF_bit {i j : Nat} (v : Nat) (hi : i < 32) (hj : j < 32) :
    rb (s.setF ⟨a, i, 1⟩ v) ⟨a, j, 1⟩ = if j = i then v % 2 != 0 else rb s ⟨a, j, 1⟩ := by
  split
  · next h => subst h; exact rb_setF_same s ⟨a, j, 1⟩ v hi
  · next h => exact rb_setF_ne s ⟨a, i, 1⟩ ⟨a, j, 1⟩ v (.inr (show (j + 1 ≤ i ∨ i + 1 ≤ j) ∧ j + 1 ≤ 32 by omega))

/-- A counter leaves a field beside its words and its SAT event. -/
theorem rf_bump_apart {lo hi src : Nat} {e g : Fld} (hlo : lo ≠ g.addr) (hhi : hi ≠ g.addr) (he : e.apart g) (hj : offJournal g.addr) :
    rf (s.bump lo hi e src) g = rf s g := by
  have hctr (n : Nat) : rf (s.setCtr lo hi n) g = rf s g := by unfold rf; rw [reg_setCtr _ _ _ _ _ hlo hhi]
  unfold State.bump State.bumpN State.raise
  dsimp only
  split
  · rw [rf_journal _ _ _ _ _ _ _ (by decide) hj, rf_setF_ne _ _ _ _ he, rf_setF_ne _ _ _ _ (.inl hhi), hctr]
  · exact hctr _

/-! ### The window of a port -/

/-- The address lies outside the window of channel `ch`. -/
abbrev offPort (ch a : Nat) : Prop := a < 0x40200000 + 0x400 * ch ∨ 0x40200400 + 0x400 * ch ≤ a

theorem portRegs_ne (h : offPort ch a) : CH_PORT_STAT ch ≠ a ∧ CH_PORT_EVT ch ≠ a ∧ CH_ALERT_CTL ch ≠ a ∧ CH_ESPI_STAT ch ≠ a
    ∧ CH_LATE_LO ch ≠ a ∧ CH_LATE_HI ch ≠ a ∧ CH_DISAGREE_LO ch ≠ a ∧ CH_DISAGREE_HI ch ≠ a ∧ CH_TR_SREG ch ≠ a := by
  unfold CH_PORT_STAT CH_PORT_EVT CH_ALERT_CTL CH_ESPI_STAT CH_LATE_LO CH_LATE_HI CH_DISAGREE_LO CH_DISAGREE_HI CH_TR_SREG
  omega

theorem portEvt_ne (ch : Nat) : CH_LATE_LO ch ≠ CH_PORT_EVT ch ∧ CH_LATE_HI ch ≠ CH_PORT_EVT ch ∧ CH_PORT_STAT ch ≠ CH_PORT_EVT ch
    ∧ CH_ESPI_STAT ch ≠ CH_PORT_EVT ch ∧ CH_ALERT_CTL ch ≠ CH_PORT_EVT ch ∧ CH_TR_SREG ch ≠ CH_PORT_EVT ch := by
  unfold CH_PORT_STAT CH_PORT_EVT CH_ALERT_CTL CH_ESPI_STAT CH_LATE_LO CH_LATE_HI CH_TR_SREG
  omega

theorem portStat_ne (ch : Nat) : CH_PORT_EVT ch ≠ CH_PORT_STAT ch ∧ CH_ESPI_STAT ch ≠ CH_PORT_STAT ch ∧ CH_ALERT_CTL ch ≠ CH_PORT_STAT ch
    ∧ CH_TR_SREG ch ≠ CH_PORT_STAT ch := by
  unfold CH_PORT_STAT CH_PORT_EVT CH_ALERT_CTL CH_ESPI_STAT CH_TR_SREG
  omega

/-- The windows of the 96 ports end below the journal. -/
theorem offJournal_of_port (hch : ch < 96) : offJournal (CH_PORT_STAT ch) ∧ offJournal (CH_PORT_EVT ch) := by
  unfold offJournal CH_PORT_STAT CH_PORT_EVT
  omega

/-- The registers of SYSCTL lie below every port. -/
theorem offPort_of_sysctl (ch : Nat) (h : a < 0x40200000) : offPort ch a := .inl (by omega)

theorem portLive_lt {s : State} (h : portLive s ch = true) : ch < 96 := by
  simp only [portLive, Bool.and_eq_true, decide_eq_true_eq] at h
  obtain ⟨⟨⟨⟨hch, -⟩, -⟩, -⟩, -⟩ := h
  exact hch

/-! ### What a channel keeps beside its registers -/

theorem chanOf_setChan (c : Chan) : chanOf (s.setChan ch c) ch = c := by
  simp [chanOf, State.setChan, Sparse.get_put]

theorem chanOf_modChan (f : Chan → Chan) : chanOf (s.modChan ch f) ch = f (chanOf s ch) := chanOf_setChan s _

theorem chanOf_congr {s t : State} (h : t.chans = s.chans) (ch : Nat) : chanOf t ch = chanOf s ch := by simp [chanOf, h]

@[simp] theorem reg_modChan (f : Chan → Chan) : reg (s.modChan ch f) a = reg s a := rfl
@[simp] theorem rf_modChan (f : Chan → Chan) (g : Fld) : rf (s.modChan ch f) g = rf s g := rfl
@[simp] theorem rb_modChan (f : Chan → Chan) (g : Fld) : rb (s.modChan ch f) g = rb s g := rfl
@[simp] theorem State.modChan_orang (f : Chan → Chan) : (s.modChan ch f).orang = s.orang := rfl

end Sys2Proof.Machine
end

section
/-! Late lines (R193, R22): counted, the plane isolated on the 16th in succession, and repaired from the other plane where they fail (R159). -/

namespace Sys2Proof.Machine

variable (s : State) {ch x : Nat}

/-! ### The state of a plane as SYSCTL_PLANE_STAT shows it -/

theorem planeFld_addr (x : Nat) : (planeFld x).addr = SYSCTL_PLANE_STAT := by
  unfold planeFld
  split <;> rfl

theorem planeSt_congr {s t : State} (h : reg t SYSCTL_PLANE_STAT = reg s SYSCTL_PLANE_STAT) (x : Nat) : planeSt t x = planeSt s x := by
  rw [planeSt, rf, planeFld_addr, h, ← planeFld_addr x]
  rfl

/-! ### Lines that come late -/

theorem lateOf_setLate (n : Nat) : lateOf (s.setLate x n) x = n := by
  unfold lateOf State.setLate
  split <;> rfl

theorem lateOf_congr {s t : State} (ha : t.lateA = s.lateA) (hb : t.lateB = s.lateB) (x : Nat) : lateOf t x = lateOf s x := by
  simp [lateOf, ha, hb]

@[simp] theorem reg_setLate (n a : Nat) : reg (s.setLate x n) a = reg s a := by
  unfold State.setLate
  split <;> rfl

@[simp] theorem State.setLate_orang (n : Nat) : (s.setLate x n).orang = s.orang := by
  unfold State.setLate
  split <;> rfl

/-- A late line as its port shows and counts it. -/
def State.lateShown (s : State) (ch : Nat) : State :=
  (s.raise (CH_PORT_EVT_LATE ch)).bump (CH_LATE_LO ch) (CH_LATE_HI ch) (CH_PORT_EVT_SAT ch) srcCHAN

theorem lateOf_lateShown (x : Nat) : lateOf (s.lateShown ch) x = lateOf s x :=
  lateOf_congr (by simp [State.lateShown]) (by simp [State.lateShown]) x

theorem lateShown_orang : (s.lateShown ch).orang = s.orang := by simp [State.lateShown]

theorem reg_lateShown {a : Nat} (ha : offPort ch a) (hj : offJournal a) : reg (s.lateShown ch) a = reg s a := by
  obtain ⟨-, hevt, -, -, hlo, hhi, -, -, -⟩ := portRegs_ne ha
  unfold State.lateShown State.raise
  rw [reg_bump _ _ _ _ _ _ hlo hhi hevt hj, reg_setF_ne _ _ _ _ hevt]

theorem rb_lateShown (hch : ch < 96) : rb (s.lateShown ch) (CH_PORT_EVT_LATE ch) = true := by
  obtain ⟨hlo, hhi, -⟩ := portEvt_ne ch
  have hkept : rf (s.lateShown ch) (CH_PORT_EVT_LATE ch) = rf (s.raise (CH_PORT_EVT_LATE ch)) (CH_PORT_EVT_LATE ch) :=
    rf_bump_apart _ hlo hhi (.inr (show (4 + 1 ≤ 10 ∨ 10 + 1 ≤ 4) ∧ 4 + 1 ≤ 32 by decide)) (offJournal_of_port hch).2
  exact (congrArg (· != 0) hkept).trans (rb_raise_same s rfl (show 4 + 1 ≤ 32 by decide))

theorem planeSt_lateShown (x : Nat) : planeSt (s.lateShown ch) x = planeSt s x :=
  planeSt_congr (reg_lateShown s (offPort_of_sysctl ch (by decide)) (.inl (by decide))) x

theorem lateLines_single (x : Nat) : s.lateLines [x]
    = if 16 ≤ lateOf s x + 1 then (s.setLate x 0).isolate x else s.setLate x (lateOf s x + 1) := rfl

theorem exec_lineLate (hp : portLive s ch = true) (hx : x < 2) (hs : serving s x = true) (ho : serving s (1 - x) = true) :
    exec (.lineLate ch x) s = .next ((s.lateShown ch).lateLines [x]) := by
  simp only [exec, execLineLate, hp, hx, hs, ho, decide_true, Bool.and_self, if_true]
  rfl

/-- An isolation beside a serving plane writes SYSCTL_PLANE_STAT and the journal. -/
theorem reg_isolate_of_pair {a : Nat} (hx : x < 2) (hs : planeSt s x = plSERVING) (ho : planeSt s (1 - x) = plSERVING)
    (ha : SYSCTL_PLANE_STAT ≠ a) (hj : offJournal a) : reg (s.isolate x) a = reg s a := by
  have hfld : (planeFld x).addr ≠ a := planeFld_addr x ▸ ha
  rw [isolate_of_pair s hx hs ho, reg, State.sameCycle_regs, ← reg, reg_journal _ _ _ _ _ _ _ (by decide) hj]
  unfold State.setPlaneSt State.setB State.raise
  rw [reg_setF_ne _ _ _ _ ha, reg_setF_ne _ _ _ _ ha, reg_setF_ne _ _ _ _ hfld]

theorem lateOf_isolate_of_pair (hx : x < 2) (hs : planeSt s x = plSERVING) (ho : planeSt s (1 - x) = plSERVING) :
    lateOf (s.isolate x) x = lateOf s x := by
  rw [isolate_of_pair s hx hs ho]
  exact lateOf_congr (by simp [State.setPlaneSt]) (by simp [State.setPlaneSt]) x

section
variable (hp : portLive s ch = true) (hx : x < 2) (hs : serving s x = true) (ho : serving s (1 - x) = true)
include hp hx hs ho

/-- Fewer than sixteen late lines in succession are counted. -/
theorem exec_lineLate_counted (hl : lateOf s x < 15) : ∃ t, exec (.lineLate ch x) s = .next t ∧ rb t (CH_PORT_EVT_LATE ch) = true
    ∧ lateOf t x = lateOf s x + 1 ∧ planeSt t x = plSERVING ∧ onlyPort ch s t ∧ t.orang = s.orang := by
  have ht : (s.lateShown ch).lateLines [x] = (s.lateShown ch).setLate x (lateOf s x + 1) := by
    rw [lateLines_single, lateOf_lateShown, if_neg (by omega)]
  have hreg (a : Nat) : reg ((s.lateShown ch).setLate x (lateOf s x + 1)) a = reg (s.lateShown ch) a := reg_setLate _ _ _
  have hplane : planeSt ((s.lateShown ch).setLate x (lateOf s x + 1)) x = planeSt s x :=
    (planeSt_congr (hreg _) x).trans (planeSt_lateShown s x)
  refine ⟨_, exec_lineLate s hp hx hs ho, ?_⟩
  rw [ht]
  refine ⟨?_, lateOf_setLate _ _, hplane.trans (of_decide_eq_true hs), fun a ha hj => ?_, ?_⟩
  · rw [← rb_lateShown s (portLive_lt hp), rb, rf, hreg]
    rfl
  · rw [hreg, reg_lateShown s ha hj]
  · rw [State.setLate_orang, lateShown_orang]

/-- The sixteenth late line in succession isolates the plane, and the other one serves on. -/
theorem exec_lineLate_isolates (hl : 15 ≤ lateOf s x) : ∃ t, exec (.lineLate ch x) s = .next t ∧ rb t (CH_PORT_EVT_LATE ch) = true
    ∧ lateOf t x = 0 ∧ planeSt t x = plISOLATED ∧ planeSt t (1 - x) = plSERVING ∧ t.orang = s.orang := by
  have ht : (s.lateShown ch).lateLines [x] = ((s.lateShown ch).setLate x 0).isolate x := by
    rw [lateLines_single, lateOf_lateShown, if_pos (by omega)]
  have hplane (y : Nat) : planeSt ((s.lateShown ch).setLate x 0) y = planeSt s y :=
    (planeSt_congr (reg_setLate _ _ _) y).trans (planeSt_lateShown s y)
  have hs' := (hplane x).trans (of_decide_eq_true hs)
  have ho' := (hplane (1 - x)).trans (of_decide_eq_true ho)
  obtain ⟨hout, hstays, horang⟩ := isolate_shows _ hx hs' ho'
  have hevt : SYSCTL_PLANE_STAT ≠ CH_PORT_EVT ch := by
    unfold SYSCTL_PLANE_STAT CH_PORT_EVT
    omega
  refine ⟨_, exec_lineLate s hp hx hs ho, ?_⟩
  rw [ht]
  refine ⟨?_, ?_, hout, hstays, ?_⟩
  · rw [← rb_lateShown s (portLive_lt hp), rb, rf]
    exact congrArg (fun w : Word => bitsAt w.toNat 4 1 != 0) ((reg_isolate_of_pair _ hx hs' ho' hevt (offJournal_of_port (portLive_lt hp)).2).trans
      (reg_setLate _ _ _))
  · rw [lateOf_isolate_of_pair _ hx hs' ho', lateOf_setLate]
  · rw [horang, State.setLate_orang, lateShown_orang]

end

/-! ### A late line that fails (R159) -/

/-- What the planes hold rests on the shadow store alone. -/
theorem planeByte_congr {s t : State} (h : t.orang = s.orang) (x e off : Nat) : planeByte t x e off = planeByte s x e off := by
  simp [planeByte, planeByteIn, planeOf, extOf, inHot, h]

theorem planeOf_congr {s t : State} (h : t.orang = s.orang) (x : Nat) : planeOf t x = planeOf s x := by simp [planeOf, h]

theorem bucketUp_orang (c : Nat) : (s.bucketUp c).orang = s.orang := by
  unfold State.bucketUp
  dsimp only
  split
  · split <;> simp
  · simp

theorem uncorrectable_orang (c m r w : Nat) : (s.uncorrectable c m r w).orang = s.orang := by
  have hswept : (s.when (scrubbed s c) (·.sweepErr c)).orang = s.orang := State.when_keeps State.orang _ (·.sweepErr c) (fun _ => rfl) s
  simp [State.uncorrectable, State.memBump, State.lastErr, hswept]

theorem planeMacFail_orang (x : Nat) : (s.planeMacFail x).orang = s.orang := by
  rw [State.planeMacFail, State.macFailure, bucketUp_orang, uncorrectable_orang, State.countMac, State.bump_orang]

/-- A byte that is written to a store at one of successive places. -/
theorem get_foldl_put (bs : List Byte) (m : List Host.Cell) (a k i : Nat) :
    Sparse.get dramFill ((bs.zipIdx k).foldl (fun mm p => Sparse.put dramFill mm (a + p.2) p.1) m) (a + i)
      = if k ≤ i ∧ i < k + bs.length then bs.getD (i - k) 0 else Sparse.get dramFill m (a + i) := by
  induction bs generalizing m k with
  | nil => simp only [List.zipIdx_nil, List.foldl_nil, List.length_nil]; rw [if_neg (by omega)]
  | cons b bs ih =>
    simp only [List.zipIdx_cons, List.foldl_cons, List.length_cons]
    rw [ih, Sparse.get_put]
    by_cases hk : i = k
    · subst hk
      rw [if_neg (by omega), if_pos rfl, if_pos (by omega), Nat.sub_self]
      rfl
    · rw [if_neg (show a + i ≠ a + k by omega)]
      by_cases hin : k + 1 ≤ i ∧ i < k + 1 + bs.length
      · rw [if_pos hin, if_pos (by omega), show i - k = i - (k + 1) + 1 by omega, List.getD_cons_succ]
      · rw [if_neg hin, if_neg (by omega)]

/-- What a line of 64 bytes leaves in the DRAM of a plane and, where it is written there too, in its hot tier. -/
theorem get_putBytes (m : PlaneMem) {bs : List Byte} (a : Nat) {i : Nat} (hi : i < bs.length) (hot : Bool) :
    Sparse.get dramFill (m.putBytes a bs hot).mem (a + i) = bs.getD i 0
      ∧ (hot = true → Sparse.get dramFill (m.putBytes a bs hot).hot (a + i) = bs.getD i 0) := by
  have h (store : List Host.Cell) := (get_foldl_put bs store a 0 i).trans (if_pos (by omega))
  refine ⟨h m.mem, fun hhot => ?_⟩
  subst hhot
  exact h m.hot

/-- A line of the shadow lies in one granule of 4 KiB, so that its bytes are all pinned or none is. -/
theorem inHot_line {e off i : Nat} (hb : (extOf s e).base % 64 = 0) (hi : i < 64) :
    inHot s e (off / 64 * 64 + i) = ((extOf s e).pinned && s.orang.grans.contains (((extOf s e).base + off / 64 * 64) / 4096)) := by
  unfold inHot
  rw [show ((extOf s e).base + (off / 64 * 64 + i)) / 4096 = ((extOf s e).base + off / 64 * 64) / 4096 by omega]

/-- A plane that is given other stores shows what these hold. -/
theorem planeByte_setPlane (m : PlaneMem) (e off : Nat) : planeByte (s.setPlane x m) x e off
    = Sparse.get dramFill (if inHot s e off then m.hot else m.mem) ((extOf s e).base + off) := by
  have hext : extOf (s.setPlane x m) e = extOf s e := by unfold State.setPlane; split <;> rfl
  have hhot : inHot (s.setPlane x m) e off = inHot s e off := by unfold State.setPlane; split <;> rfl
  rw [planeByte, planeByteIn, planeOf_setPlane, hhot, hext]

/-- A line that is mirrored holds what the other plane holds (R159). -/
theorem planeByte_mirrorLine {e off i : Nat} (hb : (extOf s e).base % 64 = 0) (hi : i < 64) :
    planeByte (s.mirrorLine x e off) x e (off / 64 * 64 + i) = planeByte s (1 - x) e (off / 64 * 64 + i) := by
  have hbyte : ((List.range 64).map fun i => planeByte s (1 - x) e (off / 64 * 64 + i)).getD i 0
      = planeByte s (1 - x) e (off / 64 * 64 + i) := by simp [List.getD, hi]
  obtain ⟨hmem, hhot⟩ := get_putBytes (planeOf s x) ((extOf s e).base + off / 64 * 64)
    (bs := (List.range 64).map fun i => planeByte s (1 - x) e (off / 64 * 64 + i)) (i := i) (by simpa using hi)
    (s.orang.grans.contains (((extOf s e).base + off / 64 * 64) / 4096))
  unfold State.mirrorLine
  dsimp only
  rw [planeByte_congr (State.bump_orang _ _ _ _ _), planeByte_setPlane, inHot_line s hb hi, ← Nat.add_assoc]
  split
  · next hin => exact (hhot (Bool.and_eq_true_iff.1 hin).2).trans hbyte
  · exact hmem.trans hbyte

theorem planeOf_mirrorLine_fellow (hx : x < 2) (e off : Nat) : planeOf (s.mirrorLine x e off) (1 - x) = planeOf s (1 - x) := by
  unfold State.mirrorLine
  dsimp only
  rw [planeOf_congr (State.bump_orang _ _ _ _ _), planeOf_setPlane_fellow s hx]

/-- A line of DRAM that failed in one plane: the failure is counted and the line mirrored. -/
theorem repairLine_dram (e off : Nat) (o : LineObs) : s.repairLine x e off false o = s.sameCycle fun s => (s.planeMacFail x).mirrorLine x e off := by
  simp [State.repairLine, State.when]

/-- A line that arrived late and failed, as its port counts it. -/
def State.disagreeShown (s : State) (ch : Nat) : State :=
  s.bump (CH_DISAGREE_LO ch) (CH_DISAGREE_HI ch) (CH_PORT_EVT_SAT ch) srcCHAN

theorem planeSt_disagreeShown (x : Nat) : planeSt (s.disagreeShown ch) x = planeSt s x := by
  obtain ⟨-, hevt, -, -, -, -, hlo, hhi, -⟩ := portRegs_ne (offPort_of_sysctl ch (show SYSCTL_PLANE_STAT < 0x40200000 by decide))
  exact planeSt_congr (reg_bump _ _ _ _ _ _ hlo hhi hevt (.inl (by decide))) x

/-- What is observed of a late line of plane `x` that failed. -/
def lateFail (x : Nat) : LineObs := { obsOf [] 0 with failA := x = 0, failB := x = 1 }

theorem exec_lateLineArrival_repaired {d r off : Nat} (hx : x < 2) (hch : ch < 96) (hs : serving s x = true) (ho : serving s (1 - x) = true)
    (hv : (extOf s (extIx d r)).valid = true) (hoff : off < (extOf s (extIx d r)).len) :
    exec (.lateLineArrival ch x d r off true) s = .next ((s.disagreeShown ch).repairLine x (extIx d r) off false (lateFail x)) := by
  have ho' : serving (s.disagreeShown ch) (1 - x) = true := by
    rw [serving, planeSt_disagreeShown]
    exact ho
  simp only [exec, execLateLineArrival, hch, hx, hs, hv, hoff, decide_true, Bool.and_self, if_true]
  exact congrArg Host.Outcome.next (if_pos ho')

/-- The plane whose late line failed takes it from the other one, which keeps what it holds. -/
theorem exec_lateLineArrival_mirrors {d r off : Nat} (hx : x < 2) (hch : ch < 96) (hs : serving s x = true) (ho : serving s (1 - x) = true)
    (hv : (extOf s (extIx d r)).valid = true) (hb : (extOf s (extIx d r)).base % 64 = 0) (hoff : off < (extOf s (extIx d r)).len) :
    ∃ t, exec (.lateLineArrival ch x d r off true) s = .next t
      ∧ (∀ i, i < 64 → planeByte t x (extIx d r) (off / 64 * 64 + i) = planeByte s (1 - x) (extIx d r) (off / 64 * 64 + i))
      ∧ planeOf t (1 - x) = planeOf s (1 - x) := by
  have hshown : ((s.disagreeShown ch).planeMacFail x).orang = s.orang := by
    rw [planeMacFail_orang, State.disagreeShown, State.bump_orang]
  refine ⟨_, exec_lateLineArrival_repaired s hx hch hs ho hv hoff, fun i hi => ?_, ?_⟩
  all_goals rw [repairLine_dram]
  · rw [planeByte_congr (State.sameCycle_orang _ _), planeByte_mirrorLine _ (by rw [extOf, hshown]; exact hb) hi, planeByte_congr hshown]
  · rw [planeOf_congr (State.sameCycle_orang _ _), planeOf_mirrorLine_fellow _ hx, planeOf_congr hshown]

theorem exec_lateLineArrival_sound (d r off : Nat) : exec (.lateLineArrival ch x d r off false) s = .next s := by
  simp [exec, execLateLineArrival]

end Sys2Proof.Machine
end

section
/-! The other events at a channel port: alerts (R202, R212), the end of an operation (R194), front ends (R179, R418) and resets (R205). -/

namespace Sys2Proof.Machine

variable (s : State) {ch : Nat}

/-! ### Alerts (R202, R212) -/

theorem exec_alertPulseEnd_pulse (hch : ch < 96) (hm : rf s (CH_PORT_CFG_ALERT_MODE ch) = 1) (he : rf s (CH_PORT_CFG_MODE ch) ≠ modeESPI) :
    exec (.alertPulseEnd ch) s = .next (s.setF (CH_PORT_STAT_ALERT_OUT ch) 0) := by
  simp [exec, execAlertPulseEnd, hch, hm, he]

/-- The alert is cleared, and in level mode deasserted. -/
def State.alertCleared (s : State) (ch : Nat) : State :=
  (s.setF (CH_ALERT_CTL_CAUSE ch) 0).when (rf s (CH_PORT_CFG_ALERT_MODE ch) = 0 && rf s (CH_PORT_CFG_MODE ch) ≠ modeESPI)
    (·.setF (CH_PORT_STAT_ALERT_OUT ch) 0)

theorem portCfg_ne (ch : Nat) : CH_ALERT_CTL ch ≠ CH_PORT_CFG ch := by
  unfold CH_ALERT_CTL CH_PORT_CFG
  omega

theorem exec_alertClear_clears (hch : ch < 96) {w : Nat} (hw : w.testBit 0 = true) : exec (.alertClear ch w) s = .next (s.alertCleared ch) := by
  have hmode : rf (s.setF (CH_ALERT_CTL_CAUSE ch) 0) (CH_PORT_CFG_ALERT_MODE ch) = rf s (CH_PORT_CFG_ALERT_MODE ch) :=
    rf_setF_ne _ _ _ _ (.inl (portCfg_ne ch))
  have hespi : rf (s.setF (CH_ALERT_CTL_CAUSE ch) 0) (CH_PORT_CFG_MODE ch) = rf s (CH_PORT_CFG_MODE ch) :=
    rf_setF_ne _ _ _ _ (.inl (portCfg_ne ch))
  simp only [exec, execAlertClear, hch, hw, hmode, hespi, decide_true, Bool.and_self, if_true]
  rfl

theorem alertCleared_shows : rf (s.alertCleared ch) (CH_ALERT_CTL_CAUSE ch) = 0 ∧ onlyPort ch s (s.alertCleared ch)
    ∧ (rf s (CH_PORT_CFG_MODE ch) ≠ modeESPI → rf s (CH_PORT_CFG_ALERT_MODE ch) = 0 →
      rb (s.alertCleared ch) (CH_PORT_STAT_ALERT_OUT ch) = false) := by
  have hcause : (CH_PORT_STAT_ALERT_OUT ch).addr ≠ (CH_ALERT_CTL_CAUSE ch).addr := by
    show CH_PORT_STAT ch ≠ CH_ALERT_CTL ch
    unfold CH_PORT_STAT CH_ALERT_CTL
    omega
  refine ⟨?_, fun a ha _ => ?_, fun he hm => ?_⟩
  · unfold State.alertCleared
    rw [State.when_keeps (rf · (CH_ALERT_CTL_CAUSE ch)) _ _ fun u => rf_setF_ne _ _ _ _ (.inl hcause)]
    exact rf_setF_same s _ _ (show 8 + 8 ≤ 32 by decide)
  · obtain ⟨hstat, -, hctl, -⟩ := portRegs_ne ha
    unfold State.alertCleared
    rw [State.when_keeps (reg · a) _ _ fun u => reg_setF_ne _ _ _ _ hstat, reg_setF_ne _ _ _ _ hctl]
  · simp only [State.alertCleared, hm, he, ne_eq, not_false_eq_true, decide_true, Bool.and_self, State.when, if_true]
    exact rb_setF_same _ _ _ (show 15 + 1 ≤ 32 by decide)

/-! ### The end of operations (R194) -/

/-- The emulated minimum of every operation that is not suspended has passed. -/
def State.minPassed (s : State) (ch : Nat) : State :=
  s.modChan ch fun c => { c with ops := c.ops.map fun (o : RunOp) => { o with minDone := o.minDone || !o.suspended } }

theorem exec_wipClear_port (hch : ch < 96) : exec (.wipClear ch) s = .next ((s.minPassed ch).opEnd ch) := by
  simp only [exec, execWipClear, hch, if_true]
  rfl

/-- The operation has passed its emulated minimum and its completion point, and is not suspended. -/
def RunOp.over (o : RunOp) : Bool := o.minDone && o.compDone && !o.suspended

/-- Operations that are all over end with WIP and WEL clear, and WRITE_DONE set for a program or erase among them. -/
theorem opEnd_allOver (hne : (chanOf s ch).ops ≠ []) (hover : ∀ o ∈ (chanOf s ch).ops, o.over = true)
    (hwrite : ∀ o ∈ (chanOf s ch).ops, o.kind ≠ 7) : ∃ u, u.regs = s.regs ∧ (chanOf u ch).ops = []
      ∧ s.opEnd ch = ((u.setF (CH_PORT_STAT_WIP ch) 0).setF (CH_PORT_STAT_WEL ch) 0).raise (CH_PORT_EVT_WRITE_DONE ch) := by
  have hfin : (chanOf s ch).ops.filter (fun o => o.minDone && o.compDone && !o.suspended) = (chanOf s ch).ops := List.filter_eq_self.2 hover
  have hrest : (chanOf s ch).ops.filter (fun o => !(o.minDone && o.compDone && !o.suspended)) = [] :=
    List.filter_eq_nil_iff.2 fun o ho => by simp only [show (o.minDone && o.compDone && !o.suspended) = true from hover o ho]; decide
  have hdone : ((chanOf s ch).ops.any fun o => o.kind ≠ 7) = true := by
    obtain ⟨o, ho⟩ := List.exists_mem_of_ne_nil _ hne
    exact List.any_eq_true.2 ⟨o, ho, by simpa using hwrite o ho⟩
  refine ⟨s.setChan ch { chanOf s ch with
    ops := []
    ready := (chanOf s ch).ready ++ (chanOf s ch).ops.filterMap (·.tag)
    espi := (chanOf s ch).espi.map fun q => if ((chanOf s ch).ops.filterMap (·.tag)).contains q.tag then { q with state := 1 } else q },
    rfl, by rw [chanOf_setChan], ?_⟩
  unfold State.opEnd
  simp only [hfin, hrest, hdone, List.isEmpty_iff, hne, List.any_nil, Bool.false_eq_true, if_true, if_false]

theorem exec_wipClear_ends (hch : ch < 96) (hne : (chanOf s ch).ops ≠ [])
    (hover : ∀ o ∈ (chanOf s ch).ops, o.compDone = true ∧ o.suspended = false ∧ o.kind ≠ 7) :
    ∃ t, exec (.wipClear ch) s = .next t ∧ (chanOf t ch).ops = [] ∧ rb t (CH_PORT_STAT_WIP ch) = false
      ∧ rb t (CH_PORT_STAT_WEL ch) = false ∧ rb t (CH_PORT_EVT_WRITE_DONE ch) = true ∧ onlyPort ch s t := by
  have hops : (chanOf (s.minPassed ch) ch).ops = (chanOf s ch).ops.map fun (o : RunOp) => { o with minDone := o.minDone || !o.suspended } := by
    rw [State.minPassed, chanOf_modChan]
  obtain ⟨u, hregs, hnone, hend⟩ := opEnd_allOver (s.minPassed ch) (ch := ch) (by simpa [hops] using hne)
    (by
      intro o ho
      obtain ⟨p, hp, rfl⟩ := List.mem_map.1 (hops ▸ ho)
      obtain ⟨hcomp, hsus, -⟩ := hover p hp
      simp [RunOp.over, hcomp, hsus])
    (by
      intro o ho
      obtain ⟨p, hp, rfl⟩ := List.mem_map.1 (hops ▸ ho)
      exact (hover p hp).2.2)
  obtain ⟨hevt, -⟩ := portStat_ne ch
  refine ⟨_, exec_wipClear_port s hch, ?_⟩
  rw [hend]
  refine ⟨hnone, ?_, ?_, rb_raise_same _ rfl (show 1 + 1 ≤ 32 by decide), fun a ha _ => ?_⟩
  · rw [rb_raise_ne _ (.inl hevt), CH_PORT_STAT_WIP, CH_PORT_STAT_WEL, rb_setF_bit _ _ (by decide) (by decide), if_neg (by decide)]
    exact rb_setF_same _ _ _ (show 8 + 1 ≤ 32 by decide)
  · rw [rb_raise_ne _ (.inl hevt)]
    exact rb_setF_same _ _ _ (show 7 + 1 ≤ 32 by decide)
  · obtain ⟨hstat, hevt', -⟩ := portRegs_ne ha
    unfold State.raise
    rw [reg_setF_ne _ _ _ _ hevt', reg_setF_ne _ _ _ _ hstat, reg_setF_ne _ _ _ _ hstat, reg, hregs]
    rfl

/-! ### Front ends (R179, R418) -/

/-- A front-end instance that failed, in the list of those that did. -/
def State.feFailed (s : State) (ch : Nat) (bad : Nat) : State := s.modChan ch fun c => { c with feBad := bad }

/-- The spare front end `a` drives. -/
def State.feDrives (s : State) (ch a : Nat) : State :=
  ((s.setF (CH_PORT_STAT_FE_ACTIVE ch) a).setF (CH_PORT_STAT_FE_SPARE_OK ch) 0).raise (CH_PORT_EVT_FE_SWITCH ch)

theorem exec_feTakeover_spare (hch : ch < 96) (hb : (chanOf s ch).feBad = 0) (ha : rf s (CH_PORT_STAT_FE_ACTIVE ch) = 0) :
    exec (.feTakeover ch) s = .next (((s.feFailed ch 1).feDrives ch 1).spareUsed SYSCTL_SPARE_EVT_FE_USED ch true) := by
  simp only [exec, execFeTakeover, hch, hb, ha]
  rfl

theorem rb_spareUsed_frontEnd (u : Nat) : rb (s.spareUsed SYSCTL_SPARE_EVT_FE_USED u true) SYSCTL_SPARE_EVT_FE_USED = true := by
  unfold State.spareUsed State.spareLow
  rw [if_pos rfl, rb_journalD _ _ _ _ _ _ _ _ _ (by decide) (.inl (by decide)), rb_raise_ne _ (by decide),
    rb_journalD _ _ _ _ _ _ _ _ _ (by decide) (.inl (by decide))]
  exact rb_raise_same s rfl (by decide)

/-- The pool of front ends shows nothing in a port. -/
theorem rf_spareUsed_port (hch : ch < 96) (u : Nat) {g : Fld} (hg : g.addr = CH_PORT_STAT ch ∨ g.addr = CH_PORT_EVT ch) :
    rf (s.spareUsed SYSCTL_SPARE_EVT_FE_USED u true) g = rf s g := by
  have hne : SYSCTL_SPARE_EVT ≠ g.addr := by
    rw [show SYSCTL_SPARE_EVT = 0x40000024 from rfl]
    unfold CH_PORT_STAT CH_PORT_EVT at hg
    omega
  refine rf_spareUsed s u true (.inl hne) (.inl hne) ?_
  obtain ⟨hstat, hevt⟩ := offJournal_of_port hch
  obtain h | h := hg
  · rwa [h]
  · rwa [h]

theorem feDrives_shows : rf (s.feDrives ch 1) (CH_PORT_STAT_FE_ACTIVE ch) = 1 ∧ rf (s.feDrives ch 1) (CH_PORT_STAT_FE_SPARE_OK ch) = 0
    ∧ rf (s.feDrives ch 1) (CH_PORT_EVT_FE_SWITCH ch) = 1 := by
  obtain ⟨hevt, -⟩ := portStat_ne ch
  unfold State.feDrives State.raise
  refine ⟨?_, ?_, rf_setF_same _ _ _ (show 7 + 1 ≤ 32 by decide)⟩
  · rw [rf_setF_ne _ _ _ _ (.inl hevt), rf_setF_ne _ _ _ _ (.inr (show (13 + 1 ≤ 14 ∨ 14 + 1 ≤ 13) ∧ 13 + 1 ≤ 32 by decide))]
    exact rf_setF_same _ _ _ (show 13 + 1 ≤ 32 by decide)
  · rw [rf_setF_ne _ _ _ _ (.inl hevt)]
    exact rf_setF_same _ _ _ (show 14 + 1 ≤ 32 by decide)

/-- The spare takes over from a front end that fails. -/
theorem exec_feTakeover_switches (hch : ch < 96) (hb : (chanOf s ch).feBad = 0) (ha : rf s (CH_PORT_STAT_FE_ACTIVE ch) = 0) :
    ∃ t, exec (.feTakeover ch) s = .next t ∧ rf t (CH_PORT_STAT_FE_ACTIVE ch) = 1 ∧ rb t (CH_PORT_STAT_FE_SPARE_OK ch) = false
      ∧ rb t (CH_PORT_EVT_FE_SWITCH ch) = true ∧ rb t SYSCTL_SPARE_EVT_FE_USED = true ∧ t.orang = s.orang := by
  obtain ⟨hactive, hspare, hswitch⟩ := feDrives_shows (s.feFailed ch 1) (ch := ch)
  refine ⟨_, exec_feTakeover_spare s hch hb ha, ?_, ?_, ?_, rb_spareUsed_frontEnd _ _, ?_⟩
  · rw [rf_spareUsed_port _ hch _ (.inl rfl), hactive]
  · rw [rb, rf_spareUsed_port _ hch _ (.inl rfl), hspare]
    rfl
  · rw [rb, rf_spareUsed_port _ hch _ (.inr rfl), hswitch]
    rfl
  · simp [State.feDrives, State.feFailed]

/-- The balls of a port without a front end: the alert released and no spare left. -/
def State.feNone (s : State) (ch : Nat) : State := ((s.feFailed ch 3).setF (CH_PORT_STAT_ALERT_OUT ch) 0).setF (CH_PORT_STAT_FE_SPARE_OK ch) 0

theorem exec_feTakeover_none (hch : ch < 96) (hb : (chanOf s ch).feBad = 1) (ha : rf s (CH_PORT_STAT_FE_ACTIVE ch) = 1) :
    exec (.feTakeover ch) s = .next ((s.feNone ch).uncovered 3 ch) := by
  simp only [exec, execFeTakeover, hch, hb, ha]
  rfl

/-- The first uncovered fault of a port is latched with its channel (R418). -/
theorem uncovered_latches (hl : rb s SYSCTL_FAULT_LATCHED = false) {u : Nat} (hu : u < 2 ^ 16) :
    rf (s.uncovered 3 u) SYSCTL_FAULT_CAUSE = 3 ∧ rf (s.uncovered 3 u) SYSCTL_FAULT_UNIT = u
      ∧ rb (s.uncovered 3 u) SYSCTL_PIN_STAT_FAULT_OUT = true := by
  unfold State.uncovered State.assertFault
  simp only [hl, Bool.false_eq_true, if_false, if_true]
  refine ⟨?_, ?_, ?_⟩
  · rw [rf_journalD _ _ _ _ _ _ _ _ _ (by decide) (.inl (by decide)), State.raise, State.raise, rf_setF_ne _ _ _ _ (by decide),
      rf_setF_ne _ _ _ _ (by decide), rf_setF_ne _ _ _ _ (by decide)]
    exact rf_setF_same _ _ _ (by decide)
  · rw [rf_journalD _ _ _ _ _ _ _ _ _ (by decide) (.inl (by decide)), State.raise, State.raise, rf_setF_ne _ _ _ _ (by decide),
      rf_setF_ne _ _ _ _ (by decide), rf_setF_same _ _ _ (by decide)]
    exact Nat.mod_eq_of_lt hu
  · rw [rb_journalD _ _ _ _ _ _ _ _ _ (by decide) (.inl (by decide))]
    exact rb_raise_same _ rfl (by decide)

theorem exec_feTakeover_uncovered (hch : ch < 96) (hb : (chanOf s ch).feBad = 1) (ha : rf s (CH_PORT_STAT_FE_ACTIVE ch) = 1)
    (hl : rb s SYSCTL_FAULT_LATCHED = false) : ∃ t, exec (.feTakeover ch) s = .next t ∧ (chanOf t ch).feBad = 3
      ∧ rf t SYSCTL_FAULT_CAUSE = 3 ∧ rf t SYSCTL_FAULT_UNIT = ch ∧ rb t SYSCTL_PIN_STAT_FAULT_OUT = true := by
  have hport : CH_PORT_STAT ch ≠ SYSCTL_FAULT := by
    rw [show SYSCTL_FAULT = 0x40000080 from rfl]
    unfold CH_PORT_STAT
    omega
  have hl' : rb (s.feNone ch) SYSCTL_FAULT_LATCHED = false := by
    unfold State.feNone
    rw [rb_setF_ne _ _ _ _ (.inl hport), rb_setF_ne _ _ _ _ (.inl hport)]
    exact hl
  refine ⟨_, exec_feTakeover_none s hch hb ha, ?_, uncovered_latches _ hl' (by omega)⟩
  rw [chanOf_congr (State.uncovered_chans _ _ _), State.feNone, chanOf_congr (State.setF_chans _ _ _), chanOf_congr (State.setF_chans _ _ _),
    State.feFailed, chanOf_modChan]

/-! ### The reset of the emulated device (R205) -/

theorem exec_chnRstNPulse_live (hp : portLive s ch = true) : exec (.chnRstNPulse ch) s = .next (s.devReset ch) := by
  simp [exec, execChnRstNPulse, hp]

/-- Power-on values of the protocol state, with WIP left as it is. -/
theorem protoPowerOn_shows : rb (s.protoPowerOn ch true) (CH_PORT_STAT_WEL ch) = false
    ∧ rb (s.protoPowerOn ch true) (CH_PORT_STAT_CONT_READ ch) = false ∧ rb (s.protoPowerOn ch true) (CH_PORT_STAT_SUSPENDED ch) = false
    ∧ rb (s.protoPowerOn ch true) (CH_PORT_STAT_WIP ch) = rb s (CH_PORT_STAT_WIP ch) := by
  simp [State.protoPowerOn, State.setB, CH_PORT_STAT_ADDR4, CH_PORT_STAT_QPI, CH_PORT_STAT_OCTAL_8D, CH_PORT_STAT_CONT_READ, CH_PORT_STAT_WEL,
    CH_PORT_STAT_SUSPENDED, CH_PORT_STAT_WIP, rb_setF_bit]

theorem reg_protoPowerOn (keep : Bool) {a : Nat} (ha : CH_PORT_STAT ch ≠ a) : reg (s.protoPowerOn ch keep) a = reg s a := by
  have hset (u : State) (f : Fld) (v : Nat) (hf : f.addr = CH_PORT_STAT ch) : reg (u.setF f v) a = reg u a := reg_setF_ne _ _ _ _ (hf ▸ ha)
  cases keep <;> simp [State.protoPowerOn, State.setB, hset, CH_PORT_STAT_ADDR4, CH_PORT_STAT_QPI, CH_PORT_STAT_OCTAL_8D,
    CH_PORT_STAT_CONT_READ, CH_PORT_STAT_WEL, CH_PORT_STAT_SUSPENDED, CH_PORT_STAT_WIP]

theorem reg_emuReset (all : Bool) {a : Nat} (ha : CH_TR_SREG ch ≠ a) : reg (s.emuReset ch all) a = reg s a := by
  unfold State.emuReset
  exact State.each_keeps (reg · a) _ _ (fun u r => reg_setF_ne _ _ _ _ ha) s

/-- The link of an eSPI target gives up its settings, its readiness and its alert. -/
theorem reg_espiReset {a : Nat} (he : CH_ESPI_STAT ch ≠ a) (hs : CH_PORT_STAT ch ≠ a) : reg (s.espiReset ch) a = reg s a := by
  unfold State.espiReset
  split
  · rw [reg_setF_ne _ _ _ _ hs, reg_setF_ne _ _ _ _ hs, reg_setReg_ne _ _ _ _ he.symm]
  · rfl

theorem rb_espiReset_ne {g : Fld} (he : CH_ESPI_STAT ch ≠ g.addr) (hs : CH_PORT_STAT ch ≠ g.addr) : rb (s.espiReset ch) g = rb s g := by
  rw [rb, rf, reg_espiReset _ he hs]
  rfl

theorem rb_espiReset_bit {i : Nat} (hi : i < 32) (h11 : i ≠ 11) (h15 : i ≠ 15) :
    rb (s.espiReset ch) ⟨CH_PORT_STAT ch, i, 1⟩ = rb s ⟨CH_PORT_STAT ch, i, 1⟩ := by
  have hstat : CH_PORT_STAT ch ≠ CH_ESPI_STAT ch := (portStat_ne ch).2.1.symm
  unfold State.espiReset CH_PORT_STAT_ESPI_READY CH_PORT_STAT_ALERT_OUT
  split
  · rw [rb_setF_bit _ _ (by decide) hi, if_neg h15, rb_setF_bit _ _ (by decide) hi, if_neg h11, rb, rf_setReg_ne _ _ _ _ hstat]
    rfl
  · rfl

theorem protoPowerOn_orang (keep : Bool) : (s.protoPowerOn ch keep).orang = s.orang := by
  cases keep <;> simp [State.protoPowerOn]

theorem emuReset_orang (all : Bool) : (s.emuReset ch all).orang = s.orang := by
  unfold State.emuReset
  exact State.each_keeps State.orang _ _ (fun u r => State.setF_orang u _ _) s

theorem espiReset_orang : (s.espiReset ch).orang = s.orang := by
  unfold State.espiReset
  split <;> simp

theorem devReset_orang : (s.devReset ch).orang = s.orang := by
  simp only [State.devReset, espiReset_orang, State.raise_orang, State.setF_orang, State.modChan_orang, emuReset_orang, protoPowerOn_orang,
    State.setB_orang]

/-- Some program or erase of the channel has not reached its completion point. -/
def writeRuns (s : State) (ch : Nat) : Bool := (chanOf s ch).ops.any fun o => o.kind ≠ 7 && !o.compDone

/-- A reset of the emulated device stays inside the window of its port. -/
theorem onlyPort_devReset : onlyPort ch s (s.devReset ch) := by
  intro a ha _
  obtain ⟨hstat, hevt, -, hespi, -, -, -, -, hsreg⟩ := portRegs_ne ha
  unfold State.devReset State.raise
  dsimp only
  rw [reg_espiReset _ hespi hstat, reg_setF_ne _ _ _ _ hevt, reg_setF_ne _ _ _ _ hespi, reg_modChan, reg_emuReset _ _ hsreg,
    reg_protoPowerOn _ _ hstat, State.setB, reg_setF_ne _ _ _ _ hstat]

/-- Of the status of a port a reset leaves what the power-on values give it, but for the eSPI link's readiness and the alert. -/
theorem rb_devReset_bit {i : Nat} (hi : i < 32) (h11 : i ≠ 11) (h15 : i ≠ 15) : rb (s.devReset ch) ⟨CH_PORT_STAT ch, i, 1⟩
    = rb ((s.setB (CH_PORT_STAT_WIP ch) (writeRuns s ch)).protoPowerOn ch true) ⟨CH_PORT_STAT ch, i, 1⟩ := by
  obtain ⟨hevt, hespi, -, hsreg⟩ := portStat_ne ch
  unfold State.devReset State.raise
  dsimp only
  rw [rb_espiReset_bit _ hi h11 h15, rb_setF_ne _ _ _ _ (.inl hevt), rb_setF_ne _ _ _ _ (.inl hespi), rb_modChan, rb, rf,
    reg_emuReset _ _ hsreg]
  rfl

theorem rb_devReset_hostReset : rb (s.devReset ch) (CH_PORT_EVT_HOST_RESET ch) = true := by
  obtain ⟨-, -, hstat, hespi, -⟩ := portEvt_ne ch
  unfold State.devReset
  exact (rb_espiReset_ne _ hespi hstat).trans (rb_raise_same _ rfl (show 8 + 1 ≤ 32 by decide))

/-- The emulated device after a reset: power-on values, and WIP while a program or erase still runs. -/
theorem devReset_shows : rb (s.devReset ch) (CH_PORT_STAT_WEL ch) = false ∧ rb (s.devReset ch) (CH_PORT_STAT_CONT_READ ch) = false
    ∧ rb (s.devReset ch) (CH_PORT_STAT_SUSPENDED ch) = false ∧ rb (s.devReset ch) (CH_PORT_STAT_WIP ch) = writeRuns s ch := by
  obtain ⟨hwel, hcont, hsus, hwip⟩ := protoPowerOn_shows (s.setB (CH_PORT_STAT_WIP ch) (writeRuns s ch)) (ch := ch)
  exact ⟨(rb_devReset_bit s (by decide) (by decide) (by decide)).trans hwel, (rb_devReset_bit s (by decide) (by decide) (by decide)).trans hcont,
    (rb_devReset_bit s (by decide) (by decide) (by decide)).trans hsus, ((rb_devReset_bit s (by decide) (by decide) (by decide)).trans hwip).trans
      (rb_setB_same s _ rfl (show 8 + 1 ≤ 32 by decide))⟩

/-- Both planes serve. -/
theorem serving_of_pair {s : State} (h0 : serving s 0 = true) (h1 : serving s 1 = true) {x : Nat} (hx : x < 2) : serving s x = true := by
  obtain rfl | rfl : x = 0 ∨ x = 1 := by omega
  · exact h0
  · exact h1

/-- Settles O34: a late line is counted until the sixteenth isolates its plane (`exec_lineLate_counted`, `exec_lineLate_isolates`), one that fails
is mirrored from the other plane (`exec_lateLineArrival_mirrors`), and each other event is the rule of its command above. -/
theorem portEventsAct : Obligations.PortEventsAct := by
  refine fun s ch => ⟨fun x hx hp h0 h1 => ?late, ?arrival, fun x d r off => exec_lateLineArrival_sound s d r off, ?pulse, ?clear, ?wip,
    exec_feTakeover_switches s, exec_feTakeover_uncovered s, fun hp => ?reset⟩
  case late =>
    exact ⟨exec_lineLate_counted s hp hx (serving_of_pair h0 h1 hx) (serving_of_pair h0 h1 (by omega)),
      exec_lineLate_isolates s hp hx (serving_of_pair h0 h1 hx) (serving_of_pair h0 h1 (by omega))⟩
  case arrival =>
    exact fun x d r off hx hch h0 h1 hv hb hoff =>
      exec_lateLineArrival_mirrors s hx hch (serving_of_pair h0 h1 hx) (serving_of_pair h0 h1 (by omega)) hv hb hoff
  case pulse => exact fun hch he hm => exec_alertPulseEnd_pulse s hch hm he
  case clear => exact fun hch w hw => ⟨_, exec_alertClear_clears s hch hw, alertCleared_shows s⟩
  case wip => exact exec_wipClear_ends s
  case reset =>
    obtain ⟨hwel, hcont, hsus, hwip⟩ := devReset_shows s (ch := ch)
    exact ⟨_, exec_chnRstNPulse_live s hp, hwel, hcont, hsus, rb_devReset_hostReset s, hwip, onlyPort_devReset s, devReset_orang s⟩

end Sys2Proof.Machine
end

section
/-! A READ whose lines requested ahead run past the end of an extent (R190, R192, R230). -/

namespace Sys2Proof.Machine

/-- A SPI-NOR program without regions over 16 MiB: READ is SERVE_SHADOW everywhere, and opcode 0 reads with a 4-byte address in 1-1-1. -/
def shadowProg : Prog :=
  [0, 0, 0, 0, 0, 0, 0, 1, 0, 0, 0, 0, 0x18] ++ List.replicate 15 0 ++ [1] ++ List.replicate 35 0 ++ [0, 1, 4, 0, 1]

/-- An extent of channel 0 that ends one byte into its second line. -/
def splitExt : Ext := { Ext.none with valid := true, len := 65, epoch := 3 }

/-- Both planes serve channel 0, whose lines 0 and 1 pass in each of them; the planes differ in byte 65, the first one past the extent. -/
def splitLine : State :=
  let s := ((State.reset.setF (planeFld 0) plSERVING).setF (planeFld 1) plSERVING).raise (CH_PORT_STAT_ENABLED 0)
  let s := (s.modChan 0 fun c => { c with prog := some shadowProg }).setExt 0 splitExt
  (s.setPlane 0 (PlaneMem.empty.tagLines 0 2 ⟨3, 0⟩)).setPlane 1 ((PlaneMem.empty.tagLines 0 2 ⟨3, 0⟩).putBytes 65 [1] false)

/-- A READ of the byte at address 0. -/
def readByte0 : Frame :=
  { ch := 0, opcode := some 0, addr := 0, modeBits := 0, din := [], dout := 1, phase := 2, whole := true, wpLow := false, shortAt := none
    lines := [], decDiffer := false }

/-- How that frame decodes. -/
def readRow : Dec := { p := shadowProg, opc := 0, row := shadowProg.row 0, cls := 0 }

theorem extAt_splitLine {b e : Nat} (h : extAt splitLine 0 b = some e) : b < 65 ∧ e = 0 := by
  have hexts : splitLine.orang.exts = [(0, splitExt)] := by decide +kernel
  simp only [extAt, hexts, List.find?_cons, List.find?_nil] at h
  split at h
  · rename_i hb
    simp [splitExt, Ext.none] at hb h
    exact ⟨hb, h.symm⟩
  · cases h

theorem splitLine_agrees : ∀ off < 65, ∀ x < 2, ∀ hot, lineFresh splitLine x 0 off = true
    ∧ planeByteIn splitLine x 0 off hot = planeByteIn splitLine 0 0 off hot := by decide +kernel

theorem readByte0_executes : executes splitLine readByte0 0 readRow := by
  have hdecode : (frameDecode splitLine readByte0).map (fun d => (d.p, d.opc, d.row, d.cls)) = some (shadowProg, 0, shadowProg.row 0, 0) := by
    decide +kernel
  obtain ⟨⟨p, opc, row, cls⟩, hd, he⟩ := Option.map_eq_some_iff.1 hdecode
  cases he
  exact ⟨hd, rfl, by decide +kernel⟩

/-- The one byte at address 0 lies in the extent, in a served line of a plane that serves, and no leaf is lost. -/
theorem readByte0_served : outLen (atFrame splitLine readByte0) readByte0 readRow = 1
    ∧ effAddr (atFrame splitLine readByte0) 0 shadowProg readRow.row 0 = 0 ∧ (blockAct shadowProg 0 0).1 % 8 ≤ 1
    ∧ extAt splitLine 0 0 = some 0 ∧ serving splitLine 0 = true ∧ splitLine.orang.lost = [] ∧ splitLine.orang.refetch = [] := by decide +kernel

/-- Line 1 is requested ahead and compared as far as its end, so that the planes disagree there and the leaf is to be refetched (R192). -/
theorem readByte0_refetches : (splitLine.onFrame readByte0 0 (State.runRead readByte0)).orang.refetch = [⟨0, 0, false, []⟩] := by decide +kernel

/-- Refutes O32: it does not ask that an extent end where a line ends. The lines requested ahead are compared as whole lines (R190, R192), while
its hypothesis compares the planes only as far as the extents go. In `splitLine` the planes agree in all 65 bytes of the one extent and differ
in the byte after it; the READ of byte 0 requests line 1 ahead, meets that difference and has the leaf refetched, so that the shadow store does
not stay as it was. -/
theorem not_readsDeliver : ¬ Obligations.ReadsDeliver := by
  rintro ⟨hread, -⟩
  obtain ⟨hlen, hea, hact, hext, hserves, hlost, hquiet⟩ := readByte0_served
  have hagree : ∀ b e, extAt splitLine 0 b = some e → ∀ x, x < 2 → serving splitLine x = true → ∀ hot,
      lineFresh splitLine x e (b - (extOf splitLine e).chanOff) = true
        ∧ planeByteIn splitLine x e (b - (extOf splitLine e).chanOff) hot = planeByteIn splitLine 0 e (b - (extOf splitLine e).chanOff) hot := by
    intro b e hb x hx _ hot
    obtain ⟨hin, rfl⟩ := extAt_splitLine hb
    exact splitLine_agrees b hin x hx hot
  obtain ⟨t, ht, hkept, -⟩ := hread splitLine readByte0 readRow 0 0 1 0 readByte0_executes rfl rfl rfl rfl hlen.symm (by decide) hea.symm
    (by decide) hact hext rfl hserves hlost hagree fun i hi => by rw [Nat.lt_one_iff.1 hi]; exact hext
  obtain rfl : splitLine.onFrame readByte0 0 (State.runRead readByte0) = t := Host.Outcome.next.inj ht
  have hrefetch := congrArg Orang.refetch hkept
  rw [readByte0_refetches, hquiet] at hrefetch
  cases hrefetch

end Sys2Proof.Machine
end

section
/-! The Trellis commands (R240, R241, R244): the outcome that each shows, and what it makes of the pending slot. -/

namespace Sys2Proof.Machine

variable (s : State) {ch a : Nat}

/-! ### The registers of a channel's Trellis -/

/-- The registers that the Trellis commands and a swap write lie in the window of their port. -/
theorem trellisRegs_ne (h : offPort ch a) : CH_TR_STAT ch ≠ a ∧ CH_TR_CMD_STAT ch ≠ a ∧ CH_TR_EVT ch ≠ a ∧ CH_PORT_CFG ch ≠ a
    ∧ CH_PORT_LAT ch ≠ a ∧ (∀ i < 12, CH_TR_MEAS ch i ≠ a) ∧ ∀ i < 12, CH_TR_PMEAS ch i ≠ a := by
  unfold CH_TR_STAT CH_TR_CMD_STAT CH_TR_EVT CH_PORT_CFG CH_PORT_LAT CH_TR_MEAS CH_TR_PMEAS
  refine ⟨?_, ?_, ?_, ?_, ?_, fun i hi => ?_, fun i hi => ?_⟩ <;> omega

theorem trellisRegs_offJournal (hch : ch < 96) : offJournal (CH_TR_STAT ch) ∧ offJournal (CH_TR_CMD_STAT ch) ∧ offJournal (CH_TR_EVT ch)
    ∧ (∀ i < 12, offJournal (CH_TR_MEAS ch i)) ∧ ∀ i < 12, offJournal (CH_TR_PMEAS ch i) := by
  unfold offJournal CH_TR_STAT CH_TR_CMD_STAT CH_TR_EVT CH_TR_MEAS CH_TR_PMEAS
  refine ⟨?_, ?_, ?_, fun i hi => ?_, fun i hi => ?_⟩ <;> omega

/-- No channel's outcome stands where another's state does. -/
theorem trellisOutcome_ne_stat (ch c : Nat) : CH_TR_CMD_STAT ch ≠ CH_TR_STAT c ∧ CH_TR_EVT ch ≠ CH_TR_STAT c := by
  unfold CH_TR_STAT CH_TR_CMD_STAT CH_TR_EVT
  omega

theorem pendOf_congr {s t : State} (h : reg t (CH_TR_STAT ch) = reg s (CH_TR_STAT ch)) : pendOf t ch = pendOf s ch := by
  unfold pendOf rf
  exact congrArg (fun w : Word => bitsAt w.toNat 8 3) h

theorem pendOf_setF_same {v : Nat} (hv : v < 8) : pendOf (s.setF (CH_TR_STAT_PEND ch) v) ch = v :=
  (rf_setF_same _ _ _ (show 8 + 3 ≤ 32 by decide)).trans (Nat.mod_eq_of_lt hv)

/-! ### A digest in its registers -/

theorem reg_setDigest_off {base : Nat → Nat} (d : List Byte) (h : ∀ i < 12, base i ≠ a) : reg (s.setDigest base d) a = reg s a :=
  List.foldlRecOn (motive := fun t => reg t a = reg s a) _ _ rfl fun t ht i hi =>
    (reg_setReg_ne t _ _ _ (h i (List.mem_range.1 hi)).symm).trans ht

theorem reg_setDigest_same {base : Nat → Nat} (hb : Function.Injective base) (d : List Byte) {i : Nat} (hi : i < 12) :
    reg (s.setDigest base d) (base i) = BitVec.ofNat 32 (fieldAt d (4 * i) 4) :=
  reg_each_setReg s (fun j => BitVec.ofNat 32 (fieldAt d (4 * j) 4)) hb hi

theorem setDigest_chans (base : Nat → Nat) (d : List Byte) : (s.setDigest base d).chans = s.chans :=
  State.each_keeps State.chans (List.range 12) (fun t i => t.setReg (base i) _) (fun t _ => State.setReg_chans t _ _) s

theorem trMeas_injective (ch : Nat) : Function.Injective (CH_TR_MEAS ch) := fun i j h => by
  unfold CH_TR_MEAS at h
  omega

theorem trPmeas_injective (ch : Nat) : Function.Injective (CH_TR_PMEAS ch) := fun i j h => by
  unfold CH_TR_PMEAS at h
  omega

/-! ### The outcome of a command (R12, R14) -/

theorem trellisIf_shows (ch : Nat) : (trellisIf ch).Shows where
  byte := rfl
  bound := show 0 + 8 ≤ 32 by decide
  done := .inl (show CH_TR_EVT ch ≠ CH_TR_CMD_STAT ch by unfold CH_TR_EVT CH_TR_CMD_STAT; omega)
  result f hf := by
    obtain rfl := Option.some.inj hf
    exact .inr (show (0 + 8 ≤ 16 ∨ 16 + 16 ≤ 0) ∧ 0 + 8 ≤ 32 by decide)

theorem reg_trellisEnd (op : Nat) (c : Code) (r : Nat) (hst : CH_TR_CMD_STAT ch ≠ a) (hevt : CH_TR_EVT ch ≠ a) :
    reg (s.cmdEnd (trellisIf ch) op c r) a = reg s a :=
  (reg_setF_ne _ _ _ _ hevt).trans <| (reg_setF_ne _ _ _ _ hst).trans <| (reg_setF_ne _ _ _ _ hst).trans (reg_setF_ne _ _ _ _ hst)

/-- A command that ends shows its OP, its code, its result and CMD_DONE. -/
theorem trellisEnd_shows {op : Nat} (hop : op < 2 ^ 8) (c : Code) (r : Nat) :
    rf (s.cmdEnd (trellisIf ch) op c r) (CH_TR_CMD_STAT_LAST_OP ch) = op
    ∧ rf (s.cmdEnd (trellisIf ch) op c r) (CH_TR_CMD_STAT_LAST_STATUS ch) = c.val
    ∧ rf (s.cmdEnd (trellisIf ch) op c r) (CH_TR_CMD_STAT_RESULT ch) = r % 2 ^ 16
    ∧ rb (s.cmdEnd (trellisIf ch) op c r) (CH_TR_EVT_CMD_DONE ch) = true := by
  have hevt : CH_TR_EVT ch ≠ CH_TR_CMD_STAT ch := by unfold CH_TR_EVT CH_TR_CMD_STAT; omega
  refine ⟨?_, rf_cmdEnd_status s (trellisIf_shows ch) op c r, ?_, rb_raise_same _ rfl (show 0 + 1 ≤ 32 by decide)⟩
  · refine (rf_setF_ne _ _ _ _ (.inl hevt)).trans ?_
    refine (rf_setF_ne _ _ _ _ (.inr (show (8 + 8 ≤ 16 ∨ 16 + 16 ≤ 8) ∧ 8 + 8 ≤ 32 by decide))).trans ?_
    refine (rf_setF_ne _ _ _ _ (.inr (show (8 + 8 ≤ 0 ∨ 0 + 8 ≤ 8) ∧ 8 + 8 ≤ 32 by decide))).trans ?_
    exact (rf_setF_same _ _ _ (show 8 + 8 ≤ 32 by decide)).trans (Nat.mod_eq_of_lt hop)
  · refine (rf_setF_ne _ _ _ _ (.inl hevt)).trans ?_
    exact rf_setF_same _ _ _ (show 16 + 16 ≤ 32 by decide)

/-- A refusal that is no delay is an end with no result, and one record. -/
theorem trellisRefuse_ends (op : Nat) {c : Code} (hc : c ≠ .busyRetry) :
    s.trellisRefuse ch op c = (s.cmdEnd (trellisIf ch) op c).journal 3 244 srcCHAN ch c := by
  unfold State.trellisRefuse State.cmdRefuse
  rw [if_neg hc]

/-- A delay states 1 ms, unless an earlier one still runs (R14, R244). -/
theorem trellisRefuse_delays {op : Nat} (he : early s ((trellisIf ch).key op) = false) :
    ∃ u : State, u.chans = s.chans ∧ s.trellisRefuse ch op .busyRetry
      = (u.cmdEnd (trellisIf ch) op .busyRetry 1).journal 3 244 srcCHAN ch .busyRetry := by
  have hms : (s.delay ((trellisIf ch).key op) (some 1)).1 = 1 := by simp [State.delay, he]
  refine ⟨(s.delay ((trellisIf ch).key op) (some 1)).2, State.delay_chans _ _ _, ?_⟩
  unfold State.trellisRefuse State.cmdRefuse
  rw [if_pos rfl]
  simp only [hms]
  rfl

theorem onlyPort_trellisEnd (op : Nat) (c : Code) (r : Nat) : onlyPort ch s (s.cmdEnd (trellisIf ch) op c r) := by
  intro _ ha _
  obtain ⟨-, hst, hevt, -⟩ := trellisRegs_ne ha
  exact reg_trellisEnd s op c r hst hevt

theorem onlyPort.trans {s t u : State} (h : onlyPort ch s t) (h' : onlyPort ch t u) : onlyPort ch s u :=
  fun a ha hj => (h' a ha hj).trans (h a ha hj)

theorem onlyPort_journalD (c t u n d g : Nat) (l : List Byte) (hc : c < 8) : onlyPort ch s (s.journalD c t u n d g l) :=
  fun _ _ hj => reg_journalD _ _ _ _ _ _ _ _ _ hc hj

theorem onlyPort_setPend (v : Nat) : onlyPort ch s (s.setF (CH_TR_STAT_PEND ch) v) := fun a ha _ => by
  obtain ⟨hst, -⟩ := trellisRegs_ne ha
  exact reg_setF_ne _ _ _ _ hst

theorem onlyPort_setDigest {base : Nat → Nat} (d : List Byte) (h : ∀ a, offPort ch a → ∀ i < 12, base i ≠ a) :
    onlyPort ch s (s.setDigest base d) := fun a ha _ => reg_setDigest_off s d (h a ha)

/-- What a refusal that is no delay shows, and that the channel stays as it is. -/
theorem trellisRefuse_shows (hch : ch < 96) (op : Nat) {c : Code} (hc : c ≠ .busyRetry) :
    rf (s.trellisRefuse ch op c) (CH_TR_CMD_STAT_LAST_STATUS ch) = c.val ∧ (s.trellisRefuse ch op c).chans = s.chans
      ∧ onlyPort ch s (s.trellisRefuse ch op c) := by
  obtain ⟨-, hj, -⟩ := trellisRegs_offJournal hch
  rw [trellisRefuse_ends s op hc]
  refine ⟨?_, by simp, (onlyPort_trellisEnd s op c 0).trans (onlyPort_journalD _ _ _ _ _ _ _ _ (by decide))⟩
  rw [rf_journal _ _ _ _ _ _ _ (by decide) hj]
  exact rf_cmdEnd_status s (trellisIf_shows ch) op c 0

/-! ### LOAD (R240, R244) -/

/-- The operands of a LOAD are well-formed. -/
def loadFits (s : State) (ch len : Nat) : Prop :=
  3200 ≤ len ∧ len ≤ 5120 ∧ rf s (CH_TR_CMD_ADDR_ADDR ch) % 8 = 0 ∧ inTcm (rf s (CH_TR_CMD_ADDR_ADDR ch)) len = true

theorem trLoadCode_badLength {len : Nat} (h : len < 3200 ∨ 5120 < len) : trLoadCode s ch len = some .malformed := by
  unfold trLoadCode firstCode
  rw [if_pos (by simpa using .inl (.inl h))]

theorem trLoadCode_fits {len : Nat} (h : loadFits s ch len) (he : early s ((trellisIf ch).key 1) = false) :
    trLoadCode s ch len = if pendOf s ch = pendLOADING ∨ pendOf s ch = pendSWAP then some .busyRetry else none := by
  obtain ⟨hlo, hhi, halign, htcm⟩ := h
  simp [trLoadCode, firstCode, delayed, he, Nat.not_lt.2 hlo, Nat.not_lt.2 hhi, halign, htcm]

theorem exec_load_refused (hch : ch < 96) {len : Nat} {c : Code} (hc : trLoadCode s ch len = some c) :
    exec (.load ch len) s = .next (s.trellisRefuse ch 1 c) := by
  simp only [exec, execLoad, hch, if_true, hc]

/-- The pending slot takes a program, whose check begins. -/
def State.loading (s : State) (ch : Nat) (p : Prog) (code : Nat) : State :=
  ((s.tableWritten ch).setF (CH_TR_STAT_PEND ch) pendLOADING).modChan ch fun c => { c with pend := p, loadCode := code }

theorem exec_load_copies (hch : ch < 96) {len : Nat} (hc : trLoadCode s ch len = none) :
    exec (.load ch len) s = .next (s.loading ch (tcmRead s (rf s (CH_TR_CMD_ADDR_ADDR ch)) len)
      (progCheck (tcmRead s (rf s (CH_TR_CMD_ADDR_ADDR ch)) len) len ch (s.boot.cfg.banks.getD (bankOfChan ch) 0))) := by
  simp only [exec, execLoad, hch, if_true, hc]
  rfl

theorem loading_shows (p : Prog) (code : Nat) : pendOf (s.loading ch p code) ch = pendLOADING ∧ (chanOf (s.loading ch p code) ch).pend = p
    ∧ (chanOf (s.loading ch p code) ch).prog = (chanOf s ch).prog ∧ onlyPort ch s (s.loading ch p code)
    ∧ (s.loading ch p code).tcm = s.tcm := by
  unfold State.loading
  rw [chanOf_modChan]
  exact ⟨pendOf_setF_same (s.tableWritten ch) (by decide), rfl, rfl, onlyPort_setPend (s.tableWritten ch) pendLOADING, rfl⟩

theorem exec_load_loads (hch : ch < 96) (he : early s ((trellisIf ch).key 1) = false) {len : Nat} (h : loadFits s ch len)
    (hl : pendOf s ch ≠ pendLOADING) (hw : pendOf s ch ≠ pendSWAP) : ∃ t, exec (.load ch len) s = .next t ∧ pendOf t ch = pendLOADING
      ∧ (chanOf t ch).pend = tcmRead s (rf s (CH_TR_CMD_ADDR_ADDR ch)) len ∧ (chanOf t ch).prog = (chanOf s ch).prog
      ∧ onlyPort ch s t ∧ t.tcm = s.tcm :=
  ⟨_, exec_load_copies s hch ((trLoadCode_fits s h he).trans (if_neg (by simp [hl, hw]))), loading_shows s _ _⟩

theorem exec_load_delayed (hch : ch < 96) (he : early s ((trellisIf ch).key 1) = false) {len : Nat} (h : loadFits s ch len)
    (hw : pendOf s ch = pendSWAP) : ∃ t, exec (.load ch len) s = .next t ∧ rf t (CH_TR_CMD_STAT_LAST_STATUS ch) = 1
      ∧ rf t (CH_TR_CMD_STAT_RESULT ch) = 1 ∧ chanOf t ch = chanOf s ch := by
  obtain ⟨-, hj, -⟩ := trellisRegs_offJournal hch
  obtain ⟨u, hchans, hu⟩ := trellisRefuse_delays s he
  obtain ⟨-, hstatus, hresult, -⟩ := trellisEnd_shows u (ch := ch) (op := 1) (by decide) .busyRetry 1
  refine ⟨_, exec_load_refused s hch ((trLoadCode_fits s h he).trans (if_pos (.inr hw))), ?_⟩
  rw [hu, rf_journal _ _ _ _ _ _ _ (by decide) hj, rf_journal _ _ _ _ _ _ _ (by decide) hj]
  exact ⟨hstatus, hresult, chanOf_congr (by simp [hchans]) ch⟩

/-! ### The end of a LOAD (R240, R244) -/

/-- A program is measured. -/
def State.measured (s : State) (ch : Nat) : State := s.setDigest (CH_TR_PMEAS ch) (sha384 (chanOf s ch).pend)

theorem onlyPort_measured : onlyPort ch s (s.measured ch) := onlyPort_setDigest s _ fun a ha => by
  obtain ⟨-, -, -, -, -, -, hp⟩ := trellisRegs_ne ha
  exact hp

theorem exec_loadDone_passes (hch : ch < 96) (hp : pendOf s ch = pendLOADING) (hc : (chanOf s ch).loadCode = 0) :
    exec (.loadDone ch) s = .next (((s.measured ch).setF (CH_TR_STAT_PEND ch) pendLOADED).cmdEnd (trellisIf ch) 1 .ok) := by
  simp only [exec, execLoadDone, hch, hp, hc, decide_true, Bool.and_self, if_true]
  rfl

/-- The pending slot is emptied. -/
def State.slotEmptied (s : State) (ch : Nat) (f : Chan → Chan) : State := (s.setF (CH_TR_STAT_PEND ch) pendEMPTY).modChan ch f

theorem slotEmptied_regs (f : Chan → Chan) : (s.slotEmptied ch f).regs = (s.setF (CH_TR_STAT_PEND ch) pendEMPTY).regs := rfl

theorem exec_loadDone_fails (hch : ch < 96) (hp : pendOf s ch = pendLOADING) (hc : (chanOf s ch).loadCode ≠ 0) :
    exec (.loadDone ch) s = .next ((((s.measured ch).slotEmptied ch fun c => { c with pend := [], loadCode := 0 }).cmdEnd (trellisIf ch) 1
      .malformed (chanOf s ch).loadCode).journal 3 244 srcCHAN ch .malformed) := by
  simp only [exec, execLoadDone, hch, hp, hc, decide_true, Bool.and_self, if_true, if_false]
  rfl

theorem rf_congr_reg {s t : State} {g : Fld} (h : reg t g.addr = reg s g.addr) : rf t g = rf s g := by rw [rf, h, rf]

theorem trPmeas_ne (ch i : Nat) : CH_TR_STAT ch ≠ CH_TR_PMEAS ch i ∧ CH_TR_CMD_STAT ch ≠ CH_TR_PMEAS ch i
    ∧ CH_TR_EVT ch ≠ CH_TR_PMEAS ch i := by
  unfold CH_TR_STAT CH_TR_CMD_STAT CH_TR_EVT CH_TR_PMEAS
  omega

/-- What the end of a LOAD shows, whatever becomes of the slot's contents and of the record that a failure enters. -/
theorem loadEnd_shows (hch : ch < 96) {t v : State} {x : Nat} (hx : x < 8) (c : Code) (r : Nat)
    (hv : v.regs = ((s.measured ch).setF (CH_TR_STAT_PEND ch) x).regs)
    (ht : ∀ a, offJournal a → reg t a = reg (v.cmdEnd (trellisIf ch) 1 c r) a) :
    rf t (CH_TR_CMD_STAT_LAST_OP ch) = 1 ∧ rb t (CH_TR_EVT_CMD_DONE ch) = true ∧ onlyPort ch s t
      ∧ (∀ i, i < 12 → reg t (CH_TR_PMEAS ch i) = BitVec.ofNat 32 (fieldAt (sha384 (chanOf s ch).pend) (4 * i) 4))
      ∧ pendOf t ch = x ∧ rf t (CH_TR_CMD_STAT_LAST_STATUS ch) = c.val ∧ rf t (CH_TR_CMD_STAT_RESULT ch) = r % 2 ^ 16 := by
  obtain ⟨hstat, hcmd, hevt, -, hmeas⟩ := trellisRegs_offJournal hch
  obtain ⟨hop, hstatus, hresult, hdone⟩ := trellisEnd_shows v (ch := ch) (op := 1) (by decide) c r
  obtain ⟨hcs, hes⟩ := trellisOutcome_ne_stat ch ch
  have hreg (a : Nat) : reg v a = reg ((s.measured ch).setF (CH_TR_STAT_PEND ch) x) a := by rw [reg, hv, reg]
  refine ⟨(rf_congr_reg (ht _ hcmd)).trans hop, ?_, fun a ha hj => ?_, fun i hi => ?_, ?_, (rf_congr_reg (ht _ hcmd)).trans hstatus,
    (rf_congr_reg (ht _ hcmd)).trans hresult⟩
  · exact (congrArg (· != 0) (rf_congr_reg (ht _ hevt))).trans hdone
  · rw [ht a hj, onlyPort_trellisEnd v 1 c r a ha hj, hreg, onlyPort_setPend _ x a ha hj, onlyPort_measured s a ha hj]
  · obtain ⟨hs, hc, he⟩ := trPmeas_ne ch i
    rw [ht _ (hmeas i hi), reg_trellisEnd _ _ _ _ hc he, hreg, reg_setF_ne _ _ _ _ hs]
    exact reg_setDigest_same s (trPmeas_injective ch) _ hi
  · rw [pendOf_congr (ht _ hstat), pendOf_congr (reg_trellisEnd _ _ _ _ hcs hes), pendOf_congr (hreg _), pendOf_setF_same _ hx]

theorem exec_loadDone_ends (hch : ch < 96) (hp : pendOf s ch = pendLOADING) :
    ∃ t, exec (.loadDone ch) s = .next t ∧ rf t (CH_TR_CMD_STAT_LAST_OP ch) = 1 ∧ rb t (CH_TR_EVT_CMD_DONE ch) = true ∧ onlyPort ch s t
      ∧ (∀ i, i < 12 → reg t (CH_TR_PMEAS ch i) = BitVec.ofNat 32 (fieldAt (sha384 (chanOf s ch).pend) (4 * i) 4))
      ∧ ((chanOf s ch).loadCode = 0 → pendOf t ch = pendLOADED ∧ rf t (CH_TR_CMD_STAT_LAST_STATUS ch) = 0
          ∧ (chanOf t ch).pend = (chanOf s ch).pend)
      ∧ (0 < (chanOf s ch).loadCode → (chanOf s ch).loadCode < 2 ^ 16 → pendOf t ch = pendEMPTY
          ∧ rf t (CH_TR_CMD_STAT_LAST_STATUS ch) = 0xF ∧ rf t (CH_TR_CMD_STAT_RESULT ch) = (chanOf s ch).loadCode) := by
  by_cases hc : (chanOf s ch).loadCode = 0
  · obtain ⟨hop, hdone, hport, hmeas, hpend, hstatus, -⟩ := loadEnd_shows s hch (x := pendLOADED) (by decide) .ok 0 rfl
      fun _ _ => rfl
    refine ⟨_, exec_loadDone_passes s hch hp hc, hop, hdone, hport, hmeas, fun _ => ⟨hpend, hstatus, ?_⟩, fun h => absurd hc (Nat.ne_of_gt h)⟩
    rw [chanOf_congr (State.cmdEnd_chans _ _ _ _ _), chanOf_congr (State.setF_chans _ _ _), State.measured, chanOf_congr (setDigest_chans _ _ _)]
  · obtain ⟨hop, hdone, hport, hmeas, hpend, hstatus, hresult⟩ := loadEnd_shows s hch (x := pendEMPTY) (by decide) .malformed
      (chanOf s ch).loadCode (slotEmptied_regs (s.measured ch) fun c => { c with pend := [], loadCode := 0 })
      fun _ hj => reg_journal _ 3 244 srcCHAN ch .malformed _ (by decide) hj
    exact ⟨_, exec_loadDone_fails s hch hp hc, hop, hdone, hport, hmeas, fun h => absurd h hc,
      fun _ hlt => ⟨hpend, hstatus, hresult.trans (Nat.mod_eq_of_lt hlt)⟩⟩

/-! ### ACTIVATE and DISCARD (R241, R243, R244) -/

theorem exec_activate_refused (hch : ch < 96) {c : Code} (hc : activateCode s ch = some c) :
    exec (.activate ch) s = .next (s.trellisRefuse ch 2 c) := by
  simp only [exec, execActivate, hch, if_true, hc]

/-- The channels of a list enter SWAP_PENDING. -/
def State.armSwaps (s : State) (l : List Nat) : State := s.each l fun s c => s.setF (CH_TR_STAT_PEND c) pendSWAP

theorem exec_activate_accepted (hch : ch < 96) (hc : activateCode s ch = none) : exec (.activate ch) s
    = .next ((s.armSwaps ((activateSet s ch).filter fun c => pendOf s c = pendLOADED)).cmdEnd (trellisIf ch) 2 .ok) := by
  simp only [exec, execActivate, hch, if_true, hc]
  rfl

theorem pendOf_armSwaps (l : List Nat) (c : Nat) : pendOf (s.armSwaps l) c = if c ∈ l then pendSWAP else pendOf s c := by
  induction l generalizing s with
  | nil => rfl
  | cons x l ih =>
    have hstep : pendOf (s.setF (CH_TR_STAT_PEND x) pendSWAP) c = if c = x then pendSWAP else pendOf s c := by
      split
      · next h => exact h ▸ pendOf_setF_same s (by decide)
      · next h => exact pendOf_congr (reg_setF_ne _ _ _ _ (show CH_TR_STAT x ≠ CH_TR_STAT c by unfold CH_TR_STAT; omega))
    rw [State.armSwaps, State.each, List.foldl_cons]
    refine (ih _).trans ?_
    rw [hstep]
    by_cases hx : c = x <;> by_cases hl : c ∈ l <;> simp [hx, hl]

theorem activateCode_stale {d : Nat} (hd : domOfChan s ch = some d) (hg : rf s (CH_TR_CMD_GEN_GEN ch) ≠ domGen s d) :
    activateCode s ch = some .stale := by
  simp [activateCode, firstCode, hd, hg]

theorem exec_activate_arms (hch : ch < 96) (hc : activateCode s ch = none) :
    ∃ t, exec (.activate ch) s = .next t ∧ rf t (CH_TR_CMD_STAT_LAST_STATUS ch) = 0
      ∧ ∀ c, c < 96 → pendOf t c = if c ∈ activateSet s ch ∧ pendOf s c = pendLOADED then pendSWAP else pendOf s c := by
  refine ⟨_, exec_activate_accepted s hch hc, rf_cmdEnd_status _ (trellisIf_shows ch) 2 .ok 0, fun c _ => ?_⟩
  obtain ⟨hcs, hes⟩ := trellisOutcome_ne_stat ch c
  rw [pendOf_congr (reg_trellisEnd _ _ _ _ hcs hes), pendOf_armSwaps]
  simp only [List.mem_filter, decide_eq_true_eq]

theorem exec_discard_loaded (hch : ch < 96) (hp : pendOf s ch = pendLOADED) :
    exec (.discard ch) s = .next ((s.slotEmptied ch fun c => { c with pend := [] }).cmdEnd (trellisIf ch) 3 .ok) := by
  simp only [exec, execDiscard, hch, hp, if_true]
  rfl

theorem exec_discard_refused (hch : ch < 96) (hp : pendOf s ch ≠ pendLOADED) :
    exec (.discard ch) s = .next (s.trellisRefuse ch 3 .refusedState) := by
  simp only [exec, execDiscard, hch, hp, if_true, if_false]

theorem exec_discard_empties (hch : ch < 96) (hp : pendOf s ch = pendLOADED) :
    ∃ t, exec (.discard ch) s = .next t ∧ pendOf t ch = pendEMPTY ∧ (chanOf t ch).pend = [] ∧ (chanOf t ch).prog = (chanOf s ch).prog
      ∧ rf t (CH_TR_CMD_STAT_LAST_STATUS ch) = 0 ∧ onlyPort ch s t := by
  obtain ⟨hcs, hes⟩ := trellisOutcome_ne_stat ch ch
  have hslot : onlyPort ch s (s.slotEmptied ch fun c => { c with pend := [] }) := onlyPort_setPend s pendEMPTY
  refine ⟨_, exec_discard_loaded s hch hp, ?_, ?_, ?_, rf_cmdEnd_status _ (trellisIf_shows ch) 3 .ok 0, hslot.trans (onlyPort_trellisEnd _ _ _ _)⟩
  · rw [pendOf_congr (reg_trellisEnd _ _ _ _ hcs hes)]
    exact pendOf_setF_same s (by decide)
  all_goals rw [chanOf_congr (State.cmdEnd_chans _ _ _ _ _), State.slotEmptied, chanOf_modChan]
  rfl

end Sys2Proof.Machine
end

section
/-! The swap of a channel's program (R242): what it moves, and what it leaves of the emulated device. -/

namespace Sys2Proof.Machine

variable (s : State) {ch a : Nat}

/-! ### The words of a digest that is moved -/

theorem leNat_leBytes (n v : Nat) : leNat (leBytes n v) = v % 256 ^ n := by
  induction n generalizing v with
  | zero => exact (Nat.mod_one v).symm
  | succ n ih =>
    rw [leBytes, leNat, ih, BitVec.toNat_ofNat, Nat.pow_succ' (m := 256)]
    exact (Nat.mod_mul (a := 256)).symm

/-- One of the words of four bytes that a byte string is made of. -/
theorem slice_flatMap_words {f : Nat → List Byte} (hf : ∀ i, (f i).length = 4) {n i : Nat} (hi : i < n) :
    slice ((List.range n).flatMap f) (4 * i) 4 = f i := by
  have hlen (m : Nat) : ((List.range m).flatMap f).length = 4 * m := by
    induction m with
    | zero => rfl
    | succ m ih => rw [List.range_succ, List.flatMap_append, List.flatMap_singleton, List.length_append, ih, hf, Nat.mul_succ]
  rw [slice_inside (by rw [hlen]; omega)]
  induction n with
  | zero => exact absurd hi (Nat.not_lt_zero i)
  | succ n ih =>
    rw [List.range_succ, List.flatMap_append, List.flatMap_singleton]
    by_cases h : i = n
    · rw [h, List.drop_left' (hlen n), List.take_of_length_le (Nat.le_of_eq (hf n))]
    · rw [List.drop_append_of_le_length (by rw [hlen]; omega), List.take_append_of_le_length (by rw [List.length_drop, hlen]; omega)]
      exact ih (by omega)

/-- A digest that is moved is shown word by word as it stood. -/
theorem ofNat_fieldAt_digestOf (base : Nat → Nat) {i : Nat} (hi : i < 12) :
    BitVec.ofNat 32 (fieldAt (digestOf s base) (4 * i) 4) = reg s (base i) := by
  rw [fieldAt, digestOf, slice_flatMap_words (fun _ => leBytes_length 4 _) hi, leNat_leBytes]
  exact BitVec.eq_of_toNat_eq (by rw [BitVec.toNat_ofNat]; have := (reg s (base i)).isLt; omega)

/-! ### The steps of a swap -/

/-- The program of the pending slot becomes the active one, and its measurement moves with it. -/
def State.programMoved (s : State) (ch : Nat) : State :=
  ((s.setChan ch { chanOf s ch with prog := some (chanOf s ch).pend, pend := [], first := false }).setDigest (CH_TR_MEAS ch)
    (digestOf s (CH_TR_PMEAS ch))).setDigest (CH_TR_PMEAS ch) []

/-- The state of the Trellis and the port's settings follow the new program. -/
def State.bankTurned (s : State) (ch : Nat) (p : Prog) : State :=
  ((((s.setF (CH_TR_STAT_PEND ch) pendEMPTY).raise (CH_TR_STAT_ACTIVE_VALID ch)).setF (CH_TR_STAT_ACTIVE_BANK ch)
    (1 - rf s (CH_TR_STAT_ACTIVE_BANK ch))).setF (CH_TR_STAT_REGIONS ch) p.regionCount).mirrorCfg ch p

/-- The emulated device takes its power-on values. -/
def State.devFresh (s : State) (ch : Nat) : State := (s.emuReset ch true).protoPowerOn ch false

/-- A swap, but for the event and the record of it. -/
def State.swapped (s : State) (ch : Nat) : State :=
  ((s.programMoved ch).bankTurned ch (chanOf s ch).pend).when (chanOf s ch).first (·.devFresh ch)

theorem swap_of_pending (hp : pendOf s ch = pendSWAP) : s.swap ch
    = ((s.swapped ch).raise (CH_TR_EVT_SWAPPED ch)).journalD 3 242 srcCHAN ch 0 0 ((digestOf s (CH_TR_PMEAS ch)).take 8) := by
  have hp' : rf s (CH_TR_STAT_PEND ch) = pendSWAP := hp
  unfold State.swap
  rw [if_neg (not_not_intro hp')]
  rfl

theorem reg_mirrorCfg (p : Prog) (hcfg : CH_PORT_CFG ch ≠ a) (hlat : CH_PORT_LAT ch ≠ a) : reg (s.mirrorCfg ch p) a = reg s a := by
  have hc (u : State) (f : Fld) (v : Nat) (h : f.addr = CH_PORT_CFG ch) : reg (u.setF f v) a = reg u a := reg_setF_ne _ _ _ _ (h ▸ hcfg)
  have hl (u : State) (f : Fld) (v : Nat) (h : f.addr = CH_PORT_LAT ch) : reg (u.setF f v) a = reg u a := reg_setF_ne _ _ _ _ (h ▸ hlat)
  unfold State.mirrorCfg State.setB
  simp only [hl _ (CH_PORT_LAT_MIN_PIN ch) _ rfl, hl _ (CH_PORT_LAT_MIN_SHADOW ch) _ rfl, hc _ (CH_PORT_CFG_MODE ch) _ rfl,
    hc _ (CH_PORT_CFG_START_8D ch) _ rfl, hc _ (CH_PORT_CFG_ADDR4_PON ch) _ rfl, hc _ (CH_PORT_CFG_HOLD_EN ch) _ rfl,
    hc _ (CH_PORT_CFG_ALERT_MODE ch) _ rfl, hc _ (CH_PORT_CFG_FMAX ch) _ rfl, hc _ (CH_PORT_CFG_POISON_FILL ch) _ rfl,
    hc _ (CH_PORT_CFG_ESPI_IO ch) _ rfl, hc _ (CH_PORT_CFG_ESPI_FREQ ch) _ rfl]

theorem mirrorCfg_chans (p : Prog) : (s.mirrorCfg ch p).chans = s.chans := by simp [State.mirrorCfg]

theorem reg_bankTurned (p : Prog) (hst : CH_TR_STAT ch ≠ a) (hcfg : CH_PORT_CFG ch ≠ a) (hlat : CH_PORT_LAT ch ≠ a) :
    reg (s.bankTurned ch p) a = reg s a := by
  unfold State.bankTurned State.raise
  rw [reg_mirrorCfg _ _ hcfg hlat, reg_setF_ne _ _ _ _ hst, reg_setF_ne _ _ _ _ hst, reg_setF_ne _ _ _ _ hst, reg_setF_ne _ _ _ _ hst]

theorem reg_programMoved_off (hm : ∀ i < 12, CH_TR_MEAS ch i ≠ a) (hp : ∀ i < 12, CH_TR_PMEAS ch i ≠ a) :
    reg (s.programMoved ch) a = reg s a :=
  (reg_setDigest_off _ _ hp).trans (reg_setDigest_off _ _ hm)

theorem reg_devFresh (hsreg : CH_TR_SREG ch ≠ a) (hstat : CH_PORT_STAT ch ≠ a) : reg (s.devFresh ch) a = reg s a :=
  (reg_protoPowerOn _ _ hstat).trans (reg_emuReset _ _ hsreg)


theorem chanOf_devFresh : (chanOf (s.devFresh ch) ch).prog = (chanOf s ch).prog ∧ (chanOf (s.devFresh ch) ch).pend = (chanOf s ch).pend := by
  have hemu : (s.emuReset ch true).chans = s.chans := State.each_keeps State.chans _ _ (fun u _ => State.setF_chans u _ _) s
  have hinner (u : State) : (((((((u.setB (CH_PORT_STAT_ADDR4 ch) (progOf u ch).addr4Pon).setF (CH_PORT_STAT_QPI ch) 0).setB
    (CH_PORT_STAT_OCTAL_8D ch) (progOf u ch).start8d).setF (CH_PORT_STAT_CONT_READ ch) 0).setF (CH_PORT_STAT_WEL ch) 0).setF
    (CH_PORT_STAT_SUSPENDED ch) 0).setF (CH_PORT_STAT_WIP ch) 0).chans = u.chans := rfl
  unfold State.devFresh State.protoPowerOn
  simp only [Bool.false_eq_true, if_false, chanOf_modChan, chanOf_congr (hinner _), chanOf_congr hemu, and_self]

/-- Beside the status and the stored registers of the device, a swap leaves to each register what the move and the turn of the bank gave it. -/
theorem reg_swapped (hsreg : CH_TR_SREG ch ≠ a) (hstat : CH_PORT_STAT ch ≠ a) :
    reg (s.swapped ch) a = reg ((s.programMoved ch).bankTurned ch (chanOf s ch).pend) a :=
  State.when_keeps (reg · a) _ _ (fun u => reg_devFresh u hsreg hstat) _

theorem reg_swapped_meas {i : Nat} (hi : i < 12) : reg (s.swapped ch) (CH_TR_MEAS ch i) = reg s (CH_TR_PMEAS ch i) := by
  have hne : CH_TR_SREG ch ≠ CH_TR_MEAS ch i ∧ CH_PORT_STAT ch ≠ CH_TR_MEAS ch i ∧ CH_TR_STAT ch ≠ CH_TR_MEAS ch i
      ∧ CH_PORT_CFG ch ≠ CH_TR_MEAS ch i ∧ CH_PORT_LAT ch ≠ CH_TR_MEAS ch i ∧ ∀ j < 12, CH_TR_PMEAS ch j ≠ CH_TR_MEAS ch i := by
    unfold CH_TR_SREG CH_PORT_STAT CH_TR_STAT CH_PORT_CFG CH_PORT_LAT CH_TR_PMEAS CH_TR_MEAS
    refine ⟨?_, ?_, ?_, ?_, ?_, fun j hj => ?_⟩ <;> omega
  obtain ⟨hsreg, hport, hst, hcfg, hlat, hp⟩ := hne
  rw [reg_swapped _ hsreg hport, reg_bankTurned _ _ hst hcfg hlat, State.programMoved, reg_setDigest_off _ _ hp,
    reg_setDigest_same _ (trMeas_injective ch) _ hi]
  exact ofNat_fieldAt_digestOf s (CH_TR_PMEAS ch) hi

theorem bankTurned_shows (p : Prog) : pendOf (s.bankTurned ch p) ch = pendEMPTY
    ∧ rf (s.bankTurned ch p) (CH_TR_STAT_ACTIVE_BANK ch) = 1 - rf s (CH_TR_STAT_ACTIVE_BANK ch) := by
  have hmir (u : State) : reg (u.mirrorCfg ch p) (CH_TR_STAT ch) = reg u (CH_TR_STAT ch) :=
    reg_mirrorCfg u p (by unfold CH_PORT_CFG CH_TR_STAT; omega) (by unfold CH_PORT_LAT CH_TR_STAT; omega)
  unfold State.bankTurned State.raise
  constructor
  · rw [pendOf_congr (hmir _), pendOf, CH_TR_STAT_PEND, CH_TR_STAT_REGIONS, CH_TR_STAT_ACTIVE_BANK, CH_TR_STAT_ACTIVE_VALID,
      rf_setF_ne _ _ _ _ (.inr (show (8 + 3 ≤ 16 ∨ 16 + 8 ≤ 8) ∧ 8 + 3 ≤ 32 by decide)),
      rf_setF_ne _ _ _ _ (.inr (show (8 + 3 ≤ 6 ∨ 6 + 1 ≤ 8) ∧ 8 + 3 ≤ 32 by decide)),
      rf_setF_ne _ _ _ _ (.inr (show (8 + 3 ≤ 7 ∨ 7 + 1 ≤ 8) ∧ 8 + 3 ≤ 32 by decide))]
    exact rf_setF_same _ _ _ (show 8 + 3 ≤ 32 by decide)
  · rw [rf_congr_reg (hmir _), rf_setF_ne _ _ _ _ (.inr (show (6 + 1 ≤ 16 ∨ 16 + 8 ≤ 6) ∧ 6 + 1 ≤ 32 by decide))]
    exact (rf_setF_same _ _ _ (show 6 + 1 ≤ 32 by decide)).trans (Nat.mod_eq_of_lt (show _ < 2 by omega))

theorem bankTurned_chans (p : Prog) : (s.bankTurned ch p).chans = s.chans := by simp [State.bankTurned, mirrorCfg_chans]

theorem programMoved_chan : chanOf (s.programMoved ch) ch = { chanOf s ch with prog := some (chanOf s ch).pend, pend := [], first := false } := by
  rw [State.programMoved, chanOf_congr (setDigest_chans _ _ _), chanOf_congr (setDigest_chans _ _ _), chanOf_setChan]

theorem swapped_chan : (chanOf (s.swapped ch) ch).prog = some (chanOf s ch).pend ∧ (chanOf (s.swapped ch) ch).pend = [] := by
  have hturned : chanOf ((s.programMoved ch).bankTurned ch (chanOf s ch).pend) ch = chanOf (s.programMoved ch) ch :=
    chanOf_congr (bankTurned_chans _ _) ch
  have hprog := State.when_keeps (fun u : State => (chanOf u ch).prog) (chanOf s ch).first (·.devFresh ch) (fun u => (chanOf_devFresh u).1)
  have hpend := State.when_keeps (fun u : State => (chanOf u ch).pend) (chanOf s ch).first (·.devFresh ch) (fun u => (chanOf_devFresh u).2)
  unfold State.swapped
  refine ⟨(hprog _).trans ?_, (hpend _).trans ?_⟩
  all_goals rw [hturned, programMoved_chan]

/-! ### What a swap shows -/

/-- A swap as the registers outside the journal show it: what is swapped, and SWAPPED. -/
theorem reg_swap (hp : pendOf s ch = pendSWAP) (hevt : CH_TR_EVT ch ≠ a) (hj : offJournal a) : reg (s.swap ch) a = reg (s.swapped ch) a := by
  rw [swap_of_pending s hp, reg_journalD _ _ _ _ _ _ _ _ _ (by decide) hj, State.raise, reg_setF_ne _ _ _ _ hevt]

theorem onlyPort_swap (hp : pendOf s ch = pendSWAP) : onlyPort ch s (s.swap ch) := by
  intro a ha hj
  obtain ⟨hst, -, hevt, hcfg, hlat, hm, hpm⟩ := trellisRegs_ne ha
  obtain ⟨hport, -, -, -, -, -, -, -, hsreg⟩ := portRegs_ne ha
  rw [reg_swap s hp hevt hj, reg_swapped _ hsreg hport, reg_bankTurned _ _ hst hcfg hlat, reg_programMoved_off _ hm hpm]

/-- The registers that the swap of an active program leaves, which the emulated device shows. -/
theorem trellisRegs_device_ne (ch : Nat) {a : Nat} (h : a = CH_TR_SREG ch ∨ a = CH_PORT_STAT ch) : CH_TR_STAT ch ≠ a ∧ CH_TR_EVT ch ≠ a
    ∧ CH_PORT_CFG ch ≠ a ∧ CH_PORT_LAT ch ≠ a ∧ (∀ i < 12, CH_TR_MEAS ch i ≠ a) ∧ ∀ i < 12, CH_TR_PMEAS ch i ≠ a := by
  unfold CH_TR_SREG CH_PORT_STAT at h
  unfold CH_TR_STAT CH_TR_EVT CH_PORT_CFG CH_PORT_LAT CH_TR_MEAS CH_TR_PMEAS
  refine ⟨?_, ?_, ?_, ?_, fun i hi => ?_, fun i hi => ?_⟩ <;> omega

/-- Where a program was active before, a swap leaves the state of the emulated device. -/
theorem reg_swap_device (hch : ch < 96) (hp : pendOf s ch = pendSWAP) (hf : (chanOf s ch).first = false)
    (h : a = CH_TR_SREG ch ∨ a = CH_PORT_STAT ch) : reg (s.swap ch) a = reg s a := by
  obtain ⟨hst, hevt, hcfg, hlat, hm, hpm⟩ := trellisRegs_device_ne ch h
  have hj : offJournal a := by
    unfold offJournal
    unfold CH_TR_SREG CH_PORT_STAT at h
    omega
  rw [reg_swap s hp hevt hj, State.swapped, hf]
  exact (reg_bankTurned _ _ hst hcfg hlat).trans (reg_programMoved_off _ hm hpm)

theorem reg_swap_stat (hch : ch < 96) (hp : pendOf s ch = pendSWAP) :
    reg (s.swap ch) (CH_TR_STAT ch) = reg ((s.programMoved ch).bankTurned ch (chanOf s ch).pend) (CH_TR_STAT ch) := by
  obtain ⟨hj, -⟩ := trellisRegs_offJournal hch
  obtain ⟨-, hevt⟩ := trellisOutcome_ne_stat ch ch
  rw [reg_swap s hp hevt hj, reg_swapped _ (by unfold CH_TR_SREG CH_TR_STAT; omega) (by unfold CH_PORT_STAT CH_TR_STAT; omega)]

/-- A swap turns the bank and empties the slot. -/
theorem swap_shows_stat (hch : ch < 96) (hp : pendOf s ch = pendSWAP) : pendOf (s.swap ch) ch = pendEMPTY
    ∧ rf (s.swap ch) (CH_TR_STAT_ACTIVE_BANK ch) = 1 - rf s (CH_TR_STAT_ACTIVE_BANK ch) := by
  have hmoved : reg (s.programMoved ch) (CH_TR_STAT ch) = reg s (CH_TR_STAT ch) := by
    refine reg_programMoved_off s (fun i hi => ?_) fun i hi => ?_
    · unfold CH_TR_MEAS CH_TR_STAT; omega
    · unfold CH_TR_PMEAS CH_TR_STAT; omega
  obtain ⟨hpend, hbank⟩ := bankTurned_shows (s.programMoved ch) (ch := ch) (chanOf s ch).pend
  have hbit {t u : State} (h : reg t (CH_TR_STAT ch) = reg u (CH_TR_STAT ch)) : rf t (CH_TR_STAT_ACTIVE_BANK ch) = rf u (CH_TR_STAT_ACTIVE_BANK ch) :=
    rf_congr_reg h
  have hstat := reg_swap_stat s hch hp
  exact ⟨(pendOf_congr hstat).trans hpend, ((hbit hstat).trans hbank).trans (congrArg (1 - ·) (hbit hmoved))⟩

theorem swap_shows_meas (hch : ch < 96) (hp : pendOf s ch = pendSWAP) {i : Nat} (hi : i < 12) :
    reg (s.swap ch) (CH_TR_MEAS ch i) = reg s (CH_TR_PMEAS ch i) := by
  obtain ⟨-, -, -, hj, -⟩ := trellisRegs_offJournal hch
  rw [reg_swap s hp (by unfold CH_TR_EVT CH_TR_MEAS; omega) (hj i hi), reg_swapped_meas s hi]

theorem swap_shows_event (hch : ch < 96) (hp : pendOf s ch = pendSWAP) : rb (s.swap ch) (CH_TR_EVT_SWAPPED ch) = true := by
  obtain ⟨-, -, hj, -⟩ := trellisRegs_offJournal hch
  rw [swap_of_pending s hp, rb_journalD _ _ _ _ _ _ _ _ _ (by decide) hj]
  exact rb_raise_same _ rfl (show 1 + 1 ≤ 32 by decide)

theorem chanOf_swap (hp : pendOf s ch = pendSWAP) : chanOf (s.swap ch) ch = chanOf (s.swapped ch) ch := by
  rw [swap_of_pending s hp]
  exact chanOf_congr (by simp) ch

theorem exec_swap_channel (hch : ch < 96) : exec (.swap ch) s = .next (s.swap ch) := by simp only [exec, execSwap, hch, if_true]

theorem swap_not_pending (hp : pendOf s ch ≠ pendSWAP) : s.swap ch = s := if_pos hp

/-- Settles O36: each command is the rule of its own above; a refusal leaves the channel (`trellisRefuse_shows`), and a swap leaves what the
emulated device shows but at the first activation (`reg_swap_device`). -/
theorem trellisCommandsAndSwap : Obligations.TrellisCommandsAndSwap := by
  refine fun s ch hch he => ⟨fun len hlo hhi ha ht => ⟨fun hl hw => ?load, fun hw => ?delayed⟩, fun len hlen => ?short, fun hp => ?done,
    fun hc => ?act, fun d hd hg => ?stale, fun hp => ?discard, fun hp => ?empty, fun hp => ?swap, fun hp => ?idle⟩
  case load => exact exec_load_loads s hch he ⟨hlo, hhi, ha, ht⟩ hl hw
  case delayed => exact exec_load_delayed s hch he ⟨hlo, hhi, ha, ht⟩ hw
  case short =>
    obtain ⟨hstatus, hchans, hport⟩ := trellisRefuse_shows s hch 1 (c := .malformed) (by decide)
    exact ⟨_, exec_load_refused s hch (trLoadCode_badLength s hlen), hstatus, chanOf_congr hchans ch, hport⟩
  case done => exact exec_loadDone_ends s hch hp
  case act => exact exec_activate_arms s hch hc
  case stale => exact ⟨_, exec_activate_refused s hch (activateCode_stale s hd hg), trellisRefuse_shows s hch 2 (by decide)⟩
  case discard => exact exec_discard_empties s hch hp
  case empty =>
    obtain ⟨hstatus, hchans, -⟩ := trellisRefuse_shows s hch 3 (c := .refusedState) (by decide)
    exact ⟨_, exec_discard_refused s hch hp, hstatus, hchans⟩
  case swap =>
    obtain ⟨hprog, hpend⟩ := swapped_chan s (ch := ch)
    obtain ⟨hslot, hbank⟩ := swap_shows_stat s hch hp
    rw [← chanOf_swap s hp] at hprog hpend
    exact ⟨_, exec_swap_channel s hch, hprog, hpend, hslot, hbank, swap_shows_event s hch hp, fun i hi => swap_shows_meas s hch hp hi,
      onlyPort_swap s hp, fun hf => ⟨reg_swap_device s hch hp hf (.inl rfl), reg_swap_device s hch hp hf (.inr rfl)⟩⟩
  case idle => rw [exec_swap_channel s hch, swap_not_pending s hp]

end Sys2Proof.Machine
end

section
/-! Frames of the classes without array data (R219, R231, R235, R238, R239): which one is executed, what its decision shows, and what each
class does to the emulated device. -/

namespace Sys2Proof.Machine

variable (s : State) {f : Frame} {d : Dec} {cls ch : Nat}

/-! ### The registers of a decision -/

theorem portAddrs_ne_stat (ch : Nat) : CH_PORT_EVT ch ≠ CH_PORT_STAT ch ∧ CH_ALERT_CTL ch ≠ CH_PORT_STAT ch ∧ CH_TR_EVT ch ≠ CH_PORT_STAT ch
    ∧ CH_TR_LASTDEC ch ≠ CH_PORT_STAT ch := by
  unfold CH_PORT_EVT CH_ALERT_CTL CH_TR_EVT CH_TR_LASTDEC CH_PORT_STAT
  omega

theorem portAddrs_ne_sreg (ch : Nat) : CH_PORT_EVT ch ≠ CH_TR_SREG ch ∧ CH_ALERT_CTL ch ≠ CH_TR_SREG ch ∧ CH_TR_EVT ch ≠ CH_TR_SREG ch
    ∧ CH_TR_LASTDEC ch ≠ CH_TR_SREG ch ∧ CH_PORT_STAT ch ≠ CH_TR_SREG ch := by
  unfold CH_PORT_EVT CH_ALERT_CTL CH_TR_EVT CH_TR_LASTDEC CH_TR_SREG CH_PORT_STAT
  omega

/-- Two bits of a register share nothing. -/
theorem bit_apart {a i j : Nat} (h : i ≠ j) (hj : j < 32) : Fld.apart ⟨a, i, 1⟩ ⟨a, j, 1⟩ :=
  .inr (show (j + 1 ≤ i ∨ i + 1 ≤ j) ∧ j + 1 ≤ 32 by omega)

/-! ### The alert (R201, R202) -/

/-- An alert writes its ball, its cause and its event. -/
theorem rf_alert (cause : Nat) {g : Fld} (hball : (CH_PORT_STAT_ALERT_OUT ch).apart g) (hctl : CH_ALERT_CTL ch ≠ g.addr)
    (hevt : CH_PORT_EVT ch ≠ g.addr) : rf (s.alert ch cause) g = rf s g := by
  have hshown (u : State) : rf (if alertEnabled u ch then (u.raise (CH_PORT_STAT_ALERT_OUT ch)).raise (CH_PORT_EVT_ALERT ch) else u) g = rf u g := by
    split
    · exact (rf_setF_ne _ _ _ _ (.inl hevt)).trans (rf_setF_ne _ _ _ _ hball)
    · rfl
  have hheld : rf (if rf s (CH_ALERT_CTL_CAUSE ch) = 0 then s.setF (CH_ALERT_CTL_CAUSE ch) cause else s) g = rf s g := by
    split
    · exact rf_setF_ne _ _ _ _ (.inl hctl)
    · rfl
  unfold State.alert
  by_cases he : (progOf s ch).mode = modeESPI
  · rw [if_pos he]
    exact rf_setF_ne _ _ _ _ (.inl hevt)
  · rw [if_neg he]
    exact (hshown _).trans hheld

/-- An alert leaves whatever a write of a field leaves. -/
theorem alert_keeps {β : Type} (g : State → β) (hg : ∀ u fld v, g (State.setF u fld v) = g u) (cause : Nat) : g (s.alert ch cause) = g s := by
  unfold State.alert State.raise
  dsimp only
  split
  · exact hg _ _ _
  · split <;> split <;> simp only [hg]

/-! ### The decision of a frame (R235) -/

/-- The decision of a frame of a class without array data, as the port shows it: a mismatch, the decision word, and the alert asked for. -/
def State.decided (s : State) (f : Frame) (d : Dec) : State :=
  ((s.when (decMismatch s f) (·.decideMismatch f.ch)).lastDec f.ch d.opc d.cls (d.p.globalAct d.cls) 0xFF).alertIf f.ch
    (alertAsked d (d.p.globalAct d.cls))

theorem plain_emulate (ha : d.p.globalAct d.cls % 8 = acEMULATE) (emulate denied : State → State) :
    s.plain f d emulate denied = emulate (s.decided f d) := if_pos ha

theorem rf_lastDec (o c a r : Nat) {g : Fld} (h : CH_TR_LASTDEC ch ≠ g.addr) : rf (s.lastDec ch o c a r) g = rf s g := by
  unfold State.lastDec
  rw [rf_setF_ne _ _ _ _ (.inl h), rf_setF_ne _ _ _ _ (.inl h), rf_setF_ne _ _ _ _ (.inl h), rf_setF_ne _ _ _ _ (.inl h)]

theorem rf_decideMismatch {g : Fld} (h : CH_TR_EVT ch ≠ g.addr) (hj : offJournal g.addr) : rf (s.decideMismatch ch) g = rf s g :=
  (rf_journal _ _ _ _ _ _ _ (by decide) hj).trans (rf_setF_ne _ _ _ _ (.inl h))

theorem rf_alertIf (b : Bool) {g : Fld} (hball : (CH_PORT_STAT_ALERT_OUT ch).apart g) (hctl : CH_ALERT_CTL ch ≠ g.addr)
    (hevt : CH_PORT_EVT ch ≠ g.addr) : rf (s.alertIf ch b) g = rf s g := by
  unfold State.alertIf
  split
  · exact rf_alert s 3 hball hctl hevt
  · rfl

theorem alertIf_keeps {β : Type} (g : State → β) (hg : ∀ u fld v, g (State.setF u fld v) = g u) (b : Bool) : g (s.alertIf ch b) = g s := by
  unfold State.alertIf
  split
  · exact alert_keeps s g hg 3
  · rfl

/-- A decision leaves every field beside the words in which it is shown. -/
theorem rf_decided {g : Fld} (hball : (CH_PORT_STAT_ALERT_OUT f.ch).apart g) (hctl : CH_ALERT_CTL f.ch ≠ g.addr)
    (hevt : CH_PORT_EVT f.ch ≠ g.addr) (hdec : CH_TR_LASTDEC f.ch ≠ g.addr) (htr : CH_TR_EVT f.ch ≠ g.addr) (hj : offJournal g.addr) :
    rf (s.decided f d) g = rf s g := by
  unfold State.decided
  rw [rf_alertIf _ _ hball hctl hevt, rf_lastDec _ _ _ _ _ hdec]
  exact State.when_keeps (rf · g) (decMismatch s f) (·.decideMismatch f.ch) (fun u => rf_decideMismatch u htr hj) s

/-- Of the status of its port a decision changes no more than the alert's ball. -/
theorem rb_decided_stat (hch : f.ch < 96) {i : Nat} (hi : i < 15) :
    rb (s.decided f d) ⟨CH_PORT_STAT f.ch, i, 1⟩ = rb s ⟨CH_PORT_STAT f.ch, i, 1⟩ := by
  obtain ⟨hevt, hctl, htr, hdec⟩ := portAddrs_ne_stat f.ch
  exact congrArg (· != 0) (rf_decided s (bit_apart (by omega) (by omega)) hctl hevt hdec htr (offJournal_of_port hch).1)

theorem decided_chans : (s.decided f d).chans = s.chans :=
  (alertIf_keeps _ State.chans (fun _ _ _ => rfl) _).trans
    (State.when_keeps State.chans (decMismatch s f) (·.decideMismatch f.ch) (fun u => by simp [State.decideMismatch]) s)

theorem decided_orang : (s.decided f d).orang = s.orang :=
  (alertIf_keeps _ State.orang (fun _ _ _ => rfl) _).trans
    (State.when_keeps State.orang (decMismatch s f) (·.decideMismatch f.ch) (fun u => by simp [State.decideMismatch]) s)

/-! ### The frame that is executed (R218, R219) -/

theorem frameDecode_shape (h : frameDecode s f = some d) : f.ch < 96 ∧ d.p = progOf s f.ch := by
  unfold frameDecode at h
  dsimp only at h
  split at h
  · next hp =>
    split at h
    · cases h
      exact ⟨portLive_lt (Bool.and_eq_true_iff.1 (Bool.and_eq_true_iff.1 hp).1).1, rfl⟩
    · cases h
  · cases h

theorem onFrame_executes (h : executes s f cls d) (run : State → Dec → State) : s.onFrame f cls run = run (atFrame s f) d := by
  obtain ⟨hd, hc, hb⟩ := h
  unfold State.onFrame
  simp only [hd, hc, ne_eq, not_true_eq_false, if_false, hb, Bool.false_eq_true]
  rfl

/-- The channel of a frame that is decided: RESET_ENABLE is disarmed, and all else is as it was (R239). -/
theorem chanOf_decided : chanOf ((atFrame s f).decided f d) f.ch = { chanOf s f.ch with rstArmed := false } :=
  (chanOf_congr (decided_chans _) _).trans (chanOf_modChan _ _)

theorem progOf_decided : progOf ((atFrame s f).decided f d) f.ch = progOf s f.ch := by rw [progOf, chanOf_decided, progOf]

theorem frame_orang : ((atFrame s f).decided f d).orang = s.orang := decided_orang _

section
variable {s} (h : emulated s f cls d)
include h

theorem emulated_shape : f.ch < 96 ∧ d.p = progOf s f.ch := by
  obtain ⟨⟨hd, -⟩, -⟩ := h
  exact frameDecode_shape s hd

theorem emulated_lt : f.ch < 96 := (emulated_shape h).1

theorem emulated_complete : complete f = true := by
  obtain ⟨-, hc, -⟩ := h
  exact hc

theorem emulated_action : d.p.globalAct cls % 8 = acEMULATE := by
  obtain ⟨-, -, -, ha⟩ := h
  exact ha

theorem onFrame_emulated (run : State → Dec → State) : s.onFrame f cls run = run (atFrame s f) d := by
  obtain ⟨hex, -⟩ := h
  exact onFrame_executes s hex run

/-- A frame of a class that is EMULATEd has the effect of its class on the state that shows its decision. -/
theorem plain_emulated (t : State) (emulate denied : State → State) : t.plain f d emulate denied = emulate (t.decided f d) := by
  obtain ⟨⟨-, hcls, -⟩, -, -, ha⟩ := h
  exact plain_emulate t (by rw [hcls]; exact ha) emulate denied

end

/-! ### What the answer to a frame rests on (R184, R225) -/

theorem heldOf_congr {s t : State} (h : rb t (CH_PORT_STAT_QPI f.ch) = rb s (CH_PORT_STAT_QPI f.ch)) (i : Nat) : held t f d i = held s f d i := by
  simp [held, dq23Free, h]

theorem outLen_congr {s t : State} (h : rb t (CH_PORT_STAT_QPI f.ch) = rb s (CH_PORT_STAT_QPI f.ch)) : outLen t f d = outLen s f d := by
  simp [outLen, heldOf_congr h]

theorem dataIn_congr {s t : State} (h : rb t (CH_PORT_STAT_QPI f.ch) = rb s (CH_PORT_STAT_QPI f.ch)) : dataIn t f d = dataIn s f d := by
  simp [dataIn, heldOf_congr h]

theorem outLen_decided (hch : f.ch < 96) : outLen ((atFrame s f).decided f d) f d = outLen (atFrame s f) f d :=
  outLen_congr (rb_decided_stat _ hch (by decide))

theorem dataIn_decided (hch : f.ch < 96) : dataIn ((atFrame s f).decided f d) f d = dataIn (atFrame s f) f d :=
  dataIn_congr (rb_decided_stat _ hch (by decide))

/-- An emulated register reads the program, the registers and the operations under way, and no more. -/
theorem emuReg_atFrame (r : Nat) : emuReg (atFrame s f) f.ch r = emuReg s f.ch r := by
  have hchan : chanOf (atFrame s f) f.ch = { chanOf s f.ch with rstArmed := false } := chanOf_modChan _ _
  have hprog : progOf (atFrame s f) f.ch = progOf s f.ch := by rw [progOf, hchan, progOf]
  have hsus (kinds : List Nat) : opSuspended (atFrame s f) f.ch kinds = opSuspended s f.ch kinds := by rw [opSuspended, hchan, opSuspended]
  have hrole (i : Nat) : roleState (atFrame s f) f.ch i = roleState s f.ch i := by
    unfold roleState
    simp only [hsus]
    rfl
  unfold emuReg
  simp only [hprog, hrole]
  rfl

theorem shiftOut_shows (bs : List Byte) (h : 0 < bs.length) : (s.shiftOut ch bs).out = .bytes bs ∧ (s.shiftOut ch bs).orang = s.orang := by
  unfold State.shiftOut
  rw [if_neg (by simpa using List.length_pos_iff.1 h)]
  exact ⟨rfl, by simp⟩

/-! ### The classes without an argument (R238, R239) -/

theorem rb_setF_zero {g : Fld} (hb : g.lo + g.wid ≤ 32) : rb (s.setF g 0) g = false := by rw [rb_setF_same _ _ _ hb, Nat.zero_mod]; rfl

section
variable {s}

theorem exec_writeEnable_emulated (h : emulated s f 4 d) :
    exec (.writeEnable f) s = .next (((atFrame s f).decided f d).raise (CH_PORT_STAT_WEL f.ch)) := by
  simp only [exec, execWriteEnable, onFrame_emulated h, emulated_complete h, if_true, plain_emulated h]

theorem exec_writeDisable_emulated (h : emulated s f 5 d) :
    exec (.writeDisable f) s = .next (((atFrame s f).decided f d).setF (CH_PORT_STAT_WEL f.ch) 0) := by
  simp only [exec, execWriteDisable, onFrame_emulated h, emulated_complete h, if_true, plain_emulated h]

theorem exec_resetEnable_emulated (h : emulated s f 12 d) :
    exec (.resetEnable f) s = .next (((atFrame s f).decided f d).modChan f.ch fun c => { c with rstArmed := true }) := by
  simp only [exec, execResetEnable, onFrame_emulated h, emulated_complete h, if_true, plain_emulated h]

theorem exec_flashReset_emulated (h : emulated s f 13 d) (ha : rowArg d.row = 0 ∨ (chanOf s f.ch).rstArmed = true) :
    exec (.flashReset f) s = .next (((atFrame s f).decided f d).devReset f.ch) := by
  have harmed : (decide (rowArg d.row = 0) || (chanOf s f.ch).rstArmed) = true := by simpa using ha
  simp only [exec, execFlashReset, onFrame_emulated h, emulated_complete h, harmed, Bool.and_self, if_true, plain_emulated h]

theorem exec_readStatus_emulated (h : emulated s f 6 d) : exec (.readStatus f) s = .next (((atFrame s f).decided f d).shiftOut f.ch
    (List.replicate (outLen (atFrame s f) f d) (BitVec.ofNat 8 (emuReg s f.ch (rowArg d.row))))) := by
  simp only [exec, execReadStatus, onFrame_emulated h, plain_emulated h, outLen_decided s (emulated_lt h), emuReg_atFrame]

theorem exec_readId_emulated (h : emulated s f 8 d) : exec (.readId f) s = .next (((atFrame s f).decided f d).shiftOut f.ch
    ((List.range (outLen (atFrame s f) f d)).map fun i => d.p.jedec.getD i 0)) := by
  simp only [exec, execReadId, onFrame_emulated h, plain_emulated h, outLen_decided s (emulated_lt h)]

/-- A MODE row that needs no WEL has the effect of its sub-operation. -/
theorem modeOp_emulated (h : emulated s f 14 d) (hw : rowNeedsWel d.row = false) {sub : Nat} (ha : rowArg d.row = sub) (eff : State → State) :
    s.modeOp f sub eff = eff ((atFrame s f).decided f d) := by
  simp only [State.modeOp, onFrame_emulated h, ha, ne_eq, not_true_eq_false, if_false, emulated_complete h, hw, Bool.not_true, Bool.false_and,
    Bool.or_self, Bool.false_eq_true, plain_emulated h]

theorem exec_mode_emulated (h : emulated s f 14 d) (hw : rowNeedsWel d.row = false) {i : Instr} {sub : Nat} {eff : State → State}
    (hi : exec i s = .next (s.modeOp f sub eff)) (ha : rowArg d.row = sub) : exec i s = .next (eff ((atFrame s f).decided f d)) := by
  rw [hi, modeOp_emulated h hw ha]

end

/-- A reset of the emulated device disarms RESET_ENABLE (R239). -/
theorem devReset_disarms : (chanOf (s.devReset ch) ch).rstArmed = false := by
  have hespi (u : State) : (u.espiReset ch).chans = u.chans := by
    unfold State.espiReset
    split <;> rfl
  have hemu (u : State) : (u.emuReset ch false).chans = u.chans := State.each_keeps State.chans _ _ (fun t _ => State.setF_chans t _ _) u
  unfold State.devReset
  dsimp only
  rw [chanOf_congr (hespi _), chanOf_congr (State.raise_chans _ _), chanOf_congr (State.setF_chans _ _ _), chanOf_modChan, chanOf_congr (hemu _)]
  dsimp only
  unfold State.protoPowerOn
  dsimp only
  rw [chanOf_modChan]

/-! ### The stored role bits (R225) -/

theorem progOf_setRole (role : Nat) (b : Bool) : progOf (s.setRole ch role b) ch = progOf s ch := by
  have hchans : (s.setRole ch role b).chans = s.chans := by
    unfold State.setRole
    dsimp only
    split <;> rfl
  rw [progOf, chanOf_congr hchans, progOf]

/-- A stored role bit shows what it was given. -/
theorem roleBit_setRole {role : Nat} (hr : (progOf s ch).hasRole role = true) (hb : (progOf s ch).role role < 32) (b dflt : Bool) :
    roleBit (s.setRole ch role b) ch role dflt = b := by
  have hreg : 8 * ((progOf s ch).role role / 8) + 8 ≤ 32 := by omega
  unfold roleBit
  simp only [progOf_setRole, hr, if_true]
  unfold State.setRole
  simp only [hr, if_true]
  rw [rf_setF_same _ _ _ (show 8 * ((progOf s ch).role role / 8) + 8 ≤ 32 from hreg), Nat.testBit_mod_two_pow, setBits_testBit]
  have hbit : (progOf s ch).role role % 8 < 8 := Nat.mod_lt _ (by decide)
  simp only [sregFld, hbit, decide_true, Bool.true_and, Nat.le_refl, Nat.lt_succ_self, and_self, if_true, Nat.sub_self]
  cases b <;> rfl

/-- Settles O30: a frame that is EMULATEd first shows its decision (`plain_emulated`), which leaves the device as it is (`rb_decided_stat`), and
then has the effect of its class. -/
theorem emulatedFrames : Obligations.EmulatedFrames := by
  refine fun s f d => ⟨fun h => ?enable, fun h => ?disable, fun h => ?arm, fun h ha => ?reset, fun h hn => ?status, fun h hn => ?jedec,
    fun h hw => ⟨fun ha => ?addr4Set, fun ha => ?addr4Clear, fun ha => ?qpiSet, fun ha => ?qpiClear, fun ha => ?octalSet, fun ha => ?octalClear,
      fun ha hr hb => ?failClear⟩⟩
  case enable => exact ⟨_, exec_writeEnable_emulated h, rb_raise_same _ rfl (show 7 + 1 ≤ 32 by decide), frame_orang s⟩
  case disable => exact ⟨_, exec_writeDisable_emulated h, rb_setF_zero _ (show 7 + 1 ≤ 32 by decide), frame_orang s⟩
  case arm => exact ⟨_, exec_resetEnable_emulated h, by rw [chanOf_modChan], frame_orang s⟩
  case reset =>
    obtain ⟨hwel, -, hsus, -⟩ := devReset_shows ((atFrame s f).decided f d) (ch := f.ch)
    exact ⟨_, exec_flashReset_emulated h ha, hwel, hsus, rb_devReset_hostReset _, devReset_disarms _, (devReset_orang _).trans (frame_orang s)⟩
  case status =>
    obtain ⟨hout, horang⟩ := shiftOut_shows ((atFrame s f).decided f d) (ch := f.ch) (List.replicate (outLen (atFrame s f) f d)
      (BitVec.ofNat 8 (emuReg s f.ch (rowArg d.row)))) (by rwa [List.length_replicate])
    exact ⟨_, exec_readStatus_emulated h, hout, horang.trans (frame_orang s)⟩
  case jedec =>
    obtain ⟨hout, horang⟩ := shiftOut_shows ((atFrame s f).decided f d) (ch := f.ch) ((List.range (outLen (atFrame s f) f d)).map fun i =>
      d.p.jedec.getD i 0) (by rwa [List.length_map, List.length_range])
    exact ⟨_, exec_readId_emulated h, hout, horang.trans (frame_orang s)⟩
  case addr4Set => exact ⟨_, exec_mode_emulated h hw rfl ha, rb_raise_same _ rfl (show 6 + 1 ≤ 32 by decide)⟩
  case addr4Clear => exact ⟨_, exec_mode_emulated h hw rfl ha, rb_setF_zero _ (show 6 + 1 ≤ 32 by decide)⟩
  case qpiSet => exact ⟨_, exec_mode_emulated h hw rfl ha, rb_raise_same _ rfl (show 4 + 1 ≤ 32 by decide)⟩
  case qpiClear => exact ⟨_, exec_mode_emulated h hw rfl ha, rb_setF_zero _ (show 4 + 1 ≤ 32 by decide)⟩
  case octalSet => exact ⟨_, exec_mode_emulated h hw rfl ha, rb_raise_same _ rfl (show 5 + 1 ≤ 32 by decide)⟩
  case octalClear => exact ⟨_, exec_mode_emulated h hw rfl ha, rb_setF_zero _ (show 5 + 1 ≤ 32 by decide)⟩
  case failClear =>
    have hprog : progOf (((atFrame s f).decided f d).setRole f.ch rolePFAIL false) f.ch = d.p := by
      rw [progOf_setRole, progOf_decided, (emulated_shape h).2]
    exact ⟨_, exec_mode_emulated h hw rfl ha, roleBit_setRole _ (hprog ▸ hr) (hprog ▸ hb) false true⟩

end Sys2Proof.Machine
end

section
/-! WRITE_STATUS, invalid frames, SUSPEND and RESUME (R196, R219, R225, R235, R236, R238). -/

namespace Sys2Proof.Machine

variable {s : State} {f : Frame} {d : Dec} {ch : Nat}

/-! ### WRITE_STATUS (R225, R235, R236, R238) -/

theorem complete_iff : complete f = true ↔ f.phase = 2 ∧ f.whole = true := by simp [complete]

/-- A status write under way, until its emulated minimum has passed. -/
def statusOp : RunOp := { kind := 7, lo := 0, len := 0, minDone := false, compDone := true, suspended := false, tag := none, wt := [] }

theorem exec_writeStatus_stores (h : emulated s f 7 d) (hwel : rowNeedsWel d.row = false ∨ rb s (CH_PORT_STAT_WEL f.ch) = true)
    (hwp : f.wpLow = false) (hm : decMismatch s f = false) : exec (.writeStatus f) s
      = .next (((((atFrame s f).decided f d).writeRegs f.ch d.p (rowArg d.row) (dataIn (atFrame s f) f d)).raise (CH_PORT_STAT_WIP f.ch)).modChan
        f.ch fun c => { c with ops := c.ops ++ [statusOp] }) := by
  have hopen : (rowNeedsWel d.row && !rb (atFrame s f) (CH_PORT_STAT_WEL f.ch)) = false := by
    rcases hwel with hw | hw
    · rw [hw, Bool.false_and]
    · rw [show rb (atFrame s f) (CH_PORT_STAT_WEL f.ch) = true from hw, Bool.not_true, Bool.and_false]
  have hagree : decMismatch (atFrame s f) f = false := hm
  have hdec : ((atFrame s f).lastDec f.ch d.opc 7 (d.p.globalAct 7) 0xFF).alertIf f.ch (alertAsked d (d.p.globalAct 7))
      = (atFrame s f).decided f d := by
    obtain ⟨⟨-, hcls, -⟩, -⟩ := h
    rw [State.decided, hcls, hagree]
    rfl
  obtain ⟨hphase, hwhole⟩ := complete_iff.1 (emulated_complete h)
  have hdata := dataIn_decided s (d := d) (emulated_lt h)
  simp only [exec, execWriteStatus, onFrame_emulated h, hphase, hwhole, hopen, srpBlocks, hwp, hagree, emulated_action h, hdec, hdata, ne_eq,
    not_true_eq_false, decide_false, Bool.not_true, Bool.or_self, Bool.false_and, Bool.false_eq_true, if_false, if_true]
  rfl

/-- The stored byte of a register after one byte written to it under its mask. -/
theorem rf_writeRegs_single (u : State) {p : Prog} {r : Nat} (hp : r < p.regCount) (hr : r < 4) (b : Byte) :
    rf (u.writeRegs ch p r [b]) (sregFld ch r) = (rf u (sregFld ch r) &&& (255 - p.wmask r)) ||| (b.toNat &&& p.wmask r) := by
  have hset : u.writeRegs ch p r [b]
      = u.setF (sregFld ch r) ((rf u (sregFld ch r) &&& (255 - p.wmask r)) ||| (b.toNat &&& p.wmask r)) := by simp [State.writeRegs, hp]
  have hold : rf u (sregFld ch r) < 2 ^ 8 := rf_lt u (sregFld ch r)
  have hlt := Nat.or_lt_two_pow (Nat.lt_of_le_of_lt Nat.and_le_left hold : rf u (sregFld ch r) &&& (255 - p.wmask r) < 2 ^ 8)
    (Nat.lt_of_le_of_lt Nat.and_le_left b.isLt : b.toNat &&& p.wmask r < 2 ^ 8)
  rw [hset]
  exact (rf_setF_same _ _ _ (show 8 * r + 8 ≤ 32 by omega)).trans (Nat.mod_eq_of_lt hlt)

theorem writeRegs_orang (u : State) (p : Prog) (r : Nat) (bs : List Byte) : (u.writeRegs ch p r bs).orang = u.orang := by
  induction bs generalizing u r with
  | nil => rfl
  | cons b bs ih =>
    unfold State.writeRegs
    dsimp only
    split
    · exact ih _ _
    · rfl

theorem rf_atFrame (g : Fld) : rf (atFrame s f) g = rf s g := rfl

/-- A decision leaves the stored bytes of the emulated registers. -/
theorem rf_decided_sreg (s : State) (hch : f.ch < 96) (r : Nat) : rf (s.decided f d) (sregFld f.ch r) = rf s (sregFld f.ch r) := by
  obtain ⟨hevt, hctl, htr, hdec, hstat⟩ := portAddrs_ne_sreg f.ch
  exact rf_decided s (.inl hstat) hctl hevt hdec htr (.inl (show CH_TR_SREG f.ch < 0x40300000 by unfold CH_TR_SREG; omega))

/-- WRITE_STATUS where the decision words of the planes agree. -/
theorem exec_writeStatus_shows (h : emulated s f 7 d) (hwel : rowNeedsWel d.row = false ∨ rb s (CH_PORT_STAT_WEL f.ch) = true)
    (hwp : f.wpLow = false) (hm : decMismatch s f = false) (hr : rowArg d.row < d.p.regCount) (hr4 : rowArg d.row < 4) {b : Byte}
    (hb : dataIn (atFrame s f) f d = [b]) : ∃ t, exec (.writeStatus f) s = .next t ∧ rb t (CH_PORT_STAT_WIP f.ch) = true ∧ t.orang = s.orang
      ∧ rf t (sregFld f.ch (rowArg d.row)) = (rf s (sregFld f.ch (rowArg d.row)) &&& (255 - d.p.wmask (rowArg d.row)))
          ||| (b.toNat &&& d.p.wmask (rowArg d.row)) := by
  obtain ⟨-, -, -, -, hstat⟩ := portAddrs_ne_sreg f.ch
  refine ⟨_, exec_writeStatus_stores h hwel hwp hm, ?_, ?_, ?_⟩
  · rw [rb_modChan]
    exact rb_raise_same _ rfl (show 8 + 1 ≤ 32 by decide)
  · rw [State.modChan_orang, State.raise_orang, writeRegs_orang, frame_orang]
  · rw [rf_modChan, State.raise, rf_setF_ne _ _ _ _ (.inl hstat), hb, rf_writeRegs_single _ hr hr4, rf_decided_sreg _ (emulated_lt h), rf_atFrame]

/-! ### SUSPEND and RESUME (R196) -/

/-- Every operation under way is suspended. -/
def Chan.suspendOps (c : Chan) : Chan := { c with ops := c.ops.map fun (o : RunOp) => { o with suspended := true } }

/-- Every suspended operation runs again, its emulated minimum with it. -/
def Chan.resumeOps (c : Chan) : Chan :=
  { c with ops := c.ops.map fun (o : RunOp) => { o with minDone := o.minDone && !o.suspended, suspended := false } }

theorem exec_suspend_runs (h : emulated s f 10 d) (hw : rb s (CH_PORT_STAT_WIP f.ch) = true) (hc : canSuspend (chanOf s f.ch) = true) :
    exec (.suspend f) s = .next (((((atFrame s f).decided f d).modChan f.ch Chan.suspendOps).raise (CH_PORT_STAT_SUSPENDED f.ch)).setF
      (CH_PORT_STAT_WIP f.ch) 0) := by
  have hwip : rb ((atFrame s f).decided f d) (CH_PORT_STAT_WIP f.ch) = true := (rb_decided_stat _ (emulated_lt h) (by decide)).trans hw
  have hcan : canSuspend (chanOf ((atFrame s f).decided f d) f.ch) = true := by
    rw [chanOf_decided]
    exact hc
  simp only [exec, execSuspend, onFrame_emulated h, emulated_complete h, Bool.not_true, Bool.false_eq_true, if_false, plain_emulated h, hwip, hcan,
    Bool.and_self, if_true]
  rfl

theorem exec_resume_runs (h : emulated s f 11 d) (hs : rb s (CH_PORT_STAT_SUSPENDED f.ch) = true) :
    exec (.resume f) s = .next (((((atFrame s f).decided f d).modChan f.ch Chan.resumeOps).setF (CH_PORT_STAT_SUSPENDED f.ch) 0).raise
      (CH_PORT_STAT_WIP f.ch)) := by
  have hsus : rb ((atFrame s f).decided f d) (CH_PORT_STAT_SUSPENDED f.ch) = true := (rb_decided_stat _ (emulated_lt h) (by decide)).trans hs
  simp only [exec, execResume, onFrame_emulated h, emulated_complete h, Bool.not_true, Bool.false_eq_true, if_false, plain_emulated h, hsus, if_true]
  rfl

theorem exec_suspend_shows (h : emulated s f 10 d) (hw : rb s (CH_PORT_STAT_WIP f.ch) = true) (hc : canSuspend (chanOf s f.ch) = true) :
    ∃ t, exec (.suspend f) s = .next t ∧ rb t (CH_PORT_STAT_SUSPENDED f.ch) = true ∧ rb t (CH_PORT_STAT_WIP f.ch) = false :=
  ⟨_, exec_suspend_runs h hw hc, (rb_setF_bit _ _ (by decide) (by decide)).trans (rb_raise_same _ rfl (show 9 + 1 ≤ 32 by decide)),
    rb_setF_zero _ (show 8 + 1 ≤ 32 by decide)⟩

theorem exec_resume_shows (h : emulated s f 11 d) (hs : rb s (CH_PORT_STAT_SUSPENDED f.ch) = true) :
    ∃ t, exec (.resume f) s = .next t ∧ rb t (CH_PORT_STAT_SUSPENDED f.ch) = false ∧ rb t (CH_PORT_STAT_WIP f.ch) = true :=
  ⟨_, exec_resume_runs h hs, (rb_setF_bit _ _ (by decide) (by decide)).trans (rb_setF_zero _ (show 9 + 1 ≤ 32 by decide)),
    rb_raise_same _ rfl (show 8 + 1 ≤ 32 by decide)⟩

/-! ### A frame decoded as INVALID (R219, R220) -/

/-- The decision word of an invalid frame, and INVALID_OP. -/
def State.invalidSeen (s : State) (f : Frame) (d : Dec) : State :=
  ((s.when (decMismatch s f) (·.decideMismatch f.ch)).lastDec f.ch d.opc 15 (d.p.globalAct 15) 0xFF).raise (CH_TR_EVT_INVALID_OP f.ch)

/-- An invalid frame, counted and denied, with the alert asked for. -/
def State.invalidTaken (s : State) (f : Frame) (d : Dec) : State :=
  (((s.invalidSeen f d).bump (CH_TR_INV_LO f.ch) (CH_TR_INV_HI f.ch) (CH_TR_EVT_SAT f.ch) srcCHAN).raise (CH_TR_EVT_DENIED f.ch)).alertIf f.ch
    ((rowClass d.row = 15 && rowAlert d.row) || 8 ≤ d.p.globalAct 15)

theorem exec_invalidFrame_taken (h : executes s f 15 d) : exec (.invalidFrame f) s = .next ((atFrame s f).invalidTaken f d) := by
  simp only [exec, execInvalidFrame, onFrame_executes s h]
  rfl

/-- What the count, the denial and the alert of an invalid frame leave. -/
theorem rf_invalidTaken (s : State) {g : Fld} (hball : (CH_PORT_STAT_ALERT_OUT f.ch).apart g) (hctl : CH_ALERT_CTL f.ch ≠ g.addr)
    (hevt : CH_PORT_EVT f.ch ≠ g.addr) (hlo : CH_TR_INV_LO f.ch ≠ g.addr) (hhi : CH_TR_INV_HI f.ch ≠ g.addr)
    (hsat : (CH_TR_EVT_SAT f.ch).apart g) (hden : (CH_TR_EVT_DENIED f.ch).apart g) (hj : offJournal g.addr) :
    rf (s.invalidTaken f d) g = rf (s.invalidSeen f d) g := by
  unfold State.invalidTaken State.raise
  rw [rf_alertIf _ _ hball hctl hevt, rf_setF_ne _ _ _ _ hden, rf_bump_apart _ hlo hhi hsat hj]

theorem invalidWords_ne_evt (ch : Nat) : CH_PORT_STAT ch ≠ CH_TR_EVT ch ∧ CH_ALERT_CTL ch ≠ CH_TR_EVT ch ∧ CH_PORT_EVT ch ≠ CH_TR_EVT ch
    ∧ CH_TR_INV_LO ch ≠ CH_TR_EVT ch ∧ CH_TR_INV_HI ch ≠ CH_TR_EVT ch := by
  unfold CH_PORT_STAT CH_ALERT_CTL CH_PORT_EVT CH_TR_INV_LO CH_TR_INV_HI CH_TR_EVT
  omega

theorem invalidWords_ne_lastDec (ch : Nat) : CH_PORT_STAT ch ≠ CH_TR_LASTDEC ch ∧ CH_ALERT_CTL ch ≠ CH_TR_LASTDEC ch
    ∧ CH_PORT_EVT ch ≠ CH_TR_LASTDEC ch ∧ CH_TR_INV_LO ch ≠ CH_TR_LASTDEC ch ∧ CH_TR_INV_HI ch ≠ CH_TR_LASTDEC ch
    ∧ CH_TR_EVT ch ≠ CH_TR_LASTDEC ch := by
  unfold CH_PORT_STAT CH_ALERT_CTL CH_PORT_EVT CH_TR_INV_LO CH_TR_INV_HI CH_TR_EVT CH_TR_LASTDEC
  omega

theorem invalidCount_ne_stat (ch : Nat) : CH_TR_INV_LO ch ≠ CH_PORT_STAT ch ∧ CH_TR_INV_HI ch ≠ CH_PORT_STAT ch := by
  unfold CH_PORT_STAT CH_TR_INV_LO CH_TR_INV_HI
  omega

theorem trWords_offJournal {ch : Nat} (hch : ch < 96) : offJournal (CH_TR_EVT ch) ∧ offJournal (CH_TR_LASTDEC ch) := by
  unfold offJournal CH_TR_EVT CH_TR_LASTDEC
  omega

/-- A count, an event or a decision returns nothing and leaves the shadow store. -/
theorem invalidTaken_keeps (s : State) : (s.invalidTaken f d).orang = s.orang ∧ (s.invalidTaken f d).out = s.out := by
  have hword (u : State) : (u.lastDec f.ch d.opc 15 (d.p.globalAct 15) 0xFF).orang = u.orang
      ∧ (u.lastDec f.ch d.opc 15 (d.p.globalAct 15) 0xFF).out = u.out := ⟨rfl, rfl⟩
  have hmis (u : State) : (u.decideMismatch f.ch).orang = u.orang ∧ (u.decideMismatch f.ch).out = u.out := by simp [State.decideMismatch]
  unfold State.invalidTaken State.invalidSeen
  rw [alertIf_keeps _ State.orang fun _ _ _ => rfl, alertIf_keeps _ State.out fun _ _ _ => rfl, State.raise_orang, State.raise_out, State.bump_orang,
    State.bump_out, State.raise_orang, State.raise_out, (hword _).1, (hword _).2]
  exact ⟨State.when_keeps State.orang _ _ (fun u => (hmis u).1) s, State.when_keeps State.out _ _ (fun u => (hmis u).2) s⟩

theorem exec_invalidFrame_shows (h : executes s f 15 d) : ∃ t, exec (.invalidFrame f) s = .next t ∧ rb t (CH_TR_EVT_INVALID_OP f.ch) = true
    ∧ t.orang = s.orang ∧ t.out = .none ∧ rf t (CH_TR_LASTDEC_CLASS f.ch) = 15
    ∧ rb t (CH_PORT_STAT_WIP f.ch) = rb s (CH_PORT_STAT_WIP f.ch) := by
  obtain ⟨hch, -⟩ := frameDecode_shape s h.1
  obtain ⟨hjev, hjdec⟩ := trWords_offJournal hch
  obtain ⟨horang, hout⟩ := invalidTaken_keeps (f := f) (d := d) (atFrame s f)
  refine ⟨_, exec_invalidFrame_taken h, ?_, horang, hout, ?_, ?_⟩
  · obtain ⟨hstat, hctl, hevt, hlo, hhi⟩ := invalidWords_ne_evt f.ch
    have hkept : rf ((atFrame s f).invalidTaken f d) (CH_TR_EVT_INVALID_OP f.ch) = rf ((atFrame s f).invalidSeen f d) (CH_TR_EVT_INVALID_OP f.ch) :=
      rf_invalidTaken _ (.inl hstat) hctl hevt hlo hhi (bit_apart (by decide) (by decide)) (bit_apart (by decide) (by decide)) hjev
    exact (congrArg (· != 0) hkept).trans (rb_raise_same _ rfl (show 8 + 1 ≤ 32 by decide))
  · obtain ⟨hstat, hctl, hevt, hlo, hhi, htr⟩ := invalidWords_ne_lastDec f.ch
    have hkept : rf ((atFrame s f).invalidTaken f d) (CH_TR_LASTDEC_CLASS f.ch) = rf ((atFrame s f).invalidSeen f d) (CH_TR_LASTDEC_CLASS f.ch) :=
      rf_invalidTaken _ (.inl hstat) hctl hevt hlo hhi (.inl htr) (.inl htr) hjdec
    unfold State.invalidSeen State.lastDec State.raise at hkept
    rw [hkept, rf_setF_ne _ _ _ _ (.inl htr), rf_setF_ne _ _ _ _ (.inr (show (20 + 4 ≤ 8 ∨ 8 + 8 ≤ 20) ∧ 20 + 4 ≤ 32 by decide)),
      rf_setF_ne _ _ _ _ (.inr (show (20 + 4 ≤ 16 ∨ 16 + 4 ≤ 20) ∧ 20 + 4 ≤ 32 by decide))]
    exact rf_setF_same _ _ _ (show 20 + 4 ≤ 32 by decide)
  · obtain ⟨hevt, hctl, htr, hdec⟩ := portAddrs_ne_stat f.ch
    obtain ⟨hlo, hhi⟩ := invalidCount_ne_stat f.ch
    have hj : offJournal (CH_PORT_STAT_WIP f.ch).addr := (offJournal_of_port hch).1
    have hkept : rf ((atFrame s f).invalidTaken f d) (CH_PORT_STAT_WIP f.ch) = rf ((atFrame s f).invalidSeen f d) (CH_PORT_STAT_WIP f.ch) :=
      rf_invalidTaken _ (bit_apart (by decide) (by decide)) hctl hevt hlo hhi (.inl htr) (.inl htr) hj
    have hword : rf ((atFrame s f).invalidSeen f d) (CH_PORT_STAT_WIP f.ch) = rf (atFrame s f) (CH_PORT_STAT_WIP f.ch) :=
      (rf_setF_ne _ _ _ _ (.inl htr)).trans ((rf_lastDec _ _ _ _ _ hdec).trans (State.when_keeps (rf · (CH_PORT_STAT_WIP f.ch)) _
        (·.decideMismatch f.ch) (fun u => rf_decideMismatch u htr hj) (atFrame s f)))
    exact congrArg (· != 0) (hkept.trans hword)

/-! ### What the statement of WRITE_STATUS, SUSPEND and RESUME rests on

A frame on which the planes' sequencers agree is still denied where a plane reads a word of its serving program as poison (R271, R235). Which
words of the table RAM hold a program is free (`Config.tableWord`, log entry 157), so that O31 holds for one choice and fails for another. -/

/-- Where no word of the table RAM holds a program, the decision words of the planes agree on every frame, and the statement of O31 holds. -/
theorem statusWritesAndSuspend_of_no_tableWord (hfree : ∀ ch b w, Config.tableWord ch b w = false) : Obligations.StatusWritesAndSuspend := by
  have hagree (s : State) (f : Frame) (hf : f.decDiffer = false) : decMismatch s f = false := by
    simp [decMismatch, decDiffers, hf, tableWordBad, hfree]
  refine fun s f d => ⟨fun h hwel hwp hr hr4 b hb => ?write, exec_invalidFrame_shows, exec_suspend_shows, exec_resume_shows⟩
  case write =>
    have hf := h
    obtain ⟨-, -, hf, -⟩ := hf
    exact exec_writeStatus_shows h hwel hwp (hagree s f hf) hr hr4 hb

/-- A WRITE_STATUS on whose decision the planes differ: denied with the alert, and the failure bit set (R231, R235). -/
def State.statusDenied (s : State) (f : Frame) (d : Dec) : State :=
  (((((s.decideMismatch f.ch).lastDec f.ch d.opc 7 acDenyAlert 0xFF).alertIf f.ch (alertAsked d acDenyAlert)).raise (CH_TR_EVT_DENIED f.ch)).setF
    (CH_PORT_STAT_WEL f.ch) 0).setRole f.ch rolePFAIL true

theorem exec_writeStatus_denied (h : emulated s f 7 d) (hwel : rowNeedsWel d.row = false) (hwp : f.wpLow = false) (hm : decMismatch s f = true) :
    exec (.writeStatus f) s = .next ((atFrame s f).statusDenied f d) := by
  have hdiffer : decMismatch (atFrame s f) f = true := hm
  obtain ⟨hphase, hwhole⟩ := complete_iff.1 (emulated_complete h)
  simp only [exec, execWriteStatus, onFrame_emulated h, hphase, hwhole, hwel, srpBlocks, hwp, hdiffer, ne_eq, not_true_eq_false, decide_false,
    Bool.not_true, Bool.or_self, Bool.false_and, Bool.false_eq_true, if_false, if_true]
  rfl

theorem rf_setRole_ne (s : State) (role : Nat) (b : Bool) {g : Fld} (h : CH_TR_SREG ch ≠ g.addr) : rf (s.setRole ch role b) g = rf s g := by
  unfold State.setRole
  dsimp only
  split
  · exact rf_setF_ne _ _ _ _ (.inl h)
  · rfl

theorem rf_statusDenied_wip (s : State) (hch : f.ch < 96) :
    rf (s.statusDenied f d) (CH_PORT_STAT_WIP f.ch) = rf s (CH_PORT_STAT_WIP f.ch) := by
  obtain ⟨hevt, hctl, htr, hdec⟩ := portAddrs_ne_stat f.ch
  obtain ⟨-, -, -, hsreg⟩ := portStat_ne f.ch
  have hj : offJournal (CH_PORT_STAT_WIP f.ch).addr := (offJournal_of_port hch).1
  unfold State.statusDenied State.raise
  rw [rf_setRole_ne _ _ _ hsreg, rf_setF_ne _ (CH_PORT_STAT_WEL f.ch) (CH_PORT_STAT_WIP f.ch) _ (bit_apart (by decide) (by decide)),
    rf_setF_ne _ _ _ _ (.inl htr), rf_alertIf (g := CH_PORT_STAT_WIP f.ch) _ _ (bit_apart (by decide) (by decide)) hctl hevt,
    rf_lastDec _ _ _ _ _ hdec, rf_decideMismatch _ htr hj]

/-- A SPI-NOR program with one emulated register, of which opcode 0 is a WRITE_STATUS that is EMULATEd. -/
def statusProg : Prog :=
  [0, 0, 0, 0, 0, 0, 0, 1] ++ List.replicate 23 0 ++ [0x60] ++ List.replicate 32 0 ++ [7, 1, 0, 0, 2] ++ List.replicate 3067 0 ++ [1]

/-- Both planes serve channel 0, which runs that program in bank 0. -/
def statusPort : State :=
  (((State.reset.setF (planeFld 0) plSERVING).setF (planeFld 1) plSERVING).raise (CH_PORT_STAT_ENABLED 0)).modChan 0 fun c =>
    { c with prog := some statusProg }

/-- The same port, while plane A reads one word of its table RAM as poison. -/
def statusPortTorn (w : Nat) : State := statusPort.modMem fun m => { m with flipBad := [(8, 0, w)] }

/-- A WRITE_STATUS of one byte, and how it decodes. -/
def statusFrame : Frame :=
  { ch := 0, opcode := some 0, addr := 0, modeBits := 0, din := [0x5A], dout := 0, phase := 2, whole := true, wpLow := false, shortAt := none
    lines := [], decDiffer := false }
def statusRow : Dec := { p := statusProg, opc := 0, row := statusProg.row 0, cls := 7 }

/-- Poison of the memory tests decides no frame by itself. -/
theorem frameDecode_modMem (s : State) (g : MemInt → MemInt) (f : Frame) : frameDecode (s.modMem g) f = frameDecode s f := rfl

theorem statusFrame_emulated (w : Nat) : emulated (statusPortTorn w) statusFrame 7 statusRow := by
  have hdecode : (frameDecode statusPort statusFrame).map (fun d => (d.p, d.opc, d.row, d.cls)) = some (statusProg, 0, statusProg.row 0, 7) := by
    decide +kernel
  have hidle : busyIgnores statusPort 0 7 statusRow.row = false := by decide +kernel
  have hact : statusRow.p.globalAct 7 % 8 = acEMULATE := by decide +kernel
  obtain ⟨⟨p, opc, row, cls⟩, hd, he⟩ := Option.map_eq_some_iff.1 hdecode
  simp only [Prod.mk.injEq] at he
  obtain ⟨rfl, rfl, rfl, rfl⟩ := he
  exact ⟨⟨(frameDecode_modMem _ _ _).trans hd, rfl, hidle⟩, rfl, rfl, hact⟩

/-- What the frame needs of the port, but for the word of the table RAM. -/
theorem statusPort_ready : serving statusPort 0 = true ∧ serving statusPort 1 = true ∧ rf statusPort (CH_TR_STAT_ACTIVE_BANK 0) = 0
    ∧ rb statusPort (CH_PORT_STAT_WIP 0) = false ∧ rowNeedsWel statusRow.row = false ∧ rowArg statusRow.row = 0 ∧ 0 < statusRow.p.regCount
    ∧ dataIn (atFrame statusPort statusFrame) statusFrame statusRow = [0x5A] := by decide +kernel

/-- Where a word of the table RAM holds the program of channel 0 in bank 0, its poison in one plane has a WRITE_STATUS denied that O31 lets set
WIP: its frames are those on which the sequencers agree, and it does not ask that the words of the program are sound. -/
theorem not_statusWritesAndSuspend_of_tableWord {w : Nat} (hw : Config.tableWord 0 0 w = true) : ¬ Obligations.StatusWritesAndSuspend := by
  intro hall
  obtain ⟨ha, hb, hbank, hwip, hwel, harg, hcount, hdata⟩ := statusPort_ready
  have hem := statusFrame_emulated w
  have hmis : decMismatch (statusPortTorn w) statusFrame = true := by
    have hword : tableWordBad (statusPortTorn w) 0 = true := by
      show ((decide (8 = 8) && serving statusPort 0 && Config.tableWord 0 (rf statusPort (CH_TR_STAT_ACTIVE_BANK 0)) w) || false) = true
      rw [ha, hbank, hw]
      rfl
    show (serving statusPort 0 && serving statusPort 1 && (false || tableWordBad (statusPortTorn w) 0)) = true
    rw [ha, hb, hword]
    rfl
  obtain ⟨hwrite, -⟩ := hall (statusPortTorn w) statusFrame statusRow
  obtain ⟨t, ht, hset, -⟩ := hwrite hem (.inl hwel) rfl (harg ▸ hcount) (harg ▸ by decide) 0x5A hdata
  rw [exec_writeStatus_denied hem hwel rfl hmis] at ht
  obtain rfl := Host.Outcome.next.inj ht
  have hclear : rb ((atFrame (statusPortTorn w) statusFrame).statusDenied statusFrame statusRow) (CH_PORT_STAT_WIP 0)
      = rb statusPort (CH_PORT_STAT_WIP 0) :=
    congrArg (· != 0) (rf_statusDenied_wip _ (by decide))
  exact absurd (hset.symm.trans (hclear.trans hwip)) (by decide)

end Sys2Proof.Machine
end

section
/-! APPLY_MAP, the discovery of the flash devices, and their sampling trim (R249 to R251, R263). -/

namespace Sys2Proof.Machine

variable {s : State} {g : Fld}

/-- Two fields of one register that share no bit. -/
theorem Fld.apart_within {a l w l' w' : Nat} (h : (l' + w' ≤ l ∨ l + w ≤ l') ∧ l' + w' ≤ 32) : Fld.apart ⟨a, l, w⟩ ⟨a, l', w'⟩ := .inr h

/-! ### Lists of devices -/

/-- Where the update of entry `a` brings about `P` in every state that keeps `I`, and no other entry undoes it, `P` holds after the fold. -/
theorem State.each_establishes {α : Type} {I P : State → Prop} {f : State → α → State} {a : α} {l : List α}
    (hI : ∀ u, I u → ∀ b ∈ l, I (f u b)) (hset : ∀ u, I u → P (f u a)) (hkeep : ∀ u, P u → ∀ b ∈ l, b ≠ a → P (f u b)) {s : State} (hs : I s)
    (h : a ∈ l ∨ P s) : P (s.each l f) := by
  induction l generalizing s with
  | nil => exact h.resolve_left List.not_mem_nil
  | cons b t ih =>
    refine ih (fun u hu c hc => hI u hu c (List.mem_cons_of_mem _ hc)) (fun u hu c hc => hkeep u hu c (List.mem_cons_of_mem _ hc))
      (hI s hs b List.mem_cons_self) ?_
    by_cases hb : b = a
    · subst hb
      exact .inr (hset s hs)
    · obtain hm | hp := h
      · exact .inl ((List.mem_cons.1 hm).resolve_left fun k => hb k.symm)
      · exact .inr (hkeep s hp b List.mem_cons_self hb)

theorem mem_insertBy {α : Type} {k : α → Nat} {a x : α} {l : List α} : x ∈ insertBy k a l ↔ x = a ∨ x ∈ l := by
  induction l with
  | nil => simp [insertBy]
  | cons b t ih =>
    unfold insertBy
    split
    · exact List.mem_cons
    · simp only [List.mem_cons, ih]
      exact or_left_comm

theorem mem_sortBy {α : Type} {k : α → Nat} {x : α} {l : List α} : x ∈ sortBy k l ↔ x ∈ l := by
  induction l with
  | nil => rfl
  | cons a t ih => rw [sortBy, mem_insertBy, ih, List.mem_cons]

/-- Two entries of an indexed list that differ stand at different places. -/
theorem zipIdx_snd_ne {α : Type} {l : List α} {p q : α × Nat} (hp : p ∈ l.zipIdx) (hq : q ∈ l.zipIdx) (h : p ≠ q) : p.2 ≠ q.2 := by
  rw [List.mem_zipIdx_iff_getElem?] at hp hq
  exact fun k => h (Prod.ext (Option.some.inj (by rw [← hp, ← hq, k])) k)

/-! ### The command interface of the block (R263) -/

theorem fbusIf_shows : fbusIf.Shows where
  byte := rfl
  bound := by decide
  done := by decide
  result f hf := by obtain rfl := Option.some.inj hf; decide

/-- The end of a command of the block writes its status register and its event, and no other register. -/
theorem rf_fbusEnd_off (op : Nat) (c : Code) (r : Nat) (hs : FBUS_CMD_STAT ≠ g.addr) (he : FBUS_EVT ≠ g.addr) :
    rf (s.cmdEnd fbusIf op c r) g = rf s g :=
  (rf_setF_ne _ _ _ _ (.inl he)).trans ((rf_setF_ne _ _ _ _ (.inl hs)).trans
    ((rf_setF_ne _ _ _ _ (.inl hs)).trans (rf_setF_ne _ _ _ _ (.inl hs))))

theorem rf_fbusEnd_op (op : Nat) (c : Code) (r : Nat) : rf (s.cmdEnd fbusIf op c r) FBUS_CMD_STAT_LAST_OP = op % 256 :=
  (rf_setF_ne _ _ _ _ (by decide)).trans ((rf_setF_ne _ _ _ _ (by decide)).trans
    ((rf_setF_ne _ _ _ _ (by decide)).trans (rf_setF_same _ _ _ (by decide))))

/-- A refusal that is no delay shows its code, and leaves what the block keeps. -/
theorem fbusRefuse_shows (s : State) (op : Nat) {c : Code} (hc : c ≠ .busyRetry) :
    rf (s.fbusRefuse op c) FBUS_CMD_STAT_LAST_STATUS = c.val ∧ (s.fbusRefuse op c).fbus = s.fbus := by
  have h : s.fbusRefuse op c = (s.cmdEnd fbusIf op c).journal 5 263 srcFBUS noUnit c := by simp [State.fbusRefuse, State.cmdRefuse, hc]
  rw [h, rf_journal _ _ _ _ _ _ _ (by decide) (.inl (by decide))]
  exact ⟨rf_cmdEnd_status s fbusIf_shows op c 0, by simp⟩

/-! ### APPLY_MAP (R163, R249, R263) -/

/-- The trim bounds of one bus are loaded. -/
def State.loadBounds (s : State) (p : FbBus × Nat) : State :=
  ((s.setF (FBUS_FB_TRIM_TRIM_MAX p.2) p.1.trimMax).setF (FBUS_FB_TRIM_TRIM_MIN p.2) p.1.trimMin).setB (FBUS_FB_TRIM_TRACK_EN p.2) p.1.track

theorem loadTrim_eq (m : FbMap) : s.loadTrim m = s.each m.buses.zipIdx State.loadBounds := rfl

theorem rf_loadBounds_off (p : FbBus × Nat) (h : FBUS_FB_TRIM p.2 ≠ g.addr) : rf (s.loadBounds p) g = rf s g :=
  (rf_setF_ne _ _ _ _ (.inl h)).trans ((rf_setF_ne _ _ _ _ (.inl h)).trans (rf_setF_ne _ _ _ _ (.inl h)))

theorem fbTrim_ne {i j : Nat} (h : i ≠ j) : FBUS_FB_TRIM i ≠ FBUS_FB_TRIM j := by unfold FBUS_FB_TRIM; omega

/-- The registers show the trim bounds that a bus has in the map. -/
def boundsShown (i : Nat) (b : FbBus) (t : State) : Prop :=
  rf t (FBUS_FB_TRIM_TRIM_MIN i) = b.trimMin % 256 ∧ rf t (FBUS_FB_TRIM_TRIM_MAX i) = b.trimMax % 256 ∧ rb t (FBUS_FB_TRIM_TRACK_EN i) = b.track

theorem loadBounds_shows (s : State) (b : FbBus) (i : Nat) : boundsShown i b (s.loadBounds (b, i)) := by
  refine ⟨?_, ?_, rb_setB_same _ _ rfl (show 7 + 1 ≤ 32 by decide)⟩
  · exact (rf_setF_ne _ _ _ _ (Fld.apart_within (by decide))).trans (rf_setF_same _ _ _ (show 8 + 8 ≤ 32 by decide))
  · exact (rf_setF_ne _ _ _ _ (Fld.apart_within (by decide))).trans
      ((rf_setF_ne _ _ _ _ (Fld.apart_within (by decide))).trans (rf_setF_same _ _ _ (show 16 + 8 ≤ 32 by decide)))

theorem boundsShown_loadBounds {i : Nat} {b : FbBus} {p : FbBus × Nat} (hp : p.2 ≠ i) (h : boundsShown i b s) : boundsShown i b (s.loadBounds p) := by
  have hoff (lo wid : Nat) : rf (s.loadBounds p) ⟨FBUS_FB_TRIM i, lo, wid⟩ = rf s ⟨FBUS_FB_TRIM i, lo, wid⟩ := rf_loadBounds_off p (fbTrim_ne hp)
  obtain ⟨hmin, hmax, htrack⟩ := h
  exact ⟨(hoff 8 8).trans hmin, (hoff 16 8).trans hmax, (congrArg (· != 0) (hoff 7 1)).trans htrack⟩

theorem loadTrim_shows (s : State) {m : FbMap} {i : Nat} {b : FbBus} (h : m.buses[i]? = some b) : boundsShown i b (s.loadTrim m) := by
  have hmem : (b, i) ∈ m.buses.zipIdx := List.mem_zipIdx_iff_getElem?.2 h
  rw [loadTrim_eq]
  exact State.each_establishes (I := fun _ => True) (fun _ _ _ _ => trivial) (fun u _ => loadBounds_shows u b i)
    (fun u hu p hp hne => boundsShown_loadBounds (zipIdx_snd_ne hp hmem hne) hu) trivial (.inl hmem)

theorem rf_loadTrim_off (m : FbMap) (h : ∀ i, FBUS_FB_TRIM i ≠ g.addr) : rf (s.loadTrim m) g = rf s g :=
  State.each_keeps (rf · g) _ State.loadBounds (fun _ p => rf_loadBounds_off p (h p.2)) s

theorem loadTrim_fbus (m : FbMap) : (s.loadTrim m).fbus = s.fbus := State.each_keeps State.fbus _ State.loadBounds (fun _ _ => rfl) s

theorem rf_applyBanks (l : List Nat) (hm : SYSCTL_BANK_ERR_MISMATCH.addr ≠ g.addr) (hj : offJournal g.addr) : rf (s.applyBanks l) g = rf s g := by
  unfold State.applyBanks
  refine State.each_keeps (rf · g) _ _ (fun u i => ?_) s
  rw [rf_journal _ _ _ _ _ _ _ (by decide) hj, rf_modBoot]
  exact rf_setF_ne _ _ _ _ (.inl hm)

theorem applyBanks_fbus (l : List Nat) : (s.applyBanks l).fbus = s.fbus := by
  unfold State.applyBanks
  exact State.each_keeps State.fbus _ _ (fun u i => by rw [State.journal_fbus, State.modBoot_fbus, State.setMapBit_fbus]) s

/-- The map is copied, with the size `n` of the ledger's halves, and discovery begins on the banks that match. -/
def State.mapTaken (s : State) (m : FbMap) (n : Nat) : State :=
  ({ s with fbus := { s.fbus with map := m, discovering := true }, orang := { s.orang with ledSize := n } }.raise FBUS_STAT_MAP_APPLIED).applyBanks
    ((List.range 4).map (12 + ·))

theorem mapTaken_shows (s : State) (m : FbMap) (n : Nat) :
    (s.mapTaken m n).fbus = { s.fbus with map := m, discovering := true } ∧ rb (s.mapTaken m n) FBUS_STAT_MAP_APPLIED = true := by
  refine ⟨applyBanks_fbus _, ?_⟩
  rw [rb, State.mapTaken, rf_applyBanks _ (by decide) (.inl (by decide))]
  exact rb_raise_same _ rfl (by decide)

theorem exec_applyMap_accepted {len : Nat} {m : FbMap} (hm : mapAt s len = some m) (hmode : mode s = moASSEMBLY)
    (ha : rb s FBUS_STAT_MAP_APPLIED = false) : ∃ n, exec (.applyMap len) s = .next ((s.mapTaken m n).loadTrim m) := by
  have hc : applyMapCode s len = none := by simp [applyMapCode, firstCode, hm, hmode, ha]
  simp only [exec, execApplyMap, hc, hm]
  exact ⟨_, rfl⟩

theorem exec_applyMap_shows {len : Nat} {m : FbMap} (hm : mapAt s len = some m) (hmode : mode s = moASSEMBLY)
    (ha : rb s FBUS_STAT_MAP_APPLIED = false) : ∃ t, exec (.applyMap len) s = .next t ∧ t.fbus.map = m ∧ t.fbus.discovering = true
      ∧ rb t FBUS_STAT_MAP_APPLIED = true ∧ ∀ i b, i < 32 → m.buses[i]? = some b → boundsShown i b t := by
  obtain ⟨n, hexec⟩ := exec_applyMap_accepted hm hmode ha
  obtain ⟨hfbus, happlied⟩ := mapTaken_shows s m n
  have hoff (i : Nat) : FBUS_FB_TRIM i ≠ FBUS_STAT_MAP_APPLIED.addr := by
    show 0x400D0100 + 4 * i ≠ 0x400D0004
    omega
  refine ⟨_, hexec, ?_, ?_, ?_, fun i b _ hb => loadTrim_shows _ hb⟩
  · rw [loadTrim_fbus, hfbus]
  · rw [loadTrim_fbus, hfbus]
  · rw [rb, rf_loadTrim_off _ hoff]
    exact happlied

theorem exec_applyMap_malformed {len : Nat} (hm : mapAt s len = none) :
    ∃ t, exec (.applyMap len) s = .next t ∧ rf t FBUS_CMD_STAT_LAST_STATUS = 0xF ∧ t.fbus = s.fbus := by
  have hc : applyMapCode s len = some .malformed := by simp [applyMapCode, firstCode, hm]
  have hexec : exec (.applyMap len) s = .next (s.fbusRefuse 1 .malformed) := by simp only [exec, execApplyMap, hc]
  exact ⟨_, hexec, fbusRefuse_shows s 1 (by decide)⟩

/-! ### What discovery rests on (R249) -/

/-- The state `t` trains devices as `s` does: the same buses are live, with the same bounds. -/
def trainsAs (s t : State) : Prop :=
  t.boot = s.boot ∧ ∀ b < 32, rf t (FBUS_FB_TRIM_TRIM_MIN b) = rf s (FBUS_FB_TRIM_TRIM_MIN b) ∧ rf t (FBUS_FB_TRIM_TRIM_MAX b) = rf s (FBUS_FB_TRIM_TRIM_MAX b)

theorem trainsAs.trans {s t u : State} (h : trainsAs s t) (k : trainsAs t u) : trainsAs s u :=
  ⟨k.1.trans h.1, fun b hb => ⟨(k.2 b hb).1.trans (h.2 b hb).1, (k.2 b hb).2.trans (h.2 b hb).2⟩⟩

theorem trainsAs.judgeDev {s t : State} (h : trainsAs s t) {d : FbDev} (hb : d.bus < 32) (o : DevObs) : judgeDev t d o = judgeDev s d o := by
  obtain ⟨hmin, hmax⟩ := h.2 d.bus hb
  simp only [Machine.judgeDev, hmin, hmax]

theorem trainsAs.fbLive {s t : State} (h : trainsAs s t) (b : Nat) : fbLive t b = fbLive s b := by
  simp only [Machine.fbLive, bankFloated, h.1]

/-! ### One device of discovery (R249, R250) -/

@[simp] theorem rf_setDevX (i : Nat) (x : DevX) : rf (s.setDevX i x) g = rf s g := rfl

/-- The register of a device names its bus and its chip select. -/
def State.devPlaced (s : State) (i : Nat) (d : FbDev) : State := (s.setF (FBUS_DEV_STAT_BUS i) d.bus).setF (FBUS_DEV_STAT_CS i) d.cs

/-- A device that passed every step: its register, the erase types it offers and its tap. -/
def State.devTrained (s : State) (i : Nat) (d : FbDev) (o : DevObs) (tap : Nat) : State :=
  let s := (((s.setF (FBUS_DEV_STAT_STATE i) dvREADY).setF (FBUS_DEV_STAT_SIZE_LOG2 i) o.density).setF
    (FBUS_DEV_STAT_ERASE i) (o.erase - 12)).setF (FBUS_DEV_STAT_PAGE i) (o.page - 8)
  let s := ((s.setB (FBUS_DEV_STAT_SUSPEND_OK i) o.suspendOk).setF (FBUS_DEV_STAT_FAIL_CODE i) 0).setF (FBUS_FB_TRIM_TAP d.bus) tap
  s.setDevX i { devX s i with types := o.types, tap }

section
variable {i : Nat} {d : FbDev} (hdev : FBUS_DEV_STAT i ≠ g.addr)
include hdev

theorem rf_devPlaced_off : rf (s.devPlaced i d) g = rf s g := (rf_setF_ne _ _ _ _ (.inl hdev)).trans (rf_setF_ne _ _ _ _ (.inl hdev))

theorem rf_devTrained_off (o : DevObs) (tap : Nat) (htap : (FBUS_FB_TRIM_TAP d.bus).apart g) : rf (s.devTrained i d o tap) g = rf s g := by
  have hreg (u : State) (lo wid v : Nat) : rf (u.setF ⟨FBUS_DEV_STAT i, lo, wid⟩ v) g = rf u g := rf_setF_ne _ _ _ _ (.inl hdev)
  unfold State.devTrained State.setB
  rw [rf_setDevX, rf_setF_ne _ _ _ _ htap]
  exact (hreg ..).trans ((hreg ..).trans ((hreg ..).trans ((hreg ..).trans ((hreg ..).trans (hreg ..)))))

theorem rf_devFail_off (c : Code) (hevt : FBUS_EVT ≠ g.addr) (hj : offJournal g.addr) : rf (s.devFail i c) g = rf s g :=
  (rf_journal _ _ _ _ _ _ _ (by decide) hj).trans ((rf_setF_ne _ _ _ _ (.inl hevt)).trans
    ((rf_setF_ne _ _ _ _ (.inl hdev)).trans (rf_setF_ne _ _ _ _ (.inl hdev))))

end

theorem devTrained_state {i : Nat} {d : FbDev} (hb : d.bus < 32) (o : DevObs) (tap : Nat) :
    rf (s.devTrained i d o tap) (FBUS_DEV_STAT_STATE i) = dvREADY := by
  have htap : FBUS_FB_TRIM d.bus ≠ FBUS_DEV_STAT i := by unfold FBUS_FB_TRIM FBUS_DEV_STAT; omega
  have hreg (u : State) {lo wid : Nat} (v : Nat) (h : lo + wid ≤ 29) :
      rf (u.setF ⟨FBUS_DEV_STAT i, lo, wid⟩ v) (FBUS_DEV_STAT_STATE i) = rf u (FBUS_DEV_STAT_STATE i) :=
    rf_setF_ne _ _ _ _ (Fld.apart_within ⟨.inr h, by decide⟩)
  unfold State.devTrained State.setB
  rw [rf_setDevX, rf_setF_ne _ _ _ _ (.inl htap)]
  refine (hreg _ _ (by decide)).trans ((hreg _ _ (by decide)).trans ((hreg _ _ (by decide)).trans ((hreg _ _ (by decide)).trans
    ((hreg _ _ (by decide)).trans ?_))))
  exact rf_setF_same _ _ _ (show 29 + 3 ≤ 32 by decide)

theorem devFail_shows (s : State) {i : Nat} (hi : i < 128) (c : Code) : rf (s.devFail i c) (FBUS_DEV_STAT_STATE i) = dvFAILED
    ∧ rf (s.devFail i c) (FBUS_DEV_STAT_FAIL_CODE i) = c.val ∧ rb (s.devFail i c) FBUS_EVT_DEV_FAILED = true := by
  have hj : offJournal (FBUS_DEV_STAT i) := .inl (by unfold FBUS_DEV_STAT; omega)
  have hevt : FBUS_EVT ≠ FBUS_DEV_STAT i := by unfold FBUS_EVT FBUS_DEV_STAT; omega
  refine ⟨?_, ?_, ?_⟩
  · refine (rf_journal _ _ _ _ _ _ _ (by decide) hj).trans ((rf_setF_ne _ _ _ _ (.inl hevt)).trans ?_)
    exact (rf_setF_ne _ _ _ _ (Fld.apart_within (by decide))).trans (rf_setF_same _ _ _ (show 29 + 3 ≤ 32 by decide))
  · refine (rf_journal _ _ _ _ _ _ _ (by decide) hj).trans ((rf_setF_ne _ _ _ _ (.inl hevt)).trans ?_)
    exact (rf_setF_same _ _ _ (show 0 + 8 ≤ 32 by decide)).trans (Nat.mod_eq_of_lt c.val_lt)
  · exact (rb_journal _ _ _ _ _ _ _ (by decide) (.inl (by decide))).trans (rb_raise_same _ rfl (by decide))

@[simp] theorem devFail_boot (i : Nat) (c : Code) : (s.devFail i c).boot = s.boot := by simp [State.devFail]
@[simp] theorem devFail_fbus (i : Nat) (c : Code) : (s.devFail i c).fbus = s.fbus := by simp [State.devFail]

/-- The bounds of a bus lie outside the registers of the devices, and beside the tap of every bus. -/
theorem trimBound_off {b : Nat} (hb : b < 32) (i : Nat) : FBUS_DEV_STAT i ≠ FBUS_FB_TRIM b ∧ FBUS_EVT ≠ FBUS_FB_TRIM b ∧ offJournal (FBUS_FB_TRIM b) := by
  unfold FBUS_DEV_STAT FBUS_FB_TRIM FBUS_EVT offJournal
  omega

theorem devStat_ne {i j : Nat} (h : i ≠ j) : FBUS_DEV_STAT i ≠ FBUS_DEV_STAT j := by unfold FBUS_DEV_STAT; omega

theorem devPlaced_trainsAs (s : State) (i : Nat) (d : FbDev) : trainsAs s (s.devPlaced i d) :=
  ⟨rfl, fun _ hb => ⟨rf_devPlaced_off (trimBound_off hb i).1, rf_devPlaced_off (trimBound_off hb i).1⟩⟩

/-- What discovery can find of a device: it passes every step and is trained, or it fails with a code (R249, R250). -/
theorem discoverDev_cases (s : State) (i : Nat) {d : FbDev} (hb : d.bus < 32) (o : Option DevObs) :
    (∃ b tap, o = some b ∧ judgeDev s d b = (.ok, tap) ∧ s.discoverDev i d o = (s.devPlaced i d).devTrained i d b tap)
    ∨ ∃ c, (∀ b, o = some b → (judgeDev s d b).1 ≠ .ok) ∧ s.discoverDev i d o = (s.devPlaced i d).devFail i c := by
  cases o with
  | none => exact .inr ⟨.timeout, nofun, rfl⟩
  | some b =>
    rcases hj : judgeDev s d b with ⟨c, tap⟩
    have hplaced : judgeDev (s.devPlaced i d) d b = (c, tap) := ((devPlaced_trainsAs s i d).judgeDev hb b).trans hj
    unfold State.devPlaced at hplaced
    by_cases hc : c = .ok
    · subst hc
      exact .inl ⟨b, tap, rfl, hj, by simp only [State.discoverDev, hplaced]; rfl⟩
    · refine .inr ⟨c, fun b' h => ?_, ?_⟩
      · obtain rfl := Option.some.inj h
        rwa [hj]
      · simp only [State.discoverDev, hplaced]
        rfl

/-- The state that discovery finds a device in, from what was observed of it. -/
def stateFound (s : State) (d : FbDev) : Option DevObs → Nat
  | some o => if (judgeDev s d o).1 = .ok then dvREADY else dvFAILED
  | none => dvFAILED

theorem trainsAs.stateFound {s t : State} (h : trainsAs s t) {d : FbDev} (hb : d.bus < 32) (o : Option DevObs) : stateFound t d o = stateFound s d o := by
  cases o with
  | none => rfl
  | some o => simp only [Machine.stateFound, h.judgeDev hb]

section
variable {i : Nat} {d : FbDev} (hb : d.bus < 32)
include hb

theorem discoverDev_state (s : State) (hi : i < 128) (o : Option DevObs) : rf (s.discoverDev i d o) (FBUS_DEV_STAT_STATE i) = stateFound s d o := by
  obtain ⟨b, tap, rfl, hj, h⟩ | ⟨c, hj, h⟩ := discoverDev_cases s i hb o
  · rw [h, devTrained_state hb, stateFound, hj]
    rfl
  · rw [h, (devFail_shows _ hi c).1]
    cases o with
    | none => rfl
    | some b => exact (if_neg (hj b rfl)).symm

/-- Discovery of a device writes its own register, the tap of its bus, the event and the journal. -/
theorem rf_discoverDev_off (o : Option DevObs) (hdev : FBUS_DEV_STAT i ≠ g.addr) (htap : (FBUS_FB_TRIM_TAP d.bus).apart g)
    (hevt : FBUS_EVT ≠ g.addr) (hj : offJournal g.addr) : rf (s.discoverDev i d o) g = rf s g := by
  obtain ⟨b, tap, -, -, h⟩ | ⟨c, -, h⟩ := discoverDev_cases s i hb o
  · rw [h, rf_devTrained_off hdev b tap htap, rf_devPlaced_off hdev]
  · rw [h, rf_devFail_off hdev c hevt hj, rf_devPlaced_off hdev]

/-- Of what the block keeps, discovery of a device writes what belongs to the devices. -/
theorem discoverDev_fbus_keeps {β : Type} (f : Fbus → β) (hf : ∀ x l, f { x with devs := l } = f x) (s : State) (o : Option DevObs) :
    f (s.discoverDev i d o).fbus = f s.fbus := by
  obtain ⟨b, tap, -, -, h⟩ | ⟨c, -, h⟩ := discoverDev_cases s i hb o
  · rw [h]
    exact hf _ _
  · rw [h, devFail_fbus]
    rfl

theorem discoverDev_trainsAs (s : State) (o : Option DevObs) : trainsAs s (s.discoverDev i d o) := by
  refine ⟨?_, fun b hb' => ?_⟩
  · obtain ⟨b, tap, -, -, h⟩ | ⟨c, -, h⟩ := discoverDev_cases s i hb o
    · rw [h]
      rfl
    · rw [h, devFail_boot]
      rfl
  · obtain ⟨hdev, hevt, hj⟩ := trimBound_off hb' i
    have hoff (lo : Nat) (h : 7 ≤ lo ∧ lo + 8 ≤ 32) : rf (s.discoverDev i d o) ⟨FBUS_FB_TRIM b, lo, 8⟩ = rf s ⟨FBUS_FB_TRIM b, lo, 8⟩ :=
      rf_discoverDev_off hb o hdev (.inr ⟨.inr h.1, h.2⟩) hevt hj
    exact ⟨hoff 8 (by decide), hoff 16 (by decide)⟩

end

/-! ### Assessment of the partitions (R250) -/

theorem rf_assess (p : FbPart → Bool) (hd : FBUS_STAT_DEV_FAILED.apart g) (hp : FBUS_STAT_PART_UNAVAIL.apart g)
    (hl : ORANGERY_STAT_LEDGER.apart g) (hj : offJournal g.addr) : rf (s.assess p) g = rf s g := by
  have hshow (u : State) : rf u.showFbus g = rf u g := (rf_setF_ne _ _ _ _ hp).trans (rf_setF_ne _ _ _ _ hd)
  unfold State.assess
  dsimp only
  rw [hshow, apply_ite (rf · g), rf_setF_ne _ _ _ _ hl, ite_self]
  refine State.each_keeps (rf · g) _ _ (fun u q => ?_) s
  split
  · rfl
  · exact rf_journalD _ _ _ _ _ _ _ _ _ (by decide) hj

/-- Of what the block keeps, assessment writes the unavailable partitions. -/
theorem assess_fbus_keeps {β : Type} (f : Fbus → β) (hf : ∀ x l, f { x with avail := l } = f x) (s : State) (p : FbPart → Bool) :
    f (s.assess p).fbus = f s.fbus := by
  have hshow (u : State) : u.showFbus.fbus = u.fbus := rfl
  unfold State.assess
  dsimp only
  rw [hshow, apply_ite State.fbus, State.setF_fbus, ite_self]
  refine State.each_keeps (fun u => f u.fbus) _ _ (fun u q => ?_) s
  split
  · exact hf _ _
  · rw [State.journalD_fbus]
    exact hf _ _

theorem assess_boot (s : State) (p : FbPart → Bool) : (s.assess p).boot = s.boot := by
  have hshow (u : State) : u.showFbus.boot = u.boot := rfl
  unfold State.assess
  dsimp only
  rw [hshow, apply_ite State.boot, State.setF_boot, ite_self]
  refine State.each_keeps State.boot _ _ (fun u q => ?_) s
  split
  · rfl
  · rw [State.journalD_boot]

/-- The block's counts of failed devices and of unavailable partitions, and the state of the ledger, lie outside the registers of the devices. -/
theorem devStat_assessed (s : State) (p : FbPart → Bool) {i lo wid : Nat} (hi : i < 128) :
    rf (s.assess p) ⟨FBUS_DEV_STAT i, lo, wid⟩ = rf s ⟨FBUS_DEV_STAT i, lo, wid⟩ := by
  have hstat : FBUS_STAT ≠ FBUS_DEV_STAT i := by unfold FBUS_STAT FBUS_DEV_STAT; omega
  have hledger : ORANGERY_STAT ≠ FBUS_DEV_STAT i := by unfold ORANGERY_STAT FBUS_DEV_STAT; omega
  exact rf_assess p (.inl hstat) (.inl hstat) (.inl hledger) (.inl (show FBUS_DEV_STAT i < 0x40300000 by unfold FBUS_DEV_STAT; omega))

theorem assess_trainsAs (s : State) (p : FbPart → Bool) : trainsAs s (s.assess p) := by
  refine ⟨assess_boot s p, fun b hb => ?_⟩
  have hstat : FBUS_STAT ≠ FBUS_FB_TRIM b := by unfold FBUS_STAT FBUS_FB_TRIM; omega
  have hledger : ORANGERY_STAT ≠ FBUS_FB_TRIM b := by unfold ORANGERY_STAT FBUS_FB_TRIM; omega
  have hj := (trimBound_off hb 0).2.2
  exact ⟨rf_assess p (.inl hstat) (.inl hstat) (.inl hledger) hj, rf_assess p (.inl hstat) (.inl hstat) (.inl hledger) hj⟩

/-! ### Discovery of every device (R249) -/

/-- What was observed of device `i` on a bus that can be driven (R57). -/
def obsLive (s : State) (devs : List DevObs) (p : FbDev × Nat) : Option DevObs := if fbLive s p.1.bus then devs.find? (·.dev = p.2) else none

/-- One device of the map is discovered from the observations. -/
def State.discoverFrom (devs : List DevObs) (s : State) (p : FbDev × Nat) : State := s.discoverDev p.2 p.1 (obsLive s devs p)

/-- Every device of the map is discovered, in the order of buses and chip selects. -/
def State.discovered (s : State) (devs : List DevObs) : State :=
  s.each (sortBy (fun p => 4 * p.1.bus + p.1.cs) s.fbus.map.devs.zipIdx) (State.discoverFrom devs)

theorem trainsAs.obsLive {s t : State} (h : trainsAs s t) (devs : List DevObs) (p : FbDev × Nat) : obsLive t devs p = obsLive s devs p := by
  simp only [Machine.obsLive, h.fbLive]

section
variable {devs : List DevObs} (hbus : ∀ d ∈ s.fbus.map.devs, d.bus < 32)
include hbus

theorem listed_bus_lt {p : FbDev × Nat} (h : p ∈ sortBy (fun p => 4 * p.1.bus + p.1.cs) s.fbus.map.devs.zipIdx) : p.1.bus < 32 :=
  hbus _ (List.mem_of_getElem? (List.mem_zipIdx_iff_getElem?.1 (mem_sortBy.1 h)))

/-- Each device ends in the state that its own observation gives: the others leave its register and what it is judged by. -/
theorem discovered_state (hlen : s.fbus.map.devs.length ≤ 128) {i : Nat} {d : FbDev} (hd : s.fbus.map.devs[i]? = some d) :
    rf (s.discovered devs) (FBUS_DEV_STAT_STATE i) = stateFound s d (obsLive s devs (d, i)) := by
  have hi : i < 128 := by
    obtain ⟨h, -⟩ := List.getElem?_eq_some_iff.1 hd
    omega
  have hb : d.bus < 32 := hbus d (List.mem_of_getElem? hd)
  have hmem : (d, i) ∈ s.fbus.map.devs.zipIdx := List.mem_zipIdx_iff_getElem?.2 hd
  refine State.each_establishes (I := trainsAs s) (P := fun t => rf t (FBUS_DEV_STAT_STATE i) = stateFound s d (obsLive s devs (d, i)))
    (a := (d, i)) (fun u hu p hp => hu.trans (discoverDev_trainsAs (listed_bus_lt hbus hp) u _)) (fun u hu => ?set) (fun u hu p hp hne => ?keep)
    ⟨rfl, fun _ _ => ⟨rfl, rfl⟩⟩ (.inl (mem_sortBy.2 hmem))
  case set => exact (discoverDev_state hb u hi _).trans ((hu.stateFound hb _).trans (congrArg (stateFound s d) (hu.obsLive devs (d, i))))
  case keep =>
    have hpb := listed_bus_lt hbus hp
    have htap : FBUS_FB_TRIM p.1.bus ≠ FBUS_DEV_STAT i := by unfold FBUS_FB_TRIM FBUS_DEV_STAT; omega
    have hother := devStat_ne (zipIdx_snd_ne (mem_sortBy.1 hp) hmem hne)
    have hoff : FBUS_EVT ≠ FBUS_DEV_STAT i ∧ offJournal (FBUS_DEV_STAT i) := by unfold FBUS_EVT FBUS_DEV_STAT offJournal; omega
    exact (rf_discoverDev_off (g := FBUS_DEV_STAT_STATE i) hpb _ hother (.inl htap) hoff.1 hoff.2).trans hu

theorem discovered_discovering : (s.discovered devs).fbus.discovering = s.fbus.discovering :=
  List.foldlRecOn (motive := fun t : State => t.fbus.discovering = s.fbus.discovering) _ _ rfl fun u hu _ hp =>
    (discoverDev_fbus_keeps (listed_bus_lt hbus hp) (·.discovering) (fun _ _ => rfl) u _).trans hu

end

theorem exec_discoveryDone_due (devs : List DevObs) (hd : s.fbus.discovering = true) : exec (.discoveryDone devs) s = .next
    ((((({ s with fbus := { s.fbus with discovering := false } } : State).discovered devs).assess fun _ => true).raise FBUS_STAT_DISC_DONE).cmdEnd
      fbusIf 1 .ok) := by
  simp only [exec, execDiscoveryDone, hd, if_true]
  rfl

/-- The state that discovery finds a device in, as its observation and the life of its bus give it. -/
theorem stateFound_obsLive (s : State) (devs : List DevObs) (d : FbDev) (i : Nat) : stateFound s d (obsLive s devs (d, i)) =
    (match devs.find? (·.dev = i) with
      | some o => if fbLive s d.bus = true ∧ (judgeDev s d o).1 = .ok then dvREADY else dvFAILED
      | none => dvFAILED) := by
  unfold obsLive
  cases hl : fbLive s d.bus with
  | false => cases devs.find? (·.dev = i) <;> simp [stateFound]
  | true => cases devs.find? (·.dev = i) <;> simp [stateFound]

theorem exec_discoveryDone_shows (devs : List DevObs) (hd : s.fbus.discovering = true) (hlen : s.fbus.map.devs.length ≤ 128)
    (hbus : ∀ d ∈ s.fbus.map.devs, d.bus < 32) : ∃ t, exec (.discoveryDone devs) s = .next t ∧ t.fbus.discovering = false
      ∧ rb t FBUS_STAT_DISC_DONE = true ∧ rf t FBUS_CMD_STAT_LAST_STATUS = 0
      ∧ ∀ i d, s.fbus.map.devs[i]? = some d → rf t (FBUS_DEV_STAT_STATE i) = stateFound s d (obsLive s devs (d, i)) := by
  refine ⟨_, exec_discoveryDone_due devs hd, ?_, ?_, rf_cmdEnd_status _ fbusIf_shows 1 .ok 0, fun i d hi => ?_⟩
  · rw [State.cmdEnd_fbus, State.raise_fbus, assess_fbus_keeps (·.discovering) fun _ _ => rfl]
    exact discovered_discovering (s := { s with fbus := { s.fbus with discovering := false } }) hbus
  · rw [rb, rf_fbusEnd_off _ _ _ (by decide) (by decide)]
    exact rb_raise_same _ rfl (by decide)
  · have hlt : i < 128 := by
      obtain ⟨h, -⟩ := List.getElem?_eq_some_iff.1 hi
      omega
    have hoff : FBUS_CMD_STAT ≠ FBUS_DEV_STAT i ∧ FBUS_EVT ≠ FBUS_DEV_STAT i ∧ FBUS_STAT ≠ FBUS_DEV_STAT i := by
      unfold FBUS_CMD_STAT FBUS_EVT FBUS_STAT FBUS_DEV_STAT
      omega
    obtain ⟨hcmd, hevt, hstat⟩ := hoff
    refine (rf_fbusEnd_off _ _ _ hcmd hevt).trans ((rf_setF_ne _ _ _ _ (.inl hstat)).trans ((devStat_assessed _ _ hlt).trans ?_))
    exact discovered_state (s := { s with fbus := { s.fbus with discovering := false } }) hbus hlen hi

/-! ### REDISCOVER (R263) -/

theorem exec_rediscover_accepted {dev : Nat} (hd : dev < s.fbus.map.devs.length) (hf : rf s (FBUS_DEV_STAT_STATE dev) = dvFAILED)
    (hl : lockdown s = false) : exec (.rediscover dev) s = .next { s with fbus := { s.fbus with redisc := s.fbus.redisc ++ [dev] } } := by
  have hc : rediscoverCode s dev = none := by simp [rediscoverCode, firstCode, hf, hl, hd]
  simp only [exec, execRediscover, hc]

theorem exec_rediscover_malformed {dev : Nat} (hd : s.fbus.map.devs.length ≤ dev) :
    ∃ t, exec (.rediscover dev) s = .next t ∧ rf t FBUS_CMD_STAT_LAST_STATUS = 0xF ∧ t.fbus = s.fbus := by
  have hc : rediscoverCode s dev = some .malformed := by simp [rediscoverCode, firstCode, hd]
  have hexec : exec (.rediscover dev) s = .next (s.fbusRefuse 2 .malformed) := by simp only [exec, execRediscover, hc]
  exact ⟨_, hexec, fbusRefuse_shows s 2 (by decide)⟩

/-- A device that is READY has its partitions assessed again (R250). -/
def State.reassessed (s : State) (i : Nat) : State := if rf s (FBUS_DEV_STAT_STATE i) = dvREADY then s.assess (·.device = i) else s

theorem reassessed_state (s : State) {i : Nat} (hi : i < 128) : rf (s.reassessed i) (FBUS_DEV_STAT_STATE i) = rf s (FBUS_DEV_STAT_STATE i) := by
  unfold State.reassessed
  split
  · exact devStat_assessed _ _ hi
  · rfl

/-- Device `i` is taken off the rediscoveries in progress, and discovered from an observation. -/
def State.rediscovered (s : State) (i : Nat) (d : FbDev) (o : DevObs) : State :=
  ({ s with fbus := { s.fbus with redisc := s.fbus.redisc.erase i } }).discoverDev i d (some o)

/-- The code with which a rediscovery ends. -/
def rediscCode (s : State) (i : Nat) (d : FbDev) (o : DevObs) : Code :=
  let t := (s.rediscovered i d o).reassessed i
  if rf (s.rediscovered i d o) (FBUS_DEV_STAT_STATE i) = dvREADY then .ok else if fbLive t d.bus then (judgeDev t d o).1 else .timeout

section
variable {i : Nat} {d : FbDev} (hb : d.bus < 32)
include hb

theorem rediscovered_trainsAs (s : State) (o : DevObs) : trainsAs s ((s.rediscovered i d o).reassessed i) := by
  have h : trainsAs s (s.rediscovered i d o) := discoverDev_trainsAs hb _ _
  unfold State.reassessed
  split
  · exact h.trans (assess_trainsAs _ _)
  · exact h

theorem rediscovered_redisc (s : State) (o : DevObs) : ((s.rediscovered i d o).reassessed i).fbus.redisc = s.fbus.redisc.erase i := by
  have h : (s.rediscovered i d o).fbus.redisc = s.fbus.redisc.erase i := discoverDev_fbus_keeps hb (·.redisc) (fun _ _ => rfl) _ _
  unfold State.reassessed
  split
  · exact (assess_fbus_keeps (·.redisc) (fun _ _ => rfl) _ _).trans h
  · exact h

theorem rediscovered_state (s : State) (hi : i < 128) (o : DevObs) :
    rf (s.rediscovered i d o) (FBUS_DEV_STAT_STATE i) = stateFound s d (some o) := discoverDev_state hb _ hi _

/-- On a live bus, a rediscovery ends with the code of the device's failure, or OK. -/
theorem rediscCode_live (s : State) (hi : i < 128) (o : DevObs) (hl : fbLive s d.bus = true) : rediscCode s i d o = (judgeDev s d o).1 := by
  have htrain := rediscovered_trainsAs (i := i) hb s o
  rw [rediscCode, htrain.fbLive, hl, htrain.judgeDev hb, if_pos rfl, rediscovered_state hb s hi, stateFound]
  by_cases hok : (judgeDev s d o).1 = .ok
  · rw [if_pos hok, if_pos rfl, hok]
  · rw [if_neg hok, if_neg (by decide)]

theorem exec_rediscoverDone_live {o : DevObs} (hr : s.fbus.redisc.contains i = true) (hd : s.fbus.map.devs[i]? = some d) (hi : i < 128)
    (ho : o.dev = i) (hl : fbLive s d.bus = true) :
    exec (.rediscoverDone o) s = .next (((s.rediscovered i d o).reassessed i).cmdEnd fbusIf 2 (judgeDev s d o).1 i) := by
  subst ho
  have hl' : fbLive ({ s with fbus := { s.fbus with redisc := s.fbus.redisc.erase o.dev } } : State) d.bus = true := hl
  rw [← rediscCode_live hb s hi o hl]
  simp only [exec, execRediscoverDone, hd, hr, hl', Bool.not_true, Bool.false_eq_true, if_false, if_true]
  rfl

theorem exec_rediscoverDone_shows {o : DevObs} (hr : s.fbus.redisc.contains i = true) (hd : s.fbus.map.devs[i]? = some d) (hi : i < 128)
    (ho : o.dev = i) (hl : fbLive s d.bus = true) : ∃ t, exec (.rediscoverDone o) s = .next t ∧ t.fbus.redisc = s.fbus.redisc.erase i
      ∧ rf t FBUS_CMD_STAT_LAST_OP = 2 ∧ rf t (FBUS_DEV_STAT_STATE i) = stateFound s d (some o)
      ∧ rf t FBUS_CMD_STAT_LAST_STATUS = (judgeDev s d o).1.val := by
  have hoff : FBUS_CMD_STAT ≠ FBUS_DEV_STAT i ∧ FBUS_EVT ≠ FBUS_DEV_STAT i := by
    unfold FBUS_CMD_STAT FBUS_EVT FBUS_DEV_STAT
    omega
  refine ⟨_, exec_rediscoverDone_live hb hr hd hi ho hl, ?_, rf_fbusEnd_op _ _ _, ?_, rf_cmdEnd_status _ fbusIf_shows _ _ _⟩
  · rw [State.cmdEnd_fbus]
    exact rediscovered_redisc hb s o
  · exact (rf_fbusEnd_off _ _ _ hoff.1 hoff.2).trans ((reassessed_state _ hi).trans (rediscovered_state hb s hi o))

end

/-! ### The tap of a device (R251) -/

section
variable {dev b : Nat}

theorem setTap_shows (s : State) (dev b v : Nat) : (devX (s.setTap dev b v) dev).tap = v ∧ rf (s.setTap dev b v) (FBUS_FB_TRIM_TAP b) = v % 128 := by
  refine ⟨?_, rf_setF_same _ _ _ (show 0 + 7 ≤ 32 by decide)⟩
  have hx : devX (s.setTap dev b v) dev = { devX s dev with tap := v } := (Sparse.get_put _ _ _ _ _).trans (if_pos rfl)
  rw [hx]

theorem moveTap_down (hlo : rf s (FBUS_FB_TRIM_TRIM_MIN b) < (devX s dev).tap) (hhi : (devX s dev).tap ≤ rf s (FBUS_FB_TRIM_TRIM_MAX b) + 1) :
    s.moveTap dev b true = s.setTap dev b ((devX s dev).tap - 1) := by
  simp only [State.moveTap, if_true]
  rw [if_neg (by omega), if_neg (by omega)]

theorem moveTap_up (hlo : rf s (FBUS_FB_TRIM_TRIM_MIN b) ≤ (devX s dev).tap + 1) (hhi : (devX s dev).tap < rf s (FBUS_FB_TRIM_TRIM_MAX b)) :
    s.moveTap dev b false = s.setTap dev b ((devX s dev).tap + 1) := by
  simp only [State.moveTap, Bool.false_eq_true, if_false]
  rw [if_neg (by omega), if_neg (by omega)]
  rfl

theorem moveTap_down_clamped (hlo : (devX s dev).tap ≤ rf s (FBUS_FB_TRIM_TRIM_MIN b)) :
    s.moveTap dev b true = (s.setTap dev b (rf s (FBUS_FB_TRIM_TRIM_MIN b))).trimClamp b := by
  simp only [State.moveTap, if_true]
  rw [if_pos (by omega)]

theorem moveTap_up_clamped (hlo : rf s (FBUS_FB_TRIM_TRIM_MIN b) ≤ (devX s dev).tap + 1) (hhi : rf s (FBUS_FB_TRIM_TRIM_MAX b) ≤ (devX s dev).tap) :
    s.moveTap dev b false = (s.setTap dev b (rf s (FBUS_FB_TRIM_TRIM_MAX b))).trimClamp b := by
  simp only [State.moveTap, Bool.false_eq_true, if_false]
  rw [if_neg (by omega), if_pos (by omega)]

end

/-- A working device that fails shows it, whatever becomes of its partitions (R250). -/
theorem devLost_shows (s : State) {i : Nat} (hi : i < 128) (c : Code) : rf (s.devLost i c) (FBUS_DEV_STAT_STATE i) = dvFAILED
    ∧ rf (s.devLost i c) (FBUS_DEV_STAT_FAIL_CODE i) = c.val ∧ rb (s.devLost i c) FBUS_EVT_DEV_FAILED = true := by
  obtain ⟨hstate, hcode, hevt⟩ := devFail_shows s hi c
  refine ⟨(devStat_assessed _ _ hi).trans hstate, (devStat_assessed _ _ hi).trans hcode, ?_⟩
  rw [rb, State.devLost, rf_assess _ (.inl (by decide)) (.inl (by decide)) (.inl (by decide)) (.inl (by decide))]
  exact hevt

section
variable {dev : Nat} {d : FbDev} {taps : List Nat} (hd : s.fbus.map.devs[dev]? = some d)
include hd

theorem retrainDev_passes {c : Nat} (code : Code)
    (hc : centreTap taps (rf s (FBUS_FB_TRIM_TRIM_MIN d.bus)) (rf s (FBUS_FB_TRIM_TRIM_MAX d.bus)) = some c) :
    s.retrainDev dev taps code = s.setTap dev d.bus c := by
  simp only [State.retrainDev, hd, hc]

theorem retrainDev_fails (code : Code)
    (hc : centreTap taps (rf s (FBUS_FB_TRIM_TRIM_MIN d.bus)) (rf s (FBUS_FB_TRIM_TRIM_MAX d.bus)) = none) :
    s.retrainDev dev taps code = s.devLost dev code := by
  simp only [State.retrainDev, hd, hc]

/-- A check that is due and may be served: what each pair of reads makes of the tap. -/
theorem exec_trimTrack_served (below above : Bool) (ht : rb s (FBUS_FB_TRIM_TRACK_EN d.bus) = true) (hr : rf s (FBUS_DEV_STAT_STATE dev) = dvREADY)
    (hi : devIdle s dev = true) (hb : busServes s d.bus 4 = true) {u : State} (hu : u = s.busServed d.bus 4) :
    exec (.trimTrack dev below above taps) s = .next (if below && above then u.setTap dev d.bus (devX u dev).tap
      else if below then u.moveTap dev d.bus true else if above then u.moveTap dev d.bus false else u.retrainDev dev taps .verifyFail) := by
  subst hu
  simp only [exec, execTrimTrack, hd, ht, hr, hi, hb, decide_true, Bool.and_self, if_true]

end

/-! ### A write of the bounds (R5, R251) -/

/-- The row of FBUS_FB_TRIM in the register map. -/
def trimRow : RegRow := ⟨0x400D0100, 4, 32, [⟨16, 8, .rwl⟩, ⟨8, 8, .rwl⟩, ⟨7, 1, .rwl⟩, ⟨0, 7, .ro⟩]⟩

theorem regRow_fbTrim : ∀ b < 32, regRow (FBUS_FB_TRIM b) = some trimRow := by decide +kernel

theorem lockReg_fbTrim : ∀ b < 32, lockReg (FBUS_FB_TRIM b) = some FBUS_CTRL := by decide +kernel

/-- Without the lock, a write acts on each field by its access code, and on nothing else. -/
theorem fieldOf_regWrite_unlocked {a w : Nat} {row : RegRow} (hr : regRow a = some row) (hl : lockedAt s a = false) {f : FldRow} (hf : f ∈ row.flds) :
    fieldOf (reg (s.regWrite a w) a).toNat f = writeField false (reg s a).toNat w f := by
  rw [regWrite_unbroken hr (by rw [hl]; rfl), reg_setReg_same, hl]
  exact fieldOf_storedWord _ _ _ (regRow_fldsOk hr) hf

section
variable {b : Nat} (hb : b < 32)
include hb

theorem exec_trimWrite_refused {w : Nat} (hl : rb s FBUS_CTRL_LOCK = false) (hok : trimOk s b w = false) :
    exec (.trimWrite b w) s = .next (s.journal 5 251 srcFBUS b) := by
  simp only [exec, execTrimWrite, hl, hok, Nat.not_le.2 hb, if_false, Bool.or_self, Bool.false_eq_true]

theorem exec_trimWrite_writes {w : Nat} (h : rb s FBUS_CTRL_LOCK = true ∨ trimOk s b w = true) :
    exec (.trimWrite b w) s = .next (s.regWrite (FBUS_FB_TRIM b) w) := by
  simp only [exec, execTrimWrite, Nat.not_le.2 hb, if_false, Bool.or_eq_true, h, if_true]

theorem trimWrite_open_shows (w : Nat) (hl : rb s FBUS_CTRL_LOCK = false) :
    rf (s.regWrite (FBUS_FB_TRIM b) w) (FBUS_FB_TRIM_TRIM_MIN b) = bitsAt w 8 8 ∧ rf (s.regWrite (FBUS_FB_TRIM b) w) (FBUS_FB_TRIM_TRIM_MAX b) = bitsAt w 16 8
      ∧ rf (s.regWrite (FBUS_FB_TRIM b) w) (FBUS_FB_TRIM_TAP b) = rf s (FBUS_FB_TRIM_TAP b) ∧ (s.regWrite (FBUS_FB_TRIM b) w).fbus = s.fbus := by
  have hr := regRow_fbTrim b hb
  have hopen : lockedAt s (FBUS_FB_TRIM b) = false := (lockedAt_eq (lockReg_fbTrim b hb)).trans hl
  refine ⟨fieldOf_regWrite_unlocked hr hopen (f := ⟨8, 8, .rwl⟩) (by decide), fieldOf_regWrite_unlocked hr hopen (f := ⟨16, 8, .rwl⟩) (by decide),
    fieldOf_regWrite_unlocked hr hopen (f := ⟨0, 7, .ro⟩) (by decide), ?_⟩
  rw [regWrite_unbroken hr (by rw [hopen]; rfl)]
  rfl

theorem trimWrite_locked_shows (w : Nat) (hl : rb s FBUS_CTRL_LOCK = true) :
    rf (s.regWrite (FBUS_FB_TRIM b) w) (FBUS_FB_TRIM_TRIM_MIN b) = rf s (FBUS_FB_TRIM_TRIM_MIN b)
      ∧ rf (s.regWrite (FBUS_FB_TRIM b) w) (FBUS_FB_TRIM_TRIM_MAX b) = rf s (FBUS_FB_TRIM_TRIM_MAX b) := by
  have hkept (lo : Nat) (hf : ⟨lo, 8, .rwl⟩ ∈ trimRow.flds) :
      rf (s.regWrite (FBUS_FB_TRIM b) w) ⟨FBUS_FB_TRIM b, lo, 8⟩ = rf s ⟨FBUS_FB_TRIM b, lo, 8⟩ :=
    (fieldOf_regWrite_locked (regRow_fbTrim b hb) (lockReg_fbTrim b hb) hl (f := ⟨lo, 8, .rwl⟩) hf fun _ _ => by simp).trans (writeField_rwl _ _ rfl)
  exact ⟨hkept 8 (by decide), hkept 16 (by decide)⟩

end

/-! ### The statement -/

/-- Settles O37: discovery takes each device from its own observation (`discovered_state`), a rediscovery ends with what it found
(`exec_rediscoverDone_live`), the tap moves one step or is held at a bound (`moveTap_down`, `moveTap_up_clamped`), and a write of the bounds acts
by their access codes (`trimWrite_open_shows`, `trimWrite_locked_shows`). -/
theorem mapDiscoveryAndTrim : Obligations.MapDiscoveryAndTrim := by
  refine fun s => ⟨fun len m => exec_applyMap_shows, fun len => exec_applyMap_malformed, fun devs hd hlen hbus => ?discovery,
    fun dev => exec_rediscover_accepted, fun dev => exec_rediscover_malformed, fun i d o hr hd hi hb ho hl => exec_rediscoverDone_shows hb hr hd hi ho hl,
    ?trim, fun b w hb hl => ⟨fun hok => ⟨_, exec_trimWrite_writes hb (.inr hok), trimWrite_open_shows hb w hl⟩, exec_trimWrite_refused hb hl⟩,
    fun b w hb hl => ⟨_, exec_trimWrite_writes hb (.inl hl), trimWrite_locked_shows hb w hl⟩⟩
  case discovery =>
    obtain ⟨t, hexec, hdone, hshown, hstatus, hstate⟩ := exec_discoveryDone_shows devs hd hlen hbus
    exact ⟨t, hexec, hdone, hshown, hstatus, fun i d hi => (hstate i d hi).trans (stateFound_obsLive s devs d i)⟩
  case trim =>
    rintro dev d taps _ _ _ _ u hd rfl - hdev htrack hready hidle hserves rfl rfl rfl hu
    have hcheck (below above : Bool) := exec_trimTrack_served (taps := taps) hd below above htrack hready hidle hserves hu
    have hdu : u.fbus.map.devs[dev]? = some d := by rw [hu]; exact hd
    have hx : devX u dev = devX s dev := by rw [hu]; rfl
    have hr (f : Fld) : rf u f = rf s f := by rw [hu]; rfl
    have htap : (devX s dev).tap = (devX u dev).tap := by rw [hx]
    rw [htap, ← hr (FBUS_FB_TRIM_TRIM_MIN d.bus), ← hr (FBUS_FB_TRIM_TRIM_MAX d.bus)]
    refine ⟨hcheck true true, fun hlo hhi => ?_, fun hlo hhi => ?_, fun hlo => ?_, fun hlo hhi => ?_, fun c hc => ?_, fun hc => ?_, setTap_shows u dev d.bus⟩
    · exact (hcheck true false).trans (congrArg _ (moveTap_down hlo hhi))
    · exact (hcheck false true).trans (congrArg _ (moveTap_up hlo hhi))
    · exact (hcheck true false).trans (congrArg _ (moveTap_down_clamped hlo))
    · exact (hcheck false true).trans (congrArg _ (moveTap_up_clamped hlo hhi))
    · exact (hcheck false false).trans (congrArg _ (retrainDev_passes hdu _ hc))
    · exact ⟨_, (hcheck false false).trans (congrArg _ (retrainDev_fails hdu _ hc)), devLost_shows u hdev .verifyFail⟩

end Sys2Proof.Machine
end

section
/-! CLEAR_WK of a working key that a running operation uses (R294, R316, R320). -/

namespace Sys2Proof.Machine

variable {s : State} {e : Nat}

theorem mapBit_setMapBit_same (s : State) {f : Fld} {i : Nat} (b : Bool) (hi : i < f.wid) (hb : f.lo + f.wid ≤ 32) :
    mapBit (s.setMapBit f i b) f i = b := by
  unfold mapBit State.setMapBit
  rw [rf_setF_same _ _ _ hb, Nat.testBit_mod_two_pow, setBits_testBit, if_pos ⟨Nat.le_refl i, Nat.lt_succ_self i⟩, Nat.sub_self]
  cases b <;> simp [hi]

/-- BUSY of engine `e`, as its block shows it (R309). -/
def busyShown (s : State) (e : Nat) : Bool := mapBit s (ENG_STAT_BUSY (engBlk e)) e

theorem busyShown_setEng (s : State) (he : e < 4) (o : EngOp) : busyShown (s.setEng e (some o)) e = true :=
  mapBit_setMapBit_same _ true he (show 0 + 4 ≤ 32 by decide)

theorem busyShown_clearLater (he : e < 4) (h : busyShown s e = true) : busyShown (s.clearLater e) e = true := by
  unfold State.clearLater
  split
  · exact busyShown_setEng s he _
  · exact h

theorem busyShown_engStop {o : EngOp} (he : e < 4) (ho : engOp s e = some o) (c : Code) : busyShown (s.engStop e c) e = true := by
  unfold State.engStop
  rw [ho]
  exact busyShown_setEng s he _

theorem exec_clearWk_inUse (hc : clearWkCode s e = none) (hu : wkInUse s e = true) :
    exec (.clearWk e) s = .next ((s.engStop e .aborted).clearLater e) := by
  simp only [exec, execClearWk, State.keyDecide, hc, hu, if_true]

/-- An HMAC operation with the key of slot 5. -/
def wkOp : EngOp := ⟨[0x39], 0x10000000, [[1], [], [], []], some (5, 2, []), 0, 0, 0, false⟩

/-- Engine 3 runs the operation while its BUSY bit reads 0. -/
def busyHidden : State := { State.reset with eng := [(3, wkOp)] }

theorem busyHidden_clearable : clearWkCode busyHidden 3 = none ∧ (engOp busyHidden 3).isSome = true ∧ wkInUse busyHidden 3 = true
    ∧ busyShown busyHidden 3 = false := by decide +kernel

/-- Refutes O40: its clause on CLEAR_WK during an operation that uses the key says that no register changes, in every state. The command marks
the operation as ending, and the engine's BUSY bit then shows it (`busyShown_clearLater`), also where the bit did not show it before, as in
`busyHidden`. -/
theorem not_keyCommandsAreDecided : ¬ Obligations.KeyCommandsAreDecided := by
  intro h
  obtain ⟨hcode, hop, huse, hhidden⟩ := busyHidden_clearable
  obtain ⟨o, ho⟩ := Option.isSome_iff_exists.1 hop
  obtain ⟨-, -, -, -, -, -, -, -, -, -, hclear, -⟩ := h busyHidden 0 0
  obtain ⟨t, hexec, -, hinUse, -⟩ := hclear 3 hcode
  obtain ⟨-, -, hregs⟩ := hinUse o ho huse
  obtain rfl : (busyHidden.engStop 3 .aborted).clearLater 3 = t := Host.Outcome.next.inj ((exec_clearWk_inUse hcode huse).symm.trans hexec)
  have hshown : busyShown ((busyHidden.engStop 3 .aborted).clearLater 3) 3 = true :=
    busyShown_clearLater (by decide) (busyShown_engStop (by decide) ho .aborted)
  have hkept : busyShown ((busyHidden.engStop 3 .aborted).clearLater 3) 3 = busyShown busyHidden 3 := by
    unfold busyShown mapBit rf reg
    rw [hregs]
  exact absurd (hshown.symm.trans (hkept.trans hhidden)) (by decide)

end Sys2Proof.Machine
end

section
/-! How commands of the key manager run, commit and end (R290, R291, R295, R299, R305, R317, R420). -/

namespace Sys2Proof.Machine

variable {s : State} {q : KeyCmd}

/-! ### Engines held back from firmware (R317) -/

section
variable (s) (need : Nat) (b : Bool)

@[simp] theorem holdEngines_keys : (s.holdEngines need b).keys = s.keys := State.each_keeps State.keys _ (·.setKmHold · b) (fun _ _ => rfl) s
@[simp] theorem holdEngines_tcm : (s.holdEngines need b).tcm = s.tcm := State.each_keeps State.tcm _ (·.setKmHold · b) (fun _ _ => rfl) s
@[simp] theorem holdEngines_lodge : (s.holdEngines need b).lodge = s.lodge := State.each_keeps State.lodge _ (·.setKmHold · b) (fun _ _ => rfl) s

/-- The registers below those of the engines. -/
theorem rf_holdEngines {g : Fld} (h : g.addr < ENG_STAT 0) : rf (s.holdEngines need b) g = rf s g :=
  State.each_keeps (rf · g) _ _ (fun t e => rf_setF_ne t _ g _ (.inl (show ENG_STAT (engBlk e) ≠ g.addr by unfold ENG_STAT at *; omega))) s

theorem rb_holdEngines {g : Fld} (h : g.addr < ENG_STAT 0) : rb (s.holdEngines need b) g = rb s g := by
  unfold rb; rw [rf_holdEngines s need b h]

end

/-! ### Slots -/

theorem slotOf_congr {t : State} (h : t.keys.slots = s.keys.slots) (i : Nat) : slotOf t i = slotOf s i := by unfold slotOf; rw [h]

theorem slotOf_putSlot (s : State) (i j : Nat) (x : Slot) : slotOf (s.putSlot i x) j = if j = i then x else slotOf s j :=
  Sparse.get_put _ _ _ _ _

theorem slotOf_putSlot_same (s : State) (i : Nat) (x : Slot) : slotOf (s.putSlot i x) i = x := by rw [slotOf_putSlot, if_pos rfl]

theorem slotOf_putSlot_ne (s : State) {i j : Nat} (x : Slot) (h : j ≠ i) : slotOf (s.putSlot i x) j = slotOf s j := by
  rw [slotOf_putSlot, if_neg h]

/-- What an erased slot and the others hold (R305). -/
theorem eraseSlot_shows (s : State) (i : Nat) : slotOf (s.eraseSlot i) i = { Slot.empty with wlock := (slotOf s i).wlock }
    ∧ (∀ j, j ≠ i → slotOf (s.eraseSlot i) j = slotOf s j) ∧ (s.eraseSlot i).keys.cmd = s.keys.cmd :=
  ⟨slotOf_putSlot_same s i _, fun _ hj => slotOf_putSlot_ne s _ hj, rfl⟩

/-! ### A commit (R290, R291) -/

theorem loser_lt_two (s : State) (i : Nat) : loser s i < 2 := by
  unfold loser
  split <;> decide

theorem copy_setCopy_same (x : Slot) {k : Nat} (hk : k < 2) (c : Copy) : (x.setCopy k c).copy k = c := by
  interval_cases k <;> rfl

theorem copy_setCopy_other (x : Slot) {k : Nat} (hk : k < 2) (c : Copy) : (x.setCopy k c).copy (1 - k) = x.copy (1 - k) := by
  interval_cases k <;> rfl

/-- GEN of the next commit to a slot. -/
def nextGen (s : State) (i : Nat) : Nat := match winner s i with | some w => (mdGen ((slotOf s i).copy w).md + 1) % 65536 | none => 0

/-- The copy that a commit writes. -/
def newCopy (s : State) (i : Nat) (p : List Byte) (md : Nat) : Copy :=
  ⟨slice p 0 64, md + nextGen s i * 2 ^ 16, copyTag s.keys.kt (slice p 0 64) (md + nextGen s i * 2 ^ 16) i, false⟩

/-- The slot after a commit. -/
def newSlot (s : State) (i : Nat) (p : List Byte) (md : Nat) : Slot :=
  { (slotOf s i).setCopy (loser s i) (newCopy s i p md) with isSealed := false, sealMd := 0, pub := [] }

theorem commitSram_keys (s : State) (i : Nat) (p : List Byte) (md : Nat) :
    (s.commitSram i p md).keys = (s.putSlot i (newSlot s i p md)).keys := rfl

theorem commitSram_shows (s : State) (i : Nat) (p : List Byte) (md : Nat) :
    (slotOf (s.commitSram i p md) i).copy (loser s i) = newCopy s i p md
      ∧ (slotOf (s.commitSram i p md) i).copy (1 - loser s i) = (slotOf s i).copy (1 - loser s i)
      ∧ ∀ j, j ≠ i → slotOf (s.commitSram i p md) j = slotOf s j := by
  have hslot (j : Nat) : slotOf (s.commitSram i p md) j = slotOf (s.putSlot i (newSlot s i p md)) j := by
    unfold slotOf; rw [commitSram_keys]
  refine ⟨?_, ?_, fun j hj => (hslot j).trans (slotOf_putSlot_ne s _ hj)⟩
  · rw [hslot, slotOf_putSlot_same]
    exact copy_setCopy_same _ (loser_lt_two s i) _
  · rw [hslot, slotOf_putSlot_same]
    exact copy_setCopy_other _ (loser_lt_two s i) _

/-! ### The end of a command (R305) -/

theorem keyIf_shows : keyIf.Shows where
  byte := rfl
  bound := by decide
  done := by decide
  result f hf := by obtain rfl := Option.some.inj hf; decide

theorem keyIdle_keys (s : State) : s.keyIdle.keys = { s.keys with cmd := none } := holdEngines_keys _ _ _
@[simp] theorem keyIdle_tcm (s : State) : s.keyIdle.tcm = s.tcm := holdEngines_tcm _ _ _
@[simp] theorem keyIdle_lodge (s : State) : s.keyIdle.lodge = s.lodge := holdEngines_lodge _ _ _

theorem rb_keyIdle_busy (s : State) : rb s.keyIdle KEYS_STAT_CMD_BUSY = false := by
  unfold State.keyIdle
  rw [rb_holdEngines _ _ _ (by decide), rb_setF_ne _ _ _ _ (by decide)]
  exact rb_setF_zero _ (by decide)

/-- The interface of the key manager shows an end in its own registers alone. -/
theorem rf_keyEnd_off (s : State) (op : Nat) (c : Code) (r : Nat) {g : Fld} (hs : KEYS_CMD_STAT ≠ g.addr) (he : KEYS_EVT ≠ g.addr) :
    rf (s.cmdEnd keyIf op c r) g = rf s g :=
  (rf_setF_ne _ _ _ _ (.inl he)).trans <| (rf_setF_ne _ _ _ _ (.inl hs)).trans <| (rf_setF_ne _ _ _ _ (.inl hs)).trans
    (rf_setF_ne _ _ _ _ (.inl hs))

theorem rf_keyEnd_op (s : State) {op : Nat} (hop : op < 2 ^ 8) (c : Code) (r : Nat) :
    rf (s.cmdEnd keyIf op c r) KEYS_CMD_STAT_LAST_OP = op :=
  (rf_setF_ne _ _ _ _ (by decide)).trans <| (rf_setF_ne _ _ _ _ (by decide)).trans <| (rf_setF_ne _ _ _ _ (by decide)).trans <|
    (rf_setF_same _ _ _ (by decide)).trans (Nat.mod_eq_of_lt hop)

/-- What a KEY_REVOKED event and a record leave, the end of the command in progress shows as `cmdEnd` does on an idle key manager. -/
theorem keyCmdEnd_keeps {β : Type} (g : State → β) (hq : s.keys.cmd = some q) (c : Code) (hevt : ∀ t : State, g (t.raise KEYS_EVT_REVOKED) = g t)
    (hrec : ∀ (t : State) (n : Nat), g (t.journal 1 305 srcKEYS n c) = g t) : ∃ r, g (s.keyCmdEnd c) = g (s.keyIdle.cmdEnd keyIf q.op c r) := by
  refine ⟨if c = .ok && q.lookup then q.src else 0, ?_⟩
  unfold State.keyCmdEnd
  rw [hq]
  dsimp only
  split
  · exact hevt _
  · split
    · rfl
    · exact hrec _ _

section
variable (hq : s.keys.cmd = some q) (c : Code)
include hq

theorem keyCmdEnd_keys : (s.keyCmdEnd c).keys = { s.keys with cmd := none } := by
  obtain ⟨r, h⟩ := keyCmdEnd_keeps State.keys hq c (fun _ => rfl) fun t n => t.journal_keys _ _ _ _ _
  rw [h, State.cmdEnd_keys, keyIdle_keys]

theorem keyCmdEnd_slots : (s.keyCmdEnd c).keys.slots = s.keys.slots := by rw [keyCmdEnd_keys hq]

theorem keyCmdEnd_tcm : (s.keyCmdEnd c).tcm = s.tcm := by
  obtain ⟨r, h⟩ := keyCmdEnd_keeps State.tcm hq c (fun _ => rfl) fun t n => t.journal_tcm _ _ _ _ _
  rw [h, State.cmdEnd_tcm, keyIdle_tcm]

theorem keyCmdEnd_lodge : (s.keyCmdEnd c).lodge = s.lodge := by
  obtain ⟨r, h⟩ := keyCmdEnd_keeps State.lodge hq c (fun _ => rfl) fun t n => t.journal_lodge _ _ _ _ _
  rw [h, State.cmdEnd_lodge, keyIdle_lodge]

theorem slotOf_keyCmdEnd (i : Nat) : slotOf (s.keyCmdEnd c) i = slotOf s i :=
  slotOf_congr (keyCmdEnd_slots hq c) i

theorem rf_keyCmdEnd_status : rf (s.keyCmdEnd c) KEYS_CMD_STAT_LAST_STATUS = c.val := by
  obtain ⟨r, h⟩ := keyCmdEnd_keeps (rf · KEYS_CMD_STAT_LAST_STATUS) hq c (fun t => rf_setF_ne t _ _ _ (by decide))
    fun t n => rf_journal t _ _ _ _ _ _ (by decide) (.inl (by decide))
  exact h.trans (rf_cmdEnd_status _ keyIf_shows _ c r)

/-- A field of the registers below the engines', in which an end shows nothing. -/
theorem rf_keyCmdEnd_off {g : Fld} (hlow : g.addr < ENG_STAT 0) (hs : KEYS_CMD_STAT ≠ g.addr) (he : KEYS_EVT ≠ g.addr) :
    rf (s.keyCmdEnd c) g = rf s.keyIdle g := by
  have hj : offJournal g.addr := .inl (by unfold ENG_STAT at hlow; omega)
  obtain ⟨r, h⟩ := keyCmdEnd_keeps (rf · g) hq c (fun t => rf_setF_ne t _ _ _ (.inl he)) fun t n => rf_journal t _ _ _ _ _ _ (by decide) hj
  exact h.trans (rf_keyEnd_off _ _ c r hs he)

theorem rb_keyCmdEnd_busy : rb (s.keyCmdEnd c) KEYS_STAT_CMD_BUSY = false := by
  rw [rb, rf_keyCmdEnd_off hq c (by decide) (by decide) (by decide)]
  exact rb_keyIdle_busy s

end

theorem rf_keyIdle_off (s : State) {g : Fld} (hlow : g.addr < ENG_STAT 0) (hbusy : KEYS_STAT_CMD_BUSY.apart g) (hpend : KEYS_STAT_PENDING.apart g) :
    rf s.keyIdle g = rf s g :=
  (rf_holdEngines _ _ _ hlow).trans <| (rf_setF_ne _ _ _ _ hpend).trans (rf_setF_ne _ _ _ _ hbusy)

/-- A command that is refused in the state it meets shows so, with one record. -/
theorem keyRefuse_refusedState (s : State) (op unit : Nat) :
    s.keyRefuse op unit .refusedState none = (s.cmdEnd keyIf op .refusedState).journal 1 305 srcKEYS unit .refusedState := by
  simp [State.keyRefuse, State.cmdRefuse]

/-! ### KS3 (R71, R299) -/

@[simp] theorem setDigest_keys (s : State) (base : Nat → Nat) (d : List Byte) : (s.setDigest base d).keys = s.keys :=
  State.each_keeps State.keys (List.range 12) (fun t i => t.setReg (base i) _) (fun _ _ => rfl) s

theorem bootSlot_cmd (s : State) (i ty usage : Nat) (p : List Byte) (lock : Bool) : (s.bootSlot i ty usage p lock).keys.cmd = s.keys.cmd := by
  unfold State.bootSlot
  dsimp only
  split <;> rfl

theorem bootSlot_wlock (ty usage : Nat) (p : List Byte) (lock : Bool) {i : Nat} (h : (slotOf s i).isSealed = false) :
    (slotOf (s.bootSlot i ty usage p lock) i).wlock = lock := by
  unfold State.bootSlot
  dsimp only
  rw [if_neg (by rw [h]; exact Bool.false_ne_true)]
  exact congrArg Slot.wlock (slotOf_putSlot_same s i _)

theorem deriveL2_shows {root : List Byte} {svn : Nat} (hcfg : s.keys.cfg = some (root, svn)) :
    rb s.deriveL2 KEYS_STAT_L2_DONE = true ∧ rf s.deriveL2 SYSCTL_CFG_SVN_CFG_SVN = svn % 2 ^ 32 ∧ s.deriveL2.keys.l2Auto = none
      ∧ s.deriveL2.keys.cmd = s.keys.cmd ∧ ((slotOf s 3).isSealed = false → (slotOf s.deriveL2 3).wlock = true) := by
  unfold State.deriveL2
  rw [hcfg]
  dsimp only
  simp only [rb_modKeys, rf_modKeys, State.modKeys_keys, State.raise_keys, State.setF_keys, setDigest_keys]
  refine ⟨rb_raise_same _ rfl (by decide), ?_, trivial, bootSlot_cmd _ _ _ _ _ _, fun hopen => ?_⟩
  · exact (rf_setF_ne _ _ _ _ (by decide)).trans (rf_setF_same _ _ _ (by decide))
  · simp only [slotOf, State.modKeys_keys, State.raise_keys, State.setF_keys, setDigest_keys]
    exact bootSlot_wlock _ _ _ _ hopen

/-! ### The generator without an item (R329, R332) -/

theorem produce_off (h : drbgOn s = false) : s.produce = s := by
  have hb : s.itemBoundary = s := by simp [State.itemBoundary, h]
  simp [State.produce, hb, h]

theorem takeItems_dry (hk : rb s RNG_STAT_KAT_FAIL = false) (he : s.rng.queue = []) (hd : drbgOn s = false) :
    s.takeItems 1 = (.error .notReady, s) := by
  have hitem : s.takeItem = (.error .notReady, s) := by simp [State.takeItem, hk, he, produce_off hd]
  rw [State.takeItems, hitem]

/-! ### How a command runs -/

theorem cmdGone_eq_none (hd : q.op ≠ opDERIVE) (hp : q.op ≠ opPUBLIC) (hc : q.op ≠ opCERTIFY) : cmdGone s q = none := by
  simp only [cmdGone, if_neg hd, if_neg hp, if_neg hc]

theorem keyRun_gone {i : Nat} {c : Code} (h : cmdGone s q = some (i, c)) : s.keyRun q = (s.foundBad i).keyCmdEnd c := by
  simp only [State.keyRun, h]

theorem keyRun_erase (h : q.op = opERASE) (hd : q.dst < 40) : s.keyRun q = (s.eraseSlot q.dst).keyCmdEnd .ok := by
  have hgone : cmdGone s q = none := cmdGone_eq_none (by rw [h]; decide) (by rw [h]; decide) (by rw [h]; decide)
  simp [State.keyRun, hgone, h, opERASE, opGENERATE, opDERIVE, opDERIVE_SEALED, Nat.not_le.mpr hd]

theorem keyRun_public (h : q.op = opPUBLIC) (hgone : cmdGone s q = none) :
    s.keyRun q = (s.tcmWrite (q.args.getD 2 0) (slotPublic s q.src)).keyCmdEnd .ok := by
  simp [State.keyRun, hgone, h, opERASE, opGENERATE, opDERIVE, opDERIVE_SEALED, opCERTIFY, opPUBLIC]

theorem keyRun_deriveL2 (h : q.op = opDERIVE_L2) : s.keyRun q = s.deriveL2.keyCmdEnd .ok := by
  have hgone : cmdGone s q = none := cmdGone_eq_none (by rw [h]; decide) (by rw [h]; decide) (by rw [h]; decide)
  simp [State.keyRun, hgone, h, opERASE, opGENERATE, opDERIVE, opDERIVE_SEALED, opCERTIFY, opPUBLIC, opDERIVE_L2]

theorem keyRun_generate (h : q.op = opGENERATE) : s.keyRun q = s.runGenerate q := by
  have hgone : cmdGone s q = none := cmdGone_eq_none (by rw [h]; decide) (by rw [h]; decide) (by rw [h]; decide)
  simp [State.keyRun, hgone, h]

theorem runGenerate_type1 {m : List Byte} {s1 : State} (ht : bitsAt (q.args.getD 0 0) 12 4 = 1) (hm : s.takeItems 1 = (.ok m, s1)) :
    s.runGenerate q = s1.keyCommit q (slice m 0 48) 2 := by
  simp only [State.runGenerate, genPayload, ht]
  simp [hm]

theorem runGenerate_refused {c : Code} {s1 : State} (ht : bitsAt (q.args.getD 0 0) 12 4 = 1) (hm : s.takeItems 1 = (.error c, s1)) :
    s.runGenerate q = s1.keyCmdEnd c := by
  simp only [State.runGenerate, ht]
  simp [hm]

/-! ### The commands of the key manager's own sequence -/

section
variable (hq : s.keys.cmd = some q)
include hq

theorem exec_rewriteRelease_waits (hl : anyLease s q.dst = true) : exec .rewriteRelease s = .next s := by
  simp [exec, execRewriteRelease, hq, hl]

theorem exec_rewriteRelease_asks (hst : q.stage = 0) (hl : anyLease s q.dst = false) : exec .rewriteRelease s
    = .next (((s.modKeys fun k => { k with cmd := some { q with stage := 1 } }).setF KEYS_STAT_PENDING 0).holdEngines q.need true) := by
  simp [exec, execRewriteRelease, hq, hst, hl]

theorem exec_kmEngineTake_takes {e : Nat} (hst : q.stage = 1) (hn : q.need.testBit e = true) (hb : engBusy s e = false) (hc : coreTaken s e = false) :
    exec (.kmEngineTake e) s = .next (s.modKeys fun k => { k with cmd := some { q with taken := setBits q.taken e 1 1 } }) := by
  simp [exec, execKmEngineTake, hq, hst, hn, hb, hc]

theorem exec_kmEngineTake_busy {e : Nat} (hb : engBusy s e = true) : exec (.kmEngineTake e) s = .next s := by
  simp [exec, execKmEngineTake, hq, hb]

theorem exec_keysAbort_marks (hst : q.stage < 2) : exec .keysAbort s
    = .next ((s.modKeys fun k => { k with cmd := some { q with aborted := true } }).cmdEnd keyIf opKEYS_ABORT .ok) := by
  simp only [exec, execKeysAbort, hq, if_pos hst]

theorem exec_keysAbort_refused (hst : 2 ≤ q.stage) :
    exec .keysAbort s = .next ((s.cmdEnd keyIf opKEYS_ABORT .refusedState).journal 1 305 srcKEYS noUnit .refusedState) := by
  simp only [exec, execKeysAbort, hq, if_neg (Nat.not_lt.mpr hst), keyRefuse_refusedState]

theorem exec_keysCmdDone_aborted (ha : q.aborted = true) : exec .keysCmdDone s = .next (s.keyCmdEnd .aborted) := by
  simp only [exec, execKeysCmdDone, hq, ha, if_true]

theorem exec_keysCmdDone_vault (ha : q.aborted = false) (hst : q.stage = 2) :
    exec .keysCmdDone s = .next ((s.vaultPhase2 q.dst q.copy).keyCmdEnd .ok) := by
  simp [exec, execKeysCmdDone, hq, ha, hst]

theorem exec_keysCmdDone_runs (ha : q.aborted = false) (hst : q.stage = 1) (ht : q.taken = q.need) : exec .keysCmdDone s = .next (s.keyRun q) := by
  simp [exec, execKeysCmdDone, hq, ha, hst, ht]

end

section
variable {t0 : Nat} (hauto : s.keys.l2Auto = some t0) (hdue : t0 ≤ s.usec) (hdone : rb s KEYS_STAT_L2_DONE = false)
  (hzero : rb s KEYS_STAT_ZEROISED = false)
include hauto hdue hdone hzero

theorem exec_ks3AutoDerive_blocked (hb : deriveBlocked s = true) : exec .ks3AutoDerive s = .next (s.holdEngines 12 true) := by
  simp [exec, execKs3AutoDerive, hauto, hdue, hdone, hzero, hb]

theorem exec_ks3AutoDerive_derives (hq : s.keys.cmd = some q) (hop : q.op = opDERIVE_L2) (hb : deriveBlocked s = false) :
    exec .ks3AutoDerive s = .next (((s.keyCmdEnd .refusedState).deriveL2.journal 1 299 srcKEYS 3).holdEngines 12 false) := by
  simp [exec, execKs3AutoDerive, hauto, hdue, hdone, hzero, hb, hq, hop]

end

/-! ### What they show -/

section
variable (hq : s.keys.cmd = some q)
include hq

theorem exec_rewriteRelease_shows (hst : q.stage = 0) (hl : anyLease s q.dst = false) : ∃ t, exec .rewriteRelease s = .next t
    ∧ t.keys.cmd = some { q with stage := 1 } ∧ rb t KEYS_STAT_PENDING = false ∧ t.keys.slots = s.keys.slots := by
  refine ⟨_, exec_rewriteRelease_asks hq hst hl, ?_, ?_, ?_⟩
  · rw [holdEngines_keys]
    rfl
  · rw [rb_holdEngines _ _ _ (by decide)]
    exact rb_setF_zero _ (by decide)
  · rw [holdEngines_keys]
    rfl

theorem exec_keysAbort_shows (hst : q.stage < 2) : ∃ t, exec .keysAbort s = .next t ∧ t.keys.cmd = some { q with aborted := true }
    ∧ rf t KEYS_CMD_STAT_LAST_STATUS = 0 ∧ rf t KEYS_CMD_STAT_LAST_OP = 14 ∧ t.keys.slots = s.keys.slots := by
  refine ⟨_, exec_keysAbort_marks hq hst, ?_, rf_cmdEnd_status _ keyIf_shows _ .ok 0, rf_keyEnd_op _ (by decide) .ok 0, ?_⟩
  · rw [State.cmdEnd_keys]
    rfl
  · rw [State.cmdEnd_keys]
    rfl

theorem exec_keysAbort_late (hst : 2 ≤ q.stage) : ∃ t, exec .keysAbort s = .next t ∧ rf t KEYS_CMD_STAT_LAST_STATUS = 4 ∧ t.keys = s.keys := by
  refine ⟨_, exec_keysAbort_refused hq hst, ?_, ?_⟩
  · rw [rf_journal _ _ _ _ _ _ _ (by decide) (.inl (by decide))]
    exact rf_cmdEnd_status s keyIf_shows _ .refusedState 0
  · rw [State.journal_keys, State.cmdEnd_keys]

/-- An erased slot, once its command has ended. -/
theorem keyRun_erase_shows (hop : q.op = opERASE) (hd : q.dst < 40) :
    slotOf (s.keyRun q) q.dst = { Slot.empty with wlock := (slotOf s q.dst).wlock }
      ∧ (∀ i, i ≠ q.dst → slotOf (s.keyRun q) i = slotOf s i) ∧ rf (s.keyRun q) KEYS_CMD_STAT_LAST_STATUS = 0 := by
  obtain ⟨hsame, hother, hcmd⟩ := eraseSlot_shows s q.dst
  have hq' : (s.eraseSlot q.dst).keys.cmd = some q := hcmd.trans hq
  rw [keyRun_erase hop hd]
  exact ⟨(slotOf_keyCmdEnd hq' .ok _).trans hsame, fun i hi => (slotOf_keyCmdEnd hq' .ok i).trans (hother i hi), rf_keyCmdEnd_status hq' .ok⟩

theorem keyRun_public_shows (hop : q.op = opPUBLIC) (hgone : cmdGone s q = none) :
    (s.keyRun q).tcm = (s.tcmWrite (q.args.getD 2 0) (slotPublic s q.src)).tcm ∧ (s.keyRun q).keys.slots = s.keys.slots
      ∧ rf (s.keyRun q) KEYS_CMD_STAT_LAST_STATUS = 0 := by
  have hq' : (s.tcmWrite (q.args.getD 2 0) (slotPublic s q.src)).keys.cmd = some q := hq
  rw [keyRun_public hop hgone]
  exact ⟨keyCmdEnd_tcm hq' .ok, keyCmdEnd_slots hq' .ok, rf_keyCmdEnd_status hq' .ok⟩

theorem keyRun_deriveL2_shows (hop : q.op = opDERIVE_L2) {root : List Byte} {svn : Nat} (hcfg : s.keys.cfg = some (root, svn)) :
    rb (s.keyRun q) KEYS_STAT_L2_DONE = true ∧ ((slotOf s 3).isSealed = false → (slotOf (s.keyRun q) 3).wlock = true)
      ∧ rf (s.keyRun q) SYSCTL_CFG_SVN_CFG_SVN = svn % 2 ^ 32 ∧ rf (s.keyRun q) KEYS_CMD_STAT_LAST_STATUS = 0 := by
  obtain ⟨hdone, hsvn, -, hcmd, hlock⟩ := deriveL2_shows hcfg
  have hq' : s.deriveL2.keys.cmd = some q := hcmd.trans hq
  have hkept {g : Fld} (hlow : g.addr < ENG_STAT 0) (hs : KEYS_CMD_STAT ≠ g.addr) (he : KEYS_EVT ≠ g.addr) (hb : KEYS_STAT_CMD_BUSY.apart g)
      (hp : KEYS_STAT_PENDING.apart g) : rf (s.deriveL2.keyCmdEnd .ok) g = rf s.deriveL2 g :=
    (rf_keyCmdEnd_off hq' .ok hlow hs he).trans (rf_keyIdle_off _ hlow hb hp)
  rw [keyRun_deriveL2 hop]
  refine ⟨?_, fun hopen => ?_, ?_, rf_keyCmdEnd_status hq' .ok⟩
  · rw [rb, hkept (by decide) (by decide) (by decide) (by decide) (by decide)]
    exact hdone
  · rw [slotOf_keyCmdEnd hq']
    exact hlock hopen
  · rw [hkept (by decide) (by decide) (by decide) (by decide) (by decide), hsvn]

/-- A command that finds no DRBG item ends NOT_READY and leaves the slots. -/
theorem keyRun_generate_dry (hop : q.op = opGENERATE) (ht : bitsAt (q.args.getD 0 0) 12 4 = 1) (hk : rb s RNG_STAT_KAT_FAIL = false)
    (he : s.rng.queue = []) (hd : drbgOn s = false) :
    (s.keyRun q).keys.slots = s.keys.slots ∧ rf (s.keyRun q) KEYS_CMD_STAT_LAST_STATUS = 0x10 := by
  rw [keyRun_generate hop, runGenerate_refused ht (takeItems_dry hk he hd)]
  exact ⟨keyCmdEnd_slots hq .notReady, rf_keyCmdEnd_status hq .notReady⟩

/-- What the HX96's own derivation of KS3 shows (R299). -/
theorem autoDerived_shows {root : List Byte} {svn : Nat} (hcfg : s.keys.cfg = some (root, svn)) :
    let t := ((s.keyCmdEnd .refusedState).deriveL2.journal 1 299 srcKEYS 3).holdEngines 12 false
    rb t KEYS_STAT_L2_DONE = true ∧ t.keys.l2Auto = none ∧ t.keys.cmd = none
      ∧ ((slotOf s 3).isSealed = false → (slotOf t 3).wlock = true) := by
  have hkeys := keyCmdEnd_keys hq .refusedState
  obtain ⟨hdone, -, hauto, hcmd, hlock⟩ := deriveL2_shows ((congrArg Keys.cfg hkeys).trans hcfg)
  intro t
  have ht : t.keys = (s.keyCmdEnd .refusedState).deriveL2.keys := (holdEngines_keys _ _ _).trans (State.journal_keys _ _ _ _ _ _)
  refine ⟨?_, (congrArg Keys.l2Auto ht).trans hauto, ?_, fun hopen => ?_⟩
  · rw [rb_holdEngines _ _ _ (by decide), rb_journal _ _ _ _ _ _ _ (by decide) (.inl (by decide))]
    exact hdone
  · rw [ht, hcmd, hkeys]
  · rw [slotOf_congr (congrArg Keys.slots ht)]
    exact hlock ((congrArg Slot.isSealed (slotOf_keyCmdEnd hq .refusedState 3)).trans hopen)

end

/-- Settles O41: what a waiting rewrite, ABORT and the commands that run show, each from the equation of its command and from what the end of a
command leaves (`keyCmdEnd_keys`, `rf_keyCmdEnd_status`); a commit changes the losing copy of its slot alone (`commitSram_shows`). -/
theorem keyCommandsRunAndCommit : Obligations.KeyCommandsRunAndCommit := by
  intro s q hq
  refine ⟨exec_rewriteRelease_shows hq, fun _ => exec_rewriteRelease_waits hq, fun e => exec_kmEngineTake_takes hq, fun e => exec_kmEngineTake_busy hq,
    exec_keysAbort_shows hq, exec_keysAbort_late hq, fun ha => ?aborted, fun ha hst => ?vault, fun ha hst ht => ?runs,
    fun t0 hop hauto hdue hdone hzero root svn hcfg => ⟨exec_ks3AutoDerive_blocked hauto hdue hdone hzero, fun hb => ?derives⟩,
    fun i p md _ => commitSram_shows s i p md⟩
  case aborted =>
    exact ⟨_, exec_keysCmdDone_aborted hq ha, keyCmdEnd_keys hq _, rf_keyCmdEnd_status hq _, rb_keyCmdEnd_busy hq _, keyCmdEnd_tcm hq _⟩
  case vault =>
    have hq' : (s.vaultPhase2 q.dst q.copy).keys.cmd = some q := hq
    exact ⟨_, exec_keysCmdDone_vault hq ha hst, keyCmdEnd_keys hq' _, rf_keyCmdEnd_status hq' _, congrArg Lodge.vault (keyCmdEnd_lodge hq' _)⟩
  case runs =>
    have hexec : exec .keysCmdDone s = .next (s.keyRun q) := exec_keysCmdDone_runs hq ha hst ht
    refine ⟨hexec, fun i c hgone => hexec.trans (congrArg _ (keyRun_gone hgone)), fun hop hd => ⟨_, hexec, keyRun_erase_shows hq hop hd⟩,
      fun hop hgone => ⟨_, hexec, keyRun_public_shows hq hop hgone⟩, fun hop root svn hcfg => ⟨_, hexec, keyRun_deriveL2_shows hq hop hcfg⟩,
      fun hop hty m s1 hm => hexec.trans (congrArg _ ((keyRun_generate hop).trans (runGenerate_type1 hty hm))),
      fun hop hty hk he hd => ⟨_, hexec, keyRun_generate_dry hq hop hty hk he hd⟩⟩
  case derives =>
    exact ⟨_, exec_ks3AutoDerive_derives hauto hdue hdone hzero hq hop hb, autoDerived_shows hq hcfg⟩

end Sys2Proof.Machine
end

section
/-! Which requests of a bound source are answered (R12, R114, R353, R361). -/

namespace Sys2Proof.Machine

variable {s : State} {o : Origin} {t : Tbe} {typ cmd : Nat} {inLock : Bool} {perm : Tbe → Bool}
  {f : Tbe → State → State}

/-- The source is bound and the mode answers its requests. -/
structure Answered (s : State) (o : Origin) (t : Tbe) : Prop where
  bound : mctpTenant s o = some t
  started : mode s ≠ moASSEMBLY

theorem request_unbound (h : mctpTenant s o = none) : s.request o typ cmd inLock perm f = s.stranger o typ cmd := by
  simp [State.request, h]

theorem request_answered (h : Answered s o t) (hl : inLock = true ∨ lockdown s = false) (hp : perm t = true) :
    s.request o typ cmd inLock perm f = f t s := by
  have hlock : (lockdown s && !inLock) = false := by
    rcases hl with rfl | hl
    · simp
    · simp [hl]
  simp [State.request, firstCode, h.bound, h.started, hlock, hp]

theorem request_unpermitted (h : Answered s o t) (hl : inLock = true ∨ lockdown s = false) (hp : perm t = false) :
    s.request o typ cmd inLock perm f = s.respond t.tn typ cmd .refusedPolicy := by
  have hlock : (lockdown s && !inLock) = false := by
    rcases hl with rfl | hl
    · simp
    · simp [hl]
  simp [State.request, firstCode, h.bound, h.started, hlock, hp]

theorem request_lockedOut (h : Answered s o t) (hl : lockdown s = true) :
    s.request o typ cmd false perm f = s.respond t.tn typ cmd .refusedState := by
  simp [State.request, firstCode, h.bound, h.started, hl]

theorem spdm_breaks (h : Answered s o t) (hp : t.permAttest = true) (e : SpdmErr) :
    s.spdm o cmd (some e) true f = s.ret (.spdmError e) := request_answered h (.inl rfl) hp

theorem spdm_runs (h : Answered s o t) (hp : t.permAttest = true) : s.spdm o cmd none true f = f t s :=
  request_answered h (.inl rfl) hp

end Sys2Proof.Machine
end

section
/-! What an item boundary of the generator does, and what a DRBG item that a consumer takes leaves as it is (R329, R330, R332). -/

namespace Sys2Proof.Machine

/-! ### The units that the generator leaves alone -/

/-- The units that neither an item nor a reseed touches. -/
def itemFrame (s : State) : Mtrans × Kiosk × Nat × Gate × Keys × Lcs × Lodge × Out :=
  (s.mtrans, s.kiosk, s.usec, s.gate, s.keys, s.lcs, s.lodge, s.out)

section
variable (s : State)

theorem itemFrame_showRng : itemFrame s.showRng = itemFrame s := by
  unfold State.showRng
  dsimp only
  split <;> rfl

theorem itemFrame_doReseed : itemFrame s.doReseed = itemFrame s := by simp [State.doReseed, itemFrame]

theorem itemFrame_drbgStop : itemFrame s.drbgStop = itemFrame s := by simp [State.drbgStop, itemFrame]

theorem itemFrame_itemBoundary : itemFrame s.itemBoundary = itemFrame s := by
  unfold State.itemBoundary
  split
  · rfl
  · split
    · exact itemFrame_doReseed s
    · split
      · rfl
      · split
        · exact itemFrame_drbgStop s
        · split
          · simp [itemFrame, State.bumpClamp]
          · rfl

theorem itemFrame_produce : itemFrame s.produce = itemFrame s := by
  have hbound := itemFrame_itemBoundary s
  unfold State.produce
  generalize s.itemBoundary = u at hbound ⊢
  dsimp only
  split
  · rw [itemFrame_showRng, itemFrame_itemBoundary]
    exact hbound
  · exact hbound

theorem itemFrame_takeItem : itemFrame s.takeItem.2 = itemFrame s := by
  have hfull : itemFrame (if s.rng.queue = [] then s.produce else s) = itemFrame s := by
    split
    · exact itemFrame_produce s
    · rfl
  unfold State.takeItem
  generalize (if s.rng.queue = [] then s.produce else s) = u at hfull ⊢
  split
  · rfl
  · dsimp only
    split
    · exact (itemFrame_showRng _).trans hfull
    · exact hfull

end

/-! ### The DRBG at an item boundary (R330) -/

/-- The reseed that is due or asked for is made. -/
def reseedsNow (s : State) : Bool := rb s RNG_STAT_SEED_BUF && (s.rng.asked || reseedInt s ≤ s.rng.since)

/-- The DRBG's state after an item boundary. -/
def boundaryState (s : State) : Nat :=
  if !drbgOn s then drbgState s else if reseedsNow s then drREADY else if s.rng.since < reseedInt s then drbgState s
  else if stretchLimit s ≤ s.rng.since then drSTOPPED else drSTRETCHED

/-- What the DRBG holds after an item boundary. -/
def boundaryRng (s : State) : Rng :=
  if drbgOn s && reseedsNow s then
    { s.rng with since := 0, asked := false, seed := [], drbg := Config.drbgReseed s.rng.drbg s.rng.seed }
  else s.rng

section
variable (s : State)

theorem itemBoundary_eq : s.itemBoundary = if !drbgOn s then s else if reseedsNow s then s.doReseed
    else if s.rng.since < reseedInt s then s else if stretchLimit s ≤ s.rng.since then s.drbgStop
    else if drbgState s = drREADY then ((s.setF RNG_STAT_DRBG drSTRETCHED).raise RNG_EVT_STRETCH).bumpClamp.journal 7 330 srcRNG noUnit
    else s := rfl

theorem drbgState_setF (v : Nat) : drbgState (s.setF RNG_STAT_DRBG v) = v % 4 := rf_setF_same _ _ _ (by decide)

theorem rf_doReseed {g : Fld} (hg : g.addr = RNG_STAT) : rf s.doReseed g = rf ((s.setF RNG_STAT_SEED_BUF 0).setF RNG_STAT_DRBG drREADY) g := by
  unfold State.doReseed
  dsimp only
  rw [rf_bump _ _ _ _ _ _ (by rw [hg]; decide) (by rw [hg]; decide) (by rw [hg]; decide) (by rw [hg]; exact .inl (by decide)), rf_modRng]

theorem drbgState_doReseed : drbgState s.doReseed = drREADY := (rf_doReseed s rfl).trans (drbgState_setF _ _)

theorem drbgState_drbgStop : drbgState s.drbgStop = drSTOPPED := by
  have hstop (u : State) : drbgState ((u.setF RNG_STAT_DRBG drSTOPPED).raise RNG_EVT_ALARM) = drSTOPPED :=
    (rf_setF_ne _ _ _ _ (by decide)).trans (drbgState_setF _ _)
  have hfault (u : State) : drbgState (u.uncovered 6 0) = drbgState u := by
    unfold State.uncovered State.assertFault
    dsimp only
    refine (rf_journalD _ _ _ _ _ _ _ _ _ (by decide) (.inl (by decide))).trans ((rf_setF_ne _ _ _ _ (by decide)).trans ?_)
    split
    · rfl
    · exact (rf_setF_ne _ _ _ _ (by decide)).trans ((rf_setF_ne _ _ _ _ (by decide)).trans (rf_setF_ne _ _ _ _ (by decide)))
  exact (hfault _).trans ((rf_journal _ _ _ _ _ _ _ (by decide) (.inl (by decide))).trans (hstop s))

theorem drbgOn_cases (h : drbgOn s = true) : drbgState s = drREADY ∨ drbgState s = drSTRETCHED := by simpa [drbgOn] using h

theorem drbgState_itemBoundary : drbgState s.itemBoundary = boundaryState s := by
  rw [itemBoundary_eq, boundaryState]
  by_cases hon : drbgOn s = true
  · simp only [hon, Bool.not_true, Bool.false_eq_true, if_false]
    by_cases hseed : reseedsNow s = true
    · rw [if_pos hseed, if_pos hseed]
      exact drbgState_doReseed s
    · rw [if_neg hseed, if_neg hseed]
      split
      · rfl
      · split
        · exact drbgState_drbgStop s
        · split
          · exact (rf_journal _ _ _ _ _ _ _ (by decide) (.inl (by decide))).trans
              ((rf_bump _ _ _ _ _ _ (by decide) (by decide) (by decide) (.inl (by decide))).trans
                ((rf_setF_ne _ _ _ _ (by decide)).trans (drbgState_setF _ _)))
          · rename_i hready
            exact (drbgOn_cases s hon).resolve_left hready
  · rw [if_pos (by simp [hon]), if_pos (by simp [hon])]

theorem itemBoundary_rng : s.itemBoundary.rng = boundaryRng s := by
  rw [itemBoundary_eq, boundaryRng]
  by_cases hon : drbgOn s = true
  · simp only [hon, Bool.not_true, Bool.false_eq_true, if_false, Bool.true_and]
    by_cases hseed : reseedsNow s = true
    · rw [if_pos hseed, if_pos hseed]
      simp [State.doReseed, State.modRng]
    · rw [if_neg hseed, if_neg hseed]
      split
      · rfl
      · split
        · simp [State.drbgStop]
        · split
          · simp [State.bumpClamp]
          · rfl
  · rw [if_pos (by simp [hon]), if_neg (by simp [hon])]

end

/-! ### The item that a consumer takes (R332) -/

@[simp] theorem State.showRng_rng (s : State) : s.showRng.rng = s.rng := by
  unfold State.showRng
  dsimp only
  split <;> rfl

/-- The queue once one more item was asked for. -/
def producedQueue (s : State) : List (List Byte) :=
  let r := boundaryRng s
  if (boundaryState s = drREADY || boundaryState s = drSTRETCHED) && r.queue.length < 64 then
    r.queue ++ [beBytes 48 (Config.drbgOutput r.drbg).toNat]
  else r.queue

theorem boundaryRng_queue (s : State) : (boundaryRng s).queue = s.rng.queue := by
  unfold boundaryRng
  split <;> rfl

theorem drbgOn_itemBoundary (s : State) :
    drbgOn s.itemBoundary = (decide (boundaryState s = drREADY) || decide (boundaryState s = drSTRETCHED)) := by
  rw [drbgOn, drbgState_itemBoundary]

theorem produce_queue (s : State) : s.produce.rng.queue = producedQueue s := by
  have hon := drbgOn_itemBoundary s
  have hrng := itemBoundary_rng s
  unfold State.produce producedQueue
  generalize s.itemBoundary = u at hon hrng ⊢
  dsimp only
  rw [hon, ← hrng]
  split
  · rw [State.showRng_rng, itemBoundary_rng, boundaryRng_queue]
    rfl
  · rfl

theorem takeItem_fst (s : State) : s.takeItem.1 = if rb s RNG_STAT_KAT_FAIL then .error .internalFault
    else match (if s.rng.queue = [] then producedQueue s else s.rng.queue) with | it :: _ => .ok it | [] => .error .notReady := by
  have hqueue : (if s.rng.queue = [] then s.produce else s).rng.queue = if s.rng.queue = [] then producedQueue s else s.rng.queue := by
    rw [apply_ite (fun u : State => u.rng.queue), produce_queue]
  unfold State.takeItem
  generalize (if s.rng.queue = [] then s.produce else s) = u at hqueue ⊢
  rw [← hqueue]
  split
  · rfl
  · dsimp only
    cases u.rng.queue <;> rfl

/-- The item does not depend on the answer that waits at an interface. -/
theorem takeItem_ret (s : State) (o : Out) : (s.ret o).takeItem.1 = s.takeItem.1 := by
  rw [takeItem_fst, takeItem_fst]
  rfl

end Sys2Proof.Machine
end

section
/-! The SPDM responder (R357 to R361, R363) and the vendor commands that it carries (R355). -/

namespace Sys2Proof.Machine

/-! ### The requests that LOCKDOWN answers (R361) -/

/-- The SPDM requests that LOCKDOWN answers too. -/
def spdmRequests (o : Origin) (tr data peer : List Byte) (id off len ver dts idx : Nat) (last sg : Bool) (b : Option SpdmErr) : List Instr :=
  [.getVersion o b, .getCapabilities o ver dts b, .negotiateAlgorithms o b, .getDigests o b, .getCertificate o off len b, .challenge o tr b,
    .getMeasurements o idx sg tr b, .keyExchange o peer tr b, .finish o id tr b, .heartbeat o id b, .keyUpdate o id b, .endSession o id b,
    .respondIfReady o b, .chunkSend o data last b, .chunkGet o b]

theorem exec_spdmRequests (s : State) (o : Origin) (tr data peer : List Byte) (id off len ver dts idx : Nat) (last sg : Bool)
    (b : Option SpdmErr) : ∀ c ∈ spdmRequests o tr data peer id off len ver dts idx last sg b,
      ∃ code f, exec c s = .next (s.spdm o code b true f) := by
  simp only [spdmRequests, List.forall_mem_cons, List.not_mem_nil, false_imp_iff, implies_true, and_true]
  exact ⟨⟨_, _, rfl⟩, ⟨_, _, rfl⟩, ⟨_, _, rfl⟩, ⟨_, _, rfl⟩, ⟨_, _, rfl⟩, ⟨_, _, rfl⟩, ⟨_, _, rfl⟩, ⟨_, _, rfl⟩, ⟨_, _, rfl⟩, ⟨_, _, rfl⟩,
    ⟨_, _, rfl⟩, ⟨_, _, rfl⟩, ⟨_, _, rfl⟩, ⟨_, _, rfl⟩, ⟨_, _, rfl⟩⟩

/-- The answer of ROM recovery to an SPDM request (R70). -/
theorem stranger_spdm (s : State) (o : Origin) (cmd : Nat) : s.stranger o mtSPDM cmd =
    if s.boot.stage = .recovery then s.ret (.reply .refusedState ([0xFF, 0] ++ beBytes 4 64917 ++ [4, 0, 0])) else s.unknownSrc o.port := by
  simp only [State.stranger, recovery, decide_eq_true_eq]
  rfl

/-! ### Connections and sessions -/

section
variable (s : State) (tn : Nat)

@[simp] theorem conn_setConn (c : Conn) : conn (s.setConn tn c) tn = c := by simp [conn, State.setConn, State.modMt]

@[simp] theorem conn_ret (o : Out) : conn (s.ret o) tn = conn s tn := rfl

theorem conn_congr {s t : State} (h : t.mtrans = s.mtrans) : conn t tn = conn s tn := by rw [conn, conn, h]

@[simp] theorem sess_ret (o : Out) (id : Nat) : sess (s.ret o) tn id = sess s tn id := rfl

@[simp] theorem sess_setConn (n id : Nat) (c : Conn) : sess (s.setConn n c) tn id = sess s tn id := rfl

end

theorem sess_names {s : State} {tn id : Nat} {q : Sess} (h : sess s tn id = some q) : q.id = id ∧ q.tn = tn := by
  have := List.find?_some h
  simpa using this

/-- A session put back in place of one of its identifier is the one that its tenant finds. -/
theorem sess_putSess {s : State} {tn id : Nat} {q q' : Sess} (h : sess s tn id = some q) (hid : q'.id = id) (htn : q'.tn = tn) :
    sess (s.putSess q') tn id = some q' := by
  have hex : ∃ r ∈ s.mtrans.sessions, r.id = id := by
    have hmem := List.mem_of_find?_eq_some h
    exact ⟨q, hmem, (sess_names h).1⟩
  unfold sess State.putSess State.modMt
  dsimp only
  generalize s.mtrans.sessions = l at hex
  induction l with
  | nil => obtain ⟨r, hr, -⟩ := hex; cases hr
  | cons r l ih =>
    rw [List.map_cons, List.find?_cons]
    by_cases hr : r.id = q'.id
    · simp [hr, hid, htn]
    · have hrest : ∃ r ∈ l, r.id = id := by
        obtain ⟨x, hx, hxid⟩ := hex
        rcases List.mem_cons.1 hx with rfl | hx
        · exact absurd (hxid.trans hid.symm) hr
        · exact ⟨x, hx, hxid⟩
      have hne : ¬ r.id = id := fun k => hr (k.trans hid.symm)
      simp only [hr, if_false, hne, decide_false, Bool.false_and]
      exact ih hrest

theorem sess_endSess (s : State) (tn id : Nat) : sess (s.endSess id) tn id = none := by
  simp only [sess, State.endSess, State.modMt, List.find?_filter, List.find?_eq_none]
  simp +contextual

/-! ### Data that fits the requester's DataTransferSize (R360) -/

theorem spdmData_whole {s : State} {t : Tbe} (h : (conn s t.tn).dts = 0) (data : List Byte) :
    s.spdmData t data = s.ret (.reply .ok data) := by
  simp [State.spdmData, State.spdmOk, h]

theorem spdmData_large {s : State} {t : Tbe} {data : List Byte} (h : (conn s t.tn).dts ≠ 0) (hlt : (conn s t.tn).dts < data.length) :
    s.spdmData t data = (s.setConn t.tn { conn s t.tn with large := data }).ret (.spdmError .largeResponse) := by
  simp [State.spdmData, h, hlt]

/-- Data sent leaves the sessions and every unit but the transports. -/
theorem spdmData_keeps (s : State) (t : Tbe) (data : List Byte) (id : Nat) :
    sess (s.spdmData t data) t.tn id = sess s t.tn id ∧ (s.spdmData t data).gate = s.gate
      ∧ (s.spdmData t data).mtrans.nextSess = s.mtrans.nextSess ∧ (s.spdmData t data).mtrans.sessions = s.mtrans.sessions := by
  unfold State.spdmData
  dsimp only
  split <;> exact ⟨rfl, rfl, rfl, rfl⟩

/-! ### Signatures with KS3 (R358, R361) -/

/-- A signature leaves every unit that an item leaves. -/
theorem itemFrame_ks3Sign (s : State) (tr : List Byte) : itemFrame (s.ks3Sign tr).2 = itemFrame s := by
  have hitem := itemFrame_takeItem s
  unfold State.ks3Sign
  generalize s.takeItem = p at hitem ⊢
  obtain ⟨r, u⟩ := p
  split
  · rfl
  · split
    · rfl
    · split
      · rfl
      · cases r with
        | error c => exact hitem
        | ok it => dsimp only; split <;> exact hitem

theorem ks3Sign_zeroised {s : State} (h : rb s KEYS_STAT_ZEROISED = true) (tr : List Byte) : s.ks3Sign tr = (.error .keyRevoked, s) := by
  simp [State.ks3Sign, h]

theorem ks3Sign_mtrans {s u : State} {tr g : List Byte} (h : s.ks3Sign tr = (.ok g, u)) : u.mtrans = s.mtrans := by
  have := itemFrame_ks3Sign s tr
  rw [h] at this
  exact congrArg Prod.fst this

theorem ks3Sign_kept {s u : State} {tr g : List Byte} (h : s.ks3Sign tr = (.ok g, u)) : itemFrame u = itemFrame s := by
  have := itemFrame_ks3Sign s tr
  rwa [h] at this

theorem spdmSigned_ok {s u : State} {tr g : List Byte} (t : Tbe) (code : Nat) (data : List Byte) (h : s.ks3Sign tr = (.ok g, u)) :
    s.spdmSigned t code tr data = u.spdmData t (data ++ g) := by
  rw [State.spdmSigned, h]

theorem spdmSigned_zeroised {s : State} (t : Tbe) (code : Nat) (tr data : List Byte) (h : rb s KEYS_STAT_ZEROISED = true) :
    s.spdmSigned t code tr data = s.respond t.tn mtSPDM code .keyRevoked := by
  rw [State.spdmSigned, ks3Sign_zeroised h]

/-! ### Vendor commands that SPDM carries (R355, R359) -/

/-- A refused vendor command becomes an SPDM ERROR with its code. -/
theorem asSpdm_refused {s : State} {c : Code} {data : List Byte} {tn : Nat} {r : Outcome} (h : s.out = .reply c data) (hc : c ≠ .ok)
    (hr : s.kiosk.outcomes.find? (·.1 = tn) = some (tn, r)) :
    (s.asSpdm tn).out = .reply c (errData mtSPDM scVENDOR c r.retry) := by
  simp only [State.asSpdm, h, if_neg hc, hr]
  rfl

theorem asSpdm_ok {s : State} {data : List Byte} (tn : Nat) (h : s.out = .reply .ok data) : s.asSpdm tn = s := by
  simp only [State.asSpdm, h, if_true]

/-- A refusal is kept with no retry-after time. -/
theorem respond_refusedPolicy (s : State) (tn typ cmd : Nat) :
    (s.respond tn typ cmd .refusedPolicy).out = .reply .refusedPolicy (errData typ cmd .refusedPolicy 0)
      ∧ (s.respond tn typ cmd .refusedPolicy).kiosk.outcomes.find? (·.1 = tn)
        = some (tn, ⟨Code.refusedPolicy.val, 0, typ, cmd⟩) :=
  ⟨rfl, by simp [State.respond, State.setOutcome, State.modKiosk, State.ret]⟩

/-! ### What the requests do -/

section
variable {s : State} {o : Origin} {t : Tbe} (h : Answered s o t) (hp : t.permAttest = true)
include h hp

theorem exec_getVersion_answers : exec (.getVersion o none) s = .next ((s.setConn t.tn Conn.init).spdmOk t [0x00, 0x13, 0x00, 0x12]) :=
  congrArg Host.Outcome.next (spdm_runs h hp)

theorem exec_getCapabilities_answers {ver : Nat} (dts : Nat) (hv : ver = 0x12 ∨ ver = 0x13) :
    exec (.getCapabilities o ver dts none) s = .next ((s.setConn t.tn { Conn.init with version := ver, dts := dts }).spdmOk t
      (leBytes 1 17 ++ leBytes 4 capFlags ++ leBytes 4 4224 ++ leBytes 4 65536)) := by
  refine congrArg Host.Outcome.next ((spdm_runs h hp).trans (if_neg ?_))
  obtain rfl | rfl := hv <;> decide

theorem exec_getCapabilities_mismatch {ver : Nat} (dts : Nat) (h2 : ver ≠ 0x12) (h3 : ver ≠ 0x13) :
    exec (.getCapabilities o ver dts none) s = .next (s.ret (.spdmError .versionMismatch)) :=
  congrArg Host.Outcome.next ((spdm_runs h hp).trans (if_pos (by simp [h2, h3])))

theorem exec_negotiateAlgorithms_answers (hv : (conn s t.tn).version ≠ 0) :
    ∃ v, exec (.negotiateAlgorithms o none) s = .next v ∧ conn v t.tn = { conn s t.tn with algs := true } :=
  ⟨_, congrArg Host.Outcome.next ((spdm_runs h hp).trans (if_neg hv)), conn_setConn _ _ _⟩

theorem exec_getCertificate_whole (hd : (conn s t.tn).dts = 0) (off len : Nat) :
    exec (.getCertificate o off len none) s = .next (s.ret (.reply .ok (((certChainNow s).drop off).take len))) :=
  congrArg Host.Outcome.next ((spdm_runs h hp).trans (spdmData_whole hd _))

theorem exec_getMeasurements_unsigned (idx : Nat) (tr : List Byte) :
    exec (.getMeasurements o idx false tr none) s = .next (s.spdmData t (measData s idx)) :=
  congrArg Host.Outcome.next (spdm_runs h hp)

theorem exec_getMeasurements_signed (idx : Nat) (tr : List Byte) :
    exec (.getMeasurements o idx true tr none) s = .next (s.spdmSigned t 0xE0 tr (measData s idx)) :=
  congrArg Host.Outcome.next (spdm_runs h hp)

theorem exec_challenge_signs (tr : List Byte) :
    exec (.challenge o tr none) s = .next (s.spdmSigned t 0x83 tr (sha384 (certChainNow s))) :=
  congrArg Host.Outcome.next (spdm_runs h hp)

/-- A signature made is sent whole where the requester set no DataTransferSize. -/
theorem exec_signed_whole {tr g : List Byte} {u : State} (idx : Nat) (hs : s.ks3Sign tr = (.ok g, u)) (hd : (conn s t.tn).dts = 0) :
    exec (.challenge o tr none) s = .next (u.ret (.reply .ok (sha384 (certChainNow s) ++ g)))
      ∧ exec (.getMeasurements o idx true tr none) s = .next (u.ret (.reply .ok (measData s idx ++ g))) := by
  have hdu : (conn u t.tn).dts = 0 := by rw [conn_congr t.tn (ks3Sign_mtrans hs)]; exact hd
  rw [exec_challenge_signs h hp, exec_getMeasurements_signed h hp, spdmSigned_ok _ _ _ hs, spdmSigned_ok _ _ _ hs, spdmData_whole hdu,
    spdmData_whole hdu]
  exact ⟨rfl, rfl⟩

/-! ### Sessions -/

theorem exec_keyExchange_noPoint {peer tr : List Byte} (hq : dhePoint peer = none) :
    exec (.keyExchange o peer tr none) s = .next (s.ret (.spdmError .invalidRequest)) :=
  congrArg Host.Outcome.next ((spdm_runs h hp).trans (if_pos hq))

theorem exec_keyExchange_full {peer tr : List Byte} (hq : dhePoint peer ≠ none) (hf : sessFull s t = true) :
    exec (.keyExchange o peer tr none) s = .next (s.ret (.spdmError .sessionLimitExceeded)) :=
  congrArg Host.Outcome.next ((spdm_runs h hp).trans ((if_neg hq).trans (if_pos hf)))

theorem exec_keyExchange_zeroised {peer tr : List Byte} (hq : dhePoint peer ≠ none) (hf : sessFull s t = false)
    (hz : rb s KEYS_STAT_ZEROISED = true) : exec (.keyExchange o peer tr none) s = .next (s.respond t.tn 5 0xE4 .keyRevoked) :=
  congrArg Host.Outcome.next ((spdm_runs h hp).trans ((if_neg hq).trans ((if_neg (by simp [hf])).trans (if_pos hz))))

/-- A session opens under the next identifier, its secret that of the item's scalar and the requester's point. -/
theorem exec_keyExchange_opens {peer tr it g : List Byte} {u w : State} (hq : dhePoint peer ≠ none) (hf : sessFull s t = false)
    (hz : rb s KEYS_STAT_ZEROISED = false) (hi : s.takeItem = (.ok it, u))
    (hs : u.ks3Sign (tr ++ p384.encode (p384.mul (p384.scalar (beNat it)) p384.base)) = (.ok g, w)) :
    ∃ v, exec (.keyExchange o peer tr none) s = .next v ∧ v.mtrans.nextSess = s.mtrans.nextSess + 1
      ∧ v.mtrans.sessions = s.mtrans.sessions
        ++ [⟨s.mtrans.nextSess, t.tn, false, dheSecret (p384.scalar (beNat it)) (dhePoint peer), 0, s.usec⟩] := by
  have hframe : itemFrame w = itemFrame s := by
    have := itemFrame_takeItem s
    rw [hi] at this
    exact (ks3Sign_kept hs).trans this
  simp only [itemFrame, Prod.mk.injEq] at hframe
  obtain ⟨hmt, -, husec, -⟩ := hframe
  refine ⟨_, congrArg Host.Outcome.next ((spdm_runs h hp).trans ((if_neg hq).trans ((if_neg (by simp [hf])).trans (if_neg (by simp [hz]))))), ?_⟩
  simp only [hi, hs]
  obtain ⟨-, -, hnext, hsess⟩ := spdmData_keeps (w.modMt fun m =>
    { m with sessions := m.sessions ++ [⟨w.mtrans.nextSess, t.tn, false, dheSecret (p384.scalar (beNat it)) (dhePoint peer), 0, w.usec⟩]
             nextSess := w.mtrans.nextSess + 1 }) t
    (leBytes 2 w.mtrans.nextSess ++ p384.encode (p384.mul (p384.scalar (beNat it)) p384.base) ++ g) 0
  rw [← hmt, ← husec]
  exact ⟨hnext, hsess⟩

section
variable {id : Nat} {q : Sess} (hq : sess s t.tn id = some q)
include hq

omit h hp in
theorem inSess_runs {est : Bool} (he : q.est = est) (f : Sess → State → State) :
    s.inSess t id est f = f q (s.putSess { q with last := s.usec }) := by
  simp [State.inSess, hq, he]

/-- FINISH establishes the session; its signature leaves the Gatehouse. -/
theorem exec_finish_establishes {tr g : List Byte} {u : State} (he : q.est = false)
    (hs : (s.putSess { q with last := s.usec }).ks3Sign tr = (.ok g, u)) :
    ∃ v, exec (.finish o id tr none) s = .next v ∧ sess v t.tn id = some { q with est := true, last := s.usec } ∧ v.gate = s.gate := by
  obtain ⟨hid, htn⟩ := sess_names hq
  have hframe := ks3Sign_kept hs
  simp only [itemFrame, Prod.mk.injEq] at hframe
  obtain ⟨hmt, -, husec, hgate, -⟩ := hframe
  have hu : sess u t.tn id = some { q with last := s.usec } := by
    rw [sess, hmt]
    exact sess_putSess hq hid htn
  have hput : sess (u.putSess { q with est := true, last := u.usec }) t.tn id = some { q with est := true, last := u.usec } :=
    sess_putSess hu hid htn
  refine ⟨_, congrArg Host.Outcome.next ((spdm_runs h hp).trans (inSess_runs hq he _)), ?_⟩
  simp only [hs]
  obtain ⟨hkeep, hgkeep, -⟩ := spdmData_keeps (u.putSess { q with est := true, last := u.usec }) t g id
  exact ⟨hkeep.trans (hput.trans (by rw [husec]; rfl)), hgkeep.trans hgate⟩

theorem exec_heartbeat_keeps (he : q.est = true) : ∃ v, exec (.heartbeat o id none) s = .next v
    ∧ sess v t.tn id = some { q with last := s.usec } ∧ v.out = .reply .ok [] :=
  ⟨_, congrArg Host.Outcome.next ((spdm_runs h hp).trans (inSess_runs hq he _)), sess_putSess hq (sess_names hq).1 (sess_names hq).2, rfl⟩

theorem exec_keyUpdate_counts (he : q.est = true) : ∃ v, exec (.keyUpdate o id none) s = .next v
    ∧ sess v t.tn id = some { q with updates := q.updates + 1, last := s.usec } :=
  ⟨_, congrArg Host.Outcome.next ((spdm_runs h hp).trans (inSess_runs hq he _)),
    sess_putSess (sess_putSess hq (sess_names hq).1 (sess_names hq).2) (sess_names hq).1 (sess_names hq).2⟩

theorem exec_endSession_ends (he : q.est = true) : ∃ v, exec (.endSession o id none) s = .next v ∧ sess v t.tn id = none
    ∧ v.out = .reply .ok [] :=
  ⟨_, congrArg Host.Outcome.next ((spdm_runs h hp).trans (inSess_runs hq he _)), sess_endSess _ _ _, rfl⟩

end

/-! ### Chunks (R357, R360) -/

theorem exec_large_none (hl : (conn s t.tn).large = []) :
    exec (.respondIfReady o none) s = .next (s.ret (.spdmError .unexpectedRequest))
      ∧ exec (.chunkGet o none) s = .next (s.ret (.spdmError .unexpectedRequest)) :=
  ⟨congrArg Host.Outcome.next ((spdm_runs h hp).trans (if_pos hl)), congrArg Host.Outcome.next ((spdm_runs h hp).trans (if_pos hl))⟩

theorem exec_large_waits (hl : (conn s t.tn).large ≠ []) :
    exec (.respondIfReady o none) s = .next (s.ret (.spdmError .largeResponse))
      ∧ ∃ v, exec (.chunkGet o none) s = .next v ∧ v.out = .reply .ok ((conn s t.tn).large.take (conn s t.tn).dts)
        ∧ (conn v t.tn).large = (conn s t.tn).large.drop (conn s t.tn).dts :=
  ⟨congrArg Host.Outcome.next ((spdm_runs h hp).trans (if_neg hl)), _, congrArg Host.Outcome.next ((spdm_runs h hp).trans (if_neg hl)), rfl,
    congrArg Conn.large (conn_setConn _ _ _)⟩

theorem exec_chunkSend_more {data : List Byte} (hlen : ((conn s t.tn).chunk ++ data).length ≤ 65536) :
    exec (.chunkSend o data false none) s
      = .next ((s.setConn t.tn { conn s t.tn with chunk := (conn s t.tn).chunk ++ data }).spdmOk t []) :=
  congrArg Host.Outcome.next ((spdm_runs h hp).trans ((if_neg (Nat.not_lt.2 hlen)).trans (if_neg (by decide))))

theorem exec_chunkSend_tooLarge {data : List Byte} (last : Bool) (hlen : 65536 < ((conn s t.tn).chunk ++ data).length) :
    exec (.chunkSend o data last none) s
      = .next ((s.setConn t.tn { conn s t.tn with chunk := [] }).ret (.spdmError .requestTooLarge)) :=
  congrArg Host.Outcome.next ((spdm_runs h hp).trans (if_pos hlen))

theorem exec_chunkSend_last {data : List Byte} (hlen : ((conn s t.tn).chunk ++ data).length ≤ 65536) :
    exec (.chunkSend o data true none) s
      = .next ((s.setConn t.tn { conn s t.tn with chunk := [] }).spdmCarried o ((conn s t.tn).chunk ++ data)) :=
  congrArg Host.Outcome.next ((spdm_runs h hp).trans ((if_neg (Nat.not_lt.2 hlen)).trans (if_pos rfl)))

/-- A GET_VERSION that came in chunks is answered as one that came whole. -/
theorem spdmCarried_getVersion {m : List Byte} (hlen : 4 ≤ m.length) (hcode : fieldAt m 1 1 = 0x84) :
    (s.spdmCarried o m).out = .reply .ok [0x00, 0x13, 0x00, 0x12] ∧ conn (s.spdmCarried o m) t.tn = Conn.init := by
  have hnext : Answered { s with freeIx := s.freeIx + 1 } o t := ⟨h.bound, h.started⟩
  have hrun : s.spdmCarried o m = (({ s with freeIx := s.freeIx + 1 }).setConn t.tn Conn.init).spdmOk t [0x00, 0x13, 0x00, 0x12] := by
    simp only [State.spdmCarried, hcode, if_true, Nat.not_lt.2 hlen, if_false]
    exact congrArg (State.after _) (exec_getVersion_answers hnext hp)
  rw [hrun]
  exact ⟨rfl, conn_setConn _ _ _⟩

/-! ### Vendor commands -/

omit hp in
/-- GET_NONCE answers with the first bytes of the item. -/
theorem getNonce_answers {it : List Byte} (hs : t.permService = true) (hi : s.takeItem.1 = .ok it) :
    (s.getNonce o).out = .reply .ok (beBytes 4 64917 ++ [2, 0] ++ slice it 0 32) := by
  have hrun : s.getNonce o = _ := request_answered (perm := (·.permService)) h (.inl rfl) hs
  rw [hrun]
  generalize s.takeItem = p at hi
  obtain ⟨r, u⟩ := p
  obtain rfl := hi
  rfl

omit hp in
/-- GET_OUTCOME tells the refusal kept for the tenant. -/
theorem getOutcome_tells {r : Outcome} (hs : t.permService = true) (hr : s.kiosk.outcomes.find? (·.1 = t.tn) = some (t.tn, r)) :
    (s.getOutcome o).out = .reply .ok
      (beBytes 4 64917 ++ [4, 0] ++ leBytes 1 r.code ++ leBytes 2 r.retry ++ leBytes 1 r.typ ++ leBytes 1 r.cmd) := by
  have hrun : s.getOutcome o = _ := request_answered (perm := (·.permService)) h (.inl rfl) hs
  rw [hrun, hr]
  simp only [State.respond, if_true, List.append_assoc]
  rfl

/-- SPDM carries GET_NONCE and GET_OUTCOME to the vendor commands. -/
theorem exec_vendorDefined_service (hl : lockdown s = false) :
    exec (.vendorDefinedRequest o (beBytes 4 64917 ++ [2]) none) s = .next (((s.ret .none).getNonce o).asSpdm t.tn)
      ∧ exec (.vendorDefinedRequest o (beBytes 4 64917 ++ [4]) none) s = .next (((s.ret .none).getOutcome o).asSpdm t.tn) := by
  have hrun {data : List Byte} : exec (.vendorDefinedRequest o data none) s = .next _ :=
    congrArg Host.Outcome.next (request_answered (perm := (·.permAttest)) h (.inr hl) hp)
  rw [hrun, hrun]
  exact ⟨rfl, rfl⟩

/-- A vendor command refused for want of PERM SERVICE is an SPDM ERROR with that code. -/
theorem exec_vendorDefined_refused (hl : lockdown s = false) (hs : t.permService = false) {k : Byte} (hk : k = 2 ∨ k = 4) :
    ∃ v, exec (.vendorDefinedRequest o (beBytes 4 64917 ++ [k]) none) s = .next v
      ∧ v.out = .reply .refusedPolicy ([0xFF, 0] ++ beBytes 4 64917 ++ [BitVec.ofNat 8 Code.refusedPolicy.val, 0, 0]) := by
  have h' : Answered (s.ret .none) o t := ⟨h.bound, h.started⟩
  obtain ⟨hnonce, houtcome⟩ := exec_vendorDefined_service h hp hl
  have hspdm (cmd : Nat) : (((s.ret .none).respond t.tn mtVENDOR cmd .refusedPolicy).asSpdm t.tn).out
      = .reply .refusedPolicy ([0xFF, 0] ++ beBytes 4 64917 ++ [BitVec.ofNat 8 Code.refusedPolicy.val, 0, 0]) := by
    obtain ⟨hout, hkept⟩ := respond_refusedPolicy (s.ret .none) t.tn mtVENDOR cmd
    have herr : errData mtSPDM scVENDOR .refusedPolicy 0
        = [0xFF, 0] ++ beBytes 4 64917 ++ [BitVec.ofNat 8 Code.refusedPolicy.val, 0, 0] := by decide
    exact (asSpdm_refused hout (by decide) hkept).trans (congrArg _ herr)
  obtain rfl | rfl := hk
  · refine ⟨_, hnonce, ?_⟩
    rw [show (s.ret .none).getNonce o = _ from request_unpermitted (perm := (·.permService)) h' (.inl rfl) hs]
    exact hspdm _
  · refine ⟨_, houtcome, ?_⟩
    rw [show (s.ret .none).getOutcome o = _ from request_unpermitted (perm := (·.permService)) h' (.inl rfl) hs]
    exact hspdm _

theorem exec_vendorDefined_nonce {it : List Byte} {u : State} (hl : lockdown s = false) (hs : t.permService = true)
    (hi : s.takeItem = (.ok it, u)) : ∃ v, exec (.vendorDefinedRequest o (beBytes 4 64917 ++ [2]) none) s = .next v
      ∧ v.out = .reply .ok (beBytes 4 64917 ++ [2, 0] ++ slice it 0 32) := by
  have hout := getNonce_answers (s := s.ret .none) ⟨h.bound, h.started⟩ hs (by rw [takeItem_ret, hi])
  exact ⟨_, (exec_vendorDefined_service h hp hl).1, by rw [asSpdm_ok t.tn hout]; exact hout⟩

theorem exec_vendorDefined_outcome {r : Outcome} (hl : lockdown s = false) (hs : t.permService = true)
    (hr : s.kiosk.outcomes.find? (·.1 = t.tn) = some (t.tn, r)) :
    ∃ v, exec (.vendorDefinedRequest o (beBytes 4 64917 ++ [4]) none) s = .next v ∧ v.out = .reply .ok
      (beBytes 4 64917 ++ [4, 0] ++ leBytes 1 r.code ++ leBytes 2 r.retry ++ leBytes 1 r.typ ++ leBytes 1 r.cmd) := by
  have hout := getOutcome_tells (s := s.ret .none) ⟨h.bound, h.started⟩ hs hr
  exact ⟨_, (exec_vendorDefined_service h hp hl).2, by rw [asSpdm_ok t.tn hout]; exact hout⟩

theorem exec_vendorDefined_otherEnterprise {data : List Byte} (hl : lockdown s = false) (hd : beNat (slice data 0 4) ≠ 64917) :
    exec (.vendorDefinedRequest o data none) s = .next ((s.ret .none).respond t.tn 5 0xFE .malformed) :=
  congrArg Host.Outcome.next ((request_answered (perm := (·.permAttest)) h (.inr hl) hp).trans (if_pos hd))

end

theorem exec_vendorDefined_lockedOut {s : State} {o : Origin} {t : Tbe} (h : Answered s o t) (hl : lockdown s = true) (data : List Byte) :
    exec (.vendorDefinedRequest o data none) s = .next (s.respond t.tn 5 0xFE .refusedState) :=
  congrArg Host.Outcome.next (request_lockedOut h hl)

theorem exec_spdmUnsupportedRequest_answers {s : State} {o : Origin} {t : Tbe} (h : Answered s o t) (hp : t.permAttest = true) :
    ∃ v, exec (.spdmUnsupportedRequest o) s = .next v ∧ v.out = .spdmError .unsupportedRequest ∧ v.mtrans = s.mtrans ∧ v.kiosk = s.kiosk := by
  have h' : Answered s.free.2 o t := ⟨h.bound, h.started⟩
  exact ⟨_, congrArg Host.Outcome.next (spdm_runs h' hp), rfl, rfl, rfl⟩

/-! ### The end of a silent session (R350, R358) -/

section
variable {s : State} {st : Settings} {id : Nat} {q : Sess} (hset : s.mtrans.settings = some st)
  (hq : s.mtrans.sessions.find? (·.id = id) = some q)
include hset hq

theorem heartStopped_eq : heartStopped s id = (decide (st.hbeat ≠ 0) && decide (q.last + 2000000 * st.hbeat ≤ s.usec)) := by
  rw [heartStopped, hset, hq]

theorem exec_heartbeatExpiry_early (hlt : s.usec < q.last + 2000000 * st.hbeat) : exec (.heartbeatExpiry id) s = .next s := by
  have hno : ¬ heartStopped s id = true := by
    rw [heartStopped_eq hset hq, decide_eq_false (Nat.not_le.2 hlt), Bool.and_false]
    exact Bool.false_ne_true
  exact congrArg Host.Outcome.next (if_neg hno)

theorem exec_heartbeatExpiry_due (hb : st.hbeat ≠ 0) (hle : q.last + 2000000 * st.hbeat ≤ s.usec) :
    exec (.heartbeatExpiry id) s = .next { s with mtrans := { s.mtrans with sessions := s.mtrans.sessions.filter (·.id ≠ id) } } := by
  have hyes : heartStopped s id = true := by
    rw [heartStopped_eq hset hq, decide_eq_true hb, decide_eq_true hle, Bool.and_true]
  exact congrArg Host.Outcome.next (if_pos hyes)

end

/-! ### Measurement blocks (R360) -/

theorem measBlock_svn (s : State) : measBlock s 3 = [3, 1, 7, 0, 0x87, 4, 0] ++ leBytes 4 (rf s SYSCTL_FW_SVN_FW_SVN) := by
  have hm : measurement s 3 = some (0x87, leBytes 4 (rf s SYSCTL_FW_SVN_FW_SVN)) := by simp [measurement]
  rw [measBlock, hm]
  simp only [leBytes_length]
  rfl

theorem measBlock_lifeCycle (s : State) : measBlock s 5 = [5, 1, 12, 0, 0x85, 9, 0] ++ leBytes 4 (rf s LCS_CODE_LO_CODE)
    ++ leBytes 4 (rf s LCS_CODE_HI_CODE) ++ leBytes 1 (rf s DEBUG_STAT_LEVEL) := by
  have hm : measurement s 5 = some (0x85, lcCode s ++ leBytes 1 (rf s DEBUG_STAT_LEVEL)) := by simp [measurement]
  rw [measBlock, hm]
  simp only [lcCode, List.length_append, leBytes_length]
  rfl

/-- Settles O48: a bound source with PERM ATTEST reaches the meaning of its request (`spdm_runs`), and each meaning is read off from what a
connection, a session, a signature and a carried vendor command leave. -/
theorem attestationIsAnswered : Obligations.AttestationIsAnswered := by
  intro s o t tr data peer id off len ver dts idx last sg
  refine ⟨fun hm c hc => ?unbound, fun hm hmode hp => ?served, fun hm hmode hp => ?denied,
    fun st q hset hb hq => ⟨exec_heartbeatExpiry_early hset hq, exec_heartbeatExpiry_due hset hq hb⟩⟩
  case unbound =>
    obtain ⟨code, f, hrun⟩ := exec_spdmRequests s o tr data peer id off len ver dts idx last sg none c hc
    rw [hrun, ← stranger_spdm s o code]
    exact congrArg Host.Outcome.next (request_unbound hm)
  case denied =>
    have h : Answered s o t := ⟨hm, hmode⟩
    exact ⟨congrArg Host.Outcome.next (request_unpermitted h (.inl rfl) hp), congrArg Host.Outcome.next (request_unpermitted h (.inl rfl) hp)⟩
  case served =>
    have h : Answered s o t := ⟨hm, hmode⟩
    refine ⟨fun e c hc => ?breaks, ⟨_, exec_getVersion_answers h hp, rfl, conn_setConn _ _ _⟩,
      fun hv => ⟨_, exec_getCapabilities_answers h hp dts hv, conn_setConn _ _ _, rfl⟩, exec_getCapabilities_mismatch h hp dts,
      exec_negotiateAlgorithms_answers h hp, congrArg Host.Outcome.next (spdm_runs h hp), fun hd => ⟨exec_getCertificate_whole h hp hd off len, ?whole⟩,
      fun hd hlt => ?large, measBlock_svn s, measBlock_lifeCycle s, fun hz => ?zeroised, fun g u hs hd => exec_signed_whole h hp idx hs hd,
      exec_keyExchange_noPoint h hp, fun hf hq => exec_keyExchange_full h hp hq hf, fun it u g w hq hf hz => exec_keyExchange_opens h hp hq hf hz,
      fun q hq => ⟨fun g u => exec_finish_establishes h hp hq, fun he => ⟨exec_heartbeat_keeps h hp hq he, exec_keyUpdate_counts h hp hq he,
        exec_endSession_ends h hp hq he⟩⟩, exec_large_none h hp, exec_large_waits h hp,
      fun hlen => ⟨_, exec_chunkSend_more h hp hlen, conn_setConn _ _ _⟩,
      fun hlen => ⟨_, exec_chunkSend_tooLarge h hp last hlen, conn_setConn _ _ _, rfl⟩, fun hlen => ⟨exec_chunkSend_last h hp hlen, fun hm4 hcode => ?carried⟩,
      fun hl hs k hk => exec_vendorDefined_refused h hp hl hs hk, fun r hl hs hr => exec_vendorDefined_outcome h hp hl hs hr,
      exec_vendorDefined_otherEnterprise h hp, fun it u hl hs hi => exec_vendorDefined_nonce h hp hl hs hi,
      fun hl => exec_vendorDefined_lockedOut h hl data, exec_spdmUnsupportedRequest_answers h hp⟩
    case breaks =>
      obtain ⟨code, f, hrun⟩ := exec_spdmRequests s o tr data peer id off len ver dts idx last sg (some e) c hc
      rw [hrun]
      exact congrArg Host.Outcome.next (spdm_breaks h hp e)
    case whole => rw [exec_getMeasurements_unsigned h hp, spdmData_whole hd]
    case large =>
      refine ⟨_, exec_getMeasurements_unsigned h hp idx tr, ?_⟩
      rw [spdmData_large hd hlt]
      exact ⟨rfl, conn_setConn _ _ _⟩
    case zeroised =>
      rw [exec_challenge_signs h hp, exec_getMeasurements_signed h hp, spdmSigned_zeroised _ _ _ _ hz, spdmSigned_zeroised _ _ _ _ hz]
      exact ⟨rfl, rfl, fun hf hq => exec_keyExchange_zeroised h hp hq hf hz⟩
    case carried =>
      have h' : Answered (s.setConn t.tn { conn s t.tn with chunk := [] }) o t := ⟨hm, hmode⟩
      exact ⟨_, exec_chunkSend_last h hp hlen, spdmCarried_getVersion h' hp hm4 hcode⟩

end Sys2Proof.Machine
end

section
/-! OTP across one step (R381), and what a step is. -/

namespace Sys2Proof.Machine

/-- Every command leaves OTP as it is or clears no bit of it. -/
theorem exec_grows : ∀ (c : Instr) (s t : State), exec c s = .next t → OtpGrows s t
  | .registerWrite _ _ _ _, _, _, h => .of_otp (execRegisterWrite_otp _ _ _ _ _ _ h)
  | .debugRead _, _, _, h => .of_otp (execDebugRead_otp _ _ _ h)
  | .busAccessFault _ _ _, _, _, h => .of_otp (execBusAccessFault_otp _ _ _ _ _ h)
  | .mainPowerGood _ _, _, _, h => .of_otp (execMainPowerGood_otp _ _ _ _ h)
  | .pwrgdFall, _, _, h => execPwrgdFall_grows _ _ h
  | .supplyMonitorDrop _, _, _, h => execSupplyMonitorDrop_grows _ _ _ h
  | .mainPowerLoss _, _, _, h => execMainPowerLoss_grows _ _ _ h
  | .sysRstNAssert, _, _, h => execSysRstNAssert_grows _ _ h
  | .sysRstNRelease _, _, _, h => .of_otp (execSysRstNRelease_otp _ _ _ h)
  | .rstpinStuckTimeout _, _, _, h => .of_otp (execRstpinStuckTimeout_otp _ _ _ h)
  | .pinIgnoredClear, _, _, h => .of_otp (execPinIgnoredClear_otp _ _ h)
  | .deferredDeviceReset _, _, _, h => execDeferredDeviceReset_grows _ _ _ h
  | .pllLock _, _, _, h => .of_otp (execPllLock_otp _ _ _ h)
  | .otpSenseDone _ _, _, _, h => execOtpSenseDone_grows _ _ _ _ h
  | .romStart _, _, _, h => .of_otp (execRomStart_otp _ _ _ h)
  | .copyReadDone _, _, _, h => .of_otp (execCopyReadDone_otp _ _ _ h)
  | .romRecoveryImage _ _ _, _, _, h => execRomRecoveryImage_grows _ _ _ _ _ h
  | .handover, _, _, h => .of_otp (execHandover_otp _ _ h)
  | .trainingDone _ _ _, _, _, h => .of_otp (execTrainingDone_otp _ _ _ _ _ h)
  | .assemblyEnd _ _ _, _, _, h => .of_otp (execAssemblyEnd_otp _ _ _ _ _ h)
  | .ledgerReplayDone _ _, _, _, h => .of_otp (execLedgerReplayDone_otp _ _ _ _ h)
  | .devReset _ _, _, _, h => execDevReset_grows _ _ _ _ h
  | .bvRestart _, _, _, h => .of_otp (execBvRestart_otp _ _ _ h)
  | .wdtKick _, _, _, h => .of_otp (execWdtKick_otp _ _ _ h)
  | .wdtExpiry, _, _, h => .of_otp (execWdtExpiry_otp _ _ h)
  | .failover, _, _, h => .of_otp (execFailover_otp _ _ h)
  | .referenceLost _, _, _, h => .of_otp (execReferenceLost_otp _ _ _ h)
  | .pllUnlock _, _, _, h => .of_otp (execPllUnlock_otp _ _ _ h)
  | .switchReq, _, _, h => .of_otp (execSwitchReq_otp _ _ h)
  | .planeIsolation _ _, _, _, h => .of_otp (execPlaneIsolation_otp _ _ _ _ h)
  | .rebuildA _, _, _, h => .of_otp (execRebuildA_otp _ _ _ h)
  | .rebuildB _, _, _, h => .of_otp (execRebuildB_otp _ _ _ h)
  | .rebuildDone _, _, _, h => .of_otp (execRebuildDone_otp _ _ _ h)
  | .retrain0 _, _, _, h => .of_otp (execRetrain0_otp _ _ _ h)
  | .retrain1 _, _, _, h => .of_otp (execRetrain1_otp _ _ _ h)
  | .bankClassChange _ _, _, _, h => .of_otp (execBankClassChange_otp _ _ _ _ h)
  | .bankResume _, _, _, h => .of_otp (execBankResume_otp _ _ _ h)
  | .pePerstNChange _, _, _, h => .of_otp (execPePerstNChange_otp _ _ _ h)
  | .gateHold _, _, _, h => .of_otp (execGateHold_otp _ _ _ h)
  | .gateRelease _, _, _, h => .of_otp (execGateRelease_otp _ _ _ h)
  | .resetCycle _, _, _, h => .of_otp (execResetCycle_otp _ _ _ h)
  | .recover _, _, _, h => .of_otp (execRecover_otp _ _ _ h)
  | .quarantine _, _, _, h => .of_otp (execQuarantine_otp _ _ _ h)
  | .enterLockdown _, _, _, h => .of_otp (execEnterLockdown_otp _ _ _ h)
  | .holdStep _, _, _, h => .of_otp (execHoldStep_otp _ _ _ h)
  | .domainPass _, _, _, h => .of_otp (execDomainPass_otp _ _ _ h)
  | .releaseDelayExpiry _, _, _, h => .of_otp (execReleaseDelayExpiry_otp _ _ _ h)
  | .releaseStep _, _, _, h => .of_otp (execReleaseStep_otp _ _ _ h)
  | .pgTimeout _, _, _, h => .of_otp (execPgTimeout_otp _ _ _ h)
  | .pclInputChange _ _, _, _, h => .of_otp (execPclInputChange_otp _ _ _ _ h)
  | .rstPulseEnd _, _, _, h => .of_otp (execRstPulseEnd_otp _ _ _ h)
  | .rstreqStuck _, _, _, h => .of_otp (execRstreqStuck_otp _ _ _ h)
  | .rstreqIgnoredClear _, _, _, h => .of_otp (execRstreqIgnoredClear_otp _ _ _ h)
  | .manifestReadDone _ _, _, _, h => .of_otp (execManifestReadDone_otp _ _ _ _ h)
  | .manReady, _, _, h => .of_otp (execManReady_otp _ _ h)
  | .accept _, _, _, h => .of_otp (execAccept_otp _ _ _ h)
  | .reject _ _, _, _, h => .of_otp (execReject_otp _ _ _ _ h)
  | .reverify _, _, _, h => .of_otp (execReverify_otp _ _ _ h)
  | .loaderAbort _, _, _, h => .of_otp (execLoaderAbort_otp _ _ _ h)
  | .loadBurstDone _, _, _, h => .of_otp (execLoadBurstDone_otp _ _ _ h)
  | .burstTimeout _ _, _, _, h => .of_otp (execBurstTimeout_otp _ _ _ _ h)
  | .reverifyDone _, _, _, h => .of_otp (execReverifyDone_otp _ _ _ h)
  | .stageAlloc, _, _, h => .of_otp (execStageAlloc_otp _ _ h)
  | .stageWrite _, _, _, h => .of_otp (execStageWrite_otp _ _ _ h)
  | .stageHash _, _, _, h => .of_otp (execStageHash_otp _ _ _ h)
  | .stageFree _, _, _, h => .of_otp (execStageFree_otp _ _ _ h)
  | .revoke _, _, _, h => .of_otp (execRevoke_otp _ _ _ h)
  | .orangeryAbort, _, _, h => .of_otp (execOrangeryAbort_otp _ _ h)
  | .orangeryCmdDone, _, _, h => .of_otp (execOrangeryCmdDone_otp _ _ h)
  | .refetchDone _ _ _ _ _, _, _, h => .of_otp (execRefetchDone_otp _ _ _ _ _ _ _ h)
  | .lostLeafRefetch _ _ _ _ _, _, _, h => .of_otp (execLostLeafRefetch_otp _ _ _ _ _ _ _ h)
  | .rekeyStart, _, _, h => .of_otp (execRekeyStart_otp _ _ h)
  | .rekeyDone, _, _, h => .of_otp (execRekeyDone_otp _ _ h)
  | .ledgerAppendDone _ _ _ _, _, _, h => .of_otp (execLedgerAppendDone_otp _ _ _ _ _ _ h)
  | .ledgerSwitchRetry, _, _, h => .of_otp (execLedgerSwitchRetry_otp _ _ h)
  | .rvLeaf _ _ _ _ _ _ _, _, _, h => .of_otp (execRvLeaf_otp _ _ _ _ _ _ _ _ _ h)
  | .read _, _, _, h => .of_otp (execRead_otp _ _ _ h)
  | .program _, _, _, h => .of_otp (execProgram_otp _ _ _ h)
  | .eraseSector _, _, _, h => .of_otp (execEraseSector_otp _ _ _ h)
  | .eraseChip _, _, _, h => .of_otp (execEraseChip_otp _ _ _ h)
  | .writeEnable _, _, _, h => .of_otp (execWriteEnable_otp _ _ _ h)
  | .writeDisable _, _, _, h => .of_otp (execWriteDisable_otp _ _ _ h)
  | .readStatus _, _, _, h => .of_otp (execReadStatus_otp _ _ _ h)
  | .writeStatus _, _, _, h => .of_otp (execWriteStatus_otp _ _ _ h)
  | .readId _, _, _, h => .of_otp (execReadId_otp _ _ _ h)
  | .readSfdp _, _, _, h => .of_otp (execReadSfdp_otp _ _ _ h)
  | .suspend _, _, _, h => .of_otp (execSuspend_otp _ _ _ h)
  | .resume _, _, _, h => .of_otp (execResume_otp _ _ _ h)
  | .resetEnable _, _, _, h => .of_otp (execResetEnable_otp _ _ _ h)
  | .flashReset _, _, _, h => .of_otp (execFlashReset_otp _ _ _ h)
  | .modeAddr4Set _, _, _, h => .of_otp (execModeAddr4Set_otp _ _ _ h)
  | .modeAddr4Clear _, _, _, h => .of_otp (execModeAddr4Clear_otp _ _ _ h)
  | .modeQpiSet _, _, _, h => .of_otp (execModeQpiSet_otp _ _ _ h)
  | .modeQpiClear _, _, _, h => .of_otp (execModeQpiClear_otp _ _ _ h)
  | .modeOctal8dSet _, _, _, h => .of_otp (execModeOctal8dSet_otp _ _ _ h)
  | .modeOctal8dClear _, _, _, h => .of_otp (execModeOctal8dClear_otp _ _ _ h)
  | .modeFailClear _, _, _, h => .of_otp (execModeFailClear_otp _ _ _ h)
  | .invalidFrame _, _, _, h => .of_otp (execInvalidFrame_otp _ _ _ h)
  | .lineLate _ _, _, _, h => .of_otp (execLineLate_otp _ _ _ _ h)
  | .lateLineArrival _ _ _ _ _ _, _, _, h => .of_otp (execLateLineArrival_otp _ _ _ _ _ _ _ _ h)
  | .alertPulseEnd _, _, _, h => .of_otp (execAlertPulseEnd_otp _ _ _ h)
  | .alertClear _ _, _, _, h => .of_otp (execAlertClear_otp _ _ _ _ h)
  | .wipClear _, _, _, h => .of_otp (execWipClear_otp _ _ _ h)
  | .feTakeover _, _, _, h => .of_otp (execFeTakeover_otp _ _ _ h)
  | .chnRstNPulse _, _, _, h => .of_otp (execChnRstNPulse_otp _ _ _ h)
  | .espiFlashRead _ _ _ _ _ _, _, _, h => .of_otp (execEspiFlashRead_otp _ _ _ _ _ _ _ _ h)
  | .espiFlashWrite _ _ _ _ _ _ _, _, _, h => .of_otp (execEspiFlashWrite_otp _ _ _ _ _ _ _ _ _ h)
  | .espiFlashErase _ _ _ _ _ _, _, _, h => .of_otp (execEspiFlashErase_otp _ _ _ _ _ _ _ _ h)
  | .espiCompletionReady _ _, _, _, h => .of_otp (execEspiCompletionReady_otp _ _ _ _ h)
  | .getFlashC _, _, _, h => .of_otp (execGetFlashC_otp _ _ _ h)
  | .setConfiguration _ _ _ _ _ _ _, _, _, h => .of_otp (execSetConfiguration_otp _ _ _ _ _ _ _ _ _ h)
  | .espiProtocolError _, _, _, h => .of_otp (execEspiProtocolError_otp _ _ _ h)
  | .espiReset _, _, _, h => .of_otp (execEspiReset_otp _ _ _ h)
  | .load _ _, _, _, h => .of_otp (execLoad_otp _ _ _ _ h)
  | .loadDone _, _, _, h => .of_otp (execLoadDone_otp _ _ _ h)
  | .activate _, _, _, h => .of_otp (execActivate_otp _ _ _ h)
  | .discard _, _, _, h => .of_otp (execDiscard_otp _ _ _ h)
  | .swap _, _, _, h => .of_otp (execSwap_otp _ _ _ h)
  | .applyMap _, _, _, h => .of_otp (execApplyMap_otp _ _ _ h)
  | .discoveryDone _, _, _, h => .of_otp (execDiscoveryDone_otp _ _ _ h)
  | .rediscover _, _, _, h => .of_otp (execRediscover_otp _ _ _ h)
  | .trimTrack _ _ _ _, _, _, h => .of_otp (execTrimTrack_otp _ _ _ _ _ _ h)
  | .trimWrite _ _, _, _, h => .of_otp (execTrimWrite_otp _ _ _ _ h)
  | .busyPoll _ _ _, _, _, h => .of_otp (execBusyPoll_otp _ _ _ _ _ h)
  | .flashOpTimeout _ _ _, _, _, h => .of_otp (execFlashOpTimeout_otp _ _ _ _ _ h)
  | .flashOpDone _ _ _, _, _, h => .of_otp (execFlashOpDone_otp _ _ _ _ _ h)
  | .recoveryBurstDone _ _ _ _ _ _, _, _, h => .of_otp (execRecoveryBurstDone_otp _ _ _ _ _ _ _ _ h)
  | .recoveryDone _, _, _, h => .of_otp (execRecoveryDone_otp _ _ _ h)
  | .fill _, _, _, h => .of_otp (execFill_otp _ _ _ h)
  | .fillDone _, _, _, h => .of_otp (execFillDone_otp _ _ _ h)
  | .markInit _, _, _, h => .of_otp (execMarkInit_otp _ _ _ h)
  | .retireRow, _, _, h => .of_otp (execRetireRow_otp _ _ h)
  | .commitRepair, _, _, h => .of_otp (execCommitRepair_otp _ _ h)
  | .applyBounds, _, _, h => .of_otp (execApplyBounds_otp _ _ h)
  | .memintAbort _, _, _, h => .of_otp (execMemintAbort_otp _ _ _ h)
  | .flipArm _, _, _, h => .of_otp (execFlipArm_otp _ _ _ h)
  | .flipApply _ _, _, _, h => .of_otp (execFlipApply_otp _ _ _ _ h)
  | .scrubRow _ _ _ _ _ _ _, _, _, h => execScrubRow_grows _ _ _ _ _ _ _ _ _ h
  | .dramScrubLine _ _ _ _ _ _, _, _, h => .of_otp (execDramScrubLine_otp _ _ _ _ _ _ _ _ h)
  | .sweepEnd _, _, _, h => .of_otp (execSweepEnd_otp _ _ _ h)
  | .scrubOverrun _, _, _, h => .of_otp (execScrubOverrun_otp _ _ _ h)
  | .bucketLeak _, _, _, h => .of_otp (execBucketLeak_otp _ _ _ h)
  | .generate _, _, _, h => .of_otp (execGenerate_otp _ _ _ h)
  | .derive _ _, _, _, h => .of_otp (execDerive_otp _ _ _ _ h)
  | .deriveSealed _, _, _, h => .of_otp (execDeriveSealed_otp _ _ _ h)
  | .loadWk _ _, _, _, h => .of_otp (execLoadWk_otp _ _ _ _ h)
  | .clearWk _, _, _, h => .of_otp (execClearWk_otp _ _ _ h)
  | .erase _, _, _, h => .of_otp (execErase_otp _ _ _ h)
  | .lockSlot _, _, _, h => .of_otp (execLockSlot_otp _ _ _ h)
  | .certify _, _, _, h => .of_otp (execCertify_otp _ _ _ h)
  | .publicKey _, _, _, h => .of_otp (execPublicKey_otp _ _ _ h)
  | .deriveL2, _, _, h => .of_otp (execDeriveL2_otp _ _ h)
  | .ks3AutoDerive, _, _, h => .of_otp (execKs3AutoDerive_otp _ _ h)
  | .provisionVault, _, _, h => .of_otp (execProvisionVault_otp _ _ h)
  | .keysAbort, _, _, h => .of_otp (execKeysAbort_otp _ _ h)
  | .rewriteRelease, _, _, h => .of_otp (execRewriteRelease_otp _ _ h)
  | .keysCmdDone, _, _, h => .of_otp (execKeysCmdDone_otp _ _ h)
  | .engStart _ _, _, _, h => .of_otp (execEngStart_otp _ _ _ _ h)
  | .engAbort _ _, _, _, h => .of_otp (execEngAbort_otp _ _ _ _ h)
  | .engDone _ _, _, _, h => .of_otp (execEngDone_otp _ _ _ _ h)
  | .kmEngineTake _, _, _, h => .of_otp (execKmEngineTake_otp _ _ _ h)
  | .sourceStartupPass _ _, _, _, h => .of_otp (execSourceStartupPass_otp _ _ _ _ h)
  | .healthFail _ _, _, _, h => .of_otp (execHealthFail_otp _ _ _ _ h)
  | .seedReady _, _, _, h => .of_otp (execSeedReady_otp _ _ _ h)
  | .drbgReady _, _, _, h => .of_otp (execDrbgReady_otp _ _ _ h)
  | .drbgGenerate, _, _, h => .of_otp (execDrbgGenerate_otp _ _ h)
  | .rngFlush, _, _, h => .of_otp (execRngFlush_otp _ _ h)
  | .reseed, _, _, h => .of_otp (execReseed_otp _ _ h)
  | .rawMode _, _, _, h => .of_otp (execRawMode_otp _ _ _ h)
  | .testPattern _, _, _, h => .of_otp (execTestPattern_otp _ _ _ h)
  | .stopTest, _, _, h => .of_otp (execStopTest_otp _ _ h)
  | .rngDataRead, _, _, h => .of_otp (execRngDataRead_otp _ _ h)
  | .rngRawRead _, _, _, h => .of_otp (execRngRawRead_otp _ _ _ h)
  | .internalRngRequest, _, _, h => .of_otp (execInternalRngRequest_otp _ _ h)
  | .kioskState _ _ _ _, _, _, h => .of_otp (execKioskState_otp _ _ _ _ _ _ h)
  | .kioskHold _ _ _ _, _, _, h => .of_otp (execKioskHold_otp _ _ _ _ _ _ h)
  | .kioskResetCycle _ _ _ _, _, _, h => .of_otp (execKioskResetCycle_otp _ _ _ _ _ _ h)
  | .service _ _ _ _ _, _, _, h => .of_otp (execService_otp _ _ _ _ _ _ _ h)
  | .replyPlace _, _, _, h => .of_otp (execReplyPlace_otp _ _ _ h)
  | .tnRspRead _ _, _, _, h => .of_otp (execTnRspRead_otp _ _ _ _ h)
  | .unbound _ _ _, _, _, h => .of_otp (execUnbound_otp _ _ _ _ _ h)
  | .tnDbInWrite _ _ _, _, _, h => .of_otp (execTnDbInWrite_otp _ _ _ _ _ h)
  | .kioskTakeRead, _, _, h => .of_otp (execKioskTakeRead_otp _ _ h)
  | .kioskReplyWrite _, _, _, h => .of_otp (execKioskReplyWrite_otp _ _ _ h)
  | .kioskDbOutWrite _, _, _, h => .of_otp (execKioskDbOutWrite_otp _ _ _ h)
  | .applyTbt _, _, _, h => .of_otp (execApplyTbt_otp _ _ _ h)
  | .takenRequestTimeout _, _, _, h => .of_otp (execTakenRequestTimeout_otp _ _ _ h)
  | .pendingRequestTimeout _, _, _, h => .of_otp (execPendingRequestTimeout_otp _ _ _ h)
  | .smbusBlockWrite _ _ _ _ _, _, _, h => .of_otp (execSmbusBlockWrite_otp _ _ _ _ _ _ _ h)
  | .smbusProcessCall _ _ _, _, _, h => .of_otp (execSmbusProcessCall_otp _ _ _ _ _ h)
  | .applySettings, _, _, h => .of_otp (execApplySettings_otp _ _ h)
  | .send, _, _, h => .of_otp (execSend_otp _ _ h)
  | .mctpPacket _, _, _, h => .of_otp (execMctpPacket_otp _ _ _ h)
  | .reassemblyTimeout _ _ _ _, _, _, h => .of_otp (execReassemblyTimeout_otp _ _ _ _ _ _ h)
  | .rxSlotFree _, _, _, h => .of_otp (execRxSlotFree_otp _ _ _ h)
  | .smbTimeout _, _, _, h => .of_otp (execSmbTimeout_otp _ _ _ h)
  | .arbitrationRetry, _, _, h => .of_otp (execArbitrationRetry_otp _ _ h)
  | .setEndpointId _ _, _, _, h => .of_otp (execSetEndpointId_otp _ _ _ _ h)
  | .getEndpointId _, _, _, h => .of_otp (execGetEndpointId_otp _ _ _ h)
  | .getEndpointUuid _, _, _, h => .of_otp (execGetEndpointUuid_otp _ _ _ h)
  | .getMctpVersionSupport _ _, _, _, h => .of_otp (execGetMctpVersionSupport_otp _ _ _ _ h)
  | .getMessageTypeSupport _, _, _, h => .of_otp (execGetMessageTypeSupport_otp _ _ _ h)
  | .getVendorDefinedMsgSupport _ _, _, _, h => .of_otp (execGetVendorDefinedMsgSupport_otp _ _ _ _ h)
  | .prepareForEndpointDiscovery _, _, _, h => .of_otp (execPrepareForEndpointDiscovery_otp _ _ _ h)
  | .endpointDiscovery _, _, _, h => .of_otp (execEndpointDiscovery_otp _ _ _ h)
  | .unsupportedControlCmd _, _, _, h => .of_otp (execUnsupportedControlCmd_otp _ _ _ h)
  | .vendorKiosk _ _ _ _, _, _, h => .of_otp (execVendorKiosk_otp _ _ _ _ _ _ h)
  | .getNonce _, _, _, h => .of_otp (execGetNonce_otp _ _ _ h)
  | .getOutcome _, _, _, h => .of_otp (execGetOutcome_otp _ _ _ h)
  | .ownerRelease _ _, _, _, h => .of_otp (execOwnerRelease_otp _ _ _ _ h)
  | .ownerProvisionVault _ _, _, _, h => .of_otp (execOwnerProvisionVault_otp _ _ _ _ h)
  | .ownerEnterLockdown _ _, _, _, h => .of_otp (execOwnerEnterLockdown_otp _ _ _ _ h)
  | .ownerLockSet _ _, _, _, h => .of_otp (execOwnerLockSet_otp _ _ _ _ h)
  | .ownerLockClear _ _, _, _, h => .of_otp (execOwnerLockClear_otp _ _ _ _ h)
  | .ownerReturnToken _ _, _, _, h => .of_otp (execOwnerReturnToken_otp _ _ _ _ h)
  | .ownerScrap _ _, _, _, h => .of_otp (execOwnerScrap_otp _ _ _ _ h)
  | .getVersion _ _, _, _, h => .of_otp (execGetVersion_otp _ _ _ _ h)
  | .getCapabilities _ _ _ _, _, _, h => .of_otp (execGetCapabilities_otp _ _ _ _ _ _ h)
  | .negotiateAlgorithms _ _, _, _, h => .of_otp (execNegotiateAlgorithms_otp _ _ _ _ h)
  | .getDigests _ _, _, _, h => .of_otp (execGetDigests_otp _ _ _ _ h)
  | .getCertificate _ _ _ _, _, _, h => .of_otp (execGetCertificate_otp _ _ _ _ _ _ h)
  | .challenge _ _ _, _, _, h => .of_otp (execChallenge_otp _ _ _ _ _ h)
  | .getMeasurements _ _ _ _ _, _, _, h => .of_otp (execGetMeasurements_otp _ _ _ _ _ _ _ h)
  | .keyExchange _ _ _ _, _, _, h => .of_otp (execKeyExchange_otp _ _ _ _ _ _ h)
  | .finish _ _ _ _, _, _, h => .of_otp (execFinish_otp _ _ _ _ _ _ h)
  | .heartbeat _ _ _, _, _, h => .of_otp (execHeartbeat_otp _ _ _ _ _ h)
  | .heartbeatExpiry _, _, _, h => .of_otp (execHeartbeatExpiry_otp _ _ _ h)
  | .keyUpdate _ _ _, _, _, h => .of_otp (execKeyUpdate_otp _ _ _ _ _ h)
  | .endSession _ _ _, _, _, h => .of_otp (execEndSession_otp _ _ _ _ _ h)
  | .respondIfReady _ _, _, _, h => .of_otp (execRespondIfReady_otp _ _ _ _ h)
  | .chunkSend _ _ _ _, _, _, h => .of_otp (execChunkSend_otp _ _ _ _ _ _ h)
  | .chunkGet _ _, _, _, h => .of_otp (execChunkGet_otp _ _ _ _ h)
  | .vendorDefinedRequest _ _ _, _, _, h => .of_otp (execVendorDefinedRequest_otp _ _ _ _ _ h)
  | .spdmUnsupportedRequest _, _, _, h => .of_otp (execSpdmUnsupportedRequest_otp _ _ _ h)
  | .getTid _, _, _, h => .of_otp (execGetTid_otp _ _ _ h)
  | .getPldmVersion _ _, _, _, h => .of_otp (execGetPldmVersion_otp _ _ _ _ h)
  | .getPldmTypes _, _, _, h => .of_otp (execGetPldmTypes_otp _ _ _ h)
  | .getPldmCommands _ _, _, _, h => .of_otp (execGetPldmCommands_otp _ _ _ _ h)
  | .queryDeviceIdentifiers _, _, _, h => .of_otp (execQueryDeviceIdentifiers_otp _ _ _ h)
  | .getFirmwareParameters _, _, _, h => .of_otp (execGetFirmwareParameters_otp _ _ _ h)
  | .requestUpdate _, _, _, h => .of_otp (execRequestUpdate_otp _ _ _ h)
  | .passComponentTable _ _, _, _, h => .of_otp (execPassComponentTable_otp _ _ _ _ h)
  | .updateComponent _ _ _ _, _, _, h => .of_otp (execUpdateComponent_otp _ _ _ _ _ _ h)
  | .activateFirmware _, _, _, h => .of_otp (execActivateFirmware_otp _ _ _ h)
  | .getStatus _, _, _, h => .of_otp (execGetStatus_otp _ _ _ h)
  | .cancelUpdateComponent _, _, _, h => .of_otp (execCancelUpdateComponent_otp _ _ _ h)
  | .cancelUpdate _, _, _, h => .of_otp (execCancelUpdate_otp _ _ _ h)
  | .updWrite _ _, _, _, h => .of_otp (execUpdWrite_otp _ _ _ _ h)
  | .updSettle, _, _, h => .of_otp (execUpdSettle_otp _ _ h)
  | .updJobDone _ _ _, _, _, h => .of_otp (execUpdJobDone_otp _ _ _ _ _ h)
  | .updSwap _ _ _, _, _, h => .of_otp (execUpdSwap_otp _ _ _ _ _ h)
  | .updActivateBv, _, _, h => .of_otp (execUpdActivateBv_otp _ _ h)
  | .pauseExpiry, _, _, h => .of_otp (execPauseExpiry_otp _ _ h)
  | .commitSvn _, _, _, h => .of_otp (execCommitSvn_otp _ _ _ h)
  | .updResume, _, _, h => .of_otp (execUpdResume_otp _ _ h)
  | .updOwnerLock, _, _, h => .of_otp (execUpdOwnerLock_otp _ _ h)
  | .updAbort, _, _, h => .of_otp (execUpdAbort_otp _ _ h)
  | .lcsToFactory _, _, _, h => .of_otp (execLcsToFactory_otp _ _ _ h)
  | .lcsToOwned _, _, _, h => .of_otp (execLcsToOwned_otp _ _ _ h)
  | .lcsToReturned _, _, _, h => .of_otp (execLcsToReturned_otp _ _ _ h)
  | .lcsToScrap _, _, _, h => .of_otp (execLcsToScrap_otp _ _ _ h)
  | .lcsProgrammed, _, _, h => execLcsProgrammed_grows _ _ h
  | .lcsArm _, _, _, h => .of_otp (execLcsArm_otp _ _ _ h)
  | .armedExpiry, _, _, h => .of_otp (execArmedExpiry_otp _ _ h)
  | .scrapWipeDone _, _, _, h => execScrapWipeDone_grows _ _ _ h
  | .tokenLoad _, _, _, h => .of_otp (execTokenLoad_otp _ _ _ h)
  | .nonceReq _, _, _, h => .of_otp (execNonceReq_otp _ _ _ h)
  | .tokenClear _, _, _, h => .of_otp (execTokenClear_otp _ _ _ h)
  | .haltReq _, _, _, h => .of_otp (execHaltReq_otp _ _ _ h)
  | .halt, _, _, h => .of_otp (execHalt_otp _ _ h)
  | .debugWrite _ _, _, _, h => .of_otp (execDebugWrite_otp _ _ _ _ h)
  | .scanEntry, _, _, h => .of_otp (execScanEntry_otp _ _ h)
  | .scanExit _, _, _, h => execScanExit_grows _ _ _ h
  | .railToVbat, _, _, h => .of_otp (execRailToVbat_otp _ _ h)
  | .railToVddAon, _, _, h => .of_otp (execRailToVddAon_otp _ _ h)
  | .meshBurst _ _ _ _, _, _, h => .of_otp (execMeshBurst_otp _ _ _ _ _ _ h)
  | .sensorSample _ _, _, _, h => .of_otp (execSensorSample_otp _ _ _ _ h)
  | .applyRules _, _, _, h => .of_otp (execApplyRules_otp _ _ _ h)
  | .setRtc, _, _, h => .of_otp (execSetRtc_otp _ _ h)
  | .evtAck _, _, _, h => .of_otp (execEvtAck_otp _ _ _ h)
  | .clearFired _, _, _, h => .of_otp (execClearFired_otp _ _ _ h)
  | .journalStart, _, _, h => .of_otp (execJournalStart_otp _ _ h)
  | .journalFlush, _, _, h => .of_otp (execJournalFlush_otp _ _ h)
  | .journalWrite, _, _, h => .of_otp (execJournalWrite_otp _ _ h)
  | .journalVerify _, _, _, h => .of_otp (execJournalVerify_otp _ _ _ h)
  | .journalDrain, _, _, h => .of_otp (execJournalDrain_otp _ _ h)
  | .logFlush _ _ _, _, _, h => .of_otp (execLogFlush_otp _ _ _ _ _ h)
  | .tempSample _, _, _, h => .of_otp (execTempSample_otp _ _ _ h)
  | .belvedereResume, _, _, h => .of_otp (execBelvedereResume_otp _ _ h)
  | .pcieLinkChange _ _ _, _, _, h => .of_otp (execPcieLinkChange_otp _ _ _ _ _ h)
  | .rekeyBlockPassed, _, _, h => .of_otp (execRekeyBlockPassed_otp _ _ h)
  | .commitRepairDone _, _, _, h => execCommitRepairDone_grows _ _ _ h
  | .commitSvnDone _, _, _, h => execCommitSvnDone_grows _ _ _ h
  | .rediscoverDone _, _, _, h => .of_otp (execRediscoverDone_otp _ _ _ h)
  | .journalVerifyDone, _, _, h => .of_otp (execJournalVerifyDone_otp _ _ h)
  | .sendDone _, _, _, h => .of_otp (execSendDone_otp _ _ _ h)
  | .vbatBrownout _, _, _, h => .of_otp (execVbatBrownout_otp _ _ _ h)
  | .vbatBrownoutEnd, _, _, h => .of_otp (execVbatBrownoutEnd_otp _ _ h)

/-- One microsecond moves the clocks alone. -/
theorem tick_grows (s : State) : OtpGrows s s.tick := .of_otp (State.rtcStep_otp _)

theorem step_idle {s : State} (h : s.pending = []) : step s = .next s.tick := by rw [step, h]

theorem step_front {s : State} {c : Instr} {rest : List Instr} (h : s.pending = c :: rest) : step s = exec c { s with pending := rest } := by
  rw [step, h]

theorem step_grows {s t : State} (h : step s = .next t) : OtpGrows s t := by
  cases hq : s.pending with
  | nil =>
    rw [step_idle hq] at h
    obtain rfl := Host.Outcome.next.inj h
    exact tick_grows s
  | cons c rest =>
    have hrun : OtpGrows { s with pending := rest } t := exec_grows c _ t ((step_front hq).symm.trans h)
    exact hrun

/-- Settles O55: a step is a command or a tick, and neither clears an OTP bit (`exec_grows`, `tick_grows`). -/
theorem noStepClearsAnOtpBit : Obligations.NoStepClearsAnOtpBit :=
  fun _ _ w bits hset hstep => (step_grows hstep).programmed w bits hset

theorem rtcStep_usec (s : State) : s.rtcStep.usec = s.usec := by
  unfold State.rtcStep
  dsimp only
  (repeat' split) <;> simp -implicitDefEqProofs

theorem rtcStep_tcm (s : State) : s.rtcStep.tcm = s.tcm := by
  unfold State.rtcStep
  dsimp only
  (repeat' split) <;> simp -implicitDefEqProofs

/-- Settles O54: the step function by the queue's head, and a tick of the real-time clock moves neither time, TCM nor OTP any further. -/
theorem stepRunsTheFrontCommand : Obligations.StepRunsTheFrontCommand :=
  ⟨fun _ _ _ h => step_front h, fun _ h => ⟨step_idle h, rtcStep_usec _, rtcStep_tcm _, State.rtcStep_otp _⟩⟩

end Sys2Proof.Machine
end

section
/-! The journal (R424 to R429): what enters the intake, what the chaining engine stores, and what its commands show. -/

namespace Sys2Proof.Machine

/-! ### The intake after START (R425, R426) -/

section
variable {s : State} (hst : rb s JOURNAL_STAT_STARTED = true)
include hst

/-- With room, a record takes the next FIFO entry. -/
theorem intake_room (r : JRec) (hlen : s.jnl.fifo.length < 256) :
    s.intake r = ({ s with jnl := { s.jnl with fifo := s.jnl.fifo ++ [stamp s r] } }, true) := by
  simp [State.intake, hst, hlen]

/-- Once the journal has started, an event only lengthens the FIFO. -/
theorem intake_started (r : JRec) : ∃ tail, (s.intake r).1.jnl = { s.jnl with fifo := s.jnl.fifo ++ tail } := by
  by_cases hlen : s.jnl.fifo.length < 256
  · exact ⟨_, congrArg (fun p => p.1.jnl) (intake_room hst r hlen)⟩
  · refine ⟨[], ?_⟩
    simp [State.intake, hst, hlen]

/-- A counter of the journal that saturates enters a record of its own. -/
theorem bumpRaw_started (lo hi n : Nat) (hlo : lo ≠ JOURNAL_STAT) (hhi : hi ≠ JOURNAL_STAT) :
    ∃ tail, (s.bumpRaw lo hi JOURNAL_EVT_SAT srcJOURNAL n).jnl = { s.jnl with fifo := s.jnl.fifo ++ tail } := by
  unfold State.bumpRaw State.intakeEvt
  dsimp only
  split
  · have hstat (m : Nat) : reg (((s.setCtr lo hi m).setF ⟨hi, 31, 1⟩ 1).raise JOURNAL_EVT_SAT) JOURNAL_STAT = reg s JOURNAL_STAT :=
      (reg_setF_ne _ _ _ _ (by decide)).trans ((reg_setF_ne _ _ _ _ hhi).trans (reg_setCtr _ _ _ _ _ hlo hhi))
    refine intake_started ?_ _
    rw [rb, rf_congr_reg (g := JOURNAL_STAT_STARTED) (hstat _)]
    exact hst
  · exact ⟨[], by simp⟩

/-- With room, a record enters at the end of the FIFO; a count that saturates then may add its own behind it. -/
theorem enter_room (r : JRec) (hlen : s.jnl.fifo.length < 256) :
    ∃ tail, (s.enter r).jnl.fifo = s.jnl.fifo ++ stamp s r :: tail := by
  have hin : rb (s.intake r).1 JOURNAL_STAT_STARTED = true := by rw [intake_room hst r hlen]; exact hst
  obtain ⟨tail, htail⟩ := bumpRaw_started hin JOURNAL_RECORDS_LO JOURNAL_RECORDS_HI 1 (by decide) (by decide)
  refine ⟨tail, ?_⟩
  rw [State.enter, intake_room hst r hlen] at *
  simp only [if_true]
  rw [htail]
  simp

end

/-! ### The interface of the journal -/

theorem jIf_shows : jIf.Shows where
  byte := rfl
  bound := by decide
  done := by decide
  result f hf := by obtain rfl := Option.some.inj hf; decide

/-- The end of a journal command changes no register but its status and events. -/
theorem reg_jEnd (s : State) (op : Nat) (c : Code) (r : Nat) {a : Nat} (hs : JOURNAL_CMD_STAT ≠ a) (he : JOURNAL_EVT ≠ a) :
    reg (s.cmdEnd jIf op c r) a = reg s a := by
  unfold State.cmdEnd State.raise
  exact (reg_setF_ne _ _ _ _ he).trans ((reg_setF_ne _ _ _ _ hs).trans ((reg_setF_ne _ _ _ _ hs).trans (reg_setF_ne _ _ _ _ hs)))

theorem rf_jEnd_result (s : State) (op : Nat) (c : Code) (r : Nat) : rf (s.cmdEnd jIf op c r) JOURNAL_CMD_STAT_RESULT = r % 2 ^ 16 :=
  (rf_setF_ne _ _ _ _ (by decide)).trans (rf_setF_same _ _ _ (by decide))

/-- A refusal shows its code, a delay BUSY_RETRY, and leaves the journal. -/
theorem jRefuse_shows (s : State) (op : Nat) (c : Code) (ms : Option Nat) :
    (s.cmdRefuse jIf op c ms).jnl = s.jnl ∧ rf (s.cmdRefuse jIf op c ms) JOURNAL_CMD_STAT_LAST_STATUS = c.val := by
  refine ⟨State.cmdRefuse_jnl _ _ _ _ _, ?_⟩
  unfold State.cmdRefuse
  split
  · rename_i hc
    rw [hc]
    exact rf_cmdEnd_status _ jIf_shows op _ _
  · exact rf_cmdEnd_status _ jIf_shows op _ _

/-! ### START (R62, R423, R429) -/

section
variable (s : State)

theorem exec_journalStart_again (h : rb s JOURNAL_STAT_STARTED = true) :
    exec .journalStart s = .next (s.cmdRefuse jIf 1 .refusedState) := by
  simp [exec, execJournalStart, h]

theorem exec_journalStart_opens (h : rb s JOURNAL_STAT_STARTED = false) (h4 : classInit s 4 = true) (h5 : classInit s 5 = true) :
    exec .journalStart s = .next (s.jStart.cmdEnd jIf 1 .ok) := by
  simp [exec, execJournalStart, h, h4, h5]

/-- START's own records, before they are counted: the START record, the pre-boot records and, where events were lost, their record. -/
theorem jStart_eq : ∃ (start : JRec) (lost : List JRec), start.event = 0 ∧ start.cls = 7 ∧ s.jStart =
    ((s.modJnl fun j => { j with fifo := start :: (j.preboot ++ lost), preboot := [], prebootLost := [] }).raise
      JOURNAL_STAT_STARTED).bumpRaw JOURNAL_RECORDS_LO JOURNAL_RECORDS_HI JOURNAL_EVT_SAT srcJOURNAL (1 + lost.length) :=
  ⟨_, _, rfl, rfl, rfl⟩

/-- The journal opens with the START record, the pre-boot records behind it. -/
theorem jStart_opens : rb s.jStart JOURNAL_STAT_STARTED = true ∧ s.jStart.jnl.preboot = []
    ∧ ∃ r rest, s.jStart.jnl.fifo = r :: rest ∧ r.event = 0 ∧ r.cls = 7 ∧ ∃ tail, rest = s.jnl.preboot ++ tail := by
  obtain ⟨start, lost, hevent, hcls, hstart⟩ := jStart_eq s
  rw [hstart]
  generalize hu : s.modJnl _ = u
  have hst : rb (u.raise JOURNAL_STAT_STARTED) JOURNAL_STAT_STARTED = true := rb_raise_same _ rfl (by decide)
  obtain ⟨tail, htail⟩ := bumpRaw_started hst JOURNAL_RECORDS_LO JOURNAL_RECORDS_HI (1 + lost.length) (by decide) (by decide)
  have hjnl : (u.raise JOURNAL_STAT_STARTED).jnl = { s.jnl with fifo := start :: (s.jnl.preboot ++ lost), preboot := [], prebootLost := [] } := by
    rw [← hu]; rfl
  rw [htail, hjnl]
  refine ⟨?_, rfl, start, s.jnl.preboot ++ lost ++ tail, rfl, hevent, hcls, lost ++ tail, List.append_assoc _ _ _⟩
  rw [rb, rf_congr_reg (g := JOURNAL_STAT_STARTED)
    (reg_bumpRaw_of_not_counts (by unfold journalCounts; decide) _ (by decide) (by decide))]
  exact hst

/-! ### WRITE (R425) -/

/-- Firmware's record as JOURNAL_FW_DATA holds it. -/
def fwRecord : JRec :=
  let d := (List.range 7).flatMap fun j => leBytes 4 (reg s (JOURNAL_FW_DATA j)).toNat
  { cls := fieldAt d 0 1, code := fieldAt d 1 1, event := fieldAt d 2 2, src := 0xFF, flags := 2, unit := fieldAt d 6 2
    gen := fieldAt d 8 4, data := slice d 12 16 }

theorem exec_journalWrite_enters (h : rb s JOURNAL_STAT_STARTED = true) (hlen : s.jnl.fifo.length < 256)
    (he : early s (jIf.key 3) = false) : exec .journalWrite s = .next ((s.enter (fwRecord s)).cmdEnd jIf 3 .ok) := by
  simp [exec, execJournalWrite, h, delayed, he, Nat.not_le.2 hlen, fwRecord]

theorem exec_journalWrite_full (h : rb s JOURNAL_STAT_STARTED = true) (hlen : 256 ≤ s.jnl.fifo.length) :
    exec .journalWrite s = .next (s.cmdRefuse jIf 3 .busyRetry (some 1)) := by
  simp [exec, execJournalWrite, h, delayed, hlen]

theorem fwRecord_fields : (fwRecord s).cls = fieldAt (leBytes 4 (reg s (JOURNAL_FW_DATA 0)).toNat) 0 1
    ∧ (fwRecord s).gen = (reg s (JOURNAL_FW_DATA 2)).toNat := by
  refine ⟨rfl, ?_⟩
  have hword : slice ((List.range 7).flatMap fun j => leBytes 4 (reg s (JOURNAL_FW_DATA j)).toNat) (4 * 2) 4
      = leBytes 4 (reg s (JOURNAL_FW_DATA 2)).toNat := slice_flatMap_words (fun _ => leBytes_length 4 _) (by decide)
  show leNat (slice _ (4 * 2) 4) = _
  rw [hword, leNat_leBytes]
  exact Nat.mod_eq_of_lt (reg s (JOURNAL_FW_DATA 2)).isLt

/-! ### The chaining engine (R424, R426, R427) -/

theorem exec_journalDrain_empty (h : s.jnl.fifo = []) : exec .journalDrain s = .next s := by simp [exec, execJournalDrain, h]

section
variable {s} {r : JRec} {rest : List JRec} (h : s.jnl.fifo = r :: rest)
include h

theorem exec_journalDrain_noPlace (hp : jPlace s = none) :
    exec .journalDrain s = .next (s.when (anyServing s) (·.setF JOURNAL_STAT_OVF_FULL 1)) := by
  simp [exec, execJournalDrain, h, hp]

theorem exec_journalDrain_stores {drop : Option Nat} {ring : Bool} (hp : jPlace s = some (drop, ring)) :
    exec .journalDrain s = .next (s.jStore r drop ring).lostRecord := by
  simp [exec, execJournalDrain, h, hp]

end

/-- No event was lost: a freed FIFO entry stays free. -/
theorem lostRecord_none (h : (lostCounts s).all (· = 0) = true) : s.lostRecord = s := if_pos h

section
variable (r : JRec) (drop : Option Nat) (ring : Bool)

/-- The record at the head of the intake is held under the next SEQ, in the place that `jPlace` gave. -/
def State.recordHeld (s : State) (r : JRec) (drop : Option Nat) (ring : Bool) : State :=
  let c := chainOf s.jnl.kj s.jnl.chain (jSeq s) r
  let held := match drop with | some q => s.jnl.held.filter (·.1 ≠ q) | none => s.jnl.held
  s.modJnl fun j =>
    { j with
      fifo := j.fifo.drop 1
      chain := c
      held := held ++ [(jSeq s, ⟨r, c, ring⟩)]
      bad := if ring then j.bad.filter (· ≠ jSeq s % ringSize) else j.bad }

/-- A store is that record, and four registers that follow it. -/
theorem jStore_eq : ∃ oldest half, s.jStore r drop ring =
    ((((s.recordHeld r drop ring).setF JOURNAL_SEQ_SEQ ((jSeq s + 1) % 2 ^ 32)).setF JOURNAL_STAT_OVF_FULL 0).setF
      JOURNAL_OLDEST_SEQ oldest).when half (·.raise JOURNAL_EVT_HALF) :=
  ⟨_, _, rfl⟩

/-- The record stored takes the CHAIN over it and leaves the intake. -/
theorem jStore_jnl : (s.jStore r drop ring).jnl = (s.recordHeld r drop ring).jnl := by
  obtain ⟨oldest, half, hstore⟩ := jStore_eq s r drop ring
  rw [hstore, State.when_keeps State.jnl _ _ fun u => State.raise_jnl u _]
  rfl

/-- The store changes the registers of SEQ, STAT, OLDEST and the events alone. -/
theorem reg_jStore {a : Nat} (hn : ∀ b ∈ [JOURNAL_SEQ, JOURNAL_STAT, JOURNAL_OLDEST, JOURNAL_EVT], b ≠ a) :
    reg (s.jStore r drop ring) a = reg s a := by
  simp only [List.forall_mem_cons, List.not_mem_nil, false_imp_iff, implies_true, and_true] at hn
  obtain ⟨hseq, hstat, hold, hevt⟩ := hn
  obtain ⟨oldest, half, hstore⟩ := jStore_eq s r drop ring
  rw [hstore, State.when_keeps (reg · a) half (·.raise JOURNAL_EVT_HALF) fun u => reg_setF_ne u _ _ _ hevt]
  exact (reg_setF_ne _ _ _ _ hold).trans ((reg_setF_ne _ _ _ _ hstat).trans (reg_setF_ne _ _ _ _ hseq))

/-- SEQ moves on by one. -/
theorem jSeq_jStore : jSeq (s.jStore r drop ring) = (jSeq s + 1) % 2 ^ 32 := by
  obtain ⟨oldest, half, hstore⟩ := jStore_eq s r drop ring
  rw [hstore, State.when_keeps jSeq half (·.raise JOURNAL_EVT_HALF) fun u => rf_setF_ne u _ _ _ (by decide)]
  exact (rf_setF_ne _ _ _ _ (by decide)).trans ((rf_setF_ne _ _ _ _ (by decide)).trans
    ((rf_setF_same _ _ _ (by decide)).trans (Nat.mod_mod _ _)))

theorem lostCounts_jStore : lostCounts (s.jStore r drop ring) = lostCounts s := by
  refine List.map_congr_left fun c hc => ?_
  have hc : c < 8 := List.mem_range.1 hc
  refine rf_congr_reg (reg_jStore s r drop ring ?_)
  have haddr : (lostFld c).addr = JOURNAL_LOSTP (c / 2) := by unfold lostFld; split <;> rfl
  rw [haddr]
  simp only [List.forall_mem_cons, List.not_mem_nil, false_imp_iff, implies_true, and_true, JOURNAL_SEQ, JOURNAL_STAT, JOURNAL_OLDEST,
    JOURNAL_EVT, JOURNAL_LOSTP]
  omega

end

/-! ### FLUSH and the log (R428, R429) -/

theorem exec_journalFlush_refused (h : rb s JOURNAL_CFG_LOG_EN = false) : exec .journalFlush s = .next (s.cmdRefuse jIf 2 .refusedState) := by
  simp [exec, execJournalFlush, h]

section
variable {s} (hst : rb s JOURNAL_STAT_STARTED = true) (hen : rb s JOURNAL_CFG_LOG_EN = true) (hun : unflushed s ≠ 0)
include hst hen hun

theorem exec_journalFlush_begins : exec .journalFlush s
    = .next (((s.modJnl fun j => { j with flushing := true }).raise JOURNAL_STAT_FLUSH_BUSY).cmdEnd jIf 2 .ok) := by
  simp [exec, execJournalFlush, hst, hen, hun]

theorem exec_journalFlush_shows : ∃ t, exec .journalFlush s = .next t ∧ t.jnl = { s.jnl with flushing := true }
    ∧ rb t JOURNAL_STAT_FLUSH_BUSY = true ∧ rf t JOURNAL_CMD_STAT_LAST_STATUS = 0 := by
  refine ⟨_, exec_journalFlush_begins hst hen hun, State.cmdEnd_jnl _ _ _ _ _, ?_, rf_cmdEnd_status _ jIf_shows 2 .ok 0⟩
  rw [rb, rf_congr_reg (g := JOURNAL_STAT_FLUSH_BUSY) (reg_jEnd _ 2 .ok 0 (by decide) (by decide))]
  exact rb_raise_same _ rfl (by decide)

end

/-- What the end of a flush shows: the position found, FLUSHED at `q`, and whether it failed. -/
def State.logShown (s : State) (pos q : Nat) (ok : Bool) : State :=
  let s := s.modJnl fun j => { j with logPos := some pos, flushing := false }
  (((s.setF JOURNAL_FLUSHED_SEQ q).setF JOURNAL_STAT_FLUSH_BUSY 0).setF JOURNAL_STAT_LOG_FAIL (!ok).toNat).raise JOURNAL_EVT_FLUSHED

theorem logShown_shows (pos q : Nat) (ok : Bool) : jFlushed (s.logShown pos q ok) = q % 2 ^ 32
    ∧ rb (s.logShown pos q ok) JOURNAL_EVT_FLUSHED = true ∧ rb (s.logShown pos q ok) JOURNAL_STAT_FLUSH_BUSY = false
    ∧ rb (s.logShown pos q ok) JOURNAL_STAT_LOG_FAIL = !ok := by
  unfold State.logShown
  dsimp only
  refine ⟨?_, rb_raise_same _ rfl (by decide), ?_, ?_⟩
  · exact (rf_setF_ne _ _ _ _ (by decide)).trans ((rf_setF_ne _ _ _ _ (by decide)).trans
      ((rf_setF_ne _ _ _ _ (by decide)).trans (rf_setF_same _ _ _ (by decide))))
  · rw [rb_raise_ne _ (by decide), rb_setF_ne _ _ _ _ (by decide)]
    exact rb_setF_zero _ (by decide)
  · rw [rb_raise_ne _ (by decide)]
    exact (rb_setF_same _ _ _ (by decide)).trans (by cases ok <;> rfl)

theorem logShown_jnl (pos q : Nat) (ok : Bool) : (s.logShown pos q ok).jnl = { s.jnl with logPos := some pos, flushing := false } := rfl

/-- An event that enters the intake leaves the journal's own event bits. -/
theorem reg_intake_evt {r : JRec} (hc : r.cls < 8) : reg (s.intake r).1 JOURNAL_EVT = reg s JOURNAL_EVT := by
  have hlost : (lostFld r.cls).addr ≠ JOURNAL_EVT := by
    unfold lostFld JOURNAL_LOSTP_EVEN JOURNAL_LOSTP_ODD JOURNAL_LOSTP JOURNAL_EVT
    split <;> dsimp only <;> omega
  unfold State.intake
  dsimp only
  split
  · rfl
  · split
    · rfl
    · exact reg_setF_ne _ _ _ _ hlost

/-- A field of JOURNAL_EVT depends on that register alone. -/
theorem rb_congr_evt {s t : State} {g : Fld} (ha : g.addr = JOURNAL_EVT) (h : reg t JOURNAL_EVT = reg s JOURNAL_EVT) : rb t g = rb s g := by
  have hrf : rf t g = rf s g := rf_congr_reg (by rw [ha]; exact h)
  exact congrArg (· != 0) hrf

/-- A counter of the journal raises its SAT event alone. -/
theorem rb_bumpRaw_evt {lo hi : Nat} (n : Nat) (hl : lo ≠ JOURNAL_EVT) (hh : hi ≠ JOURNAL_EVT) {g : Fld} (ha : g.addr = JOURNAL_EVT)
    (hg : JOURNAL_EVT_SAT.apart g) : rb (s.bumpRaw lo hi JOURNAL_EVT_SAT srcJOURNAL n) g = rb s g := by
  have hctr (m : Nat) : rb (s.setCtr lo hi m) g = rb s g := rb_congr_evt ha (reg_setCtr _ _ _ _ _ hl hh)
  have hraise (t : State) (v : Nat) : rb ((t.setF ⟨hi, 31, 1⟩ v).raise JOURNAL_EVT_SAT) g = rb t g :=
    (rb_raise_ne _ hg).trans (rb_setF_ne _ _ _ _ (.inl (by rw [ha]; exact hh)))
  unfold State.bumpRaw State.intakeEvt
  dsimp only
  split
  · rw [rb_congr_evt ha (reg_intake_evt _ (by decide)), hraise, hctr]
  · exact hctr _

/-- A record leaves every event bit of the journal but SAT. -/
theorem rb_journal_evt {g : Fld} (ha : g.addr = JOURNAL_EVT) (hg : JOURNAL_EVT_SAT.apart g) {cls : Nat} (hc : cls < 8) (tag src unit : Nat)
    (c : Code) : rb (s.journal cls tag src unit c) g = rb s g := by
  have hin (r : JRec) (hr : r.cls < 8) : rb (s.intake r).1 g = rb s g := rb_congr_evt ha (reg_intake_evt _ hr)
  unfold State.journal State.journalD State.enter
  dsimp only
  split <;> rw [rb_bumpRaw_evt _ _ (by decide) (by decide) ha hg] <;> exact hin _ hc

/-- A flush that succeeds ends OVF_FULL too. -/
theorem logShown_flushed (pos q : Nat) :
    let t := (s.logShown pos q true).setF JOURNAL_STAT_OVF_FULL 0
    jFlushed t = q % 2 ^ 32 ∧ rb t JOURNAL_EVT_FLUSHED = true ∧ rb t JOURNAL_STAT_FLUSH_BUSY = false ∧ rb t JOURNAL_STAT_LOG_FAIL = false := by
  obtain ⟨hq, hevt, hbusy, hfail⟩ := logShown_shows s pos q true
  exact ⟨(rf_setF_ne _ _ _ _ (by decide)).trans hq, (rb_setF_ne _ _ _ _ (by decide)).trans hevt,
    (rb_setF_ne _ _ _ _ (by decide)).trans hbusy, (rb_setF_ne _ _ _ _ (by decide)).trans hfail⟩

/-- The record of a failed flush leaves what the flush shows. -/
theorem logShown_failed (pos q : Nat) :
    let t := ((s.logShown pos q false).raise JOURNAL_EVT_LOG_FAIL).journal 5 428 srcJOURNAL noUnit .internalFault
    rb t JOURNAL_STAT_LOG_FAIL = true ∧ rb t JOURNAL_EVT_LOG_FAIL = true ∧ jFlushed t = q % 2 ^ 32 := by
  obtain ⟨hq, -, -, hfail⟩ := logShown_shows s pos q false
  have hkept {u : State} {a : Nat} (ha : ¬ journalCounts a) :
      reg (u.journal 5 428 srcJOURNAL noUnit .internalFault) a = reg u a := reg_journalD_of_not_counts ha _ _ _ _ _ _ _ (by decide)
  refine ⟨?_, ?_, ?_⟩
  · rw [rb, rf_congr_reg (g := JOURNAL_STAT_LOG_FAIL) (hkept (by unfold journalCounts; decide))]
    exact (rb_setF_ne _ _ _ _ (by decide)).trans hfail
  · rw [rb_journal_evt _ rfl (by decide) (by decide)]
    exact rb_raise_same _ rfl (by decide)
  · rw [jFlushed, rf_congr_reg (g := JOURNAL_FLUSHED_SEQ) (hkept (by unfold journalCounts; decide))]
    exact (rf_setF_ne _ _ _ _ (by decide)).trans hq

section
variable {s} (hst : rb s JOURNAL_STAT_STARTED = true) (hen : rb s JOURNAL_CFG_LOG_EN = true) (hun : unflushed s ≠ 0)
  (hsec : logSectors s ≠ 0) (written : List Bool) (count : Nat)
include hst hen hun hsec

omit written count in
theorem flush_runs : ¬ (!rb s JOURNAL_STAT_STARTED || !rb s JOURNAL_CFG_LOG_EN || decide (unflushed s = 0) || decide (logSectors s = 0)) = true := by
  simp [hst, hen, hun, hsec]

/-- The records flushed go to the places that the log gives them. -/
theorem exec_logFlush_writes : ∃ pos er places, exec (.logFlush written count true) s
    = .next ((((s.logShown pos ((jFlushed s + min count (unflushed s)) % 2 ^ 32) true)).setF JOURNAL_STAT_OVF_FULL 0).ret
      (.logWrite er places ((List.range (min count (unflushed s))).flatMap fun i => recBytes s ((jFlushed s + i) % 2 ^ 32)))) := by
  exact ⟨_, _, _, (if_neg (flush_runs hst hen hun hsec)).trans rfl⟩

/-- A flush that fails leaves FLUSHED and enters a record. -/
theorem exec_logFlush_fails : ∃ pos out, exec (.logFlush written count false) s
    = .next ((((s.logShown pos (jFlushed s) false).raise JOURNAL_EVT_LOG_FAIL).journal 5 428 srcJOURNAL noUnit .internalFault).ret out) := by
  exact ⟨_, _, (if_neg (flush_runs hst hen hun hsec)).trans rfl⟩

end

/-! ### VERIFY (R429) -/

section
variable {n : Nat} (hn : n < 65536)
include hn

theorem exec_journalVerify_zero (h0 : n = 0) :
    ∃ ms, exec (.journalVerify n) s = .next (s.cmdRefuse jIf 4 .malformed ms) := by
  subst h0
  exact ⟨_, rfl⟩

variable (h0 : n ≠ 0) (hheld : ∀ i, i < n → (heldAt s ((rf s JOURNAL_RD_SEL_SEQ + i) % 2 ^ 32)).isSome = true)
include h0 hheld

omit hn in
/-- Over records that are all held, VERIFY meets at most its busy condition. -/
theorem journalVerify_code : firstCode [(n = 0, Code.malformed),
    (!((List.range n).all fun i => (heldAt s ((rf s JOURNAL_RD_SEL_SEQ + i) % 2 ^ 32)).isSome), .refusedState),
    (delayed s jIf 4 s.jnl.verify.isSome, .busyRetry)] = if delayed s jIf 4 s.jnl.verify.isSome then some .busyRetry else none := by
  have hall : ((List.range n).all fun i => (heldAt s ((rf s JOURNAL_RD_SEL_SEQ + i) % 2 ^ 32)).isSome) = true :=
    List.all_eq_true.2 fun i hi => hheld i (List.mem_range.1 hi)
  rw [hall]
  simp [firstCode, h0]

theorem exec_journalVerify_starts (hv : s.jnl.verify = none) (he : early s (jIf.key 4) = false) :
    exec (.journalVerify n) s = .next (((s.modJnl fun j => { j with verify := some (rf s JOURNAL_RD_SEL_SEQ, n) }).setF jIf.op 4).setF
      jIf.status Code.ok.val) := by
  have hcode := journalVerify_code s h0 hheld
  rw [if_neg (by simp [delayed, hv, he])] at hcode
  simp only [exec, execJournalVerify, Nat.mod_eq_of_lt hn, hcode]

theorem exec_journalVerify_runs {m : Nat × Nat} (hv : s.jnl.verify = some m) :
    ∃ ms, exec (.journalVerify n) s = .next (s.cmdRefuse jIf 4 .busyRetry ms) := by
  have hcode := journalVerify_code s h0 hheld
  rw [if_pos (by simp [delayed, hv])] at hcode
  refine ⟨s.jnl.verify.map fun m => (m.2 + 1999) / 2000, ?_⟩
  simp only [exec, execJournalVerify, Nat.mod_eq_of_lt hn, hcode]

end

/-- The chain is recomputed from the records held and the key alone. -/
theorem verifyFrom_modJnl (n i q : Nat) (prev : Option (List Byte)) :
    verifyFrom (s.modJnl fun j => { j with verify := none }) n i q prev = verifyFrom s n i q prev := by
  induction n generalizing i q prev with
  | zero => rfl
  | succ n ih =>
    unfold verifyFrom
    rw [show heldAt (s.modJnl fun j => { j with verify := none }) q = heldAt s q from rfl]
    cases heldAt s q with
    | none => rfl
    | some h =>
      dsimp only
      rw [ih]
      rfl

section
variable {s} {q n : Nat} (hv : s.jnl.verify = some (q, n))
include hv

theorem exec_journalVerifyDone_ok (h : verifyFrom s n 0 q (chainBefore s q) = none) :
    exec .journalVerifyDone s = .next ((s.modJnl fun j => { j with verify := none }).cmdEnd jIf 4 .ok) := by
  have h' : verifyFrom (s.modJnl fun j => { j with verify := none }) n 0 q (chainBefore (s.modJnl fun j => { j with verify := none }) q) = none :=
    (verifyFrom_modJnl s n 0 q _).trans h
  simp only [exec, execJournalVerifyDone, hv, h']

theorem exec_journalVerifyDone_fails {i : Nat} (h : verifyFrom s n 0 q (chainBefore s q) = some i) :
    exec .journalVerifyDone s = .next ((s.modJnl fun j => { j with verify := none }).cmdEnd jIf 4 .verifyFail i) := by
  have h' : verifyFrom (s.modJnl fun j => { j with verify := none }) n 0 q (chainBefore (s.modJnl fun j => { j with verify := none }) q) = some i :=
    (verifyFrom_modJnl s n 0 q _).trans h
  simp only [exec, execJournalVerifyDone, hv, h']

end

end

/-- Settles O53: each command by the condition it meets, what enters the intake (`intake_started`, `jStart_opens`), what the chaining engine
stores (`jStore_eq`) and what a flush shows (`logShown_shows`). -/
theorem journalActs : Obligations.JournalActs := by
  intro s
  refine ⟨fun h h4 h5 => ?starts, fun h => ⟨_, exec_journalStart_again s h, jRefuse_shows s 1 .refusedState none⟩, fun h hlen he => ?writes,
    fun h hlen => ⟨_, exec_journalWrite_full s h hlen, jRefuse_shows s 3 .busyRetry (some 1)⟩, exec_journalDrain_empty s,
    fun r rest h hp => ⟨fun hs => ?full, fun hs => ?waits⟩, fun r rest drop ring h hp hl => ?stores,
    fun hst hen hun => ⟨exec_journalFlush_shows hst hen hun, fun written count hsec => ?flushed, fun written count hsec => ?failed⟩,
    fun h => ⟨_, exec_journalFlush_refused s h, jRefuse_shows s 2 .refusedState none⟩, fun n hn => ⟨fun h0 hheld => ⟨fun hv he => ?begins, fun m hv => ?busy⟩,
      fun h0 => ?zero⟩, fun q n hv => ⟨fun h => ?passes, fun i h hi => ?fails⟩⟩
  case starts =>
    obtain ⟨hst, hpre, hfifo⟩ := jStart_opens s
    refine ⟨_, exec_journalStart_opens s h h4 h5, ?_, rf_cmdEnd_status _ jIf_shows 1 .ok 0, ?_, ?_⟩
    · rw [rb, rf_congr_reg (g := JOURNAL_STAT_STARTED) (reg_jEnd _ 1 .ok 0 (by decide) (by decide))]
      exact hst
    · rw [State.cmdEnd_jnl]
      exact hpre
    · rw [State.cmdEnd_jnl]
      exact hfifo
  case writes =>
    obtain ⟨tail, htail⟩ := enter_room h (fwRecord s) hlen
    refine ⟨_, stamp s (fwRecord s), exec_journalWrite_enters s h hlen he, ⟨tail, ?_⟩, rf_cmdEnd_status _ jIf_shows 3 .ok 0, rfl, fwRecord_fields s⟩
    rw [State.cmdEnd_jnl]
    exact htail
  case full => rw [exec_journalDrain_noPlace h hp, hs]; rfl
  case waits => rw [exec_journalDrain_noPlace h hp, hs]; rfl
  case stores =>
    have hlost : (s.jStore r drop ring).lostRecord = s.jStore r drop ring := lostRecord_none _ (by rw [lostCounts_jStore]; exact hl)
    refine ⟨_, (exec_journalDrain_stores h hp).trans (by rw [hlost]), ?_⟩
    rw [jStore_jnl]
    refine ⟨?_, jSeq_jStore s r drop ring, rfl, List.mem_append_right _ (List.mem_singleton.2 rfl), rfl⟩
    show s.jnl.fifo.drop 1 = rest
    rw [h]
    rfl
  case flushed =>
    obtain ⟨pos, er, places, hexec⟩ := exec_logFlush_writes hst hen hun hsec written count
    obtain ⟨hq, hevt, hbusy, hfail⟩ := logShown_flushed s pos ((jFlushed s + min count (unflushed s)) % 2 ^ 32)
    exact ⟨_, hexec, hq.trans (Nat.mod_mod _ _), hevt, hbusy, hfail, rfl, rfl, er, places, rfl⟩
  case failed =>
    obtain ⟨pos, out, hexec⟩ := exec_logFlush_fails hst hen hun hsec written count
    obtain ⟨hfail, hevt, hq⟩ := logShown_failed s pos (jFlushed s)
    exact ⟨_, hexec, hfail, hevt, hq.trans (Nat.mod_eq_of_lt (rf_lt s JOURNAL_FLUSHED_SEQ))⟩
  case begins =>
    refine ⟨_, exec_journalVerify_starts s hn h0 hheld hv he, rfl, rf_setF_same _ _ _ (by decide)⟩
  case busy =>
    obtain ⟨ms, hexec⟩ := exec_journalVerify_runs s hn h0 hheld hv
    exact ⟨_, hexec, jRefuse_shows s 4 .busyRetry ms⟩
  case zero =>
    obtain ⟨ms, hexec⟩ := exec_journalVerify_zero s hn h0
    exact ⟨_, hexec, jRefuse_shows s 4 .malformed ms⟩
  case passes => exact ⟨_, exec_journalVerifyDone_ok hv h, State.cmdEnd_jnl _ _ _ _ _, rf_cmdEnd_status _ jIf_shows 4 .ok 0⟩
  case fails =>
    exact ⟨_, exec_journalVerifyDone_fails hv h, State.cmdEnd_jnl _ _ _ _ _, rf_cmdEnd_status _ jIf_shows 4 .verifyFail i,
      (rf_jEnd_result _ 4 .verifyFail i).trans (Nat.mod_eq_of_lt hi)⟩

end Sys2Proof.Machine
end

section
/-! The arithmetic engines (O42): the table of running operations, the commands of the two blocks (R308, R316, R319, R321), the end of an
operation (R308, R313, R318, R320) and its outcome (R310, R313, R314). -/

namespace Sys2Proof.Machine

variable {s : State} {b e : Nat}

/-! ### The table of running operations -/

theorem engOp_congr {t : State} (h : t.eng = s.eng) (k : Nat) : engOp t k = engOp s k := by rw [engOp, engOp, h]

@[simp] theorem engOp_setEng_same (s : State) (e : Nat) (o : Option EngOp) : engOp (s.setEng e o) e = o := by
  have hrest : (s.eng.filter (·.1 ≠ e)).find? (·.1 = e) = none := List.find?_eq_none.mpr fun p hp => by
    simpa using (List.mem_filter.mp hp).2
  unfold engOp State.setEng
  cases o with
  | none => exact congrArg (Option.map Prod.snd) hrest
  | some o =>
    simp only [State.setMapBit_eng, List.find?_append, hrest]
    simp

theorem engOp_setEng_ne {k : Nat} (h : k ≠ e) (s : State) (o : Option EngOp) : engOp (s.setEng e o) k = engOp s k := by
  have hrest : (s.eng.filter (·.1 ≠ e)).find? (·.1 = k) = s.eng.find? (·.1 = k) := by
    rw [List.find?_filter]
    congr 1
    funext p
    by_cases hp : p.1 = k <;> simp [hp, h]
  unfold engOp State.setEng
  cases o with
  | none => exact congrArg (Option.map Prod.snd) hrest
  | some o =>
    simp only [State.setMapBit_eng, List.find?_append, hrest]
    simp [Ne.symm h]

@[simp] theorem State.setEng_tcm (s : State) (e : Nat) (o : Option EngOp) : (s.setEng e o).tcm = s.tcm := rfl
@[simp] theorem State.setEng_keys (s : State) (e : Nat) (o : Option EngOp) : (s.setEng e o).keys = s.keys := rfl

theorem rf_setEng {g : Fld} (o : Option EngOp) (h : (ENG_STAT_BUSY (engBlk e)).apart g) : rf (s.setEng e o) g = rf s g :=
  rf_setF_ne _ _ _ _ h

theorem busy_setEng (s : State) (he : e < 4) (o : Option EngOp) : mapBit (s.setEng e o) (ENG_STAT_BUSY (engBlk e)) e = o.isSome :=
  mapBit_setMapBit_same _ _ he (show 0 + 4 ≤ 32 by decide)

theorem engOp_engStop {o : EngOp} (ho : engOp s e = some o) (c : Code) :
    engOp (s.engStop e c) e = some { o with ends := if o.ends = Code.keyRevoked.val then o.ends else c.val } := by
  unfold State.engStop
  rw [ho]
  exact engOp_setEng_same _ _ _

@[simp] theorem State.engStop_tcm (s : State) (e : Nat) (c : Code) : (s.engStop e c).tcm = s.tcm := by
  unfold State.engStop
  split <;> rfl

theorem mapBit_congr {t : State} {f : Fld} (h : rf t f = rf s f) (i : Nat) : mapBit t f i = mapBit s f i := by rw [mapBit, mapBit, h]

/-! ### The commands of the blocks (R308, R319, R321) -/

@[simp] theorem State.engEnd_tcm (s : State) (b e : Nat) (c : Code) (ms : Nat) : (s.engEnd b e c ms).tcm = s.tcm := rfl
@[simp] theorem State.engEnd_keys (s : State) (b e : Nat) (c : Code) (ms : Nat) : (s.engEnd b e c ms).keys = s.keys := rfl
@[simp] theorem State.engEnd_eng (s : State) (b e : Nat) (c : Code) (ms : Nat) : (s.engEnd b e c ms).eng = s.eng := rfl

/-- Two fields of one register share no bit. -/
theorem Fld.apart_bits (a lo wid : Nat) {lo' wid' : Nat} (h : (lo' + wid' ≤ lo ∨ lo + wid ≤ lo') ∧ lo' + wid' ≤ 32) :
    (⟨a, lo, wid⟩ : Fld).apart ⟨a, lo', wid'⟩ := .inr h

theorem engEnd_status (s : State) (b e : Nat) (c : Code) (ms : Nat) : rf (s.engEnd b e c ms) (ENG_CMD_STAT_LAST_STATUS b) = c.val := by
  unfold State.engEnd
  rw [rf_setF_ne _ (ENG_CMD_STAT_RESULT b) (ENG_CMD_STAT_LAST_STATUS b) _ (Fld.apart_bits _ 16 16 (by decide)), rf_setF_same _ _ _ (show 0 + 8 ≤ 32 by decide)]
  exact Nat.mod_eq_of_lt c.val_lt

theorem engEnd_engine (s : State) (b : Nat) (he : e < 4) (c : Code) (ms : Nat) : rf (s.engEnd b e c ms) (ENG_CMD_STAT_LAST_ENGINE b) = e := by
  unfold State.engEnd
  rw [rf_setF_ne _ (ENG_CMD_STAT_RESULT b) (ENG_CMD_STAT_LAST_ENGINE b) _ (Fld.apart_bits _ 16 16 (by decide)), rf_setF_ne _ (ENG_CMD_STAT_LAST_STATUS b) (ENG_CMD_STAT_LAST_ENGINE b) _ (Fld.apart_bits _ 0 8 (by decide)),
    rf_setF_same _ _ _ (show 8 + 4 ≤ 32 by decide)]
  exact Nat.mod_eq_of_lt (by show e < 16; omega)

theorem engEnd_result (s : State) (b e : Nat) (c : Code) (ms : Nat) : rf (s.engEnd b e c ms) (ENG_CMD_STAT_RESULT b) = ms % 2 ^ 16 :=
  rf_setF_same _ _ _ (show 16 + 16 ≤ 32 by decide)

/-- The outcome of a command leaves what the engines show. -/
theorem engEnd_busy (s : State) (b e k : Nat) (c : Code) (ms x : Nat) :
    mapBit (s.engEnd b e c ms) (ENG_STAT_BUSY x) k = mapBit s (ENG_STAT_BUSY x) k := by
  have haddr : ENG_CMD_STAT b ≠ ENG_STAT x := by unfold ENG_CMD_STAT ENG_STAT; omega
  unfold State.engEnd
  exact mapBit_congr (by rw [rf_setF_ne _ _ _ _ (.inl haddr), rf_setF_ne _ _ _ _ (.inl haddr), rf_setF_ne _ _ _ _ (.inl haddr)]) k

theorem delay_fst_some {key : Nat} (h : early s key = false) (ms : Nat) : (s.delay key (some ms)).1 = max 1 (min 65535 ms) := by
  unfold State.delay
  rw [h]
  rfl

theorem delay_fst_early {key : Nat} (h : early s key = true) (ms : Option Nat) : (s.delay key ms).1 = retryLeft s key := by
  unfold State.delay
  rw [h]
  rfl

/-- The descriptor's place, that START asks for first (R306). -/
def dscPlaced (s : State) (b e : Nat) : Bool :=
  engInBlk b e && rf s (ENG_CMD_ADDR_ADDR b) % 4 = 0 && tcmFree s (rf s (ENG_CMD_ADDR_ADDR b)) 32

theorem exec_engStart_accepted (hp : dscPlaced s b e = true) (hr : startRetry s e = none) (hq : early s (engKey b e) = false) :
    exec (.engStart b e) s = .next ((s.setEng e (some (startOpOf s e (rf s (ENG_CMD_ADDR_ADDR b))))).engEnd b e .ok 0) := by
  unfold dscPlaced at hp
  show execEngStart b e s = _
  simp only [execEngStart, hp, hr, hq, Bool.not_true, Bool.false_eq_true, if_false, Option.isSome_none, Bool.or_false]

theorem exec_engStart_busy (hp : dscPlaced s b e = true) (hb : ((startRetry s e).isSome || early s (engKey b e)) = true) :
    exec (.engStart b e) s = .next ((s.delay (engKey b e) (startRetry s e)).2.engEnd b e .busyRetry (s.delay (engKey b e) (startRetry s e)).1) := by
  unfold dscPlaced at hp
  show execEngStart b e s = _
  simp only [execEngStart, hp, hb, Bool.not_true, Bool.false_eq_true, if_false, if_true]

theorem exec_engStart_misplaced (hp : dscPlaced s b e = false) : exec (.engStart b e) s = .next (s.engEnd b e .malformed 0) := by
  unfold dscPlaced at hp
  show execEngStart b e s = _
  simp only [execEngStart, hp, Bool.not_false, if_true]

/-! ### The end of an operation (R308, R313, R318) -/

/-- The bytes that the end of an operation leaves in TCM: its output or zeros, and its STATUS byte. -/
def State.engWritten (s : State) (o : EngOp) (c : Code) (out : List Byte) : State :=
  (if c = .aborted || c = .keyRevoked then s.tcmWrite (dscDst o.desc) (List.replicate (dstLen o) 0)
    else if c = .ok then s.tcmWrite (dscDst o.desc) out else s).tcmWrite (o.addr + 1) [BitVec.ofNat 8 c.val]

/-- The DONE register and the event of the end of an operation. -/
def State.engShown (s : State) (e : Nat) (o : EngOp) (c : Code) : State :=
  (((s.setF (ENG_DONE_STATUS (engBlk e)) c.val).setF (ENG_DONE_OP (engBlk e)) (dscOp o.desc)).setF (ENG_DONE_ENGINE (engBlk e)) e).setMapBit
    (ENG_EVT_DONE (engBlk e)) e true

/-- The counters, the record and the events of the end of an operation. -/
def State.engCounted (s : State) (e : Nat) (c : Code) : State :=
  let b := engBlk e
  let s := s.bump (ENG_OPS_LO b) (ENG_OPS_HI b) (ENG_EVT_SAT b) (srcEng b)
  let s := if c = .internalFault then
      ((s.raise (ENG_EVT_FAULT b)).bump (ENG_FAULT_LO b) (ENG_FAULT_HI b) (ENG_EVT_SAT b) (srcEng b)).journal 7 313 (srcEng b) e c
    else s
  if c = .keyRevoked then (s.raise (ENG_EVT_REVOKED b)).raise KEYS_EVT_REVOKED else s

theorem engFinish_eq (s : State) (e : Nat) (o : EngOp) (c : Code) (out : List Byte) : s.engFinish e o c out =
    if o.clear then ((((s.engWritten o c out).engShown e o c).engCounted e c).setEng e none |>.setWk e none).cmdEnd keyIf opCLEAR_WK .ok
    else (((s.engWritten o c out).engShown e o c).engCounted e c).setEng e none := rfl

theorem engWritten_keeps {β : Type} (g : State → β) (h : ∀ s a bs, g (State.tcmWrite s a bs) = g s) (s : State) (o : EngOp) (c : Code)
    (out : List Byte) : g (s.engWritten o c out) = g s := by
  unfold State.engWritten
  rw [h]
  split
  · exact h _ _ _
  · split
    · exact h _ _ _
    · rfl

@[simp] theorem engShown_tcm (s : State) (e : Nat) (o : EngOp) (c : Code) : (s.engShown e o c).tcm = s.tcm := rfl
@[simp] theorem engShown_eng (s : State) (e : Nat) (o : EngOp) (c : Code) : (s.engShown e o c).eng = s.eng := rfl
@[simp] theorem engShown_keys (s : State) (e : Nat) (o : EngOp) (c : Code) : (s.engShown e o c).keys = s.keys := rfl

theorem engCounted_keeps {β : Type} (g : State → β) (hb : ∀ s lo hi f src, g (State.bump s lo hi f src) = g s)
    (hr : ∀ s f, g (State.raise s f) = g s) (hj : ∀ s cls tag src u c, g (State.journal s cls tag src u c) = g s) (s : State) (e : Nat) (c : Code) :
    g (s.engCounted e c) = g s := by
  unfold State.engCounted
  dsimp only
  split <;> split <;> simp only [hb, hr, hj]

@[simp] theorem engCounted_tcm (s : State) (e : Nat) (c : Code) : (s.engCounted e c).tcm = s.tcm :=
  engCounted_keeps State.tcm (fun _ _ _ _ _ => State.bumpN_tcm ..) (fun _ _ => rfl) (fun _ _ _ _ _ _ => State.journalD_tcm ..) s e c
@[simp] theorem engCounted_eng (s : State) (e : Nat) (c : Code) : (s.engCounted e c).eng = s.eng :=
  engCounted_keeps State.eng (fun _ _ _ _ _ => State.bumpN_eng ..) (fun _ _ => rfl) (fun _ _ _ _ _ _ => State.journalD_eng ..) s e c
@[simp] theorem engCounted_keys (s : State) (e : Nat) (c : Code) : (s.engCounted e c).keys = s.keys :=
  engCounted_keeps State.keys (fun _ _ _ _ _ => State.bumpN_keys ..) (fun _ _ => rfl) (fun _ _ _ _ _ _ => State.journalD_keys ..) s e c

/-- A field that the counting at the end of an operation leaves: outside the journal, outside the block's counters, and apart from the
events it raises. -/
structure Uncounted (b : Nat) (g : Fld) : Prop where
  offJournal : offJournal g.addr
  opsLo : ENG_OPS_LO b ≠ g.addr
  opsHi : ENG_OPS_HI b ≠ g.addr
  faultLo : ENG_FAULT_LO b ≠ g.addr
  faultHi : ENG_FAULT_HI b ≠ g.addr
  sat : (ENG_EVT_SAT b).apart g
  fault : (ENG_EVT_FAULT b).apart g
  revoked : (ENG_EVT_REVOKED b).apart g
  keys : KEYS_EVT_REVOKED.apart g

theorem rf_engCounted {g : Fld} (h : Uncounted (engBlk e) g) (s : State) (c : Code) : rf (s.engCounted e c) g = rf s g := by
  have hops (u : State) := rf_bump_apart (s := u) (src := srcEng (engBlk e)) h.opsLo h.opsHi h.sat h.offJournal
  have hfault (u : State) := rf_bump_apart (s := u) (src := srcEng (engBlk e)) h.faultLo h.faultHi h.sat h.offJournal
  unfold State.engCounted State.raise
  dsimp only
  split <;> split <;>
    simp only [rf_setF_ne _ _ _ _ h.keys, rf_setF_ne _ _ _ _ h.revoked, rf_setF_ne _ _ _ _ h.fault, hops, hfault,
      rf_journal _ _ _ _ _ _ g (show 7 < 8 by decide) h.offJournal]

theorem engDone_uncounted (hb : b < 2) (lo wid : Nat) : Uncounted b ⟨ENG_DONE b, lo, wid⟩ where
  offJournal := .inl (by show ENG_DONE b < _; unfold ENG_DONE; omega)
  opsLo := by unfold ENG_OPS_LO ENG_DONE; dsimp only; omega
  opsHi := by unfold ENG_OPS_HI ENG_DONE; dsimp only; omega
  faultLo := by unfold ENG_FAULT_LO ENG_DONE; dsimp only; omega
  faultHi := by unfold ENG_FAULT_HI ENG_DONE; dsimp only; omega
  sat := .inl (by unfold ENG_EVT_SAT ENG_EVT ENG_DONE; dsimp only; omega)
  fault := .inl (by unfold ENG_EVT_FAULT ENG_EVT ENG_DONE; dsimp only; omega)
  revoked := .inl (by unfold ENG_EVT_REVOKED ENG_EVT ENG_DONE; dsimp only; omega)
  keys := .inl (by unfold KEYS_EVT_REVOKED KEYS_EVT ENG_DONE; dsimp only; omega)

theorem engEvtDone_uncounted (hb : b < 2) : Uncounted b (ENG_EVT_DONE b) where
  offJournal := .inl (by show ENG_EVT b < _; unfold ENG_EVT; omega)
  opsLo := by unfold ENG_OPS_LO ENG_EVT_DONE ENG_EVT; dsimp only; omega
  opsHi := by unfold ENG_OPS_HI ENG_EVT_DONE ENG_EVT; dsimp only; omega
  faultLo := by unfold ENG_FAULT_LO ENG_EVT_DONE ENG_EVT; dsimp only; omega
  faultHi := by unfold ENG_FAULT_HI ENG_EVT_DONE ENG_EVT; dsimp only; omega
  sat := Fld.apart_bits _ 6 1 (by decide)
  fault := Fld.apart_bits _ 4 1 (by decide)
  revoked := Fld.apart_bits _ 5 1 (by decide)
  keys := .inl (by unfold KEYS_EVT_REVOKED KEYS_EVT ENG_EVT_DONE ENG_EVT; dsimp only; omega)

theorem engBlk_lt (e : Nat) : engBlk e < 2 := by unfold engBlk; split <;> decide

/-- The DONE register and the event, once the end of the operation is counted. -/
theorem engCounted_shows (s : State) (he : e < 4) (o : EngOp) (c : Code) :
    let t := (s.engShown e o c).engCounted e c
    rf t (ENG_DONE_STATUS (engBlk e)) = c.val ∧ rf t (ENG_DONE_ENGINE (engBlk e)) = e ∧ mapBit t (ENG_EVT_DONE (engBlk e)) e = true := by
  have hevt (lo wid : Nat) : (ENG_EVT_DONE (engBlk e)).apart ⟨ENG_DONE (engBlk e), lo, wid⟩ :=
    .inl (by unfold ENG_EVT_DONE ENG_EVT ENG_DONE; dsimp only; omega)
  refine ⟨?_, ?_, ?_⟩
  · rw [rf_engCounted (g := ENG_DONE_STATUS (engBlk e)) (engDone_uncounted (engBlk_lt e) 0 8)]
    unfold State.engShown State.setMapBit
    rw [rf_setF_ne _ _ (ENG_DONE_STATUS (engBlk e)) _ (hevt 0 8), rf_setF_ne _ (ENG_DONE_ENGINE (engBlk e)) (ENG_DONE_STATUS (engBlk e)) _ (Fld.apart_bits _ 16 4 (by decide)),
      rf_setF_ne _ (ENG_DONE_OP (engBlk e)) (ENG_DONE_STATUS (engBlk e)) _ (Fld.apart_bits _ 8 8 (by decide)), rf_setF_same _ _ _ (show 0 + 8 ≤ 32 by decide)]
    exact Nat.mod_eq_of_lt c.val_lt
  · rw [rf_engCounted (g := ENG_DONE_ENGINE (engBlk e)) (engDone_uncounted (engBlk_lt e) 16 4)]
    unfold State.engShown State.setMapBit
    rw [rf_setF_ne _ _ (ENG_DONE_ENGINE (engBlk e)) _ (hevt 16 4), rf_setF_same _ _ _ (show 16 + 4 ≤ 32 by decide)]
    exact Nat.mod_eq_of_lt (by show e < 16; omega)
  · rw [mapBit_congr (rf_engCounted (engEvtDone_uncounted (engBlk_lt e)) _ c)]
    exact mapBit_setMapBit_same _ true he (show 0 + 4 ≤ 32 by decide)

/-! A CLEAR_WK that waited ends with the operation (R320). -/

theorem wkOf_setWk_none (s : State) (e : Nat) : wkOf (s.setWk e none) e = none := by
  have hrest : (s.keys.wk.filter (·.1 ≠ e)).find? (·.1 = e) = none := List.find?_eq_none.mpr fun p hp => by
    simpa using (List.mem_filter.mp hp).2
  unfold wkOf State.setWk
  exact congrArg (Option.map _) hrest

theorem clearWk_tcm (s : State) (e : Nat) : ((s.setWk e none).cmdEnd keyIf opCLEAR_WK .ok).tcm = s.tcm := by
  simp [State.setWk]

theorem clearWk_eng (s : State) (e : Nat) : ((s.setWk e none).cmdEnd keyIf opCLEAR_WK .ok).eng = s.eng := by
  simp [State.setWk]

/-- The end of CLEAR_WK leaves the fields of the blocks of the engines but WK_LOADED. -/
theorem rf_clearWk {g : Fld} (hw : (ENG_STAT_WK_LOADED (engBlk e)).apart g) (hblk : ENG_STAT 0 ≤ g.addr) (s : State) :
    rf ((s.setWk e none).cmdEnd keyIf opCLEAR_WK .ok) g = rf s g := by
  have hkeys {f : Fld} (hf : f.addr < ENG_STAT 0) : f.apart g := .inl (by omega)
  unfold State.cmdEnd State.setWk State.setMapBit State.raise
  dsimp only [keyIf]
  rw [rf_setF_ne _ _ _ _ (hkeys (by decide)), rf_setF_ne _ _ _ _ (hkeys (by decide)), rf_setF_ne _ _ _ _ (hkeys (by decide)),
    rf_setF_ne _ _ _ _ (hkeys (by decide)), rf_setF_ne _ _ _ _ hw, rf_setF_ne _ _ _ _ (hkeys (show KEYS_WK < ENG_STAT 0 by decide))]
  rfl

/-! ### The outcome of an operation -/

/-- What the end of an operation shows, whether or not a CLEAR_WK waited for it. -/
theorem engFinish_shows (s : State) (he : e < 4) (o : EngOp) (c : Code) (out : List Byte) :
    let t := s.engFinish e o c out
    engOp t e = none ∧ mapBit t (ENG_STAT_BUSY (engBlk e)) e = false ∧ rf t (ENG_DONE_STATUS (engBlk e)) = c.val
      ∧ rf t (ENG_DONE_ENGINE (engBlk e)) = e ∧ mapBit t (ENG_EVT_DONE (engBlk e)) e = true := by
  obtain ⟨hstatus, hengine, hevt⟩ := engCounted_shows (s.engWritten o c out) he o c
  have hb := engBlk_lt e
  have hstat (x : Fld) (hx : x.addr = ENG_DONE (engBlk e) ∨ x.addr = ENG_EVT (engBlk e)) (lo wid : Nat) :
      (⟨ENG_STAT (engBlk e), lo, wid⟩ : Fld).apart x :=
    .inl (by unfold ENG_DONE ENG_EVT at hx; unfold ENG_STAT; dsimp only; omega)
  have hblk (x : Fld) (hx : x.addr = ENG_STAT (engBlk e) ∨ x.addr = ENG_DONE (engBlk e) ∨ x.addr = ENG_EVT (engBlk e)) :
      ENG_STAT 0 ≤ x.addr := by unfold ENG_STAT ENG_DONE ENG_EVT at *; omega
  rw [engFinish_eq]
  generalize ((s.engWritten o c out).engShown e o c).engCounted e c = u at hstatus hengine hevt
  have hfreed : engOp (u.setEng e none) e = none ∧ mapBit (u.setEng e none) (ENG_STAT_BUSY (engBlk e)) e = false
      ∧ rf (u.setEng e none) (ENG_DONE_STATUS (engBlk e)) = c.val ∧ rf (u.setEng e none) (ENG_DONE_ENGINE (engBlk e)) = e
      ∧ mapBit (u.setEng e none) (ENG_EVT_DONE (engBlk e)) e = true :=
    ⟨engOp_setEng_same _ _ _, busy_setEng _ he _, (rf_setEng _ (hstat _ (.inl rfl) 0 4)).trans hstatus,
      (rf_setEng _ (hstat _ (.inl rfl) 0 4)).trans hengine, (mapBit_congr (rf_setEng _ (hstat _ (.inr rfl) 0 4)) e).trans hevt⟩
  obtain ⟨hop, hbusy, hstatus, hengine, hevt⟩ := hfreed
  split
  · refine ⟨?_, ?_, ?_, ?_, ?_⟩
    · exact (engOp_congr (clearWk_eng _ e) e).trans hop
    · exact (mapBit_congr (rf_clearWk (Fld.apart_bits _ 8 4 (by decide)) (hblk (ENG_STAT_BUSY (engBlk e)) (.inl rfl)) _) e).trans hbusy
    · exact (rf_clearWk (hstat _ (.inl rfl) 8 4) (hblk (ENG_DONE_STATUS (engBlk e)) (.inr (.inl rfl))) _).trans hstatus
    · exact (rf_clearWk (hstat _ (.inl rfl) 8 4) (hblk (ENG_DONE_ENGINE (engBlk e)) (.inr (.inl rfl))) _).trans hengine
    · exact (mapBit_congr (rf_clearWk (hstat _ (.inr rfl) 8 4) (hblk (ENG_EVT_DONE (engBlk e)) (.inr (.inr rfl))) _) e).trans hevt
  · exact ⟨hop, hbusy, hstatus, hengine, hevt⟩

theorem engFinish_tcm (s : State) (e : Nat) (o : EngOp) (c : Code) (out : List Byte) : (s.engFinish e o c out).tcm = (s.engWritten o c out).tcm := by
  have hcounted : (((s.engWritten o c out).engShown e o c).engCounted e c).tcm = (s.engWritten o c out).tcm := engCounted_tcm _ _ _
  rw [engFinish_eq]
  split
  · exact (clearWk_tcm _ e).trans hcounted
  · exact hcounted

theorem engFinish_keys (s : State) (e : Nat) {o : EngOp} (ho : o.clear = false) (c : Code) (out : List Byte) :
    (s.engFinish e o c out).keys = s.keys := by
  rw [engFinish_eq, ho]
  exact (engCounted_keys _ _ _).trans (engWritten_keeps State.keys (fun _ _ _ => rfl) s o c out)

theorem engFinish_clearWk (s : State) (e : Nat) {o : EngOp} (ho : o.clear = true) (c : Code) (out : List Byte) :
    wkOf (s.engFinish e o c out) e = none ∧ rf (s.engFinish e o c out) KEYS_CMD_STAT_LAST_STATUS = 0 := by
  rw [engFinish_eq, ho, if_pos rfl]
  refine ⟨?_, rf_cmdEnd_status _ keyIf_shows _ .ok 0⟩
  have hnone := wkOf_setWk_none ((((s.engWritten o c out).engShown e o c).engCounted e c).setEng e none) e
  unfold wkOf at hnone ⊢
  simp only [Option.map_eq_none_iff] at hnone ⊢
  rw [State.cmdEnd_keys]
  exact hnone

theorem engOp_engFinish_ne {k : Nat} (h : k ≠ e) (s : State) (o : EngOp) (c : Code) (out : List Byte) :
    engOp (s.engFinish e o c out) k = engOp s k := by
  have hcounted : engOp ((((s.engWritten o c out).engShown e o c).engCounted e c).setEng e none) k = engOp s k :=
    (engOp_setEng_ne h _ none).trans (engOp_congr (by simp [engWritten_keeps State.eng (fun _ _ _ => rfl) s o c out]) k)
  rw [engFinish_eq]
  split
  · exact (engOp_congr (clearWk_eng _ e) k).trans hcounted
  · exact hcounted

theorem tcmByte_engWritten (s : State) (o : EngOp) (c : Code) (out : List Byte) :
    tcmByte (s.engWritten o c out) (o.addr + 1) = BitVec.ofNat 8 c.val :=
  (tcmByte_tcmWrite _ (o.addr + 1) 0 _).trans rfl

/-- The end of an operation by a revocation, an ABORT or a pre-check; a revocation goes before an ABORT, as the model decides
(R296, R319; log 102). -/
theorem exec_engDone (s : State) {e : Nat} {o : EngOp} (ho : engOp s e = some o) :
    (o.ends = 0 → o.args = [] → ∀ k, exec (.engDone e k) s = .next (s.engFinish e o .malformed []))
    ∧ (o.ends = 0xE → ∀ k, exec (.engDone e k) s = .next (s.engFinish e o .aborted []))
    ∧ (o.ends = 0xA → ∀ k, exec (.engDone e k) s = .next (s.engFinish e o .keyRevoked []))
    ∧ (o.args ≠ [] → o.ends = 0 → o.pre = 0xB → ∀ k, exec (.engDone e k) s = .next (s.engFinish e o .verifyFail []))
    ∧ (o.args ≠ [] → o.ends = 0 → o.pre = 7 → ∀ k, exec (.engDone e k) s = .next (s.engFinish e o .poisoned []))
    ∧ (o.args ≠ [] → o.ends = 0 → o.pre = 0 →
        (∀ w, exec (.engDone e (w + 2)) s = .next ((s.engUe e w).engFinish e o .poisoned []))
        ∧ exec (.engDone e 1) s = .next (s.engFinish e o .internalFault [])
        ∧ exec (.engDone e 0) s = .next ((engCompute s o).2.engFinish e o (engCompute s o).1.1 (engCompute s o).1.2)) := by
  have hrun (k : Nat) : exec (.engDone e k) s = execEngDone e k s := rfl
  refine ⟨fun h0 ha k => ?_, fun h0 k => ?_, fun h0 k => ?_, fun ha h0 hp k => ?_, fun ha h0 hp k => ?_,
    fun ha h0 hp => ⟨fun w => ?_, ?_, ?_⟩⟩ <;> rw [hrun] <;> simp [execEngDone, Code.val, *]

/-- The outcomes of the operations (R310, R313, R314). -/
theorem engCompute_outcomes (s : State) {o : EngOp} {x y z w : List Byte} (h : o.args = [x, y, z, w]) :
    (dscOp o.desc = 0x01 → engCompute s o = ((.ok, leBytes (4 * dscLen o.desc) ((leNat x + leNat y) % leNat z)), s))
    ∧ (dscOp o.desc = 0x03 → engCompute s o = ((.ok, leBytes (4 * dscLen o.desc) (leNat x * leNat y % leNat z)), s))
    ∧ (dscOp o.desc = 0x38 → engCompute s o = ((.ok, sha384 x), s))
    ∧ (dscOp o.desc = 0x11 → (engCompute s o).1.1 = if ecdsaVerify (dscCurve o.desc) y x z then .ok else .verifyFail)
    ∧ (dscOp o.desc = 0x22 → (engCompute s o).1.1 = if Config.lmsVerify x z y then .ok else .verifyFail) := by
  refine ⟨fun hop => ?_, fun hop => ?_, fun hop => ?_, fun hop => ?_, fun hop => ?_⟩ <;> unfold engCompute <;> simp only [hop, h] <;> rfl

theorem exec_engAbort (s : State) (hb : engInBlk b e = true) :
    exec (.engAbort b e) s = .next (if engBusy s e then (s.engStop e .aborted).engEnd b e .ok 0 else s.engEnd b e .refusedState 0) := by
  show execEngAbort b e s = _
  unfold execEngAbort
  rw [hb]
  rfl

/-- Settles O42. -/
theorem enginesRunOperations : Obligations.EnginesRunOperations := by
  unfold Obligations.EnginesRunOperations
  rintro s b e a - he rfl
  have hplaced (h1 : engInBlk b e = true) (h2 : rf s (ENG_CMD_ADDR_ADDR b) % 4 = 0) (h3 : tcmFree s (rf s (ENG_CMD_ADDR_ADDR b)) 32 = true) :
      dscPlaced s b e = true := by simp [dscPlaced, h1, h2, h3]
  refine ⟨fun h1 h2 h3 hq => ⟨fun hr => ?_, fun ms hr => ?_⟩, fun h1 h2 h3 hq => ?_, fun h => ?_, fun o hin ho => ?_, fun hin hb => ?_,
    fun o c out => ?_, fun o ho => exec_engDone s ho, fun o x y z w h => engCompute_outcomes s h⟩
  · refine ⟨_, exec_engStart_accepted (hplaced h1 h2 h3) hr hq, (engOp_congr (State.engEnd_eng _ _ _ _ _) e).trans (engOp_setEng_same _ _ _), ?_, 
      engEnd_status _ _ _ .ok _, engEnd_engine _ _ he _ _, rfl, rfl,
      fun k hk => (engOp_congr (State.engEnd_eng _ _ _ _ _) k).trans (engOp_setEng_ne hk _ _)⟩
    exact (engEnd_busy _ _ _ _ _ _ _).trans (busy_setEng s he _)
  · refine ⟨_, exec_engStart_busy (hplaced h1 h2 h3) (by rw [hr]; rfl), engEnd_status _ _ _ .busyRetry _, ?_, State.delay_eng _ _ _⟩
    rw [engEnd_result, hr, delay_fst_some hq]
    omega
  · refine ⟨_, exec_engStart_busy (hplaced h1 h2 h3) (by rw [hq, Bool.or_true]), engEnd_status _ _ _ .busyRetry _, ?_, State.delay_eng _ _ _⟩
    rw [engEnd_result, delay_fst_early hq]
  · have hmis : dscPlaced s b e = false := by
      unfold dscPlaced
      rcases h with h | h | h <;> simp [h]
    exact ⟨_, exec_engStart_misplaced hmis, engEnd_status _ _ _ .malformed _, rfl, rfl⟩
  · have hbusy : engBusy s e = true := by rw [engBusy, ho]; rfl
    refine ⟨_, (exec_engAbort s hin).trans (by rw [if_pos hbusy]), ?_, engEnd_status _ _ _ .ok _, State.engStop_tcm _ _ _⟩
    exact engOp_engStop ho .aborted
  · exact ⟨_, (exec_engAbort s hin).trans (by rw [hb]; rfl), engEnd_status _ _ _ .refusedState _, rfl⟩
  · obtain ⟨hop, hfree, hstatus, hengine, hevt⟩ := engFinish_shows s he o c out
    refine ⟨hop, hfree, hstatus, hengine, hevt, ?_, fun hc => engFinish_keys s e hc c out, fun hc => engFinish_clearWk s e hc c out,
      fun k hk => engOp_engFinish_ne hk s o c out, ?_, ?_, ?_⟩
    · rw [tcmByte, engFinish_tcm]
      exact tcmByte_engWritten s o c out
    all_goals
      rintro rfl
      exact engFinish_tcm s e o _ out

end Sys2Proof.Machine
end

section
/-! The generator's operations (O43): what the registers show after the selection of sources, a flush, a reseed and the outcome of a command
leave them (R322 to R336). -/

namespace Sys2Proof.Machine

variable {s : State} {k : Nat} {g : Fld}

/-! ### What the generator's operations leave -/

theorem rf_showRng (halarm : RNG_EVT_ALARM.apart g) (hcond : RNG_STAT_CONDITIONING.apart g) (hspare : SYSCTL_SPARE_STAT_NOISE_SPARE.apart g)
    (hqueue : RNG_STAT_QUEUE.apart g) (s : State) : rf s.showRng g = rf s g := by
  unfold State.showRng State.setB State.raise
  dsimp only
  rw [rf_setF_ne _ _ _ _ hqueue, rf_setF_ne _ _ _ _ hspare, rf_setF_ne _ _ _ _ hcond]
  split
  · exact rf_setF_ne _ _ _ _ halarm
  · rfl

/-- SRC_ALLOW holds back the SPARE source that the selection comes to first (R326). -/
def State.heldBack (s : State) : State :=
  match nextSpare s with
  | some k => if srcAllowed s k then s else s.selClamp k
  | none => s

theorem selectSource_eq (s : State) : s.selectSource = match nextSource s.heldBack with
    | some _ => s.heldBack.bringIn
    | none => if spareTests s.heldBack then s.heldBack.modRng fun r => { r with places := r.places + 1 }
      else s.heldBack.spareLow SYSCTL_SPARE_EVT_NOISE_USED.lo noUnit := rfl

/-- A field that the selection of sources, a flush, the records of both and the counters of the generator leave as it is. -/
structure Unselected (g : Fld) : Prop where
  offJournal : offJournal g.addr
  low : RNG_CLAMP_LO ≠ g.addr
  high : RNG_CLAMP_HI ≠ g.addr
  sat : RNG_EVT_SAT.apart g
  clamp : RNG_EVT_SEL_CLAMP.apart g
  alarm : RNG_EVT_ALARM.apart g
  flushed : RNG_EVT_FLUSHED_EVT.apart g
  conditioning : RNG_STAT_CONDITIONING.apart g
  queue : RNG_STAT_QUEUE.apart g
  word : RNG_OUT_STAT_WORD.apart g
  spare : SYSCTL_SPARE_STAT_NOISE_SPARE.apart g
  used : SYSCTL_SPARE_EVT_NOISE_USED.apart g
  least : SYSCTL_SPARE_EVT_SPARE_LOW.apart g

namespace Unselected

theorem showRng (h : Unselected g) (s : State) : rf s.showRng g = rf s g := rf_showRng h.alarm h.conditioning h.spare h.queue s

theorem rngFlush (h : Unselected g) (s : State) : rf s.rngFlush g = rf s g := by
  unfold State.rngFlush State.raise
  rw [rf_setF_ne _ _ _ _ h.flushed, h.showRng, rf_setF_ne _ _ _ _ h.word, rf_modRng]

theorem selClamp (h : Unselected g) (s : State) (u : Nat) : rf (s.selClamp u) g = rf s g := by
  unfold State.selClamp State.bumpClamp State.raise
  rw [rf_journal _ _ _ _ _ _ _ (by decide) h.offJournal, rf_setF_ne _ _ _ _ h.clamp, rf_bump_apart _ h.low h.high h.sat h.offJournal]

theorem spareUsed (h : Unselected g) (s : State) (u : Nat) (last : Bool) : rf (s.spareUsed SYSCTL_SPARE_EVT_NOISE_USED u last) g = rf s g :=
  rf_spareUsed _ u last h.used h.least h.offJournal

theorem spareLow (h : Unselected g) (s : State) (p u : Nat) : rf (s.spareLow p u) g = rf s g := rf_spareLow _ p u h.least h.offJournal

/-- The source that comes in is a SPARE one: every field but its STATE stays. -/
theorem bringIn (h : Unselected g) (hsrc : ∀ i, srcState s i = srcSPARE → i < 4 → (RNG_SRC_STAT_STATE i).apart g) : rf s.bringIn g = rf s g := by
  unfold State.bringIn
  split
  · rename_i i hi
    have hlt : i < 4 := List.mem_range.mp (List.mem_of_find?_eq_some hi)
    have hspare : srcState s i = srcSPARE := by
      have := List.find?_some hi
      simp only [Bool.and_eq_true, decide_eq_true_eq] at this
      exact this.1.1
    dsimp only
    rw [h.spareUsed, rf_setF_ne _ _ _ _ (hsrc i hspare hlt)]
  · rfl

theorem heldBack (h : Unselected g) (s : State) : rf s.heldBack g = rf s g := by
  unfold State.heldBack
  split
  · split
    · rfl
    · exact h.selClamp _ _
  · rfl

theorem selectSource (h : Unselected g) (hsrc : ∀ i, srcState s i = srcSPARE → i < 4 → (RNG_SRC_STAT_STATE i).apart g)
    (hself : ∀ i, Unselected (RNG_SRC_STAT_STATE i)) : rf s.selectSource g = rf s g := by
  rw [selectSource_eq]
  split
  · exact (h.bringIn fun i hi => hsrc i (((hself i).heldBack s).symm.trans hi)).trans (h.heldBack s)
  · split
    · exact h.heldBack s
    · exact (h.spareLow _ _ _).trans (h.heldBack s)

end Unselected

theorem srcStat_unselected (lo wid : Nat) : Unselected ⟨RNG_SRC_STAT, lo, wid⟩ where
  offJournal := .inl (by show RNG_SRC_STAT < _; decide)
  low := by show RNG_CLAMP_LO ≠ RNG_SRC_STAT; decide
  high := by show RNG_CLAMP_HI ≠ RNG_SRC_STAT; decide
  sat := .inl (by show RNG_EVT ≠ RNG_SRC_STAT; decide)
  clamp := .inl (by show RNG_EVT ≠ RNG_SRC_STAT; decide)
  alarm := .inl (by show RNG_EVT ≠ RNG_SRC_STAT; decide)
  flushed := .inl (by show RNG_EVT ≠ RNG_SRC_STAT; decide)
  conditioning := .inl (by show RNG_STAT ≠ RNG_SRC_STAT; decide)
  queue := .inl (by show RNG_STAT ≠ RNG_SRC_STAT; decide)
  word := .inl (by show RNG_OUT_STAT ≠ RNG_SRC_STAT; decide)
  spare := .inl (by show SYSCTL_SPARE_STAT ≠ RNG_SRC_STAT; decide)
  used := .inl (by show SYSCTL_SPARE_EVT ≠ RNG_SRC_STAT; decide)
  least := .inl (by show SYSCTL_SPARE_EVT ≠ RNG_SRC_STAT; decide)

theorem retired_unselected : Unselected RNG_EVT_RETIRED := ⟨.inl (by decide), by decide, by decide, by decide, by decide, by decide, by decide,
  by decide, by decide, by decide, by decide, by decide, by decide⟩

theorem healthFail_unselected : Unselected RNG_EVT_HEALTH_FAIL := ⟨.inl (by decide), by decide, by decide, by decide, by decide, by decide,
  by decide, by decide, by decide, by decide, by decide, by decide, by decide⟩

/-! ### The fields of the sources -/

theorem srcState_unselected (k : Nat) : Unselected (RNG_SRC_STAT_STATE k) := srcStat_unselected _ _
theorem srcFails_unselected (k : Nat) : Unselected (RNG_SRC_STAT_FAILS k) := srcStat_unselected _ _

theorem srcState_setF (hk : k < 4) (s : State) (v : Nat) : srcState (s.setF (RNG_SRC_STAT_STATE k) v) k = v % 8 :=
  rf_setF_same _ _ _ (by show 5 + 8 * k + 3 ≤ 32; omega)

theorem state_apart_fails (i : Nat) (hk : k < 4) : (RNG_SRC_STAT_STATE i).apart (RNG_SRC_STAT_FAILS k) :=
  .inr (by show (3 + 8 * k + 2 ≤ 5 + 8 * i ∨ 5 + 8 * i + 3 ≤ 3 + 8 * k) ∧ 3 + 8 * k + 2 ≤ 32; omega)

theorem state_apart_state {i : Nat} (h : i ≠ k) (hk : k < 4) : (RNG_SRC_STAT_STATE i).apart (RNG_SRC_STAT_STATE k) :=
  .inr (by show (5 + 8 * k + 3 ≤ 5 + 8 * i ∨ 5 + 8 * i + 3 ≤ 5 + 8 * k) ∧ 5 + 8 * k + 3 ≤ 32; omega)

theorem fails_apart_state (i : Nat) (hk : k < 4) : (RNG_SRC_STAT_FAILS i).apart (RNG_SRC_STAT_STATE k) :=
  .inr (by show (5 + 8 * k + 3 ≤ 3 + 8 * i ∨ 3 + 8 * i + 2 ≤ 5 + 8 * k) ∧ 5 + 8 * k + 3 ≤ 32; omega)

theorem lost_apart_state (i : Nat) (hk : k < 4) : (RNG_SRC_STAT_RAW_LOST i).apart (RNG_SRC_STAT_STATE k) :=
  .inr (by show (5 + 8 * k + 3 ≤ 2 + 8 * i ∨ 2 + 8 * i + 1 ≤ 5 + 8 * k) ∧ 5 + 8 * k + 3 ≤ 32; omega)

theorem lost_apart_fails (i : Nat) (hk : k < 4) : (RNG_SRC_STAT_RAW_LOST i).apart (RNG_SRC_STAT_FAILS k) :=
  .inr (by show (3 + 8 * k + 2 ≤ 2 + 8 * i ∨ 2 + 8 * i + 1 ≤ 3 + 8 * k) ∧ 3 + 8 * k + 2 ≤ 32; omega)

/-- An event of the generator is not a field of its sources. -/
theorem rngEvt_apart_src {f : Fld} (hf : f.addr = RNG_EVT) (lo wid : Nat) : f.apart ⟨RNG_SRC_STAT, lo, wid⟩ :=
  .inl (by rw [hf]; show RNG_EVT ≠ RNG_SRC_STAT; decide)

end Sys2Proof.Machine
end

section
/-! The sources of the generator (O43): their start-up tests and the failures of their health tests (R322 to R326), the bits that pass both
tests, and the seeds made from them (R324, R327, R328). -/

namespace Sys2Proof.Machine

variable {s : State} {k : Nat} {g : Fld}

theorem rb_of_rf {t : State} (h : rf t g = rf s g) : rb t g = rb s g := congrArg (· != 0) h

theorem bit_setBits (v i : Nat) (b : Bool) : (setBits v i 1 b.toNat).testBit i = b := by
  rw [setBits_testBit, if_pos ⟨Nat.le_refl i, Nat.lt_succ_self i⟩, Nat.sub_self]
  cases b <;> rfl

/-! ### Start-up tests (R322, R325) -/

theorem exec_startupPass_failed {bs : List Bool} (h : startupOk bs = false) : exec (.sourceStartupPass k bs) s = .next s := by
  show execSourceStartupPass k bs s = _
  simp [execSourceStartupPass, h]

theorem exec_startupPass_retest (hk : k < 4) {bs : List Bool} (h : startupOk bs = true) (hst : srcState s k = srcRETEST)
    (hback : s.rng.former.testBit k = false ∨ srcAllowed s k = true) : exec (.sourceStartupPass k bs) s =
      .next (s.setF (RNG_SRC_STAT_STATE k) (if s.rng.former.testBit k then srcACTIVE else srcSPARE)).showRng := by
  show execSourceStartupPass k bs s = _
  cases hf : s.rng.former.testBit k with
  | false => simp [execSourceStartupPass, h, hst, hf, hk, srcRETEST, srcSPARE]
  | true =>
    have hallow : srcAllowed s k = true := hback.resolve_left (by simp [hf])
    simp [execSourceStartupPass, h, hst, hf, hk, hallow, srcRETEST, srcSPARE]

theorem exec_startupPass_fresh (hk : k < 2) {bs : List Bool} (h : startupOk bs = true) (hfresh : srcFresh s k = true)
    (hst : srcState s k = srcSPARE) (hallow : srcAllowed s k = true) : exec (.sourceStartupPass k bs) s =
      .next ((s.modRng fun r => { r with fresh := setBits r.fresh k 1 0 }).setF (RNG_SRC_STAT_STATE k) srcACTIVE).showRng := by
  have hallow' : srcAllowed (s.modRng fun r => { r with fresh := setBits r.fresh k 1 0 }) k = true := hallow
  show execSourceStartupPass k bs s = _
  simp [execSourceStartupPass, h, hfresh, hst, hallow', hk, show ¬ 4 ≤ k by omega]

/-! ### Failures of health tests (R325) -/

/-- A second failure within the span. -/
def healthAgain (s : State) (k : Nat) : Bool := rf s (RNG_SRC_STAT_FAILS k) ≠ 0 && s.usec < s.rng.firstAt.getD k 0 + failSpan

/-- What every failure notes before the source leaves its place. -/
def State.healthNoted (s : State) (k tst : Nat) : State :=
  let u := if healthAgain s k then s.setF (RNG_SRC_STAT_FAILS k) 2
    else (s.setF (RNG_SRC_STAT_FAILS k) 1).modRng fun r => { r with firstAt := setAt r.firstAt k s.usec }
  (((u.dropWindow k).bump RNG_HEALTH_LO RNG_HEALTH_HI RNG_EVT_SAT srcRNG).raise RNG_EVT_HEALTH_FAIL).journalD 7 325 srcRNG k 0 0
    [BitVec.ofNat 8 tst, BitVec.ofNat 8 (if srcFresh s k || healthAgain s k then srcFAILED else srcRETEST)]

/-- The source was ACTIVE when its test failed, or in its start-up test on the way back. -/
def activeBefore (s u : State) (k : Nat) : Bool := srcState s k = srcACTIVE || (srcState s k = srcRETEST && u.rng.former.testBit k)

theorem sourceFail_eq (s : State) (k tst : Nat) : s.sourceFail k tst = s.sameCycle fun s => let u := s.healthNoted k tst
    if srcFresh s k then ((u.modRng fun r => { r with fresh := setBits r.fresh k 1 0 }).retireSource k (k < 2)).showRng
    else if healthAgain s k then (u.retireSource k (activeBefore s u k)).showRng
    else if srcState s k = srcTEST then u
    else ((u.setF (RNG_SRC_STAT_STATE k) srcRETEST).modRng fun r =>
      { r with former := setBits r.former k 1 (activeBefore s u k).toNat }).showRng := rfl

theorem sameCycle_congr {f h : State → State} (e : f s = h s) : s.sameCycle f = s.sameCycle h := by
  unfold State.sameCycle
  rw [e]

theorem activeBefore_active (hst : srcState s k = srcACTIVE) (u : State) : activeBefore s u k = true := by
  unfold activeBefore
  rw [hst]
  rfl

theorem sourceFail_first (hst : srcState s k = srcACTIVE) (hf : srcFresh s k = false) (ha : healthAgain s k = false) (tst : Nat) :
    s.sourceFail k tst = s.sameCycle fun s => (((s.healthNoted k tst).setF (RNG_SRC_STAT_STATE k) srcRETEST).modRng fun r =>
      { r with former := setBits r.former k 1 true.toNat }).showRng := by
  rw [sourceFail_eq]
  refine sameCycle_congr ?_
  dsimp only
  rw [hf, ha, activeBefore_active hst, if_neg (by decide), if_neg (by decide), if_neg (by rw [hst]; decide)]

theorem sourceFail_again (hst : srcState s k = srcACTIVE) (hf : srcFresh s k = false) (ha : healthAgain s k = true) (tst : Nat) :
    s.sourceFail k tst = s.sameCycle fun s => ((s.healthNoted k tst).retireSource k true).showRng := by
  rw [sourceFail_eq]
  refine sameCycle_congr ?_
  dsimp only
  rw [hf, ha, activeBefore_active hst, if_neg (by decide), if_pos rfl]

theorem healthNoted_rng (s : State) (k tst : Nat) : (s.healthNoted k tst).rng.former = s.rng.former
    ∧ (s.healthNoted k tst).rng.queue = s.rng.queue ∧ noiseOf (s.healthNoted k tst) k = (noiseOf s k).drop := by
  have hrng : (s.healthNoted k tst).rng = ((if healthAgain s k then s.setF (RNG_SRC_STAT_FAILS k) 2
      else (s.setF (RNG_SRC_STAT_FAILS k) 1).modRng fun r => { r with firstAt := setAt r.firstAt k s.usec }).dropWindow k).rng := by
    unfold State.healthNoted State.bump
    rw [State.journalD_rng, State.raise, State.setF_rng, State.bumpN_rng]
  unfold noiseOf
  rw [hrng]
  split <;> exact ⟨rfl, rfl, (Sparse.get_put _ _ _ _ _).trans (if_pos rfl)⟩

theorem rf_healthNoted (hj : offJournal g.addr) (hlo : RNG_HEALTH_LO ≠ g.addr) (hhi : RNG_HEALTH_HI ≠ g.addr) (hsat : RNG_EVT_SAT.apart g)
    (hevt : RNG_EVT_HEALTH_FAIL.apart g) (s : State) (k tst : Nat) : rf (s.healthNoted k tst) g =
      rf (s.setF (RNG_SRC_STAT_FAILS k) (if healthAgain s k then 2 else 1)) g := by
  unfold State.healthNoted State.raise
  dsimp only
  rw [rf_journalD _ _ _ _ _ _ _ _ _ (by decide) hj, rf_setF_ne _ _ _ _ hevt, rf_bump_apart _ hlo hhi hsat hj]
  split <;> rfl

theorem rf_healthNoted_src (lo wid : Nat) (s : State) (k tst : Nat) : rf (s.healthNoted k tst) ⟨RNG_SRC_STAT, lo, wid⟩ =
    rf (s.setF (RNG_SRC_STAT_FAILS k) (if healthAgain s k then 2 else 1)) ⟨RNG_SRC_STAT, lo, wid⟩ :=
  rf_healthNoted (.inl (by show RNG_SRC_STAT < _; decide)) (by show RNG_HEALTH_LO ≠ RNG_SRC_STAT; decide)
    (by show RNG_HEALTH_HI ≠ RNG_SRC_STAT; decide) (rngEvt_apart_src rfl _ _) (rngEvt_apart_src rfl _ _) s k tst

theorem healthNoted_evt (s : State) (k tst : Nat) : rb (s.healthNoted k tst) RNG_EVT_HEALTH_FAIL = true := by
  unfold State.healthNoted
  rw [rb_journalD _ _ _ _ _ _ _ _ _ (by decide) (.inl (by decide))]
  exact rb_raise_same _ rfl (by decide)

theorem rf_sameCycle (s : State) (f : State → State) (g : Fld) : rf (s.sameCycle f) g = rf (f s) g := rfl

/-- A source goes to RETEST, and its former place is remembered. -/
theorem toRetest_shows (hk : k < 4) (u : State) :
    let t := ((u.setF (RNG_SRC_STAT_STATE k) srcRETEST).modRng fun r => { r with former := setBits r.former k 1 true.toNat }).showRng
    srcState t k = srcRETEST ∧ t.rng = { u.rng with former := setBits u.rng.former k 1 true.toNat }
      ∧ rf t (RNG_SRC_STAT_FAILS k) = rf u (RNG_SRC_STAT_FAILS k) ∧ rf t RNG_EVT_HEALTH_FAIL = rf u RNG_EVT_HEALTH_FAIL := by
  dsimp only
  rw [srcState, (srcState_unselected k).showRng, (srcFails_unselected k).showRng, healthFail_unselected.showRng, State.showRng_rng]
  simp only [rf_modRng]
  exact ⟨srcState_setF hk u srcRETEST, rfl, rf_setF_ne _ _ _ _ (state_apart_fails k hk),
    rf_setF_ne _ _ _ _ (.inl (by show RNG_SRC_STAT ≠ RNG_EVT; decide))⟩

/-- A first failure takes an ACTIVE source to RETEST. -/
theorem sourceFail_first_shows (hk : k < 4) (hst : srcState s k = srcACTIVE) (hf : srcFresh s k = false) (ha : healthAgain s k = false)
    (tst : Nat) : let t := s.sourceFail k tst
    srcState t k = srcRETEST ∧ t.rng.former.testBit k = true ∧ rf t (RNG_SRC_STAT_FAILS k) = 1 ∧ rb t RNG_EVT_HEALTH_FAIL = true
      ∧ t.rng.queue = s.rng.queue ∧ noiseOf t k = (noiseOf s k).drop := by
  obtain ⟨-, hqueue, hnoise⟩ := healthNoted_rng s k tst
  obtain ⟨hstate, hrng, hfails, hevt⟩ := toRetest_shows hk (s.healthNoted k tst)
  dsimp only
  rw [sourceFail_first hst hf ha, srcState, rb, noiseOf, rf_sameCycle, rf_sameCycle, rf_sameCycle, State.sameCycle_rng, hrng, hfails, hevt]
  refine ⟨hstate, bit_setBits _ _ _, ?_, healthNoted_evt s k tst, hqueue, hnoise⟩
  refine (rf_healthNoted_src _ _ _ _ _).trans ?_
  rw [ha]
  exact rf_setF_same _ _ _ (by show 3 + 8 * k + 2 ≤ 32; omega)

/-- A source that is retired is FAILED, whatever the selection brings in for it (R325, R326). -/
theorem retireSource_shows (hk : k < 4) (s : State) :
    srcState (s.retireSource k true) k = srcFAILED ∧ rb (s.retireSource k true) RNG_EVT_RETIRED = true := by
  have hfailed : ∃ u : State, s.retireSource k true = u.selectSource ∧ srcState u k = srcFAILED ∧ rb u RNG_EVT_RETIRED = true := by
    have hstate : srcState ((s.setF (RNG_SRC_STAT_STATE k) srcFAILED).raise RNG_EVT_RETIRED) k = srcFAILED :=
      (rf_setF_ne _ _ _ _ (rngEvt_apart_src rfl _ _)).trans (srcState_setF hk _ _)
    have hevt : rb ((s.setF (RNG_SRC_STAT_STATE k) srcFAILED).raise RNG_EVT_RETIRED) RNG_EVT_RETIRED = true := rb_raise_same _ rfl (by decide)
    refine ⟨_, rfl, ?_, ?_⟩ <;> split
    · exact ((srcState_unselected k).rngFlush _).trans hstate
    · exact hstate
    · exact (rb_of_rf (retired_unselected.rngFlush _)).trans hevt
    · exact hevt
  obtain ⟨u, hu, hstate, hevt⟩ := hfailed
  rw [hu]
  have hother (i : Nat) (hi : srcState u i = srcSPARE) : i ≠ k := by
    rintro rfl
    exact absurd (hi.symm.trans hstate) (by decide)
  exact ⟨((srcState_unselected k).selectSource (fun i hi _ => state_apart_state (hother i hi) hk) srcState_unselected).trans hstate,
    (rb_of_rf (retired_unselected.selectSource (fun i _ _ => .inl (by show RNG_SRC_STAT ≠ RNG_EVT; decide)) srcState_unselected)).trans hevt⟩

/-- A second failure within the span retires it. -/
theorem sourceFail_again_shows (hk : k < 4) (hst : srcState s k = srcACTIVE) (hf : srcFresh s k = false) (ha : healthAgain s k = true)
    (tst : Nat) : srcState (s.sourceFail k tst) k = srcFAILED ∧ rb (s.sourceFail k tst) RNG_EVT_RETIRED = true := by
  obtain ⟨hstate, hevt⟩ := retireSource_shows hk (s.healthNoted k tst)
  rw [sourceFail_again hst hf ha]
  exact ⟨((srcState_unselected k).showRng _).trans hstate, (rb_of_rf (retired_unselected.showRng _)).trans hevt⟩

/-! ### Bits on their way through the tests -/

theorem rawIn_rng (s : State) (k : Nat) (bs : List Bool) : (s.rawIn k bs).rng =
    if s.rng.test = some k && !s.rng.pattern then { s.rng with raw := (s.rng.raw ++ bs).take 8192 } else s.rng := by
  unfold State.rawIn State.when
  split
  · dsimp only
    split <;> rfl
  · rfl

theorem rf_rawIn (h : (RNG_SRC_STAT_RAW_LOST k).apart g) (s : State) (bs : List Bool) : rf (s.rawIn k bs) g = rf s g := by
  unfold State.rawIn
  split
  · rw [rf_modRng]
    exact State.when_keeps (rf · g) _ _ (fun _ => rf_setF_ne _ _ _ _ h) s
  · rfl

theorem rawIn_usec (s : State) (k : Nat) (bs : List Bool) : (s.rawIn k bs).usec = s.usec := by
  unfold State.rawIn
  split
  · dsimp only
    rw [State.modRng_usec]
    exact State.when_keeps State.usec _ _ (fun _ => State.setF_usec _ _ _) s
  · rfl

theorem exec_healthFail_bits (hk : k < 4) (hst : srcState s k = srcACTIVE) (bs : List Bool) :
    exec (.healthFail k bs) s = .next (s.sourceBits k bs) := by
  show execHealthFail k bs s = _
  simp [execHealthFail, hst, hk, srcACTIVE, srcFAILED, srcTEST]

theorem noiseOf_setNoise (s : State) (k : Nat) (x : NoiseBits) : noiseOf (s.setNoise k x) k = x :=
  (Sparse.get_put _ _ _ _ _).trans (if_pos rfl)

/-- The state in which a health test of source `k` fails: its bits have run and reached the raw buffer. -/
structure BitsRun (s u : State) (k : Nat) (x : NoiseBits) : Prop where
  state : srcState u k = srcState s k
  fresh : srcFresh u k = srcFresh s k
  fails : rf u (RNG_SRC_STAT_FAILS k) = rf s (RNG_SRC_STAT_FAILS k)
  again : healthAgain u k = healthAgain s k
  queue : u.rng.queue = s.rng.queue
  noise : noiseOf u k = x

theorem bitsRun (hk : k < 4) (s : State) (x : NoiseBits) (bs : List Bool) : BitsRun s ((s.setNoise k x).rawIn k bs) k x := by
  have hfails : rf ((s.setNoise k x).rawIn k bs) (RNG_SRC_STAT_FAILS k) = rf s (RNG_SRC_STAT_FAILS k) := rf_rawIn (lost_apart_fails k hk) _ _
  have hrng := rawIn_rng (s.setNoise k x) k bs
  have hkept {β : Type} (f : Rng → β) (hraw : ∀ r l, f { r with raw := l } = f r) :
      f ((s.setNoise k x).rawIn k bs).rng = f (s.setNoise k x).rng := by
    rw [hrng]
    split
    · exact hraw _ _
    · rfl
  refine ⟨rf_rawIn (lost_apart_state k hk) _ _, hkept (fun r => r.fresh.testBit k) (fun _ _ => rfl), hfails, ?_,
    hkept (·.queue) (fun _ _ => rfl), ?_⟩
  · unfold healthAgain
    rw [hfails, rawIn_usec, hkept (fun r => r.firstAt.getD k 0) fun _ _ => rfl]
    rfl
  · exact (hkept (fun r => Sparse.get (fun _ => NoiseBits.start) r.noise k) fun _ _ => rfl).trans (noiseOf_setNoise s k x)

theorem sourceBits_failed {bs : List Bool} {x : NoiseBits} {f : Nat} (h : (noiseOf s k).feed bs (taken s k) = (x, some f)) :
    s.sourceBits k bs = ((s.setNoise k x).rawIn k bs).sourceFail k f := by
  unfold State.sourceBits
  rw [h]

theorem sourceBits_passed {bs : List Bool} {x : NoiseBits} (h : (noiseOf s k).feed bs (taken s k) = (x, none)) :
    s.sourceBits k bs = (s.setNoise k x).rawIn k bs := by
  unfold State.sourceBits
  rw [h]

/-- A window that is not yet full stays open, and a full one hands its bits on (R324). -/
theorem close_push (x : NoiseBits) (b tk : Bool) :
    (x.win < 1023 → (x.push b tk).close.win = x.win + 1 ∧ (x.push b tk).close.buf = x.buf)
    ∧ (x.win = 1023 → (x.push b tk).close.win = 0 ∧ (x.push b tk).close.fed = [] ∧ (x.push b tk).close.buf = x.buf ++ (x.push b tk).fed.reverse) := by
  have hwin : (x.push b tk).win = x.win + 1 := rfl
  constructor <;> intro h <;> unfold NoiseBits.close
  · rw [if_pos (by omega)]
    exact ⟨hwin, rfl⟩
  · rw [if_neg (by omega)]
    exact ⟨rfl, rfl, rfl⟩

/-- The repetition count test trips on the 81st identical bit (R323). -/
theorem feed_identical (b tk : Bool) : (NoiseBits.start.feed (List.replicate 81 b) tk).2 = some 0
    ∧ (NoiseBits.start.feed (List.replicate 80 b) tk).2 = none := by
  cases b <;> cases tk <;> decide

/-! ### Seeds (R327, R328, R330) -/

theorem takeSeed_keeps {β : Type} (f : State → β) (h : ∀ s k x, f (State.setNoise s k x) = f s) (s : State) : f s.takeSeed = f s := by
  unfold State.takeSeed
  exact State.each_keeps f _ _ (fun _ _ => h _ _ _) s

/-- A seed that completes during a stretch ends it. -/
theorem stretch_ends (u : State) : let t := ((u.takeSeed.raise RNG_STAT_SEED_BUF).modRng fun r => { r with seed := seedOf u }).doReseed
    drbgState t = drREADY ∧ rb t RNG_STAT_SEED_BUF = false ∧ t.rng.since = 0 ∧ t.rng.drbg = Config.drbgReseed u.rng.drbg (seedOf u) := by
  have hrng (v : State) : v.doReseed.rng = { v.rng with since := 0, asked := false, seed := [], drbg := Config.drbgReseed v.rng.drbg v.rng.seed } := by
    simp [State.doReseed, State.modRng]
  refine ⟨drbgState_doReseed _, ?_, ?_, ?_⟩
  · refine (rb_of_rf (rf_doReseed _ rfl)).trans ((rb_setF_ne _ _ _ _ (by decide)).trans (rb_setF_zero _ (by decide)))
  · rw [hrng]
  · rw [hrng]
    exact congrArg (Config.drbgReseed · (seedOf u)) (takeSeed_keeps (fun s => s.rng.drbg) (fun _ _ _ => rfl) u)

theorem exec_seedReady {n : List (List Bool)} (hfull : seedFull (s.noiseIn n) = true) : exec (.seedReady n) s =
    .next (if rb (s.noiseIn n) RNG_STAT_SEED_BUF then (s.noiseIn n).takeSeed
      else if drbgState (s.noiseIn n) = drSTRETCHED then
        (((s.noiseIn n).takeSeed.raise RNG_STAT_SEED_BUF).modRng fun r => { r with seed := seedOf (s.noiseIn n) }).doReseed
      else ((s.noiseIn n).takeSeed.raise RNG_STAT_SEED_BUF).modRng fun r => { r with seed := seedOf (s.noiseIn n) }) := by
  have hbuf : rb (s.noiseIn n).takeSeed RNG_STAT_SEED_BUF = rb (s.noiseIn n) RNG_STAT_SEED_BUF :=
    takeSeed_keeps (fun s => rb s RNG_STAT_SEED_BUF) (fun _ _ _ => rfl) _
  have hstate : drbgState (((s.noiseIn n).takeSeed.raise RNG_STAT_SEED_BUF).modRng fun r => { r with seed := seedOf (s.noiseIn n) })
      = drbgState (s.noiseIn n) :=
    (rf_setF_ne _ RNG_STAT_SEED_BUF RNG_STAT_DRBG _ (by decide)).trans (takeSeed_keeps drbgState (fun _ _ _ => rfl) _)
  show execSeedReady n s = _
  unfold execSeedReady
  simp only [hfull, hbuf, hstate, Bool.not_true, Bool.false_eq_true, if_false]

end Sys2Proof.Machine
end

section
/-! The generator's DRBG, its commands and its reads (O43; R329 to R336). -/

namespace Sys2Proof.Machine

variable {s : State} {k : Nat} {g : Fld}

/-! ### The DRBG (R329, R330) -/

/-- An uncovered fault shows in SYSCTL alone. -/
theorem rf_uncovered (hf : SYSCTL_FAULT ≠ g.addr) (hp : SYSCTL_PIN_STAT ≠ g.addr) (hj : offJournal g.addr) (s : State) (c u : Nat) :
    rf (s.uncovered c u) g = rf s g := by
  unfold State.uncovered State.assertFault State.raise
  dsimp only
  rw [rf_journalD _ _ _ _ _ _ _ _ _ (by decide) hj, rf_setF_ne _ _ _ _ (.inl hp)]
  split
  · rfl
  · rw [rf_setF_ne _ _ _ _ (.inl hf), rf_setF_ne _ _ _ _ (.inl hf), rf_setF_ne _ _ _ _ (.inl hf)]

theorem exec_drbgReady_passed (hst : drbgState s = drINIT) (hseed : rb s RNG_STAT_SEED_BUF = true) (hv : rb s SYSCTL_SPARE_STAT_VALID = true) :
    ∃ t, exec (.drbgReady true) s = .next t ∧ drbgState t = drREADY ∧ rb t RNG_STAT_SEED_BUF = false := by
  refine ⟨((s.setF RNG_STAT_SEED_BUF 0).setF RNG_STAT_DRBG drREADY).modRng fun r =>
      { r with seed := [], drbg := Config.drbgInstantiate r.seed (otpBytes s 8 6) }, ?_, drbgState_setF _ _,
    (rb_setF_ne _ RNG_STAT_DRBG RNG_STAT_SEED_BUF _ (by decide)).trans (rb_setF_zero _ (by decide))⟩
  show execDrbgReady true s = _
  unfold execDrbgReady
  rw [hst, hseed, hv]
  rfl

theorem exec_drbgReady_failed (hst : drbgState s = drINIT) (hseed : rb s RNG_STAT_SEED_BUF = true) (hv : rb s SYSCTL_SPARE_STAT_VALID = true) :
    ∃ t, exec (.drbgReady false) s = .next t ∧ drbgState t = drSTOPPED ∧ rb t RNG_STAT_KAT_FAIL = true ∧ rb t RNG_EVT_ALARM = true := by
  refine ⟨(((s.setF RNG_STAT_DRBG drSTOPPED).raise RNG_STAT_KAT_FAIL).raise RNG_EVT_ALARM).uncovered 6 0, ?_, ?_, ?_, ?_⟩
  · show execDrbgReady false s = _
    unfold execDrbgReady
    rw [hst, hseed, hv]
    rfl
  · exact (rf_uncovered (by decide) (by decide) (.inl (by decide)) _ _ _).trans ((rf_setF_ne _ _ _ _ (by decide)).trans
      ((rf_setF_ne _ _ _ _ (by decide)).trans (drbgState_setF _ _)))
  · exact (rb_of_rf (rf_uncovered (by decide) (by decide) (.inl (by decide)) _ _ _)).trans ((rb_raise_ne _ (by decide)).trans
      (rb_raise_same _ rfl (by decide)))
  · exact (rb_of_rf (rf_uncovered (by decide) (by decide) (.inl (by decide)) _ _ _)).trans (rb_raise_same _ rfl (by decide))

/-- A READY DRBG short of its reseed interval passes an item boundary as it is. -/
theorem itemBoundary_ready (hst : drbgState s = drREADY) (ha : s.rng.asked = false) (hs : s.rng.since < reseedInt s) : s.itemBoundary = s := by
  have hnow : reseedsNow s = false := by simp [reseedsNow, ha, hs]
  rw [itemBoundary_eq, hnow, if_neg (by simp [drbgOn, hst]), if_neg (by decide), if_pos hs]

theorem produce_eq (h : s.itemBoundary = s) : s.produce = if drbgOn s && s.rng.queue.length < 64 then
    (s.drbg.2.modRng fun r => { r with queue := r.queue ++ [(s.drbg).1], since := r.since + 1 }).itemBoundary.showRng else s := by
  unfold State.produce
  rw [h]

theorem drbgGenerate_ready (hst : drbgState s = drREADY) (ha : s.rng.asked = false) (hs : s.rng.since + 1 < reseedInt s) :
    (s.rng.queue.length < 64 → s.produce.rng = { s.rng with drbg := Config.drbgNext s.rng.drbg, queue := s.rng.queue ++ [(s.drbg).1], since := s.rng.since + 1 })
    ∧ (64 ≤ s.rng.queue.length → s.produce = s) := by
  have hon : drbgOn s = true := by simp [drbgOn, hst]
  have hfirst := itemBoundary_ready hst ha (by omega : s.rng.since < reseedInt s)
  rw [produce_eq hfirst, hon]
  constructor <;> intro hq
  · rw [if_pos (by simpa using hq), State.showRng_rng, itemBoundary_ready (s := s.drbg.2.modRng fun r => { r with queue := r.queue ++ [(s.drbg).1], since := r.since + 1 })
      hst ha hs]
    rfl
  · rw [if_neg (by simpa using hq)]

/-! ### The outcome of a command (R336) -/

@[simp] theorem State.rngEnd_rng (s : State) (op : Nat) (c : Code) : (s.rngEnd op c).rng = s.rng := by
  unfold State.rngEnd
  dsimp only
  split
  · rfl
  · split <;> simp

theorem rf_rngEnd (hop : RNG_CMD_STAT_LAST_OP.apart g) (hst : RNG_CMD_STAT_LAST_STATUS.apart g) (hj : offJournal g.addr) (s : State) (op : Nat)
    (c : Code) : rf (s.rngEnd op c) g = rf s g := by
  unfold State.rngEnd
  dsimp only
  split
  · rw [rf_setF_ne _ _ _ _ hst, rf_setF_ne _ _ _ _ hop]
  · split
    · rw [rf_ret, rf_congr _ _ (State.delay_regs _ _ _), rf_journal _ _ _ _ _ _ _ (by decide) hj, rf_setF_ne _ _ _ _ hst,
        rf_setF_ne _ _ _ _ hop]
    · rw [rf_journal _ _ _ _ _ _ _ (by decide) hj, rf_setF_ne _ _ _ _ hst, rf_setF_ne _ _ _ _ hop]

theorem rngEnd_status (s : State) (op : Nat) (c : Code) : rf (s.rngEnd op c) RNG_CMD_STAT_LAST_STATUS = c.val := by
  have hset (u : State) : rf (u.setF RNG_CMD_STAT_LAST_STATUS c.val) RNG_CMD_STAT_LAST_STATUS = c.val :=
    (rf_setF_same _ _ _ (by decide)).trans (Nat.mod_eq_of_lt c.val_lt)
  unfold State.rngEnd
  dsimp only
  split
  · exact hset _
  · split
    · rw [rf_ret, rf_congr _ _ (State.delay_regs _ _ _), rf_journal _ _ _ _ _ _ _ (by decide) (.inl (by decide))]
      exact hset _
    · rw [rf_journal _ _ _ _ _ _ _ (by decide) (.inl (by decide))]
      exact hset _

/-- A RESEED that finds no seed is delayed by 1 ms. -/
theorem rngEnd_retry (op : Nat) (he : early s (rngKey op) = false) : (s.rngEnd op .busyRetry).out = .retry 1 := by
  have hearly (u : State) (hr : u.retries = s.retries) (hu : u.usec = s.usec) : early u (rngKey op) = false := by
    rw [← he, early, early, retryLeft, retryLeft, hr, hu]
  unfold State.rngEnd
  dsimp only
  rw [if_neg (by decide), if_pos rfl]
  dsimp only [State.ret]
  rw [delay_fst_some (hearly _ (by simp [State.journal]) (by simp [State.journal]))]
  rfl

/-! ### Flushes and tests of a source (R334, R335) -/

theorem rngFlush_rng (s : State) : s.rngFlush.rng = { s.rng with queue := [], item := [], flushed := true } := State.showRng_rng _

theorem rngFlush_evt (s : State) : rb s.rngFlush RNG_EVT_FLUSHED_EVT = true := rb_raise_same _ rfl (by decide)

/-- A command's outcome leaves the registers that show the sources. -/
theorem srcState_rngEnd (s : State) (op : Nat) (c : Code) : srcState (s.rngEnd op c) k = srcState s k :=
  rf_rngEnd (.inl (by show RNG_CMD_STAT ≠ RNG_SRC_STAT; decide)) (.inl (by show RNG_CMD_STAT ≠ RNG_SRC_STAT; decide))
    (.inl (by show RNG_SRC_STAT < _; decide)) s op c

theorem startTest_state (hk : k < 4) (s : State) (p : Bool) : srcState (s.startTest k p) k = srcTEST := by
  unfold State.startTest
  dsimp only
  rw [srcState, (srcState_unselected k).rngFlush]
  exact (rf_setF_ne _ _ _ _ (lost_apart_state k hk)).trans (srcState_setF hk _ _)

theorem startTest_rng (s : State) (k : Nat) (p : Bool) : (s.startTest k p).rng.test = some k ∧ (s.startTest k p).rng.pattern = p
    ∧ (s.startTest k p).rng.queue = [] := by
  unfold State.startTest
  dsimp only
  rw [rngFlush_rng]
  exact ⟨rfl, rfl, rfl⟩

/-- A source that enters TEST, as the command's outcome shows it. -/
theorem startTest_shows (hk : k < 4) (s : State) (p : Bool) (op : Nat) : let t := (s.startTest k p).rngEnd op .ok
    srcState t k = srcTEST ∧ t.rng.test = some k ∧ t.rng.pattern = p ∧ t.rng.queue = [] ∧ rf t RNG_CMD_STAT_LAST_STATUS = 0 := by
  obtain ⟨htest, hpattern, hqueue⟩ := startTest_rng s k p
  dsimp only
  rw [State.rngEnd_rng]
  exact ⟨(srcState_rngEnd _ _ _).trans (startTest_state hk s p), htest, hpattern, hqueue, rngEnd_status _ _ .ok⟩

theorem endTest_shows (hk : k < 4) (ht : s.rng.test = some k) : srcState s.endTest k = srcRETEST ∧ s.endTest.rng.test = none := by
  unfold State.endTest
  rw [ht]
  dsimp only
  rw [rngFlush_rng, srcState, (srcState_unselected k).rngFlush]
  exact ⟨srcState_setF hk _ _, rfl⟩

/-! ### Reads (R333 to R335) -/

theorem fwReserve_setF {f : Fld} (hl : f.apart RNG_CTRL_LOCK) (hr : f.apart RNG_CFG_FW_RESERVE) (s : State) (v : Nat) :
    fwReserve (s.setF f v) = fwReserve s := by
  unfold fwReserve rngSet
  rw [rb_setF_ne _ _ _ _ hl, rf_setF_ne _ _ _ _ hr]

theorem rngDataRead_flushed (hf : s.rng.flushed = true) : ∃ t, exec .rngDataRead s = .next t ∧ t.out = .word 0
    ∧ rf t RNG_OUT_STAT_STATUS = 0x10 ∧ rb t RNG_OUT_STAT_FLUSHED = true ∧ t.rng = { s.rng with flushed := false } := by
  refine ⟨(((s.modRng fun r => { r with flushed := false }).setF RNG_OUT_STAT_STATUS Code.notReady.val).raise RNG_OUT_STAT_FLUSHED).ret (.word 0),
    ?_, rfl, ?_, ?_, rfl⟩
  · show execRngDataRead s = _
    simp [execRngDataRead, hf]
  · rw [rf_ret, State.raise, rf_setF_ne _ _ _ _ (by decide), rf_setF_same _ _ _ (by decide)]
    rfl
  · rw [rb_ret]
    exact rb_raise_same _ rfl (by decide)

/-- The next word of the item in progress. -/
theorem rngDataRead_word (hf : s.rng.flushed = false) (hw : 0 < rf s RNG_OUT_STAT_WORD) : ∃ t, exec .rngDataRead s = .next t
    ∧ t.out = .word (BitVec.ofNat 32 (beNat s.rng.item >>> (32 * rf s RNG_OUT_STAT_WORD)))
    ∧ rf t RNG_OUT_STAT_WORD = (if rf s RNG_OUT_STAT_WORD = 11 then 0 else (rf s RNG_OUT_STAT_WORD + 1) % 16)
    ∧ rf t RNG_OUT_STAT_STATUS = (if rf s RNG_OUT_STAT_WORD = 11 then 0 else 0x10) ∧ t.rng = s.rng := by
  generalize hn : rf s RNG_OUT_STAT_WORD = n at hw ⊢
  refine ⟨(((s.setF RNG_OUT_STAT_FLUSHED 0).setF RNG_OUT_STAT_WORD (if n = 11 then 0 else n + 1)).setF RNG_OUT_STAT_STATUS
    (if n = 11 then 0 else Code.notReady.val)).ret (.word (BitVec.ofNat 32 (beNat s.rng.item >>> (32 * n)))), ?_, rfl, ?_, ?_, rfl⟩
  · show execRngDataRead s = _
    simp [execRngDataRead, hf, hn, Nat.ne_of_gt hw]
  · rw [rf_ret, rf_setF_ne _ _ _ _ (by decide), rf_setF_same _ _ _ (by decide)]
    show _ % 16 = _
    split <;> rfl
  · rw [rf_ret, rf_setF_same _ _ _ (by decide)]
    split <;> rfl

/-- The first word of the item at the head of the queue, or nothing where the reserve holds it. -/
theorem rngDataRead_first {it : List Byte} {q : List (List Byte)} (hf : s.rng.flushed = false) (hw : rf s RNG_OUT_STAT_WORD = 0)
    (hkat : rb s RNG_STAT_KAT_FAIL = false) (hq : s.rng.queue = it :: q) :
    (fwReserve s ≤ q.length → ∃ t, exec .rngDataRead s = .next t ∧ t.out = .word (BitVec.ofNat 32 (beNat it))
      ∧ t.rng.queue = q ∧ t.rng.item = it ∧ rf t RNG_OUT_STAT_WORD = 1 ∧ rf t RNG_OUT_STAT_STATUS = 0x10)
    ∧ (q.length < fwReserve s → ∃ t, exec .rngDataRead s = .next t ∧ t.out = .word 0 ∧ t.rng = s.rng ∧ rf t RNG_OUT_STAT_STATUS = 0x10) := by
  have hkat' : rb (s.setF RNG_OUT_STAT_FLUSHED 0) RNG_STAT_KAT_FAIL = false := (rb_setF_ne _ _ _ _ (by decide)).trans hkat
  have hres : fwReserve (s.setF RNG_OUT_STAT_FLUSHED 0) = fwReserve s := fwReserve_setF (by decide) (by decide) s 0
  constructor <;> intro hlen
  · refine ⟨(((((s.setF RNG_OUT_STAT_FLUSHED 0).modRng fun r => { r with queue := q, item := it }).setF RNG_OUT_STAT_STATUS Code.notReady.val).setF
      RNG_OUT_STAT_WORD 1).showRng).ret (.word (BitVec.ofNat 32 (beNat it))), ?_, rfl, ?_, ?_, ?_, ?_⟩
    · show execRngDataRead s = _
      simp [execRngDataRead, hf, hw, hkat', hq, hres, show ¬ q.length + 1 ≤ fwReserve s by omega]
    · exact congrArg Rng.queue (State.showRng_rng _)
    · exact congrArg Rng.item (State.showRng_rng _)
    · rw [rf_ret, rf_showRng (by decide) (by decide) (by decide) (by decide), rf_setF_same _ _ _ (by decide)]
      rfl
    · rw [rf_ret, rf_showRng (by decide) (by decide) (by decide) (by decide), rf_setF_ne _ _ _ _ (by decide), rf_setF_same _ _ _ (by decide)]
      rfl
  · refine ⟨((s.setF RNG_OUT_STAT_FLUSHED 0).setF RNG_OUT_STAT_STATUS Code.notReady.val).ret (.word 0), ?_, rfl, rfl, ?_⟩
    · show execRngDataRead s = _
      simp [execRngDataRead, hf, hw, hkat', hq, hres, show q.length + 1 ≤ fwReserve s by omega]
    · rw [rf_ret, rf_setF_same _ _ _ (by decide)]
      rfl

/-- A read of the raw bits of the source under test. -/
theorem exec_rngRawRead (ht : s.rng.test = some k) (hp : s.rng.pattern = false) (bs : List Bool) : exec (.rngRawRead bs) s =
    .next (if 32 ≤ ((s.rng.raw ++ bs).take 8192).length then
        ((((s.rawIn k bs).modRng fun r => { r with raw := r.raw.drop 32 }).setF RNG_OUT_STAT_RAW_EMPTY 0).ret
          (.word (BitVec.ofNat 32 (bitsNat (((s.rng.raw ++ bs).take 8192).take 32)))))
      else ((s.rawIn k bs).raise RNG_OUT_STAT_RAW_EMPTY).ret (.word 0)) := by
  have hrng : (s.rawIn k bs).rng = { s.rng with raw := (s.rng.raw ++ bs).take 8192 } := by rw [rawIn_rng, ht, hp, if_pos (by simp)]
  have hready : rawReady (s.rawIn k bs) = decide (32 ≤ ((s.rng.raw ++ bs).take 8192).length) := by
    unfold rawReady
    rw [hrng]
    simp [ht, hp]
  show execRngRawRead bs s = _
  unfold execRngRawRead rngRawWord
  rw [ht, hp]
  dsimp only
  rw [hready, hrng]
  by_cases hlen : 32 ≤ ((s.rng.raw ++ bs).take 8192).length <;>
    simp only [hlen, decide_true, decide_false, Bool.false_eq_true, if_true, if_false]

theorem rawIn_lost (hk : k < 4) (ht : s.rng.test = some k) (hp : s.rng.pattern = false) {bs : List Bool} (h : 8192 < (s.rng.raw ++ bs).length) :
    rb (s.rawIn k bs) (RNG_SRC_STAT_RAW_LOST k) = true := by
  unfold State.rawIn State.when
  rw [ht, hp, if_pos (by simp)]
  simp only [h, decide_true, if_true, rb_modRng]
  exact rb_raise_same _ rfl (by show 2 + 8 * k + 1 ≤ 32; omega)

/-- An internal consumer's item. -/
theorem takeItem_queued {it : List Byte} {q : List (List Byte)} (hkat : rb s RNG_STAT_KAT_FAIL = false) (hq : s.rng.queue = it :: q) :
    s.takeItem = (.ok it, (s.modRng fun r => { r with queue := q }).showRng) := by
  unfold State.takeItem
  simp [hkat, hq]

theorem takeItem_off (hkat : rb s RNG_STAT_KAT_FAIL = false) (hq : s.rng.queue = []) (hoff : drbgOn s = false) :
    s.takeItem = (.error .notReady, s) := by
  unfold State.takeItem
  simp [hkat, hq, produce_off hoff]

end Sys2Proof.Machine
end

section
/-! The statement about the generator (O43). -/

namespace Sys2Proof.Machine

/-- Settles O43. The word by word STATUS of RNG_OUT_STAT is the model's choice (log 162). -/
theorem generatorActs : Obligations.GeneratorActs := by
  unfold Obligations.GeneratorActs
  intro s k hk
  have hnotAgain (h : rf s (RNG_SRC_STAT_FAILS k) = 0) : healthAgain s k = false := by simp [healthAgain, h]
  have hagain (h : rf s (RNG_SRC_STAT_FAILS k) ≠ 0) (hin : s.usec < s.rng.firstAt.getD k 0 + failSpan) : healthAgain s k = true := by
    unfold healthAgain
    rw [decide_eq_true h, decide_eq_true hin]
    rfl
  refine ⟨?startup, ?fresh, fun bs => exec_startupPass_failed, ?pattern, ?passed, ?first, ?again, ?unfull, ?seed, noiseOf_setNoise _ _ _,
    feed_identical, fun x b tk => (close_push x b tk).1, fun x b tk => (close_push x b tk).2, ?instantiate, ?generate, ?flush, ?reseed,
    ?unseeded, ?stopped, ?test, ?untestable, ?endTest, rngDataRead_flushed, rngDataRead_word, fun it q hf hw hkat hq => rngDataRead_first hf hw hkat hq,
    ?raw, ?item, ?dry⟩
  case startup =>
    intro bs hbs hst hback
    refine ⟨_, exec_startupPass_retest hk hbs hst hback, ?_, State.showRng_rng _⟩
    rw [srcState, (srcState_unselected k).showRng]
    exact (srcState_setF hk _ _).trans (by split <;> rfl)
  case fresh =>
    intro bs hbs hk2 hfresh hst hallow
    refine ⟨_, exec_startupPass_fresh hk2 hbs hfresh hst hallow, ?_, ?_⟩
    · rw [srcState, (srcState_unselected k).showRng]
      exact srcState_setF hk _ _
    · rw [srcFresh, State.showRng_rng]
      exact bit_setBits _ _ false
  case pattern =>
    intro n hst hp
    show execHealthFail k n s = _
    simp [execHealthFail, hst, hp, hk, srcTEST, srcFAILED]
  case passed =>
    intro n x hst hfeed
    rw [exec_healthFail_bits hk hst, sourceBits_passed hfeed]
  case first =>
    intro n x f hst hfresh hfails hfeed
    have hrun := bitsRun hk s x n
    obtain ⟨hstate, hformer, hcount, hevt, hqueue, hnoise⟩ := sourceFail_first_shows hk (hrun.state.trans hst) (hrun.fresh.trans hfresh)
      (hrun.again.trans (hnotAgain hfails)) f
    exact ⟨_, (exec_healthFail_bits hk hst n).trans (congrArg _ (sourceBits_failed hfeed)), hstate, hformer, hcount, hevt, hqueue.trans hrun.queue,
      hnoise.trans (congrArg _ hrun.noise)⟩
  case again =>
    intro n x f hst hfresh hfails hin hfeed
    have hrun := bitsRun hk s x n
    obtain ⟨hstate, hevt⟩ := sourceFail_again_shows hk (hrun.state.trans hst) (hrun.fresh.trans hfresh)
      (hrun.again.trans (hagain hfails hin)) f
    exact ⟨_, (exec_healthFail_bits hk hst n).trans (congrArg _ (sourceBits_failed hfeed)), hstate, hevt⟩
  case unfull =>
    intro n hfull
    show execSeedReady n s = _
    simp [execSeedReady, hfull]
  case seed =>
    rintro n u rfl hfull
    have hrun := exec_seedReady hfull
    refine ⟨fun hbuf => ?_, fun hbuf hst => ?_, fun hbuf hst => ?_⟩
    · rw [hrun, if_pos hbuf]
    · rw [hrun, if_neg (by simp [hbuf]), if_neg hst]
    · rw [hrun, if_neg (by simp [hbuf]), if_pos hst]
      exact ⟨_, rfl, stretch_ends _⟩
  case instantiate =>
    exact fun hst hseed hv => ⟨exec_drbgReady_passed hst hseed hv, exec_drbgReady_failed hst hseed hv⟩
  case generate =>
    intro hst ha hs
    obtain ⟨hroom, hfull⟩ := drbgGenerate_ready hst ha hs
    exact ⟨fun hq => ⟨_, rfl, congrArg Rng.queue (hroom hq), congrArg Rng.since (hroom hq), congrArg Rng.drbg (hroom hq)⟩,
      fun hq => congrArg Host.Outcome.next (hfull hq)⟩
  case flush =>
    have hrng := rngFlush_rng s
    refine ⟨_, rfl, ?_, ?_, ?_, rngEnd_status _ _ .ok, ?_⟩
    iterate 3 rw [State.rngEnd_rng, hrng]
    exact (rb_of_rf (rf_rngEnd (by decide) (by decide) (.inl (by decide)) _ _ _)).trans (rngFlush_evt s)
  case reseed =>
    intro hon hseed he
    refine ⟨(s.modRng fun r => { r with asked := true }).rngEnd opRESEED .ok, ?_, State.rngEnd_rng _ _ _, rngEnd_status _ _ .ok⟩
    show execReseed s = _
    simp [execReseed, firstCode, hon, hseed, he]
  case unseeded =>
    intro hon hseed he
    refine ⟨s.rngEnd opRESEED .busyRetry, ?_, State.rngEnd_rng _ _ _, rngEnd_status _ _ .busyRetry, rngEnd_retry _ he⟩
    show execReseed s = _
    simp [execReseed, firstCode, hon, hseed]
  case stopped =>
    intro hoff
    refine ⟨s.rngEnd opRESEED .refusedState, ?_, State.rngEnd_rng _ _ _, rngEnd_status _ _ .refusedState⟩
    show execReseed s = _
    simp [execReseed, firstCode, hoff]
  case test =>
    intro hok
    obtain ⟨hstate, htest, hpattern, hqueue, hstatus⟩ := startTest_shows hk s false opRAW_MODE
    obtain ⟨hstate', htest', hpattern', -, hstatus'⟩ := startTest_shows hk s true opTEST_PATTERN
    refine ⟨⟨_, ?_, hstate, htest, hpattern, hqueue, hstatus⟩, _, ?_, hstate', htest', hpattern', hstatus'⟩
    · show execRawMode k s = _
      rw [execRawMode, if_pos hok]
    · show execTestPattern k s = _
      rw [execTestPattern, if_pos hok]
  case untestable =>
    intro hok
    refine ⟨s.rngEnd opRAW_MODE .refusedState, ?_, State.rngEnd_rng _ _ _, rngEnd_status _ _ .refusedState⟩
    show execRawMode k s = _
    rw [execRawMode, hok]
    rfl
  case endTest =>
    intro ht
    obtain ⟨hstate, htest⟩ := endTest_shows hk ht
    refine ⟨s.endTest.rngEnd opSTOP_TEST .ok, ?_, (srcState_rngEnd _ _ _).trans hstate, ?_, rngEnd_status _ _ .ok⟩
    · show execStopTest s = _
      rw [execStopTest, ht]
      rfl
    · rw [State.rngEnd_rng, htest]
  case raw =>
    intro bs ht hp
    have hrng : (s.rawIn k bs).rng = { s.rng with raw := (s.rng.raw ++ bs).take 8192 } := by rw [rawIn_rng, ht, hp, if_pos (by simp)]
    refine ⟨fun hlen => ?_, fun hlen => ?_⟩
    · refine ⟨_, (exec_rngRawRead ht hp bs).trans (by rw [if_pos hlen]), rfl, ?_, fun hlost => ?_⟩
      · show { (s.rawIn k bs).rng with raw := (s.rawIn k bs).rng.raw.drop 32 } = _
        rw [hrng]
      · rw [rb_ret, rb_setF_ne _ _ _ _ (.inl (by show RNG_OUT_STAT ≠ RNG_SRC_STAT; decide)), rb_modRng]
        exact rawIn_lost hk ht hp hlost
    · refine ⟨((s.rawIn k bs).raise RNG_OUT_STAT_RAW_EMPTY).ret (.word 0), (exec_rngRawRead ht hp bs).trans (by rw [if_neg (by omega)]), rfl, ?_, hrng⟩
      rw [rb_ret]
      exact rb_raise_same _ rfl (by decide)
  case item =>
    intro it q hkat hq
    refine ⟨(s.modRng fun r => { r with queue := q }).showRng.ret (.code .ok), ?_, State.showRng_rng _, rfl⟩
    show execInternalRngRequest s = _
    rw [execInternalRngRequest, takeItem_queued hkat hq]
  case dry =>
    intro hkat hq hoff
    refine ⟨s.ret (.code .notReady), ?_, rfl, rfl⟩
    show execInternalRngRequest s = _
    rw [execInternalRngRequest, takeItem_off hkat hq hoff]

end Sys2Proof.Machine
end

section
/-! What neither the domains, their channels and loads, the update engine nor the key manager touch: the Lodge, the life cycle, the mode and
the Orangery's keys. A zeroisation, a lockdown and the holds of a SCRAP leave them to their own writes (R92, R296, R387, R398). -/

namespace Sys2Proof.Machine

/-! ### The part of the state that stays -/

/-- A register of the life cycle or of the Lodge. -/
def calmReg (a : Nat) : Bool := (0x40010000 ≤ a && a < 0x40020000) || (0x40090000 ≤ a && a < 0x400A0000)

/-- The Lodge, the life cycle, the Orangery's keys, the mode, and the registers of the first two. -/
def calm (s : State) : Lodge × Lcs × List (List Byte) × Nat × (Nat → Word) :=
  (s.lodge, s.lcs, s.orang.keys, mode s, fun a => if calmReg a then reg s a else 0)

section
variable {s t : State}

theorem calm_lodge (h : calm t = calm s) : t.lodge = s.lodge := congrArg (·.1) h
theorem calm_lcs (h : calm t = calm s) : t.lcs = s.lcs := congrArg (·.2.1) h
theorem calm_keys (h : calm t = calm s) : t.orang.keys = s.orang.keys := congrArg (·.2.2.1) h
theorem calm_mode (h : calm t = calm s) : mode t = mode s := congrArg (·.2.2.2.1) h

theorem calm_reg (h : calm t = calm s) {a : Nat} (ha : calmReg a = true) : reg t a = reg s a := by
  have := congrFun (congrArg (·.2.2.2.2) h) a
  dsimp only [calm] at this
  rwa [if_pos ha, if_pos ha] at this

theorem calm_rf (h : calm t = calm s) {g : Fld} (ha : calmReg g.addr = true) : rf t g = rf s g := rf_congr_reg (calm_reg h ha)
theorem calm_rb (h : calm t = calm s) {g : Fld} (ha : calmReg g.addr = true) : rb t g = rb s g := congrArg (· != 0) (calm_rf h ha)

theorem calm_of (hl : t.lodge = s.lodge) (hc : t.lcs = s.lcs) (hk : t.orang.keys = s.orang.keys) (hm : mode t = mode s)
    (hr : ∀ a, calmReg a = true → reg t a = reg s a) : calm t = calm s := by
  unfold calm
  rw [hl, hc, hk, hm]
  congr 4
  funext a
  split
  · exact hr a ‹_›
  · rfl

theorem calm_ite {c : Prop} [Decidable c] {u v : State} (hu : calm u = calm s) (hv : calm v = calm s) : calm (if c then u else v) = calm s := by
  split
  · exact hu
  · exact hv

end

section
variable (s : State)

/-! ### Writes of registers and fields -/

/-- A write of the field leaves the mode and the registers of `calm`. -/
def farFld (f : Fld) : Prop := calmReg f.addr = false ∧ f.apart SYSCTL_MODE_MODE

theorem calm_setF {f : Fld} (h : farFld f) (v : Nat) : calm (s.setF f v) = calm s :=
  calm_of rfl rfl rfl (rf_setF_ne _ _ _ _ h.2) fun a ha => reg_setF_ne _ _ _ _ fun e => by
    rw [← e, h.1] at ha
    exact absurd ha (by decide)

theorem calm_setReg {a : Nat} (ha : calmReg a = false) (hm : SYSCTL_MODE ≠ a) (w : Word) : calm (s.setReg a w) = calm s :=
  calm_of rfl rfl rfl (rf_setReg_ne _ _ _ _ hm) fun b hb => reg_setReg_ne _ _ _ _ fun e => by
    rw [e, ha] at hb
    exact absurd hb (by decide)

theorem calmReg_high {a : Nat} (h : 0x400A0000 ≤ a) : calmReg a = false := by
  unfold calmReg
  simp
  omega

theorem farFld_high {f : Fld} (h : 0x400A0000 ≤ f.addr) : farFld f :=
  ⟨calmReg_high h, .inl fun e => absurd (e ▸ h) (by decide)⟩

theorem farFld_low {f : Fld} (h : 0x40020000 ≤ f.addr ∧ f.addr < 0x40090000) : farFld f := by
  refine ⟨?_, .inl fun e => absurd (e ▸ h.1) (by decide)⟩
  unfold calmReg
  simp
  omega

/-- Every unit from the Gatehouse upwards. -/
theorem calm_high {f : Fld} (h : 0x400A0000 ≤ f.addr) (v : Nat) : calm (s.setF f v) = calm s := calm_setF s (farFld_high h) v

theorem high_add (b k : Nat) (h : 0x400A0000 ≤ b) : 0x400A0000 ≤ b + k := Nat.le_trans h (Nat.le_add_right b k)

theorem calm_setDigest {base : Nat → Nat} (h : ∀ i, 0x400A0000 ≤ base i) (d : List Byte) : calm (s.setDigest base d) = calm s :=
  State.each_keeps calm (List.range 12) (fun s i => s.setReg (base i) (BitVec.ofNat 32 (fieldAt d (4 * i) 4)))
    (fun t i => calm_setReg t (calmReg_high (h i)) (fun e => absurd (e ▸ h i) (by decide)) _) s

theorem calm_journalD {c : Nat} (hc : c < 8) (t u n d g : Nat) (l : List Byte) : calm (s.journalD c t u n d g l) = calm s := by
  refine calm_of (State.journalD_lodge ..) (State.journalD_lcs ..) (by rw [State.journalD_orang])
    (rf_journalD _ _ _ _ _ _ _ _ _ hc (.inl (by decide))) fun a ha => reg_journalD _ _ _ _ _ _ _ _ _ hc ?_
  unfold calmReg at ha
  unfold offJournal
  simp at ha
  omega

theorem calm_journal {c : Nat} (hc : c < 8) (t u n : Nat) (k : Code) : calm (s.journal c t u n k) = calm s := calm_journalD s hc _ _ _ _ _ _

theorem calm_journalDom {c : Nat} (hc : c < 8) (t u d k : Nat) (l : List Byte) : calm (s.journalDom c t u d k l) = calm s :=
  calm_journalD s hc _ _ _ _ _ _

/-! ### Lines, channels and programs -/

theorem calm_showPcl (k : Nat) : calm (s.showPcl k) = calm s := by
  unfold State.showPcl State.setB
  split
  · rfl
  · split
    · rfl
    · repeat rw [calm_high _ (high_add _ _ (by decide))]

theorem calm_drive (k : Nat) (on : Bool) : calm (s.drive k on) = calm s := calm_showPcl _ k

theorem calm_powerDown (d u : Nat) : calm (s.powerDown d u) = calm s := State.each_keeps calm _ _ (fun t k => calm_drive t k false) s

theorem calm_holdFrom (d fuel t : Nat) : calm (s.holdFrom d fuel t) = calm s := by
  induction fuel generalizing s t with
  | zero => rfl
  | succ fuel ih =>
    unfold State.holdFrom
    split
    · rfl
    · split
      · exact (ih _ _).trans (calm_powerDown s d _)
      · rfl

theorem calm_holdLines (d : Nat) : calm (s.holdLines d) = calm s := by
  have hlines (t : State) (l : List Nat) : calm (t.each l fun t k => t.drive k true) = calm t :=
    State.each_keeps calm _ _ (fun t k => calm_drive t k true) t
  unfold State.holdLines
  dsimp only
  rw [calm_holdFrom, hlines, hlines]

theorem calm_abortReads (d : Nat) : calm (s.abortReads d) = calm s :=
  State.each_keeps calm _ _ (fun t _ => calm_high t (high_add _ _ (by decide)) _) s

theorem calm_bumpGen (d : Nat) : calm (s.bumpGen d) = calm s := calm_high s (high_add _ _ (by decide)) _

theorem calm_emuReset (ch : Nat) (all : Bool) : calm (s.emuReset ch all) = calm s :=
  State.each_keeps calm _ _ (fun t _ => calm_high t (high_add _ _ (by decide)) _) s

theorem calm_mirrorCfg (ch : Nat) (p : Prog) : calm (s.mirrorCfg ch p) = calm s := by
  unfold State.mirrorCfg State.setB
  repeat rw [calm_high _ (high_add _ _ (by decide))]

theorem calm_modChan (ch : Nat) (f : Chan → Chan) : calm (s.modChan ch f) = calm s := rfl

theorem calm_protoPowerOn (ch : Nat) (keep : Bool) : calm (s.protoPowerOn ch keep) = calm s := by
  unfold State.protoPowerOn State.setB
  dsimp only
  rw [calm_modChan]
  split <;> repeat rw [calm_high _ (high_add _ _ (by decide))]

theorem calm_swap (ch : Nat) : calm (s.swap ch) = calm s := by
  have hmeas (i : Nat) : 0x400A0000 ≤ CH_TR_MEAS ch i := by unfold CH_TR_MEAS; omega
  have hpmeas (i : Nat) : 0x400A0000 ≤ CH_TR_PMEAS ch i := by unfold CH_TR_PMEAS; omega
  unfold State.swap
  split
  · rfl
  · dsimp only
    rw [calm_journalD _ (by decide), State.raise, calm_high _ (high_add _ _ (by decide))]
    have hcfg (t : State) (p : Prog) (v : Nat) : calm ((t.setF (CH_TR_STAT_REGIONS ch) v).mirrorCfg ch p) = calm t :=
      (calm_mirrorCfg _ ch p).trans (calm_high _ (high_add _ _ (by decide)) _)
    have hbank (t : State) (x y : Nat) : calm (((t.setF (CH_TR_STAT_PEND ch) x).raise (CH_TR_STAT_ACTIVE_VALID ch)).setF
        (CH_TR_STAT_ACTIVE_BANK ch) y) = calm t := by
      unfold State.raise
      repeat rw [calm_high _ (high_add _ _ (by decide))]
    split <;> simp only [calm_protoPowerOn, calm_emuReset, hcfg, hbank, calm_setDigest _ hmeas, calm_setDigest _ hpmeas] <;> rfl

theorem calm_chanClose (ch : Nat) : calm (s.chanClose ch) = calm s := by
  unfold State.chanClose
  rw [calm_swap]
  repeat rw [calm_high _ (high_add _ _ (by decide))]

theorem calm_alertShow (ch : Nat) : calm (s.alertShow ch) = calm s := by
  unfold State.alertShow State.raise
  split
  · repeat rw [calm_high _ (high_add _ _ (by decide))]
  · rfl

theorem calm_devPowerOn (ch : Nat) : calm (s.devPowerOn ch) = calm s := by
  have hstat : 0x400A0000 ≤ CH_ESPI_STAT ch := high_add _ _ (by decide)
  unfold State.devPowerOn
  dsimp only
  rw [calm_high _ (high_add _ _ (by decide)), calm_setReg _ (calmReg_high hstat) (fun e => absurd (e ▸ hstat) (by decide)), calm_modChan,
    calm_emuReset, calm_protoPowerOn]

theorem calm_chanOpen (ch : Nat) : calm (s.chanOpen ch) = calm s := by
  unfold State.chanOpen State.raise
  rw [calm_alertShow, calm_high _ (high_add _ _ (by decide)), calm_devPowerOn]

theorem calm_setRole (ch role : Nat) (b : Bool) : calm (s.setRole ch role b) = calm s := by
  unfold State.setRole
  dsimp only
  split
  · exact calm_high s (high_add _ _ (by decide)) _
  · rfl

theorem calm_opFail (ch w : Nat) : calm (s.opFail ch w) = calm s := by
  unfold State.opFail
  dsimp only
  split
  · rfl
  · have hfailed (t : State) (role : Nat) : calm ((t.setF (CH_PORT_STAT_WEL ch) 0).setRole ch role true) = calm t :=
      (calm_setRole _ ch role true).trans (calm_high _ (high_add _ _ (by decide)) _)
    have hwip (t : State) (h : calm t = calm s) : calm ((t.setF (CH_PORT_STAT_WIP ch) 0).raise (CH_PORT_EVT_WRITE_DONE ch)) = calm s :=
      (calm_high _ (high_add _ _ (by decide)) 1).trans ((calm_high _ (high_add _ _ (by decide)) 0).trans h)
    exact calm_ite (hfailed _ _) (hwip _ (hfailed _ _))

/-! ### Extents and loads of a domain -/

theorem calm_retain (x : LEnt) : calm (s.retain x) = calm s := by
  unfold State.retain
  dsimp only
  split
  · rfl
  · split
    · rfl
    · exact calm_journalDom _ (by decide) _ _ _ _ _

theorem calm_setExt (e : Nat) (x : Ext) : calm (s.setExt e x) = calm s := rfl
theorem calm_dropFrame (w : Wt) : calm (s.dropFrame w) = calm s := rfl

theorem calm_dropExt (e : Nat) : calm (s.dropExt e) = calm s := by
  have hheld (t : State) (l : List Wt) : calm (l.foldl (fun s w => (s.opFail w.ch w.id).dropFrame w) t) = calm t :=
    State.each_keeps calm l (fun s w => (s.opFail w.ch w.id).dropFrame w) (fun u w => (calm_dropFrame _ w).trans (calm_opFail u _ _)) t
  have hlines (t : State) (b : Nat) (l : List Nat) : calm (l.foldl (fun s l =>
      let s := match ltabOf s (b + l) with | some y => s.retain y | none => s
      (s.setLtab (b + l) none).setCtrSlot (b + l) 0) t) = calm t := by
    refine State.each_keeps calm l _ (fun u i => ?_) t
    dsimp only
    split
    · exact calm_retain u _
    · rfl
  unfold State.dropExt
  dsimp only
  split
  · rfl
  · rw [calm_setExt]
    have hrekey (t : State) (k : Nat) (l : List Byte) : calm ((t.setF ORANGERY_STAT_REKEY_ACTIVE 0).journalDom 3 154 srcORANGERY k 0 l) = calm t :=
      (calm_journalDom _ (by decide) _ _ _ _ _).trans (calm_high t (by decide) 0)
    have hhot (t : State) (n : Nat) : calm ((t.setF (PLANE_HOT_STAT_USED 0) n).setF (PLANE_HOT_STAT_USED 1) n) = calm t := by
      rw [calm_high _ (by decide), calm_high _ (by decide)]
    have hkept := fun (c : Prop) [Decidable c] t b l l' => calm_ite (c := c) ((hlines _ b l').trans (hheld t l)) (hheld t l)
    refine calm_ite ((hrekey _ _ _).trans ((hhot _ _).trans ?_)) ((hhot _ _).trans ?_)
    · exact hkept _ _ _ _ _
    · exact hkept _ _ _ _ _

theorem calm_dropManifest (d : Nat) : calm (s.dropManifest d) = calm s := by
  unfold State.dropManifest
  dsimp only
  rw [calm_high _ (high_add _ _ (by decide)), State.each_keeps calm _ _ calm_dropExt]
  rfl

theorem calm_modDomX (d : Nat) (f : DomX → DomX) : calm (s.modDomX d f) = calm s := rfl

/-- An event of a unit from the Gatehouse upwards. -/
theorem calm_raise {f : Fld} (h : 0x400A0000 ≤ f.addr) : calm (s.raise f) = calm s := calm_high s h 1

theorem calm_endReverify (d : Nat) : calm (s.endReverify d) = calm s := by
  unfold State.endReverify
  split
  · refine State.when_keeps calm _ _ (fun t => ?_) s
    exact (calm_modDomX _ d _).trans (calm_raise t (by decide))
  · rfl

theorem calm_refillBus (b : Nat) : calm (s.refillBus b) = calm s := by
  unfold State.refillBus
  dsimp only
  rw [calm_high _ (high_add _ _ (by decide)), calm_high _ (high_add _ _ (by decide))]
  split
  · rfl
  · split
    · split <;> rfl
    · rfl

theorem calm_refill : calm s.refill = calm s := by
  unfold State.refill State.setB
  dsimp only
  rw [calm_high _ (by decide), calm_high _ (by decide), calm_high _ (by decide), State.each_keeps calm _ _ calm_refillBus]

theorem calm_stopReads (d : Nat) : calm (s.stopReads d) = calm s := rfl

theorem calm_loadDrop (d : Nat) : calm (s.loadDrop d) = calm s := by
  have hstopped : calm ((s.endReverify d).stopReads d) = calm s := (calm_stopReads _ d).trans (calm_endReverify s d)
  unfold State.loadDrop
  dsimp only
  rw [calm_refill]
  split
  · exact (calm_setReg _ (by decide) (by decide) _).trans hstopped
  · exact hstopped

/-! ### Update jobs -/

theorem calm_applyComplete (j : UpdJob) (c : Code) : calm (s.applyComplete j c) = calm s := by
  unfold State.applyComplete
  split
  · split <;> rfl
  · rfl

theorem calm_updEnd (c : Code) : calm (s.updEnd c) = calm s := by
  unfold State.updEnd
  split
  · rfl
  · dsimp only
    rw [State.when_keeps calm _ (·.raise FBUS_UPD_EVT_JOB_FAIL) (fun t => calm_raise t (by decide)), calm_raise _ (by decide), calm_high _ (by decide), calm_high _ (by decide),
      calm_high _ (by decide)]
    exact calm_applyComplete s _ c

theorem calm_swapEnd (d : Nat) (c : Code) : calm (s.swapEnd d c) = calm s := by
  unfold State.swapEnd
  split
  · exact calm_updEnd _ c
  · rfl

theorem calm_updAbortAll : calm s.updAbortAll = calm s := by
  unfold State.updAbortAll
  split
  · refine (calm_updEnd _ _).trans (State.each_keeps calm _ _ (fun t d => ?_) s)
    exact calm_modDomX t d _
  · rfl

/-! ### Domains -/

/-- A domain's register and generation, with the event of a change of state. -/
theorem calm_domStat (d st : Nat) : calm (((s.setF (GATE_DOM_STAT_STATE d) st).bumpGen d).raise GATE_EVT_STATE_CHG) = calm s := by
  unfold State.raise
  rw [calm_high _ (by decide), calm_bumpGen, calm_high _ (high_add _ _ (by decide))]

theorem calm_setDom (d st : Nat) : calm (s.setDom d st) = calm s := by
  have hite {c : Prop} [Decidable c] (t u : State) (h : calm u = calm t) : calm (if c then u else t) = calm t := calm_ite h rfl
  have hswap (t : State) (c c' : Prop) [Decidable c] [Decidable c'] (k : Code) :
      calm (if c then t.swapEnd d .ok else if c' then t.swapEnd d k else t) = calm t :=
    calm_ite (calm_swapEnd t d _) (hite _ _ (calm_swapEnd t d _))
  unfold State.setDom
  dsimp only
  rw [hite _ _ (calm_dropManifest _ d), hite _ _ ((calm_dropManifest _ d).trans (calm_raise _ (show 0x400A0000 ≤ GATE_EVT_QUARANTINE.addr by decide))),
    State.when_keeps calm _ _ (fun t => calm_loadDrop t d), State.when_keeps calm _ _ (fun t => calm_abortReads t d),
    hite _ _ (State.each_keeps calm _ _ calm_chanOpen _), hite _ _ (State.each_keeps calm _ _ calm_chanClose _), hswap, calm_modDomX, calm_domStat,
    hite _ _ (State.each_keeps calm _ _ calm_swap _)]

theorem calm_holdDom (d : Nat) : calm (s.holdDom d) = calm s := by
  unfold State.holdDom
  dsimp only
  split
  · exact (calm_holdLines _ d).trans (calm_setDom s d _)
  · exact calm_setDom s d _

theorem calm_recEnd (d c : Nat) : calm (s.recEnd d c) = calm s := by
  unfold State.recEnd
  split
  · rfl
  · rw [calm_high _ (by decide), calm_high _ (by decide), calm_high _ (by decide)]
    rfl

/-! ### Keys, engines and the generator -/

theorem calm_low {f : Fld} (h : 0x40020000 ≤ f.addr ∧ f.addr < 0x40090000) (v : Nat) : calm (s.setF f v) = calm s := calm_setF s (farFld_low h) v

/-- A field of the engines' STAT registers. -/
theorem engStat_low (e lo wid : Nat) : 0x40020000 ≤ (⟨ENG_STAT (engBlk e), lo, wid⟩ : Fld).addr
    ∧ (⟨ENG_STAT (engBlk e), lo, wid⟩ : Fld).addr < 0x40090000 := by
  have := engBlk_lt e
  unfold ENG_STAT
  dsimp only
  omega

theorem calm_setEng (e : Nat) (o : Option EngOp) : calm (s.setEng e o) = calm s := calm_low _ (engStat_low e 0 4) _
theorem calm_setKmHold (e : Nat) (b : Bool) : calm (s.setKmHold e b) = calm s := calm_low s (engStat_low e 4 4) _

theorem calm_engStop (e : Nat) (c : Code) : calm (s.engStop e c) = calm s := by
  unfold State.engStop
  split
  · exact calm_setEng s e _
  · rfl

theorem calm_engRevoke (sel : Nat → Bool) : calm (s.engRevoke sel) = calm s := by
  refine State.each_keeps calm _ _ (fun t e => ?_) s
  split
  · split
    · exact calm_ite (calm_engStop t e _) rfl
    · rfl
  · rfl

theorem calm_modKeys (f : Keys → Keys) : calm (s.modKeys f) = calm s := rfl

theorem calm_setWk (e : Nat) (k : Option (Nat × Nat × List Byte)) : calm (s.setWk e k) = calm s := by
  have hwk : 0x40020000 ≤ (wkFld e).addr ∧ (wkFld e).addr < 0x40090000 := show 0x40020000 ≤ KEYS_WK ∧ KEYS_WK < 0x40090000 by decide
  have hloaded : 0x40020000 ≤ (ENG_STAT_WK_LOADED (engBlk e)).addr ∧ (ENG_STAT_WK_LOADED (engBlk e)).addr < 0x40090000 := engStat_low e 8 4
  unfold State.setWk State.setMapBit
  dsimp only
  rw [calm_low _ hloaded, calm_low _ hwk, calm_modKeys]

theorem calm_keyIdle : calm s.keyIdle = calm s := by
  unfold State.keyIdle State.holdEngines
  refine (State.each_keeps calm _ _ (fun t e => calm_setKmHold t e false) _).trans ?_
  rw [calm_low _ (by decide), calm_low _ (by decide), calm_modKeys]

theorem calm_keyCmdEnd (c : Code) : calm (s.keyCmdEnd c) = calm s := by
  unfold State.keyCmdEnd
  split
  · rfl
  · have hend (op r : Nat) : calm (s.keyIdle.cmdEnd keyIf op c r) = calm s := by
      unfold State.cmdEnd State.raise
      dsimp only [keyIf]
      rw [calm_low _ (by decide), calm_low _ (by decide), calm_low _ (by decide), calm_low _ (by decide), calm_keyIdle]
    exact calm_ite ((calm_low _ (by decide) 1).trans (hend _ _)) (calm_ite (hend _ _) ((calm_journal _ (by decide) _ _ _ _).trans (hend _ _)))

theorem calm_sealSlot (i : Nat) : calm (s.sealSlot i) = calm s := by
  have hbad : 0x40020000 ≤ (badFld i).addr ∧ (badFld i).addr < 0x40090000 := by
    unfold badFld
    split
    · exact show 0x40020000 ≤ KEYS_BAD_LO ∧ KEYS_BAD_LO < 0x40090000 by decide
    · exact show 0x40020000 ≤ KEYS_BAD_HI ∧ KEYS_BAD_HI < 0x40090000 by decide
  unfold State.sealSlot
  dsimp only
  exact calm_ite rfl (calm_low _ hbad 0)

theorem calm_forceErase (sel : Nat → Bool) : calm (s.forceErase sel) = calm s := by
  have hwks (t : State) : calm (t.each [0, 1, 2, 3] fun s e => if sel (rf s (wkFld e)) then s.setWk e none else s) = calm t :=
    State.each_keeps calm _ _ (fun u e => calm_ite (calm_setWk u e none) rfl) t
  unfold State.forceErase
  dsimp only
  rw [State.each_keeps calm _ _ calm_sealSlot]
  split
  · exact calm_ite ((calm_keyCmdEnd _ _).trans ((hwks _).trans (calm_engRevoke s sel))) ((hwks _).trans (calm_engRevoke s sel))
  · exact (hwks _).trans (calm_engRevoke s sel)

theorem calm_keySeal : calm s.keySeal = calm s := by
  unfold State.keySeal State.raise
  dsimp only
  rw [calm_low _ (by decide), calm_low _ (by decide), calm_forceErase]

theorem calm_modRng (f : Rng → Rng) : calm (s.modRng f) = calm s := rfl

theorem calm_showRng : calm s.showRng = calm s := by
  have hspare : farFld SYSCTL_SPARE_STAT_NOISE_SPARE := by
    unfold farFld
    decide
  unfold State.showRng State.setB State.raise
  dsimp only
  rw [calm_low _ (by decide), calm_setF _ hspare, calm_low _ (by decide)]
  exact calm_ite (calm_low s (by decide) 1) rfl

theorem calm_rngFlush : calm s.rngFlush = calm s := by
  unfold State.rngFlush State.raise
  rw [calm_low _ (by decide), calm_showRng, calm_low _ (by decide), calm_modRng]

theorem calm_rngZeroise : calm s.rngZeroise = calm s := by
  have hflushed : calm ((s.rngFlush.setF RNG_STAT_SEED_BUF 0).modRng fun r => { r with seed := [] }) = calm s := by
    rw [calm_modRng, calm_low _ (by decide), calm_rngFlush]
  unfold State.rngZeroise
  dsimp only
  refine calm_ite ?_ hflushed
  rw [calm_modRng, calm_low _ (by decide)]
  exact hflushed

theorem calm_keyZeroise : calm s.keyZeroise = calm s := by
  unfold State.keyZeroise State.raise
  dsimp only
  rw [calm_rngZeroise, calm_low _ (by decide), calm_low _ (by decide), calm_low _ (by decide), calm_modKeys, calm_forceErase, calm_keyCmdEnd]

/-! ### Entry to LOCKDOWN (R92) -/

theorem calm_sameCycle (f : State → State) : calm (s.sameCycle f) = calm (f s) := rfl

/-- What an entry to LOCKDOWN does once the mode has changed. -/
theorem calm_enterLockdown (cause : Nat) : calm (s.enterLockdown cause) = calm (s.setMode moLOCKDOWN) := by
  have hrec (t : State) (l : List Nat) : calm (t.each l fun s d => (s.setDom d stPARKED).recEnd d Code.aborted.val) = calm t :=
    State.each_keeps calm _ _ (fun u d => (calm_recEnd _ d _).trans (calm_setDom u d _)) t
  have hhold (t : State) (l : List Dom) : calm (t.each l fun s c =>
      if released s c.id || domState s c.id = stVERIFYING then s.holdDom c.id else s) = calm t := by
    refine State.each_keeps calm _ _ (fun u c => ?_) t
    split
    · exact calm_holdDom u c.id
    · rfl
  have hpin (t : State) : calm t.assertFault = calm t := calm_setF t (by unfold farFld; decide) 1
  have hcause : farFld SYSCTL_MODE_LD_CAUSE := by
    unfold farFld
    decide
  have hjobs : farFld SYSCTL_MODE_JOBS := by
    unfold farFld
    decide
  unfold State.enterLockdown
  rw [calm_sameCycle]
  dsimp only
  rw [calm_keySeal, calm_journalD _ (by decide), calm_setF _ hjobs, calm_setF _ hcause, hpin, hhold, hrec, calm_updAbortAll,
    calm_raise _ (by decide)]

theorem mode_setMode {m : Nat} (h : m < 8) : mode (s.setMode m) = m :=
  (rf_setF_ne _ _ _ _ (by decide)).trans ((rf_setF_same _ _ _ (by decide)).trans (Nat.mod_eq_of_lt h))

theorem lockdown_enterLockdown (cause : Nat) : lockdown (s.enterLockdown cause) = true :=
  decide_eq_true ((calm_mode (calm_enterLockdown s cause)).trans (mode_setMode s (by decide)))

/-- Everything of `calm` but the mode stays as LOCKDOWN is entered. -/
theorem enterLockdown_keeps (cause : Nat) : (s.enterLockdown cause).lodge = s.lodge ∧ (s.enterLockdown cause).lcs = s.lcs
    ∧ (s.enterLockdown cause).orang.keys = s.orang.keys ∧ ∀ a, calmReg a = true → reg (s.enterLockdown cause) a = reg s a := by
  have h := calm_enterLockdown s cause
  refine ⟨(calm_lodge h).trans rfl, (calm_lcs h).trans rfl, (calm_keys h).trans rfl, fun a ha => (calm_reg h ha).trans ?_⟩
  have hmode : SYSCTL_MODE ≠ a := fun e => by
    rw [← e] at ha
    exact absurd ha (by decide)
  have hgen : SYSCTL_MODE_GEN ≠ a := fun e => by
    rw [← e] at ha
    exact absurd ha (by decide)
  unfold State.setMode
  rw [reg_setF_ne _ _ _ _ hgen, reg_setF_ne _ _ _ _ hmode]

end

end Sys2Proof.Machine
end

section
/-! The vault byte by byte (R289, R396), what a zeroisation leaves in it (R398), and the rules of the Lodge on one sample (R401 to R408). -/

namespace Sys2Proof.Machine

variable (s : State)

/-! ### The bytes of the vault -/

def vaultByte (a : Nat) : Byte := Sparse.get vaultFill s.lodge.vault a

theorem vaultRead_eq (a n : Nat) : vaultRead s a n = (List.range n).map fun i => vaultByte s (a + i) := rfl

theorem vaultRead_congr {s t : State} {a n : Nat} (h : ∀ i, i < n → vaultByte t (a + i) = vaultByte s (a + i)) : vaultRead t a n = vaultRead s a n := by
  rw [vaultRead_eq, vaultRead_eq]
  exact List.map_congr_left fun i hi => h i (List.mem_range.mp hi)

/-- A byte in the table of vault bytes after a store at `a`. -/
theorem get_vaultPut (m : List Host.Cell) (a b : Nat) (bs : List Byte) : Sparse.get vaultFill (vaultPut m a bs) b =
    if a ≤ b ∧ b < a + bs.length then bs.getD (b - a) 0 else Sparse.get vaultFill m b := by
  induction bs generalizing m a with
  | nil => rw [if_neg (by simp only [List.length_nil]; omega)]; rfl
  | cons x xs ih =>
    show Sparse.get vaultFill (vaultPut (Sparse.put vaultFill m a x) (a + 1) xs) b = _
    rw [ih, Sparse.get_put, List.length_cons]
    by_cases hb : b = a
    · subst hb
      rw [if_neg (by omega), if_pos rfl, if_pos (by omega), Nat.sub_self]
      rfl
    · rw [if_neg hb]
      by_cases hin : a + 1 ≤ b ∧ b < a + 1 + xs.length
      · rw [if_pos hin, if_pos (by omega), show b - a = b - (a + 1) + 1 by omega, List.getD_cons_succ]
      · rw [if_neg hin, if_neg (by omega)]

/-- The vault's registers follow it, and nothing else moves. -/
theorem showVault_lodge : s.showVault.lodge = s.lodge := rfl

theorem vaultByte_vaultWrite (a b : Nat) (bs : List Byte) : vaultByte (s.vaultWrite a bs) b =
    if a ≤ b ∧ b < a + bs.length then bs.getD (b - a) 0 else vaultByte s b := get_vaultPut _ _ _ _

theorem vaultByte_vaultClear (lo hi b : Nat) : vaultByte (s.vaultClear lo hi) b =
    if lo ≤ b ∧ b < hi then vaultFill b else vaultByte s b := by
  have hclear := Sparse.get_clear (d := vaultFill) (fun a => decide (lo ≤ a) && decide (a < hi)) s.lodge.vault b
  refine hclear.trans ?_
  simp only [Bool.and_eq_true, decide_eq_true_eq]
  rfl

theorem vaultRead_vaultClear {lo hi a n : Nat} (h : lo ≤ a ∧ a + n ≤ hi) (ha : 2 ≤ a) :
    vaultRead (s.vaultClear lo hi) a n = List.replicate n 0 := by
  rw [vaultRead_eq, List.eq_replicate_iff]
  refine ⟨by simp, fun x hx => ?_⟩
  obtain ⟨i, hi, rfl⟩ := List.mem_map.mp hx
  have hlt := List.mem_range.mp hi
  rw [vaultByte_vaultClear, if_pos (by omega), vaultFill, if_neg (by omega)]

/-- A zeroisation: the mark and its cause at the front, zeros where the secrets stood (R398). -/
theorem vaultZeroise_bytes (cause : Nat) : vaultRead (s.vaultZeroise cause) 0 2 = [0x5A, BitVec.ofNat 8 cause]
    ∧ vaultRead (s.vaultZeroise cause) 8 68 = List.replicate 68 0 := by
  have hmark (u : State) (n : Nat) : vaultRead (u.vaultWrite 0 ([0x5A, BitVec.ofNat 8 cause, 0, 0] ++ leBytes 4 n)) 0 2
      = [0x5A, BitVec.ofNat 8 cause] := by
    rw [vaultRead_eq]
    simp [List.range_succ, vaultByte_vaultWrite, leBytes_length]
  have hbehind (u : State) (n b : Nat) (hb : 8 ≤ b) : vaultByte (u.vaultWrite 0 ([0x5A, BitVec.ofNat 8 cause, 0, 0] ++ leBytes 4 n)) b = vaultByte u b := by
    rw [vaultByte_vaultWrite, if_neg]
    rw [List.length_append, leBytes_length]
    simp only [List.length_cons, List.length_nil]
    omega
  unfold State.vaultZeroise
  dsimp only
  refine ⟨hmark _ _, ?_⟩
  rw [← vaultRead_vaultClear (s.modLodge fun l => { l with lost := false }) (lo := 8) (hi := 76) (a := 8) (n := 68) (by omega) (by omega)]
  refine vaultRead_congr fun i hi => ?_
  rw [hbehind _ _ _ (by omega)]
  split
  · rw [vaultByte_vaultClear, if_neg (by omega), vaultByte_vaultClear, if_neg (by omega)]
  · rw [vaultByte_vaultClear, if_neg (by omega)]

/-! ### What the vault's writes leave -/

/-- A store in the vault shows in STAT.VAULT and EVT_TOTAL alone. -/
theorem rf_showVault {g : Fld} (hv : LODGE_STAT_VAULT.apart g) (ht : LODGE_EVT_TOTAL_TOTAL.apart g) : rf s.showVault g = rf s g := by
  unfold State.showVault
  rw [rf_setF_ne _ _ _ _ ht, rf_setF_ne _ _ _ _ hv]

theorem rf_vaultWrite {g : Fld} (hv : LODGE_STAT_VAULT.apart g) (ht : LODGE_EVT_TOTAL_TOTAL.apart g) (a : Nat) (bs : List Byte) :
    rf (s.vaultWrite a bs) g = rf s g := rf_showVault _ hv ht

theorem rf_vaultClear {g : Fld} (hv : LODGE_STAT_VAULT.apart g) (ht : LODGE_EVT_TOTAL_TOTAL.apart g) (lo hi : Nat) :
    rf (s.vaultClear lo hi) g = rf s g := rf_showVault _ hv ht

theorem rf_vaultZeroise {g : Fld} (hv : LODGE_STAT_VAULT.apart g) (ht : LODGE_EVT_TOTAL_TOTAL.apart g) (cause : Nat) :
    rf (s.vaultZeroise cause) g = rf s g := by
  unfold State.vaultZeroise
  dsimp only
  rw [rf_vaultWrite _ hv ht]
  split <;> simp only [rf_vaultClear _ hv ht, rf_modLodge]

/-! ### Zeroisation (R398) -/

/-- What a zeroisation leaves once the vault is cleared: the Lodge but for a trigger that waits, the life cycle and their registers; a mode
in which domains run turns to LOCKDOWN. -/
structure Zeroised (u t : State) : Prop where
  vault : t.lodge.vault = u.lodge.vault
  rules : t.lodge.rules = u.lodge.rules
  lcs : t.lcs = u.lcs
  orang : t.orang.keys = u.orang.keys
  regs : ∀ a, calmReg a = true → reg t a = reg u a
  locked : modeRun u = true → lockdown t = true

theorem lodgeTrigger_zeroised (cause : Nat) : Zeroised s (s.lodgeTrigger cause) := by
  unfold State.lodgeTrigger
  by_cases hrun : modeRun s = true
  · obtain ⟨hlodge, hlcs, hkeys, hregs⟩ := enterLockdown_keeps s cause
    rw [if_pos hrun]
    exact ⟨congrArg (·.vault) hlodge, congrArg (·.rules) hlodge, hlcs, hkeys, hregs, fun _ => lockdown_enterLockdown s cause⟩
  · rw [if_neg hrun]
    split
    · exact ⟨rfl, rfl, rfl, rfl, fun _ _ => rfl, fun h => absurd h hrun⟩
    · exact ⟨rfl, rfl, rfl, rfl, fun _ _ => rfl, fun h => absurd h hrun⟩

theorem modeRun_congr {s t : State} (h : mode t = mode s) : modeRun t = modeRun s := by rw [modeRun, modeRun, h]

/-- The state of a zeroisation once the vault is cleared. -/
def State.vaultZeroised (s : State) (cause : Nat) : State := (s.vaultZeroise cause).raise LODGE_EVT_ZEROISED

theorem zeroise_zeroised (cause : Nat) : Zeroised (s.vaultZeroised cause) (s.zeroise cause) := by
  unfold State.zeroise
  show Zeroised (s.vaultZeroised cause) (if mode (s.vaultZeroised cause) = moDORMANT then s.vaultZeroised cause
    else (s.vaultZeroised cause).sameCycle fun s => s.keyZeroise.lodgeTrigger 3)
  generalize s.vaultZeroised cause = u
  split
  · rename_i hdorm
    have hnot : modeRun u = false := by
      rw [modeRun, hdorm]
      rfl
    exact ⟨rfl, rfl, rfl, rfl, fun _ _ => rfl, fun h => absurd (hnot.symm.trans h) (by decide)⟩
  · have hkeys := calm_keyZeroise u
    obtain ⟨hvault, hrules, hlcs, hok, hregs, hlocked⟩ := lodgeTrigger_zeroised u.keyZeroise 3
    exact ⟨hvault.trans (congrArg (·.vault) (calm_lodge hkeys)), hrules.trans (congrArg (·.rules) (calm_lodge hkeys)), hlcs.trans (calm_lcs hkeys),
      hok.trans (calm_keys hkeys), fun a ha => (hregs a ha).trans (calm_reg hkeys ha),
      fun h => hlocked ((modeRun_congr (calm_mode hkeys)).trans h)⟩

theorem vaultZeroised_mode (cause : Nat) : mode (s.vaultZeroised cause) = mode s :=
  (rf_setF_ne _ _ _ _ (by decide)).trans (rf_vaultZeroise s (by decide) (by decide) cause)

theorem vaultByte_zeroise (cause b : Nat) : vaultByte (s.zeroise cause) b = vaultByte (s.vaultZeroise cause) b :=
  congrArg (Sparse.get vaultFill · b) (zeroise_zeroised s cause).vault

theorem zeroise_locks (cause : Nat) (h : modeRun s = true) : lockdown (s.zeroise cause) = true :=
  (zeroise_zeroised s cause).locked ((modeRun_congr (vaultZeroised_mode s cause)).trans h)

/-- A register of the Lodge or the life cycle that the clearing of the vault leaves. -/
theorem rf_zeroise {g : Fld} (hg : calmReg g.addr = true) (hv : LODGE_STAT_VAULT.apart g) (ht : LODGE_EVT_TOTAL_TOTAL.apart g)
    (hz : LODGE_EVT_ZEROISED.apart g) (cause : Nat) : rf (s.zeroise cause) g = rf s g :=
  (rf_congr_reg ((zeroise_zeroised s cause).regs _ hg)).trans ((rf_setF_ne _ _ _ _ hz).trans (rf_vaultZeroise s hv ht cause))

theorem zeroise_evt (cause : Nat) : rb (s.zeroise cause) LODGE_EVT_ZEROISED = true := by
  have h : rf (s.zeroise cause) LODGE_EVT_ZEROISED = rf (s.vaultZeroised cause) LODGE_EVT_ZEROISED :=
    rf_congr_reg ((zeroise_zeroised s cause).regs _ (by decide))
  exact (rb_of_rf h).trans (rb_raise_same _ rfl (by decide))

/-! ### Events and actions of a rule (R406, R408) -/

/-- An entry of the ring leaves the bytes in front of EVT_TOTAL. -/
theorem vaultByte_lodgeEvent (src r act v b : Nat) (hb : b < 76) : vaultByte (s.lodgeEvent src r act v) b = vaultByte s b := by
  unfold State.lodgeEvent
  dsimp only
  rw [vaultByte_vaultWrite, if_neg (by omega), vaultByte_vaultWrite, if_neg (by omega)]

/-- EVT_TOTAL shows the counter in the vault. -/
theorem vaultWrite_total (a : Nat) (bs : List Byte) : rf (s.vaultWrite a bs) LODGE_EVT_TOTAL_TOTAL =
    fieldAt (vaultRead (s.vaultWrite a bs) 76 4) 0 4 % 2 ^ LODGE_EVT_TOTAL_TOTAL.wid := by
  have hread : vaultRead (s.vaultWrite a bs) 76 4 = vaultRead (s.modLodge fun l => { l with vault := vaultPut l.vault a bs }) 76 4 := rfl
  rw [hread, State.vaultWrite, State.showVault, rf_setF_same _ _ _ (by decide)]

theorem vaultRead_counter (n : Nat) : fieldAt (vaultRead (s.vaultWrite 76 (leBytes 4 n)) 76 4) 0 4 = n % 256 ^ 4 := by
  have hbytes : vaultRead (s.vaultWrite 76 (leBytes 4 n)) 76 4 = leBytes 4 n := by
    rw [vaultRead_eq]
    simp [List.range_succ, vaultByte_vaultWrite, leBytes]
  have hwhole := slice_whole (leBytes 4 n)
  rw [leBytes_length] at hwhole
  rw [hbytes, fieldAt, hwhole, leNat_leBytes]

/-- An entry counts in EVT_TOTAL, up to its largest value. -/
theorem lodgeEvent_total (src r act v : Nat) : rf (s.lodgeEvent src r act v) LODGE_EVT_TOTAL_TOTAL =
    min (fieldAt (vaultRead s 76 4) 0 4 + 1) 0xFFFFFFFF := by
  unfold State.lodgeEvent
  dsimp only
  rw [vaultWrite_total, vaultRead_counter, show LODGE_EVT_TOTAL_TOTAL.wid = 32 from rfl]
  generalize fieldAt (vaultRead s 76 4) 0 4 = n
  omega

theorem rf_lodgeEvent {g : Fld} (hv : LODGE_STAT_VAULT.apart g) (ht : LODGE_EVT_TOTAL_TOTAL.apart g) (src r act v : Nat) :
    rf (s.lodgeEvent src r act v) g = rf s g := by
  unfold State.lodgeEvent
  dsimp only
  rw [rf_vaultWrite _ hv ht, rf_vaultWrite _ hv ht]

/-- A rule whose ACTION asks for neither WAKE nor LOCKDOWN fires: its bit, the event and an entry of the ring. -/
theorem ruleAct_fires {e : LRule} (hw : e.action.testBit 1 = false) (hl : e.action.testBit 2 = false) (now : Bool) (r v : Nat) :
    s.ruleAct now r e v = ((s.setMapBit LODGE_FIRED_FIRED r true).raise LODGE_EVT_FIRE).lodgeEvent e.source r e.action v := by
  unfold State.ruleAct
  rw [hw, hl]
  rfl

theorem ruleAct_shows {e : LRule} (hw : e.action.testBit 1 = false) (hl : e.action.testBit 2 = false) (now : Bool) {r : Nat} (hr : r < 32) (v : Nat) :
    let t := s.ruleAct now r e v
    ruleFired t r = true ∧ rb t LODGE_EVT_FIRE = true ∧ rf t LODGE_EVT_TOTAL_TOTAL = min (fieldAt (vaultRead s 76 4) 0 4 + 1) 0xFFFFFFFF
      ∧ rb t LODGE_EVT_ZEROISED = rb s LODGE_EVT_ZEROISED ∧ mode t = mode s ∧ ∀ b, b < 76 → vaultByte t b = vaultByte s b := by
  dsimp only
  rw [ruleAct_fires s hw hl]
  refine ⟨?_, ?_, lodgeEvent_total _ _ _ _ _, ?_, ?_, fun b hb => vaultByte_lodgeEvent _ _ _ _ _ b hb⟩
  · refine (mapBit_congr (rf_lodgeEvent _ (by decide) (by decide) _ _ _ _) r).trans ((mapBit_congr (rf_setF_ne _ _ _ _ (by decide)) r).trans ?_)
    exact mapBit_setMapBit_same s true hr (by decide)
  · exact (rb_of_rf (rf_lodgeEvent _ (by decide) (by decide) _ _ _ _)).trans (rb_raise_same _ rfl (by decide))
  · exact (rb_of_rf (rf_lodgeEvent _ (by decide) (by decide) _ _ _ _)).trans ((rb_raise_ne _ (by decide)).trans (rb_setF_ne _ _ _ _ (by decide)))
  · exact (rf_lodgeEvent _ (by decide) (by decide) _ _ _ _).trans ((rf_setF_ne _ _ _ _ (by decide)).trans (rf_setF_ne _ _ _ _ (by decide)))

end Sys2Proof.Machine
end

section
/-! The Lodge's rails, samples and commands (O52; R395, R401, R405, R411). -/

namespace Sys2Proof.Machine

variable {s : State}

/-! ### Samples -/

theorem setPairs_keeps {β : Type} (f : State → β) (h : ∀ s v, f (State.modLodge s fun l => { l with mesh := v }) = f s) (l : List Nat) (s : State) :
    f (s.each l fun s p => s.setPair p 1) = f s :=
  State.each_keeps f l (fun s p => s.setPair p 1) (fun _ _ => h _ _) s

/-- A mesh sample without a failing pair moves the mesh alone (R402). -/
theorem meshSample_sound (s : State) : s.meshSample 0 0 = (false, (s.each ((List.range 8).filter (pairUsed s)) fun s p => s.setPair p 1).showMesh) := by
  unfold State.meshSample
  simp

theorem rf_showMesh {g : Fld} (hm : g.addr ≠ LODGE_MESH) (hl : LODGE_STAT_MESH_SPARE.apart g) (hs : SYSCTL_SPARE_STAT_MESH_SPARE.apart g)
    (s : State) : rf s.showMesh g = rf s g := by
  unfold State.showMesh
  rw [rf_setF_ne _ _ _ _ hs, rf_setF_ne _ _ _ _ hl, rf_setReg_ne _ _ _ _ hm]

/-- The state of a burst that finds the mesh sound, as the rules meet it: `last` is the last read (R401). -/
def State.burstRead (s : State) (t : LRules) (last : Nat) (g : Bool) : State :=
  ((((s.setB LODGE_SENSE_GLITCH g).setF LODGE_SENSE_CASE_LVL (bitsAt last 0 4 &&& bitsAt t.caseCfg 0 4)).setB LODGE_SENSE_TRANSIT_LVL
    (last.testBit 4)).setB LODGE_STAT_TRANSIT (transitOn t last)).meshSample 0 0 |>.2

/-- What that burst leaves to the rules: their table and samples, the vault, the mode and the Lodge's events. -/
structure BurstRead (s u : State) (t : LRules) (last : Nat) : Prop where
  vault : u.lodge.vault = s.lodge.vault
  rules : u.lodge.rules = s.lodge.rules
  windows : u.lodge.windows = s.lodge.windows
  fired : rf u LODGE_FIRED_FIRED = rf s LODGE_FIRED_FIRED
  rail : railVbat u = railVbat s
  mode : mode u = mode s
  cases : rf u LODGE_SENSE_CASE_LVL = (bitsAt last 0 4 &&& bitsAt t.caseCfg 0 4)
  level : rb u LODGE_SENSE_TRANSIT_LVL = last.testBit 4
  transit : rb u LODGE_STAT_TRANSIT = transitOn t last

theorem burstRead_keeps (s : State) (t : LRules) (last : Nat) (g : Bool) : BurstRead s (s.burstRead t last g) t last := by
  unfold State.burstRead
  rw [meshSample_sound]
  have hlodge {β : Type} (f : Lodge → β) (hf : ∀ l v, f { l with mesh := v } = f l) (u : State) (l : List Nat) :
      f ((u.each l fun s p => s.setPair p 1).showMesh).lodge = f u.lodge :=
    setPairs_keeps (fun s => f s.lodge) (fun _ _ => hf _ _) l u
  have hrf {f : Fld} (hm : f.addr ≠ LODGE_MESH) (hl : LODGE_STAT_MESH_SPARE.apart f) (hs : SYSCTL_SPARE_STAT_MESH_SPARE.apart f) (u : State) (l : List Nat) :
      rf (u.each l fun s p => s.setPair p 1).showMesh f = rf u f :=
    (rf_showMesh hm hl hs _).trans (setPairs_keeps (rf · f) (fun _ _ => rfl) l u)
  have hcases : (bitsAt last 0 4 &&& bitsAt t.caseCfg 0 4) % 2 ^ 4 = (bitsAt last 0 4 &&& bitsAt t.caseCfg 0 4) :=
    Nat.mod_eq_of_lt (Nat.and_lt_two_pow _ (bitsAt_lt _ _ _))
  refine ⟨hlodge (·.vault) (fun _ _ => rfl) _ _, hlodge (·.rules) (fun _ _ => rfl) _ _, hlodge (·.windows) (fun _ _ => rfl) _ _, ?_, ?_, ?_, ?_, ?_, ?_⟩
  · rw [hrf (by decide) (by decide) (by decide)]
    unfold State.setB
    rw [rf_setF_ne _ _ _ _ (by decide), rf_setF_ne _ _ _ _ (by decide), rf_setF_ne _ _ _ _ (by decide), rf_setF_ne _ _ _ _ (by decide)]
  · refine rb_of_rf (Eq.trans (hrf (by decide) (by decide) (by decide) _ _) ?_)
    unfold State.setB
    rw [rf_setF_ne _ _ _ _ (by decide), rf_setF_ne _ _ _ _ (by decide), rf_setF_ne _ _ _ _ (by decide), rf_setF_ne _ _ _ _ (by decide)]
  · refine Eq.trans (hrf (by decide) (by decide) (by decide) _ _) ?_
    unfold State.setB
    rw [rf_setF_ne _ _ _ _ (by decide), rf_setF_ne _ _ _ _ (by decide), rf_setF_ne _ _ _ _ (by decide), rf_setF_ne _ _ _ _ (by decide)]
    rfl
  · rw [hrf (by decide) (by decide) (by decide)]
    unfold State.setB
    rw [rf_setF_ne _ _ _ _ (by decide), rf_setF_ne _ _ _ _ (by decide), rf_setF_same _ _ _ (by decide)]
    exact hcases
  · refine (rb_of_rf (hrf (by decide) (by decide) (by decide) _ _)).trans ((rb_setB_ne _ _ (by decide)).trans (rb_setB_same _ _ (by decide) (by decide)))
  · exact (rb_of_rf (hrf (by decide) (by decide) (by decide) _ _)).trans (rb_setB_same _ _ (by decide) (by decide))

/-- Rules none of which is sampled leave the state as it is. -/
theorem rulesSample_none (h : lRules s = []) (sel cond : LRule → Bool) (value : LRule → Nat) : s.rulesSample sel cond value = s := by
  unfold State.rulesSample
  rw [h]
  rfl

/-- A single rule that is sampled and fires: it takes the sample, a ZEROISE acts first, and then the rule (R405, R406). -/
theorem rulesSample_one {e : LRule} (h : lRules s = [e]) {sel cond : LRule → Bool} {value : LRule → Nat} (hs : sel e = true)
    (ha : ruleApplies s e = true) (hf : ruleFires s 0 e (cond e) = true) : s.rulesSample sel cond value =
      (if e.action.testBit 3 then (s.ruleSample 0 e (cond e)).zeroise 0 else s.ruleSample 0 e (cond e)).ruleAct (locksNow s) 0 e (value e) := by
  unfold State.rulesSample
  rw [h]
  by_cases hz : e.action.testBit 3 = true <;> simp [hs, ha, hf, hz, State.each]

/-- A rule of the transit input fires on the first read that shows the condition, with K of 1 and no sample before. -/
theorem ruleFires_first {r : Nat} {e : LRule} (hf : ruleFired s r = false) (hw : ruleWindow s r = []) (hn : 1 ≤ e.n) (hk : e.k = 1) :
    ruleFires s r e true = true := by
  obtain ⟨m, hm⟩ : ∃ m, e.n = m + 1 := ⟨e.n - 1, by omega⟩
  simp [ruleFires, hf, hw, hk, hm]

end Sys2Proof.Machine
end

section
/-! The Lodge's bursts and commands as the statement O52 asks for them. -/

namespace Sys2Proof.Machine

variable {s : State}

/-- The rules that a burst samples: mesh, glitch, transit and case inputs. -/
def burstSel (e : LRule) : Bool := e.source = 0x01 || e.source = 0x31 || e.source = 0x40 || (0x10 ≤ e.source && e.source ≤ 0x13)

/-- What a burst with a sound mesh shows such a rule. -/
def burstCond (t : LRules) (last : Nat) (g : Bool) (e : LRule) : Bool :=
  if e.source = 0x01 then false
  else if e.source = 0x31 then g
  else if e.source = 0x40 then allReads e.debounce [last] (transitOn t)
  else allReads e.debounce [last] (caseOpen t (e.source - 0x10))

/-- The value that such a rule's event carries. -/
def burstValue (t : LRules) (last : Nat) (e : LRule) : Nat :=
  if e.source = 0x01 then 0 else if 0x10 ≤ e.source && e.source ≤ 0x13 then bitsAt last 0 4 &&& bitsAt t.caseCfg 0 4 else 0

theorem exec_meshBurst {t : LRules} (hs : s.lodge.sampling = true) (hr : s.lodge.rules = some t) (last : Nat) (g : Bool) :
    exec (.meshBurst 0 0 [last] g) s = .next ((s.burstRead t last g).rulesSample burstSel (burstCond t last g) (burstValue t last)) := by
  have hrules : (s.setB LODGE_SENSE_GLITCH g).lodge.rules = some t := hr
  show execMeshBurst 0 0 [last] g s = _
  unfold execMeshBurst State.burstRead
  rw [hs, if_neg (by decide)]
  dsimp only
  rw [hrules]
  have hlast : [last].getD ([last].length - 1) 0 = last := rfl
  simp only [hlast, meshSample_sound, Nat.zero_testBit, Bool.or_self, List.filter_false]
  rfl

theorem allReads_one (d : Nat) (last : Nat) {c : Nat → Bool} (h : c last = true) : allReads d [last] c = true := by
  unfold allReads
  refine List.all_eq_true.mpr fun i _ => ?_
  cases i <;> exact h

theorem burstCond_transit {t : LRules} {last : Nat} {e : LRule} (he : e.source = 0x40) (h : transitOn t last = true) (g : Bool) :
    burstCond t last g e = true := by
  unfold burstCond
  rw [he]
  exact allReads_one _ _ h

theorem action_bit {a i : Nat} (hi : i < 4) : a.testBit i = (a % 16).testBit i := by
  rw [show 16 = 2 ^ 4 from rfl, Nat.testBit_mod_two_pow, decide_eq_true hi, Bool.true_and]

theorem ruleSample_vault (u : State) (r : Nat) (e : LRule) (one : Bool) : (u.ruleSample r e one).lodge.vault = u.lodge.vault := rfl
theorem mode_ruleSample (u : State) (r : Nat) (e : LRule) (one : Bool) : mode (u.ruleSample r e one) = mode u := rfl

/-- A lone transit rule that fires on a burst: what the rules meet, and the rule that acts on it. -/
theorem meshBurst_fires {t0 : LRules} {e : LRule} {last : Nat} (hs : s.lodge.sampling = true) (hr : s.lodge.rules = some t0) (hone : t0.rules = [e])
    (hsrc : e.source = 0x40) (happ : ruleApplies s e = true) (hfired : ruleFired s 0 = false) (hwin : ruleWindow s 0 = []) (hn : 1 ≤ e.n)
    (hk : e.k = 1) (ht : transitOn t0 last = true) : ∃ (u : State) (now : Bool) (v : Nat),
      u.lodge.vault = s.lodge.vault ∧ mode u = mode s ∧ exec (.meshBurst 0 0 [last] false) s =
        .next ((if e.action.testBit 3 then u.zeroise 0 else u).ruleAct now 0 e v) := by
  have hexec := exec_meshBurst hs hr last false
  have hread := burstRead_keeps s t0 last false
  have hrules : lRules (s.burstRead t0 last false) = [e] := by
    unfold lRules
    rw [hread.rules, hr]
    exact hone
  have hcond : burstCond t0 last false e = true := burstCond_transit hsrc ht false
  have hfires : ruleFires (s.burstRead t0 last false) 0 e (burstCond t0 last false e) = true := by
    rw [hcond]
    refine ruleFires_first ((mapBit_congr hread.fired 0).trans hfired) ?_ hn hk
    rw [ruleWindow, hread.windows]
    exact hwin
  have happ' : ruleApplies (s.burstRead t0 last false) e = true := by
    rw [ruleApplies, hread.rail]
    exact happ
  have hsel : burstSel e = true := by simp [burstSel, hsrc]
  rw [rulesSample_one hrules hsel happ' hfires] at hexec
  exact ⟨_, _, _, (ruleSample_vault _ _ _ _).trans hread.vault, (mode_ruleSample _ _ _ _).trans hread.mode, hexec⟩

/-! ### Outcomes of commands (R411) -/

theorem lodgeIf_shows : lodgeIf.Shows where
  byte := rfl
  bound := by decide
  done := by decide
  result := by
    rintro f ⟨⟩
    decide

theorem lodgeEnd_keeps {β : Type} (f : State → β) (hend : ∀ s op c r, f (State.cmdEnd s lodgeIf op c r) = f s)
    (hj : ∀ s c, f (State.journal s 6 411 srcLODGE noUnit c) = f s) (s : State) (op : Nat) (c : Code) (r : Nat) : f (s.lodgeEnd op c r) = f s := by
  unfold State.lodgeEnd
  dsimp only
  split
  · exact hend _ _ _ _
  · exact (hj _ _).trans (hend _ _ _ _)

@[simp] theorem lodgeEnd_lodge (s : State) (op : Nat) (c : Code) (r : Nat) : (s.lodgeEnd op c r).lodge = s.lodge :=
  lodgeEnd_keeps State.lodge (fun _ _ _ _ => State.cmdEnd_lodge ..) (fun _ _ => State.journalD_lodge ..) s op c r

theorem rf_lodgeEnd {g : Fld} (hs : LODGE_CMD_STAT ≠ g.addr) (he : LODGE_EVT_CMD_DONE.apart g) (hj : offJournal g.addr) (s : State) (op : Nat)
    (c : Code) (r : Nat) : rf (s.lodgeEnd op c r) g = rf s g := by
  refine lodgeEnd_keeps (rf · g) (fun s op c r => ?_) (fun s c => rf_journal _ _ _ _ _ _ _ (by decide) hj) s op c r
  unfold State.cmdEnd State.raise
  dsimp only [lodgeIf]
  rw [rf_setF_ne _ _ _ _ he, rf_setF_ne _ _ _ _ (.inl hs), rf_setF_ne _ _ _ _ (.inl hs), rf_setF_ne _ _ _ _ (.inl hs)]

theorem lodgeEnd_status (s : State) (op : Nat) (c : Code) (r : Nat) : rf (s.lodgeEnd op c r) LODGE_CMD_STAT_LAST_STATUS = c.val := by
  have hshown (s : State) (op r : Nat) : rf (s.cmdEnd lodgeIf op c r) LODGE_CMD_STAT_LAST_STATUS = c.val := rf_cmdEnd_status s lodgeIf_shows op c r
  unfold State.lodgeEnd
  dsimp only
  split
  · exact hshown _ _ _
  · rw [rf_journal _ _ _ _ _ _ _ (by decide) (.inl (by decide))]
    exact hshown _ _ _

/-! ### A brownout (R395) -/

theorem vaultLoss_shows (s : State) : s.vaultLoss.lodge.lost = true ∧ s.vaultLoss.lodge.sampling = s.lodge.sampling
    ∧ rf s.vaultLoss LODGE_STAT_VAULT = vrCORRUPT ∧ s.vaultLoss.keys = s.keys := by
  have hreport (u : State) (h : u.lodge.lost = true) : rf u.showVault LODGE_STAT_VAULT = vrCORRUPT := by
    unfold State.showVault vaultReport
    rw [rf_setF_ne _ _ _ _ (by decide), rf_setF_same _ _ _ (by decide), h]
    rfl
  unfold State.vaultLoss
  generalize (List.range 4096).map _ = bytes
  exact ⟨rfl, rfl, hreport _ rfl, rfl⟩

/-- Settles O52. Levels of CASE inputs that the rules leave off read 0 (log 138); a wake on VDD_AON raises its event alone (log 140). -/
theorem lodgeActs : Obligations.LodgeActs := by
  unfold Obligations.LodgeActs
  intro s
  refine ⟨fun h => ?_, fun h => ?_, fun mv h => ⟨fun hmv => ?_, fun hlo hhi => ?_, fun hmv => ?_⟩, rfl, fun one both reads g temps mvs h => ⟨?_, ?_⟩,
    fun one both reads g temp mv hs hr => ⟨?_, ?_⟩, fun t0 last g hs hr hnone => ?_, ?fire, fun len t0 hm ha hsec => ?_, fun len i hsec => ?_, fun h => ?_,
    fun h => ?_, fun n => ⟨fun h1 h11 => ?_, fun h => ?_⟩, fun r hr hlen hl => ?_, fun r hlen hl => ?_⟩
  · refine ⟨(s.raise LODGE_STAT_RAIL).raise LODGE_EVT_RAIL_CHG, ?_, ?_, rb_raise_same _ rfl (by decide), rfl⟩
    · show execRailToVbat s = _
      rw [execRailToVbat, h]
      rfl
    · exact (rb_raise_ne _ (by decide)).trans (rb_raise_same _ rfl (by decide))
  · refine ⟨((s.setF LODGE_STAT_RAIL 0).raise LODGE_EVT_RAIL_CHG).modLodge fun l => { l with sampling := true }, ?_, ?_, rfl⟩
    · show execRailToVddAon s = _
      rw [execRailToVddAon, h]
      rfl
    · rw [railVbat, rb_modLodge, rb_raise_ne _ (by decide)]
      exact rb_setF_zero _ (by decide)
  · show execVbatBrownout mv s = _
    simp [execVbatBrownout, h, show ¬ mv < 2400 by omega, show ¬ mv < 2000 by omega, show ¬ mv < 1600 by omega]
  · refine ⟨(s.setF LODGE_STAT_VBAT_OK 0).modLodge fun l => { l with sampling := false }, ?_, rfl, ?_⟩
    · show execVbatBrownout mv s = _
      simp [execVbatBrownout, h, show mv < 2400 by omega, hhi, show ¬ mv < 1600 by omega]
    · rw [rb_modLodge]
      exact rb_setF_zero _ (by decide)
  · obtain ⟨hlost, hsamp, hrep, hkeys⟩ := vaultLoss_shows ((s.setF LODGE_STAT_VBAT_OK 0).modLodge fun l => { l with sampling := false })
    refine ⟨_, ?_, hlost, hsamp, hrep, hkeys⟩
    show execVbatBrownout mv s = _
    simp [execVbatBrownout, h, show mv < 2400 by omega, show mv < 2000 by omega, hmv]
  · show execMeshBurst one both reads g s = _
    simp [execMeshBurst, h]
  · show execSensorSample temps mvs s = _
    simp [execSensorSample, h]
  · show execMeshBurst one both reads g s = _
    simp [execMeshBurst, hs, hr, State.setB]
  · refine ⟨(s.setF LODGE_SENSE_VBAT_MV mv).setB LODGE_STAT_VBAT_OK (decide (2400 ≤ mv)), ?_, ?_, ?_, rfl⟩
    · show execSensorSample [temp] [mv] s = _
      simp [execSensorSample, hs, hr, State.setB]
    · rw [State.setB, rf_setF_ne _ _ _ _ (by decide), rf_setF_same _ _ _ (by decide)]
    · exact rb_setB_same _ _ (by decide) (by decide)
  · have hexec := exec_meshBurst hs hr last g
    have hread := burstRead_keeps s t0 last g
    have hrules : lRules (s.burstRead t0 last g) = [] := by
      unfold lRules
      rw [hread.rules, hr]
      exact hnone
    rw [rulesSample_none hrules] at hexec
    exact ⟨_, hexec, hread.cases, hread.level, hread.transit, hread.vault⟩
  case fire =>
    intro t0 e last hs hr hone hsrc happ hfired hwin hn hk ht
    obtain ⟨u, now, v, hvault, hmode, hexec⟩ := meshBurst_fires hs hr hone hsrc happ hfired hwin hn hk ht
    have hbit (a : Nat) (ha : e.action % 16 = a) (i : Nat) (hi : i < 4) : e.action.testBit i = a.testBit i := by rw [action_bit hi, ha]
    constructor <;> intro ha <;> have hb := hbit _ ha
    · obtain ⟨hfire, hevt, htotal, -⟩ := ruleAct_shows u (hb 1 (by decide)) (hb 2 (by decide)) now (show 0 < 32 by decide) v
      rw [hb 3 (by decide), if_neg (by decide)] at hexec
      refine ⟨_, hexec, hfire, hevt, htotal.trans ?_⟩
      rw [vaultRead_congr (s := s) (t := u) fun i _ => congrArg (Sparse.get vaultFill · (76 + i)) hvault]
    · obtain ⟨hfire, -, -, hz, hm, hbytes⟩ := ruleAct_shows (u.zeroise 0) (hb 1 (by decide)) (hb 2 (by decide)) now (show 0 < 32 by decide) v
      obtain ⟨hmark, hclear⟩ := vaultZeroise_bytes u 0
      have hread {b n : Nat} (hbn : b + n ≤ 76) : vaultRead ((u.zeroise 0).ruleAct now 0 e v) b n = vaultRead (u.vaultZeroise 0) b n :=
        vaultRead_congr fun i hi => (hbytes (b + i) (by omega)).trans (vaultByte_zeroise u 0 (b + i))
      rw [hb 3 (by decide), if_pos (by decide)] at hexec
      refine ⟨_, hexec, hfire, hz.trans (zeroise_evt u 0), (hread (by decide)).trans hmark, (hread (by decide)).trans hclear, fun hrun => ?_⟩
      have hlocked := zeroise_locks u 0 ((modeRun_congr hmode).trans hrun)
      rw [lockdown, hm]
      exact hlocked
  · refine ⟨(((s.modLodge fun l => { l with rules := some t0, windows := [] }).setF LODGE_FIRED_FIRED 0).raise LODGE_STAT_RULES_APPLIED).lodgeEnd
      opAPPLY_RULES .ok 0, ?_, lodgeEnd_lodge _ _ _ _, ?_, ?_, lodgeEnd_status _ _ .ok _⟩
    · show execApplyRules len s = _
      simp [execApplyRules, hsec, hm, ha]
    · rw [rf_lodgeEnd (by decide) (by decide) (.inl (by decide)), State.raise, rf_setF_ne _ _ _ _ (by decide), rf_setF_same _ _ _ (by decide)]
      rfl
    · exact (rb_of_rf (rf_lodgeEnd (by decide) (by decide) (.inl (by decide)) _ _ _ _)).trans (rb_raise_same _ rfl (by decide))
  · refine ⟨s.lodgeEnd opAPPLY_RULES .malformed i, ?_, lodgeEnd_lodge _ _ _ _, lodgeEnd_status _ _ .malformed _⟩
    show execApplyRules len s = _
    rw [execApplyRules, hsec]
  · refine ⟨(((s.setF LODGE_RTC_SEC_SEC (rf s LODGE_CMD_ARG_ARG)).setF LODGE_RTC_TICK_TICK 0).modLodge fun l => { l with rtcFrac := 0 }).lodgeEnd
      opSET_RTC .ok 0, ?_, ?_, ?_, lodgeEnd_lodge _ _ _ _, lodgeEnd_status _ _ .ok _⟩
    · show execSetRtc s = _
      rw [execSetRtc, h]
      rfl
    · rw [rf_lodgeEnd (by decide) (by decide) (.inl (by decide)), rf_modLodge, rf_setF_ne _ _ _ _ (by decide), rf_setF_same _ _ _ (by decide)]
      exact Nat.mod_eq_of_lt (rf_lt s LODGE_CMD_ARG_ARG)
    · rw [rf_lodgeEnd (by decide) (by decide) (.inl (by decide)), rf_modLodge, rf_setF_same _ _ _ (by decide)]
      rfl
  · refine ⟨s.lodgeEnd opSET_RTC .refusedState 0, ?_, lodgeEnd_lodge _ _ _ _, lodgeEnd_status _ _ .refusedState _⟩
    show execSetRtc s = _
    rw [execSetRtc, h]
    rfl
  · refine ⟨(s.setF LODGE_STAT_WAKE_PEND 0).lodgeEnd opEVT_ACK .ok 0, ?_, ?_, lodgeEnd_lodge _ _ _ _, lodgeEnd_status _ _ .ok _⟩
    · show execEvtAck n s = _
      simp [execEvtAck, h1, h11]
    · exact (rb_of_rf (rf_lodgeEnd (by decide) (by decide) (.inl (by decide)) _ _ _ _)).trans (rb_setF_zero _ (by decide))
  · refine ⟨s.lodgeEnd opEVT_ACK .malformed 0, ?_, lodgeEnd_status _ _ .malformed _⟩
    show execEvtAck n s = _
    rw [execEvtAck, if_neg (by simp; omega)]
  · refine ⟨((s.setMapBit LODGE_FIRED_FIRED r false).setWindow r []).lodgeEnd opCLEAR_FIRED .ok 0, ?_, ?_, ?_, lodgeEnd_status _ _ .ok _⟩
    · show execClearFired r s = _
      rw [execClearFired, if_neg (by omega), hl]
      rfl
    · exact (mapBit_congr (rf_lodgeEnd (by decide) (by decide) (.inl (by decide)) _ _ _ _) r).trans (mapBit_setMapBit_same s false hr (by decide))
    · rw [ruleWindow, lodgeEnd_lodge]
      show Sparse.get (fun _ => ([] : List Bool)) (Sparse.put (fun _ => []) s.lodge.windows r []) r = []
      rw [Sparse.get_put, if_pos rfl]
  · refine ⟨s.lodgeEnd opCLEAR_FIRED .refusedState 0, ?_, lodgeEnd_lodge _ _ _ _, lodgeEnd_status _ _ .refusedState _⟩
    show execClearFired r s = _
    rw [execClearFired, if_neg (by omega), hl]
    rfl

end Sys2Proof.Machine
end

section
/-! The registers of the management transports: their command interface and their 48-bit counters (R351, R365, R421). -/

namespace Sys2Proof.Machine

variable {s : State} {g : Fld}

/-! ### 48-bit counters (R421) -/

/-- What a counter holds, by its two count fields. -/
theorem ctr_eq (s : State) (lo hi : Nat) : ctr s lo hi = (reg s lo).toNat + 2 ^ 32 * rf s ⟨hi, 0, 16⟩ := rfl

theorem ctr_congr {t : State} {lo hi : Nat} (hl : reg t lo = reg s lo) (hh : reg t hi = reg s hi) : ctr t lo hi = ctr s lo hi := by
  rw [ctr, ctr, hl, hh]

theorem ctr_setF_ne {f : Fld} {lo hi : Nat} (hl : f.addr ≠ lo) (hh : f.addr ≠ hi) (v : Nat) : ctr (s.setF f v) lo hi = ctr s lo hi :=
  ctr_congr (reg_setF_ne _ _ _ _ hl) (reg_setF_ne _ _ _ _ hh)

theorem ctr_journal {lo hi cls : Nat} (hc : cls < 8) (hl : offJournal lo) (hh : offJournal hi) (tag src unit : Nat) (c : Code) :
    ctr (s.journal cls tag src unit c) lo hi = ctr s lo hi :=
  ctr_congr (reg_journal _ _ _ _ _ _ _ hc hl) (reg_journal _ _ _ _ _ _ _ hc hh)

theorem ctr_setCtr {lo hi n : Nat} (h : lo ≠ hi) (hn : n ≤ ctrMax) : ctr (s.setCtr lo hi n) lo hi = n := by
  have hmax : n < 2 ^ 32 * 2 ^ 16 := Nat.lt_of_le_of_lt hn (by decide)
  have hlo : (reg (s.setCtr lo hi n) lo).toNat = n % 2 ^ 32 := by
    rw [State.setCtr, reg_setF_ne _ _ _ _ (Ne.symm h), reg_setReg_same, BitVec.toNat_ofNat]
  have hhi : rf (s.setCtr lo hi n) ⟨hi, 0, 16⟩ = n / 2 ^ 32 := by
    rw [State.setCtr, rf_setF_same _ _ _ (show 0 + 16 ≤ 32 by decide), Nat.shiftRight_eq_div_pow]
    exact Nat.mod_eq_of_lt (Nat.div_lt_of_lt_mul hmax)
  rw [ctr_eq, hlo, hhi]
  exact Nat.mod_add_div n _

/-- A counter counts one event up to its limit. -/
theorem ctr_bump {lo hi : Nat} {e : Fld} (h : lo ≠ hi) (hl : e.addr ≠ lo) (hh : e.addr ≠ hi) (jl : offJournal lo) (jh : offJournal hi)
    (s : State) (src : Nat) : ctr (s.bump lo hi e src) lo hi = min (ctr s lo hi + 1) ctrMax := by
  have hset := ctr_setCtr (s := s) h (Nat.min_le_right (ctr s lo hi + 1) ctrMax)
  have hsat (t : State) : ctr (t.setF ⟨hi, 31, 1⟩ 1) lo hi = ctr t lo hi := by
    rw [ctr_eq, ctr_eq, reg_setF_ne t ⟨hi, 31, 1⟩ 1 lo h.symm]
    exact congrArg (_ + 2 ^ 32 * ·) <| rf_setF_ne t ⟨hi, 31, 1⟩ ⟨hi, 0, 16⟩ 1 (Fld.apart_within (by decide))
  unfold State.bump State.bumpN State.raise
  dsimp only
  split
  · rw [ctr_journal (by decide) jl jh, ctr_setF_ne hl hh, hsat, hset]
  · exact hset

/-! ### The command interface (R365) -/

theorem mtIf_shows : mtIf.Shows where
  byte := rfl
  bound := by decide
  done := by decide
  result f hf := nomatch hf

/-- The end of a command of the block writes its status register and its event, and no other register. -/
theorem rf_mtEnd_off (op : Nat) (c : Code) (r : Nat) (hs : MTRANS_CMD_STAT ≠ g.addr) (he : MTRANS_EVT_CMD_DONE.apart g) :
    rf (s.cmdEnd mtIf op c r) g = rf s g :=
  (rf_setF_ne _ _ _ _ he).trans ((rf_setF_ne _ _ _ _ (.inl hs)).trans (rf_setF_ne _ _ _ _ (.inl hs)))

theorem ctr_mtEnd {lo hi : Nat} (hl : MTRANS_CMD_STAT < lo ∧ MTRANS_EVT < lo) (hh : MTRANS_CMD_STAT < hi ∧ MTRANS_EVT < hi)
    (op : Nat) (c : Code) (r : Nat) : ctr (s.cmdEnd mtIf op c r) lo hi = ctr s lo hi :=
  (ctr_setF_ne hl.2.ne hh.2.ne _).trans ((ctr_setF_ne hl.1.ne hh.1.ne _).trans (ctr_setF_ne hl.1.ne hh.1.ne _))

/-- A command that ends shows its code and leaves what the transports keep. -/
theorem mtEnd_shows (s : State) (op : Nat) (c : Code) :
    (s.cmdEnd mtIf op c).mtrans = s.mtrans ∧ rf (s.cmdEnd mtIf op c) MTRANS_CMD_STAT_LAST_STATUS = c.val :=
  ⟨State.cmdEnd_mtrans .., rf_cmdEnd_status s mtIf_shows op c 0⟩

/-- A BUSY_RETRY of the block, which has no RESULT, has its retry-after time in the answer (R14). -/
theorem mtRefuse_busy (s : State) (op : Nat) : s.cmdRefuse mtIf op .busyRetry =
    ((s.delay (mtIf.key op) none).2.cmdEnd mtIf op .busyRetry (s.delay (mtIf.key op) none).1).ret (.retry (s.delay (mtIf.key op) none).1) := rfl

theorem mtRefuse_other (s : State) (op : Nat) {c : Code} (h : c ≠ .busyRetry) : s.cmdRefuse mtIf op c = s.cmdEnd mtIf op c := if_neg h

/-- A refused command shows its code too. -/
theorem mtRefuse_shows (s : State) (op : Nat) (c : Code) :
    (s.cmdRefuse mtIf op c).mtrans = s.mtrans ∧ rf (s.cmdRefuse mtIf op c) MTRANS_CMD_STAT_LAST_STATUS = c.val := by
  refine ⟨State.cmdRefuse_mtrans .., ?_⟩
  by_cases hc : c = .busyRetry
  · rw [hc, mtRefuse_busy, rf_ret]
    exact rf_cmdEnd_status _ mtIf_shows op .busyRetry _
  · rw [mtRefuse_other s op hc]
    exact rf_cmdEnd_status _ mtIf_shows op c 0

end Sys2Proof.Machine
end

section
/-! The settings, SEND and the control messages of the management transports (R349, R350, R351, R365). -/

namespace Sys2Proof.Machine

variable {s : State} {g : Fld}

/-! ### APPLY_SETTINGS (R365) -/

/-- The commands are judged on the settings that stand at MTRANS_CMD_ADDR. -/
def settingsThere (s : State) : Prop := rf s MTRANS_CMD_ADDR_ADDR % 8 = 0 ∧ inTcm (rf s MTRANS_CMD_ADDR_ADDR) 64 = true

theorem exec_applySettings_malformed (h : settingsThere s) (hst : settingsAt s = none) :
    exec .applySettings s = .next (s.cmdEnd mtIf 1 .malformed) := by
  obtain ⟨hal, htcm⟩ := h
  simp only [exec, execApplySettings, hst, hal, htcm, decide_true, Bool.true_and]

theorem exec_applySettings_refused {st : Settings} (hst : settingsAt s = some st) (h : mode s ≠ moASSEMBLY ∨ rb s MTRANS_STAT_APPLIED = true) :
    exec .applySettings s = .next (s.cmdEnd mtIf 1 .refusedState) := by
  have hc (there : Bool) : (!there || decide (mode s ≠ moASSEMBLY) || rb s MTRANS_STAT_APPLIED) = true := by
    obtain h | h := h <;> simp [h]
  simp only [exec, execApplySettings, hst, hc, if_true]

theorem exec_applySettings_accepted {st : Settings} (h : settingsThere s) (hmode : mode s = moASSEMBLY) (ha : rb s MTRANS_STAT_APPLIED = false)
    (hst : settingsAt s = some st) :
    exec .applySettings s = .next ((((s.applyBanks [bankMGB]).portsUp st).raise MTRANS_STAT_APPLIED).cmdEnd mtIf 1 .ok) := by
  obtain ⟨hal, htcm⟩ := h
  simp [exec, execApplySettings, hst, hal, htcm, hmode, ha]

/-- A record field that neither the map bit nor the record of a mismatched bank touches. -/
theorem applyBanks_keeps {β : Type} (f : State → β) (hm : ∀ u e i b, f (State.setMapBit u e i b) = f u) (hb : ∀ u h, f (State.modBoot u h) = f u)
    (hj : ∀ u c t r n d, f (State.journal u c t r n d) = f u) (s : State) (l : List Nat) : f (s.applyBanks l) = f s := by
  unfold State.applyBanks
  exact State.each_keeps f _ _ (fun u i => by rw [hj, hb, hm]) s

/-- The settings are kept and the endpoints of PCIe and eSPI shown. -/
def State.endpointsShown (s : State) (st : Settings) : State :=
  (((s.modMt fun m => { m with settings := some st }).setB MTRANS_STAT_PCIE_EN st.pcieEn).setF MTRANS_EID_PCIE_EID st.pcieEid).setF
    MTRANS_EID_ESPI_EID st.espiEid

/-- One port comes up with its role, its address and its EID. -/
def State.portShown (s : State) (p : PortSet × Nat) : State :=
  ((s.setF (MTRANS_I3C_STAT_MODE p.2) p.1.mode).setF (MTRANS_I3C_STAT_ADDR p.2) p.1.addr).setF (MTRANS_I3C_STAT_EID p.2) p.1.eid

theorem portsUp_eq (s : State) (st : Settings) : s.portsUp st = (s.endpointsShown st).each st.ports.zipIdx State.portShown := rfl

theorem rf_portShown_off (p : PortSet × Nat) (h : MTRANS_I3C_STAT p.2 ≠ g.addr) : rf (s.portShown p) g = rf s g :=
  (rf_setF_ne _ _ _ _ (.inl h)).trans ((rf_setF_ne _ _ _ _ (.inl h)).trans (rf_setF_ne _ _ _ _ (.inl h)))

theorem rf_portsUp_low (st : Settings) (h : g.addr < MTRANS_I3C_STAT 0) : rf (s.portsUp st) g = rf (s.endpointsShown st) g :=
  State.each_keeps (rf · g) _ State.portShown
    (fun _ p => rf_portShown_off p (by unfold MTRANS_I3C_STAT at h ⊢; omega)) _

theorem portsUp_mtrans (st : Settings) : (s.portsUp st).mtrans = { s.mtrans with settings := some st } :=
  State.each_keeps State.mtrans _ State.portShown (fun _ _ => rfl) _

/-- The registers of port `k` show its address and its EID. -/
def portShows (k : Nat) (p : PortSet) (t : State) : Prop :=
  rf t (MTRANS_I3C_STAT_EID k) = p.eid % 256 ∧ rf t (MTRANS_I3C_STAT_ADDR k) = p.addr % 256

theorem portShown_shows (s : State) (p : PortSet) (k : Nat) : portShows k p (s.portShown (p, k)) := by
  refine ⟨rf_setF_same _ _ _ (show 24 + 8 ≤ 32 by decide), ?_⟩
  exact (rf_setF_ne _ _ _ _ (Fld.apart_within (by decide))).trans (rf_setF_same _ _ _ (show 16 + 8 ≤ 32 by decide))

theorem portShows_of_rf {t : State} {k : Nat} {p : PortSet} (h : ∀ lo wid, rf t ⟨MTRANS_I3C_STAT k, lo, wid⟩ = rf s ⟨MTRANS_I3C_STAT k, lo, wid⟩)
    (hp : portShows k p s) : portShows k p t := ⟨(h 24 8).trans hp.1, (h 16 8).trans hp.2⟩

theorem portsUp_shows (s : State) {st : Settings} {k : Nat} {p : PortSet} (h : st.ports[k]? = some p) : portShows k p (s.portsUp st) := by
  have hmem : (p, k) ∈ st.ports.zipIdx := List.mem_zipIdx_iff_getElem?.2 h
  have hother (u : State) (q : PortSet × Nat) (hq : q.2 ≠ k) (hu : portShows k p u) : portShows k p (u.portShown q) :=
    portShows_of_rf (fun lo wid => rf_portShown_off q (by show MTRANS_I3C_STAT q.2 ≠ MTRANS_I3C_STAT k; unfold MTRANS_I3C_STAT; omega)) hu
  rw [portsUp_eq]
  exact State.each_establishes (I := fun _ => True) (fun _ _ _ _ => trivial) (fun u _ => portShown_shows u p k)
    (fun u hu q hq hne => hother u q (zipIdx_snd_ne hq hmem hne) hu) trivial (.inl hmem)

/-- What APPLY_SETTINGS shows and keeps. -/
theorem settingsApplied_shows (s : State) (st : Settings) :
    let t := (((s.applyBanks [bankMGB]).portsUp st).raise MTRANS_STAT_APPLIED).cmdEnd mtIf 1 .ok
    t.mtrans = { s.mtrans with settings := some st } ∧ rb t MTRANS_STAT_APPLIED = true ∧ rb t MTRANS_STAT_PCIE_EN = st.pcieEn
      ∧ rf t MTRANS_CMD_STAT_LAST_STATUS = 0 ∧ t.kiosk = s.kiosk ∧ t.keys = s.keys
      ∧ ∀ k p, k < 8 → st.ports.length = 8 → st.ports[k]? = some p →
        rf t (MTRANS_I3C_STAT_EID k) = p.eid % 256 ∧ rf t (MTRANS_I3C_STAT_ADDR k) = p.addr % 256 := by
  intro t
  have hend (f : Fld) (hs : MTRANS_CMD_STAT ≠ f.addr) (he : MTRANS_EVT_CMD_DONE.apart f) (ha : MTRANS_STAT_APPLIED.apart f) :
      rf t f = rf ((s.applyBanks [bankMGB]).portsUp st) f := (rf_mtEnd_off 1 .ok 0 hs he).trans (rf_setF_ne _ _ _ _ ha)
  have hkeep {β : Type} (f : State → β) (hc : ∀ u c o k r, f (State.cmdEnd u c o k r) = f u) (hf : ∀ u e v, f (State.setF u e v) = f u)
      (hm : ∀ u h, f (State.modMt u h) = f u) : f t = f (s.applyBanks [bankMGB]) := by
    have hports (u : State) : f (u.portsUp st) = f u := by
      rw [portsUp_eq, State.each_keeps f _ State.portShown fun u p => by rw [State.portShown, hf, hf, hf]]
      rw [State.endpointsShown, hf, hf, State.setB, hf, hm]
    exact (hc ..).trans ((hf ..).trans (hports _))
  refine ⟨?_, ?_, ?_, rf_cmdEnd_status _ mtIf_shows 1 .ok 0, ?_, ?_, fun k p hk _ hp => ?_⟩
  · have h := applyBanks_keeps State.mtrans (fun _ _ _ _ => rfl) (fun _ _ => rfl) State.journal_mtrans s [bankMGB]
    rw [State.cmdEnd_mtrans, State.raise_mtrans, portsUp_mtrans, h]
  · exact (rb_of_rf (rf_mtEnd_off 1 .ok 0 (by decide) (by decide))).trans (rb_raise_same _ rfl (by decide))
  · refine (rb_of_rf (hend _ (by decide) (by decide) (by decide))).trans ((rb_of_rf (rf_portsUp_low st (by decide))).trans ?_)
    exact (rb_setF_ne _ _ _ _ (by decide)).trans ((rb_setF_ne _ _ _ _ (by decide)).trans (rb_setB_same _ _ rfl (by decide)))
  · exact (hkeep State.kiosk (fun u c o k r => u.cmdEnd_kiosk c o k r) (fun _ _ _ => rfl) (fun _ _ => rfl)).trans
      (applyBanks_keeps State.kiosk (fun _ _ _ _ => rfl) (fun _ _ => rfl) State.journal_kiosk s [bankMGB])
  · exact (hkeep State.keys (fun u c o k r => u.cmdEnd_keys c o k r) (fun _ _ _ => rfl) (fun _ _ => rfl)).trans
      (applyBanks_keeps State.keys (fun _ _ _ _ => rfl) (fun _ _ => rfl) State.journal_keys s [bankMGB])
  · have hlow : MTRANS_EVT < MTRANS_I3C_STAT k := by show 0x4008001C < 0x40080040 + 4 * k; omega
    have hne {a : Nat} (ha : a ≤ MTRANS_EVT) : a ≠ MTRANS_I3C_STAT k := by omega
    exact portShows_of_rf (fun lo wid => hend _ (hne (by decide)) (.inl (hne (by decide))) (.inl (hne (by decide)))) (portsUp_shows _ hp)

/-! ### SEND and its end (R351, R354, R365) -/

theorem exec_send_malformed (h : txAt s = none) : exec .send s = .next (s.cmdRefuse mtIf 2 .malformed) := by
  simp only [exec, execSend, h, Option.isNone_none, firstCode, if_true]

theorem exec_send_refused (h : (txAt s).isSome = true) (ha : rb s MTRANS_STAT_APPLIED = false) :
    exec .send s = .next (s.cmdRefuse mtIf 2 .refusedState) := by
  have hn : (txAt s).isNone = false := by rw [← Option.not_isSome, h]; rfl
  simp [exec, execSend, hn, ha, firstCode]

theorem exec_send_busy {x : Tx} (h : txAt s = some x) (ha : rb s MTRANS_STAT_APPLIED = true) (ht : s.mtrans.tx.isSome = true) :
    exec .send s = .next (s.cmdRefuse mtIf 2 .busyRetry) := by
  simp [exec, execSend, h, ha, firstCode, delayed, ht]

theorem exec_send_accepted {x : Tx} (h : txAt s = some x) (ha : rb s MTRANS_STAT_APPLIED = true) (ht : s.mtrans.tx = none)
    (he : early s (mtIf.key 2) = false) : exec .send s = .next { s with mtrans := { s.mtrans with tx := some x } } := by
  simp [exec, execSend, h, ha, firstCode, delayed, ht, he, State.modMt]

/-- The message leaves the sender. -/
def State.txDropped (s : State) : State := s.modMt fun m => { m with tx := none }

/-- A message abandoned at its fifth lost arbitration is counted, with DROP and one record. -/
def State.txAbandoned (s : State) (x : Tx) : State :=
  (((s.txDropped.bump MTRANS_ARB_DROP_LO MTRANS_ARB_DROP_HI MTRANS_EVT_SAT srcMTRANS).raise MTRANS_EVT_DROP).journal 6 351 srcMTRANS x.port
    .timeout).cmdEnd mtIf 2 .timeout

variable {x : Tx}

theorem exec_sendDone_sent (h : s.mtrans.tx = some x) (hl : mctpLive s x.port x.ch = true) :
    exec (.sendDone true) s = .next ((s.txDropped.cmdEnd mtIf 2 .ok).ret (.mctp x.port x.eid x.ch x.tag x.packets x.poisoned)) := by
  simp [exec, execSendDone, h, hl, State.txDropped]

theorem exec_sendDone_dead (h : s.mtrans.tx = some x) (hl : mctpLive s x.port x.ch = false) : exec (.sendDone true) s = .next s := by
  simp [exec, execSendDone, h, hl]

theorem exec_sendDone_timeout (h : s.mtrans.tx = some x) : exec (.sendDone false) s = .next (s.txDropped.cmdEnd mtIf 2 .timeout) := by
  simp [exec, execSendDone, h, State.txDropped]

theorem exec_arbitrationRetry_again (h : s.mtrans.tx = some x) (hl : mctpLive s x.port x.ch = true) (hn : x.losses < 4) :
    exec .arbitrationRetry s = .next { s with mtrans := { s.mtrans with tx := some { x with losses := x.losses + 1 } } } := by
  have h5 : x.losses + 1 < 5 := by omega
  simp [exec, execArbitrationRetry, h, hl, h5, State.modMt]

theorem exec_arbitrationRetry_abandoned (h : s.mtrans.tx = some x) (hl : mctpLive s x.port x.ch = true) (hn : 4 ≤ x.losses) :
    exec .arbitrationRetry s = .next (s.txAbandoned x) := by
  have h5 : ¬ x.losses + 1 < 5 := by omega
  simp [exec, execArbitrationRetry, h, hl, h5, State.txAbandoned, State.txDropped]

theorem txAbandoned_shows (s : State) (x : Tx) :
    (s.txAbandoned x).mtrans = { s.mtrans with tx := none }
      ∧ ctr (s.txAbandoned x) MTRANS_ARB_DROP_LO MTRANS_ARB_DROP_HI = min (ctr s MTRANS_ARB_DROP_LO MTRANS_ARB_DROP_HI + 1) ctrMax
      ∧ rb (s.txAbandoned x) MTRANS_EVT_DROP = true := by
  refine ⟨?_, ?_, ?_⟩
  · simp [State.txAbandoned, State.txDropped, State.modMt]
  · rw [State.txAbandoned, ctr_mtEnd (by decide) (by decide), ctr_journal (by decide) (.inl (by decide)) (.inl (by decide)), State.raise,
      ctr_setF_ne (by decide) (by decide), ctr_bump (by decide) (by decide) (by decide) (.inl (by decide)) (.inl (by decide))]
    rfl
  · refine (rb_of_rf (rf_mtEnd_off 2 .timeout 0 (by decide) (by decide))).trans ?_
    rw [rb_journal _ _ _ _ _ _ _ (by decide) (.inl (by decide))]
    exact rb_raise_same _ rfl (by decide)

/-! ### SMBus time-outs (R351) -/

theorem exec_smbTimeout_seen {st : Settings} {p : PortSet} {port : Nat} (hst : s.mtrans.settings = some st) (hp : st.ports[port]? = some p)
    (hr : p.role = 3 ∨ p.role = 4) (hb : bankFloated s bankMGB = false) :
    exec (.smbTimeout port) s = .next ((s.raise (MTRANS_I3C_STAT_TIMEOUT_SEEN port)).raise MTRANS_EVT_SMB_TIMEOUT) := by
  have hrole : (decide (p.role = 3) || decide (p.role = 4)) = true := by obtain h | h := hr <;> simp [h]
  simp only [exec, execSmbTimeout, hst, hp, hb, Bool.false_eq_true, if_false]
  rw [if_pos hrole]

theorem smbTimeout_shows (s : State) (port : Nat) :
    rb ((s.raise (MTRANS_I3C_STAT_TIMEOUT_SEEN port)).raise MTRANS_EVT_SMB_TIMEOUT) (MTRANS_I3C_STAT_TIMEOUT_SEEN port) = true := by
  have hne : MTRANS_EVT ≠ MTRANS_I3C_STAT port := by show 0x4008001C ≠ 0x40080040 + 4 * port; omega
  exact (rb_raise_ne _ (.inl hne)).trans (rb_raise_same _ rfl (show 8 + 1 ≤ 32 by decide))

/-! ### Control messages (R349, R353) -/

theorem control_live {o : Origin} (h : mctpLive s o.port = true) (f : State → State) : s.control o f = f s := if_pos h

/-- The EID field of every port is a byte of its register, and no register of events. -/
theorem eidFld_byte (port : Nat) : (eidFld port).wid = 8 ∧ (eidFld port).lo + (eidFld port).wid ≤ 32 ∧ (eidFld port).addr ≠ MTRANS_EVT := by
  have hI3c (k : Nat) : MTRANS_I3C_STAT k ≠ MTRANS_EVT := by show 0x40080040 + 4 * k ≠ 0x4008001C; omega
  unfold eidFld
  split
  · decide
  · split
    · decide
    · exact ⟨rfl, by show 24 + 8 ≤ 32; decide, hI3c _⟩

/-- SET_ENDPOINT_ID took the EID. -/
def State.eidTaken (s : State) (port eid : Nat) : State :=
  ((s.setF (eidFld port) eid).raise MTRANS_EVT_EID_SET).ret (.reply .ok (leBytes 1 eid))

theorem exec_setEndpointId_taken {o : Origin} (h : mctpLive s o.port = true) {eid : Nat} (hlo : 8 ≤ eid) (hhi : eid ≤ 0xFE) :
    exec (.setEndpointId o eid) s = .next (s.eidTaken o.port eid) := by
  simp only [exec, execSetEndpointId, control_live h, hlo, hhi, decide_true, Bool.and_self, if_true, State.eidTaken]

theorem eidTaken_shows (s : State) (port : Nat) {eid : Nat} (hhi : eid ≤ 0xFE) :
    rf (s.eidTaken port eid) (eidFld port) = eid ∧ rb (s.eidTaken port eid) MTRANS_EVT_EID_SET = true := by
  obtain ⟨hwid, hbound, hevt⟩ := eidFld_byte port
  rw [State.eidTaken, rf_ret, rb_ret]
  refine ⟨?_, rb_raise_same _ rfl (by decide)⟩
  rw [State.raise, rf_setF_ne _ _ _ _ (.inl hevt.symm), rf_setF_same _ _ _ hbound, hwid]
  exact Nat.mod_eq_of_lt (by omega)

/-! ### O45 -/

/-- Settles O45: each command by its equation, the registers of the ports by the fold over them, and the counter of lost arbitrations by its
rule (R421). -/
theorem managementTransportActs : Obligations.ManagementTransportActs := by
  intro s
  refine ⟨fun st hal htcm hmode ha hst => ?_, fun hal htcm hst => ?_, fun h hst => ?_, fun x ha hx => ⟨fun ht he => ?_, fun ht => ?_⟩,
    fun ha hx => ?_, fun hx => ?_, fun x hx => ⟨fun hl => ?_, exec_sendDone_dead hx, ?_, exec_arbitrationRetry_again hx, fun hl hn => ?_⟩,
    fun st p port hst hp _ hr hb => ?_, fun o _ hl => ⟨fun eid hlo hhi => ?_, ?_⟩⟩
  · exact ⟨_, exec_applySettings_accepted ⟨hal, htcm⟩ hmode ha hst, settingsApplied_shows s st⟩
  · exact ⟨_, exec_applySettings_malformed ⟨hal, htcm⟩ hst, mtEnd_shows s 1 .malformed⟩
  · obtain ⟨st, hst⟩ := Option.isSome_iff_exists.1 hst
    exact ⟨_, exec_applySettings_refused hst h, mtEnd_shows s 1 .refusedState⟩
  · exact exec_send_accepted hx ha ht he
  · exact ⟨_, exec_send_busy hx ha ht, mtRefuse_shows s 2 .busyRetry⟩
  · exact ⟨_, exec_send_refused hx ha, mtRefuse_shows s 2 .refusedState⟩
  · exact ⟨_, exec_send_malformed hx, mtRefuse_shows s 2 .malformed⟩
  · obtain ⟨hmt, hcode⟩ := mtEnd_shows s.txDropped 2 .ok
    exact ⟨_, exec_sendDone_sent hx hl, hmt, rfl, hcode⟩
  · exact ⟨_, exec_sendDone_timeout hx, mtEnd_shows s.txDropped 2 .timeout⟩
  · exact ⟨_, exec_arbitrationRetry_abandoned hx hl hn, txAbandoned_shows s x⟩
  · exact ⟨_, exec_smbTimeout_seen hst hp hr hb, smbTimeout_shows s port, rb_raise_same _ rfl (by decide), rfl⟩
  · obtain ⟨heid, hevt⟩ := eidTaken_shows s o.port hhi
    exact ⟨_, exec_setEndpointId_taken hl hlo hhi, heid, hevt, rfl, rfl⟩
  · refine ⟨?_, ?_, ?_, ?_, ?_, ?_, ?_, ?_⟩
    · exact congrArg Host.Outcome.next (control_live hl _)
    · exact congrArg Host.Outcome.next (control_live hl _)
    · exact congrArg Host.Outcome.next (control_live hl _)
    · exact congrArg Host.Outcome.next (control_live hl _)
    · exact congrArg Host.Outcome.next (control_live hl _)
    · exact congrArg Host.Outcome.next (control_live hl _)
    · refine congrArg Host.Outcome.next ((control_live hl _).trans ?_)
      exact (apply_ite s.ret (o.port = 0) (.reply .ok []) .unsupportedCmd).symm
    · exact congrArg Host.Outcome.next (control_live hl _)

end Sys2Proof.Machine
end

section
/-! Reassembly contexts and the receive ring of the management transports (R344, R352, R354). -/

namespace Sys2Proof.Machine

variable {s : State} {g : Fld}

/-- What a store wrote is what its span reads. -/
theorem tcmRead_tcmWrite_same (s : State) (a : Nat) (bs : List Byte) : tcmRead (s.tcmWrite a bs) a bs.length = bs := by
  refine List.ext_getElem (by simp [tcmRead]) fun i hi _ => ?_
  simp only [tcmRead, List.getElem_map, List.getElem_range, tcmByte_tcmWrite]
  exact (List.getElem_eq_getD _).symm

/-! ### Contexts -/

@[simp] theorem State.modMt_kiosk (s : State) (f : Mtrans → Mtrans) : (s.modMt f).kiosk = s.kiosk := rfl
@[simp] theorem State.showCtx_kiosk (s : State) : s.showCtx.kiosk = s.kiosk := rfl
@[simp] theorem State.showCtx_mtrans (s : State) : s.showCtx.mtrans = s.mtrans := rfl
@[simp] theorem State.dropCtx_kiosk (s : State) (c : Ctx) : (s.dropCtx c).kiosk = s.kiosk := rfl

theorem mctpTenant_congr {t : State} (h : t.kiosk = s.kiosk) (o : Origin) : mctpTenant t o = mctpTenant s o := by
  rw [mctpTenant, mctpTenant, entryOf, entryOf, h]

theorem ctxTn_congr {t : State} (h : t.kiosk = s.kiosk) (c : Ctx) : ctxTn t c = ctxTn s c := by rw [ctxTn, ctxTn, mctpTenant_congr h]

theorem slotHeader_congr {t : State} (h : t.kiosk = s.kiosk) (c : Ctx) : slotHeader t c = slotHeader s c := by
  rw [slotHeader, slotHeader, mctpTenant_congr h]

@[simp] theorem rf_modMt (s : State) (f : Mtrans → Mtrans) (g : Fld) : rf (s.modMt f) g = rf s g := rfl

theorem rf_showCtx_off (h : MTRANS_STAT_REASM_USED.apart g) : rf s.showCtx g = rf s g := rf_setF_ne _ _ _ _ h

theorem rf_dropCtx_off (c : Ctx) (h : MTRANS_STAT_REASM_USED.apart g) : rf (s.dropCtx c) g = rf s g := rf_setF_ne _ _ _ _ h

/-- A context that is not in progress loses nothing. -/
theorem dropCtx_of_none {c : Ctx} (h : ctxOf s c.port c.src c.tag c.owner = none) : (s.dropCtx c).mtrans = s.mtrans := by
  have hkeep : s.mtrans.ctxs.filter (fun d => d.done || !d.is c.port c.src c.tag c.owner) = s.mtrans.ctxs := by
    refine List.filter_eq_self.2 fun d hd => ?_
    simpa [Bool.or_eq_true, Decidable.imp_iff_not_or] using List.find?_eq_none.1 h d hd
  have hdrop : (s.dropCtx c).mtrans = { s.mtrans with ctxs := s.mtrans.ctxs.filter fun d => d.done || !d.is c.port c.src c.tag c.owner } := rfl
  rw [hdrop, hkeep]

theorem ctxOf_dropCtx (s : State) (c : Ctx) : (s.dropCtx c).mtrans.ctxs.find? (fun d => !d.done && d.is c.port c.src c.tag c.owner) = none := by
  refine List.find?_eq_none.2 fun d hd => ?_
  obtain ⟨-, hd⟩ := List.mem_filter.1 hd
  simpa [Bool.or_eq_true, Decidable.imp_iff_not_or] using hd

/-- The context of a packet has its port, source, tag and tag owner. -/
theorem ctxOf_is {c : Ctx} {port src tag : Nat} {owner : Bool} (h : ctxOf s port src tag owner = some c) :
    c.port = port ∧ c.src = src ∧ c.tag = tag ∧ c.owner = owner := by
  have hfound := List.find?_some h
  simp only [Ctx.is, Bool.and_eq_true, decide_eq_true_eq] at hfound
  obtain ⟨-, ⟨⟨hport, hsrc⟩, htag⟩, howner⟩ := hfound
  exact ⟨hport, hsrc, htag, howner⟩

/-! ### A discarded message (R352) -/

/-- The message leaves its context and is counted, with DROP. -/
def State.dropCounted (s : State) (c : Ctx) : State :=
  ((s.dropCtx c).bump MTRANS_REASM_DROP_LO MTRANS_REASM_DROP_HI MTRANS_EVT_SAT srcMTRANS).raise MTRANS_EVT_DROP

theorem dropCounted_kiosk (s : State) (c : Ctx) : (s.dropCounted c).kiosk = s.kiosk := (State.bump_kiosk (s.dropCtx c) ..).trans rfl

theorem ctr_dropCounted (s : State) (c : Ctx) : ctr (s.dropCounted c) MTRANS_REASM_DROP_LO MTRANS_REASM_DROP_HI
    = min (ctr s MTRANS_REASM_DROP_LO MTRANS_REASM_DROP_HI + 1) ctrMax := by
  have hdrop : ctr (s.dropCtx c) MTRANS_REASM_DROP_LO MTRANS_REASM_DROP_HI = ctr s MTRANS_REASM_DROP_LO MTRANS_REASM_DROP_HI :=
    ctr_setF_ne (by decide) (by decide) _
  rw [State.dropCounted, State.raise, ctr_setF_ne (by decide) (by decide),
    ctr_bump (by decide) (by decide) (by decide) (.inl (by decide)) (.inl (by decide)), hdrop]

theorem reasmDrop_shows (s : State) (c : Ctx) (code : Code) :
    ctr (s.reasmDrop c code) MTRANS_REASM_DROP_LO MTRANS_REASM_DROP_HI = min (ctr s MTRANS_REASM_DROP_LO MTRANS_REASM_DROP_HI + 1) ctrMax
      ∧ rb (s.reasmDrop c code) MTRANS_EVT_DROP = true ∧ ctxOf (s.reasmDrop c code) c.port c.src c.tag c.owner = none
      ∧ (s.reasmDrop c code).kiosk.sent = if (mctpTenant s ⟨c.port, c.src⟩).isSome
        then s.kiosk.sent ++ [.reasmAbort c.port c.src c.tag code.val] else s.kiosk.sent := by
  have hkeep {β : Type} (f : State → β) (h : ∀ u k, f (State.modKiosk u k) = f u) : f (s.reasmDrop c code) = f (s.dropCounted c) :=
    State.when_keeps f _ _ (fun u => h u _) (s.dropCounted c)
  refine ⟨?_, ?_, ?_, ?_⟩
  · rw [hkeep (ctr · _ _) (fun _ _ => rfl), ctr_dropCounted]
  · rw [hkeep (rb · _) (fun _ _ => rfl)]
    exact rb_raise_same _ rfl (by decide)
  · have hmt : (s.reasmDrop c code).mtrans = (s.dropCtx c).mtrans := (hkeep State.mtrans fun _ _ => rfl).trans (State.bump_mtrans ..)
    rw [ctxOf, hmt]
    exact ctxOf_dropCtx s c
  · rw [← mctpTenant_congr (dropCounted_kiosk s c), ← dropCounted_kiosk s c]
    show ((s.dropCounted c).when (mctpTenant (s.dropCounted c) ⟨c.port, c.src⟩).isSome _).kiosk.sent = _
    unfold State.when
    split <;> rfl

/-! ### The receive ring (R344, R354) -/

/-- No complete message waits: the ring stays as it is. -/
theorem fillRing_idle (h : ∀ c ∈ s.mtrans.ctxs, c.done = false) (n : Nat) : State.fillRing n s = s := by
  have hnone (tn : Nat) : s.mtrans.ctxs.find? (ctxWaits s tn) = none :=
    List.find?_eq_none.2 fun c hc => by simp [ctxWaits, h c hc]
  have hbind : ((nextTurn s).bind fun tn => s.mtrans.ctxs.find? (ctxWaits s tn)) = none := by
    cases nextTurn s with
    | none => rfl
    | some tn => exact hnone tn
  cases n with
  | zero => rfl
  | succ n => rw [State.fillRing, hbind]

/-- Among the contexts one alone, `c` between `l` and `r`, is complete. -/
structure OneWaits (s : State) (l : List Ctx) (c : Ctx) (r : List Ctx) : Prop where
  ctxs : s.mtrans.ctxs = l ++ c :: r
  done : c.done = true
  left : ∀ d ∈ l, d.done = false
  right : ∀ d ∈ r, d.done = false

namespace OneWaits

variable {l r : List Ctx} {c : Ctx}

theorem waits_self (h : OneWaits s l c r) : ctxWaits s (ctxTn s c) c = true := by simp [ctxWaits, h.done]

theorem find_own (h : OneWaits s l c r) : s.mtrans.ctxs.find? (ctxWaits s (ctxTn s c)) = some c := by
  have hl : l.find? (ctxWaits s (ctxTn s c)) = none := List.find?_eq_none.2 fun d hd => by simp [ctxWaits, h.left d hd]
  rw [h.ctxs, List.find?_append, hl, Option.none_or, List.find?_cons_of_pos h.waits_self]

theorem any_waits (h : OneWaits s l c r) (tn : Nat) : s.mtrans.ctxs.any (ctxWaits s tn) = decide (ctxTn s c = tn) := by
  have hl : l.any (ctxWaits s tn) = false := List.any_eq_false.2 fun d hd => by simp [ctxWaits, h.left d hd]
  have hr : r.any (ctxWaits s tn) = false := List.any_eq_false.2 fun d hd => by simp [ctxWaits, h.right d hd]
  rw [h.ctxs, List.any_append, List.any_cons, hl, hr, ctxWaits, h.done]
  simp

/-- The turns come round to the tenant of the message that waits. -/
theorem nextTurn_own (h : OneWaits s l c r) (htn : ctxTn s c < 513) : nextTurn s = some (ctxTn s c) := by
  unfold nextTurn turnGoesOn
  rw [h.any_waits]
  split
  next hgo =>
    simp only [Bool.and_eq_true, decide_eq_true_eq] at hgo
    rw [hgo.2]
  next =>
    cases hf : ((List.range 513).map fun i => (s.mtrans.turn.1 + 1 + i) % 513).find? fun tn => s.mtrans.ctxs.any (ctxWaits s tn) with
    | none =>
      have hmem : ctxTn s c ∈ (List.range 513).map fun i => (s.mtrans.turn.1 + 1 + i) % 513 :=
        List.mem_map.2 ⟨(ctxTn s c + 512 - s.mtrans.turn.1 % 513) % 513, List.mem_range.2 (Nat.mod_lt _ (by decide)), by omega⟩
      exact absurd (by rw [h.any_waits]; simp) (List.find?_eq_none.1 hf _ hmem)
    | some tn =>
      have hown := List.find?_some hf
      rw [h.any_waits, decide_eq_true_eq] at hown
      rw [hown]

end OneWaits

/-- A message is stored in the slot at HEAD, if that lies in TCM. -/
def State.slotStored (s : State) (c : Ctx) : State :=
  let a := rf s MTRANS_RX_BASE_ADDR + slotSize * ringHead s
  if inTcm a slotSize then s.tcmWrite a (slotHeader s c ++ c.data) else s

/-- HEAD moves past the slot, with its event. -/
def State.headMoved (s : State) (c : Ctx) : State :=
  ((s.slotStored c).setF MTRANS_RX_PTR_HEAD ((ringHead (s.slotStored c) + 1) % 16)).raise MTRANS_EVT_RX

/-- A message enters the ring and leaves its context; `left` is what its tenant's quantum still holds. -/
def State.ringEntered (s : State) (c : Ctx) (left : Nat) : State :=
  ((s.headMoved c).modMt fun m =>
    { m with ctxs := m.ctxs.eraseP (ctxWaits (s.headMoved c) (ctxTn s c)), turn := (ctxTn s c, left) }).showCtx

theorem fillRing_enters {c : Ctx} (n : Nat) (h : ((nextTurn s).bind fun tn => s.mtrans.ctxs.find? (ctxWaits s tn)) = some c)
    (hf : ringFull s = false) (hd : s.boot.bvDown = false) : ∃ left, State.fillRing (n + 1) s = State.fillRing n (s.ringEntered c left) := by
  refine ⟨(if turnGoesOn s then s.mtrans.turn.2 else tnWeight s (ctxTn s c)) - 1, ?_⟩
  rw [State.fillRing, h]
  simp only [hf, hd, Bool.or_self, Bool.false_eq_true, if_false]
  rfl

theorem slotStored_keeps {β : Type} (f : State → β) (h : ∀ u a bs, f (State.tcmWrite u a bs) = f u) (s : State) (c : Ctx) :
    f (s.slotStored c) = f s := by
  unfold State.slotStored
  dsimp only
  split
  · exact h s _ _
  · rfl

theorem ringHead_slotStored (c : Ctx) : ringHead (s.slotStored c) = ringHead s := slotStored_keeps ringHead (fun _ _ _ => rfl) s c

theorem headMoved_kiosk (c : Ctx) : (s.headMoved c).kiosk = s.kiosk := slotStored_keeps State.kiosk (fun _ _ _ => rfl) s c

theorem headMoved_mtrans (c : Ctx) : (s.headMoved c).mtrans = s.mtrans := slotStored_keeps State.mtrans (fun _ _ _ => rfl) s c

theorem ctxWaits_headMoved (c : Ctx) (tn : Nat) : ctxWaits (s.headMoved c) tn = ctxWaits s tn := by
  funext d
  rw [ctxWaits, ctxWaits, ctxTn_congr (headMoved_kiosk c)]

theorem OneWaits.ringEntered_ctxs {l r : List Ctx} {c : Ctx} (h : OneWaits s l c r) (left : Nat) : (s.ringEntered c left).mtrans.ctxs = l ++ r := by
  have hl (d : Ctx) (hd : d ∈ l) : ¬ ctxWaits s (ctxTn s c) d = true := by simp [ctxWaits, h.left d hd]
  show (s.headMoved c).mtrans.ctxs.eraseP (ctxWaits (s.headMoved c) (ctxTn s c)) = l ++ r
  rw [ctxWaits_headMoved, headMoved_mtrans, h.ctxs, List.eraseP_append_right _ hl, List.eraseP_cons_of_pos h.waits_self]

theorem ringEntered_shows (s : State) (c : Ctx) (left : Nat) :
    rf (s.ringEntered c left) MTRANS_RX_PTR_HEAD = (ringHead s + 1) % 16 ∧ rb (s.ringEntered c left) MTRANS_EVT_RX = true
      ∧ rf (s.ringEntered c left) MTRANS_RX_PTR_TAIL = rf s MTRANS_RX_PTR_TAIL := by
  have hoff {f : Fld} (h : MTRANS_STAT_REASM_USED.apart f) : rf (s.ringEntered c left) f = rf (s.headMoved c) f := rf_showCtx_off h
  refine ⟨?_, ?_, ?_⟩
  · rw [hoff (by decide), State.headMoved, State.raise, rf_setF_ne _ _ _ _ (by decide), rf_setF_same _ _ _ (by decide), ringHead_slotStored]
    exact Nat.mod_eq_of_lt (Nat.mod_lt _ (by decide))
  · exact (rb_of_rf (hoff (by decide))).trans (rb_raise_same _ rfl (by decide))
  · rw [hoff (by decide), State.headMoved, State.raise, rf_setF_ne _ _ _ _ (by decide), rf_setF_ne _ _ _ _ (by decide)]
    exact slotStored_keeps (rf · MTRANS_RX_PTR_TAIL) (fun _ _ _ => rfl) s c

theorem slotHeader_length (s : State) (c : Ctx) : (slotHeader s c).length = 16 := by
  simp only [slotHeader, List.length_append, leBytes_length, List.length_replicate]

/-- The slot holds the header and the message. -/
theorem ringEntered_slot {c : Ctx} (left : Nat) (h : inTcm (rf s MTRANS_RX_BASE_ADDR + slotSize * ringHead s) slotSize = true) :
    tcmRead (s.ringEntered c left) (rf s MTRANS_RX_BASE_ADDR + slotSize * ringHead s) (16 + c.data.length) = slotHeader s c ++ c.data := by
  have hlen : 16 + c.data.length = (slotHeader s c ++ c.data).length := by rw [List.length_append, slotHeader_length]
  have hstored : s.slotStored c = s.tcmWrite (rf s MTRANS_RX_BASE_ADDR + slotSize * ringHead s) (slotHeader s c ++ c.data) := if_pos h
  show tcmRead (s.slotStored c) _ _ = _
  rw [hstored, hlen, tcmRead_tcmWrite_same]

/-- The one complete message enters the ring. -/
theorem OneWaits.fillRing {l r : List Ctx} {c : Ctx} (h : OneWaits s l c r) (htn : ctxTn s c < 513) (hf : ringFull s = false)
    (hd : s.boot.bvDown = false) (n : Nat) : ∃ left, State.fillRing (n + 1) s = s.ringEntered c left := by
  obtain ⟨left, hfill⟩ := fillRing_enters n (by rw [h.nextTurn_own htn]; exact h.find_own) hf hd
  refine ⟨left, hfill.trans (fillRing_idle (fun d hd => ?_) n)⟩
  rw [h.ringEntered_ctxs] at hd
  exact (List.mem_append.1 hd).elim (h.left d) (h.right d)

end Sys2Proof.Machine
end

section
/-! The packets of the management transports (R349, R351, R352, R354). -/

namespace Sys2Proof.Machine

variable {s : State} {p : Packet}

/-- The packet reaches the endpoint of its port and passes its checks. -/
structure Delivered (s : State) (p : Packet) : Prop where
  live : mctpLive s p.port p.ch = true
  sound : p.bad = false
  dest : p.dest = 0 ∨ p.dest = rf s (eidFld p.port)

/-! ### The cases of MCTP_PACKET -/

theorem exec_mctpPacket_bad (hl : mctpLive s p.port p.ch = true) (hb : p.bad = true) :
    exec (.mctpPacket p) s = .next (s.bump MTRANS_PEC_ERR_LO MTRANS_PEC_ERR_HI MTRANS_EVT_SAT srcMTRANS) := by
  simp only [exec, execMctpPacket, hl, hb, Bool.not_true, Bool.false_eq_true, if_false, if_true]

theorem exec_mctpPacket_elsewhere (hl : mctpLive s p.port p.ch = true) (hb : p.bad = false) (h0 : p.dest ≠ 0)
    (hd : p.dest ≠ rf s (eidFld p.port)) :
    exec (.mctpPacket p) s = .next (s.bump MTRANS_UNKNOWN_SRC_LO MTRANS_UNKNOWN_SRC_HI MTRANS_EVT_SAT srcMTRANS) := by
  simp only [exec, execMctpPacket, hl, hb, h0, hd, Bool.not_true, Bool.false_eq_true, if_false, ne_eq, not_false_eq_true, decide_true,
    Bool.and_self, if_true]

/-- Its destination is no other endpoint. -/
theorem Delivered.here (h : Delivered s p) : (decide (p.dest ≠ 0) && decide (p.dest ≠ rf s (eidFld p.port))) = false := by
  obtain hd | hd := h.dest <;> simp [hd]

theorem Delivered.exec_start (h : Delivered s p) (hc : ctxOf s p.port p.src (p.tag % 8) p.owner = none) (hs : p.som = true) :
    exec (.mctpPacket p) s = .next (s.packetStart p) := by
  simp only [exec, execMctpPacket, h.live, h.sound, h.here, hc, hs, Bool.not_true, Bool.false_eq_true, if_false, if_true]

theorem Delivered.exec_stray (h : Delivered s p) (hc : ctxOf s p.port p.src (p.tag % 8) p.owner = none) (hs : p.som = false) :
    exec (.mctpPacket p) s = .next s := by
  simp only [exec, execMctpPacket, h.live, h.sound, h.here, hc, hs, Bool.not_true, Bool.false_eq_true, if_false]

theorem Delivered.exec_gap (h : Delivered s p) {c : Ctx} (hc : ctxOf s p.port p.src (p.tag % 8) p.owner = some c) (hs : p.som = false)
    (hq : p.seq % 4 ≠ c.seq) : exec (.mctpPacket p) s = .next (s.reasmDrop c .timeout) := by
  simp only [exec, execMctpPacket, h.live, h.sound, h.here, hc, hs, if_pos hq, Bool.not_true, Bool.false_eq_true, if_false]

theorem Delivered.exec_next (h : Delivered s p) {c : Ctx} (hc : ctxOf s p.port p.src (p.tag % 8) p.owner = some c) (hs : p.som = false)
    (hq : p.seq % 4 = c.seq) : exec (.mctpPacket p) s = .next (s.packetIn c p) := by
  have hin : ¬ p.seq % 4 ≠ c.seq := not_not.2 hq
  simp only [exec, execMctpPacket, h.live, h.sound, h.here, hc, hs, if_neg hin, Bool.not_true, Bool.false_eq_true, if_false]

/-! ### The message grows -/

/-- The context after the packet. -/
def Ctx.grown (c : Ctx) (p : Packet) : Ctx := { c with data := c.data ++ p.data, seq := (p.seq + 1) % 4 }

theorem packetIn_long {c : Ctx} (h : 4224 < (c.data ++ p.data).length) : s.packetIn c p = s.reasmDrop c .malformed := if_pos h

/-- The message is kept with the packet at its end. -/
def State.ctxGrown (s : State) (c : Ctx) (p : Packet) : State :=
  ((s.dropCtx c).modMt fun m => { m with ctxs := m.ctxs ++ [c.grown p] }).showCtx

theorem packetIn_more {c : Ctx} (h : (c.data ++ p.data).length ≤ 4224) (he : p.eom = false) : s.packetIn c p = s.ctxGrown c p := by
  have hlen : ¬ msgMax < (c.data ++ p.data).length := Nat.not_lt.2 h
  simp only [State.packetIn, if_neg hlen, he, Bool.false_eq_true, if_false]
  rfl

theorem packetIn_last {c : Ctx} (h : (c.data ++ p.data).length ≤ 4224) (he : p.eom = true) : s.packetIn c p = s.msgDone (c.grown p) := by
  have hlen : ¬ msgMax < (c.data ++ p.data).length := Nat.not_lt.2 h
  simp only [State.packetIn, if_neg hlen, he, if_true]
  rfl

/-- Messages of other keys stay in their contexts. -/
theorem mem_ctxGrown_of_other {c d : Ctx} (hd : d ∈ s.mtrans.ctxs) (h : d.is c.port c.src c.tag c.owner = false) :
    d ∈ (s.ctxGrown c p).mtrans.ctxs :=
  List.mem_append_left _ (List.mem_filter.2 ⟨hd, by simp [h]⟩)

/-! ### Start packets -/

/-- The context that a start packet takes. -/
def openedBy (p : Packet) : Ctx := ⟨p.port, p.ch, p.src, p.owner, p.tag % 8, [], p.seq % 4, false⟩

theorem packetStart_full (h : 32 ≤ s.mtrans.ctxs.length) : s.packetStart p =
    ((s.bump MTRANS_REASM_DROP_LO MTRANS_REASM_DROP_HI MTRANS_EVT_SAT srcMTRANS).raise MTRANS_EVT_DROP).raise MTRANS_STAT_REASM_FULL := if_pos h

theorem packetStart_taken (h : s.mtrans.ctxs.length < 32) : s.packetStart p = s.packetIn (openedBy p) p := if_neg (Nat.not_le.2 h)

theorem packetStart_full_shows (h : 32 ≤ s.mtrans.ctxs.length) :
    (s.packetStart p).mtrans = s.mtrans ∧ rb (s.packetStart p) MTRANS_STAT_REASM_FULL = true
      ∧ ctr (s.packetStart p) MTRANS_REASM_DROP_LO MTRANS_REASM_DROP_HI = min (ctr s MTRANS_REASM_DROP_LO MTRANS_REASM_DROP_HI + 1) ctrMax
      ∧ (s.packetStart p).kiosk = s.kiosk := by
  rw [packetStart_full h]
  refine ⟨State.bump_mtrans .., rb_raise_same _ rfl (by decide), ?_, State.bump_kiosk ..⟩
  rw [State.raise, ctr_setF_ne (by decide) (by decide), State.raise, ctr_setF_ne (by decide) (by decide)]
  exact ctr_bump (by decide) (by decide) (by decide) (.inl (by decide)) (.inl (by decide)) s srcMTRANS

theorem ctxGrown_opens (hc : ctxOf s p.port p.src (p.tag % 8) p.owner = none) (h : s.mtrans.ctxs.length < 32) :
    (s.ctxGrown (openedBy p) p).mtrans = { s.mtrans with ctxs := s.mtrans.ctxs ++ [(openedBy p).grown p] } ∧ (s.ctxGrown (openedBy p) p).kiosk = s.kiosk
      ∧ rf (s.ctxGrown (openedBy p) p) MTRANS_STAT_REASM_USED = s.mtrans.ctxs.length + 1 := by
  have hdrop : (s.dropCtx (openedBy p)).mtrans = s.mtrans := dropCtx_of_none hc
  have hmt : (s.ctxGrown (openedBy p) p).mtrans = { s.mtrans with ctxs := s.mtrans.ctxs ++ [(openedBy p).grown p] } :=
    congrArg (fun m : Mtrans => { m with ctxs := m.ctxs ++ [(openedBy p).grown p] }) hdrop
  refine ⟨hmt, rfl, ?_⟩
  have hshow : rf (s.ctxGrown (openedBy p) p) MTRANS_STAT_REASM_USED = (s.ctxGrown (openedBy p) p).mtrans.ctxs.length % 2 ^ 8 :=
    rf_setF_same _ _ _ (by decide)
  rw [hshow, hmt]
  simp only [List.length_append, List.length_singleton]
  exact Nat.mod_eq_of_lt (by omega)

/-! ### A complete control message (R354) -/

/-- The complete message waits behind the others for the ring. -/
def State.ringAwaits (s : State) (c : Ctx) : State :=
  ((s.dropCtx c).modMt fun m => { m with ctxs := m.ctxs ++ [{ c with done := true }] }).showCtx

/-- A control message from a source without an entry goes to the ring. -/
theorem msgDone_control {c : Ctx} (ht : mctpTenant s ⟨c.port, c.src⟩ = none) (hty : fieldAt c.data 0 1 % 128 = 0) :
    s.msgDone c = State.fillRing 32 (s.ringAwaits c) := by
  have ht' : mctpTenant (s.dropCtx c) ⟨c.port, c.src⟩ = none := ht
  simp only [State.msgDone, ht', hty, mtCONTROL, if_true]
  rfl

theorem ringAwaits_oneWaits {c : Ctx} (hc : ctxOf s c.port c.src c.tag c.owner = none) (h : ∀ d ∈ s.mtrans.ctxs, d.done = false) :
    OneWaits (s.ringAwaits c) s.mtrans.ctxs { c with done := true } [] where
  ctxs := congrArg (fun m : Mtrans => m.ctxs ++ [{ c with done := true }]) (dropCtx_of_none hc)
  done := rfl
  left := h
  right _ hd := nomatch hd

theorem rf_ringAwaits {g : Fld} (c : Ctx) (h : MTRANS_STAT_REASM_USED.apart g) : rf (s.ringAwaits c) g = rf s g := by
  rw [State.ringAwaits, rf_showCtx_off h, rf_modMt, rf_dropCtx_off c h]

/-- The complete message enters the ring behind a header that names no tenant. -/
theorem msgDone_control_shows {c : Ctx} (hc : ctxOf s c.port c.src c.tag c.owner = none) (ht : mctpTenant s ⟨c.port, c.src⟩ = none)
    (hty : fieldAt c.data 0 1 % 128 = 0) (h : ∀ d ∈ s.mtrans.ctxs, d.done = false) (hf : ringFull s = false) (hd : s.boot.bvDown = false)
    (htcm : inTcm (rf s MTRANS_RX_BASE_ADDR + slotSize * ringHead s) slotSize = true) :
    (s.msgDone c).mtrans.ctxs = s.mtrans.ctxs ∧ rf (s.msgDone c) MTRANS_RX_PTR_HEAD = (ringHead s + 1) % 16
      ∧ rb (s.msgDone c) MTRANS_EVT_RX = true ∧ rf (s.msgDone c) MTRANS_RX_PTR_TAIL = rf s MTRANS_RX_PTR_TAIL
      ∧ tcmRead (s.msgDone c) (rf s MTRANS_RX_BASE_ADDR + slotSize * ringHead s) (16 + c.data.length)
        = slotHeader s { c with done := true } ++ c.data := by
  have hone := ringAwaits_oneWaits hc h
  have hhead : ringHead (s.ringAwaits c) = ringHead s := rf_ringAwaits c (by decide)
  have htail : rf (s.ringAwaits c) MTRANS_RX_PTR_TAIL = rf s MTRANS_RX_PTR_TAIL := rf_ringAwaits c (by decide)
  have hbase : rf (s.ringAwaits c) MTRANS_RX_BASE_ADDR = rf s MTRANS_RX_BASE_ADDR := rf_ringAwaits c (by decide)
  have hfull : ringFull (s.ringAwaits c) = false := by rw [ringFull, hhead, htail]; exact hf
  have htn : ctxTn (s.ringAwaits c) { c with done := true } < 513 := by
    have ht' : mctpTenant (s.ringAwaits c) ⟨c.port, c.src⟩ = none := ht
    simp only [ctxTn, ht']
    decide
  obtain ⟨left, hfill⟩ := hone.fillRing htn hfull hd 31
  obtain ⟨hh, hevt, htl⟩ := ringEntered_shows (s.ringAwaits c) { c with done := true } left
  have hslot := ringEntered_slot (s := s.ringAwaits c) (c := { c with done := true }) left (by rw [hbase, hhead]; exact htcm)
  rw [hbase, hhead] at hslot
  rw [msgDone_control ht hty, hfill]
  exact ⟨(hone.ringEntered_ctxs left).trans (List.append_nil _), hh.trans (by rw [hhead]), hevt, htl.trans htail, hslot⟩

/-! ### Counted packets, time-outs and freed slots -/

theorem exec_reassemblyTimeout {port src tag : Nat} {owner : Bool} {c : Ctx} (h : ctxOf s port src tag owner = some c) :
    exec (.reassemblyTimeout port src tag owner) s = .next (s.reasmDrop c .timeout) := by
  simp only [exec, execReassemblyTimeout, h]

/-- TAIL advances. -/
def State.tailMoved (s : State) (tail : Nat) : State := s.setF MTRANS_RX_PTR_TAIL tail

theorem exec_rxSlotFree (s : State) (tail : Nat) : exec (.rxSlotFree tail) s = .next (State.fillRing 32 (s.tailMoved tail)) := rfl

theorem rf_tailMoved (s : State) (tail : Nat) : rf (s.tailMoved tail) MTRANS_RX_PTR_TAIL = tail % 16 := rf_setF_same _ _ _ (by decide)

theorem ringHead_tailMoved (s : State) (tail : Nat) : ringHead (s.tailMoved tail) = ringHead s := rf_setF_ne _ _ _ _ (by decide)

/-- A slot freed for the one message that waits takes it. -/
theorem rxSlotFree_shows {tail : Nat} {c : Ctx} {cs : List Ctx} (h : OneWaits s [] c cs) (htn : ctxTn s c < 513) (hd : s.boot.bvDown = false)
    (hr : (ringHead s + 1) % 16 ≠ tail % 16) : ∃ t, exec (.rxSlotFree tail) s = .next t ∧ t.mtrans.ctxs = cs
      ∧ rf t MTRANS_RX_PTR_HEAD = (ringHead s + 1) % 16 ∧ rb t MTRANS_EVT_RX = true := by
  have hone : OneWaits (s.tailMoved tail) [] c cs := ⟨h.ctxs, h.done, h.left, h.right⟩
  have hfull : ringFull (s.tailMoved tail) = false := by
    rw [ringFull, ringHead_tailMoved, rf_tailMoved]
    exact decide_eq_false hr
  obtain ⟨left, hfill⟩ := hone.fillRing htn hfull hd 31
  obtain ⟨hh, hevt, -⟩ := ringEntered_shows (s.tailMoved tail) c left
  refine ⟨_, (exec_rxSlotFree s tail).trans (congrArg _ hfill), hone.ringEntered_ctxs left, ?_, hevt⟩
  rw [hh, ringHead_tailMoved]

/-! ### O46 -/

/-- Settles O46: the cases of MCTP_PACKET by the context of the packet, and the ring by the one message that waits for it. -/
theorem packetsAreReassembled : Obligations.PacketsAreReassembled := by
  intro s p hlive
  refine ⟨fun hb => ?_, fun hb h0 hd => ?_, fun hb hdest => ?_, fun src tag owner c hc => exec_reassemblyTimeout hc, reasmDrop_shows s,
    fun tail hnone => ?_, fun tail c cs hctxs hdone hcs htn hdown hr => ?_⟩
  · exact ⟨_, exec_mctpPacket_bad hlive hb, State.bump_mtrans ..,
      ctr_bump (by decide) (by decide) (by decide) (.inl (by decide)) (.inl (by decide)) s srcMTRANS⟩
  · exact ⟨_, exec_mctpPacket_elsewhere hlive hb h0 hd, State.bump_mtrans ..,
      ctr_bump (by decide) (by decide) (by decide) (.inl (by decide)) (.inl (by decide)) s srcMTRANS⟩
  · have hdel : Delivered s p := ⟨hlive, hb, hdest⟩
    refine ⟨fun hc hs => ⟨fun hn => ?_, fun hn hlen he => ?_, fun hn hlen he hty ht hnone hfull hdown htcm => ?_⟩, hdel.exec_stray,
      fun c hc hs => ⟨fun hq hlen he => ?_, hdel.exec_gap hc hs, fun hq hlen => ?_⟩⟩
    · exact ⟨_, hdel.exec_start hc hs, packetStart_full_shows hn⟩
    · refine ⟨_, hdel.exec_start hc hs, ?_⟩
      rw [packetStart_taken hn, packetIn_more (c := openedBy p) hlen he]
      exact ctxGrown_opens hc hn
    · refine ⟨_, hdel.exec_start hc hs, ?_⟩
      rw [packetStart_taken hn, packetIn_last (c := openedBy p) hlen he]
      exact msgDone_control_shows (c := (openedBy p).grown p) hc ht hty hnone hfull hdown htcm
    · obtain ⟨hport, hsrc, htag, howner⟩ := ctxOf_is hc
      refine ⟨_, hdel.exec_next hc hs hq, ?_⟩
      rw [packetIn_more hlen he]
      refine ⟨List.mem_append_right _ (List.mem_singleton.2 rfl), rfl, fun d hd his => mem_ctxGrown_of_other hd ?_⟩
      rw [hport, hsrc, htag, howner]
      exact his
    · rw [hdel.exec_next hc hs hq, packetIn_long hlen]
  · exact ⟨_, (exec_rxSlotFree s tail).trans (congrArg _ (fillRing_idle (s := s.tailMoved tail) hnone 32)), rf_tailMoved s tail, rfl, rfl⟩
  · exact rxSlotFree_shows ⟨hctxs, hdone, fun _ hd => (nomatch hd), hcs⟩ htn hdown hr

end Sys2Proof.Machine
end

section
/-! Life-cycle requests: the table of R384, an accepted request's latch, and the start of a SCRAP (R383 to R387). -/

namespace Sys2Proof.Machine

variable {s : State} {k : Nat} {dbg : Bool}

/-! ### The decision (R383, R384) -/

/-- Life cycle undisturbed: no torn transition, none pending, spare words left and no LOCKDOWN. -/
structure LcSettled (s : State) : Prop where
  unlocked : lockdown s = false
  spare : spareWordsOut s = false
  torn : rb s LCS_STAT_TORN = false
  pending : rb s LCS_STAT_PENDING = false

/-- A settled life cycle is decided by the row of the table and its condition. -/
theorem LcSettled.code (h : LcSettled s) (k : Nat) (dbg : Bool) : lcsCode s k dbg =
    if lcRow (lcState s) k dbg then (if lcCondition s k then none else some .refusedPolicy) else some .refusedState := by
  have hct : completesTorn s k = false := by rw [completesTorn, h.torn, Bool.false_and]
  simp only [lcsCode, firstCode, h.unlocked, h.spare, h.pending, hct]
  cases lcRow (lcState s) k dbg <;> cases lcCondition s k <;> rfl

theorem lcCondition_other {k : Nat} (hf : ¬ (lcState s = lcFACTORY ∧ k = lcOWNED)) (ho : ¬ (lcState s = lcOWNED ∧ k = lcRETURNED)) :
    lcCondition s k = true := by
  have hf' : ¬ (decide (lcState s = lcFACTORY) && decide (k = lcOWNED)) = true := by simpa using hf
  have ho' : ¬ (decide (lcState s = lcOWNED) && decide (k = lcRETURNED)) = true := by simpa using ho
  rw [lcCondition, if_neg hf', if_neg ho']

/-- A request is refused with a code other than OK. -/
theorem lcsCode_ne_ok {e : Code} (h : lcsCode s k dbg = some e) : e ≠ .ok := by
  rintro rfl
  simp only [lcsCode, firstCode] at h
  split at h
  · exact absurd h (by decide)
  · split at h
    · exact absurd h (by decide)
    · split at h
      · exact absurd h (by decide)
      · split at h <;> exact absurd h (by decide)

/-- The table of R384, state by state. -/
theorem LcSettled.table (h : LcSettled s) :
    (lcState s = lcBLANK → lcsCode s 1 true = none ∧ lcsCode s 1 false = some .refusedState)
      ∧ (lcState s = lcFACTORY → lcsCode s 4 false = none ∧ lcsCode s 3 false = some .refusedState)
      ∧ (lcState s = lcOWNED → lcsCode s 4 false = none
        ∧ lcsCode s 3 false = if rb s LCS_STAT_ARMED then none else some .refusedPolicy)
      ∧ (lcState s = lcRETURNED → lcsCode s 4 false = none ∧ lcsCode s 2 false = some .refusedState)
      ∧ (lcState s = lcSCRAP → ∀ k, lcsCode s k false = some .refusedState) := by
  have hrefused {k : Nat} {d : Bool} (hr : lcRow (lcState s) k d = false) : lcsCode s k d = some .refusedState := by
    rw [h.code, hr]
    rfl
  have hfree {k : Nat} {d : Bool} (hr : lcRow (lcState s) k d = true) (hc : k = 1 ∨ k = 4) : lcsCode s k d = none := by
    have hcond : lcCondition s k = true := lcCondition_other (by rintro ⟨-, rfl⟩; exact absurd hc (by decide))
      (by rintro ⟨-, rfl⟩; exact absurd hc (by decide))
    rw [h.code, hr, hcond]
    rfl
  refine ⟨fun hl => ⟨hfree (by rw [hl]; decide) (.inl rfl), hrefused (by rw [hl]; decide)⟩,
    fun hl => ⟨hfree (by rw [hl]; decide) (.inr rfl), hrefused (by rw [hl]; decide)⟩,
    fun hl => ⟨hfree (by rw [hl]; decide) (.inr rfl), ?_⟩,
    fun hl => ⟨hfree (by rw [hl]; decide) (.inr rfl), hrefused (by rw [hl]; decide)⟩,
    fun hl k => hrefused (by rw [hl]; rfl)⟩
  have hrow : lcRow (lcState s) 3 false = true := by rw [hl]; decide
  have hcond : lcCondition s 3 = rb s LCS_STAT_ARMED := by
    rw [lcCondition, hl]
    rfl
  rw [h.code, hrow, hcond]
  rfl

/-! ### An outcome shown in LCS_REQ_STAT -/

theorem lcsDecided_refused (s : State) (hk : k < 8) {e : Code} (he : e ≠ .ok) :
    let t := s.lcsDecided k e
    t.lcs = s.lcs ∧ t.otp = s.otp ∧ rf t LCS_REQ_STAT_LAST_TARGET = k ∧ rf t LCS_REQ_STAT_LAST_STATUS = e.val ∧ rb t LCS_EVT_REFUSED = true
      ∧ t.gate = s.gate := by
  have ht : s.lcsDecided k e = ((s.setF LCS_REQ_STAT_LAST_TARGET k).setF LCS_REQ_STAT_LAST_STATUS e.val).raise LCS_EVT_REFUSED := by
    rw [State.lcsDecided, if_neg he]
  dsimp only
  rw [ht]
  refine ⟨rfl, rfl, ?_, ?_, rb_raise_same _ rfl (by decide), rfl⟩
  · rw [State.raise, rf_setF_ne _ _ _ _ (by decide), rf_setF_ne _ _ _ _ (by decide), rf_setF_same _ _ _ (by decide)]
    exact Nat.mod_eq_of_lt hk
  · rw [State.raise, rf_setF_ne _ _ _ _ (by decide), rf_setF_same _ _ _ (by decide)]
    exact Nat.mod_eq_of_lt e.val_lt

/-- A debugger's write that is ignored raises REFUSED and enters a record. -/
def State.lcsIgnored (s : State) : State := (s.raise LCS_EVT_REFUSED).journal 0 384 srcLCS noUnit .refusedState

theorem lcsIgnored_shows (s : State) : s.lcsIgnored.lcs = s.lcs ∧ s.lcsIgnored.otp = s.otp ∧ rb s.lcsIgnored LCS_EVT_REFUSED = true
    ∧ reg s.lcsIgnored LCS_REQ_STAT = reg s LCS_REQ_STAT := by
  refine ⟨State.journal_lcs .., State.journal_otp .., ?_, ?_⟩
  · rw [State.lcsIgnored, rb_journal _ _ _ _ _ _ _ (by decide) (.inl (by decide))]
    exact rb_raise_same _ rfl (by decide)
  · rw [State.lcsIgnored, reg_journal _ _ _ _ _ _ _ (by decide) (.inl (by decide))]
    exact reg_setF_ne _ _ _ _ (by decide)

theorem lcsRequest_ignored (h : lcState s ≠ lcBLANK ∨ rf s DEBUG_STAT_LEVEL ≠ 3) : s.lcsRequest k true = s.lcsIgnored := by
  have hg : dbgGrants s .lcsRequest = false := by
    obtain hb | hlevel := h
    · simp [dbgGrants, hb]
    · have hlt : rf s DEBUG_STAT_LEVEL < 2 ^ 2 := rf_lt s DEBUG_STAT_LEVEL
      have : ¬ 3 ≤ dbgLevel s := by unfold dbgLevel; omega
      simp [dbgGrants, grantLevel, this]
  rw [State.lcsRequest, hg]
  rfl

/-- Any other request has the code of the table, or is accepted. -/
theorem lcsRequest_judged (h : dbg = true → lcState s = lcBLANK ∧ rf s DEBUG_STAT_LEVEL = 3) : s.lcsRequest k dbg =
    match lcsCode s k dbg with
    | some c => s.lcsDecided k c
    | none => s.lcsAccept k := by
  have hg : (dbg && !dbgGrants s .lcsRequest) = false := by
    cases dbg with
    | false => rfl
    | true =>
      obtain ⟨hb, hlevel⟩ := h rfl
      simp [dbgGrants, grantLevel, dbgLevel, hb, hlevel]
  rw [State.lcsRequest, hg]
  rfl

/-! ### An accepted request (R384 to R387) -/

/-- The target is latched in an atomic window and the copies are being programmed. -/
def State.lcsLatched (s : State) (k : Nat) : State :=
  (((((s.lcsDecided k .ok).journal 0 384 srcLCS k).setF LCS_STAT_PENDING 1).setF LCS_STAT_ARMED 0).setF LCS_REQ_STAT_BUSY 1).atomic.modLcs
    fun l => { l with target := some (max k (l.target.getD 0)) }

theorem lcsAccept_eq (s : State) (k : Nat) :
    s.lcsAccept k = ((s.lcsLatched k).when (k = lcRETURNED) (·.vaultClear 256 4096)).when (k = lcSCRAP) State.scrapStart := rfl

/-- What the life cycle shows of the request for `k` that state `s` accepted. -/
structure Latched (s : State) (k : Nat) (t : State) : Prop where
  target : t.lcs.target = some (max k (s.lcs.target.getD 0))
  pending : rb t LCS_STAT_PENDING = true
  armed : rb t LCS_STAT_ARMED = false
  busy : rb t LCS_REQ_STAT_BUSY = true
  lastTarget : rf t LCS_REQ_STAT_LAST_TARGET = k
  lastStatus : rf t LCS_REQ_STAT_LAST_STATUS = 0
  accepted : rb t LCS_EVT_ACCEPTED = true

/-- The registers of the life cycle carry it. -/
theorem Latched.of_rf {u t : State} (h : Latched s k u) (ht : t.lcs.target = u.lcs.target)
    (hr : ∀ g : Fld, 0x40010000 ≤ g.addr → g.addr < 0x40020000 → rf t g = rf u g) : Latched s k t where
  target := ht.trans h.target
  pending := (rb_of_rf (hr _ (by decide) (by decide))).trans h.pending
  armed := (rb_of_rf (hr _ (by decide) (by decide))).trans h.armed
  busy := (rb_of_rf (hr _ (by decide) (by decide))).trans h.busy
  lastTarget := (hr _ (by decide) (by decide)).trans h.lastTarget
  lastStatus := (hr _ (by decide) (by decide)).trans h.lastStatus
  accepted := (rb_of_rf (hr _ (by decide) (by decide))).trans h.accepted

theorem lcsDecided_ok (s : State) (k : Nat) :
    s.lcsDecided k .ok = ((s.setF LCS_REQ_STAT_LAST_TARGET k).setF LCS_REQ_STAT_LAST_STATUS 0).raise LCS_EVT_ACCEPTED := rfl

theorem lcsLatched_latched (s : State) (hk : k < 8) : Latched s k (s.lcsLatched k) := by
  have hrec {g : Fld} (hg : offJournal g.addr) : rf ((s.lcsDecided k .ok).journal 0 384 srcLCS k) g = rf (s.lcsDecided k .ok) g :=
    rf_journal _ _ _ _ _ _ _ (by decide) hg
  constructor
  · show some (max k (((s.lcsDecided k .ok).journal 0 384 srcLCS k).lcs.target.getD 0)) = _
    rw [State.journal_lcs]
    rfl
  all_goals unfold State.lcsLatched; simp only [rb_modLcs, rf_modLcs, rb_atomic, rf_atomic]
  · rw [rb_setF_ne _ _ _ _ (by decide), rb_setF_ne _ _ _ _ (by decide)]
    exact rb_setF_same _ _ _ (by decide)
  · rw [rb_setF_ne _ _ _ _ (by decide)]
    exact rb_setF_same _ _ _ (by decide)
  · exact rb_setF_same _ _ _ (by decide)
  · rw [rf_setF_ne _ _ _ _ (by decide), rf_setF_ne _ _ _ _ (by decide), rf_setF_ne _ _ _ _ (by decide), hrec (.inl (by decide)),
      lcsDecided_ok, State.raise, rf_setF_ne _ _ _ _ (by decide), rf_setF_ne _ _ _ _ (by decide), rf_setF_same _ _ _ (by decide)]
    exact Nat.mod_eq_of_lt hk
  · rw [rf_setF_ne _ _ _ _ (by decide), rf_setF_ne _ _ _ _ (by decide), rf_setF_ne _ _ _ _ (by decide), hrec (.inl (by decide)),
      lcsDecided_ok, State.raise, rf_setF_ne _ _ _ _ (by decide), rf_setF_same _ _ _ (by decide)]
    rfl
  · rw [rb_setF_ne _ _ _ _ (by decide), rb_setF_ne _ _ _ _ (by decide), rb_setF_ne _ _ _ _ (by decide),
      rb_of_rf (hrec (.inl (by decide))), lcsDecided_ok]
    exact rb_raise_same _ rfl (by decide)

theorem lcsLatched_mode (s : State) (k : Nat) : mode (s.lcsLatched k) = mode s := by
  unfold mode State.lcsLatched
  simp only [rf_modLcs, rf_atomic]
  rw [rf_setF_ne _ _ _ _ (by decide), rf_setF_ne _ _ _ _ (by decide), rf_setF_ne _ _ _ _ (by decide),
    rf_journal _ _ _ _ _ _ _ (by decide) (.inl (by decide)), lcsDecided_ok, State.raise, rf_setF_ne _ _ _ _ (by decide),
    rf_setF_ne _ _ _ _ (by decide), rf_setF_ne _ _ _ _ (by decide)]

/-! ### The start of a SCRAP (R387) -/

/-- A domain is held, or its recovery ended, as SCRAP begins. -/
def State.scrapHold (s : State) (d : Nat) : State :=
  if released s d then s.holdDom d
  else if domState s d = stRECOVERING then (s.setDom d stPARKED).recEnd d Code.aborted.val
  else s

theorem calm_scrapHold (s : State) (d : Nat) : calm (s.scrapHold d) = calm s :=
  calm_ite (calm_holdDom s d) (calm_ite ((calm_recEnd _ d _).trans (calm_setDom s d _)) rfl)

/-- The Orangery loses its keys. -/
def State.keysDropped (s : State) : State := { s with orang := { s.orang with keys := [] } }

/-- The domains are held, the Orangery's keys gone and the update job aborted. -/
def State.scrapHeld (s : State) : State := (s.each (domOrder s) State.scrapHold).keysDropped.updAbortAll

theorem scrapStart_eq (s : State) : s.scrapStart = (s.scrapHeld.zeroise 0xFE).modLcs fun l => { l with scrap := 1 } := rfl

/-- Up to the zeroisation nothing that is calm moves but the Orangery's keys. -/
theorem scrapHeld_keeps (s : State) : s.scrapHeld.orang.keys = [] ∧ s.scrapHeld.lcs = s.lcs ∧ mode s.scrapHeld = mode s
    ∧ ∀ a, calmReg a = true → reg s.scrapHeld a = reg s a := by
  have hheld : calm (s.each (domOrder s) State.scrapHold) = calm s := State.each_keeps calm _ _ calm_scrapHold s
  have habort := calm_updAbortAll (s.each (domOrder s) State.scrapHold).keysDropped
  refine ⟨calm_keys habort, (calm_lcs habort).trans ?_, (calm_mode habort).trans ?_, fun a ha => (calm_reg habort ha).trans ?_⟩
  · exact (calm_lcs hheld :)
  · exact (calm_mode hheld :)
  · exact (calm_reg hheld ha :)

/-- What the Lodge and its registers do not hold, the clearing of the vault leaves. -/
theorem vaultZeroised_keeps {β : Type} (g : State → β) (hm : ∀ u f, g (State.modLodge u f) = g u) (hf : ∀ u f v, g (State.setF u f v) = g u)
    (s : State) (cause : Nat) : g (s.vaultZeroised cause) = g s := by
  have hshow (u : State) : g u.showVault = g u := (hf _ _ _).trans (hf _ _ _)
  have hwrite (u : State) (a : Nat) (bs : List Byte) : g (u.vaultWrite a bs) = g u := (hshow _).trans (hm _ _)
  have hclear (u : State) (lo hi : Nat) : g (u.vaultClear lo hi) = g u := (hshow _).trans (hm _ _)
  unfold State.vaultZeroised State.vaultZeroise State.raise
  rw [hf, hwrite]
  split <;> simp only [hclear, hm]

theorem vaultByte_zero_zeroise (s : State) (cause : Nat) : fieldAt (vaultRead (s.zeroise cause) 0 1) 0 1 = 0x5A := by
  have hbytes : [vaultByte (s.vaultZeroise cause) 0, vaultByte (s.vaultZeroise cause) 1] = [0x5A, BitVec.ofNat 8 cause] :=
    (vaultZeroise_bytes s cause).1
  have hzero : vaultByte (s.zeroise cause) 0 = 0x5A := (vaultByte_zeroise s cause 0).trans (List.cons.inj hbytes).1
  have hread : vaultRead (s.zeroise cause) 0 1 = [vaultByte (s.zeroise cause) 0] := rfl
  rw [hread, hzero]
  rfl

/-- What the start of a SCRAP leaves of the life cycle, and what it wipes. -/
theorem scrapStart_shows (s : State) : s.scrapStart.lcs = { s.lcs with scrap := 1 } ∧ s.scrapStart.orang.keys = []
    ∧ fieldAt (vaultRead s.scrapStart 0 1) 0 1 = 0x5A ∧ (modeRun s = true → lockdown s.scrapStart = true)
    ∧ ∀ g : Fld, 0x40010000 ≤ g.addr → g.addr < 0x40020000 → rf s.scrapStart g = rf s g := by
  obtain ⟨hkeys, hlcs, hmode, hregs⟩ := scrapHeld_keeps s
  have hz := zeroise_zeroised s.scrapHeld 0xFE
  have hzlcs := vaultZeroised_keeps State.lcs (fun _ _ => rfl) (fun _ _ _ => rfl) s.scrapHeld 0xFE
  have hzorang := vaultZeroised_keeps State.orang (fun _ _ => rfl) (fun _ _ _ => rfl) s.scrapHeld 0xFE
  rw [scrapStart_eq]
  refine ⟨?_, (hz.orang.trans (congrArg (·.keys) hzorang)).trans hkeys, vaultByte_zero_zeroise s.scrapHeld 0xFE, fun h => ?_, fun g hlo hhi => ?_⟩
  · exact congrArg (fun l : Lcs => { l with scrap := 1 }) ((hz.lcs.trans hzlcs).trans hlcs)
  · exact zeroise_locks s.scrapHeld 0xFE ((modeRun_congr hmode).trans h)
  · have hcalm : calmReg g.addr = true := by simp [calmReg, hlo, hhi]
    have hne {a : Nat} (ha : 0x40020000 ≤ a) : a ≠ g.addr := by omega
    rw [rf_modLcs, rf_zeroise _ hcalm (.inl (hne (by decide))) (.inl (hne (by decide))) (.inl (hne (by decide)))]
    exact rf_congr_reg (hregs _ hcalm)

/-- The outcome of an accepted request for each target. -/
theorem lcsAccept_shows (s : State) (hk : k < 8) : Latched s k (s.lcsAccept k)
    ∧ (k = 3 → vaultRead (s.lcsAccept k) 256 3840 = List.replicate 3840 0)
    ∧ (k = 4 → (s.lcsAccept k).lcs.scrap = 1 ∧ (s.lcsAccept k).orang.keys = [] ∧ fieldAt (vaultRead (s.lcsAccept k) 0 1) 0 1 = 0x5A
      ∧ (modeRun s = true → lockdown (s.lcsAccept k) = true)) := by
  have hlatch := lcsLatched_latched s hk
  by_cases hret : k = 3
  · subst hret
    have ht : s.lcsAccept 3 = (s.lcsLatched 3).vaultClear 256 4096 := rfl
    rw [ht]
    refine ⟨hlatch.of_rf rfl fun g hlo hhi => ?_, fun _ => vaultRead_vaultClear _ (by decide) (by decide), fun h => absurd h (by decide)⟩
    have hne {a : Nat} (ha : 0x40020000 ≤ a) : a ≠ g.addr := by omega
    exact rf_vaultClear _ (.inl (hne (by decide))) (.inl (hne (by decide))) 256 4096
  · by_cases hscrap : k = 4
    · subst hscrap
      have ht : s.lcsAccept 4 = (s.lcsLatched 4).scrapStart := rfl
      obtain ⟨hlcs, hkeys, hvault, hlock, hregs⟩ := scrapStart_shows (s.lcsLatched 4)
      rw [ht]
      exact ⟨hlatch.of_rf (congrArg (·.target) hlcs) hregs, fun h => absurd h hret, fun _ => ⟨congrArg (·.scrap) hlcs, hkeys, hvault,
        fun h => hlock ((modeRun_congr (lcsLatched_mode s 4)).trans h)⟩⟩
    · have ht : s.lcsAccept k = s.lcsLatched k := by simp [lcsAccept_eq, lcRETURNED, lcSCRAP, hret, hscrap, State.when]
      rw [ht]
      exact ⟨hlatch, fun h => absurd h hret, fun h => absurd h hscrap⟩

/-- The four commands are the request of their target. -/
theorem exec_lcs_request {c : Instr}
    (h : (k, c) ∈ [(1, Instr.lcsToFactory dbg), (2, .lcsToOwned dbg), (3, .lcsToReturned dbg), (4, .lcsToScrap dbg)]) (s : State) :
    exec c s = .next (s.lcsRequest k dbg) ∧ k < 8 := by
  simp only [List.mem_cons, Prod.mk.injEq, List.not_mem_nil, or_false] at h
  obtain ⟨rfl, rfl⟩ | ⟨rfl, rfl⟩ | ⟨rfl, rfl⟩ | ⟨rfl, rfl⟩ := h
  · exact ⟨rfl, by decide⟩
  · exact ⟨rfl, by decide⟩
  · exact ⟨rfl, by decide⟩
  · exact ⟨rfl, by decide⟩

end Sys2Proof.Machine
end

section
/-! The end of a life-cycle transition and of a SCRAP, the debug token and nonce, halts and scan (R384 to R394). -/

namespace Sys2Proof.Machine

variable {s : State}

/-! ### LCS_PROGRAMMED (R384, R387) -/

theorem otpRaw_otpProgram (s : State) (a : Nat) (v : BitVec 64) (w : Nat) :
    otpRaw (s.otpProgram a v) w = if w = a then otpRaw s a ||| v else otpRaw s w := Sparse.get_put _ _ _ _ _

theorem otpRaw_congr {t : State} (h : t.otp = s.otp) (w : Nat) : otpRaw t w = otpRaw s w := by rw [otpRaw, otpRaw, h]

theorem calm_endTest (s : State) : calm s.endTest = calm s := by
  unfold State.endTest
  split
  · rfl
  · dsimp only
    rw [calm_rngFlush, State.dropWindow, State.setNoise, calm_modRng,
      calm_low _ (show 0x40020000 ≤ RNG_SRC_STAT ∧ RNG_SRC_STAT < 0x40090000 by decide), calm_modRng]

/-- The three copies of the life-cycle code take the code of target `k`. -/
def State.codesProgrammed (s : State) (k : Nat) : State := s.each [0, 1, 2] fun s i => s.otpProgram i (lcWord k)

theorem otpRaw_codesProgrammed (s : State) (k w : Nat) :
    otpRaw (s.codesProgrammed k) w = if w < 3 then otpRaw s w ||| lcWord k else otpRaw s w := by
  have hthree : s.codesProgrammed k = ((s.otpProgram 0 (lcWord k)).otpProgram 1 (lcWord k)).otpProgram 2 (lcWord k) := rfl
  rw [hthree]
  simp only [otpRaw_otpProgram]
  obtain rfl | rfl | rfl | hw : w = 0 ∨ w = 1 ∨ w = 2 ∨ 3 ≤ w := by omega
  · rfl
  · rfl
  · rfl
  · rw [if_neg (by omega), if_neg (by omega), if_neg (by omega), if_neg (by omega)]

/-- The latched target is done with: PROGRAMMED is raised, and a SCRAP goes on to its words. -/
def State.targetDone (s : State) (k : Nat) : State :=
  ((s.codesProgrammed k).modLcs fun l => { l with target := none, scrap := if k = lcSCRAP then 2 else l.scrap }).raise LCS_EVT_PROGRAMMED

theorem exec_lcsProgrammed {k : Nat} (h : s.lcs.target = some k) :
    exec .lcsProgrammed s = .next ((s.targetDone k).when (k ≠ lcSCRAP) (·.setF LCS_REQ_STAT_BUSY 0)).endTest := by
  simp only [exec, execLcsProgrammed, h]
  rfl

theorem lcsProgrammed_shows (s : State) (k : Nat) :
    let t := ((s.targetDone k).when (k ≠ lcSCRAP) (·.setF LCS_REQ_STAT_BUSY 0)).endTest
    t.lcs.target = none ∧ rb t LCS_EVT_PROGRAMMED = true ∧ (∀ w, w < 3 → otpRaw t w = otpRaw s w ||| lcWord k)
      ∧ (∀ w, 3 ≤ w → otpRaw t w = otpRaw s w) ∧ (k ≠ 4 → rb t LCS_REQ_STAT_BUSY = false ∧ t.lcs.scrap = s.lcs.scrap)
      ∧ (k = 4 → t.lcs.scrap = 2) := by
  intro t
  let u := (s.targetDone k).when (k ≠ lcSCRAP) (·.setF LCS_REQ_STAT_BUSY 0)
  have hcalm : calm t = calm u := calm_endTest u
  have hlcs : t.lcs = (s.targetDone k).lcs := (calm_lcs hcalm).trans (State.when_keeps State.lcs (k ≠ lcSCRAP) (·.setF LCS_REQ_STAT_BUSY 0) (fun _ => rfl) _)
  have hdone : (s.targetDone k).lcs = { s.lcs with target := none, scrap := if k = lcSCRAP then 2 else s.lcs.scrap } := rfl
  have hotp (w : Nat) : otpRaw t w = if w < 3 then otpRaw s w ||| lcWord k else otpRaw s w := by
    have hu : t.otp = (s.codesProgrammed k).otp :=
      (State.endTest_otp u).trans (State.when_keeps State.otp (k ≠ lcSCRAP) (·.setF LCS_REQ_STAT_BUSY 0) (fun _ => rfl) _)
    rw [otpRaw_congr hu, otpRaw_codesProgrammed]
  have hevt : rb u LCS_EVT_PROGRAMMED = true :=
    (State.when_keeps (rb · LCS_EVT_PROGRAMMED) (k ≠ lcSCRAP) (·.setF LCS_REQ_STAT_BUSY 0) (fun v => rb_setF_ne v _ _ _ (by decide)) _).trans (rb_raise_same _ rfl (by decide))
  refine ⟨congrArg (·.target) (hlcs.trans hdone), (calm_rb hcalm (by decide)).trans hevt, fun w hw => (hotp w).trans (if_pos hw),
    fun w hw => (hotp w).trans (if_neg (by omega)), fun hk => ⟨?_, ?_⟩, fun hk => ?_⟩
  · have hu : u = (s.targetDone k).setF LCS_REQ_STAT_BUSY 0 := if_pos (decide_eq_true hk)
    rw [calm_rb hcalm (by decide), hu]
    exact rb_setF_zero _ (by decide)
  · exact (congrArg (·.scrap) (hlcs.trans hdone)).trans (if_neg hk)
  · exact (congrArg (·.scrap) (hlcs.trans hdone)).trans (if_pos hk)

/-! ### LCS_ARM (R385) -/

theorem exec_lcsArm_armed {w : Nat} (h : bitsAt w 16 16 = 0x52E7 ∧ w.testBit 0 = true) :
    exec (.lcsArm w) s = .next (s.raise LCS_STAT_ARMED) := by
  obtain ⟨hkey, hret⟩ := h
  simp [exec, execLcsArm, State.lcsArm, hkey, hret]

theorem exec_lcsArm_ignored {w : Nat} (h : bitsAt w 16 16 ≠ 0x52E7) : exec (.lcsArm w) s = .next s := by
  simp [exec, execLcsArm, State.lcsArm, h]

/-! ### The end of a SCRAP (R387) -/

theorem mem_scrapWords {w : Nat} (h : (3 ≤ w ∧ w < 7) ∨ (64 ≤ w ∧ w < 128)) : w ∈ scrapWords := by
  unfold scrapWords
  obtain ⟨hlo, hhi⟩ | ⟨hlo, hhi⟩ := h
  · exact List.mem_append_left _ (List.mem_map.2 ⟨w - 3, List.mem_range.2 (by omega), by omega⟩)
  · exact List.mem_append_right _ (List.mem_map.2 ⟨w - 64, List.mem_range.2 (by omega), by omega⟩)

/-- A word that holds every bit keeps them. -/
theorem OtpGrows.ones {t : State} (h : OtpGrows s t) {w : Nat} (hw : otpRaw s w = 0xFFFFFFFFFFFFFFFF) : otpRaw t w = 0xFFFFFFFFFFFFFFFF := by
  have hones : (0xFFFFFFFFFFFFFFFF : BitVec 64) = BitVec.allOnes 64 := by decide
  have hand := h w
  rw [hw, hones, BitVec.allOnes_and] at hand
  rw [hand, hones]

/-- One word is programmed to all ones and reads ZEROISED. -/
def State.wordBurnt (s : State) (w : Nat) : State :=
  let s := s.otpProgram w 0xFFFFFFFFFFFFFFFF
  { s with otp := { s.otp with zeroised := s.otp.zeroised.filter (· ≠ w) ++ [w] } }

theorem burnWords_eq (s : State) (ws : List Nat) : s.burnWords ws = s.each ws State.wordBurnt := rfl

theorem wordBurnt_grows (s : State) (w : Nat) : OtpGrows s (s.wordBurnt w) := burnWords_grows s [w]

theorem ones_wordBurnt (s : State) (w : Nat) : otpRaw (s.wordBurnt w) w = 0xFFFFFFFFFFFFFFFF := by
  have hones : (0xFFFFFFFFFFFFFFFF : BitVec 64) = BitVec.allOnes 64 := by decide
  show otpRaw (s.otpProgram w 0xFFFFFFFFFFFFFFFF) w = _
  rw [otpRaw_otpProgram, if_pos rfl, hones]
  exact BitVec.or_allOnes

theorem ones_burnWords (s : State) {w : Nat} {ws : List Nat} (h : w ∈ ws) : otpRaw (s.burnWords ws) w = 0xFFFFFFFFFFFFFFFF := by
  rw [burnWords_eq]
  exact State.each_establishes (I := fun _ => True) (P := fun u => otpRaw u w = 0xFFFFFFFFFFFFFFFF) (fun _ _ _ _ => trivial)
    (fun u _ => ones_wordBurnt u w) (fun u hu b _ _ => (wordBurnt_grows u b).ones hu) trivial (.inl h)

/-- The words of a SCRAP are burnt, and the device resets. -/
theorem exec_scrapWipeDone (h : s.lcs.scrap = 2) (testen : Bool) :
    exec (.scrapWipeDone testen) s = .next (((s.modLcs fun l => { l with scrap := 0 }).burnWords scrapWords).resetNow 0 testen) := by
  simp only [exec, execScrapWipeDone, h, if_true]

theorem scrapWipeDone_shows (h : s.lcs.scrap = 2) (testen : Bool) : ∃ t, exec (.scrapWipeDone testen) s = .next t ∧ t.tcm = [] ∧ t.chans = []
    ∧ t.keys = State.reset.keys ∧ ∀ w, (3 ≤ w ∧ w < 7) ∨ (64 ≤ w ∧ w < 128) → otpRaw t w = 0xFFFFFFFFFFFFFFFF := by
  obtain ⟨-, -, -, htcm, hkeys, -, hchans, -⟩ := resetNow_after ((s.modLcs fun l => { l with scrap := 0 }).burnWords scrapWords) 0 testen
  exact ⟨_, exec_scrapWipeDone h testen, htcm, hchans, hkeys, fun w hw => (resetNow_grows _ 0 testen).ones (ones_burnWords _ (mem_scrapWords hw))⟩

/-! ### Debug token and nonce (R390, R392) -/

theorem tokenLen_shows (u : State) {n : Nat} (h : n < 2 ^ 14) : rf (u.setF DEBUG_STAT_TOKEN_LEN n) DEBUG_STAT_TOKEN_LEN = n :=
  (rf_setF_same _ _ _ (by decide)).trans (Nat.mod_eq_of_lt h)

theorem tokenLoad_shows (s : State) (tok : List Byte) : ∃ t, exec (.tokenLoad tok) s = .next t
    ∧ t.lcs = { s.lcs with token := tok.take 8192, tap := .tokenLoad } ∧ rf t DEBUG_STAT_TOKEN_LEN = min tok.length 8192 := by
  have hlen : (tok.take 8192).length = min tok.length 8192 := by rw [List.length_take, Nat.min_comm]
  exact ⟨_, rfl, rfl, (tokenLen_shows _ (by rw [hlen]; omega)).trans hlen⟩

/-- The nonce of an item is shown. -/
def State.nonceShown (s : State) (it : List Byte) : State :=
  (((s.setReg DEBUG_NONCE_LO (BitVec.ofNat 32 (fieldAt it 0 4))).setReg DEBUG_NONCE_HI (BitVec.ofNat 32 (fieldAt it 4 4))).raise
    DEBUG_STAT_NONCE_VALID).ret (.code .ok)

theorem exec_nonceReq_drawn {it : List Byte} {u : State} (h : s.takeItem = (.ok it, u)) : exec (.nonceReq true) s = .next (u.nonceShown it) := by
  simp only [exec, execNonceReq, h, Bool.not_true, Bool.false_eq_true, if_false, State.nonceShown]

theorem exec_nonceReq_none {e : Code} {u : State} (h : s.takeItem = (.error e, u)) : exec (.nonceReq true) s = .next (u.ret (.code e)) := by
  simp only [exec, execNonceReq, h, Bool.not_true, Bool.false_eq_true, if_false]

theorem nonceShown_shows (u : State) (it : List Byte) : (u.nonceShown it).out = .code .ok ∧ rb (u.nonceShown it) DEBUG_STAT_NONCE_VALID = true
    ∧ reg (u.nonceShown it) DEBUG_NONCE_LO = BitVec.ofNat 32 (fieldAt it 0 4)
    ∧ reg (u.nonceShown it) DEBUG_NONCE_HI = BitVec.ofNat 32 (fieldAt it 4 4) := by
  have hreg (v : State) (o : Out) {a : Nat} (ha : DEBUG_STAT ≠ a) : reg ((v.raise DEBUG_STAT_NONCE_VALID).ret o) a = reg v a :=
    reg_setF_ne v DEBUG_STAT_NONCE_VALID 1 a ha
  refine ⟨rfl, ?_, ?_, ?_⟩
  · rw [State.nonceShown, rb_ret]
    exact rb_raise_same _ rfl (by decide)
  · rw [State.nonceShown, hreg _ _ (by decide), reg_setReg_ne _ _ _ _ (by decide), reg_setReg_same]
  · rw [State.nonceShown, hreg _ _ (by decide), reg_setReg_same]

/-! ### Halts (R388, R394) -/

theorem dbgGrants_halt (s : State) : dbgGrants s .halt = decide (2 ≤ rf s DEBUG_STAT_LEVEL) := Bool.and_true _

theorem exec_haltReq_waits (h : 2 ≤ rf s DEBUG_STAT_LEVEL) (ha : s.usec < s.atomicUntil) :
    exec (.haltReq true) s = .next { s with lcs := { s.lcs with haltReq := true } } := by
  simp [exec, execHaltReq, dbgGrants_halt, h, atomicOpen, ha, State.modLcs]

theorem exec_haltReq_halts (h : 2 ≤ rf s DEBUG_STAT_LEVEL) (ha : s.atomicUntil ≤ s.usec) : exec (.haltReq true) s = .next s.haltBv := by
  have hopen : ¬ s.usec < s.atomicUntil := Nat.not_lt.2 ha
  simp [exec, execHaltReq, dbgGrants_halt, h, atomicOpen, hopen]

theorem exec_haltReq_ignored (h : rf s DEBUG_STAT_LEVEL < 2) : exec (.haltReq true) s = .next s := by
  have hlevel : ¬ 2 ≤ rf s DEBUG_STAT_LEVEL := Nat.not_le.2 h
  simp [exec, execHaltReq, dbgGrants_halt, hlevel]

theorem exec_halt (h : s.lcs.haltReq = true) : exec .halt s = .next s.haltBv := by simp [exec, execHalt, h]

theorem haltBv_shows (s : State) : rb s.haltBv DEBUG_STAT_HALTED = true ∧ s.haltBv.lcs.haltReq = false ∧ s.haltBv.boot.wdtEnd = none
    ∧ s.haltBv.tcm = s.tcm ∧ ∀ e, s.boot.wdtEnd = some e → s.haltBv.boot.wdtLeft = max 1 (e - s.usec) := by
  refine ⟨rb_raise_same _ rfl (by decide), rfl, rfl, rfl, fun e he => ?_⟩
  show (match s.boot.wdtEnd with | some e => max 1 (e - s.usec) | none => s.boot.wdtLeft) = _
  rw [he]

/-- The watchdog counts on from what was left of it. -/
def State.wdtResumed (s : State) : State :=
  s.when (s.boot.wdtLeft ≠ 0) (·.modBoot fun b => { b with wdtEnd := some (s.usec + b.wdtLeft), wdtLeft := 0 })

theorem exec_belvedereResume (h : rb s DEBUG_STAT_HALTED = true) :
    exec .belvedereResume s = .next (s.wdtResumed.setF DEBUG_STAT_HALTED 0) := by
  simp only [exec, execBelvedereResume, h, Bool.not_true, Bool.false_eq_true, if_false]
  rfl

theorem wdtResumed_end (h : s.boot.wdtLeft ≠ 0) : s.wdtResumed.boot.wdtEnd = some (s.usec + s.boot.wdtLeft) := by
  rw [State.wdtResumed, State.when, if_pos (decide_eq_true h)]
  rfl

/-! ### Scan (R388, R390) -/

theorem dbgGrants_scan (s : State) : dbgGrants s .scan = decide (3 ≤ rf s DEBUG_STAT_LEVEL) := Bool.and_true _

theorem exec_scanEntry_granted (h : rf s DEBUG_STAT_LEVEL = 3) :
    exec .scanEntry s = .next ((s.zeroSrams.modLcs fun l => { l with tap := .scan }).raise DEBUG_STAT_SCAN) := by
  simp [exec, execScanEntry, dbgGrants_scan, h]

theorem exec_scanEntry_ignored (h : rf s DEBUG_STAT_LEVEL ≠ 3) : exec .scanEntry s = .next s := by
  have hlt : rf s DEBUG_STAT_LEVEL < 2 ^ 2 := rf_lt s DEBUG_STAT_LEVEL
  have hlevel : ¬ 3 ≤ rf s DEBUG_STAT_LEVEL := by omega
  simp [exec, execScanEntry, dbgGrants_scan, hlevel]

/-- Past TCM, the clearing of the SRAMs leaves a part of the state that holds no register, mailbox, plane, channel, engine or key. -/
theorem zeroSrams_keeps {β : Type} (g : State → β) (hr : ∀ u p, g (State.resetRegs u p) = g u) (hk : ∀ u k, g { u with kiosk := k } = g u)
    (ho : ∀ u o c, g { u with orang := o, chans := c } = g u) (he : ∀ u e, g { u with eng := e } = g u)
    (hy : ∀ u k, g { u with keys := k } = g u) (hf : ∀ u f v, g (State.setF u f v) = g u) (s : State) : g s.zeroSrams = g s.zeroTcm := by
  have hmail (u : State) : g u.zeroMail = g u := (State.each_keeps g _ _ (fun v _ => hr v _) _).trans (hk u _)
  have hhot (u : State) : g u.zeroHot = g u := (ho _ _ _).trans (ho u _ _)
  have hwk (u : State) (e : Nat) : g (u.setWk e none) = g u := (hf _ _ _).trans ((hf _ _ _).trans (hy u _))
  have hkeys (u : State) : g u.zeroKeys = g u := (hy _ _).trans (State.each_keeps g _ _ hwk u)
  exact (hkeys _).trans ((he _ _).trans ((ho _ _ _).trans ((hhot _).trans (hmail _))))

theorem scanEntry_shows (s : State) : let t := (s.zeroSrams.modLcs fun l => { l with tap := .scan }).raise DEBUG_STAT_SCAN
    rb t DEBUG_STAT_SCAN = true ∧ t.tcm = [] ∧ t.keys.slots = [] ∧ t.keys.l0 = [] ∧ t.otp = s.otp ∧ t.lodge = s.lodge := by
  have htcm := zeroSrams_keeps State.tcm (fun _ _ => rfl) (fun _ _ => rfl) (fun _ _ _ => rfl) (fun _ _ => rfl) (fun _ _ => rfl) (fun _ _ _ => rfl) s
  have hlodge :=
    zeroSrams_keeps State.lodge (fun _ _ => rfl) (fun _ _ => rfl) (fun _ _ _ => rfl) (fun _ _ => rfl) (fun _ _ => rfl) (fun _ _ _ => rfl) s
  refine ⟨rb_raise_same _ rfl (by decide), ?_, rfl, rfl, ?_, ?_⟩
  · rw [State.raise_tcm, State.modLcs_tcm, htcm]
    rfl
  · rw [State.raise_otp, State.modLcs_otp, State.zeroSrams_otp]
  · rw [State.raise_lodge, State.modLcs_lodge, hlodge]
    rfl

/-! ### Resets while a SCRAP wipes (R387) -/

theorem forceReset_scrap (h : s.lcs.scrap ≠ 0) (c : Nat) (testen : Bool) : s.forceReset c testen = s.deferReset c := if_pos h

theorem askReset_scrap (h : s.lcs.scrap ≠ 0) (c : Nat) (testen : Bool) : s.askReset c testen = s.deferReset c := by
  rw [State.askReset, forceReset_scrap h, ite_self]

theorem exec_scanExit (h : rb s DEBUG_STAT_SCAN = true) (testen : Bool) : exec (.scanExit testen) s = .next (s.forceReset 0 testen) := by
  simp only [exec, execScanExit, h, if_true]

theorem exec_sysRstNAssert_asks (hl : sybLive s = true) (hi : rb s SYSCTL_RSTCAUSE_PIN_IGNORED = false) (hm : mode s ≠ moDORMANT) :
    exec .sysRstNAssert s = .next ((s.modBoot fun b => { b with pinLow := true }).askReset rcPIN false) := by
  have hignored : (rb (s.modBoot fun b => { b with pinLow := true }) SYSCTL_RSTCAUSE_PIN_IGNORED
      || decide (mode (s.modBoot fun b => { b with pinLow := true }) = moDORMANT)) = false := by
    rw [rb_modBoot, hi, Bool.false_or]
    exact decide_eq_false hm
  simp only [exec, execSysRstNAssert, hl, hignored, Bool.not_true, Bool.false_eq_true, if_false]

theorem exec_devReset_asks {w : Nat} (hk : bootKeyOk w = true) (hw : w.testBit 0 = true) (testen : Bool) :
    exec (.devReset w testen) s = .next (s.askReset rcSWDEV testen) := by
  simp only [exec, execDevReset, hk, hw, Bool.not_true, Bool.false_eq_true, if_false, if_true]

/-! ### O51 -/

/-- A life-cycle request of each command. -/
theorem lcs_request_shows {k : Nat} {c : Instr} {dbg : Bool} (s : State)
    (h : (k, c) ∈ [(1, Instr.lcsToFactory dbg), (2, .lcsToOwned dbg), (3, .lcsToReturned dbg), (4, .lcsToScrap dbg)]) :
    (dbg = true → (lcState s ≠ lcBLANK ∨ rf s DEBUG_STAT_LEVEL ≠ 3) → ∃ t, exec c s = .next t ∧ t.lcs = s.lcs ∧ t.otp = s.otp
        ∧ rb t LCS_EVT_REFUSED = true ∧ reg t LCS_REQ_STAT = reg s LCS_REQ_STAT)
      ∧ ((dbg = true → lcState s = lcBLANK ∧ rf s DEBUG_STAT_LEVEL = 3) →
        (∀ e, lcsCode s k dbg = some e → ∃ t, exec c s = .next t ∧ t.lcs = s.lcs ∧ t.otp = s.otp ∧ rf t LCS_REQ_STAT_LAST_TARGET = k
          ∧ rf t LCS_REQ_STAT_LAST_STATUS = e.val ∧ rb t LCS_EVT_REFUSED = true ∧ t.gate = s.gate)
        ∧ (lcsCode s k dbg = none → ∃ t, exec c s = .next t ∧ t.lcs.target = some (max k (s.lcs.target.getD 0))
          ∧ rb t LCS_STAT_PENDING = true ∧ rb t LCS_STAT_ARMED = false ∧ rb t LCS_REQ_STAT_BUSY = true ∧ rf t LCS_REQ_STAT_LAST_TARGET = k
          ∧ rf t LCS_REQ_STAT_LAST_STATUS = 0 ∧ rb t LCS_EVT_ACCEPTED = true ∧ t.otp = s.otp
          ∧ (k = 3 → vaultRead t 256 3840 = List.replicate 3840 0)
          ∧ (k = 4 → t.lcs.scrap = 1 ∧ t.orang.keys = [] ∧ fieldAt (vaultRead t 0 1) 0 1 = 0x5A ∧ (modeRun s = true → lockdown t = true)))) := by
  obtain ⟨hexec, hk⟩ := exec_lcs_request h s
  refine ⟨fun hd hi => ?_, fun hd => ⟨fun e he => ?_, fun he => ?_⟩⟩
  · subst hd
    exact ⟨_, hexec.trans (congrArg _ (lcsRequest_ignored hi)), lcsIgnored_shows s⟩
  · have hreq := lcsRequest_judged (k := k) hd
    rw [he] at hreq
    exact ⟨_, hexec.trans (congrArg _ hreq), lcsDecided_refused s hk (lcsCode_ne_ok he)⟩
  · have hreq := lcsRequest_judged (k := k) hd
    rw [he] at hreq
    obtain ⟨hlatch, hvault, hscrap⟩ := lcsAccept_shows s hk
    exact ⟨_, hexec.trans (congrArg _ hreq), hlatch.target, hlatch.pending, hlatch.armed, hlatch.busy, hlatch.lastTarget, hlatch.lastStatus,
      hlatch.accepted, State.lcsAccept_otp s k, hvault, hscrap⟩

/-- Settles O51: requests by the table of R384, the wipe of a SCRAP by what it leaves calm, and the resets that wait for it. -/
theorem lifeCycleAndDebugAct : Obligations.LifeCycleAndDebugAct := by
  intro s dbg testen
  refine ⟨fun k c h => lcs_request_shows s h, fun hl hs ht hp => (LcSettled.mk hl hs ht hp).table, fun k hk => ?_,
    fun w => ⟨fun hw => ?_, exec_lcsArm_ignored⟩, ?_, fun hs _ => scrapWipeDone_shows hs testen, tokenLoad_shows s, ?_, ⟨rfl, rfl⟩,
    fun it u hu => ?_, fun e u hu => exec_nonceReq_none hu, fun hlevel => ⟨exec_haltReq_waits hlevel, fun ha => ?_⟩, exec_haltReq_ignored,
    fun hh => ?_, fun hh => ?_, fun hlevel => ?_, exec_scanEntry_ignored, fun hs => ⟨fun hscan => ?_, fun hl hi hm => ?_, fun w hk hw => ?_⟩,
    fun hscan hs _ => ?_⟩
  · exact ⟨_, exec_lcsProgrammed hk, lcsProgrammed_shows s k⟩
  · exact ⟨_, exec_lcsArm_armed hw, rb_raise_same _ rfl (by decide), rfl⟩
  · exact ⟨_, rfl, rb_setF_zero _ (by decide), rfl, rf_setF_ne _ _ _ _ (by decide)⟩
  · exact ⟨_, rfl, rfl, tokenLen_shows _ (by decide)⟩
  · exact ⟨_, exec_nonceReq_drawn hu, nonceShown_shows u it⟩
  · obtain ⟨hhalted, -, hend, htcm, hleft⟩ := haltBv_shows s
    exact ⟨_, exec_haltReq_halts hlevel ha, hhalted, hend, htcm, hleft⟩
  · obtain ⟨hhalted, hreq, -⟩ := haltBv_shows s
    exact ⟨_, exec_halt hh, hhalted, hreq⟩
  · exact ⟨_, exec_belvedereResume hh, rb_setF_zero _ (by decide), wdtResumed_end⟩
  · exact ⟨_, exec_scanEntry_granted hlevel, scanEntry_shows s⟩
  · exact (exec_scanExit hscan testen).trans (congrArg _ (forceReset_scrap hs 0 testen))
  · exact (exec_sysRstNAssert_asks hl hi hm).trans (congrArg _ (askReset_scrap (s := s.modBoot _) hs rcPIN false))
  · exact (exec_devReset_asks hk hw testen).trans (congrArg _ (askReset_scrap hs rcSWDEV testen))
  · have hforce : s.forceReset 0 testen = s.resetNow 0 testen := if_neg (not_not.2 hs)
    exact ⟨_, (exec_scanExit hscan testen).trans (congrArg _ hforce), resetNow_after s 0 testen⟩

end Sys2Proof.Machine
end

section
/-! A debugger's write of a word (R388, R390). -/

namespace Sys2Proof.Machine

theorem dbgWrites_of_low {s : State} (a : Nat) (h : rf s DEBUG_STAT_LEVEL < 2) : dbgWrites s a = false := by
  have hlow : ¬ 2 ≤ dbgLevel s := Nat.not_le.2 h
  simp [dbgWrites, dbgGrants, grantLevel, hlow]

theorem dbgWrites_lifeCycle {s : State} {a : Nat} (hlo : 0x40010000 ≤ a) (hhi : a < 0x40030000) : dbgWrites s a = false := by
  simp [dbgWrites, hlo, hhi]

theorem dbgWrites_bootCtl (s : State) : dbgWrites s SYSCTL_BOOT_CTL = false := by simp [dbgWrites]

/-- From L2 on every address is writable but the LCS and KEYS blocks, SYSCTL_BOOT_CTL and the watchdog's service. -/
theorem dbgWrites_granted {s : State} {a : Nat} (hl : 2 ≤ rf s DEBUG_STAT_LEVEL) (ha : a < 0x40010000 ∨ 0x40030000 ≤ a)
    (hb : a ≠ SYSCTL_BOOT_CTL) (hk : a ≠ SYSCTL_WDT_KICK) : dbgWrites s a = true := by
  have hlevel : 2 ≤ dbgLevel s := hl
  have hout : ¬ (0x40010000 ≤ a ∧ a < 0x40030000) := by omega
  simp only [dbgWrites, dbgGrants, grantLevel, hlevel, hb, hk, ne_eq, reduceCtorEq, not_false_eq_true, decide_true, Bool.true_or,
    Bool.and_true, Bool.true_and, Bool.not_eq_true', ← Bool.decide_and, decide_eq_false hout]

/-- A write that the level does not grant has no effect. -/
theorem exec_debugWrite_ungranted {s : State} {a : Nat} (v : Nat) (hf : accessFault a 4 true = false) (hb : inBar a = false)
    (hl : a ≠ LCS_REQUEST) (hg : dbgWrites s a = false) : exec (.debugWrite a v) s = .next s := by
  simp [exec, execDebugWrite, hf, hb, hl, hg]

theorem exec_debugWrite_tcm {s : State} {a : Nat} (v : Nat) (hs : asleep s = false) (hf : accessFault a 4 true = false) (hb : inBar a = false)
    (hl : a ≠ LCS_REQUEST) (hg : dbgWrites s a = true) (ht : inTcm a 4 = true) (hx : inXo s a = false) :
    exec (.debugWrite a v) s = .next (s.tcmWrite a (leBytes 4 v)) := by
  simp [exec, execDebugWrite, hs, hf, hb, hl, hg, ht, hx]

/-- Settles O6: which writes the level grants (`dbgWrites_granted` and its converses), and what each does. -/
theorem debugWriteByLevel : Obligations.DebugWriteByLevel := by
  intro s a v hf hb hl
  refine ⟨fun h => exec_debugWrite_ungranted v hf hb hl (dbgWrites_of_low a h),
    fun hlo hhi => exec_debugWrite_ungranted v hf hb hl (dbgWrites_lifeCycle hlo hhi),
    exec_debugWrite_ungranted v (by decide) (by decide) (by decide) (dbgWrites_bootCtl s), fun hs hlev ht hx => ?tcm,
    fun hs hlev hin ha hboot hkick => ?register⟩
  case tcm =>
    have hbounds := inTcm_bounds ht
    have hg : dbgWrites s a = true :=
      dbgWrites_granted hlev (by omega) (by simp only [SYSCTL_BOOT_CTL]; omega) (by simp only [SYSCTL_WDT_KICK]; omega)
    exact exec_debugWrite_tcm v hs hf hb hl hg ht hx
  case register => exact exec_debugWrite_register hs v hf hb hl (dbgWrites_granted hlev ha hboot hkick) (inTcm_of_inBlocks hin)

end Sys2Proof.Machine
end

section
/-! Three statements that range over states which the machine never reaches, and fail there (R259, R342, R345, R372, R416). -/

namespace Sys2Proof.Machine

/-! ### A turn of the Kiosk's queue beyond TN 511 (R345, R416) -/

/-- The turn stands at a TN that no tenant has, and a request is pending under it. -/
def turnBeyondTenants : State :=
  State.reset.modKiosk fun k => { k with lastTn := 512, credit := 1, boxes := [(512, { Box.init with phase := 1 })] }

theorem turnBeyondTenants_takes : nextTaken turnBeyondTenants = some 512 := by decide +kernel

/-- Refutes O44: its clause on KIOSK_TAKE asks that KIOSK_SEL.TN read as the tenant taken, in every state. In `turnBeyondTenants` the tenant
taken again in its turn (R416) is number 512, which the nine bits of KIOSK_SEL.TN cannot hold. -/
theorem not_kioskServesTenants : ¬ Obligations.KioskServesTenants := by
  intro h
  obtain ⟨-, -, -, -, -, -, -, htake, -⟩ := h turnBeyondTenants ⟨0, 0, 0⟩ 0 0 0 0 (by decide)
  obtain ⟨t, -, -, -, hsel, -⟩ := htake 512 turnBeyondTenants_takes
  have hbound : rf t KIOSK_SEL_TN < 2 ^ 9 := rf_lt t KIOSK_SEL_TN
  omega

/-! ### A device whose status register is FBUS_UPD_STAT (R253, R372) -/

/-- The device number at which the row of FBUS_DEVd_STAT would reach FBUS_UPD_STAT. -/
def devAtUpdStat : Nat := 387

theorem devAtUpdStat_stat : FBUS_DEV_STAT devAtUpdStat = FBUS_UPD_STAT := by decide

/-- SERVE, with VBAT present and an update operation found running on device `devAtUpdStat`. -/
def updatingBeyondDevices : State :=
  let s := (State.reset.setF SYSCTL_MODE_MODE moSERVE).setF LODGE_STAT_VBAT_OK 1
  { s with fbus := { s.fbus with devs := [(devAtUpdStat, { DevX.init with other := 3 })] } }

/-- A write job that ABORT has marked, with that device in hand. -/
def jobBeyondDevices : UpdJob := { op := 1, comp := 0, handle := 0, aborted := true, devs := [devAtUpdStat] }

theorem updatingBeyondDevices_accepts :
    updBusy updatingBeyondDevices = false ∧ updState updatingBeyondDevices 0xFFFF = false
      ∧ rb updatingBeyondDevices FBUS_UPD_STAT_OWNER_LOCK = false ∧ updatingBeyondDevices.upd.svn = none
      ∧ updServed { updatingBeyondDevices with upd := { updatingBeyondDevices.upd with job := some jobBeyondDevices } } jobBeyondDevices = true := by
  decide +kernel

/-- Where no BUSY_RETRY was given, no request is early (R14). -/
theorem early_of_no_retries {s : State} (h : s.retries = []) (key : Nat) : early s key = false := by
  simp [early, retryLeft, h]

theorem updatingBeyondDevices_retries : updatingBeyondDevices.retries = [] := by decide +kernel

/-- WRITTEN after the job's end: 16,384 units put BUSY into the top bits, which the device's release turns to READY. -/
theorem updJobDone_beyondDevices :
    (match execUpdJobDone 16384 none none { updatingBeyondDevices with upd := { updatingBeyondDevices.upd with job := some jobBeyondDevices } } with
      | .next t => rf t FBUS_UPD_STAT_WRITTEN
      | _ => 16384) = 8192 := by decide +kernel

/-- Refutes O50: its clause on the end of a write job asks that WRITTEN read as the units written, whatever devices the job names. In
`updatingBeyondDevices` the job's device shows its state at FBUS_UPD_STAT, so that its release rewrites the top bits of WRITTEN. -/
theorem not_updateJobsRun : ¬ Obligations.UpdateJobsRun := by
  intro h
  obtain ⟨hbusy, hstate, hlock, hsvn, hserved⟩ := updatingBeyondDevices_accepts
  obtain ⟨-, -, -, -, -, -, -, -, -, -, -, hend, -, -⟩ :=
    h updatingBeyondDevices 0 0 16384 none none hbusy hstate hlock fun _ => early_of_no_retries updatingBeyondDevices_retries _
  obtain ⟨-, -, hdone⟩ := hend jobBeyondDevices hsvn (.inl rfl)
  obtain ⟨t, hexec, -, -, -, -, -, hwritten, -⟩ := hdone hserved
  have heq : execUpdJobDone 16384 none none { updatingBeyondDevices with upd := { updatingBeyondDevices.upd with job := some jobBeyondDevices } } = .next t := hexec
  have hval := updJobDone_beyondDevices
  rw [heq] at hval
  exact absurd (hval.symm.trans hwritten) (by decide)

/-! ### A domain whose status register is TN_STAT (R342, R343) -/

/-- The domain number at which the row of GATE_DOMn_STAT would reach TN_STAT of tenant 0. -/
def domAtTnStat : Nat := 402571234

theorem domAtTnStat_stat : GATE_DOM_STAT domAtTnStat = TN_STAT 0 := by decide

/-- Tenant 0 of domain 0, by MCTP from EID 0x11 on port 8, with PERM STATE, CONTROL and SERVICE. -/
def tenantOfDom0 : Tbe := ⟨0, 4, 8, 0x11, 0, 7, 0⟩

/-- SERVE with domain 0 RELEASED, tenant 0 bound to it, and domain `domAtTnStat` passed: it reads as VERIFYING while REQ_FULL is set. -/
def domainBeyondTable : State :=
  let s := State.reset.modBoot fun b =>
    { b with stage := .firmware, cfg := { b.cfg with doms := [soleDomain, { soleDomain with id := domAtTnStat }] } }
  let s := (s.setF SYSCTL_MODE_MODE moSERVE).setF (GATE_DOM_STAT_STATE 0) stRELEASED
  (s.setDomX domAtTnStat { DomX.init with passed := true }).modKiosk fun k => { k with tbt := [tenantOfDom0] }

theorem domainBeyondTable_accepts :
    mctpTenant domainBeyondTable ⟨8, 0x11⟩ = some tenantOfDom0 ∧ mode domainBeyondTable ≠ moASSEMBLY ∧ tenantOfDom0.permService = true
      ∧ lockdown domainBeyondTable = false ∧ bound domainBeyondTable ⟨4, 8, 0x11⟩ 0 = some tenantOfDom0
      ∧ rb domainBeyondTable (TN_STAT_REQ_FULL 0) = false ∧ rb domainBeyondTable (TN_STAT_RSP_FULL 0) = false
      ∧ kioskCode (domainBeyondTable.setF (TN_GEN_GEN 0) 1) tenantOfDom0 kopHOLD 0 1 false = none := by decide +kernel

/-- The accepted HOLD settles the domains: `domAtTnStat` is released, which sets RSP_FULL, and no reply is placed. -/
theorem vendorKiosk_beyondTable :
    (domainBeyondTable.vendorKioskMsg ⟨8, 0x11⟩ 0 (reqWord kopHOLD 0 0) 1).out = .none := by decide +kernel

/-- Refutes O47: its clause on an accepted HOLD asks for a reply at once, whatever domains the table lists. In `domainBeyondTable` a domain shows its
state at TN_STAT of the tenant, so that its release by the HOLD sets RSP_FULL and the reply waits (R342). -/
theorem not_vendorAndOwnerRequests : ¬ Obligations.VendorAndOwnerRequests := by
  intro h
  obtain ⟨hten, hmode, hperm, hlock, hbound, hreq, hrsp, hcode⟩ := domainBeyondTable_accepts
  obtain ⟨-, hbnd, -⟩ := h domainBeyondTable ⟨8, 0x11⟩ 0 (reqWord kopHOLD 0 0) 1 []
  obtain ⟨-, hserved, -, -⟩ := hbnd tenantOfDom0 hten hmode
  obtain ⟨-, -, -, -, -, haccepted⟩ := hserved hperm
  obtain ⟨-, hholds, -⟩ := haccepted tenantOfDom0 hlock rfl (by decide) (by decide) hbound hreq hrsp hcode
  obtain ⟨v, hexec, -, -, hout⟩ := hholds (.inl (by decide))
  obtain rfl := Host.Outcome.next.inj hexec
  rw [vendorKiosk_beyondTable] at hout
  exact absurd hout (by simp)

end Sys2Proof.Machine
end
